-- ==== Sys2Proof/Word.lean ====
section
/-! DEFINITION. The words of the machine: the 32-bit register word, the byte, and the constants of its time scale. -/

namespace Sys2Proof

/-- A register word: every register of every page is 32 bits wide (R51). -/
abbrev Word := BitVec 32

/-- A byte of a frame, a window or a memory. -/
abbrev Byte := BitVec 8

/-- The harbour counter holds 40 bits below the nanosecond (R420): harbour times are held in units of 2⁻⁴⁰ ns. -/
def nsUnit : Nat := 2 ^ 40

/-- Nanoseconds in a second. -/
def nsPerS : Nat := 1000000000

/-- A stroke is 8.000 µs (R9), in nanoseconds. -/
def strokeNs : Nat := 8000

/-- A stroke in harbour units. -/
def strokeUnits : Nat := strokeNs * nsUnit

/-- A slot position is 8 ns (R9), in harbour units. -/
def slotUnits : Nat := 8 * nsUnit

end Sys2Proof
end

