-- ==== Sys2Proof/Types.lean ====
section
/-! DEFINITION. The data that travels through the block: frames, descriptors, decision records, queue entries and the
operands with which the outside world's events arrive. -/

namespace Sys2Proof

/-- The two masters that reach the pages (R47). -/
inductive Master where
  | host | mgp
  deriving DecidableEq, Repr

/-- An ingress descriptor: words 0–3 of Table 4-2. `stamp` is the receive stamp in units of 2⁻¹⁶ ns. -/
structure Desc where
  cell : Nat
  len : Nat
  src : Nat
  rxq : Nat := 0
  medium : Nat
  recirc : Bool := false
  pass : Nat := 0
  bad : Bool := false
  cut : Bool := false
  hint : Nat := 0
  authOk : Bool := false
  hintValid : Bool := false
  stamp : Nat := 0
  hdr : BitVec 128 := 0
  /-- Of a continuation from IQ3: the freshness value of its job, and the ingress port of the job's frame (R490, R495). -/
  fv : Nat := 0
  origin : Nat := 0
  deriving DecidableEq, Repr

/-- A decision record: the descriptor and words 4–7 of Table 4-2. `ports` has bit q for quay Qq, `iq` bit k for IQk. -/
structure Rec where
  d : Desc
  berthValid : Bool := false
  queue : Nat := 0
  berth : Nat := 0
  sched : Bool := false
  vbr : Bool := false
  tagOp : Nat := 0
  newVid : Nat := 0
  newPcp : Nat := 0
  reason : Nat := 0
  drop : Nat := 0
  stroke : Nat := 0
  claim : Nat := 0
  check : Nat := 0
  seq : Nat := 0
  ports : Nat := 0
  iq : Nat := 0
  /-- The job word that travels with a record bound for IQ3: the freshness value of R257 and R258. -/
  fv : Nat := 0
  deriving DecidableEq, Repr

/-- A gap marker (R237, R238). `time` is the harbour time of the first drop, in units of 2⁻¹⁶ ns. -/
structure Gap where
  count : Nat
  split : Bool := false
  sat : Bool := false
  time : Nat := 0
  deriving DecidableEq, Repr

/-- An egress time-stamp queue entry or a synchronisation stamp queue entry (Table 12-6): `fb` for a stamp taken on the fallback
path, `rx` for a received frame, `mb` for a message buffer. -/
structure StampEntry where
  stamp : Nat
  fb : Bool := false
  rx : Bool := false
  mb : Bool := false
  index : Nat := 0
  queue : Nat := 0
  ref : Nat := 0
  deriving DecidableEq, Repr

/-- A CAN frame: the fields of Table 9-3. `format` is 0 for CC, 1 for FD, 2 for XL; `flags` is the FLAGS byte. -/
structure CanFrame where
  ident : Nat
  ide : Bool := false
  format : Nat := 0
  flags : Nat := 0
  dataLen : Nat := 0
  sdt : Nat := 0
  vcid : Nat := 0
  af : Nat := 0
  data : List Nat := []
  deriving DecidableEq, Repr

/-- A request to the learning engine (R290). -/
structure LearnReq where
  da : Nat
  vid : Nat
  quay : Nat
  stamp : Nat
  deriving DecidableEq, Repr

/-- An error as it reaches the supervisor (R639): page, code, detail and level. -/
structure ErrReport where
  page : Nat
  code : Nat
  detail : Nat
  level : Nat
  deriving DecidableEq, Repr

/-- An error that a unit's own checks detect: the number of the page that reports it, its code in that page's error table, and which word,
queue or source of the unit is concerned. -/
structure UnitErr where
  page : Nat
  code : Nat
  sel : Nat := 0
  deriving DecidableEq, Repr

/-- A failing cell that a bank slice finds: the cell, its first failing bit and how many bits fail (R663). -/
structure CellFail where
  cell : Nat
  bit : Nat
  bits : Nat
  deriving DecidableEq, Repr

/-- A DMA completion entry waiting in a ring pair's completion queue (Table 16-4). -/
structure CqEntry where
  rx : Bool
  first : Bool := true
  last : Bool := true
  bad : Bool := false
  zeroed : Bool := false
  fb : Bool := false
  status : Nat
  idx : Nat := 0
  tag : Nat := 0
  bytes : Nat := 0
  stamp : Nat := 0
  port : Nat := 64
  queue : Nat := 0
  berthValid : Bool := false
  berth : Nat := 0
  seq : Nat := 0
  len : Nat := 0
  deriving DecidableEq, Repr

/-- Who issued a read of host memory (R563): the transmit side of a ring pair, tide FETCH, or the host job of a cipher lane. -/
inductive ReadReq where
  | ring (pair : Nat)
  | fetch
  | cipher (lane : Nat)
  deriving DecidableEq, Repr

/-- What a host access addresses: BAR0, BAR2, or the function's configuration space. -/
inductive HostSpace where
  | bar0 | bar2 | config
  deriving DecidableEq, Repr

/-- A control queue of Table 6-3. -/
inductive CqId where
  | ingress (port : Nat)
  | iq2
  | txStamp (quay : Nat)
  | syncStamp (quay : Nat)
  | dma (pair : Nat)
  | learning
  | errorRecord
  deriving DecidableEq, Repr

/-- A control queue of Table 6-3. -/
inductive ControlQueue where
  /-- Ingress descriptor FIFO of a writer: quays 0–63, IQ0–IQ3 64–67. -/
  | ingress (w : Nat)
  /-- IQ2 intake queue. -/
  | jobs
  /-- Egress time-stamp queue of a quay, or its synchronisation stamp queue. -/
  | stamps (q : Nat) (sync : Bool)
  /-- DMA completion queue of a ring pair. -/
  | completions (p : Nat)
  /-- Learning queue. -/
  | learning
  /-- Error record queue. -/
  | errors
  deriving DecidableEq, Repr

/-- An item pushed into a control queue of Table 6-3. -/
inductive CqItem where
  | desc (w : Nat) (d : Desc) (mark : Bool)
  | record (r : Rec)
  | stamp (q : Nat) (sync : Bool) (e : StampEntry)
  | completion (p : Nat) (e : CqEntry)
  | learn (r : LearnReq)
  | error (e : ErrReport)
  deriving DecidableEq, Repr

/-- A holder of a frame (R212): its landing, a queue that holds it, or a consumer reading it. -/
inductive Holder where
  | landing
  | egress (quay queue : Nat)
  | berthQueue (berth : Nat)
  | inner (iq : Nat)
  | pdu (index : Nat)
  | reader (port : Nat)
  | rebuild (port : Nat)
  deriving DecidableEq, Repr

end Sys2Proof
end

