-- ==== Sys2Proof/Syntax.lean ====
section
/-! DEFINITION. The commands of the block: one constructor for each row of the opcode table: the commands with operands, then those
without, each in the table's order. An operand is what the outside gives the command: a quay, an index, a written value, a frame, a measured time. Stamps are harbour times in units
of 2⁻¹⁶ ns. -/

namespace Sys2Proof

/-- A command of the block. -/
inductive Instr where
  /-- REGISTER_WRITE (R56): A write to a register field that has no row of its own takes effect by its When class: staged, live or locked, or is ignored with STAGED_REJECT, LOCKED_WRITE_SEEN or a narrow-write count. -/
  | registerWrite (m : Master) (a : Nat) (v : Word) (narrow : Bool)
  /-- PG_COMMIT (R58): A PG_COMMIT write of 0xC0 is accepted when STAGED_PENDING is 0, which sets STAGED_PENDING. -/
  | pgCommit (pg : Nat)
  /-- PG_DISCARD (R63): A PG_COMMIT write of 0xD5 reloads the staging copy and cancels a pending commit if it is accepted at least 256 ns before the boundary. -/
  | pgDiscard (pg : Nat)
  /-- PG_COMMIT_BAD_KEY (R48): A PG_COMMIT write of an undefined value is ignored and sets BAD_KEY. -/
  | pgCommitBadKey (pg : Nat)
  /-- PG_CNT_CLR (R48): Writing PG_CTRL.CNT_CLR clears ERR_CNT and CORR_CNT of the page. -/
  | pgCntClr (pg : Nat)
  /-- CNT_CLR_ALL (R127): Writing 1 to a block's CNT_CLR.ALL clears every counter of that counter page. -/
  | cntClrAll (pg : Nat)
  /-- IRQ_EN_WRITE (R70): Writing an IRQ_EN bit to 1 while its condition source is 1 sets the IRQ_PEND bit. -/
  | irqEnWrite (pg : Nat) (v : Word)
  /-- IRQ_PEND_CLEAR (R72): A W1C write to IRQ_PEND clears bits and sends a further message if any bit stays set. -/
  | irqPendClear (pg : Nat) (v : Word)
  /-- IRQ_FORCE (R70): Writing IRQ_FORCE raises the corresponding source as an event. -/
  | irqForce (pg : Nat) (v : Word)
  /-- ERR_FIRST_CLEAR (R50): Clearing ERR_FIRST.VALID re-arms the capture of the first uncorrected error. -/
  | errFirstClear (pg : Nat)
  /-- ERR_INJECT_ARM (R49): Writing ERR_INJECT.ARM arms one injection of the given type at the given site. -/
  | errInjectArm (pg ty site : Nat)
  /-- ERROR_INJECTION (R49): The armed injection takes place at the next access to its site and is handled as a natural error of its type. -/
  | errorInjection (pg sel : Nat)
  /-- MB_LOCK_READ (R340): Reading word 0 of a CAN message buffer takes its lock and increments SEQ. -/
  | mbLockRead (q b : Nat)
  /-- MB_UNLOCK_READ (R340): Reading word 23 of a message buffer releases its lock and applies the deferred updates in order. -/
  | mbUnlockRead (q b : Nat)
  /-- MB_LOCK_TIMEOUT (R341): A message-buffer lock held for 4 µs is released by the quay, which raises LOCK_TIMEOUT. -/
  | mbLockTimeout (q b : Nat)
  /-- TIDE_STAGING_WRITE (R102): A write to shadow tide memory through the BAR2 staging window moves the shadow to LOADED; it aborts a verification or cancels an armed swap. -/
  | tideStagingWrite (a : Nat) (bytes : List Nat)
  /-- TID_LOAD_DATA_WRITE (R100): A write to TID_LOAD_DATA stores the word in both shadow memories and advances TID_LOAD_ADDR by 4. -/
  | tidLoadDataWrite (v : Word)
  /-- VERIFY_COMPLETE (R96): The verification ends with all checks passed, which makes the shadow VERIFIED, or at the first failure with its code and offset, which makes it FAILED. -/
  | verifyComplete (mismatch memErr : Option Nat)
  /-- FETCH_DONE (R102): The last byte of a FETCH is written: the shadow becomes LOADED and FETCH_DONE is raised. -/
  | fetchDone (bytes : List Nat)
  /-- FETCH_ERR (R102): The host bridge reports a read error during a FETCH: ERR is set, FETCH_ERR is raised and the shadow becomes LOADED. -/
  | fetchErr (n : Nat)
  /-- RECORD_ACCEPT (R142): A consumer receives a decision record or action, accepts it by claim class and recomputes its check word. -/
  | recordAccept (port : Nat) (got : Option Rec)
  /-- CHECK_WORD_QUERY (R137): On a check-word mismatch the consumer queries the other plane's decision history and uses or drops the answer. -/
  | checkWordQuery (port : Nat)
  /-- CLAIM_REFRESH_TIMEOUT (R145): A consumer sees no claim refresh for 1 µs and treats that claim as 0; the supervisor raises error 0x06. -/
  | claimRefreshTimeout (x : Nat)
  /-- PLANE_FAULT (R147): A detector finds a plane fault: the plane's claim falls to 0 and the standby enters TAKING_OVER. -/
  | planeFault (x : Nat) (tid : Bool) (code detail : Nat)
  /-- DELTA_SEAL_ARRIVE (R149): The seal beat of a delta arrives at the standby with its stroke, line count and CRC. -/
  | deltaSealArrive (crcOk : Bool)
  /-- TAKE_OUT (R159): PMx_CMD TAKE_OUT removes the plane from service, or is rejected when the other plane is not STANDBY. -/
  | takeOut (x : Nat) (m : Master)
  /-- REJOIN (R159): PMx_CMD REJOIN starts a rejoin from OUT or reruns the self-test from FAILED. -/
  | rejoin (x : Nat)
  /-- PLL_RELOCK (R160): The PLL of a plane taken out by error 0x05 relocks, or fails to relock within 200 µs. -/
  | pllRelock (x : Nat) (ok : Bool)
  /-- PLANE_SELFTEST_DONE (R160): A plane's logic self-test ends, passed or failed. -/
  | planeSelftestDone (x : Nat) (pass : Bool) (site : Nat)
  /-- BANK_HANDOVER (R213): An ingress FIFO bank is handed to the write port when it is full or its frame ends. -/
  | bankHandover (w : Nat) (data : List Nat) (last : Bool) (stamp deadline : Nat)
  /-- CELL_LANDING (R218): A landing frame takes its next cell from the first source that qualifies, or is refused whole. -/
  | cellLanding (w : Nat)
  /-- INGRESS_OVERRUN (R215): A line delivers a byte while both banks await the write port: the frame is dropped whole with error 0x07. -/
  | ingressOverrun (w : Nat)
  /-- FRAME_RELEASE (R212): The last holder releases a frame and its cells return to their free lists, or are retired. -/
  | frameRelease (f : Nat) (h : Holder)
  /-- CELL_CRC_FAILURE (R229): A consumer finds a cell CRC failure and drops or ends the frame, or rebuilds a PDU. -/
  | cellCrcFailure (port f c : Nat)
  /-- BANK_FAILURE (R231): A bank fails on a memory error or too many retired cells, dropping its unscheduled frames. -/
  | bankFailure (src : Nat)
  /-- CONTROL_QUEUE_PUSH (R236): An item is pushed into a control or crossing queue, or dropped into the gap marker when the queue is full. -/
  | controlQueuePush (item : CqItem)
  /-- CONTROL_QUEUE_POP (R234): A consumer pops a control queue; an uncorrected word is returned as a gap marker. -/
  | controlQueuePop (q : ControlQueue) (bad : Bool)
  /-- BERTH_WINDOW_WRITE (R269): A berth-window write goes to a staging slot, or is ignored with STAGE_FULL or WRITE_IGNORED. -/
  | berthWindowWrite (a : Nat) (v : Word) (narrow : Bool)
  /-- METER_SWEEP (R256): The background sweep applies the meter fill to a berth. -/
  | meterSweep (b : Nat)
  /-- CLR_STATS (R274): BTH_CMD CLR_STATS zeroes one berth's statistics at the next stroke boundary. -/
  | clrStats (b : Nat)
  /-- REFILL (R274): BTH_CMD REFILL sets a berth's TOKENS to 256 × BURST at the next stroke boundary. -/
  | refill (b : Nat)
  /-- UNBLOCK (R274): BTH_CMD UNBLOCK clears a berth's BLOCKED at the next stroke boundary. -/
  | unblock (b : Nat)
  /-- STAMP_SWEEP (R291): The stamp sweep visits a dynamic entry and clamps an old stamp. -/
  | stampSweep (ovf : Bool) (idx : Nat)
  /-- CAN_FRAME_RECEIVED (R321): A CAN frame becomes valid, is filtered and, if admitted, landed through RXQ0 or RXQ1 with its descriptor. -/
  | canFrameReceived (q : Nat) (f : CanFrame) (stamp : Nat)
  /-- CAN_BUS_ERROR (R333): A CAN quay detects a bus error, which sets LEC and updates TEC and REC at the failing bit. -/
  | canBusError (q lec : Nat) (tx : Bool) (sub bitpos ident stamp : Nat)
  /-- PROTOCOL_EXCEPTION (R338): A frame of a disabled format causes a protocol exception with LEC 0x8. -/
  | protocolException (q : Nat)
  /-- CAN_TX_ATTEMPT_START (R328): At a start-of-frame opportunity the quay offers its first candidate and a message buffer enters ACTIVE. -/
  | canTxAttemptStart (q stamp : Nat) (joined : Bool) (loop : Option Nat)
  /-- CAN_TX_SUCCESS (R342): A CAN attempt is acknowledged and ends its end-of-frame: the stamp is written and the frame or buffer completes. -/
  | canTxSuccess (q : Nat)
  /-- CAN_TX_ATTEMPT_FAIL (R342): A CAN attempt loses arbitration or fails: the frame is retried, flushed or fails. -/
  | canTxAttemptFail (q : Nat) (lost : Bool)
  /-- TX_LIFE_EXPIRED (R331): An unscheduled CAN frame exceeds its queue lifetime and is ended under R342. -/
  | txLifeExpired (q k : Nat)
  /-- BUS_OFF_RECOVERED (R335): Recovery completes after 128 runs of 11 recessive bits: TEC and REC become 0 and RECOVERED is raised. -/
  | busOffRecovered (q : Nat)
  /-- CAN_MODE_APPLIED (R318): A pending CAN MODE takes effect at bus idle and raises MODE_APPLIED. -/
  | canModeApplied (q : Nat)
  /-- RECOVER (R335): QYC_CMD RECOVER starts bus-off recovery, or is rejected outside bus-off. -/
  | recover (q : Nat)
  /-- QYC_SLEEP (R347): QYC_CMD SLEEP requests sleep of a COMPAT quay's segment. -/
  | qycSleep (q : Nat)
  /-- QYC_WAKE (R348): QYC_CMD WAKE wakes a COMPAT quay's segment at once. -/
  | qycWake (q : Nat) (m : Master)
  /-- CLR_LEC (R333): QYC_CMD CLR_LEC sets LEC to 0x0. -/
  | clrLec (q : Nat)
  /-- QYC_FLUSH (R331): QYC_CMD FLUSH removes the frames of one egress queue under R342. -/
  | qycFlush (q i : Nat)
  /-- MB_REQ (R342): Writing a QYC_MB_REQ bit makes a buffer PENDING, or FAILED with FORMAT. -/
  | mbReq (q : Nat) (v : Word)
  /-- MB_CANCEL (R342): Writing a QYC_MB_CANCEL bit cancels a PENDING buffer, or holds a cancel for an ACTIVE one. -/
  | mbCancel (q : Nat) (v : Word)
  /-- ETH_FRAME_RECEIVED (R363): An Ethernet frame ends and is checked under Table 10-3, then landed, delivered bad or dropped. -/
  | ethFrameReceived (q : Nat) (bytes : List Nat) (fcsOk symbolErr : Bool) (corr uncorr stamp : Nat)
  /-- ETH_TX_START (R370): An Ethernet quay starts the highest eligible frame after its tag edit and length check. -/
  | ethTxStart (q : Nat)
  /-- ETH_TX_END (R372): An Ethernet frame ends on the line: it is counted, stamped and released. -/
  | ethTxEnd (q stamp : Nat)
  /-- ETH_CUT_TOO_LONG (R371): A cut-through frame reaches MAX_LEN + 1 bytes sent and is ended with an inverted FCS. -/
  | ethCutTooLong (q : Nat)
  /-- ETH_LINK_DOWN (R368): An Ethernet link falls: a frame in transmission is ended and LINK_DOWN is counted. -/
  | ethLinkDown (q : Nat)
  /-- ETH_LINK_UP (R368): An Ethernet link comes up and the quay may start frames. -/
  | ethLinkUp (q : Nat) (reversed : Bool) (sqi : Nat)
  /-- USX_CODE_WORD (R357): A USXGMII auto-negotiation code word is received and sets USX_SPEED and SPEED_MISMATCH. -/
  | usxCodeWord (q code : Nat) (up : Bool)
  /-- COLLISION (R376): A CSMA/CD collision triggers back-off or, at the attempt limit or when late, drops the frame. -/
  | collision (q : Nat) (late : Bool)
  /-- ETH_MODE_APPLIED (R360): A pending Ethernet MODE takes effect when no frame is in progress. -/
  | ethModeApplied (q : Nat)
  /-- QYE_FLUSH (R385): QYE_CMD FLUSH removes every unstarted frame of one egress queue. -/
  | qyeFlush (q i : Nat)
  /-- LINE_CONDITION_SET (R394): A line condition becomes present after its filter and updates FAULT_SET, STATE and the transmitter. -/
  | lineConditionSet (q : Nat) (codes : List Nat)
  /-- LINE_CONDITION_CLEAR (R394): A line condition clears after its absence time or clearing event. -/
  | lineConditionClear (q : Nat) (codes : List Nat)
  /-- CAN_REVERSAL_FRAME (R395): A frame from another node shows reversed polarity at SOF and is counted towards a reversal. -/
  | canReversalFrame (q : Nat)
  /-- ROLE_EXCHANGE (R396): After 10 recessive bits the front end exchanges the CANH and CANL roles. -/
  | roleExchange (q : Nat)
  /-- MEASURE_TERM (R399): LFE_CMD MEASURE_TERM starts a termination measurement at the next idle point. -/
  | measureTerm (q : Nat)
  /-- TERM_MEASURE_DONE (R400): A termination measurement completes with OHMS and CLASS, raising MEAS_DONE. -/
  | termMeasureDone (q ohms : Nat)
  /-- TERM_MEASURE_TIMEOUT (R399): A termination measurement not complete within 50 ms ends with CLASS BUSY. -/
  | termMeasureTimeout (q : Nat)
  /-- TDR (R401): LFE_CMD TDR starts a TDR, waits for a window, or is rejected. -/
  | tdr (q : Nat)
  /-- TDR_DONE (R403): A TDR ends with its KIND and the echo's round-trip time in picoseconds. -/
  | tdrDone (q kind echo : Nat)
  /-- SWAP_RESET (R397): LFE_CMD SWAP_RESET restores straight CAN roles at the next idle point. -/
  | swapReset (q : Nat)
  /-- MEAS_CANCEL (R404): LFE_CMD MEAS_CANCEL aborts the running or waiting measurement. -/
  | measCancel (q : Nat)
  /-- CAN_WAKE_PATTERN (R408): A CAN wake detector completes the wake-up pattern. -/
  | canWakePattern (q : Nat)
  /-- WAKE_PATTERN_ABANDON (R408): A wake-up pattern not complete within 1.0 ms is abandoned. -/
  | wakePatternAbandon (q : Nat)
  /-- SELECTIVE_WAKE_FRAME (R409): A selective wake decoder decodes a frame, which matches, updates FERR or wakes at FERR 32. -/
  | selectiveWakeFrame (q : Nat) (f : CanFrame) (err : Bool)
  /-- G1608_WAKE (R348): A sleeping COMPAT quay's front end wakes on a dominant phase or a matching wake frame. -/
  | g1608Wake (q dominantUs : Nat) (frame : Option CanFrame)
  /-- T1S_ENERGY_WAKE (R412): A T1S detector sees activity above squelch for ENERGY_US. -/
  | t1sEnergyWake (q us : Nat)
  /-- TC10_WAKE (R412): A T1 front end receives a TC10 wake-up. -/
  | tc10Wake (q : Nat)
  /-- DETECTOR_REARM (R413): After a quiet interval a wake detector re-arms. -/
  | detectorRearm (q : Nat)
  /-- EVENT_STAMP (R421): An edge on an event line is stamped in the harbour clock island and returned as a corrected stamp. -/
  | eventStamp (q : Nat) (rx : Bool) (main fallback : Nat)
  /-- HCK_RATE_WRITE (R430): A write to HCK_RATE applies with SRC = 00, or is ignored with CMD_REJECT. -/
  | hckRateWrite (v : Word)
  /-- SYNC_MEASUREMENT (R428): A Sync with its Follow_Up on the working slave port gives an offset e that steers the rate, or arms an automatic step. -/
  | syncMeasurement (rx origin : Nat) (corr logInterval csro : Int) (tbi port : Nat)
  /-- PPS_IN_EDGE (R455): A PPS_IN edge is stamped, serves a pending STEP_PPS and, with SRC 10, a measurement. -/
  | ppsInEdge (fall : Bool) (time : Nat)
  /-- GM_CHANGE (R431): A received Sync, Follow_Up or Announce shows a new grandmaster: the servo enters DEGRADED. -/
  | gmChange (d : Nat) (tbi port ident : Option Nat)
  /-- STAMP_PATH_SWITCH (R435): At a commit boundary a quay changes between main and fall-back stamps. -/
  | stampPathSwitch (q : Nat)
  /-- PCS_FAULT_CLEAR (R436): The driver's W1C of PCS_FAULT returns the main path and restarts the run. -/
  | pcsFaultClear (q : Nat)
  /-- PDELAY_INITIATE (R442): Every 2^PDELAY_LOG s the port starts a Pdelay exchange. -/
  | pdelayInitiate (q : Nat)
  /-- PDELAY_REQ_RECEIVED (R442): A Pdelay_Req is received and answered. -/
  | pdelayReqReceived (q t2 t3 : Nat)
  /-- PDELAY_EXCHANGE_END (R442): A Pdelay exchange succeeds or fails, updating meanLinkDelay and asCapable. -/
  | pdelayExchangeEnd (q : Nat) (stamps : Option (Nat × Nat × Nat × Nat))
  /-- SYNC_RELAY (R444): A Sync received on a domain's slave port is relayed with updated Follow_Up on every asCapable master port. -/
  | syncRelay (d rx origin : Nat) (corr logInterval csro : Int) (tbi : Nat) (sent : List (Nat × Nat))
  /-- GM_SYNC_SEND (R445): At each whole multiple of 2^SYNC_LOG s a grandmaster domain sends Sync and Follow_Up. -/
  | gmSyncSend (d : Nat) (sent : List (Nat × Nat))
  /-- DOMAIN_LOST (R446): A domain receives no Sync for three intervals, sets LOST and raises DOM_LOST. -/
  | domainLost (d : Nat)
  /-- AS_MESSAGE_IGNORED (R439): An unsupported 802.1AS message is received and ignored. -/
  | asMessageIgnored (q : Nat)
  /-- CANT_SYNC_WRITE (R450): With the SYNC berth queue empty, the harbour clock writes a CAN time SYNC frame into the berth queue. -/
  | cantSyncWrite (e : Nat)
  /-- CANT_FUP_WRITE (R451): The SYNC's transmit stamp arrives and the FUP is written, or skipped. -/
  | cantFupWrite (e : Nat)
  /-- CAPTURE_EDGE (R452): A capture input edge is stamped and pushed into its queue. -/
  | captureEdge (c : Nat) (rise : Bool) (time hold : Nat)
  /-- HCK_TSQ_POP (R439): Writing HCK_TSQ_POP pops a stamp queue. -/
  | hckTsqPop (q : Nat) (sync : Bool)
  /-- HCK_CAP_POP (R454): Writing HCK_CAP_POP pops a capture queue. -/
  | hckCapPop (c : Nat)
  /-- LOG_RING_RP_WRITE (R475): The driver's write of LOG_RING_RP frees ring space. -/
  | logRingRpWrite (rp : Nat)
  /-- CIPHER_JOB_START (R511): A lane starts the next eligible job after loading its key, or discards it unstarted as late. -/
  | cipherJobStart (l : Nat)
  /-- PROVISIONAL_CONTINUATION (R495): A verifying cut-through job's first output cell is written and a CUT continuation issues. -/
  | provisionalContinuation (l : Nat)
  /-- CIPHER_JOB_FINISH (R493): A traffic job finishes and re-enters as a continuation, or fails its tag with zero-fill. -/
  | cipherJobFinish (l : Nat)
  /-- COMPARE_FAIL (R506): The two cores disagree: the job ends with zeroed output. -/
  | compareFail (l : Nat)
  /-- CIPHER_RELEASE_SLOT (R512): A running traffic job reaches its release slot and is discarded with its output zeroed. -/
  | cipherReleaseSlot (l : Nat)
  /-- ENC (R513): A GO write with OP ENC queues a host encryption job. -/
  | enc (l tag : Nat)
  /-- DEC (R513): A GO write with OP DEC queues a host decryption job. -/
  | dec (l tag : Nat)
  /-- MAC (R513): A GO write with OP MAC queues a host CMAC job. -/
  | mac (l tag : Nat)
  /-- CMAC_VERIFY (R513): A GO write with OP VERIFY queues a host CMAC verification job. -/
  | cmacVerify (l tag : Nat)
  /-- HOST_JOB_COMPLETE (R513): A host job ends and pushes its result. -/
  | hostJobComplete (l : Nat) (data : Option (List Nat))
  /-- KEY_LOAD (R503): CPH_KEY_CTRL LOAD copies the intake registers into the lane's buffer. -/
  | keyLoad (l : Nat) (key256 custody : Bool)
  /-- KEY_CLEAR (R503): CPH_KEY_CTRL CLEAR zeroes the lane's intake buffer. -/
  | keyClear (l : Nat)
  /-- CPH_RES_POP (R55): Writing CPH_RES_POP pops the lane's result queue. -/
  | cphResPop (l : Nat)
  /-- DERIVE (R530): KWL_CMD DERIVE creates a slot by counter-mode KDF under its parent. -/
  | derive (slot parent : Nat)
  /-- IMPORT (R531): KWL_CMD IMPORT creates a slot with the driver's key. -/
  | kwlImport (slot parent : Nat)
  /-- INVALIDATE (R534): KWL_CMD INVALIDATE raises a KDK's GEN and orphans its descendants. -/
  | invalidate (slot : Nat)
  /-- DESTROY (R535): KWL_CMD DESTROY empties a slot and orphans its descendants. -/
  | destroy (slot : Nat)
  /-- RETAINED_WRITE (R632): A retained write passes its hold-up check and starts, or is refused. -/
  | retainedWrite (sns : Option Nat)
  /-- RETAINED_WRITE_DONE (R703): A retained write or piece completes and its owner proceeds to the next. -/
  | retainedWriteDone (ok : Bool)
  /-- HOST_READ (R558): A host read of BAR0 or BAR2 is held until the target answers. -/
  | hostRead (space : HostSpace) (a len tag : Nat)
  /-- HOST_READ_TIMEOUT (R558): A target that does not answer within 40 µs gets 0xFFFF_FFFF with error 0x03. -/
  | hostReadTimeout (tag : Nat)
  /-- HOST_WRITE (R559): A host write TLP is posted and delivered in order, or discarded if poisoned. -/
  | hostWrite (space : HostSpace) (a : Nat) (bs : List (Option Nat)) (poisoned : Bool)
  /-- LOCKED_READ (R560): A locked read request is completed with Unsupported Request. -/
  | lockedRead (tag : Nat)
  /-- DMA_READ_COMPLETION (R563): A completion for a device-issued read arrives, with data or an error. -/
  | dmaReadCompletion (r : ReadReq) (data : Option (List Nat))
  /-- DMA_READ_TIMEOUT (R563): A device-issued read gets no completion within 10 ms and fails. -/
  | dmaReadTimeout (r : ReadReq)
  /-- SEM_ACQUIRE (R564): A write of ACQ = 1 gives a free semaphore to the writer. -/
  | semAcquire (n : Nat) (m : Option Master)
  /-- SEM_RELEASE (R564): A write of REL = 1 by the owner frees the semaphore. -/
  | semRelease (n : Nat) (m : Master)
  /-- SEM_TIMEOUT (R566): A semaphore held longer than MS ms is freed and TIMED_OUT is set. -/
  | semTimeout (n : Nat)
  /-- IQ0_RX_FRAME (R570): IQ0 accepts a record and writes its frame into receive buffers, or drops it. -/
  | iq0RxFrame (descs : List (Option (List Nat)))
  /-- TX_DESCRIPTOR_FETCH (R576): The bridge fetches a transmit descriptor, reads the frame and lands it through IQ0. -/
  | txDescriptorFetch (p : Nat) (desc : List Nat)
  /-- TX_COMPLETION (R578): A host frame has landed or failed: HEAD advances and the completion is written. -/
  | txCompletion (p : Nat)
  /-- TX_TAIL_WRITE (R567): A write of a transmit TAIL makes descriptors available to the bridge. -/
  | txTailWrite (p v : Nat)
  /-- RX_TAIL_WRITE (R570): A write of a receive TAIL posts buffers. -/
  | rxTailWrite (p v : Nat)
  /-- CQ_RP_WRITE (R581): A write of CQ_RP frees completion entries and sends a message if entries remain. -/
  | cqRpWrite (p v : Nat)
  /-- RING_ENABLE_WRITE (R568): Writing TX_EN or RX_EN enables or disables a ring direction. -/
  | ringEnableWrite (p : Nat) (tx rx : Bool)
  /-- RING_HALT (R579): A failed descriptor fetch halts its direction and raises RING_HALT. -/
  | ringHalt (p : Nat) (rx : Bool)
  /-- RING_COAL_TIMEOUT (R581): COAL.US µs after the first unannounced entry, the pair sends an MSI-X. -/
  | ringCoalTimeout (p : Nat)
  /-- D2D_LINK_FAILURE (R584): A flit fails four times or lane lock is lost: error 0x05 brings die safe state. -/
  | d2dLinkFailure (lockLost : Bool)
  /-- FEARLEK_READ (R587): A Fearlek READ frame reads LEN consecutive words. -/
  | fearlekRead (bytes : List Nat)
  /-- FEARLEK_WRITE (R587): A Fearlek WRITE frame writes LEN consecutive words. -/
  | fearlekWrite (bytes : List Nat)
  /-- READ_FIXED (R587): A Fearlek READ_FIXED frame reads LEN words at one address. -/
  | readFixed (bytes : List Nat)
  /-- WRITE_FIXED (R587): A Fearlek WRITE_FIXED frame writes LEN words at one address. -/
  | writeFixed (bytes : List Nat)
  /-- FEARLEK_ABORT (R590): MG_CS_N rises before the end of a frame: the frame is discarded or its response is lost. -/
  | fearlekAbort (bytes : List Nat)
  /-- FEARLEK_WORD_TIMEOUT (R589): A word not served within 40 µs ends the request with TIMEOUT. -/
  | fearlekWordTimeout (bytes : List Nat) (k : Nat)
  /-- PWK_WAKE (R613): PWK_CMD WAKE ends a package entry or wakes the package. -/
  | pwkWake (m : Master)
  /-- WAKE_NORTH (R614): PWK_CMD WAKE_NORTH powers North and wakes its segments. -/
  | wakeNorth (m : Master)
  /-- WAKE_SOUTH (R614): PWK_CMD WAKE_SOUTH powers South and wakes its segments. -/
  | wakeSouth (m : Master)
  /-- SEG_SLEEP (R604): PWK_SEG_CMD SLEEP sends a segment into DRAINING. -/
  | segSleep (q : Nat)
  /-- SEG_WAKE (R604): PWK_SEG_CMD WAKE wakes a segment that is not AWAKE. -/
  | segWake (q : Nat) (m : Master)
  /-- TC10_SLEEP_REQUEST (R607): A TC10 sleep request from the partner is accepted as a sleep request or rejected. -/
  | tc10SleepRequest (q : Nat)
  /-- TC10_SLEEP_ACK (R606): The partner acknowledges or rejects the TC10 sleep request. -/
  | tc10SleepAck (q : Nat) (accepted : Bool)
  /-- TC10_SLEEP_TIMEOUT (R604): No TC10 acknowledge within TMO_MS: SLEEP_FAIL and return to AWAKE. -/
  | tc10SleepTimeout (q : Nat)
  /-- SEGMENT_COMMIT_POINT (R606): The drain conditions hold: the wake detector arms and the quay enters low power. -/
  | segmentCommitPoint (q : Nat)
  /-- DWELL_END (R604): DWELL_MS passes: the segment becomes ASLEEP, or WAKING with a held wake. -/
  | dwellEnd (q : Nat)
  /-- SEGMENT_AWAKE (R604): The waking quay's MODE is applied: the segment is AWAKE and the false-wake timer starts. -/
  | segmentAwake (q : Nat)
  /-- SLEEP_ABORT (R608): A wake naming a segment in DRAINING returns it to AWAKE. -/
  | sleepAbort (q lfeKind : Nat) (ident : Option Nat)
  /-- FALSE_WAKE_TIMEOUT (R611): No valid frame within FW_MS after waking gives a sleep request. -/
  | falseWakeTimeout (q : Nat)
  /-- REGION_COMMIT_POINT (R612): All segments of a region sleep: the region's supplies switch off. -/
  | regionCommitPoint (r : Nat)
  /-- WAKE_PIN_EVENT (R619): A WAKE pin holds its new level for FILT and acts on its TARGET. -/
  | wakePinEvent (n level : Nat)
  /-- RESTORE_COMPLETE (R627): The start-up restore ends with a slot or factory values selected and RESTORE_DONE set. -/
  | restoreComplete (badSlots tagFails failed : List Nat)
  /-- RET_LOAD_DATA_WRITE (R630): A write to RET_LOAD_DATA collects a word and advances RET_LOAD_ADDR. -/
  | retLoadDataWrite (v : Word)
  /-- ERROR_REPORT (R639): An error of level 1 or higher reaches the supervisor and opens or repeats a record. -/
  | errorReport (e : Option UnitErr)
  /-- SUP_REC_ACK (R645): Writing an ID to SUP_REC_ACK acknowledges the record. -/
  | supRecAck (id : Nat)
  /-- SUP_REC_SEL (R647): Writing an ID to SUP_REC_SEL returns that record. -/
  | supRecSel (id : Nat)
  /-- SELFTEST_SLICE (R658): At a window's start a waiting test runs its next slice. -/
  | selftestSlice (kind target : Nat)
  /-- SELFTEST_SLICE_END (R662): A slice ends passed or failed, failures recorded with code 0xF0 or in the repair map. -/
  | selftestSliceEnd (kind target : Nat) (pass : Bool) (fails : List CellFail)
  /-- SELFTEST_PERIOD_DUE (R661): Every ST_PERIOD seconds an enabled target's complete test starts, or OVERDUE is set. -/
  | selftestPeriodDue (kind target : Nat)
  /-- SUP_ST_REQ (R661): A SUP_ST_REQ write starts one complete test of one target. -/
  | supStReq (kind target : Nat)
  /-- ALARM_RISE (R666): An alarm rises: custody keys are erased, sealing stops and a record is created. -/
  | alarmRise (a : Nat)
  /-- ALARM_CLEAR (R667): An alarm clears after 10 ms absent, ending its region safe state and starting auto-restore. -/
  | alarmClear (a : Nat)
  /-- TEMP_WARN (R667): A junction rises above WARN_C and raises TEMP_WARN. -/
  | tempWarn (logic io : Int)
  /-- SCAN_ARM (R668): Writing 0x5C to SUP_SCAN.ARM arms scan entry. -/
  | scanArm (v : Nat) (m : Master)
  /-- SCAN_GO (R668): The GO write starts the scan-entry sequence, or is rejected. -/
  | scanGo (m : Master) (zeroed : Bool)
  /-- SCAN_COMPLETE (R668): The scan ends and a die reset restores the keys. -/
  | scanComplete (pass : Bool) (chain : Nat)
  /-- HISTORY_WRITE (R670): A closed record or event is written to the error history, or queued. -/
  | historyWrite (sns : Option Nat)
  /-- HISTORY_WRITE_RETRY (R671): A refused history write is retried every 1 ms. -/
  | historyWriteRetry (sns : Option Nat)
  /-- REPAIR_MAP_WRITE (R665): The repair map is written after a bank window, retried every 1 ms. -/
  | repairMapWrite (sns : Option Nat)
  /-- PCIE_LINK_UP (R595): The PCIe link trains and comes up, setting HBR_STATUS.LINK_UP and ending the LINK_DOWN condition so the host regains its reach. -/
  | pcieLinkUp (speed width : Nat)
  /-- PLCA_STATUS_CHANGE (R377): Clause 148 reports the PLCA status active or inactive, which changes PLCA_ACTIVE, switches the quay between PLCA and CSMA/CD and drives the PLCA_INACTIVE condition. -/
  | plcaStatusChange (q : Nat) (active : Bool)
  /-- PAIR_SHORT_RETEST (R394): Every 100 ms while PAIR_SHORT is present, the CAN driver is re-enabled for one frame attempt to test whether the short has cleared. -/
  | pairShortRetest (q : Nat)
  /-- COMMIT_BOUNDARY (R62): At a commit boundary each page with a pending commit checks its staged and X fields and applies them together or refuses them all. -/
  | commitBoundary
  /-- VERIFY (R96): TID_CMD VERIFY starts the checks of Table 3-6 over the shadow tide memory. -/
  | verify
  /-- ARM (R106): TID_CMD ARM arms the verified shadow image for a swap and raises the reservation floor. -/
  | arm
  /-- DISARM (R102): TID_CMD DISARM returns ARMED to VERIFIED and restores the reservation floor. -/
  | disarm
  /-- TID_COMMIT (R110): TID_CMD COMMIT starts a retained slot commit of the active image. -/
  | tidCommit
  /-- TID_SNAPSHOT (R126): TID_CMD SNAPSHOT captures the global stroke, tide stroke index and tide count. -/
  | tidSnapshot
  /-- FETCH (R99): TID_CMD FETCH starts a device-side DMA read of the image into both shadow memories, or is rejected for a bad alignment or length. -/
  | fetch
  /-- CLEAR_SHADOW (R102): TID_CMD CLEAR_SHADOW zeroes both shadow memories and makes them EMPTY. -/
  | clearShadow
  /-- SWAP (R104): At the first qualifying boundary the armed image exchanges roles with the active one in every block, as Table 3-8 sets out. -/
  | swap
  /-- SWAP_DONE (R104): At B + 8 µs SWAP_DONE is raised, TID_CNT_SWAP increments and MARK 0xFFFF_0001 is logged. -/
  | swapDone
  /-- SWAP_TIMEOUT (R102): MAX_WAIT tide boundaries pass without the swap conditions: the floor is restored and SWAP_FAIL is raised. -/
  | swapTimeout
  /-- STROKE_BOUNDARY (R124): At each stroke boundary the clean-stroke discard runs, the delta is sealed and sent, and queued lookup commands execute. -/
  | strokeBoundary
  /-- EXEC_START (R112): At a stroke boundary at which the start condition holds, execution derives its base and join masks and enters RUNNING. -/
  | execStart
  /-- EMIT (R88): An EMIT action releases the frame queued for a berth, or the closed PDU of a PDU buffer, to an egress queue, or is skipped as late. -/
  | emit
  /-- GATE (R88): A GATE action sets the open-gate mask of a quay and flushes the scheduled-class queues that it closes. -/
  | gate
  /-- TRIG (R456): A TRIG action is issued to the harbour clock to drive an edge on its output at t − OFS. -/
  | trig
  /-- TRIGGER_EDGE (R456): A trigger output changes level at its pin time. -/
  | triggerEdge
  /-- CAPW (R453): A CAPW action opens or closes the capture window of an input; a window that closes without a stamped edge pushes a MISS entry. -/
  | capw
  /-- PACK (R186): A PACK action tests map expiry, copies the build area into the packed area and writes the PDU frame into cells. -/
  | pack
  /-- PACK_COMPLETE (R187): 256 ns after its time a PACK completes and its frame becomes the closed PDU, replacing any unsent one. -/
  | packComplete
  /-- CHECK (R125): A CHECK action tests and clears its berth's arrival flag and counts a deadline miss if the flag is clear. -/
  | check
  /-- TEST (R116): A TEST action grants a low tide window to its target, or is skipped with WINDOW_SKIP if the window overlaps one already granted. -/
  | test
  /-- MARK (R88): A MARK action writes a log marker record with its 32-bit code. -/
  | mark
  /-- LOW_TIDE_WINDOW_END (R116): A granted low tide window reaches its end. -/
  | lowTideWindowEnd
  /-- DESCRIPTOR_INTAKE (R130): The intake sequencer gives a descriptor its DESC_SEQ and delivers it to every plane in service, marked descriptors first. -/
  | descriptorIntake
  /-- FORWARDING_DECISION (R133): A plane passes a descriptor through its seven stages: match, police, resolve, check word and enqueue of one decision record. -/
  | forwardingDecision
  /-- LENGTH_NOTICE (R226): When a cut-through frame's last byte lands, the cistern sends the final LEN to both planes and to its holders, which settle filter, meter, statistics and charges. -/
  | lengthNotice
  /-- OCCUPANCY_RELOAD_DONE (R156): The queue occupancy reload ends, and EMITs that waited for their lines are issued. -/
  | occupancyReloadDone
  /-- TAKEOVER (R154): At the first stroke boundary after D the standby raises its claim, becomes ACTIVE and issues MARK 0xFFFF_0004. -/
  | takeover
  /-- DELTA_COMMIT (R150): At slot position 500 the standby commits delta(n), or discards it. -/
  | deltaCommit
  /-- COPY_LINK_ERROR (R152): An uncorrected copy-link error makes the standby stale, or restarts or fails a rejoin copy. -/
  | copyLinkError
  /-- REJOIN_START (R162): At the next stroke boundary the full copy of the plane state image starts over K strokes. -/
  | rejoinStart
  /-- REJOIN_COMPLETE (R159): The copy completes with a correct final seal: the plane becomes STANDBY and MARK 0xFFFF_0005 is issued. -/
  | rejoinComplete
  /-- IQ2_JOB_ENQUEUE (R171): A record with the IQ2 bit enters the IQ2 intake queue, or is dropped when the queue is full. -/
  | iq2JobEnqueue
  /-- SIGNAL_EXTRACTION (R181): Once its frame is complete and CRC-checked, an IQ2 job applies its signal maps to the PDU build areas. -/
  | signalExtraction
  /-- MAP_TIMEOUT_SWEEP (R183): The background sweep visits a map and flags it expired, writing its default. -/
  | mapTimeoutSweep
  /-- ENCAP_1722 (R197): An IEEE 1722 encapsulation job builds an AVTPDU from a CAN frame, which re-enters as a new descriptor. -/
  | encap1722
  /-- DECAP_1722 (R199): An IEEE 1722 decapsulation job turns each matching ACF CAN message into a CAN frame descriptor. -/
  | decap1722
  /-- ENCAP_DARAST (R203): A Darast encapsulation job wraps one CAN frame in an Ethernet frame that re-enters. -/
  | encapDarast
  /-- DECAP_DARAST (R204): A Darast decapsulation job checks the header and issues the carried CAN frame, or drops it with DECAP_DROP. -/
  | decapDarast
  /-- REWRITE (R193): A rewrite job changes identifier and format under Table 5-6, or drops the frame with CONVERT_DROP. -/
  | rewrite
  /-- REBUILD (R190): A consumer's rebuild request makes the gateway engine write the PDU frame afresh from its packed area. -/
  | rebuild
  /-- CELL_WRITE (R214): The write port writes a handed-over bank into a cell with its link word and CRC, earliest deadline first. -/
  | cellWrite
  /-- CLASSIFICATION (R219): A frame's first decision record reaches the cistern enqueue and the frame is charged scheduled or unscheduled and queued or dropped. -/
  | classification
  /-- CLR_ALL_STATS (R274): BTH_CMD CLR_ALL_STATS clears the statistics of every berth. -/
  | clrAllStats
  /-- CLR_ALL_STATS_DONE (R274): CLR_ALL_STATS completes within 16 strokes: CMD_BUSY clears and CMD_DONE is raised. -/
  | clrAllStatsDone
  /-- LEARNING_REQUEST (R290): The learning engine takes one request and inserts, refreshes, moves or refuses the entry under Table 8-3. -/
  | learningRequest
  /-- AGING_SWEEP (R292): Every TICK_MS the aging sweep decrements AGE or removes an entry at AGE 0. -/
  | agingSweep
  /-- SEARCH (R303): LKP command SEARCH returns the entry and location of a key, or NOT_FOUND. -/
  | search
  /-- READ (R303): LKP command READ returns the entry at a location or VID. -/
  | read
  /-- INSERT (R303): LKP command INSERT places an entry under R283, or ends EXISTS, FULL or PENDING. -/
  | insert
  /-- WRITE (R303): LKP command WRITE replaces a forwarding or VLAN entry in place. -/
  | write
  /-- DELETE (R303): LKP command DELETE invalidates an entry, then retries the pending entry and drains overflow. -/
  | delete
  /-- FLUSH_DYNAMIC (R303): LKP command FLUSH_DYNAMIC removes the dynamic entries whose DEST meets the mask. -/
  | flushDynamic
  /-- OPEN_REBUILD (R298): LKP command OPEN_REBUILD seeds and empties the idle bank, copies the VLAN table and sets REBUILD_OPEN. -/
  | openRebuild
  /-- SWAP_BANKS (R298): LKP command SWAP_BANKS exchanges the bank roles, or ends REFUSED. -/
  | swapBanks
  /-- CLOSE_REBUILD (R299): LKP command CLOSE_REBUILD ends a rebuild without a swap. -/
  | closeRebuild
  /-- DROP_PENDING (R303): LKP command DROP_PENDING discards the pending entry. -/
  | dropPending
  /-- LKP_LONG_CMD_DONE (R301): A FLUSH_DYNAMIC or OPEN_REBUILD completes within 16 strokes and releases the commands behind it. -/
  | lkpLongCmdDone
  /-- LKP_RES_POP (R55): Writing LKP_RES_POP pops the lookup result queue into the result registers. -/
  | lkpResPop
  /-- WALKER_VISIT (R306): The shadow walker compares one location with its shadow and reports any mismatch. -/
  | walkerVisit
  /-- STEP (R425): HCK_CMD STEP latches an offset step that applies at the next qualifying boundary. -/
  | step
  /-- STEP_PPS (R425): HCK_CMD STEP_PPS latches a step that falls due at the next PPS_IN edge. -/
  | stepPps
  /-- CANCEL_STEP (R431): HCK_CMD CANCEL_STEP ends a pending step. -/
  | cancelStep
  /-- EPOCH_RESTART (R427): HCK_CMD EPOCH_RESTART makes the clock unset at the next qualifying boundary. -/
  | epochRestart
  /-- EPOCH_APPLY (R427): At its boundary the epoch restart makes the clock unset, increments the epoch and restarts execution. -/
  | epochApply
  /-- HCK_SNAPSHOT (R459): HCK_CMD SNAPSHOT captures harbour time. -/
  | hckSnapshot
  /-- HOLD (R431): HCK_CMD HOLD forces holdover. -/
  | hold
  /-- RELEASE (R431): HCK_CMD RELEASE clears FORCED_HOLD. -/
  | release
  /-- STEP_APPLY (R425): At boundary b a pending step sets the counter to b + Δ and makes the clock set. -/
  | stepApply
  /-- SYNC_LOSS (R431): Three source intervals pass without a measurement: the servo enters HOLDOVER. -/
  | syncLoss
  /-- PPS_OUT_PULSE (R457): PPS_OUT rises at each whole second, less OUT_OFS. -/
  | ppsOutPulse
  /-- PPS_OUT_FALL (R457): PPS_OUT falls after OUT_WIDTH_MS. -/
  | ppsOutFall
  /-- LOG_RECORD_REPORT (R464): A source reports an event to the recorder, which queues the record or folds it into a summary. -/
  | logRecordReport
  /-- LOG_RECORD_OUTPUT (R475): A queued record is written to the host ring, taking the next SEQ. -/
  | logRecordOutput
  /-- LOG_DATA_IRQ (R476): After RECS records or US µs the DATA interrupt is raised. -/
  | logDataIrq
  /-- LOG_FRAME_SEND (R477): A log frame is sent on the serial quay when full or after LOG_OUT_FLUSH_US. -/
  | logFrameSend
  /-- SUMMARY_WRITE (R480): The level falls below LOW and one summary is written per port in summary mode. -/
  | summaryWrite
  /-- LOG_FLUSH (R480): LOG_CMD FLUSH writes the summaries at once. -/
  | logFlush
  /-- SEAL_NOW (R482): LOG_CMD SEAL_NOW closes a seal at once. -/
  | sealNow
  /-- RESEAL (R483): LOG_CMD RESEAL clears SEAL_STOPPED and starts a new chain. -/
  | reseal
  /-- SEAL_CLOSE (R482): After RECS records or SEAL_MS, a seal record is written. -/
  | sealClose
  /-- SEAL_STOP (R483): The seal key is erased or absent, or the core faults: sealing stops with EVENT 0x05. -/
  | sealStop
  /-- IQ3_JOB_ENQUEUE (R489): IQ3 accepts a record with its job word, checks it and queues the job. -/
  | iq3JobEnqueue
  /-- KWL_COMMIT (R546): KWL_CMD COMMIT snapshots the dirty persistent slots and writes them in two phases. -/
  | kwlCommit
  /-- RESTORE_CUSTODY (R543): KWL_CMD RESTORE_CUSTODY reloads ERASED slots from the retained store. -/
  | restoreCustody
  /-- ORPHAN_SWEEP (R538): At each commit boundary the sweep visits one slot and destroys an orphan. -/
  | orphanSweep
  /-- MASK_KEY_RENEW (R540): Every 64 commit boundaries a new mask key is drawn and a re-masking pass starts. -/
  | maskKeyRenew
  /-- RBG_STARTUP_DONE (R541): The entropy source's start-up tests pass and the generator runs. -/
  | rbgStartupDone
  /-- RBG_HEALTH_FAIL (R541): A continuous health test fails: output is discarded, and at the third failure the RBG is FAILED. -/
  | rbgHealthFail
  /-- ROOT_GENERATE (R520): At first start the key well draws the root and commits it. -/
  | rootGenerate
  /-- RETAINED_WRITE_RETRY (R110): 1 ms after a refusal a retained write is retried; after its limit it ends HOLDUP. -/
  | retainedWriteRetry
  /-- HOT_RESET (R556): A PCIe hot reset resets the host bridge unit. -/
  | hotReset
  /-- PCIE_LINK_DOWN (R556): Loss of the PCIe link resets the host bridge unit. -/
  | pcieLinkDown
  /-- FUNCTION_LEVEL_RESET (R556): A Function Level Reset resets the host bridge unit. -/
  | functionLevelReset
  /-- BUS_MASTER_DISABLE (R556): A write of Bus Master Enable to 0 resets the host bridge unit. -/
  | busMasterDisable
  /-- D3HOT_ENTRY (R557): The function enters D3hot and issues no request. -/
  | d3hotEntry
  /-- D0_RETURN (R557): The function returns to D0 and the rings resume. -/
  | d0Return
  /-- RX_AUTH_ZERO (R574): IQ0 zeroes the buffers of a frame whose tag failed and completes them AUTH_FAIL. -/
  | rxAuthZero
  /-- PWK_SLEEP (R613): PWK_CMD SLEEP starts the sleep entry of both regions. -/
  | pwkSleep
  /-- SLEEP_NORTH (R612): PWK_CMD SLEEP_NORTH requests sleep of every segment of North. -/
  | sleepNorth
  /-- SLEEP_SOUTH (R612): PWK_CMD SLEEP_SOUTH requests sleep of every segment of South. -/
  | sleepSouth
  /-- PACKAGE_COMMIT_POINT (R613): Both regions are committed and no retained write runs: the logic die powers down. -/
  | packageCommitPoint
  /-- PACKAGE_DWELL_END (R601): DWELL_MS after the package commit point a held wake powers the logic die. -/
  | packageDwellEnd
  /-- SLEEP_TIMER_EXPIRY (R621): PWK_TIMER.MS after the package commit point the package wakes. -/
  | sleepTimerExpiry
  /-- PWK_WAKE_POP (R637): Writing PWK_WAKE_POP pops the wake record queue. -/
  | pwkWakePop
  /-- POWER_ON (R686): VBAT rises above its threshold with RST_N high and the package leaves OFF. -/
  | powerOn
  /-- VBAT_STABLE (R686): VBAT has held 4.5 V for 100 µs: INH rises and the logic die is powered. -/
  | vbatStable
  /-- LOGIC_DIE_UP (R688): VDDP_C is within range and the logic die leaves reset. -/
  | logicDieUp
  /-- RST_N_LOW (R601): RST_N low takes the package to OFF. -/
  | rstNLow
  /-- VBAT_LOSS (R686): VBAT falls below its falling threshold and the package goes to OFF. -/
  | vbatLoss
  /-- RET_COMMIT (R624): RET_CMD COMMIT starts a slot commit. -/
  | retCommit
  /-- SLOT_COMMIT_END (R625): The slot header is written, or the commit ends refused or failed. -/
  | slotCommitEnd
  /-- LOAD_OPEN (R630): RET_CMD LOAD_OPEN zeroes the target slot's header. -/
  | loadOpen
  /-- LOAD_SEAL (R630): RET_CMD LOAD_SEAL writes the last piece and the header if the CRC is valid. -/
  | loadSeal
  /-- LOAD_ABORT (R630): RET_CMD LOAD_ABORT ends a load with the slot left headerless. -/
  | loadAbort
  /-- AUTO_ACK_TIMEOUT (R645): No repeat for AUTO_ACK_MS acknowledges the record. -/
  | autoAckTimeout
  /-- SUP_REC_POP (R647): Writing SUP_REC_POP returns the oldest unread record. -/
  | supRecPop
  /-- UNIT_RESET (R673): SUP_CMD UNIT_RESET resets one unit. -/
  | unitReset
  /-- CLUSTER_RESET (R28): SUP_CMD CLUSTER_RESET resets one cluster. -/
  | clusterReset
  /-- REGION_RESET (R655): SUP_CMD REGION_RESET resets one region and ends its safe state. -/
  | regionReset
  /-- DIE_RESET (R656): SUP_CMD DIE_RESET resets the logic die and ends die safe state. -/
  | dieReset
  /-- PACKAGE_RESET (R652): SUP_CMD PACKAGE_RESET acts as level 5. -/
  | packageReset
  /-- REPAIR_CLEAR (R665): SUP_CMD REPAIR_CLEAR empties the repair map. -/
  | repairClear
  /-- RESET_DONE (R30): A reset completes once for the largest scope and raises RESET_DONE. -/
  | resetDone
  /-- REGION_RETRY_TIMEOUT (R655): REGION_RETRY_MS after entry the supervisor issues one region reset. -/
  | regionRetryTimeout
  /-- SAFE_RESET_TIMEOUT (R656): SAFE_RESET_MS after entry the supervisor issues a die reset. -/
  | safeResetTimeout
  /-- BANK_WINDOW_START (R660): At the start of a bank window every frame in the bank is dropped. -/
  | bankWindowStart
  /-- RST_N_RELEASE (R601): RST_N rises while VBAT is already above its power-on threshold, and the package leaves OFF for START. -/
  | rstNRelease
  /-- SWITCHED_RAILS_IN_RANGE (R683): Every switched rail reaches its range while a logic-die power-up is due, and CORE_EN goes high within 20 µs. -/
  | switchedRailsInRange
  /-- KWL_COMMAND_DONE (R530): A DERIVE or IMPORT finishes within 1 µs or 0.5 µs of acceptance, clearing BUSY, setting RESULT and raising CMD_DONE. -/
  | kwlCommandDone
  deriving DecidableEq, Repr

end Sys2Proof
end

