-- ==== Sys2Proof/Machine/SMap.lean ====
section
/-! DEFINITION. Sparse tables: a list of (key, value) pairs with strictly rising keys, the one canonical form in which
the machine holds its register file, its indexed tables and its memories. -/

namespace Sys2Proof.Machine

/-- A sparse table from numbers to values. -/
abbrev SMap (α : Type) := List (Nat × α)

/-- The value listed at a key. -/
def SMap.find? {α : Type} : SMap α → Nat → Option α
  | [], _ => none
  | (a, v) :: m, k => if a = k then some v else SMap.find? m k

/-- The value at a key, where an unlisted key holds `d`. -/
def SMap.getD {α : Type} (m : SMap α) (k : Nat) (d : α) : α :=
  match SMap.find? m k with
  | some v => v
  | none => d

/-- List a value at a key, keeping the keys rising. -/
def SMap.insert {α : Type} : SMap α → Nat → α → SMap α
  | [], k, v => [(k, v)]
  | (a, w) :: m, k, v =>
    if k < a then (k, v) :: (a, w) :: m
    else if k = a then (k, v) :: m
    else (a, w) :: SMap.insert m k v

/-- Unlist a key. -/
def SMap.erase {α : Type} (m : SMap α) (k : Nat) : SMap α :=
  m.filter (fun p => p.1 != k)

/-- Write a value at a key whose unlisted value is `d`: writing `d` unlists the key. -/
def SMap.setD {α : Type} [DecidableEq α] (m : SMap α) (d : α) (k : Nat) (v : α) : SMap α :=
  if v = d then SMap.erase m k else SMap.insert m k v

/-- Strictly rising keys. -/
def SMap.rising {α : Type} : SMap α → Bool
  | [] => true
  | [_] => true
  | (a, _) :: (b, w) :: m => decide (a < b) && SMap.rising ((b, w) :: m)

/-- The listed keys. -/
def SMap.keys {α : Type} (m : SMap α) : List Nat := m.map (fun p => p.1)

/-- Change the value at a key, where an unlisted key holds `d`. -/
def SMap.modifyD {α : Type} [DecidableEq α] (m : SMap α) (d : α) (k : Nat) (f : α → α) : SMap α :=
  SMap.setD m d k (f (SMap.getD m k d))

/-- The values of `src` at the keys from `lo` to below `hi`, and those of `dst` at every other key. -/
def SMap.copyRange {α : Type} (lo hi : Nat) (src dst : SMap α) : SMap α :=
  dst.filter (fun p => decide (p.1 < lo)) ++ src.filter (fun p => decide (lo ≤ p.1) && decide (p.1 < hi))
    ++ dst.filter (fun p => decide (hi ≤ p.1))

/-- The values of `src` at the keys that `c` names, and those of `dst` at every other key. -/
def SMap.copyWhere {α : Type} (c : Nat → Bool) (src dst : SMap α) : SMap α :=
  (src.filter fun p => c p.1).foldl (fun m p => SMap.insert m p.1 p.2) (dst.filter fun p => !c p.1)

end Sys2Proof.Machine
end

