-- ==== Sys2Proof/Machine/StForward.lean ====
section
/-! DEFINITION. The state of the forwarding path that no register shows: tide memories, cistern, planes, berths, gateway and
lookup tables. -/

namespace Sys2Proof.Machine

/-- A byte memory: (address, byte) pairs with rising addresses; an unlisted address reads as the memory's reset byte. -/
abbrev Mem := SMap Byte

/-- A control queue of Table 6-3 with its reserved marker slot (R237): the items ahead of the marker, the marker, and the
items pushed since. Without a marker every item is in `items`. -/
structure CQueue (α : Type) where
  items : List α := []
  gap : Option Gap := none
  after : List α := []
  deriving DecidableEq, Repr

/-- What a pop of a control queue returns (R234, R237). -/
inductive Popped (α : Type) where
  | empty
  | item (x : α)
  | marker (g : Gap)
  deriving DecidableEq, Repr

/-! ### Cistern -/

/-- How a frame's cells are charged (R216, R219): a dropped frame that a consumer still reads, or that still lands, is charged to neither
class. -/
inductive Charge where
  | landing | scheduled | unscheduled | dropped
  deriving DecidableEq, Repr

/-- A frame held in the cistern, keyed by its first cell. `cells` is its chain, each cell with its FILL (R211). -/
structure FrameObj where
  writer : Nat
  cells : List (Nat × Nat)
  complete : Bool := false
  /-- The bound of a CUT descriptor (R226). -/
  bound : Nat := 0
  /-- The source charged with the cells not yet landed of a CUT frame (R226). -/
  ahead : Option Nat := none
  /-- Cells of the frame that a consumer found failing their CRC (R229, R230). -/
  failed : List Nat := []
  cut : Bool := false
  bad : Bool := false
  charge : Charge := .landing
  holders : List Holder := [.landing]
  /-- Whether the frame's first record has been settled while it still lands: its landing releases it at its last byte (R212). -/
  settled : Bool := false
  /-- Whether its length notice has been sent (R226). -/
  noticed : Bool := false
  /-- Whether a bad frame is kept for IQ0 and the recorder, completed by its trailer (R365). -/
  kept : Bool := false
  /-- Whether a descriptor has been issued for the frame. -/
  issued : Bool := false
  /-- DESC_SEQ of the frame's descriptor, once it has one. -/
  seq : Option Nat := none
  /-- The PDU whose frame this is (REASON 5), and whether its rebuild has been used (R191). -/
  pdu : Option Nat := none
  rebuilt : Bool := false
  /-- Whether a failed tag check has zeroed the frame (R228, R508). -/
  zeroed : Bool := false
  /-- Bytes held outside the cistern's cells: an output frame of the log recorder (R477). -/
  own : List Nat := []
  deriving DecidableEq, Repr

/-- An entry of an egress or berth queue. `emit` is the global stroke of the EMIT the item is bound to (R124). -/
structure QItem where
  frame : Nat
  r : Rec
  emit : Option Nat := none
  /-- Harbour time of that EMIT. -/
  due : Nat := 0
  /-- Elapsed time, in ns, at which the item was queued. -/
  since : Nat := 0
  /-- Attempts made by a CAN quay. -/
  attempts : Nat := 0
  deriving DecidableEq, Repr

/-- A handed-over ingress bank awaiting the write port (R213, R214). -/
structure Bank where
  data : List Nat
  last : Bool
  deadline : Nat
  /-- The hand-over is left unserved (Table 6-12, site 0x0300). -/
  stuck : Bool := false
  /-- Its frame has ended and is lost: the bank only takes its place in the FIFO. -/
  void : Bool := false
  deriving DecidableEq, Repr

/-- A length notice on its way (R226): the frame, its DESC_SEQ where it has one, the bound of its descriptor and its final LEN. -/
structure Notice where
  frame : Nat
  seq : Option Nat
  bound : Nat
  len : Nat
  deriving DecidableEq, Repr

/-- Bytes of the cistern whose contents are undefined (R33, R37, R210): byte a from lo up to hi reads as the free value of index
seed + (a - lo). -/
structure Lost where
  lo : Nat
  hi : Nat
  seed : Nat
  deriving DecidableEq, Repr

/-- The ingress side of a writer: handed-over banks that await the write port, the landing frame, the cell taken for its next bank,
the frames landed to their end and not yet judged by the quay (`none` for one refused or overrun), and the descriptor FIFO. -/
structure Ingress where
  waiting : List Bank := []
  current : Option Nat := none
  next : Option Nat := none
  /-- The rest of the frame being received is discarded: it was refused or overrun. -/
  refused : Bool := false
  landed : List (Option Nat) := []
  /-- Receive stamp of the frame being received. -/
  stamp : Nat := 0
  fifo : CQueue (Desc × Bool) := {}
  deriving DecidableEq, Repr

/-- A decision record on its way to its consumers. Masks have bit p for port p (quays 0–63, IQ0–IQ3 64–67) and bit 68 for the
cistern's berth-queue enqueue. -/
structure FlowRec where
  plane : Nat
  r : Rec
  todo : Nat
  query : Nat := 0
  taken : Nat := 0
  /-- Whether a consumer accepted no plane for this record (R157). -/
  interrupted : Bool := false
  /-- The global stroke of the EMIT that released the item, and where the item waited (R219). -/
  emit : Option Nat := none
  due : Nat := 0
  source : Option Holder := none
  /-- Records used by a port in place of the carried one, rescued under R137 or altered on the way. -/
  alt : List (Nat × Rec) := []
  /-- Ports whose consumer dropped the frame (R137). -/
  lost : List Nat := []
  deriving DecidableEq, Repr

/-- The cistern. -/
structure CstSt where
  /-- Cell data: byte i of cell c at 256 c + i. -/
  mem : Mem := []
  /-- Bytes whose contents are undefined. -/
  lost : List Lost := []
  /-- Cells whose stored CRC does not fit their contents. -/
  badCells : List Nat := []
  frames : SMap FrameObj := []
  /-- Retired cells (R230). -/
  retired : List Nat := []
  /-- Cells that a rebuilt free list leaves out, because the repair map lists them (R233). -/
  excluded : List Nat := []
  /-- Sources whose next cell written carries a CRC fault (Table 6-12). -/
  crcFaults : List Nat := []
  /-- Egress queues, keyed 8 q + i. -/
  queues : SMap (List QItem) := []
  /-- Berth queues, keyed by berth. -/
  bq : SMap (List QItem) := []
  ingress : SMap Ingress := []
  /-- Descriptors that have left intake and are not yet decided: each with its DESC_SEQ and the planes it was delivered to (R130). -/
  inbox : List (Desc × Nat × List Nat) := []
  /-- Records on their way from the planes to the consumers. -/
  flow : List FlowRec := []
  /-- Records that joined an inner quay, by IQ number, not yet taken by it. -/
  innerIn : SMap (List QItem) := []
  /-- DESC_SEQ of the next descriptor (R130). -/
  descSeq : Nat := 0
  /-- The FIFO the intake sequencer serves next (R132). -/
  rr : Nat := 0
  /-- Length notices on their way (R226). -/
  notices : List Notice := []
  /-- Rebuilds asked of the gateway engine (R190): consumer port and item. -/
  rebuilds : List (Nat × QItem) := []
  /-- The next hand-over is left unserved (Table 6-12). -/
  unserved : Bool := false
  deriving DecidableEq, Repr

/-! ### Planes -/

/-- Runtime state of a berth: bytes 0x28–0x3F of Table 7-1, but for ARRIVED. `fresh` is FRESH or OCTETS. -/
structure BerthRt where
  tokens : Nat := 0
  meterStroke : Nat := 0
  blocked : Bool := false
  freshExh : Bool := false
  fresh : Nat := 0
  passFrames : Nat := 0
  drop : Nat := 0
  authFail : Nat := 0
  late : Nat := 0
  miss : Nat := 0
  deriving DecidableEq, Repr

/-- A VLAN entry (Table 8-1). -/
structure VlanEntry where
  member : Nat := 0
  valid : Bool := false
  floodMc : Bool := false
  floodUc : Bool := false
  learnEn : Bool := false
  memberIq0 : Bool := false
  deriving DecidableEq, Repr

/-- A forwarding entry (Table 8-2). -/
structure FwdEntry where
  da : Nat := 0
  vid : Nat := 0
  valid : Bool := false
  static : Bool := false
  img : Bool := false
  destIq0 : Bool := false
  dest : Nat := 0
  age : Nat := 0
  stamp : Nat := 0
  gen : Nat := 0
  deriving DecidableEq, Repr

/-- A location of the forwarding table as R304 codes it: 4 × bucket + way, or an index of the overflow store. -/
structure Loc where
  ovf : Bool
  idx : Nat
  deriving DecidableEq, Repr

/-- A bank of the lookup tables: the VLAN table, the forwarding table by location 4 × bucket + way, and the overflow store. -/
structure LkpBank where
  vlan : SMap VlanEntry := []
  fwd : SMap FwdEntry := []
  ovf : SMap FwdEntry := []
  deriving DecidableEq, Repr

/-- The lookup tables of a plane, with the generation counter and the pending register. -/
structure LkpImg where
  active : LkpBank := {}
  idle : LkpBank := {}
  gen : Nat := 0
  pend : Option FwdEntry := none
  deriving DecidableEq, Repr

/-- The copied state of a plane (Table 4-5): berth runtime state, the PDU buffer store of Table 5-3 and the lookup tables. -/
structure PlaneImg where
  bth : SMap BerthRt := []
  pdu : Mem := []
  lkp : LkpImg := {}
  deriving DecidableEq, Repr

/-- A plane's own tide memories and berth configuration (R14). Byte i of the configuration of berth n is at 64 n + i, i < 0x28. -/
structure PlaneMem where
  active : Mem := []
  shadow : Mem := []
  cfg : Mem := []
  valid : List Nat := []
  deriving DecidableEq, Repr

/-- A delta on its way to the standby (R149, R150): the changed lines, and the image from which each is sent. -/
structure Delta where
  stroke : Nat
  lines : List Nat
  img : PlaneImg
  claim : Nat
  arrived : Bool := false
  crcOk : Bool := true
  deriving DecidableEq, Repr

/-- What a plane holds beside its page. -/
structure PlaneSt where
  /-- The decision history, newest first (R138). -/
  history : List Rec := []
  /-- Check-word mismatches of the current stroke (R140). -/
  mismatches : Nat := 0
  img : PlaneImg := {}
  /-- The plane's own tide memories and berth configuration where they may differ from those of the acting plane: while it takes no writes
  (R161), and after a copy that a write overtook. `none`: they are equal to them (R14). -/
  own : Option PlaneMem := none
  /-- The 64-byte lines of copied state changed in the current stroke (R149). -/
  changed : List Nat := []
  /-- The delta received and not yet committed. -/
  delta : Option Delta := none
  /-- Berths whose transmit freshness is still to be advanced at first use after D (R151): `none` before any takeover,
  otherwise the berths already advanced. -/
  skipped : Option (List Nat) := none
  /-- Time, in elapsed ns, of the entry into OUT. -/
  outAt : Nat := 0
  /-- Whether the PLL is out of lock after error 0x05 (R160). -/
  pllLost : Bool := false
  /-- Whether the logic self-test runs. -/
  testing : Bool := false
  /-- Whether a REJOIN came while the self-test ran: it acts when the test passes. -/
  rejoinAsked : Bool := false
  /-- Whether the full copy waits for the next stroke boundary (R162). -/
  rejoinDue : Bool := false
  /-- Elapsed ns since which it waits. -/
  rejoinAt : Nat := 0
  /-- Whether the full copy runs. -/
  copying : Bool := false
  /-- Harbour time of the boundary at which the copy began. -/
  copyFrom : Nat := 0
  /-- Whether the queue occupancy reload of R153 runs. -/
  reloading : Bool := false
  deriving DecidableEq, Repr

/-! ### Tide control -/

/-- A granted low tide window (R116): KIND, target, and its end as harbour time. -/
structure Window where
  kind : Nat
  target : Nat
  fin : Nat
  /-- Harbour time at which it began. -/
  from_ : Nat := 0
  /-- Whether it has served its slice, or a TDR has taken it (R658). -/
  served : Bool := false
  deriving DecidableEq, Repr

/-- Tide control. -/
structure TidSt where
  /-- Active and shadow tide memory of the acting plane, and of every plane that has no contents of its own (R14). -/
  active : Mem := []
  shadow : Mem := []
  /-- Whether the active memory holds an image. -/
  hasActive : Bool := false
  /-- Bytes loaded: the highest staged address plus one. -/
  loadedLen : Nat := 0
  /-- GEN of the image key as handed over when verification began (R537). -/
  verGen : Nat := 0
  /-- Tide boundaries an armed swap has waited. -/
  waited : Nat := 0
  /-- Elapsed ns of the ARM: a swap takes place at a boundary after it (R103). -/
  armedAt : Nat := 0
  /-- Staging writes held for the new shadow (Table 3-7): address and word. -/
  held : List (Nat × Nat) := []
  /-- Tide boundaries the active image has passed while RUNNING (TID_SNAP_TIDES). -/
  tides : Nat := 0
  /-- Granted low tide windows (R116). -/
  windows : List Window := []
  /-- Arrival flags of berths (R125), computed in step by both planes. -/
  arrived : List Nat := []
  /-- The stroke whose actions are being issued, and the index in ACTIONS of the next action. -/
  curStroke : Nat := 0
  nextAction : Nat := 0
  /-- The issue of TRIG actions (R456): the stroke whose TRIG actions are issued next, how many of its actions have been passed, whether
  the stroke is the first one executed, and whether its actions are those of the armed image. -/
  trigStroke : Nat := 0
  trigIdx : Nat := 0
  trigFirst : Bool := false
  trigShadow : Bool := false
  /-- Harbour time of the last swap whose SWAP_DONE is still to come. -/
  swapAt : Option Nat := none
  /-- Planes with an uncorrected tide memory error in the present stroke (Table 3-9). -/
  memErr : List Nat := []
  /-- EMITs that wait for their queue occupancy line (R156): action operand, slot position and global stroke. -/
  late : List (Nat × Nat × Nat) := []
  /-- Shadow offset and length of the FETCH that runs (R99). -/
  fetch : Nat × Nat := (0, 0)
  /-- Whether an image has been activated since the last commit boundary: RUN in force at a boundary then applies (Table 3-9). -/
  runDue : Bool := false
  deriving DecidableEq, Repr

/-- A gate and shaper view of a quay: open mask and scheduled-class mask (R91, R123). -/
structure GateSt where
  openMask : Nat := 0xFF
  schedMask : Nat := 0
  /-- Harbour time of the GATE action that last opened a scheduled-class queue (R384). -/
  opened : Option Nat := none
  deriving DecidableEq, Repr

/-! ### Berths, gateway, lookup -/

/-- The berth block: configuration bytes and valid berths of the acting plane (as `TidSt.active`), staging slots and the pending command. -/
structure BthSt where
  /-- Configuration bytes: byte i of berth n at 64 n + i, i < 0x28. -/
  cfg : Mem := []
  valid : List Nat := []
  /-- Staging slots: berth and its staged configuration bytes. -/
  slots : List (Nat × List Byte) := []
  /-- The command of BTH_CMD in progress: OP and berth. -/
  cmd : Option (Nat × Nat) := none
  /-- The stroke boundary at which CLR_ALL_STATS began, in elapsed ns. -/
  clrAllAt : Option Nat := none
  /-- Shaper credits, keyed 8 q + i, in units of 10⁻⁵ bit (R266). -/
  credit : SMap Int := []
  /-- Elapsed ns up to which the credits of a quay are counted, by quay. -/
  creditAt : SMap Nat := []
  deriving DecidableEq, Repr

/-- The job the gateway engine works on: its item, whether its signal maps are still to be applied, and its tunnel records still to be
run. -/
structure SgwJob where
  item : QItem
  maps : Bool
  tunnels : List Nat
  deriving DecidableEq, Repr

/-- The gateway engine. -/
structure SgwSt where
  /-- The IQ2 intake queue (R171). -/
  jobs : CQueue QItem := {}
  cur : Option SgwJob := none
  /-- The next REASON 5 record carries a wrong check word (R208, site 0x0002). -/
  badCheck : Bool := false
  /-- Closed PDUs by index, waiting for their EMIT (R187). -/
  closed : SMap QItem := []
  /-- PACKs not yet complete: PDU, item, and the harbour time of completion. -/
  packing : List (Nat × QItem × Nat) := []
  /-- PDUs whose packed area holds a frame's bytes, with the frame it belongs to (R191). -/
  packed : SMap Nat := []
  /-- The map the background sweep visits next. -/
  sweep : Nat := 0
  deriving DecidableEq, Repr

/-- A lookup command as LKP_CMD_GO copies it (R300). -/
structure LkpCmd where
  op : Nat
  tag : Nat
  cond : Bool
  bank : Nat
  table : Nat
  keyLo : Nat
  keyHi : Nat
  vid : Nat
  data : List Nat
  gen : Nat
  deriving DecidableEq, Repr

/-- A lookup result (R304). `data` is empty where the command's outcome names no entry. -/
structure LkpRes where
  tag : Nat
  status : Nat
  ovf : Bool
  loc : Nat
  data : List Nat
  deriving DecidableEq, Repr

/-- The lookup block's queues and engines. -/
structure LkpSt where
  cmds : List LkpCmd := []
  /-- Commands due at the present stroke boundary (R301). -/
  due : Nat := 0
  /-- A FLUSH_DYNAMIC or OPEN_REBUILD in progress: the result it will give. -/
  long : Option LkpRes := none
  results : CQueue LkpRes := {}
  learn : CQueue LearnReq := {}
  /-- Static entries of the incoming image not yet inserted (R297). -/
  preload : List FwdEntry := []
  /-- Whether a preload is under way, whose end raises PRELOAD_DONE. -/
  preloading : Bool := false
  walkPos : Nat := 0
  deriving DecidableEq, Repr

end Sys2Proof.Machine
end

