-- ==== Sys2Proof/Machine/CQueue.lean ====
section
/-! DEFINITION. The control queues with gap markers (R234–R238). -/

namespace Sys2Proof.Machine

/-- Items held. -/
def CQueue.depth {α : Type} (q : CQueue α) : Nat := q.items.length + q.after.length

/-- Count one more loss in a gap marker (Table 6-5). -/
def gapMore (g : Gap) : Gap :=
  if g.count + 1 < 65535 then { g with count := g.count + 1 } else { g with count := 65535, sat := true }

/-- Push an item into a queue of `n` entries at a harbour time (Tables 6-4 and 6-5). Answers the queue, whether the item was taken,
and whether a gap marker was created. -/
def CQueue.push {α : Type} (q : CQueue α) (n : Nat) (x : α) (time : Nat) : CQueue α × Bool × Bool :=
  if q.depth < n then
    match q.gap with
    | none => ({ q with items := q.items ++ [x] }, true, false)
    | some _ => ({ q with after := q.after ++ [x] }, true, false)
  else
    match q.gap with
    | none => ({ q with gap := some { count := 1, time := time } }, false, true)
    | some g =>
      ({ q with gap := some (if q.after.isEmpty then gapMore g else { gapMore g with split := true }) }, false, false)

/-- Pop a queue: the oldest item, or the marker when it is at the head (Table 6-5). -/
def CQueue.pop {α : Type} (q : CQueue α) : Popped α × CQueue α :=
  match q.items with
  | x :: xs => (.item x, { q with items := xs })
  | [] =>
    match q.gap with
    | some g => (.marker g, { items := q.after, gap := none, after := [] })
    | none =>
      match q.after with
      | x :: xs => (.item x, { q with after := xs })
      | [] => (.empty, q)

/-- Pop a queue whose head word is uncorrected: a marker takes the word's place, merged into a pending marker directly behind it
(R234, Table 6-5). Answers also whether a marker was created. -/
def CQueue.popBad {α : Type} (q : CQueue α) (time : Nat) : Popped α × CQueue α × Bool :=
  match q.items with
  | [] => match q.pop with
    | (p, q) => (p, q, false)
  | _ :: xs =>
    match q.gap with
    | none => (.marker { count := 1, time := time }, { q with items := xs }, true)
    | some g =>
      if xs.isEmpty then (.marker (gapMore g), { items := q.after, gap := none, after := [] }, false)
      else (.marker { count := 1, time := time }, { q with items := xs }, true)

/-- Every item held, oldest first. -/
def CQueue.all {α : Type} (q : CQueue α) : List α := q.items ++ q.after

end Sys2Proof.Machine
end

