-- ==== Sys2Proof/Machine/Crc.lean ====
section
/-! DEFINITION. The check sums of the block: CRC-32C (R282) and the check word's CRC-16 (R136). -/

namespace Sys2Proof.Machine

/-- One bit step of the reflected Castagnoli CRC (R282). -/
def crc32cBit (c : Nat) : Nat := if c % 2 = 1 then (c / 2) ^^^ 0x82F63B78 else c / 2

/-- One byte of the reflected Castagnoli CRC. -/
def crc32cByte (c b : Nat) : Nat :=
  crc32cBit (crc32cBit (crc32cBit (crc32cBit (crc32cBit (crc32cBit (crc32cBit (crc32cBit (c ^^^ b))))))))

/-- CRC-32C: Castagnoli, reflected, initial value and final XOR 0xFFFF_FFFF (R282). -/
def crc32c (bs : List Nat) : Nat := (bs.foldl crc32cByte 0xFFFFFFFF) ^^^ 0xFFFFFFFF

/-- One bit step of the CRC-16 with polynomial 0x8BB7, most significant bit first (R136). -/
def crc16Bit (c : Nat) : Nat := if c ≥ 0x8000 then ((c * 2) % 0x10000) ^^^ 0x8BB7 else c * 2

/-- One byte of the CRC-16 of R136. -/
def crc16Byte (c b : Nat) : Nat :=
  crc16Bit (crc16Bit (crc16Bit (crc16Bit (crc16Bit (crc16Bit (crc16Bit (crc16Bit (c ^^^ (b * 256)))))))))

/-- The CRC-16 of R136: initial value 0xFFFF, no reflection, no final XOR. -/
def crc16 (bs : List Nat) : Nat := bs.foldl crc16Byte 0xFFFF

/-- The bytes of a value, least significant first. -/
def leBytes : Nat → Nat → List Nat
  | 0, _ => []
  | n + 1, v => v % 256 :: leBytes n (v / 256)

/-- The bytes of a value, most significant first. -/
def beBytes (n v : Nat) : List Nat := (leBytes n v).reverse

/-- The value of bytes given least significant first. -/
def ofLe : List Nat → Nat
  | [] => 0
  | b :: bs => b % 256 + 256 * ofLe bs

/-- The value of bytes given most significant first. -/
def ofBe (bs : List Nat) : Nat := ofLe bs.reverse

end Sys2Proof.Machine
end

