-- ==== Sys2Proof/Machine/Reg.lean ====
section
/-! DEFINITION. Register fields: what a row of a register table says of a field, the field's place in the register file,
and the two operations that read and write it. -/

namespace Sys2Proof.Machine

/-- The access codes of Table 2-3 (R52). Reserved bits have no field. -/
inductive Access where
  | rw | ro | wo | w1c | w1s
  deriving DecidableEq, Repr

/-- The When classes of Table 2-4 (R56); `none` where the table gives a dash. -/
inductive WhenClass where
  | staged | live | locked | none
  deriving DecidableEq, Repr

/-- The Restore entries (R66). -/
inductive Restore where
  | kept | literal | fixed
  deriving DecidableEq, Repr

/-- One dimension of an indexed field: its indices are `first` to `first + count - 1`, `stride` bits apart. -/
structure Dim where
  first : Nat
  count : Nat
  stride : Nat
  deriving DecidableEq, Repr

/-- A row of a register table. `base` is the BAR0 byte address of the register at index 0 of every dimension. -/
structure Fld where
  name : String
  base : Nat
  lo : Nat
  width : Nat
  acc : Access
  whn : WhenClass
  restore : Restore
  /-- Whether the field is a counter that the CNT_CLR register of its page clears. -/
  counter : Bool := false
  /-- The value of the field after reset: the table's literal, or the factory value of a kept field (R66, R68). -/
  dflt : List Nat → Nat
  dims : List Dim := []

/-- The displacement of an indexed field, in bits. -/
def dimOffset : List Dim → List Nat → Nat
  | d :: ds, i :: ix => i * d.stride + dimOffset ds ix
  | _, _ => 0

/-- The home of a page: the block that holds it, as a number. DEV 3, SUP 0, HBR 1, MGP 2, HCK 4, LOG 5, CPH 6, KWL 7, PMA and PMB 8,
TID 10, SGW 11, LKP 12, BTH 13, CST 14, QYC and QYE 16, LFE 17, RET 18, PWK 19 (Table 2-6). -/
def pageHome (pg : Nat) : Nat :=
  if pg = 0 then 3
  else if pg < 0x100 then (if pg / 16 = 9 then 8 else pg / 16)
  else if pg < 0x200 then 16
  else if pg < 0x300 then 17
  else if pg < 0x304 then 18
  else 19

/-- The home of a page's common header: its block's home, and 20 for the headers of the quay, front-end, RET and PWK pages. -/
def headHome (pg : Nat) : Nat := if pg < 0x100 then pageHome pg else 20

/-- The home of a field: that of its page's header for a field of the header, otherwise that of its table's page. -/
def Fld.home (f : Fld) (ix : List Nat) : Nat := if f.base < 0x80 then headHome (ix.headD 0) else pageHome (f.base / 4096)

/-- The bit address of a field at its indices in the register space. -/
def Fld.addr (f : Fld) (ix : List Nat) : Nat := f.base * 8 + f.lo + dimOffset f.dims ix

/-- The key of a field in the register file: its home and its bit address. -/
def Fld.key (f : Fld) (ix : List Nat) : Nat := f.home ix * 2 ^ 40 + f.addr ix % 2 ^ 40

/-- The page of a key of the register file. -/
def keyPage (k : Nat) : Nat := k % 2 ^ 40 / (4096 * 8)

/-- The byte address of the register that holds a key of the register file. -/
def keyWord (k : Nat) : Nat := k % 2 ^ 40 / 32 * 4

/-- The register file lists the fields that differ from their value after reset. -/
abbrev RegFile := SMap Nat

/-- The value of a field. -/
def RegFile.get (r : RegFile) (f : Fld) (ix : List Nat) : Nat :=
  SMap.getD r (f.key ix) (f.dflt ix) % 2 ^ f.width

/-- Write a field: the value is taken modulo the field's width. -/
def RegFile.set (r : RegFile) (f : Fld) (ix : List Nat) (v : Nat) : RegFile :=
  SMap.setD r (f.dflt ix) (f.key ix) (v % 2 ^ f.width)

/-- The indices at which a field starts within the 32 bits at bit address `w`; `cur` is the bit address reached
so far. -/
def Fld.indicesIn : List Dim → Nat → Nat → List (List Nat)
  | [], cur, w => if cur / 32 = w / 32 then [[]] else []
  | d :: ds, cur, w =>
    if d.stride < 32 then
      (List.range d.count).flatMap fun j =>
        (Fld.indicesIn ds (cur + (d.first + j) * d.stride) w).map (fun ix => (d.first + j) :: ix)
    else
      let i := (w / 32 * 32 + 31 - cur) / d.stride
      if d.first ≤ i ∧ i < d.first + d.count ∧ cur ≤ w / 32 * 32 + 31 then
        (Fld.indicesIn ds (cur + i * d.stride) w).map (fun ix => i :: ix)
      else []

/-- The instances of a field that lie in the register word at byte address `a`. -/
def Fld.at (f : Fld) (a : Nat) : List (List Nat) :=
  Fld.indicesIn f.dims (f.base * 8 + f.lo) (a * 8)

/-- The BAR0 page number of a field at its indices. -/
def Fld.page (f : Fld) (ix : List Nat) : Nat := f.addr ix / (4096 * 8)

/-- Bit `i` of a value. -/
def bitOf (v i : Nat) : Nat := v / 2 ^ i % 2

/-- Bits `hi` to `lo` of a value. -/
def bitsOf (v hi lo : Nat) : Nat := v / 2 ^ lo % 2 ^ (hi + 1 - lo)

/-- Set bit `i` of a value. -/
def setBitOf (v i : Nat) : Nat := v ||| 2 ^ i

/-- Clear bit `i` of a value. -/
def clearBitOf (v i : Nat) : Nat := if bitOf v i = 1 then v - 2 ^ i else v

/-- Clear in a value the bits that are 1 in a mask of `n` bits. -/
def clearMask (v m n : Nat) : Nat := v &&& ((2 ^ n - 1) ^^^ (m % 2 ^ n))

end Sys2Proof.Machine
end

