-- ==== Sys2Proof/Machine/Image.lean ====
section
/-! DEFINITION. The `.pbw` image as the tide memory holds it: header, directory and records of Tables 3-1 to 3-5 and the
records that the other chapters define, read from the memory. -/

namespace Sys2Proof.Machine

/-- A byte of a memory whose unlisted bytes are 0. -/
def Mem.byte (m : Mem) (a : Nat) : Nat := (SMap.getD m a 0#8).toNat

/-- `n` bytes of a memory from address `a`, as numbers. -/
def Mem.bytes (m : Mem) (a n : Nat) : List Nat := (List.range n).map fun i => Mem.byte m (a + i)

/-- A little-endian value of `n` bytes (R83). -/
def Mem.le (m : Mem) (a n : Nat) : Nat := ofLe (Mem.bytes m a n)

/-- Write one byte of a memory whose unlisted bytes are 0. -/
def Mem.put (m : Mem) (a : Nat) (b : Nat) : Mem := SMap.setD m 0#8 a (BitVec.ofNat 8 b)

/-- Write bytes from address `a` on. -/
def Mem.puts : Mem → Nat → List Nat → Mem
  | m, _, [] => m
  | m, a, b :: bs => Mem.puts (Mem.put m a b) (a + 1) bs

/-- Replace a run of bytes from address `a` on: what `Mem.puts` does, in one pass over the cells. -/
def Mem.splice (m : Mem) (a : Nat) (bytes : List Nat) : Mem :=
  m.filter (fun c => decide (c.1 < a))
    ++ (bytes.zipIdx.filter fun b => b.1 % 256 != 0).map (fun b => (a + b.2, BitVec.ofNat 8 b.1))
    ++ m.filter (fun c => decide (a + bytes.length ≤ c.1))

/-- The form a memory keeps: rising addresses and no listed byte equal to what an unlisted address reads as. -/
def Memory.wf (m : Mem) : Bool := SMap.rising m && m.all (fun p => p.2 != 0#8)

/-! ### Header and directory -/

/-- Fields of Table 3-1. -/
def imgLen (m : Mem) : Nat := Mem.le m 0x28 4
/-- TIDE_LEN. -/
def imgTideLen (m : Mem) : Nat := Mem.le m 0x2C 4
/-- IMAGE_SEQ. -/
def imgSeq (m : Mem) : Nat := Mem.le m 0x30 4
/-- KEY_SLOT. -/
def imgKeySlot (m : Mem) : Nat := Mem.le m 0x34 2
/-- SECTION_COUNT. -/
def imgSections (m : Mem) : Nat := Mem.le m 0x36 2
/-- ACTION_COUNT. -/
def imgActions (m : Mem) : Nat := Mem.le m 0x38 4
/-- CRC. -/
def imgCrc (m : Mem) : Nat := Mem.le m 0x3C 4

/-- A directory entry (Table 3-2). -/
structure Section where
  ty : Nat
  entry : Nat
  ofs : Nat
  len : Nat
  count : Nat
  deriving DecidableEq, Repr

/-- Directory entry `i`, at 0x80 + 16 i. -/
def imgDir (m : Mem) (i : Nat) : Section :=
  let a := 0x80 + 16 * i
  ⟨Mem.le m a 2, Mem.le m (a + 2) 2, Mem.le m (a + 4) 4, Mem.le m (a + 8) 4, Mem.le m (a + 12) 4⟩

/-- All directory entries. -/
def imgDirs (m : Mem) : List Section := (List.range (imgSections m)).map (imgDir m)

/-- The section of a type; an absent section is empty (R84). -/
def imgSection (m : Mem) (ty : Nat) : Section :=
  match (imgDirs m).find? (fun e => e.ty == ty) with
  | some e => e
  | none => ⟨ty, 0, 0, 0, 0⟩

/-! ### Strokes and actions -/

/-- An action word (R88). -/
structure ActionWord where
  ty : Nat
  slot : Nat
  operand : Nat
  deriving DecidableEq, Repr

/-- Action `i` of ACTIONS. -/
def imgAction (m : Mem) (i : Nat) : ActionWord :=
  let w := Mem.le m ((imgSection m 2).ofs + 8 * i) 8
  ⟨w / 2 ^ 60, w / 2 ^ 50 % 1024, w % 2 ^ 50⟩

/-- The STROKE_INDEX entry of stroke `s`: first action and count (R87), with bits [31:30]. -/
def imgStroke (m : Mem) (s : Nat) : Nat × Nat × Nat :=
  let w := Mem.le m ((imgSection m 1).ofs + 4 * s) 4
  (w / 2 ^ 12 % 2 ^ 18, w % 2 ^ 12, w / 2 ^ 30)

/-! ### Records -/

/-- A berth block's configuration (Table 7-1). -/
structure BerthCfg where
  mkind : Nat
  srcPort : Nat
  b02 : List Nat     -- bytes 0x02–0x0B
  ports : Nat
  out : Nat
  flags : Nat
  tag : Nat
  cph : Nat
  newVid : Nat
  keyRef : Nat
  rate : Nat
  burst : Nat
  maxSdu : Nat
  lead : Nat
  deriving DecidableEq, Repr

/-- Read a berth block's configuration from its first 40 bytes. -/
def berthOfBytes (b : List Nat) : BerthCfg :=
  let le := fun (a n : Nat) => ofLe ((b.drop a).take n)
  { mkind := le 0 1, srcPort := le 1 1, b02 := (b.drop 2).take 10, ports := le 0x0C 8, out := le 0x14 1, flags := le 0x15 1,
    tag := le 0x16 1, cph := le 0x17 1, newVid := le 0x18 2, keyRef := le 0x1A 2, rate := le 0x1C 3, burst := le 0x1F 3,
    maxSdu := le 0x22 2, lead := le 0x24 3 }

/-- Named bits of Table 7-1. -/
def BerthCfg.sched (b : BerthCfg) : Bool := bitOf b.flags 0 == 1
/-- BQ. -/
def BerthCfg.bq (b : BerthCfg) : Bool := bitOf b.flags 1 == 1
/-- LOOKUP. -/
def BerthCfg.lookup (b : BerthCfg) : Bool := bitOf b.flags 2 == 1
/-- VBR. -/
def BerthCfg.vbr (b : BerthCfg) : Bool := bitOf b.flags 3 == 1
/-- AUTH_RX. -/
def BerthCfg.authRx (b : BerthCfg) : Bool := bitOf b.flags 4 == 1
/-- AUTH_TX. -/
def BerthCfg.authTx (b : BerthCfg) : Bool := bitOf b.flags 5 == 1
/-- DL_STRICT. -/
def BerthCfg.dlStrict (b : BerthCfg) : Bool := bitOf b.flags 6 == 1
/-- CARRY. -/
def BerthCfg.carry (b : BerthCfg) : Bool := bitOf b.flags 7 == 1
/-- QUEUE. -/
def BerthCfg.queue (b : BerthCfg) : Nat := b.out % 8
/-- HOST. -/
def BerthCfg.host (b : BerthCfg) : Bool := bitOf b.out 3 == 1
/-- METER_FRAMES. -/
def BerthCfg.meterFrames (b : BerthCfg) : Bool := bitOf b.out 4 == 1
/-- BLOCK_EN. -/
def BerthCfg.blockEn (b : BerthCfg) : Bool := bitOf b.out 5 == 1
/-- DA, first byte on the line in bits [47:40]. -/
def BerthCfg.da (b : BerthCfg) : Nat := ofLe (b.b02.take 6)
/-- VID word of the Ethernet layout. -/
def BerthCfg.vidWord (b : BerthCfg) : Nat := ofLe ((b.b02.drop 6).take 2)
/-- PCP_SET. -/
def BerthCfg.pcpSet (b : BerthCfg) : Nat := (b.b02.drop 8).headD 0
/-- ID_LO word of the CAN layout. -/
def BerthCfg.idLo (b : BerthCfg) : Nat := ofLe (b.b02.take 4)
/-- ID_HI word. -/
def BerthCfg.idHi (b : BerthCfg) : Nat := ofLe ((b.b02.drop 4).take 4)
/-- FMT_SET. -/
def BerthCfg.fmtSet (b : BerthCfg) : Nat := (b.b02.drop 8).headD 0
/-- VCID. -/
def BerthCfg.vcid (b : BerthCfg) : Nat := (b.b02.drop 9).headD 0

/-- Presence of berth `b` in the bitmap of BERTHS (R90). -/
def imgBerthPresent (m : Mem) (b : Nat) : Bool :=
  let s := imgSection m 3
  s.len != 0 && bitOf (Mem.byte m (s.ofs + b / 8)) (b % 8) == 1

/-- The valid berths of an image, ascending. -/
def imgBerths (m : Mem) : List Nat :=
  if (imgSection m 3).len = 0 then [] else (List.range 16384).filter (imgBerthPresent m)

/-- The 64 bytes of the block at position `k` of BERTHS. -/
def imgBerthBlock (m : Mem) (k : Nat) : List Nat := Mem.bytes m ((imgSection m 3).ofs + 2048 + 64 * k) 64

/-- A signal map (Table 5-4). -/
structure SigMap where
  srcBerth : Nat
  srcPos : Nat
  width : Nat
  flags : Nat
  dstPdu : Nat
  dstPos : Nat
  srcUpd : Nat
  dstUpd : Nat
  timeout : Nat
  dflt : Nat
  deriving DecidableEq, Repr

/-- Signal map `i` of an image. -/
def imgMap (m : Mem) (i : Nat) : SigMap :=
  let a := (imgSection m 4).ofs + 24 * i
  ⟨Mem.le m a 2, Mem.le m (a + 2) 2, Mem.byte m (a + 4), Mem.byte m (a + 5), Mem.le m (a + 6) 2, Mem.le m (a + 8) 2,
   Mem.le m (a + 10) 2, Mem.le m (a + 12) 2, Mem.le m (a + 14) 2, Mem.le m (a + 16) 8⟩

/-- The signal maps with their numbers. -/
def imgMaps (m : Mem) : List (Nat × SigMap) := (List.range (imgSection m 4).count).map fun i => (i, imgMap m i)

/-- A PDU layout (Table 5-5). -/
structure PduLayout where
  pdu : Nat
  kind : Nat
  flags : Nat
  length : Nat
  base : Nat
  canId : Nat
  sdt : Nat
  vcid : Nat
  hdrTunnel : Nat
  af : Nat
  txBerth : Nat
  deriving DecidableEq, Repr

/-- Layout record `i`. -/
def imgLayoutAt (m : Mem) (i : Nat) : PduLayout :=
  let a := (imgSection m 5).ofs + 32 * i
  ⟨Mem.le m a 2, Mem.byte m (a + 2), Mem.byte m (a + 3), Mem.le m (a + 4) 2, Mem.le m (a + 6) 2, Mem.le m (a + 8) 4,
   Mem.byte m (a + 12), Mem.byte m (a + 13), Mem.le m (a + 14) 2, Mem.le m (a + 16) 4, Mem.le m (a + 20) 2⟩

/-- Every layout record. -/
def imgLayouts (m : Mem) : List PduLayout := (List.range (imgSection m 5).count).map (imgLayoutAt m)

/-- The layout of a PDU index. -/
def imgLayout (m : Mem) (pdu : Nat) : Option PduLayout := (imgLayouts m).find? (fun l => l.pdu == pdu)

/-- Lines of one area of a layout (Table 5-3). -/
def PduLayout.lines (l : PduLayout) : Nat := max 1 ((l.length + 63) / 64)

/-- A tunnel record (Table 5-7). -/
structure Tunnel where
  kind : Nat
  flags : Nat
  busId : Nat
  b03 : Nat
  srcBerth : Nat
  target : Nat
  streamId : List Nat
  da : List Nat
  sa : List Nat
  tci : Nat
  etype : Nat
  maxLen : Nat
  newId : Nat
  newFormat : Nat
  newBrs : Nat
  rest : List Nat
  deriving DecidableEq, Repr

/-- Tunnel record `t`. -/
def imgTunnel (m : Mem) (t : Nat) : Tunnel :=
  let a := (imgSection m 11).ofs + 64 * t
  ⟨Mem.byte m a, Mem.byte m (a + 1), Mem.byte m (a + 2), Mem.byte m (a + 3), Mem.le m (a + 4) 2, Mem.le m (a + 6) 2,
   Mem.bytes m (a + 8) 8, Mem.bytes m (a + 0x10) 6, Mem.bytes m (a + 0x16) 6, Mem.le m (a + 0x1C) 2, Mem.le m (a + 0x1E) 2,
   Mem.le m (a + 0x20) 2, Mem.le m (a + 0x22) 4, Mem.byte m (a + 0x26), Mem.byte m (a + 0x27), Mem.bytes m (a + 0x28) 24⟩

/-- The tunnel records with their numbers. -/
def imgTunnels (m : Mem) : List (Nat × Tunnel) := (List.range (imgSection m 11).count).map fun t => (t, imgTunnel m t)

/-- A GATE_LISTS record: quay, INIT_MASK, SCHED_MASK and its zero bytes (R91). -/
def imgGates (m : Mem) : List (Nat × Nat × Nat × Nat) :=
  let s := imgSection m 6
  (List.range s.count).map fun i =>
    let a := s.ofs + 8 * i
    (Mem.byte m a, Mem.byte m (a + 1), Mem.byte m (a + 2), Mem.le m (a + 3) 5)

/-- A TRIGGERS record: output, region, idle level and its zero bytes (R92). -/
def imgTriggers (m : Mem) : List (Nat × Nat × Nat × Nat) :=
  let s := imgSection m 7
  (List.range s.count).map fun i =>
    let a := s.ofs + 8 * i
    (Mem.byte m a, Mem.byte m (a + 1), Mem.byte m (a + 2), Mem.le m (a + 3) 5)

/-- The 16 bytes of each LOOKUP_PRELOAD record (Table 8-6). -/
def imgPreload (m : Mem) : List (List Nat) :=
  let s := imgSection m 8
  (List.range s.count).map fun i => Mem.bytes m (s.ofs + 16 * i) 16

/-- A RESERVATIONS record: port, queue, source, zero byte, cells (R93). -/
structure Reservation where
  port : Nat
  queue : Nat
  source : Nat
  b3 : Nat
  cells : Nat
  deriving DecidableEq, Repr

/-- The RESERVATIONS records. -/
def imgReservations (m : Mem) : List Reservation :=
  let s := imgSection m 9
  (List.range s.count).map fun i =>
    let a := s.ofs + 8 * i
    ⟨Mem.byte m a, Mem.byte m (a + 1), Mem.byte m (a + 2), Mem.byte m (a + 3), Mem.le m (a + 4) 4⟩

/-- The cistern source a reservation draws on: the port's cluster bank, or the pool (R93, Table 6-1). -/
def Reservation.src (r : Reservation) : Nat := if r.source = 0 then r.port / 8 else 8

/-- A WINDOWS record (R94). -/
structure WinRec where
  kind : Nat
  target : Nat
  z2 : Nat
  stroke : Nat
  slot : Nat
  len : Nat
  z14 : Nat
  deriving DecidableEq, Repr

/-- Window `i`. -/
def imgWindow (m : Mem) (i : Nat) : WinRec :=
  let a := (imgSection m 10).ofs + 16 * i
  ⟨Mem.byte m a, Mem.byte m (a + 1), Mem.le m (a + 2) 2, Mem.le m (a + 4) 4, Mem.le m (a + 8) 2, Mem.le m (a + 10) 4,
   Mem.le m (a + 14) 2⟩

/-- The WINDOWS records. -/
def imgWindows (m : Mem) : List WinRec := (List.range (imgSection m 10).count).map (imgWindow m)

/-- The cells an image reserves in a source (Floor of R217). -/
def imgFloor (m : Mem) (s : Nat) : Nat :=
  ((imgReservations m).filter (fun r => r.src == s)).foldl (fun n r => n + r.cells) 0

end Sys2Proof.Machine
end

