-- ==== Sys2Proof/Config.lean ====
section
/-! DEFINITION. What an implementation fixes and the spec does not state: constants without a body, so that nothing can be
proved of their values. -/

namespace Sys2Proof.Config

/-- A fresh unstated value: applied to a counter that the step advances. -/
opaque freeValue : Nat → Nat

/-- PG_CAPS.CAPS of a page (Table 2-2: defined in the block's chapter, and no chapter defines it). -/
opaque pageCaps : Nat → Nat

/-- DEV_REV.LOGIC, the logic die revision (Table 2-5). -/
opaque revLogic : Nat

/-- DEV_REV.IO, the I/O die revision (Table 2-5). -/
opaque revIo : Nat

/-- The 64-bit package identity (R3, Table 2-5). -/
opaque packageId : Nat

/-- The freshness field of a CANsec header (CiA 613-2, which the spec does not quote): a function of the frame's data field. -/
opaque cansecFreshness : List Nat → Nat

/-- Length of a CANsec header (CiA 613-2, which the spec does not quote). -/
opaque cansecHeaderLen : Nat

/-- The CANsec header that protection inserts: from whether the data is encrypted, the number of tag bytes and the freshness value. -/
opaque cansecHeader (conf : Bool) (tag fv : Nat) : List Nat

/-- The GCM nonce of a CANsec frame (CiA 613-2): from the frame's header bytes, its CANsec header and the freshness value. -/
opaque cansecNonce (frame header : List Nat) (fv : Nat) : List Nat

/-- The bytes of a CANsec frame that are authenticated and never encrypted (CiA 613-2): from the frame's header bytes and its CANsec header. -/
opaque cansecAad (frame header : List Nat) : List Nat

/-- Version and reserved byte of an ASAM CMP header (ASAM CMP 1.0, which the spec does not quote). -/
opaque cmpVersion : Nat

/-- The message type of an ASAM CMP header. -/
opaque cmpType : Nat

/-- The common flags of an ASAM CMP data message: from its direction. -/
opaque cmpFlags (tx : Bool) : Nat

/-- The payload type of an ASAM CMP data message: from the frame's medium. -/
opaque cmpPayloadType (medium : Nat) : Nat

/-- The bytes of an ASAM CMP payload in front of the frame's data: from medium, stored length and, for a CAN frame, its stored header. -/
opaque cmpFrameHead (medium len : Nat) (header : List Nat) : List Nat

/-- The header of an ASAM CMP vendor-specific message: from its time in ns and the length of its payload. -/
opaque cmpVendorHead (time len : Nat) : List Nat

/-- The tide stroke index of a global stroke while no image gives a tide length: R80 then names none. -/
opaque idleIndex : Nat → Nat

/-- The layout of the error history's header, which R670 does not give: from write index, record count and sequence number. -/
opaque historyHeader (index count seq : Nat) : List Nat

/-- The layout of the repair map's header, which R664 does not give: from sequence number, entry count and CRC of the entries. -/
opaque repairHeader (seq count crc : Nat) : List Nat

end Sys2Proof.Config
end

