-- ==== Sys2Proof/Machine/Pages.lean ====
section
/-! DEFINITION. The address map of the pages (Table 2-6, R75): which block, which of the block's pages and which die a page has. -/

namespace Sys2Proof.Machine

/-- A row of Table 2-6, in page numbers: the first page, the number of copies of the block, the pages of each copy, the distance
between copies, the type code, and whether the copy number is shown in PG_ID (R48). -/
structure BlockRange where
  name : String
  first : Nat
  firstInst : Nat
  insts : Nat
  pages : Nat
  blockType : Nat
  showInst : Bool
  deriving DecidableEq, Repr

/-- Table 2-6. -/
def blockRanges : List BlockRange :=
  [⟨"DEV", 0x000, 0, 1, 1, 0x001, false⟩,
   ⟨"SUP", 0x001, 0, 1, 7, 0x010, false⟩,
   ⟨"HBR", 0x010, 0, 1, 16, 0x020, false⟩,
   ⟨"MGP", 0x020, 0, 1, 2, 0x021, false⟩,
   ⟨"HCK", 0x040, 0, 1, 8, 0x030, false⟩,
   ⟨"LOG", 0x050, 0, 1, 4, 0x040, false⟩,
   ⟨"CPH", 0x060, 0, 1, 5, 0x050, false⟩,
   ⟨"KWL", 0x070, 0, 1, 4, 0x060, false⟩,
   ⟨"PMA", 0x080, 0, 1, 8, 0x070, false⟩,
   ⟨"PMB", 0x090, 0, 1, 8, 0x071, false⟩,
   ⟨"TID", 0x0A0, 0, 1, 8, 0x080, false⟩,
   ⟨"SGW", 0x0B0, 0, 1, 8, 0x090, false⟩,
   ⟨"LKP", 0x0C0, 0, 1, 4, 0x0A0, false⟩,
   ⟨"BTH", 0x0D0, 0, 1, 4, 0x0B0, false⟩,
   ⟨"CST", 0x0E0, 0, 1, 8, 0x0C0, false⟩,
   ⟨"QYC", 0x100, 0, 32, 4, 0x100, true⟩,
   ⟨"QYE", 0x180, 32, 32, 4, 0x101, true⟩,
   ⟨"LFE", 0x200, 0, 64, 1, 0x110, true⟩,
   ⟨"RET", 0x300, 0, 1, 4, 0x120, false⟩,
   ⟨"PWK", 0x304, 0, 1, 2, 0x121, false⟩]

/-- The row of Table 2-6 that holds a page. -/
def blockOf (pg : Nat) : Option BlockRange :=
  blockRanges.find? fun r => r.first ≤ pg && pg < r.first + r.insts * r.pages

/-- Whether a block occupies a page number (R53). -/
def pageExists (pg : Nat) : Bool := (blockOf pg).isSome

/-- PG_ID.BLOCK_TYPE of a page. -/
def pageBlockType (pg : Nat) : Nat := match blockOf pg with | some r => r.blockType | none => 0

/-- PG_ID.INSTANCE of a page: the quay or front-end number on QYC, QYE and LFE pages (Table 2-2). -/
def pageInstance (pg : Nat) : Nat :=
  match blockOf pg with
  | some r => if r.showInst then r.firstInst + (pg - r.first) / r.pages else 0
  | none => 0

/-- PG_ID.PAGE of a page. -/
def pageOfBlock (pg : Nat) : Nat :=
  match blockOf pg with
  | some r => (pg - r.first) % r.pages
  | none => 0

/-- Pages whose PG_CTRL.ENABLE is an enable: TID page 0 (R126), QYC and QYE page 0 (R350, R385), the LFE page (R416), LOG page 0
(R484), the CPH lane pages (R515) and HBR page 0 (R593). -/
def pageHasEnable (pg : Nat) : Bool :=
  match blockOf pg with
  | some r =>
    let p := (pg - r.first) % r.pages
    match r.name with
    | "TID" => p == 0
    | "QYC" => p == 0
    | "QYE" => p == 0
    | "LFE" => true
    | "LOG" => p == 0
    | "CPH" => p != 0
    | "HBR" => p == 0
    | _ => false
  | none => false

/-- PG_CTRL.ENABLE in factory state: 0 on LOG page 0 (R484), 1 on every other page that has an enable; a page without an
enable reads 1 (Table 2-2). -/
def pageEnableFactory (pg : Nat) : Nat := if pg = 0x050 then 0 else 1

/-- Pages on the I/O die (Table 2-6): DEV, SUP, MGP, LFE00–LFE55 and PWK. -/
def pageOnIoDie (pg : Nat) : Bool :=
  pg == 0x000 || (0x001 ≤ pg && pg ≤ 0x007) || pg == 0x020 || pg == 0x021 || (0x200 ≤ pg && pg < 0x238)
    || pg == 0x304 || pg == 0x305

/-- Pages served while the logic die is asleep (R76): the I/O die's pages and the RET pages. -/
def pageServedAsleep (pg : Nat) : Bool := pageOnIoDie pg || (0x300 ≤ pg && pg ≤ 0x303)

/-- Page numbers named in the text. -/
def pgDEV : Nat := 0x000
/-- SUP page 0. -/
def pgSUP : Nat := 0x001
/-- HBR page 0. -/
def pgHBR : Nat := 0x010
/-- MGP page 0. -/
def pgMGP : Nat := 0x020
/-- HCK page 0. -/
def pgHCK : Nat := 0x040
/-- LOG page 0. -/
def pgLOG : Nat := 0x050
/-- CPH page 0. -/
def pgCPH : Nat := 0x060
/-- KWL page 0. -/
def pgKWL : Nat := 0x070
/-- PMA page 0 for plane 0, PMB page 0 for plane 1. -/
def pgPM (x : Nat) : Nat := if x = 0 then 0x080 else 0x090
/-- TID page 0. -/
def pgTID : Nat := 0x0A0
/-- SGW page 0. -/
def pgSGW : Nat := 0x0B0
/-- LKP page 0. -/
def pgLKP : Nat := 0x0C0
/-- BTH page 0. -/
def pgBTH : Nat := 0x0D0
/-- CST page 0. -/
def pgCST : Nat := 0x0E0
/-- Page 0 of quay q: QYC for q < 32, QYE otherwise. -/
def pgQ (q : Nat) : Nat := 0x100 + 4 * q
/-- The page of front end q. -/
def pgLFE (q : Nat) : Nat := 0x200 + q
/-- RET page 0. -/
def pgRET : Nat := 0x300
/-- PWK page 0. -/
def pgPWK : Nat := 0x304

end Sys2Proof.Machine
end

