-- ==== Sys2Proof/Machine/RegsBth.lean ====
section
/-! DEFINITION. The register fields of the BTH pages (Tables 7-5 to 7-7), row by row. -/

namespace Sys2Proof.Machine

/-- Table 7-5, BTH_CMD.BERTH. -/
def BTH_CMD_BERTH : Fld :=
  { name := "BTH_CMD.BERTH", base := 0xd0080, lo := 16, width := 14, acc := .wo, whn := .live, restore := .literal, dflt := fun _ => 0 }

/-- Table 7-5, BTH_CMD.OP. -/
def BTH_CMD_OP : Fld :=
  { name := "BTH_CMD.OP", base := 0xd0080, lo := 0, width := 4, acc := .wo, whn := .live, restore := .literal, dflt := fun _ => 0 }

/-- Table 7-5, BTH_STATUS.CMD_REJECT. -/
def BTH_STATUS_CMD_REJECT : Fld :=
  { name := "BTH_STATUS.CMD_REJECT", base := 0xd0084, lo := 11, width := 1, acc := .w1c, whn := .live, restore := .literal, dflt := fun _ => 0 }

/-- Table 7-5, BTH_STATUS.CMD_BUSY. -/
def BTH_STATUS_CMD_BUSY : Fld :=
  { name := "BTH_STATUS.CMD_BUSY", base := 0xd0084, lo := 10, width := 1, acc := .ro, whn := .none, restore := .literal, dflt := fun _ => 0 }

/-- Table 7-5, BTH_STATUS.SWAP_DISCARD. -/
def BTH_STATUS_SWAP_DISCARD : Fld :=
  { name := "BTH_STATUS.SWAP_DISCARD", base := 0xd0084, lo := 9, width := 1, acc := .w1c, whn := .live, restore := .literal, dflt := fun _ => 0 }

/-- Table 7-5, BTH_STATUS.WRITE_IGNORED. -/
def BTH_STATUS_WRITE_IGNORED : Fld :=
  { name := "BTH_STATUS.WRITE_IGNORED", base := 0xd0084, lo := 8, width := 1, acc := .w1c, whn := .live, restore := .literal, dflt := fun _ => 0 }

/-- Table 7-5, BTH_STATUS.STAGE_FULL. -/
def BTH_STATUS_STAGE_FULL : Fld :=
  { name := "BTH_STATUS.STAGE_FULL", base := 0xd0084, lo := 7, width := 1, acc := .w1c, whn := .live, restore := .literal, dflt := fun _ => 0 }

/-- Table 7-5, BTH_STATUS.STAGED. -/
def BTH_STATUS_STAGED : Fld :=
  { name := "BTH_STATUS.STAGED", base := 0xd0084, lo := 0, width := 7, acc := .ro, whn := .none, restore := .literal, dflt := fun _ => 0 }

/-- Table 7-5, BTH_ACT_VALID.CNT. -/
def BTH_ACT_VALID_CNT : Fld :=
  { name := "BTH_ACT_VALID.CNT", base := 0xd0088, lo := 0, width := 15, acc := .ro, whn := .none, restore := .literal, dflt := fun _ => 0 }

/-- Table 7-5, BTH_LAST_SAT.VALID. -/
def BTH_LAST_SAT_VALID : Fld :=
  { name := "BTH_LAST_SAT.VALID", base := 0xd008c, lo := 31, width := 1, acc := .w1c, whn := .live, restore := .literal, dflt := fun _ => 0 }

/-- Table 7-5, BTH_LAST_SAT.BERTH. -/
def BTH_LAST_SAT_BERTH : Fld :=
  { name := "BTH_LAST_SAT.BERTH", base := 0xd008c, lo := 0, width := 14, acc := .ro, whn := .none, restore := .literal, dflt := fun _ => 0 }

/-- Table 7-5, BTH_LAST_BLOCK.VALID. -/
def BTH_LAST_BLOCK_VALID : Fld :=
  { name := "BTH_LAST_BLOCK.VALID", base := 0xd0090, lo := 31, width := 1, acc := .w1c, whn := .live, restore := .literal, dflt := fun _ => 0 }

/-- Table 7-5, BTH_LAST_BLOCK.BERTH. -/
def BTH_LAST_BLOCK_BERTH : Fld :=
  { name := "BTH_LAST_BLOCK.BERTH", base := 0xd0090, lo := 0, width := 14, acc := .ro, whn := .none, restore := .literal, dflt := fun _ => 0 }

/-- Table 7-5, BTH_LAST_EXH.VALID. -/
def BTH_LAST_EXH_VALID : Fld :=
  { name := "BTH_LAST_EXH.VALID", base := 0xd0094, lo := 31, width := 1, acc := .w1c, whn := .live, restore := .literal, dflt := fun _ => 0 }

/-- Table 7-5, BTH_LAST_EXH.BERTH. -/
def BTH_LAST_EXH_BERTH : Fld :=
  { name := "BTH_LAST_EXH.BERTH", base := 0xd0094, lo := 0, width := 14, acc := .ro, whn := .none, restore := .literal, dflt := fun _ => 0 }

/-- Table 7-6, BTH_CNT_NO_MATCH.CNT. -/
def BTH_CNT_NO_MATCH_CNT : Fld :=
  { name := "BTH_CNT_NO_MATCH.CNT", base := 0xd1080, lo := 0, width := 32, acc := .ro, whn := .none, restore := .literal, counter := true, dflt := fun _ => 0 }

/-- Table 7-6, BTH_CNT_FILTER.CNT. -/
def BTH_CNT_FILTER_CNT : Fld :=
  { name := "BTH_CNT_FILTER.CNT", base := 0xd1084, lo := 0, width := 32, acc := .ro, whn := .none, restore := .literal, counter := true, dflt := fun _ => 0 }

/-- Table 7-6, BTH_CNT_GATE_BLOCKED.CNT. -/
def BTH_CNT_GATE_BLOCKED_CNT : Fld :=
  { name := "BTH_CNT_GATE_BLOCKED.CNT", base := 0xd1088, lo := 0, width := 32, acc := .ro, whn := .none, restore := .literal, counter := true, dflt := fun _ => 0 }

/-- Table 7-6, BTH_CNT_METER.CNT. -/
def BTH_CNT_METER_CNT : Fld :=
  { name := "BTH_CNT_METER.CNT", base := 0xd108c, lo := 0, width := 32, acc := .ro, whn := .none, restore := .literal, counter := true, dflt := fun _ => 0 }

/-- Table 7-6, BTH_CNT_LATE_GATE.CNT. -/
def BTH_CNT_LATE_GATE_CNT : Fld :=
  { name := "BTH_CNT_LATE_GATE.CNT", base := 0xd1090, lo := 0, width := 32, acc := .ro, whn := .none, restore := .literal, counter := true, dflt := fun _ => 0 }

/-- Table 7-6, BTH_CNT_AUTH.CNT. -/
def BTH_CNT_AUTH_CNT : Fld :=
  { name := "BTH_CNT_AUTH.CNT", base := 0xd1094, lo := 0, width := 32, acc := .ro, whn := .none, restore := .literal, counter := true, dflt := fun _ => 0 }

/-- Table 7-6, BTH_CNT_FRESH.CNT. -/
def BTH_CNT_FRESH_CNT : Fld :=
  { name := "BTH_CNT_FRESH.CNT", base := 0xd1098, lo := 0, width := 32, acc := .ro, whn := .none, restore := .literal, counter := true, dflt := fun _ => 0 }

/-- Table 7-6, BTH_CNT_DL_CLOSED.CNT. -/
def BTH_CNT_DL_CLOSED_CNT : Fld :=
  { name := "BTH_CNT_DL_CLOSED.CNT", base := 0xd109c, lo := 0, width := 32, acc := .ro, whn := .none, restore := .literal, counter := true, dflt := fun _ => 0 }

/-- Table 7-6, BTH_CNT_LATE_ACCEPT.CNT. -/
def BTH_CNT_LATE_ACCEPT_CNT : Fld :=
  { name := "BTH_CNT_LATE_ACCEPT.CNT", base := 0xd10a0, lo := 0, width := 32, acc := .ro, whn := .none, restore := .literal, counter := true, dflt := fun _ => 0 }

/-- Table 7-6, BTH_CNT_STAGE_DISCARD.CNT. -/
def BTH_CNT_STAGE_DISCARD_CNT : Fld :=
  { name := "BTH_CNT_STAGE_DISCARD.CNT", base := 0xd10a4, lo := 0, width := 32, acc := .ro, whn := .none, restore := .literal, counter := true, dflt := fun _ => 0 }

/-- Table 7-6, BTH_CNT_WRITE_IGNORED.CNT. -/
def BTH_CNT_WRITE_IGNORED_CNT : Fld :=
  { name := "BTH_CNT_WRITE_IGNORED.CNT", base := 0xd10a8, lo := 0, width := 32, acc := .ro, whn := .none, restore := .literal, counter := true, dflt := fun _ => 0 }

/-- Table 7-6, BTH_CNT_CLR.ALL. -/
def BTH_CNT_CLR_ALL : Fld :=
  { name := "BTH_CNT_CLR.ALL", base := 0xd10c0, lo := 0, width := 1, acc := .w1s, whn := .live, restore := .literal, dflt := fun _ => 0 }

/-- Table 7-7, BTH_CBS.CBS_EN. -/
def BTH_CBS_CBS_EN : Fld :=
  { name := "BTH_CBS.CBS_EN", base := 0xd1c80, lo := 31, width := 1, acc := .rw, whn := .staged, restore := .kept, dflt := fun _ => 0,
    dims := [⟨32, 32, 256⟩, ⟨0, 8, 32⟩] }

/-- Table 7-7, BTH_CBS.IDLE_SLOPE. -/
def BTH_CBS_IDLE_SLOPE : Fld :=
  { name := "BTH_CBS.IDLE_SLOPE", base := 0xd1c80, lo := 0, width := 24, acc := .rw, whn := .staged, restore := .kept, dflt := fun _ => 0,
    dims := [⟨32, 32, 256⟩, ⟨0, 8, 32⟩] }

/-- The fields above, part 0. -/
def regsBth0 : List Fld :=
  [BTH_CMD_BERTH,
   BTH_CMD_OP,
   BTH_STATUS_CMD_REJECT,
   BTH_STATUS_CMD_BUSY,
   BTH_STATUS_SWAP_DISCARD,
   BTH_STATUS_WRITE_IGNORED,
   BTH_STATUS_STAGE_FULL,
   BTH_STATUS_STAGED,
   BTH_ACT_VALID_CNT,
   BTH_LAST_SAT_VALID,
   BTH_LAST_SAT_BERTH,
   BTH_LAST_BLOCK_VALID,
   BTH_LAST_BLOCK_BERTH,
   BTH_LAST_EXH_VALID,
   BTH_LAST_EXH_BERTH,
   BTH_CNT_NO_MATCH_CNT,
   BTH_CNT_FILTER_CNT,
   BTH_CNT_GATE_BLOCKED_CNT,
   BTH_CNT_METER_CNT,
   BTH_CNT_LATE_GATE_CNT,
   BTH_CNT_AUTH_CNT,
   BTH_CNT_FRESH_CNT,
   BTH_CNT_DL_CLOSED_CNT,
   BTH_CNT_LATE_ACCEPT_CNT,
   BTH_CNT_STAGE_DISCARD_CNT,
   BTH_CNT_WRITE_IGNORED_CNT,
   BTH_CNT_CLR_ALL,
   BTH_CBS_CBS_EN,
   BTH_CBS_IDLE_SLOPE]

/-- The register fields of the BTH pages (Tables 7-5 to 7-7). -/
def regsBth : List Fld := regsBth0

end Sys2Proof.Machine
end

