-- ==== Sys2Proof/Machine/RegsCph.lean ====
section
/-! DEFINITION. The register fields of the CPH pages (Tables 14-4 and 14-5), row by row. -/

namespace Sys2Proof.Machine

/-- Table 14-4, CPH_CTRL.SCHED_ONLY. -/
def CPH_CTRL_SCHED_ONLY : Fld :=
  { name := "CPH_CTRL.SCHED_ONLY", base := 0x60080, lo := 0, width := 4, acc := .rw, whn := .staged, restore := .kept, dflt := fun _ => 0 }

/-- Table 14-4, CPH_BUDGET.UNSCHED. -/
def CPH_BUDGET_UNSCHED : Fld :=
  { name := "CPH_BUDGET.UNSCHED", base := 0x60084, lo := 16, width := 12, acc := .rw, whn := .staged, restore := .kept, dflt := fun _ => 1250 }

/-- Table 14-4, CPH_BUDGET.SCHED. -/
def CPH_BUDGET_SCHED : Fld :=
  { name := "CPH_BUDGET.SCHED", base := 0x60084, lo := 0, width := 12, acc := .rw, whn := .staged, restore := .kept, dflt := fun _ => 250 }

/-- Table 14-4, CPH_STATUS.JOBQ_DEPTH. -/
def CPH_STATUS_JOBQ_DEPTH : Fld :=
  { name := "CPH_STATUS.JOBQ_DEPTH", base := 0x60088, lo := 16, width := 11, acc := .ro, whn := .none, restore := .literal, dflt := fun _ => 0 }

/-- Table 14-4, CPH_STATUS.LANE_OUT. -/
def CPH_STATUS_LANE_OUT : Fld :=
  { name := "CPH_STATUS.LANE_OUT", base := 0x60088, lo := 4, width := 4, acc := .ro, whn := .none, restore := .literal, dflt := fun _ => 0 }

/-- Table 14-4, CPH_STATUS.LANE_UP. -/
def CPH_STATUS_LANE_UP : Fld :=
  { name := "CPH_STATUS.LANE_UP", base := 0x60088, lo := 0, width := 4, acc := .ro, whn := .none, restore := .literal, dflt := fun _ => 0 }

/-- Table 14-4, CPH_PROF_A.KIND. -/
def CPH_PROF_A_KIND : Fld :=
  { name := "CPH_PROF_A.KIND", base := 0x600c0, lo := 28, width := 4, acc := .rw, whn := .staged, restore := .kept, dflt := fun _ => 0,
    dims := [⟨0, 16, 64⟩] }

/-- Table 14-4, CPH_PROF_A.KEY256. -/
def CPH_PROF_A_KEY256 : Fld :=
  { name := "CPH_PROF_A.KEY256", base := 0x600c0, lo := 27, width := 1, acc := .rw, whn := .staged, restore := .kept, dflt := fun _ => 0,
    dims := [⟨0, 16, 64⟩] }

/-- Table 14-4, CPH_PROF_A.CONF. -/
def CPH_PROF_A_CONF : Fld :=
  { name := "CPH_PROF_A.CONF", base := 0x600c0, lo := 26, width := 1, acc := .rw, whn := .staged, restore := .kept, dflt := fun _ => 0,
    dims := [⟨0, 16, 64⟩] }

/-- Table 14-4, CPH_PROF_A.SC. -/
def CPH_PROF_A_SC : Fld :=
  { name := "CPH_PROF_A.SC", base := 0x600c0, lo := 25, width := 1, acc := .rw, whn := .staged, restore := .kept, dflt := fun _ => 0,
    dims := [⟨0, 16, 64⟩] }

/-- Table 14-4, CPH_PROF_A.ES. -/
def CPH_PROF_A_ES : Fld :=
  { name := "CPH_PROF_A.ES", base := 0x600c0, lo := 24, width := 1, acc := .rw, whn := .staged, restore := .kept, dflt := fun _ => 0,
    dims := [⟨0, 16, 64⟩] }

/-- Table 14-4, CPH_PROF_A.SCB. -/
def CPH_PROF_A_SCB : Fld :=
  { name := "CPH_PROF_A.SCB", base := 0x600c0, lo := 23, width := 1, acc := .rw, whn := .staged, restore := .kept, dflt := fun _ => 0,
    dims := [⟨0, 16, 64⟩] }

/-- Table 14-4, CPH_PROF_A.TAG_BYTES. -/
def CPH_PROF_A_TAG_BYTES : Fld :=
  { name := "CPH_PROF_A.TAG_BYTES", base := 0x600c0, lo := 16, width := 5, acc := .rw, whn := .staged, restore := .kept, dflt := fun _ => 0,
    dims := [⟨0, 16, 64⟩] }

/-- Table 14-4, CPH_PROF_A.FV_BITS. -/
def CPH_PROF_A_FV_BITS : Fld :=
  { name := "CPH_PROF_A.FV_BITS", base := 0x600c0, lo := 8, width := 6, acc := .rw, whn := .staged, restore := .kept, dflt := fun _ => 0,
    dims := [⟨0, 16, 64⟩] }

/-- Table 14-4, CPH_PROF_B.WINDOW. -/
def CPH_PROF_B_WINDOW : Fld :=
  { name := "CPH_PROF_B.WINDOW", base := 0x600c4, lo := 0, width := 32, acc := .rw, whn := .staged, restore := .kept, dflt := fun _ => 0,
    dims := [⟨0, 16, 64⟩] }

/-- Table 14-4, CPH_CNT_JOBS_SCHED.CNT. -/
def CPH_CNT_JOBS_SCHED_CNT : Fld :=
  { name := "CPH_CNT_JOBS_SCHED.CNT", base := 0x60180, lo := 0, width := 32, acc := .ro, whn := .none, restore := .literal, counter := true, dflt := fun _ => 0 }

/-- Table 14-4, CPH_CNT_JOBS_UNSCHED.CNT. -/
def CPH_CNT_JOBS_UNSCHED_CNT : Fld :=
  { name := "CPH_CNT_JOBS_UNSCHED.CNT", base := 0x60184, lo := 0, width := 32, acc := .ro, whn := .none, restore := .literal, counter := true, dflt := fun _ => 0 }

/-- Table 14-4, CPH_CNT_TAG_FAIL.CNT. -/
def CPH_CNT_TAG_FAIL_CNT : Fld :=
  { name := "CPH_CNT_TAG_FAIL.CNT", base := 0x60188, lo := 0, width := 32, acc := .ro, whn := .none, restore := .literal, counter := true, dflt := fun _ => 0 }

/-- Table 14-4, CPH_CNT_CUT_FAIL.CNT. -/
def CPH_CNT_CUT_FAIL_CNT : Fld :=
  { name := "CPH_CNT_CUT_FAIL.CNT", base := 0x6018c, lo := 0, width := 32, acc := .ro, whn := .none, restore := .literal, counter := true, dflt := fun _ => 0 }

/-- Table 14-4, CPH_CNT_LATE.CNT. -/
def CPH_CNT_LATE_CNT : Fld :=
  { name := "CPH_CNT_LATE.CNT", base := 0x60190, lo := 0, width := 32, acc := .ro, whn := .none, restore := .literal, counter := true, dflt := fun _ => 0 }

/-- Table 14-4, CPH_CNT_ORPHANED.CNT. -/
def CPH_CNT_ORPHANED_CNT : Fld :=
  { name := "CPH_CNT_ORPHANED.CNT", base := 0x60194, lo := 0, width := 32, acc := .ro, whn := .none, restore := .literal, counter := true, dflt := fun _ => 0 }

/-- Table 14-4, CPH_CNT_KEY_ABSENT.CNT. -/
def CPH_CNT_KEY_ABSENT_CNT : Fld :=
  { name := "CPH_CNT_KEY_ABSENT.CNT", base := 0x60198, lo := 0, width := 32, acc := .ro, whn := .none, restore := .literal, counter := true, dflt := fun _ => 0 }

/-- Table 14-4, CPH_CNT_JOBWORD_DROP.CNT. -/
def CPH_CNT_JOBWORD_DROP_CNT : Fld :=
  { name := "CPH_CNT_JOBWORD_DROP.CNT", base := 0x6019c, lo := 0, width := 32, acc := .ro, whn := .none, restore := .literal, counter := true, dflt := fun _ => 0 }

/-- Table 14-4, CPH_CNT_JOB_DROP.CNT. -/
def CPH_CNT_JOB_DROP_CNT : Fld :=
  { name := "CPH_CNT_JOB_DROP.CNT", base := 0x601a0, lo := 0, width := 32, acc := .ro, whn := .none, restore := .literal, counter := true, dflt := fun _ => 0 }

/-- Table 14-4, CPH_CNT_FMT_DROP.CNT. -/
def CPH_CNT_FMT_DROP_CNT : Fld :=
  { name := "CPH_CNT_FMT_DROP.CNT", base := 0x601a4, lo := 0, width := 32, acc := .ro, whn := .none, restore := .literal, counter := true, dflt := fun _ => 0 }

/-- Table 14-4, CPH_CNT_ERASE.CNT. -/
def CPH_CNT_ERASE_CNT : Fld :=
  { name := "CPH_CNT_ERASE.CNT", base := 0x601a8, lo := 0, width := 32, acc := .ro, whn := .none, restore := .literal, counter := true, dflt := fun _ => 0 }

/-- Table 14-4, CPH_CNT_CLR.ALL. -/
def CPH_CNT_CLR_ALL : Fld :=
  { name := "CPH_CNT_CLR.ALL", base := 0x601c0, lo := 0, width := 1, acc := .w1s, whn := .live, restore := .literal, dflt := fun _ => 0 }

/-- Table 14-5, CPH_JOB_CFG.OP. -/
def CPH_JOB_CFG_OP : Fld :=
  { name := "CPH_JOB_CFG.OP", base := 0x61080, lo := 28, width := 4, acc := .rw, whn := .live, restore := .literal, dflt := fun _ => 0,
    dims := [⟨0, 4, 32768⟩] }

/-- Table 14-5, CPH_JOB_CFG.MODE. -/
def CPH_JOB_CFG_MODE : Fld :=
  { name := "CPH_JOB_CFG.MODE", base := 0x61080, lo := 24, width := 4, acc := .rw, whn := .live, restore := .literal, dflt := fun _ => 0,
    dims := [⟨0, 4, 32768⟩] }

/-- Table 14-5, CPH_JOB_CFG.KEY_SRC. -/
def CPH_JOB_CFG_KEY_SRC : Fld :=
  { name := "CPH_JOB_CFG.KEY_SRC", base := 0x61080, lo := 23, width := 1, acc := .rw, whn := .live, restore := .literal, dflt := fun _ => 0,
    dims := [⟨0, 4, 32768⟩] }

/-- Table 14-5, CPH_JOB_CFG.TAG_LEN. -/
def CPH_JOB_CFG_TAG_LEN : Fld :=
  { name := "CPH_JOB_CFG.TAG_LEN", base := 0x61080, lo := 16, width := 5, acc := .rw, whn := .live, restore := .literal, dflt := fun _ => 0,
    dims := [⟨0, 4, 32768⟩] }

/-- Table 14-5, CPH_JOB_CFG.KEY_SLOT. -/
def CPH_JOB_CFG_KEY_SLOT : Fld :=
  { name := "CPH_JOB_CFG.KEY_SLOT", base := 0x61080, lo := 0, width := 12, acc := .rw, whn := .live, restore := .literal, dflt := fun _ => 0,
    dims := [⟨0, 4, 32768⟩] }

/-- Table 14-5, CPH_JOB_LEN.LEN. -/
def CPH_JOB_LEN_LEN : Fld :=
  { name := "CPH_JOB_LEN.LEN", base := 0x61084, lo := 0, width := 24, acc := .rw, whn := .live, restore := .literal, dflt := fun _ => 0,
    dims := [⟨0, 4, 32768⟩] }

/-- Table 14-5, CPH_JOB_AAD.AAD. -/
def CPH_JOB_AAD_AAD : Fld :=
  { name := "CPH_JOB_AAD.AAD", base := 0x61088, lo := 0, width := 16, acc := .rw, whn := .live, restore := .literal, dflt := fun _ => 0,
    dims := [⟨0, 4, 32768⟩] }

/-- Table 14-5, CPH_JOB_SRC_LO. -/
def CPH_JOB_SRC_LO : Fld :=
  { name := "CPH_JOB_SRC_LO", base := 0x6108c, lo := 0, width := 32, acc := .rw, whn := .live, restore := .literal, dflt := fun _ => 0,
    dims := [⟨0, 4, 32768⟩] }

/-- Table 14-5, CPH_JOB_SRC_HI. -/
def CPH_JOB_SRC_HI : Fld :=
  { name := "CPH_JOB_SRC_HI", base := 0x61090, lo := 0, width := 32, acc := .rw, whn := .live, restore := .literal, dflt := fun _ => 0,
    dims := [⟨0, 4, 32768⟩] }

/-- Table 14-5, CPH_JOB_DST_LO. -/
def CPH_JOB_DST_LO : Fld :=
  { name := "CPH_JOB_DST_LO", base := 0x61094, lo := 0, width := 32, acc := .rw, whn := .live, restore := .literal, dflt := fun _ => 0,
    dims := [⟨0, 4, 32768⟩] }

/-- Table 14-5, CPH_JOB_DST_HI. -/
def CPH_JOB_DST_HI : Fld :=
  { name := "CPH_JOB_DST_HI", base := 0x61098, lo := 0, width := 32, acc := .rw, whn := .live, restore := .literal, dflt := fun _ => 0,
    dims := [⟨0, 4, 32768⟩] }

/-- Table 14-5, CPH_JOB_IV. -/
def CPH_JOB_IV : Fld :=
  { name := "CPH_JOB_IV", base := 0x6109c, lo := 0, width := 32, acc := .rw, whn := .live, restore := .literal, dflt := fun _ => 0,
    dims := [⟨0, 4, 32768⟩, ⟨0, 4, 32⟩] }

/-- Table 14-5, CPH_JOB_TAGIN. -/
def CPH_JOB_TAGIN : Fld :=
  { name := "CPH_JOB_TAGIN", base := 0x610ac, lo := 0, width := 32, acc := .rw, whn := .live, restore := .literal, dflt := fun _ => 0,
    dims := [⟨0, 4, 32768⟩, ⟨0, 4, 32⟩] }

/-- Table 14-5, CPH_JOB_GO.TAG. -/
def CPH_JOB_GO_TAG : Fld :=
  { name := "CPH_JOB_GO.TAG", base := 0x610bc, lo := 8, width := 8, acc := .wo, whn := .live, restore := .literal, dflt := fun _ => 0,
    dims := [⟨0, 4, 32768⟩] }

/-- Table 14-5, CPH_JOB_GO.GO. -/
def CPH_JOB_GO_GO : Fld :=
  { name := "CPH_JOB_GO.GO", base := 0x610bc, lo := 0, width := 1, acc := .w1s, whn := .live, restore := .literal, dflt := fun _ => 0,
    dims := [⟨0, 4, 32768⟩] }

/-- Table 14-5, CPH_KEY_IN. -/
def CPH_KEY_IN : Fld :=
  { name := "CPH_KEY_IN", base := 0x610c0, lo := 0, width := 32, acc := .wo, whn := .live, restore := .literal, dflt := fun _ => 0,
    dims := [⟨0, 4, 32768⟩, ⟨0, 8, 32⟩] }

/-- Table 14-5, CPH_KEY_CTRL.LOAD. -/
def CPH_KEY_CTRL_LOAD : Fld :=
  { name := "CPH_KEY_CTRL.LOAD", base := 0x610e0, lo := 31, width := 1, acc := .wo, whn := .live, restore := .literal, dflt := fun _ => 0,
    dims := [⟨0, 4, 32768⟩] }

/-- Table 14-5, CPH_KEY_CTRL.CLEAR. -/
def CPH_KEY_CTRL_CLEAR : Fld :=
  { name := "CPH_KEY_CTRL.CLEAR", base := 0x610e0, lo := 30, width := 1, acc := .wo, whn := .live, restore := .literal, dflt := fun _ => 0,
    dims := [⟨0, 4, 32768⟩] }

/-- Table 14-5, CPH_KEY_CTRL.KEY256. -/
def CPH_KEY_CTRL_KEY256 : Fld :=
  { name := "CPH_KEY_CTRL.KEY256", base := 0x610e0, lo := 1, width := 1, acc := .wo, whn := .live, restore := .literal, dflt := fun _ => 0,
    dims := [⟨0, 4, 32768⟩] }

/-- Table 14-5, CPH_KEY_CTRL.CUSTODY. -/
def CPH_KEY_CTRL_CUSTODY : Fld :=
  { name := "CPH_KEY_CTRL.CUSTODY", base := 0x610e0, lo := 0, width := 1, acc := .wo, whn := .live, restore := .literal, dflt := fun _ => 0,
    dims := [⟨0, 4, 32768⟩] }

/-- Table 14-5, CPH_LSTAT.INTAKE_VALID. -/
def CPH_LSTAT_INTAKE_VALID : Fld :=
  { name := "CPH_LSTAT.INTAKE_VALID", base := 0x610e4, lo := 31, width := 1, acc := .ro, whn := .none, restore := .literal, dflt := fun _ => 0,
    dims := [⟨0, 4, 32768⟩] }

/-- Table 14-5, CPH_LSTAT.INTAKE_CUSTODY. -/
def CPH_LSTAT_INTAKE_CUSTODY : Fld :=
  { name := "CPH_LSTAT.INTAKE_CUSTODY", base := 0x610e4, lo := 30, width := 1, acc := .ro, whn := .none, restore := .literal, dflt := fun _ => 0,
    dims := [⟨0, 4, 32768⟩] }

/-- Table 14-5, CPH_LSTAT.CMD_REJECT. -/
def CPH_LSTAT_CMD_REJECT : Fld :=
  { name := "CPH_LSTAT.CMD_REJECT", base := 0x610e4, lo := 8, width := 1, acc := .w1c, whn := .live, restore := .literal, dflt := fun _ => 0,
    dims := [⟨0, 4, 32768⟩] }

/-- Table 14-5, CPH_LSTAT.OUT. -/
def CPH_LSTAT_OUT : Fld :=
  { name := "CPH_LSTAT.OUT", base := 0x610e4, lo := 7, width := 1, acc := .ro, whn := .none, restore := .literal, dflt := fun _ => 0,
    dims := [⟨0, 4, 32768⟩] }

/-- Table 14-5, CPH_LSTAT.JOBQ. -/
def CPH_LSTAT_JOBQ : Fld :=
  { name := "CPH_LSTAT.JOBQ", base := 0x610e4, lo := 0, width := 5, acc := .ro, whn := .none, restore := .literal, dflt := fun _ => 0,
    dims := [⟨0, 4, 32768⟩] }

/-- Table 14-5, CPH_RES_POP.POP. -/
def CPH_RES_POP_POP : Fld :=
  { name := "CPH_RES_POP.POP", base := 0x61100, lo := 0, width := 1, acc := .w1s, whn := .live, restore := .literal, dflt := fun _ => 0,
    dims := [⟨0, 4, 32768⟩] }

/-- Table 14-5, CPH_RES_HEAD.VALID. -/
def CPH_RES_HEAD_VALID : Fld :=
  { name := "CPH_RES_HEAD.VALID", base := 0x61104, lo := 31, width := 1, acc := .ro, whn := .none, restore := .literal, dflt := fun _ => 0,
    dims := [⟨0, 4, 32768⟩] }

/-- Table 14-5, CPH_RES_HEAD.GAP. -/
def CPH_RES_HEAD_GAP : Fld :=
  { name := "CPH_RES_HEAD.GAP", base := 0x61104, lo := 30, width := 1, acc := .ro, whn := .none, restore := .literal, dflt := fun _ => 0,
    dims := [⟨0, 4, 32768⟩] }

/-- Table 14-5, CPH_RES_HEAD.STATUS. -/
def CPH_RES_HEAD_STATUS : Fld :=
  { name := "CPH_RES_HEAD.STATUS", base := 0x61104, lo := 24, width := 4, acc := .ro, whn := .none, restore := .literal, dflt := fun _ => 0,
    dims := [⟨0, 4, 32768⟩] }

/-- Table 14-5, CPH_RES_HEAD.TAG. -/
def CPH_RES_HEAD_TAG : Fld :=
  { name := "CPH_RES_HEAD.TAG", base := 0x61104, lo := 16, width := 8, acc := .ro, whn := .none, restore := .literal, dflt := fun _ => 0,
    dims := [⟨0, 4, 32768⟩] }

/-- Table 14-5, CPH_RES_HEAD.COUNT. -/
def CPH_RES_HEAD_COUNT : Fld :=
  { name := "CPH_RES_HEAD.COUNT", base := 0x61104, lo := 0, width := 16, acc := .ro, whn := .none, restore := .literal, dflt := fun _ => 0,
    dims := [⟨0, 4, 32768⟩] }

/-- Table 14-5, CPH_RES_IV. -/
def CPH_RES_IV : Fld :=
  { name := "CPH_RES_IV", base := 0x61108, lo := 0, width := 32, acc := .ro, whn := .none, restore := .literal, dflt := fun _ => 0,
    dims := [⟨0, 4, 32768⟩, ⟨0, 4, 32⟩] }

/-- Table 14-5, CPH_RES_TAG. -/
def CPH_RES_TAG : Fld :=
  { name := "CPH_RES_TAG", base := 0x61118, lo := 0, width := 32, acc := .ro, whn := .none, restore := .literal, dflt := fun _ => 0,
    dims := [⟨0, 4, 32768⟩, ⟨0, 4, 32⟩] }

/-- Table 14-5, CPH_LCNT_JOBS.CNT. -/
def CPH_LCNT_JOBS_CNT : Fld :=
  { name := "CPH_LCNT_JOBS.CNT", base := 0x61180, lo := 0, width := 32, acc := .ro, whn := .none, restore := .literal, counter := true, dflt := fun _ => 0,
    dims := [⟨0, 4, 32768⟩] }

/-- Table 14-5, CPH_LCNT_BYTES_LO. -/
def CPH_LCNT_BYTES_LO : Fld :=
  { name := "CPH_LCNT_BYTES_LO", base := 0x61184, lo := 0, width := 32, acc := .ro, whn := .none, restore := .literal, counter := true, dflt := fun _ => 0,
    dims := [⟨0, 4, 32768⟩] }

/-- Table 14-5, CPH_LCNT_BYTES_HI. -/
def CPH_LCNT_BYTES_HI : Fld :=
  { name := "CPH_LCNT_BYTES_HI", base := 0x61188, lo := 0, width := 32, acc := .ro, whn := .none, restore := .literal, counter := true, dflt := fun _ => 0,
    dims := [⟨0, 4, 32768⟩] }

/-- Table 14-5, CPH_LCNT_CMP_FAIL.CNT. -/
def CPH_LCNT_CMP_FAIL_CNT : Fld :=
  { name := "CPH_LCNT_CMP_FAIL.CNT", base := 0x6118c, lo := 0, width := 32, acc := .ro, whn := .none, restore := .literal, counter := true, dflt := fun _ => 0,
    dims := [⟨0, 4, 32768⟩] }

/-- Table 14-5, CPH_LCNT_KEY_LOAD.CNT. -/
def CPH_LCNT_KEY_LOAD_CNT : Fld :=
  { name := "CPH_LCNT_KEY_LOAD.CNT", base := 0x61190, lo := 0, width := 32, acc := .ro, whn := .none, restore := .literal, counter := true, dflt := fun _ => 0,
    dims := [⟨0, 4, 32768⟩] }

/-- Table 14-5, CPH_LCNT_HOST_ERR.CNT. -/
def CPH_LCNT_HOST_ERR_CNT : Fld :=
  { name := "CPH_LCNT_HOST_ERR.CNT", base := 0x61194, lo := 0, width := 32, acc := .ro, whn := .none, restore := .literal, counter := true, dflt := fun _ => 0,
    dims := [⟨0, 4, 32768⟩] }

/-- Table 14-5, CPH_LCNT_CLR.ALL. -/
def CPH_LCNT_CLR_ALL : Fld :=
  { name := "CPH_LCNT_CLR.ALL", base := 0x611c0, lo := 0, width := 1, acc := .w1s, whn := .live, restore := .literal, dflt := fun _ => 0,
    dims := [⟨0, 4, 32768⟩] }

/-- The fields above, part 0. -/
def regsCph0 : List Fld :=
  [CPH_CTRL_SCHED_ONLY,
   CPH_BUDGET_UNSCHED,
   CPH_BUDGET_SCHED,
   CPH_STATUS_JOBQ_DEPTH,
   CPH_STATUS_LANE_OUT,
   CPH_STATUS_LANE_UP,
   CPH_PROF_A_KIND,
   CPH_PROF_A_KEY256,
   CPH_PROF_A_CONF,
   CPH_PROF_A_SC,
   CPH_PROF_A_ES,
   CPH_PROF_A_SCB,
   CPH_PROF_A_TAG_BYTES,
   CPH_PROF_A_FV_BITS,
   CPH_PROF_B_WINDOW,
   CPH_CNT_JOBS_SCHED_CNT,
   CPH_CNT_JOBS_UNSCHED_CNT,
   CPH_CNT_TAG_FAIL_CNT,
   CPH_CNT_CUT_FAIL_CNT,
   CPH_CNT_LATE_CNT,
   CPH_CNT_ORPHANED_CNT,
   CPH_CNT_KEY_ABSENT_CNT,
   CPH_CNT_JOBWORD_DROP_CNT,
   CPH_CNT_JOB_DROP_CNT,
   CPH_CNT_FMT_DROP_CNT,
   CPH_CNT_ERASE_CNT,
   CPH_CNT_CLR_ALL,
   CPH_JOB_CFG_OP,
   CPH_JOB_CFG_MODE,
   CPH_JOB_CFG_KEY_SRC,
   CPH_JOB_CFG_TAG_LEN,
   CPH_JOB_CFG_KEY_SLOT,
   CPH_JOB_LEN_LEN,
   CPH_JOB_AAD_AAD,
   CPH_JOB_SRC_LO,
   CPH_JOB_SRC_HI,
   CPH_JOB_DST_LO,
   CPH_JOB_DST_HI,
   CPH_JOB_IV,
   CPH_JOB_TAGIN]

/-- The fields above, part 1. -/
def regsCph1 : List Fld :=
  [CPH_JOB_GO_TAG,
   CPH_JOB_GO_GO,
   CPH_KEY_IN,
   CPH_KEY_CTRL_LOAD,
   CPH_KEY_CTRL_CLEAR,
   CPH_KEY_CTRL_KEY256,
   CPH_KEY_CTRL_CUSTODY,
   CPH_LSTAT_INTAKE_VALID,
   CPH_LSTAT_INTAKE_CUSTODY,
   CPH_LSTAT_CMD_REJECT,
   CPH_LSTAT_OUT,
   CPH_LSTAT_JOBQ,
   CPH_RES_POP_POP,
   CPH_RES_HEAD_VALID,
   CPH_RES_HEAD_GAP,
   CPH_RES_HEAD_STATUS,
   CPH_RES_HEAD_TAG,
   CPH_RES_HEAD_COUNT,
   CPH_RES_IV,
   CPH_RES_TAG,
   CPH_LCNT_JOBS_CNT,
   CPH_LCNT_BYTES_LO,
   CPH_LCNT_BYTES_HI,
   CPH_LCNT_CMP_FAIL_CNT,
   CPH_LCNT_KEY_LOAD_CNT,
   CPH_LCNT_HOST_ERR_CNT,
   CPH_LCNT_CLR_ALL]

/-- The register fields of the CPH pages (Tables 14-4 and 14-5). -/
def regsCph : List Fld := regsCph0 ++ regsCph1

end Sys2Proof.Machine
end

