-- ==== Sys2Proof/Machine/RegsCst.lean ====
section
/-! DEFINITION. The register fields of the CST pages (Tables 6-6 to 6-9), row by row. -/

namespace Sys2Proof.Machine

/-- Table 6-6, CST_CTRL.RETIRE_EN. -/
def CST_CTRL_RETIRE_EN : Fld :=
  { name := "CST_CTRL.RETIRE_EN", base := 0xe0080, lo := 1, width := 1, acc := .rw, whn := .staged, restore := .kept, dflt := fun _ => 1 }

/-- Table 6-6, CST_CTRL.CUT_EN. -/
def CST_CTRL_CUT_EN : Fld :=
  { name := "CST_CTRL.CUT_EN", base := 0xe0080, lo := 0, width := 1, acc := .rw, whn := .staged, restore := .kept, dflt := fun _ => 1 }

/-- Table 6-6, CST_SHADOW.CELLS. -/
def CST_SHADOW_CELLS : Fld :=
  { name := "CST_SHADOW.CELLS", base := 0xe0084, lo := 0, width := 15, acc := .rw, whn := .staged, restore := .kept, dflt := fun _ => 0 }

/-- Table 6-6, CST_ALPHA.CODE. -/
def CST_ALPHA_CODE : Fld :=
  { name := "CST_ALPHA.CODE", base := 0xe0088, lo := 0, width := 32, acc := .rw, whn := .staged, restore := .kept, dflt := fun _ => 1145324612 }

/-- Table 6-6, CST_STATUS.BANK_TEST. -/
def CST_STATUS_BANK_TEST : Fld :=
  { name := "CST_STATUS.BANK_TEST", base := 0xe008c, lo := 16, width := 8, acc := .ro, whn := .none, restore := .literal, dflt := fun _ => 0 }

/-- Table 6-6, CST_STATUS.FAILED. -/
def CST_STATUS_FAILED : Fld :=
  { name := "CST_STATUS.FAILED", base := 0xe008c, lo := 0, width := 9, acc := .ro, whn := .none, restore := .literal, dflt := fun _ => 0 }

/-- Table 6-7, CST_SRC_FREE.CELLS. -/
def CST_SRC_FREE_CELLS : Fld :=
  { name := "CST_SRC_FREE.CELLS", base := 0xe1080, lo := 0, width := 17, acc := .ro, whn := .none, restore := .literal, dflt := fun _ => 0,
    dims := [⟨0, 9, 256⟩] }

/-- Table 6-7, CST_SRC_SCHED.CELLS. -/
def CST_SRC_SCHED_CELLS : Fld :=
  { name := "CST_SRC_SCHED.CELLS", base := 0xe1084, lo := 0, width := 17, acc := .ro, whn := .none, restore := .literal, dflt := fun _ => 0,
    dims := [⟨0, 9, 256⟩] }

/-- Table 6-7, CST_SRC_UNSCHED.CELLS. -/
def CST_SRC_UNSCHED_CELLS : Fld :=
  { name := "CST_SRC_UNSCHED.CELLS", base := 0xe1088, lo := 0, width := 17, acc := .ro, whn := .none, restore := .literal, dflt := fun _ => 0,
    dims := [⟨0, 9, 256⟩] }

/-- Table 6-7, CST_SRC_LAND.CELLS. -/
def CST_SRC_LAND_CELLS : Fld :=
  { name := "CST_SRC_LAND.CELLS", base := 0xe108c, lo := 0, width := 17, acc := .ro, whn := .none, restore := .literal, dflt := fun _ => 0,
    dims := [⟨0, 9, 256⟩] }

/-- Table 6-7, CST_SRC_FLOOR.CELLS. -/
def CST_SRC_FLOOR_CELLS : Fld :=
  { name := "CST_SRC_FLOOR.CELLS", base := 0xe1090, lo := 0, width := 17, acc := .ro, whn := .none, restore := .literal, dflt := fun _ => 0,
    dims := [⟨0, 9, 256⟩] }

/-- Table 6-7, CST_SRC_LIMIT.CELLS. -/
def CST_SRC_LIMIT_CELLS : Fld :=
  { name := "CST_SRC_LIMIT.CELLS", base := 0xe1094, lo := 0, width := 17, acc := .ro, whn := .none, restore := .literal, dflt := fun _ => 0,
    dims := [⟨0, 9, 256⟩] }

/-- Table 6-7, CST_SRC_RETIRED.CELLS. -/
def CST_SRC_RETIRED_CELLS : Fld :=
  { name := "CST_SRC_RETIRED.CELLS", base := 0xe1098, lo := 0, width := 17, acc := .ro, whn := .none, restore := .literal, dflt := fun _ => 0,
    dims := [⟨0, 9, 256⟩] }

/-- Table 6-7, CST_SRC_HWM.CELLS. -/
def CST_SRC_HWM_CELLS : Fld :=
  { name := "CST_SRC_HWM.CELLS", base := 0xe109c, lo := 0, width := 17, acc := .ro, whn := .none, restore := .literal, dflt := fun _ => 0,
    dims := [⟨0, 9, 256⟩] }

/-- Table 6-8, CST_CUT_q.BYTES. -/
def CST_CUT_BYTES : Fld :=
  { name := "CST_CUT_q.BYTES", base := 0xe2080, lo := 0, width := 14, acc := .rw, whn := .staged, restore := .kept, dflt := fun _ => 0,
    dims := [⟨0, 64, 32⟩] }

/-- Table 6-9, CST_CNT_LAND_REFUSE.CNT. -/
def CST_CNT_LAND_REFUSE_CNT : Fld :=
  { name := "CST_CNT_LAND_REFUSE.CNT", base := 0xe3080, lo := 0, width := 32, acc := .ro, whn := .none, restore := .literal, counter := true, dflt := fun _ => 0 }

/-- Table 6-9, CST_CNT_UNSCHED_DROP.CNT. -/
def CST_CNT_UNSCHED_DROP_CNT : Fld :=
  { name := "CST_CNT_UNSCHED_DROP.CNT", base := 0xe3084, lo := 0, width := 32, acc := .ro, whn := .none, restore := .literal, counter := true, dflt := fun _ => 0 }

/-- Table 6-9, CST_CNT_BQ_FULL.CNT. -/
def CST_CNT_BQ_FULL_CNT : Fld :=
  { name := "CST_CNT_BQ_FULL.CNT", base := 0xe3088, lo := 0, width := 32, acc := .ro, whn := .none, restore := .literal, counter := true, dflt := fun _ => 0 }

/-- Table 6-9, CST_CNT_OVERRUN.CNT. -/
def CST_CNT_OVERRUN_CNT : Fld :=
  { name := "CST_CNT_OVERRUN.CNT", base := 0xe308c, lo := 0, width := 32, acc := .ro, whn := .none, restore := .literal, counter := true, dflt := fun _ => 0 }

/-- Table 6-9, CST_CNT_CELL_CRC.CNT. -/
def CST_CNT_CELL_CRC_CNT : Fld :=
  { name := "CST_CNT_CELL_CRC.CNT", base := 0xe3090, lo := 0, width := 32, acc := .ro, whn := .none, restore := .literal, counter := true, dflt := fun _ => 0 }

/-- Table 6-9, CST_CNT_RETIRED.CNT. -/
def CST_CNT_RETIRED_CNT : Fld :=
  { name := "CST_CNT_RETIRED.CNT", base := 0xe3094, lo := 0, width := 32, acc := .ro, whn := .none, restore := .literal, counter := true, dflt := fun _ => 0 }

/-- Table 6-9, CST_CNT_BANK_DROP.CNT. -/
def CST_CNT_BANK_DROP_CNT : Fld :=
  { name := "CST_CNT_BANK_DROP.CNT", base := 0xe3098, lo := 0, width := 32, acc := .ro, whn := .none, restore := .literal, counter := true, dflt := fun _ => 0 }

/-- Table 6-9, CST_CNT_CUT_ABORT.CNT. -/
def CST_CNT_CUT_ABORT_CNT : Fld :=
  { name := "CST_CNT_CUT_ABORT.CNT", base := 0xe309c, lo := 0, width := 32, acc := .ro, whn := .none, restore := .literal, counter := true, dflt := fun _ => 0 }

/-- Table 6-9, CST_CNT_ZEROED.CNT. -/
def CST_CNT_ZEROED_CNT : Fld :=
  { name := "CST_CNT_ZEROED.CNT", base := 0xe30a0, lo := 0, width := 32, acc := .ro, whn := .none, restore := .literal, counter := true, dflt := fun _ => 0 }

/-- Table 6-9, CST_CNT_GAP.CNT. -/
def CST_CNT_GAP_CNT : Fld :=
  { name := "CST_CNT_GAP.CNT", base := 0xe30a4, lo := 0, width := 32, acc := .ro, whn := .none, restore := .literal, counter := true, dflt := fun _ => 0 }

/-- Table 6-9, CST_CNT_CLR.ALL. -/
def CST_CNT_CLR_ALL : Fld :=
  { name := "CST_CNT_CLR.ALL", base := 0xe30c0, lo := 0, width := 1, acc := .w1s, whn := .live, restore := .literal, dflt := fun _ => 0 }

/-- The fields above, part 0. -/
def regsCst0 : List Fld :=
  [CST_CTRL_RETIRE_EN,
   CST_CTRL_CUT_EN,
   CST_SHADOW_CELLS,
   CST_ALPHA_CODE,
   CST_STATUS_BANK_TEST,
   CST_STATUS_FAILED,
   CST_SRC_FREE_CELLS,
   CST_SRC_SCHED_CELLS,
   CST_SRC_UNSCHED_CELLS,
   CST_SRC_LAND_CELLS,
   CST_SRC_FLOOR_CELLS,
   CST_SRC_LIMIT_CELLS,
   CST_SRC_RETIRED_CELLS,
   CST_SRC_HWM_CELLS,
   CST_CUT_BYTES,
   CST_CNT_LAND_REFUSE_CNT,
   CST_CNT_UNSCHED_DROP_CNT,
   CST_CNT_BQ_FULL_CNT,
   CST_CNT_OVERRUN_CNT,
   CST_CNT_CELL_CRC_CNT,
   CST_CNT_RETIRED_CNT,
   CST_CNT_BANK_DROP_CNT,
   CST_CNT_CUT_ABORT_CNT,
   CST_CNT_ZEROED_CNT,
   CST_CNT_GAP_CNT,
   CST_CNT_CLR_ALL]

/-- The register fields of the CST pages (Tables 6-6 to 6-9). -/
def regsCst : List Fld := regsCst0

end Sys2Proof.Machine
end

