-- ==== Sys2Proof/Machine/RegsHbr.lean ====
section
/-! DEFINITION. The register fields of the HBR and MGP pages (Tables 16-10 to 16-13 and 16-16), row by row. -/

namespace Sys2Proof.Machine

/-- Table 16-10, HBR_RXMAP.RING. -/
def HBR_RXMAP_RING : Fld :=
  { name := "HBR_RXMAP.RING", base := 0x10080, lo := 0, width := 32, acc := .rw, whn := .staged, restore := .kept, dflt := fun _ => 0 }

/-- Table 16-10, HBR_SEM_TMO.MS. -/
def HBR_SEM_TMO_MS : Fld :=
  { name := "HBR_SEM_TMO.MS", base := 0x10084, lo := 0, width := 16, acc := .rw, whn := .staged, restore := .kept, dflt := fun _ => 0 }

/-- Table 16-10, HBR_STATUS.LINK_UP. -/
def HBR_STATUS_LINK_UP : Fld :=
  { name := "HBR_STATUS.LINK_UP", base := 0x10088, lo := 31, width := 1, acc := .ro, whn := .none, restore := .literal, dflt := fun _ => 0 }

/-- Table 16-10, HBR_STATUS.BME. -/
def HBR_STATUS_BME : Fld :=
  { name := "HBR_STATUS.BME", base := 0x10088, lo := 30, width := 1, acc := .ro, whn := .none, restore := .literal, dflt := fun _ => 0 }

/-- Table 16-10, HBR_STATUS.D3. -/
def HBR_STATUS_D3 : Fld :=
  { name := "HBR_STATUS.D3", base := 0x10088, lo := 29, width := 1, acc := .ro, whn := .none, restore := .literal, dflt := fun _ => 0 }

/-- Table 16-10, HBR_STATUS.SPEED. -/
def HBR_STATUS_SPEED : Fld :=
  { name := "HBR_STATUS.SPEED", base := 0x10088, lo := 24, width := 4, acc := .ro, whn := .none, restore := .literal, dflt := fun _ => 0 }

/-- Table 16-10, HBR_STATUS.WIDTH. -/
def HBR_STATUS_WIDTH : Fld :=
  { name := "HBR_STATUS.WIDTH", base := 0x10088, lo := 20, width := 4, acc := .ro, whn := .none, restore := .literal, dflt := fun _ => 0 }

/-- Table 16-10, HBR_SEM.OWNER. -/
def HBR_SEM_OWNER : Fld :=
  { name := "HBR_SEM.OWNER", base := 0x10100, lo := 30, width := 2, acc := .ro, whn := .none, restore := .literal, dflt := fun _ => 0,
    dims := [⟨0, 32, 32⟩] }

/-- Table 16-10, HBR_SEM.TIMED_OUT. -/
def HBR_SEM_TIMED_OUT : Fld :=
  { name := "HBR_SEM.TIMED_OUT", base := 0x10100, lo := 8, width := 1, acc := .w1c, whn := .live, restore := .literal, dflt := fun _ => 0,
    dims := [⟨0, 32, 32⟩] }

/-- Table 16-10, HBR_SEM.REL. -/
def HBR_SEM_REL : Fld :=
  { name := "HBR_SEM.REL", base := 0x10100, lo := 1, width := 1, acc := .w1s, whn := .live, restore := .literal, dflt := fun _ => 0,
    dims := [⟨0, 32, 32⟩] }

/-- Table 16-10, HBR_SEM.ACQ. -/
def HBR_SEM_ACQ : Fld :=
  { name := "HBR_SEM.ACQ", base := 0x10100, lo := 0, width := 1, acc := .w1s, whn := .live, restore := .literal, dflt := fun _ => 0,
    dims := [⟨0, 32, 32⟩] }

/-- Table 16-11, HBR_CNT_NARROW_WR.CNT. -/
def HBR_CNT_NARROW_WR_CNT : Fld :=
  { name := "HBR_CNT_NARROW_WR.CNT", base := 0x11080, lo := 0, width := 32, acc := .ro, whn := .none, restore := .literal, counter := true, dflt := fun _ => 0 }

/-- Table 16-11, HBR_CNT_LOCKED_UR.CNT. -/
def HBR_CNT_LOCKED_UR_CNT : Fld :=
  { name := "HBR_CNT_LOCKED_UR.CNT", base := 0x11084, lo := 0, width := 32, acc := .ro, whn := .none, restore := .literal, counter := true, dflt := fun _ => 0 }

/-- Table 16-11, HBR_CNT_POISON.CNT. -/
def HBR_CNT_POISON_CNT : Fld :=
  { name := "HBR_CNT_POISON.CNT", base := 0x11088, lo := 0, width := 32, acc := .ro, whn := .none, restore := .literal, counter := true, dflt := fun _ => 0 }

/-- Table 16-11, HBR_CNT_READ_TIMEOUT.CNT. -/
def HBR_CNT_READ_TIMEOUT_CNT : Fld :=
  { name := "HBR_CNT_READ_TIMEOUT.CNT", base := 0x1108c, lo := 0, width := 32, acc := .ro, whn := .none, restore := .literal, counter := true, dflt := fun _ => 0 }

/-- Table 16-11, HBR_CNT_DMA_RD_ERR.CNT. -/
def HBR_CNT_DMA_RD_ERR_CNT : Fld :=
  { name := "HBR_CNT_DMA_RD_ERR.CNT", base := 0x11090, lo := 0, width := 32, acc := .ro, whn := .none, restore := .literal, counter := true, dflt := fun _ => 0 }

/-- Table 16-11, HBR_CNT_LINK_RESET.CNT. -/
def HBR_CNT_LINK_RESET_CNT : Fld :=
  { name := "HBR_CNT_LINK_RESET.CNT", base := 0x11094, lo := 0, width := 32, acc := .ro, whn := .none, restore := .literal, counter := true, dflt := fun _ => 0 }

/-- Table 16-11, HBR_CNT_SEM_TIMEOUT.CNT. -/
def HBR_CNT_SEM_TIMEOUT_CNT : Fld :=
  { name := "HBR_CNT_SEM_TIMEOUT.CNT", base := 0x11098, lo := 0, width := 32, acc := .ro, whn := .none, restore := .literal, counter := true, dflt := fun _ => 0 }

/-- Table 16-11, HBR_CNT_SEM_BAD_REL.CNT. -/
def HBR_CNT_SEM_BAD_REL_CNT : Fld :=
  { name := "HBR_CNT_SEM_BAD_REL.CNT", base := 0x1109c, lo := 0, width := 32, acc := .ro, whn := .none, restore := .literal, counter := true, dflt := fun _ => 0 }

/-- Table 16-11, HBR_CNT_RX_NO_BUF.CNT. -/
def HBR_CNT_RX_NO_BUF_CNT : Fld :=
  { name := "HBR_CNT_RX_NO_BUF.CNT", base := 0x110a0, lo := 0, width := 32, acc := .ro, whn := .none, restore := .literal, counter := true, dflt := fun _ => 0 }

/-- Table 16-11, HBR_CNT_RX_DISCARD.CNT. -/
def HBR_CNT_RX_DISCARD_CNT : Fld :=
  { name := "HBR_CNT_RX_DISCARD.CNT", base := 0x110a4, lo := 0, width := 32, acc := .ro, whn := .none, restore := .literal, counter := true, dflt := fun _ => 0 }

/-- Table 16-11, HBR_CNT_RX_ZEROED.CNT. -/
def HBR_CNT_RX_ZEROED_CNT : Fld :=
  { name := "HBR_CNT_RX_ZEROED.CNT", base := 0x110a8, lo := 0, width := 32, acc := .ro, whn := .none, restore := .literal, counter := true, dflt := fun _ => 0 }

/-- Table 16-11, HBR_CNT_D2D_REPLAY.CNT. -/
def HBR_CNT_D2D_REPLAY_CNT : Fld :=
  { name := "HBR_CNT_D2D_REPLAY.CNT", base := 0x110ac, lo := 0, width := 32, acc := .ro, whn := .none, restore := .literal, counter := true, dflt := fun _ => 0 }

/-- Table 16-11, HBR_CNT_CLR.ALL. -/
def HBR_CNT_CLR_ALL : Fld :=
  { name := "HBR_CNT_CLR.ALL", base := 0x110c0, lo := 0, width := 1, acc := .w1s, whn := .live, restore := .literal, dflt := fun _ => 0 }

/-- Table 16-12, HBR_RP_CTRL.TX_EN. -/
def HBR_RP_CTRL_TX_EN : Fld :=
  { name := "HBR_RP_CTRL.TX_EN", base := 0x12080, lo := 31, width := 1, acc := .rw, whn := .live, restore := .literal, dflt := fun _ => 0,
    dims := [⟨0, 2, 32768⟩, ⟨0, 8, 1024⟩] }

/-- Table 16-12, HBR_RP_CTRL.RX_EN. -/
def HBR_RP_CTRL_RX_EN : Fld :=
  { name := "HBR_RP_CTRL.RX_EN", base := 0x12080, lo := 30, width := 1, acc := .rw, whn := .live, restore := .literal, dflt := fun _ => 0,
    dims := [⟨0, 2, 32768⟩, ⟨0, 8, 1024⟩] }

/-- Table 16-12, HBR_RP_CTRL.VEC_EN. -/
def HBR_RP_CTRL_VEC_EN : Fld :=
  { name := "HBR_RP_CTRL.VEC_EN", base := 0x12080, lo := 29, width := 1, acc := .rw, whn := .live, restore := .literal, dflt := fun _ => 0,
    dims := [⟨0, 2, 32768⟩, ⟨0, 8, 1024⟩] }

/-- Table 16-12, HBR_RP_CTRL.VECTOR. -/
def HBR_RP_CTRL_VECTOR : Fld :=
  { name := "HBR_RP_CTRL.VECTOR", base := 0x12080, lo := 16, width := 6, acc := .rw, whn := .live, restore := .literal, dflt := fun _ => 0,
    dims := [⟨0, 2, 32768⟩, ⟨0, 8, 1024⟩] }

/-- Table 16-12, HBR_TX_BASE_LO.ADDR. -/
def HBR_TX_BASE_LO_ADDR : Fld :=
  { name := "HBR_TX_BASE_LO.ADDR", base := 0x12084, lo := 12, width := 20, acc := .rw, whn := .locked, restore := .literal, dflt := fun _ => 0,
    dims := [⟨0, 2, 32768⟩, ⟨0, 8, 1024⟩] }

/-- Table 16-12, HBR_TX_BASE_HI.ADDR. -/
def HBR_TX_BASE_HI_ADDR : Fld :=
  { name := "HBR_TX_BASE_HI.ADDR", base := 0x12088, lo := 0, width := 32, acc := .rw, whn := .locked, restore := .literal, dflt := fun _ => 0,
    dims := [⟨0, 2, 32768⟩, ⟨0, 8, 1024⟩] }

/-- Table 16-12, HBR_RP_SIZE.CQ. -/
def HBR_RP_SIZE_CQ : Fld :=
  { name := "HBR_RP_SIZE.CQ", base := 0x1208c, lo := 16, width := 5, acc := .rw, whn := .locked, restore := .literal, dflt := fun _ => 0,
    dims := [⟨0, 2, 32768⟩, ⟨0, 8, 1024⟩] }

/-- Table 16-12, HBR_RP_SIZE.RX. -/
def HBR_RP_SIZE_RX : Fld :=
  { name := "HBR_RP_SIZE.RX", base := 0x1208c, lo := 8, width := 5, acc := .rw, whn := .locked, restore := .literal, dflt := fun _ => 0,
    dims := [⟨0, 2, 32768⟩, ⟨0, 8, 1024⟩] }

/-- Table 16-12, HBR_RP_SIZE.TX. -/
def HBR_RP_SIZE_TX : Fld :=
  { name := "HBR_RP_SIZE.TX", base := 0x1208c, lo := 0, width := 5, acc := .rw, whn := .locked, restore := .literal, dflt := fun _ => 0,
    dims := [⟨0, 2, 32768⟩, ⟨0, 8, 1024⟩] }

/-- Table 16-12, HBR_TX_TAIL.IDX. -/
def HBR_TX_TAIL_IDX : Fld :=
  { name := "HBR_TX_TAIL.IDX", base := 0x12090, lo := 0, width := 16, acc := .rw, whn := .live, restore := .literal, dflt := fun _ => 0,
    dims := [⟨0, 2, 32768⟩, ⟨0, 8, 1024⟩] }

/-- Table 16-12, HBR_TX_HEAD.IDX. -/
def HBR_TX_HEAD_IDX : Fld :=
  { name := "HBR_TX_HEAD.IDX", base := 0x12094, lo := 0, width := 16, acc := .ro, whn := .none, restore := .literal, dflt := fun _ => 0,
    dims := [⟨0, 2, 32768⟩, ⟨0, 8, 1024⟩] }

/-- Table 16-12, HBR_RX_BASE_LO.ADDR. -/
def HBR_RX_BASE_LO_ADDR : Fld :=
  { name := "HBR_RX_BASE_LO.ADDR", base := 0x12098, lo := 12, width := 20, acc := .rw, whn := .locked, restore := .literal, dflt := fun _ => 0,
    dims := [⟨0, 2, 32768⟩, ⟨0, 8, 1024⟩] }

/-- Table 16-12, HBR_RX_BASE_HI.ADDR. -/
def HBR_RX_BASE_HI_ADDR : Fld :=
  { name := "HBR_RX_BASE_HI.ADDR", base := 0x1209c, lo := 0, width := 32, acc := .rw, whn := .locked, restore := .literal, dflt := fun _ => 0,
    dims := [⟨0, 2, 32768⟩, ⟨0, 8, 1024⟩] }

/-- Table 16-12, HBR_RX_TAIL.IDX. -/
def HBR_RX_TAIL_IDX : Fld :=
  { name := "HBR_RX_TAIL.IDX", base := 0x120a0, lo := 0, width := 16, acc := .rw, whn := .live, restore := .literal, dflt := fun _ => 0,
    dims := [⟨0, 2, 32768⟩, ⟨0, 8, 1024⟩] }

/-- Table 16-12, HBR_RX_HEAD.IDX. -/
def HBR_RX_HEAD_IDX : Fld :=
  { name := "HBR_RX_HEAD.IDX", base := 0x120a4, lo := 0, width := 16, acc := .ro, whn := .none, restore := .literal, dflt := fun _ => 0,
    dims := [⟨0, 2, 32768⟩, ⟨0, 8, 1024⟩] }

/-- Table 16-12, HBR_CQ_BASE_LO.ADDR. -/
def HBR_CQ_BASE_LO_ADDR : Fld :=
  { name := "HBR_CQ_BASE_LO.ADDR", base := 0x120a8, lo := 12, width := 20, acc := .rw, whn := .locked, restore := .literal, dflt := fun _ => 0,
    dims := [⟨0, 2, 32768⟩, ⟨0, 8, 1024⟩] }

/-- Table 16-12, HBR_CQ_BASE_HI.ADDR. -/
def HBR_CQ_BASE_HI_ADDR : Fld :=
  { name := "HBR_CQ_BASE_HI.ADDR", base := 0x120ac, lo := 0, width := 32, acc := .rw, whn := .locked, restore := .literal, dflt := fun _ => 0,
    dims := [⟨0, 2, 32768⟩, ⟨0, 8, 1024⟩] }

/-- Table 16-12, HBR_CQ_RP.IDX. -/
def HBR_CQ_RP_IDX : Fld :=
  { name := "HBR_CQ_RP.IDX", base := 0x120b0, lo := 0, width := 17, acc := .rw, whn := .live, restore := .literal, dflt := fun _ => 0,
    dims := [⟨0, 2, 32768⟩, ⟨0, 8, 1024⟩] }

/-- Table 16-12, HBR_CQ_WP.IDX. -/
def HBR_CQ_WP_IDX : Fld :=
  { name := "HBR_CQ_WP.IDX", base := 0x120b4, lo := 0, width := 17, acc := .ro, whn := .none, restore := .literal, dflt := fun _ => 0,
    dims := [⟨0, 2, 32768⟩, ⟨0, 8, 1024⟩] }

/-- Table 16-12, HBR_RP_COAL.RECS. -/
def HBR_RP_COAL_RECS : Fld :=
  { name := "HBR_RP_COAL.RECS", base := 0x120b8, lo := 16, width := 16, acc := .rw, whn := .live, restore := .literal, dflt := fun _ => 0,
    dims := [⟨0, 2, 32768⟩, ⟨0, 8, 1024⟩] }

/-- Table 16-12, HBR_RP_COAL.US. -/
def HBR_RP_COAL_US : Fld :=
  { name := "HBR_RP_COAL.US", base := 0x120b8, lo := 0, width := 16, acc := .rw, whn := .live, restore := .literal, dflt := fun _ => 0,
    dims := [⟨0, 2, 32768⟩, ⟨0, 8, 1024⟩] }

/-- Table 16-12, HBR_RP_STAT.TX_HALT. -/
def HBR_RP_STAT_TX_HALT : Fld :=
  { name := "HBR_RP_STAT.TX_HALT", base := 0x120bc, lo := 1, width := 1, acc := .ro, whn := .none, restore := .literal, dflt := fun _ => 0,
    dims := [⟨0, 2, 32768⟩, ⟨0, 8, 1024⟩] }

/-- Table 16-12, HBR_RP_STAT.RX_HALT. -/
def HBR_RP_STAT_RX_HALT : Fld :=
  { name := "HBR_RP_STAT.RX_HALT", base := 0x120bc, lo := 0, width := 1, acc := .ro, whn := .none, restore := .literal, dflt := fun _ => 0,
    dims := [⟨0, 2, 32768⟩, ⟨0, 8, 1024⟩] }

/-- Table 16-12, HBR_RP_RX_DROP.CNT. -/
def HBR_RP_RX_DROP_CNT : Fld :=
  { name := "HBR_RP_RX_DROP.CNT", base := 0x120c0, lo := 0, width := 32, acc := .ro, whn := .none, restore := .literal, counter := true, dflt := fun _ => 0,
    dims := [⟨0, 2, 32768⟩, ⟨0, 8, 1024⟩] }

/-- Table 16-12, HBR_RP_RX_FRAMES.CNT. -/
def HBR_RP_RX_FRAMES_CNT : Fld :=
  { name := "HBR_RP_RX_FRAMES.CNT", base := 0x120c4, lo := 0, width := 32, acc := .ro, whn := .none, restore := .literal, counter := true, dflt := fun _ => 0,
    dims := [⟨0, 2, 32768⟩, ⟨0, 8, 1024⟩] }

/-- Table 16-12, HBR_RP_TX_FRAMES.CNT. -/
def HBR_RP_TX_FRAMES_CNT : Fld :=
  { name := "HBR_RP_TX_FRAMES.CNT", base := 0x120c8, lo := 0, width := 32, acc := .ro, whn := .none, restore := .literal, counter := true, dflt := fun _ => 0,
    dims := [⟨0, 2, 32768⟩, ⟨0, 8, 1024⟩] }

/-- Table 16-13, HBR_MSIX_ADDR_LO.ADDR. -/
def HBR_MSIX_ADDR_LO_ADDR : Fld :=
  { name := "HBR_MSIX_ADDR_LO.ADDR", base := 0x14080, lo := 2, width := 30, acc := .rw, whn := .live, restore := .literal, dflt := fun _ => 0,
    dims := [⟨0, 64, 128⟩] }

/-- Table 16-13, HBR_MSIX_ADDR_HI.ADDR. -/
def HBR_MSIX_ADDR_HI_ADDR : Fld :=
  { name := "HBR_MSIX_ADDR_HI.ADDR", base := 0x14084, lo := 0, width := 32, acc := .rw, whn := .live, restore := .literal, dflt := fun _ => 0,
    dims := [⟨0, 64, 128⟩] }

/-- Table 16-13, HBR_MSIX_DATA.DATA. -/
def HBR_MSIX_DATA_DATA : Fld :=
  { name := "HBR_MSIX_DATA.DATA", base := 0x14088, lo := 0, width := 32, acc := .rw, whn := .live, restore := .literal, dflt := fun _ => 0,
    dims := [⟨0, 64, 128⟩] }

/-- Table 16-13, HBR_MSIX_CTRL.MASK. -/
def HBR_MSIX_CTRL_MASK : Fld :=
  { name := "HBR_MSIX_CTRL.MASK", base := 0x1408c, lo := 0, width := 1, acc := .rw, whn := .live, restore := .literal, dflt := fun _ => 1,
    dims := [⟨0, 64, 128⟩] }

/-- Table 16-13, HBR_MSIX_PBA.PEND. -/
def HBR_MSIX_PBA_PEND : Fld :=
  { name := "HBR_MSIX_PBA.PEND", base := 0x14480, lo := 0, width := 32, acc := .ro, whn := .none, restore := .literal, dflt := fun _ => 0,
    dims := [⟨0, 2, 32⟩] }

/-- Table 16-16, MGP_LAST.STATUS. -/
def MGP_LAST_STATUS : Fld :=
  { name := "MGP_LAST.STATUS", base := 0x20080, lo := 24, width := 8, acc := .ro, whn := .none, restore := .literal, dflt := fun _ => 0 }

/-- Table 16-16, MGP_LAST.CMD. -/
def MGP_LAST_CMD : Fld :=
  { name := "MGP_LAST.CMD", base := 0x20080, lo := 16, width := 8, acc := .ro, whn := .none, restore := .literal, dflt := fun _ => 0 }

/-- Table 16-16, MGP_LAST_ADDR.ADDR. -/
def MGP_LAST_ADDR_ADDR : Fld :=
  { name := "MGP_LAST_ADDR.ADDR", base := 0x20084, lo := 0, width := 32, acc := .ro, whn := .none, restore := .literal, dflt := fun _ => 0 }

/-- Table 16-16, MGP_CNT_FRAMES.CNT. -/
def MGP_CNT_FRAMES_CNT : Fld :=
  { name := "MGP_CNT_FRAMES.CNT", base := 0x20088, lo := 0, width := 32, acc := .ro, whn := .none, restore := .literal, counter := true, dflt := fun _ => 0 }

/-- Table 16-16, MGP_CNT_CRC_ERR.CNT. -/
def MGP_CNT_CRC_ERR_CNT : Fld :=
  { name := "MGP_CNT_CRC_ERR.CNT", base := 0x2008c, lo := 0, width := 32, acc := .ro, whn := .none, restore := .literal, counter := true, dflt := fun _ => 0 }

/-- Table 16-16, MGP_CNT_BAD_CMD.CNT. -/
def MGP_CNT_BAD_CMD_CNT : Fld :=
  { name := "MGP_CNT_BAD_CMD.CNT", base := 0x20090, lo := 0, width := 32, acc := .ro, whn := .none, restore := .literal, counter := true, dflt := fun _ => 0 }

/-- Table 16-16, MGP_CNT_ASLEEP.CNT. -/
def MGP_CNT_ASLEEP_CNT : Fld :=
  { name := "MGP_CNT_ASLEEP.CNT", base := 0x20094, lo := 0, width := 32, acc := .ro, whn := .none, restore := .literal, counter := true, dflt := fun _ => 0 }

/-- Table 16-16, MGP_CNT_TIMEOUT.CNT. -/
def MGP_CNT_TIMEOUT_CNT : Fld :=
  { name := "MGP_CNT_TIMEOUT.CNT", base := 0x20098, lo := 0, width := 32, acc := .ro, whn := .none, restore := .literal, counter := true, dflt := fun _ => 0 }

/-- Table 16-16, MGP_CNT_ABORT.CNT. -/
def MGP_CNT_ABORT_CNT : Fld :=
  { name := "MGP_CNT_ABORT.CNT", base := 0x2009c, lo := 0, width := 32, acc := .ro, whn := .none, restore := .literal, counter := true, dflt := fun _ => 0 }

/-- Table 16-16, MGP_CNT_CLR.ALL. -/
def MGP_CNT_CLR_ALL : Fld :=
  { name := "MGP_CNT_CLR.ALL", base := 0x200c0, lo := 0, width := 1, acc := .w1s, whn := .live, restore := .literal, dflt := fun _ => 0 }

/-- The fields above, part 0. -/
def regsHbr0 : List Fld :=
  [HBR_RXMAP_RING,
   HBR_SEM_TMO_MS,
   HBR_STATUS_LINK_UP,
   HBR_STATUS_BME,
   HBR_STATUS_D3,
   HBR_STATUS_SPEED,
   HBR_STATUS_WIDTH,
   HBR_SEM_OWNER,
   HBR_SEM_TIMED_OUT,
   HBR_SEM_REL,
   HBR_SEM_ACQ,
   HBR_CNT_NARROW_WR_CNT,
   HBR_CNT_LOCKED_UR_CNT,
   HBR_CNT_POISON_CNT,
   HBR_CNT_READ_TIMEOUT_CNT,
   HBR_CNT_DMA_RD_ERR_CNT,
   HBR_CNT_LINK_RESET_CNT,
   HBR_CNT_SEM_TIMEOUT_CNT,
   HBR_CNT_SEM_BAD_REL_CNT,
   HBR_CNT_RX_NO_BUF_CNT,
   HBR_CNT_RX_DISCARD_CNT,
   HBR_CNT_RX_ZEROED_CNT,
   HBR_CNT_D2D_REPLAY_CNT,
   HBR_CNT_CLR_ALL,
   HBR_RP_CTRL_TX_EN,
   HBR_RP_CTRL_RX_EN,
   HBR_RP_CTRL_VEC_EN,
   HBR_RP_CTRL_VECTOR,
   HBR_TX_BASE_LO_ADDR,
   HBR_TX_BASE_HI_ADDR,
   HBR_RP_SIZE_CQ,
   HBR_RP_SIZE_RX,
   HBR_RP_SIZE_TX,
   HBR_TX_TAIL_IDX,
   HBR_TX_HEAD_IDX,
   HBR_RX_BASE_LO_ADDR,
   HBR_RX_BASE_HI_ADDR,
   HBR_RX_TAIL_IDX,
   HBR_RX_HEAD_IDX,
   HBR_CQ_BASE_LO_ADDR]

/-- The fields above, part 1. -/
def regsHbr1 : List Fld :=
  [HBR_CQ_BASE_HI_ADDR,
   HBR_CQ_RP_IDX,
   HBR_CQ_WP_IDX,
   HBR_RP_COAL_RECS,
   HBR_RP_COAL_US,
   HBR_RP_STAT_TX_HALT,
   HBR_RP_STAT_RX_HALT,
   HBR_RP_RX_DROP_CNT,
   HBR_RP_RX_FRAMES_CNT,
   HBR_RP_TX_FRAMES_CNT,
   HBR_MSIX_ADDR_LO_ADDR,
   HBR_MSIX_ADDR_HI_ADDR,
   HBR_MSIX_DATA_DATA,
   HBR_MSIX_CTRL_MASK,
   HBR_MSIX_PBA_PEND,
   MGP_LAST_STATUS,
   MGP_LAST_CMD,
   MGP_LAST_ADDR_ADDR,
   MGP_CNT_FRAMES_CNT,
   MGP_CNT_CRC_ERR_CNT,
   MGP_CNT_BAD_CMD_CNT,
   MGP_CNT_ASLEEP_CNT,
   MGP_CNT_TIMEOUT_CNT,
   MGP_CNT_ABORT_CNT,
   MGP_CNT_CLR_ALL]

/-- The register fields of the HBR and MGP pages (Tables 16-10 to 16-13 and 16-16). -/
def regsHbr : List Fld := regsHbr0 ++ regsHbr1

end Sys2Proof.Machine
end

