-- ==== Sys2Proof/Machine/RegsHck.lean ====
section
/-! DEFINITION. The register fields of the HCK pages (Tables 12-8 to 12-13), row by row. -/

namespace Sys2Proof.Machine

/-- Table 12-8, HCK_CTRL.PPS_OUT_EN. -/
def HCK_CTRL_PPS_OUT_EN : Fld :=
  { name := "HCK_CTRL.PPS_OUT_EN", base := 0x40080, lo := 7, width := 1, acc := .rw, whn := .staged, restore := .kept, dflt := fun _ => 0 }

/-- Table 12-8, HCK_CTRL.PPS_OUT_UNSET. -/
def HCK_CTRL_PPS_OUT_UNSET : Fld :=
  { name := "HCK_CTRL.PPS_OUT_UNSET", base := 0x40080, lo := 6, width := 1, acc := .rw, whn := .staged, restore := .kept, dflt := fun _ => 0 }

/-- Table 12-8, HCK_CTRL.SRC. -/
def HCK_CTRL_SRC : Fld :=
  { name := "HCK_CTRL.SRC", base := 0x40080, lo := 4, width := 2, acc := .rw, whn := .staged, restore := .kept, dflt := fun _ => 0 }

/-- Table 12-8, HCK_CTRL.WORK_DOM. -/
def HCK_CTRL_WORK_DOM : Fld :=
  { name := "HCK_CTRL.WORK_DOM", base := 0x40080, lo := 2, width := 2, acc := .rw, whn := .staged, restore := .kept, dflt := fun _ => 0 }

/-- Table 12-8, HCK_CTRL.AUTO_STEP. -/
def HCK_CTRL_AUTO_STEP : Fld :=
  { name := "HCK_CTRL.AUTO_STEP", base := 0x40080, lo := 1, width := 1, acc := .rw, whn := .staged, restore := .kept, dflt := fun _ => 1 }

/-- Table 12-8, HCK_CMD.OP. -/
def HCK_CMD_OP : Fld :=
  { name := "HCK_CMD.OP", base := 0x40084, lo := 0, width := 4, acc := .wo, whn := .live, restore := .literal, dflt := fun _ => 0 }

/-- Table 12-8, HCK_STATUS.SERVO. -/
def HCK_STATUS_SERVO : Fld :=
  { name := "HCK_STATUS.SERVO", base := 0x40088, lo := 8, width := 4, acc := .ro, whn := .none, restore := .literal, dflt := fun _ => 0 }

/-- Table 12-8, HCK_STATUS.FORCED_HOLD. -/
def HCK_STATUS_FORCED_HOLD : Fld :=
  { name := "HCK_STATUS.FORCED_HOLD", base := 0x40088, lo := 4, width := 1, acc := .ro, whn := .none, restore := .literal, dflt := fun _ => 0 }

/-- Table 12-8, HCK_STATUS.CMD_REJECT. -/
def HCK_STATUS_CMD_REJECT : Fld :=
  { name := "HCK_STATUS.CMD_REJECT", base := 0x40088, lo := 3, width := 1, acc := .w1c, whn := .live, restore := .literal, dflt := fun _ => 0 }

/-- Table 12-8, HCK_STATUS.FB_ANY. -/
def HCK_STATUS_FB_ANY : Fld :=
  { name := "HCK_STATUS.FB_ANY", base := 0x40088, lo := 2, width := 1, acc := .ro, whn := .none, restore := .literal, dflt := fun _ => 0 }

/-- Table 12-8, HCK_STATUS.STEP_PENDING. -/
def HCK_STATUS_STEP_PENDING : Fld :=
  { name := "HCK_STATUS.STEP_PENDING", base := 0x40088, lo := 1, width := 1, acc := .ro, whn := .none, restore := .literal, dflt := fun _ => 0 }

/-- Table 12-8, HCK_STATUS.SET. -/
def HCK_STATUS_SET : Fld :=
  { name := "HCK_STATUS.SET", base := 0x40088, lo := 0, width := 1, acc := .ro, whn := .none, restore := .literal, dflt := fun _ => 0 }

/-- Table 12-8, HCK_STEP_NS.NS. -/
def HCK_STEP_NS_NS : Fld :=
  { name := "HCK_STEP_NS.NS", base := 0x4008c, lo := 0, width := 32, acc := .rw, whn := .live, restore := .literal, dflt := fun _ => 0 }

/-- Table 12-8, HCK_STEP_S_LO.S. -/
def HCK_STEP_S_LO_S : Fld :=
  { name := "HCK_STEP_S_LO.S", base := 0x40090, lo := 0, width := 32, acc := .rw, whn := .live, restore := .literal, dflt := fun _ => 0 }

/-- Table 12-8, HCK_STEP_HI.FR. -/
def HCK_STEP_HI_FR : Fld :=
  { name := "HCK_STEP_HI.FR", base := 0x40094, lo := 16, width := 16, acc := .rw, whn := .live, restore := .literal, dflt := fun _ => 0 }

/-- Table 12-8, HCK_STEP_HI.S. -/
def HCK_STEP_HI_S : Fld :=
  { name := "HCK_STEP_HI.S", base := 0x40094, lo := 0, width := 16, acc := .rw, whn := .live, restore := .literal, dflt := fun _ => 0 }

/-- Table 12-8, HCK_SNAP_NS.NS. -/
def HCK_SNAP_NS_NS : Fld :=
  { name := "HCK_SNAP_NS.NS", base := 0x40098, lo := 0, width := 32, acc := .ro, whn := .none, restore := .literal, dflt := fun _ => 0 }

/-- Table 12-8, HCK_SNAP_S_LO.S. -/
def HCK_SNAP_S_LO_S : Fld :=
  { name := "HCK_SNAP_S_LO.S", base := 0x4009c, lo := 0, width := 32, acc := .ro, whn := .none, restore := .literal, dflt := fun _ => 0 }

/-- Table 12-8, HCK_SNAP_HI.FR. -/
def HCK_SNAP_HI_FR : Fld :=
  { name := "HCK_SNAP_HI.FR", base := 0x400a0, lo := 16, width := 16, acc := .ro, whn := .none, restore := .literal, dflt := fun _ => 0 }

/-- Table 12-8, HCK_SNAP_HI.S. -/
def HCK_SNAP_HI_S : Fld :=
  { name := "HCK_SNAP_HI.S", base := 0x400a0, lo := 0, width := 16, acc := .ro, whn := .none, restore := .literal, dflt := fun _ => 0 }

/-- Table 12-8, HCK_RATE.RATE. -/
def HCK_RATE_RATE : Fld :=
  { name := "HCK_RATE.RATE", base := 0x400a4, lo := 0, width := 32, acc := .rw, whn := .live, restore := .kept, dflt := fun _ => 0 }

/-- Table 12-8, HCK_RATE_APPLIED.RATE. -/
def HCK_RATE_APPLIED_RATE : Fld :=
  { name := "HCK_RATE_APPLIED.RATE", base := 0x400a8, lo := 0, width := 32, acc := .ro, whn := .none, restore := .literal, dflt := fun _ => 0 }

/-- Table 12-8, HCK_OFFSET.NS. -/
def HCK_OFFSET_NS : Fld :=
  { name := "HCK_OFFSET.NS", base := 0x400ac, lo := 0, width := 32, acc := .ro, whn := .none, restore := .literal, dflt := fun _ => 0 }

/-- Table 12-8, HCK_SERVO.RATE_LIM. -/
def HCK_SERVO_RATE_LIM : Fld :=
  { name := "HCK_SERVO.RATE_LIM", base := 0x400b0, lo := 24, width := 8, acc := .rw, whn := .staged, restore := .kept, dflt := fun _ => 100 }

/-- Table 12-8, HCK_SERVO.KP. -/
def HCK_SERVO_KP : Fld :=
  { name := "HCK_SERVO.KP", base := 0x400b0, lo := 20, width := 4, acc := .rw, whn := .staged, restore := .kept, dflt := fun _ => 1 }

/-- Table 12-8, HCK_SERVO.KI. -/
def HCK_SERVO_KI : Fld :=
  { name := "HCK_SERVO.KI", base := 0x400b0, lo := 16, width := 4, acc := .rw, whn := .staged, restore := .kept, dflt := fun _ => 10 }

/-- Table 12-8, HCK_SERVO.LOCK_NS. -/
def HCK_SERVO_LOCK_NS : Fld :=
  { name := "HCK_SERVO.LOCK_NS", base := 0x400b0, lo := 0, width := 16, acc := .rw, whn := .staged, restore := .kept, dflt := fun _ => 20 }

/-- Table 12-8, HCK_PPS.IN_EN. -/
def HCK_PPS_IN_EN : Fld :=
  { name := "HCK_PPS.IN_EN", base := 0x400b4, lo := 31, width := 1, acc := .rw, whn := .staged, restore := .kept, dflt := fun _ => 0 }

/-- Table 12-8, HCK_PPS.IN_FALL. -/
def HCK_PPS_IN_FALL : Fld :=
  { name := "HCK_PPS.IN_FALL", base := 0x400b4, lo := 30, width := 1, acc := .rw, whn := .staged, restore := .kept, dflt := fun _ => 0 }

/-- Table 12-8, HCK_PPS.OUT_WIDTH_MS. -/
def HCK_PPS_OUT_WIDTH_MS : Fld :=
  { name := "HCK_PPS.OUT_WIDTH_MS", base := 0x400b4, lo := 16, width := 10, acc := .rw, whn := .staged, restore := .kept, dflt := fun _ => 100 }

/-- Table 12-8, HCK_PPS_OFS.IN_OFS. -/
def HCK_PPS_OFS_IN_OFS : Fld :=
  { name := "HCK_PPS_OFS.IN_OFS", base := 0x400b8, lo := 16, width := 16, acc := .rw, whn := .staged, restore := .kept, dflt := fun _ => 0 }

/-- Table 12-8, HCK_PPS_OFS.OUT_OFS. -/
def HCK_PPS_OFS_OUT_OFS : Fld :=
  { name := "HCK_PPS_OFS.OUT_OFS", base := 0x400b8, lo := 0, width := 16, acc := .rw, whn := .staged, restore := .kept, dflt := fun _ => 0 }

/-- Table 12-8, HCK_PPS_IN_NS.NS. -/
def HCK_PPS_IN_NS_NS : Fld :=
  { name := "HCK_PPS_IN_NS.NS", base := 0x400bc, lo := 0, width := 32, acc := .ro, whn := .none, restore := .literal, dflt := fun _ => 0 }

/-- Table 12-8, HCK_PPS_IN_S.S. -/
def HCK_PPS_IN_S_S : Fld :=
  { name := "HCK_PPS_IN_S.S", base := 0x400c0, lo := 0, width := 32, acc := .ro, whn := .none, restore := .literal, dflt := fun _ => 0 }

/-- Table 12-8, HCK_EPOCH.CNT. -/
def HCK_EPOCH_CNT : Fld :=
  { name := "HCK_EPOCH.CNT", base := 0x400c4, lo := 0, width := 16, acc := .ro, whn := .none, restore := .kept, dflt := fun _ => 0 }

/-- Table 12-9, HCK_QCAL.TX_TRIM. -/
def HCK_QCAL_TX_TRIM : Fld :=
  { name := "HCK_QCAL.TX_TRIM", base := 0x41080, lo := 16, width := 16, acc := .rw, whn := .staged, restore := .kept, dflt := fun _ => 0,
    dims := [⟨0, 64, 128⟩] }

/-- Table 12-9, HCK_QCAL.RX_TRIM. -/
def HCK_QCAL_RX_TRIM : Fld :=
  { name := "HCK_QCAL.RX_TRIM", base := 0x41080, lo := 0, width := 16, acc := .rw, whn := .staged, restore := .kept, dflt := fun _ => 0,
    dims := [⟨0, 64, 128⟩] }

/-- Table 12-9, HCK_QASYM.ASYM. -/
def HCK_QASYM_ASYM : Fld :=
  { name := "HCK_QASYM.ASYM", base := 0x41084, lo := 0, width := 16, acc := .rw, whn := .staged, restore := .kept, dflt := fun _ => 0,
    dims := [⟨0, 64, 128⟩] }

/-- Table 12-9, HCK_QCFG.FB_FORCE. -/
def HCK_QCFG_FB_FORCE : Fld :=
  { name := "HCK_QCFG.FB_FORCE", base := 0x41088, lo := 31, width := 1, acc := .rw, whn := .staged, restore := .kept, dflt := fun _ => 0,
    dims := [⟨0, 64, 128⟩] }

/-- Table 12-9, HCK_QCFG.XCHK_EN. -/
def HCK_QCFG_XCHK_EN : Fld :=
  { name := "HCK_QCFG.XCHK_EN", base := 0x41088, lo := 30, width := 1, acc := .rw, whn := .staged, restore := .kept, dflt := fun _ => 1,
    dims := [⟨0, 64, 128⟩] }

/-- Table 12-9, HCK_QCFG.XCHK_N. -/
def HCK_QCFG_XCHK_N : Fld :=
  { name := "HCK_QCFG.XCHK_N", base := 0x41088, lo := 24, width := 6, acc := .rw, whn := .staged, restore := .kept, dflt := fun _ => 8,
    dims := [⟨0, 64, 128⟩] }

/-- Table 12-9, HCK_QCFG.XCHK_TOL. -/
def HCK_QCFG_XCHK_TOL : Fld :=
  { name := "HCK_QCFG.XCHK_TOL", base := 0x41088, lo := 16, width := 8, acc := .rw, whn := .staged, restore := .kept, dflt := fun ix => if ix.headD 0 < 32 then 40 else 8,
    dims := [⟨0, 64, 128⟩] }

/-- Table 12-9, HCK_QSTAT.FB_ACTIVE. -/
def HCK_QSTAT_FB_ACTIVE : Fld :=
  { name := "HCK_QSTAT.FB_ACTIVE", base := 0x4108c, lo := 31, width := 1, acc := .ro, whn := .none, restore := .literal, dflt := fun _ => 0,
    dims := [⟨0, 64, 128⟩] }

/-- Table 12-9, HCK_QSTAT.PCS_FAULT. -/
def HCK_QSTAT_PCS_FAULT : Fld :=
  { name := "HCK_QSTAT.PCS_FAULT", base := 0x4108c, lo := 30, width := 1, acc := .w1c, whn := .live, restore := .literal, dflt := fun _ => 0,
    dims := [⟨0, 64, 128⟩] }

/-- Table 12-9, HCK_QSTAT.XCHK_DIFF. -/
def HCK_QSTAT_XCHK_DIFF : Fld :=
  { name := "HCK_QSTAT.XCHK_DIFF", base := 0x4108c, lo := 0, width := 16, acc := .ro, whn := .none, restore := .literal, dflt := fun _ => 0,
    dims := [⟨0, 64, 128⟩] }

/-- Table 12-10, HCK_DOM_CFG.EN. -/
def HCK_DOM_CFG_EN : Fld :=
  { name := "HCK_DOM_CFG.EN", base := 0x42080, lo := 31, width := 1, acc := .rw, whn := .staged, restore := .kept, dflt := fun _ => 0,
    dims := [⟨0, 4, 256⟩] }

/-- Table 12-10, HCK_DOM_CFG.GM. -/
def HCK_DOM_CFG_GM : Fld :=
  { name := "HCK_DOM_CFG.GM", base := 0x42080, lo := 30, width := 1, acc := .rw, whn := .staged, restore := .kept, dflt := fun _ => 0,
    dims := [⟨0, 4, 256⟩] }

/-- Table 12-10, HCK_DOM_CFG.DOMAIN_NUM. -/
def HCK_DOM_CFG_DOMAIN_NUM : Fld :=
  { name := "HCK_DOM_CFG.DOMAIN_NUM", base := 0x42080, lo := 16, width := 7, acc := .rw, whn := .staged, restore := .kept, dflt := fun _ => 0,
    dims := [⟨0, 4, 256⟩] }

/-- Table 12-10, HCK_DOM_CFG.SLAVE. -/
def HCK_DOM_CFG_SLAVE : Fld :=
  { name := "HCK_DOM_CFG.SLAVE", base := 0x42080, lo := 8, width := 8, acc := .rw, whn := .staged, restore := .kept, dflt := fun _ => 0,
    dims := [⟨0, 4, 256⟩] }

/-- Table 12-10, HCK_DOM_CFG.SYNC_LOG. -/
def HCK_DOM_CFG_SYNC_LOG : Fld :=
  { name := "HCK_DOM_CFG.SYNC_LOG", base := 0x42080, lo := 4, width := 4, acc := .rw, whn := .staged, restore := .kept, dflt := fun _ => 13,
    dims := [⟨0, 4, 256⟩] }

/-- Table 12-10, HCK_DOM_MASTERS.MASK. -/
def HCK_DOM_MASTERS_MASK : Fld :=
  { name := "HCK_DOM_MASTERS.MASK", base := 0x42084, lo := 0, width := 32, acc := .rw, whn := .staged, restore := .kept, dflt := fun _ => 0,
    dims := [⟨0, 4, 256⟩] }

/-- Table 12-10, HCK_DOM_OFS_S.S. -/
def HCK_DOM_OFS_S_S : Fld :=
  { name := "HCK_DOM_OFS_S.S", base := 0x42088, lo := 0, width := 32, acc := .ro, whn := .none, restore := .literal, dflt := fun _ => 0,
    dims := [⟨0, 4, 256⟩] }

/-- Table 12-10, HCK_DOM_OFS_NS.NS. -/
def HCK_DOM_OFS_NS_NS : Fld :=
  { name := "HCK_DOM_OFS_NS.NS", base := 0x4208c, lo := 0, width := 32, acc := .ro, whn := .none, restore := .literal, dflt := fun _ => 0,
    dims := [⟨0, 4, 256⟩] }

/-- Table 12-10, HCK_DOM_RR.RATE. -/
def HCK_DOM_RR_RATE : Fld :=
  { name := "HCK_DOM_RR.RATE", base := 0x42090, lo := 0, width := 32, acc := .ro, whn := .none, restore := .literal, dflt := fun _ => 0,
    dims := [⟨0, 4, 256⟩] }

/-- Table 12-10, HCK_DOM_STAT.VALID. -/
def HCK_DOM_STAT_VALID : Fld :=
  { name := "HCK_DOM_STAT.VALID", base := 0x42094, lo := 31, width := 1, acc := .ro, whn := .none, restore := .literal, dflt := fun _ => 0,
    dims := [⟨0, 4, 256⟩] }

/-- Table 12-10, HCK_DOM_STAT.LOST. -/
def HCK_DOM_STAT_LOST : Fld :=
  { name := "HCK_DOM_STAT.LOST", base := 0x42094, lo := 30, width := 1, acc := .ro, whn := .none, restore := .literal, dflt := fun _ => 0,
    dims := [⟨0, 4, 256⟩] }

/-- Table 12-10, HCK_DOM_STAT.GM_TBI. -/
def HCK_DOM_STAT_GM_TBI : Fld :=
  { name := "HCK_DOM_STAT.GM_TBI", base := 0x42094, lo := 0, width := 16, acc := .ro, whn := .none, restore := .literal, dflt := fun _ => 0,
    dims := [⟨0, 4, 256⟩] }

/-- Table 12-10, HCK_DOM_GM_LO.ID. -/
def HCK_DOM_GM_LO_ID : Fld :=
  { name := "HCK_DOM_GM_LO.ID", base := 0x42098, lo := 0, width := 32, acc := .ro, whn := .none, restore := .literal, dflt := fun _ => 0,
    dims := [⟨0, 4, 256⟩] }

/-- Table 12-10, HCK_DOM_GM_HI.ID. -/
def HCK_DOM_GM_HI_ID : Fld :=
  { name := "HCK_DOM_GM_HI.ID", base := 0x4209c, lo := 0, width := 32, acc := .ro, whn := .none, restore := .literal, dflt := fun _ => 0,
    dims := [⟨0, 4, 256⟩] }

/-- Table 12-10, HCK_PORT_CFG.AS_EN. -/
def HCK_PORT_CFG_AS_EN : Fld :=
  { name := "HCK_PORT_CFG.AS_EN", base := 0x41f00, lo := 31, width := 1, acc := .rw, whn := .staged, restore := .kept, dflt := fun _ => 0,
    dims := [⟨32, 32, 128⟩] }

/-- Table 12-10, HCK_PORT_CFG.LAND_PTP. -/
def HCK_PORT_CFG_LAND_PTP : Fld :=
  { name := "HCK_PORT_CFG.LAND_PTP", base := 0x41f00, lo := 30, width := 1, acc := .rw, whn := .staged, restore := .kept, dflt := fun _ => 0,
    dims := [⟨32, 32, 128⟩] }

/-- Table 12-10, HCK_PORT_CFG.PDELAY_LOG. -/
def HCK_PORT_CFG_PDELAY_LOG : Fld :=
  { name := "HCK_PORT_CFG.PDELAY_LOG", base := 0x41f00, lo := 22, width := 4, acc := .rw, whn := .staged, restore := .kept, dflt := fun _ => 0,
    dims := [⟨32, 32, 128⟩] }

/-- Table 12-10, HCK_PORT_CFG.ALLOWED_LOST. -/
def HCK_PORT_CFG_ALLOWED_LOST : Fld :=
  { name := "HCK_PORT_CFG.ALLOWED_LOST", base := 0x41f00, lo := 18, width := 4, acc := .rw, whn := .staged, restore := .kept, dflt := fun _ => 3,
    dims := [⟨32, 32, 128⟩] }

/-- Table 12-10, HCK_PORT_CFG.THRESH_NS. -/
def HCK_PORT_CFG_THRESH_NS : Fld :=
  { name := "HCK_PORT_CFG.THRESH_NS", base := 0x41f00, lo := 0, width := 18, acc := .rw, whn := .staged, restore := .kept, dflt := fun _ => 800,
    dims := [⟨32, 32, 128⟩] }

/-- Table 12-10, HCK_PORT_T1S.LINK_NS. -/
def HCK_PORT_T1S_LINK_NS : Fld :=
  { name := "HCK_PORT_T1S.LINK_NS", base := 0x41f04, lo := 0, width := 16, acc := .rw, whn := .staged, restore := .kept, dflt := fun _ => 0,
    dims := [⟨32, 32, 128⟩] }

/-- Table 12-10, HCK_PORT_MLD.DELAY. -/
def HCK_PORT_MLD_DELAY : Fld :=
  { name := "HCK_PORT_MLD.DELAY", base := 0x41f08, lo := 0, width := 32, acc := .ro, whn := .none, restore := .literal, dflt := fun _ => 0,
    dims := [⟨32, 32, 128⟩] }

/-- Table 12-10, HCK_PORT_NRR.RATE. -/
def HCK_PORT_NRR_RATE : Fld :=
  { name := "HCK_PORT_NRR.RATE", base := 0x41f0c, lo := 0, width := 32, acc := .ro, whn := .none, restore := .literal, dflt := fun _ => 0,
    dims := [⟨32, 32, 128⟩] }

/-- Table 12-10, HCK_AS_CAPABLE.MASK. -/
def HCK_AS_CAPABLE_MASK : Fld :=
  { name := "HCK_AS_CAPABLE.MASK", base := 0x42300, lo := 0, width := 32, acc := .ro, whn := .none, restore := .literal, dflt := fun _ => 0 }

/-- Table 12-11, HCK_CAP_CFG.EN. -/
def HCK_CAP_CFG_EN : Fld :=
  { name := "HCK_CAP_CFG.EN", base := 0x43080, lo := 31, width := 1, acc := .rw, whn := .staged, restore := .kept, dflt := fun _ => 0,
    dims := [⟨0, 16, 64⟩] }

/-- Table 12-11, HCK_CAP_CFG.EDGE. -/
def HCK_CAP_CFG_EDGE : Fld :=
  { name := "HCK_CAP_CFG.EDGE", base := 0x43080, lo := 29, width := 2, acc := .rw, whn := .staged, restore := .kept, dflt := fun _ => 0,
    dims := [⟨0, 16, 64⟩] }

/-- Table 12-11, HCK_CAP_CFG.WIN_ONLY. -/
def HCK_CAP_CFG_WIN_ONLY : Fld :=
  { name := "HCK_CAP_CFG.WIN_ONLY", base := 0x43080, lo := 28, width := 1, acc := .rw, whn := .staged, restore := .kept, dflt := fun _ => 0,
    dims := [⟨0, 16, 64⟩] }

/-- Table 12-11, HCK_CAP_CFG.MISS_EN. -/
def HCK_CAP_CFG_MISS_EN : Fld :=
  { name := "HCK_CAP_CFG.MISS_EN", base := 0x43080, lo := 27, width := 1, acc := .rw, whn := .staged, restore := .kept, dflt := fun _ => 0,
    dims := [⟨0, 16, 64⟩] }

/-- Table 12-11, HCK_CAP_CFG.FILT_NS. -/
def HCK_CAP_CFG_FILT_NS : Fld :=
  { name := "HCK_CAP_CFG.FILT_NS", base := 0x43080, lo := 16, width := 8, acc := .rw, whn := .staged, restore := .kept, dflt := fun _ => 0,
    dims := [⟨0, 16, 64⟩] }

/-- Table 12-11, HCK_CAP_CFG.OFS. -/
def HCK_CAP_CFG_OFS : Fld :=
  { name := "HCK_CAP_CFG.OFS", base := 0x43080, lo := 0, width := 16, acc := .rw, whn := .staged, restore := .kept, dflt := fun _ => 0,
    dims := [⟨0, 16, 64⟩] }

/-- Table 12-11, HCK_CAP_STAT.WIN_OPEN. -/
def HCK_CAP_STAT_WIN_OPEN : Fld :=
  { name := "HCK_CAP_STAT.WIN_OPEN", base := 0x43084, lo := 31, width := 1, acc := .ro, whn := .none, restore := .literal, dflt := fun _ => 0,
    dims := [⟨0, 16, 64⟩] }

/-- Table 12-11, HCK_CAP_STAT.DEPTH. -/
def HCK_CAP_STAT_DEPTH : Fld :=
  { name := "HCK_CAP_STAT.DEPTH", base := 0x43084, lo := 0, width := 6, acc := .ro, whn := .none, restore := .literal, dflt := fun _ => 0,
    dims := [⟨0, 16, 64⟩] }

/-- Table 12-11, HCK_TRG.REGION. -/
def HCK_TRG_REGION : Fld :=
  { name := "HCK_TRG.REGION", base := 0x43100, lo := 17, width := 1, acc := .ro, whn := .none, restore := .literal, dflt := fun _ => 0,
    dims := [⟨0, 16, 32⟩] }

/-- Table 12-11, HCK_TRG.LEVEL. -/
def HCK_TRG_LEVEL : Fld :=
  { name := "HCK_TRG.LEVEL", base := 0x43100, lo := 16, width := 1, acc := .ro, whn := .none, restore := .literal, dflt := fun _ => 0,
    dims := [⟨0, 16, 32⟩] }

/-- Table 12-11, HCK_TRG.OFS. -/
def HCK_TRG_OFS : Fld :=
  { name := "HCK_TRG.OFS", base := 0x43100, lo := 0, width := 16, acc := .rw, whn := .staged, restore := .kept, dflt := fun _ => 0,
    dims := [⟨0, 16, 32⟩] }

/-- Table 12-11, HCK_CAP_POP.INPUT. -/
def HCK_CAP_POP_INPUT : Fld :=
  { name := "HCK_CAP_POP.INPUT", base := 0x43180, lo := 0, width := 4, acc := .wo, whn := .live, restore := .literal, dflt := fun _ => 0 }

/-- Table 12-11, HCK_CAP_RES0.FLAGS. -/
def HCK_CAP_RES0_FLAGS : Fld :=
  { name := "HCK_CAP_RES0.FLAGS", base := 0x43184, lo := 26, width := 6, acc := .ro, whn := .none, restore := .literal, dflt := fun _ => 0 }

/-- Table 12-11, HCK_CAP_RES0.FR. -/
def HCK_CAP_RES0_FR : Fld :=
  { name := "HCK_CAP_RES0.FR", base := 0x43184, lo := 0, width := 16, acc := .ro, whn := .none, restore := .literal, dflt := fun _ => 0 }

/-- Table 12-11, HCK_CAP_RES1.NS. -/
def HCK_CAP_RES1_NS : Fld :=
  { name := "HCK_CAP_RES1.NS", base := 0x43188, lo := 0, width := 32, acc := .ro, whn := .none, restore := .literal, dflt := fun _ => 0 }

/-- Table 12-11, HCK_CAP_RES2.S. -/
def HCK_CAP_RES2_S : Fld :=
  { name := "HCK_CAP_RES2.S", base := 0x4318c, lo := 0, width := 32, acc := .ro, whn := .none, restore := .literal, dflt := fun _ => 0 }

/-- Table 12-12, HCK_TSQ_POP.SYNC. -/
def HCK_TSQ_POP_SYNC : Fld :=
  { name := "HCK_TSQ_POP.SYNC", base := 0x44080, lo := 8, width := 1, acc := .wo, whn := .live, restore := .literal, dflt := fun _ => 0 }

/-- Table 12-12, HCK_TSQ_POP.QUAY. -/
def HCK_TSQ_POP_QUAY : Fld :=
  { name := "HCK_TSQ_POP.QUAY", base := 0x44080, lo := 0, width := 7, acc := .wo, whn := .live, restore := .literal, dflt := fun _ => 0 }

/-- Table 12-12, HCK_TSQ_RES. -/
def HCK_TSQ_RES : Fld :=
  { name := "HCK_TSQ_RES", base := 0x44084, lo := 0, width := 32, acc := .ro, whn := .none, restore := .literal, dflt := fun _ => 0,
    dims := [⟨0, 5, 32⟩] }

/-- Table 12-12, HCK_CANT_CFG.EN. -/
def HCK_CANT_CFG_EN : Fld :=
  { name := "HCK_CANT_CFG.EN", base := 0x44100, lo := 31, width := 1, acc := .rw, whn := .staged, restore := .kept, dflt := fun _ => 0,
    dims := [⟨0, 16, 128⟩] }

/-- Table 12-12, HCK_CANT_CFG.SYNC_BERTH. -/
def HCK_CANT_CFG_SYNC_BERTH : Fld :=
  { name := "HCK_CANT_CFG.SYNC_BERTH", base := 0x44100, lo := 14, width := 14, acc := .rw, whn := .staged, restore := .kept, dflt := fun _ => 0,
    dims := [⟨0, 16, 128⟩] }

/-- Table 12-12, HCK_CANT_CFG.FUP_BERTH. -/
def HCK_CANT_CFG_FUP_BERTH : Fld :=
  { name := "HCK_CANT_CFG.FUP_BERTH", base := 0x44100, lo := 0, width := 14, acc := .rw, whn := .staged, restore := .kept, dflt := fun _ => 0,
    dims := [⟨0, 16, 128⟩] }

/-- Table 12-12, HCK_CANT_CFG2.DOMAIN. -/
def HCK_CANT_CFG2_DOMAIN : Fld :=
  { name := "HCK_CANT_CFG2.DOMAIN", base := 0x44104, lo := 20, width := 4, acc := .rw, whn := .staged, restore := .kept, dflt := fun _ => 0,
    dims := [⟨0, 16, 128⟩] }

/-- Table 12-12, HCK_CANT_CFG2.TIMEBASE. -/
def HCK_CANT_CFG2_TIMEBASE : Fld :=
  { name := "HCK_CANT_CFG2.TIMEBASE", base := 0x44104, lo := 16, width := 3, acc := .rw, whn := .staged, restore := .kept, dflt := fun _ => 0,
    dims := [⟨0, 16, 128⟩] }

/-- Table 12-12, HCK_CANT_CFG2.QUAY. -/
def HCK_CANT_CFG2_QUAY : Fld :=
  { name := "HCK_CANT_CFG2.QUAY", base := 0x44104, lo := 0, width := 5, acc := .rw, whn := .staged, restore := .kept, dflt := fun _ => 0,
    dims := [⟨0, 16, 128⟩] }

/-- Table 12-12, HCK_CANT_STAT.SUSPENDED. -/
def HCK_CANT_STAT_SUSPENDED : Fld :=
  { name := "HCK_CANT_STAT.SUSPENDED", base := 0x44108, lo := 31, width := 1, acc := .ro, whn := .none, restore := .literal, dflt := fun _ => 0,
    dims := [⟨0, 16, 128⟩] }

/-- Table 12-12, HCK_CANT_STAT.SEQ. -/
def HCK_CANT_STAT_SEQ : Fld :=
  { name := "HCK_CANT_STAT.SEQ", base := 0x44108, lo := 0, width := 4, acc := .ro, whn := .none, restore := .literal, dflt := fun _ => 0,
    dims := [⟨0, 16, 128⟩] }

/-- Table 12-13, HCK_CNT_STEP.CNT. -/
def HCK_CNT_STEP_CNT : Fld :=
  { name := "HCK_CNT_STEP.CNT", base := 0x45080, lo := 0, width := 32, acc := .ro, whn := .none, restore := .literal, counter := true, dflt := fun _ => 0 }

/-- Table 12-13, HCK_CNT_STEP_REFUSED.CNT. -/
def HCK_CNT_STEP_REFUSED_CNT : Fld :=
  { name := "HCK_CNT_STEP_REFUSED.CNT", base := 0x45084, lo := 0, width := 32, acc := .ro, whn := .none, restore := .literal, counter := true, dflt := fun _ => 0 }

/-- Table 12-13, HCK_CNT_SYNC_LOSS.CNT. -/
def HCK_CNT_SYNC_LOSS_CNT : Fld :=
  { name := "HCK_CNT_SYNC_LOSS.CNT", base := 0x45088, lo := 0, width := 32, acc := .ro, whn := .none, restore := .literal, counter := true, dflt := fun _ => 0 }

/-- Table 12-13, HCK_CNT_GM_CHANGE.CNT. -/
def HCK_CNT_GM_CHANGE_CNT : Fld :=
  { name := "HCK_CNT_GM_CHANGE.CNT", base := 0x4508c, lo := 0, width := 32, acc := .ro, whn := .none, restore := .literal, counter := true, dflt := fun _ => 0 }

/-- Table 12-13, HCK_CNT_SYNC_RX.CNT. -/
def HCK_CNT_SYNC_RX_CNT : Fld :=
  { name := "HCK_CNT_SYNC_RX.CNT", base := 0x45090, lo := 0, width := 32, acc := .ro, whn := .none, restore := .literal, counter := true, dflt := fun _ => 0 }

/-- Table 12-13, HCK_CNT_SYNC_TX.CNT. -/
def HCK_CNT_SYNC_TX_CNT : Fld :=
  { name := "HCK_CNT_SYNC_TX.CNT", base := 0x45094, lo := 0, width := 32, acc := .ro, whn := .none, restore := .literal, counter := true, dflt := fun _ => 0 }

/-- Table 12-13, HCK_CNT_PDELAY_LOST.CNT. -/
def HCK_CNT_PDELAY_LOST_CNT : Fld :=
  { name := "HCK_CNT_PDELAY_LOST.CNT", base := 0x45098, lo := 0, width := 32, acc := .ro, whn := .none, restore := .literal, counter := true, dflt := fun _ => 0 }

/-- Table 12-13, HCK_CNT_AS_IGNORED.CNT. -/
def HCK_CNT_AS_IGNORED_CNT : Fld :=
  { name := "HCK_CNT_AS_IGNORED.CNT", base := 0x4509c, lo := 0, width := 32, acc := .ro, whn := .none, restore := .literal, counter := true, dflt := fun _ => 0 }

/-- Table 12-13, HCK_CNT_FB_SWITCH.CNT. -/
def HCK_CNT_FB_SWITCH_CNT : Fld :=
  { name := "HCK_CNT_FB_SWITCH.CNT", base := 0x450a0, lo := 0, width := 32, acc := .ro, whn := .none, restore := .literal, counter := true, dflt := fun _ => 0 }

/-- Table 12-13, HCK_CNT_XCHK_FAIL.CNT. -/
def HCK_CNT_XCHK_FAIL_CNT : Fld :=
  { name := "HCK_CNT_XCHK_FAIL.CNT", base := 0x450a4, lo := 0, width := 32, acc := .ro, whn := .none, restore := .literal, counter := true, dflt := fun _ => 0 }

/-- Table 12-13, HCK_CNT_TSQ_GAP.CNT. -/
def HCK_CNT_TSQ_GAP_CNT : Fld :=
  { name := "HCK_CNT_TSQ_GAP.CNT", base := 0x450a8, lo := 0, width := 32, acc := .ro, whn := .none, restore := .literal, counter := true, dflt := fun _ => 0 }

/-- Table 12-13, HCK_CNT_CAP_GAP.CNT. -/
def HCK_CNT_CAP_GAP_CNT : Fld :=
  { name := "HCK_CNT_CAP_GAP.CNT", base := 0x450ac, lo := 0, width := 32, acc := .ro, whn := .none, restore := .literal, counter := true, dflt := fun _ => 0 }

/-- Table 12-13, HCK_CNT_CAP_MISS.CNT. -/
def HCK_CNT_CAP_MISS_CNT : Fld :=
  { name := "HCK_CNT_CAP_MISS.CNT", base := 0x450b0, lo := 0, width := 32, acc := .ro, whn := .none, restore := .literal, counter := true, dflt := fun _ => 0 }

/-- Table 12-13, HCK_CNT_CANT_SYNC.CNT. -/
def HCK_CNT_CANT_SYNC_CNT : Fld :=
  { name := "HCK_CNT_CANT_SYNC.CNT", base := 0x450b4, lo := 0, width := 32, acc := .ro, whn := .none, restore := .literal, counter := true, dflt := fun _ => 0 }

/-- Table 12-13, HCK_CNT_CANT_SKIP.CNT. -/
def HCK_CNT_CANT_SKIP_CNT : Fld :=
  { name := "HCK_CNT_CANT_SKIP.CNT", base := 0x450b8, lo := 0, width := 32, acc := .ro, whn := .none, restore := .literal, counter := true, dflt := fun _ => 0 }

/-- Table 12-13, HCK_CNT_CLR.ALL. -/
def HCK_CNT_CLR_ALL : Fld :=
  { name := "HCK_CNT_CLR.ALL", base := 0x450c0, lo := 0, width := 1, acc := .w1s, whn := .live, restore := .literal, dflt := fun _ => 0 }

/-- The fields above, part 0. -/
def regsHck0 : List Fld :=
  [HCK_CTRL_PPS_OUT_EN,
   HCK_CTRL_PPS_OUT_UNSET,
   HCK_CTRL_SRC,
   HCK_CTRL_WORK_DOM,
   HCK_CTRL_AUTO_STEP,
   HCK_CMD_OP,
   HCK_STATUS_SERVO,
   HCK_STATUS_FORCED_HOLD,
   HCK_STATUS_CMD_REJECT,
   HCK_STATUS_FB_ANY,
   HCK_STATUS_STEP_PENDING,
   HCK_STATUS_SET,
   HCK_STEP_NS_NS,
   HCK_STEP_S_LO_S,
   HCK_STEP_HI_FR,
   HCK_STEP_HI_S,
   HCK_SNAP_NS_NS,
   HCK_SNAP_S_LO_S,
   HCK_SNAP_HI_FR,
   HCK_SNAP_HI_S,
   HCK_RATE_RATE,
   HCK_RATE_APPLIED_RATE,
   HCK_OFFSET_NS,
   HCK_SERVO_RATE_LIM,
   HCK_SERVO_KP,
   HCK_SERVO_KI,
   HCK_SERVO_LOCK_NS,
   HCK_PPS_IN_EN,
   HCK_PPS_IN_FALL,
   HCK_PPS_OUT_WIDTH_MS,
   HCK_PPS_OFS_IN_OFS,
   HCK_PPS_OFS_OUT_OFS,
   HCK_PPS_IN_NS_NS,
   HCK_PPS_IN_S_S,
   HCK_EPOCH_CNT,
   HCK_QCAL_TX_TRIM,
   HCK_QCAL_RX_TRIM,
   HCK_QASYM_ASYM,
   HCK_QCFG_FB_FORCE,
   HCK_QCFG_XCHK_EN]

/-- The fields above, part 1. -/
def regsHck1 : List Fld :=
  [HCK_QCFG_XCHK_N,
   HCK_QCFG_XCHK_TOL,
   HCK_QSTAT_FB_ACTIVE,
   HCK_QSTAT_PCS_FAULT,
   HCK_QSTAT_XCHK_DIFF,
   HCK_DOM_CFG_EN,
   HCK_DOM_CFG_GM,
   HCK_DOM_CFG_DOMAIN_NUM,
   HCK_DOM_CFG_SLAVE,
   HCK_DOM_CFG_SYNC_LOG,
   HCK_DOM_MASTERS_MASK,
   HCK_DOM_OFS_S_S,
   HCK_DOM_OFS_NS_NS,
   HCK_DOM_RR_RATE,
   HCK_DOM_STAT_VALID,
   HCK_DOM_STAT_LOST,
   HCK_DOM_STAT_GM_TBI,
   HCK_DOM_GM_LO_ID,
   HCK_DOM_GM_HI_ID,
   HCK_PORT_CFG_AS_EN,
   HCK_PORT_CFG_LAND_PTP,
   HCK_PORT_CFG_PDELAY_LOG,
   HCK_PORT_CFG_ALLOWED_LOST,
   HCK_PORT_CFG_THRESH_NS,
   HCK_PORT_T1S_LINK_NS,
   HCK_PORT_MLD_DELAY,
   HCK_PORT_NRR_RATE,
   HCK_AS_CAPABLE_MASK,
   HCK_CAP_CFG_EN,
   HCK_CAP_CFG_EDGE,
   HCK_CAP_CFG_WIN_ONLY,
   HCK_CAP_CFG_MISS_EN,
   HCK_CAP_CFG_FILT_NS,
   HCK_CAP_CFG_OFS,
   HCK_CAP_STAT_WIN_OPEN,
   HCK_CAP_STAT_DEPTH,
   HCK_TRG_REGION,
   HCK_TRG_LEVEL,
   HCK_TRG_OFS,
   HCK_CAP_POP_INPUT]

/-- The fields above, part 2. -/
def regsHck2 : List Fld :=
  [HCK_CAP_RES0_FLAGS,
   HCK_CAP_RES0_FR,
   HCK_CAP_RES1_NS,
   HCK_CAP_RES2_S,
   HCK_TSQ_POP_SYNC,
   HCK_TSQ_POP_QUAY,
   HCK_TSQ_RES,
   HCK_CANT_CFG_EN,
   HCK_CANT_CFG_SYNC_BERTH,
   HCK_CANT_CFG_FUP_BERTH,
   HCK_CANT_CFG2_DOMAIN,
   HCK_CANT_CFG2_TIMEBASE,
   HCK_CANT_CFG2_QUAY,
   HCK_CANT_STAT_SUSPENDED,
   HCK_CANT_STAT_SEQ,
   HCK_CNT_STEP_CNT,
   HCK_CNT_STEP_REFUSED_CNT,
   HCK_CNT_SYNC_LOSS_CNT,
   HCK_CNT_GM_CHANGE_CNT,
   HCK_CNT_SYNC_RX_CNT,
   HCK_CNT_SYNC_TX_CNT,
   HCK_CNT_PDELAY_LOST_CNT,
   HCK_CNT_AS_IGNORED_CNT,
   HCK_CNT_FB_SWITCH_CNT,
   HCK_CNT_XCHK_FAIL_CNT,
   HCK_CNT_TSQ_GAP_CNT,
   HCK_CNT_CAP_GAP_CNT,
   HCK_CNT_CAP_MISS_CNT,
   HCK_CNT_CANT_SYNC_CNT,
   HCK_CNT_CANT_SKIP_CNT,
   HCK_CNT_CLR_ALL]

/-- The register fields of the HCK pages (Tables 12-8 to 12-13). -/
def regsHck : List Fld := regsHck0 ++ regsHck1 ++ regsHck2

end Sys2Proof.Machine
end

