-- ==== Sys2Proof/Machine/RegsKwl.lean ====
section
/-! DEFINITION. The register fields of the KWL pages (Tables 15-5 to 15-7), row by row. -/

namespace Sys2Proof.Machine

/-- Table 15-5, KWL_CTRL.AUTO_RESTORE. -/
def KWL_CTRL_AUTO_RESTORE : Fld :=
  { name := "KWL_CTRL.AUTO_RESTORE", base := 0x70080, lo := 0, width := 1, acc := .rw, whn := .staged, restore := .kept, dflt := fun _ => 0 }

/-- Table 15-5, KWL_CMD.OP. -/
def KWL_CMD_OP : Fld :=
  { name := "KWL_CMD.OP", base := 0x70084, lo := 28, width := 4, acc := .wo, whn := .live, restore := .literal, dflt := fun _ => 0 }

/-- Table 15-5, KWL_CMD.PARENT. -/
def KWL_CMD_PARENT : Fld :=
  { name := "KWL_CMD.PARENT", base := 0x70084, lo := 16, width := 12, acc := .wo, whn := .live, restore := .literal, dflt := fun _ => 0 }

/-- Table 15-5, KWL_CMD.SLOT. -/
def KWL_CMD_SLOT : Fld :=
  { name := "KWL_CMD.SLOT", base := 0x70084, lo := 0, width := 12, acc := .wo, whn := .live, restore := .literal, dflt := fun _ => 0 }

/-- Table 15-5, KWL_STATUS.RESULT. -/
def KWL_STATUS_RESULT : Fld :=
  { name := "KWL_STATUS.RESULT", base := 0x70088, lo := 28, width := 4, acc := .ro, whn := .none, restore := .literal, dflt := fun _ => 0 }

/-- Table 15-5, KWL_STATUS.BUSY. -/
def KWL_STATUS_BUSY : Fld :=
  { name := "KWL_STATUS.BUSY", base := 0x70088, lo := 24, width := 1, acc := .ro, whn := .none, restore := .literal, dflt := fun _ => 0 }

/-- Table 15-5, KWL_STATUS.CMD_REJECT. -/
def KWL_STATUS_CMD_REJECT : Fld :=
  { name := "KWL_STATUS.CMD_REJECT", base := 0x70088, lo := 23, width := 1, acc := .w1c, whn := .live, restore := .literal, dflt := fun _ => 0 }

/-- Table 15-5, KWL_STATUS.COMMIT_BUSY. -/
def KWL_STATUS_COMMIT_BUSY : Fld :=
  { name := "KWL_STATUS.COMMIT_BUSY", base := 0x70088, lo := 22, width := 1, acc := .ro, whn := .none, restore := .literal, dflt := fun _ => 0 }

/-- Table 15-5, KWL_STATUS.COMMIT_RESULT. -/
def KWL_STATUS_COMMIT_RESULT : Fld :=
  { name := "KWL_STATUS.COMMIT_RESULT", base := 0x70088, lo := 20, width := 2, acc := .ro, whn := .none, restore := .literal, dflt := fun _ => 0 }

/-- Table 15-5, KWL_STATUS.ROOT. -/
def KWL_STATUS_ROOT : Fld :=
  { name := "KWL_STATUS.ROOT", base := 0x70088, lo := 18, width := 2, acc := .ro, whn := .none, restore := .literal, dflt := fun _ => 0 }

/-- Table 15-5, KWL_STATUS.RBG. -/
def KWL_STATUS_RBG : Fld :=
  { name := "KWL_STATUS.RBG", base := 0x70088, lo := 16, width := 2, acc := .ro, whn := .none, restore := .literal, dflt := fun _ => 0 }

/-- Table 15-5, KWL_STATUS.ALARM. -/
def KWL_STATUS_ALARM : Fld :=
  { name := "KWL_STATUS.ALARM", base := 0x70088, lo := 15, width := 1, acc := .ro, whn := .none, restore := .literal, dflt := fun _ => 0 }

/-- Table 15-5, KWL_STATUS.DIRTY. -/
def KWL_STATUS_DIRTY : Fld :=
  { name := "KWL_STATUS.DIRTY", base := 0x70088, lo := 0, width := 13, acc := .ro, whn := .none, restore := .literal, dflt := fun _ => 0 }

/-- Table 15-5, KWL_ROOT_GEN.GEN. -/
def KWL_ROOT_GEN_GEN : Fld :=
  { name := "KWL_ROOT_GEN.GEN", base := 0x7008c, lo := 0, width := 32, acc := .ro, whn := .none, restore := .literal, dflt := fun _ => 0 }

/-- Table 15-5, KWL_JSEQ.SEQ. -/
def KWL_JSEQ_SEQ : Fld :=
  { name := "KWL_JSEQ.SEQ", base := 0x70090, lo := 0, width := 32, acc := .ro, whn := .none, restore := .literal, dflt := fun _ => 0 }

/-- Table 15-6, KWL_NEW_CFG.KEY256. -/
def KWL_NEW_CFG_KEY256 : Fld :=
  { name := "KWL_NEW_CFG.KEY256", base := 0x71080, lo := 31, width := 1, acc := .rw, whn := .live, restore := .literal, dflt := fun _ => 0 }

/-- Table 15-6, KWL_NEW_CFG.PERSIST. -/
def KWL_NEW_CFG_PERSIST : Fld :=
  { name := "KWL_NEW_CFG.PERSIST", base := 0x71080, lo := 30, width := 1, acc := .rw, whn := .live, restore := .literal, dflt := fun _ => 0 }

/-- Table 15-6, KWL_NEW_CFG.CLASS. -/
def KWL_NEW_CFG_CLASS : Fld :=
  { name := "KWL_NEW_CFG.CLASS", base := 0x71080, lo := 24, width := 1, acc := .rw, whn := .live, restore := .literal, dflt := fun _ => 0 }

/-- Table 15-6, KWL_NEW_CFG.USE. -/
def KWL_NEW_CFG_USE : Fld :=
  { name := "KWL_NEW_CFG.USE", base := 0x71080, lo := 16, width := 8, acc := .rw, whn := .live, restore := .literal, dflt := fun _ => 0 }

/-- Table 15-6, KWL_NEW_LABEL_LO. -/
def KWL_NEW_LABEL_LO : Fld :=
  { name := "KWL_NEW_LABEL_LO", base := 0x71084, lo := 0, width := 32, acc := .rw, whn := .live, restore := .literal, dflt := fun _ => 0 }

/-- Table 15-6, KWL_NEW_LABEL_HI. -/
def KWL_NEW_LABEL_HI : Fld :=
  { name := "KWL_NEW_LABEL_HI", base := 0x71088, lo := 0, width := 32, acc := .rw, whn := .live, restore := .literal, dflt := fun _ => 0 }

/-- Table 15-6, KWL_NEW_CTX_LO. -/
def KWL_NEW_CTX_LO : Fld :=
  { name := "KWL_NEW_CTX_LO", base := 0x7108c, lo := 0, width := 32, acc := .rw, whn := .live, restore := .literal, dflt := fun _ => 0 }

/-- Table 15-6, KWL_NEW_CTX_HI. -/
def KWL_NEW_CTX_HI : Fld :=
  { name := "KWL_NEW_CTX_HI", base := 0x71090, lo := 0, width := 32, acc := .rw, whn := .live, restore := .literal, dflt := fun _ => 0 }

/-- Table 15-6, KWL_NEW_ATTR. -/
def KWL_NEW_ATTR : Fld :=
  { name := "KWL_NEW_ATTR", base := 0x71094, lo := 0, width := 32, acc := .rw, whn := .live, restore := .literal, dflt := fun _ => 0,
    dims := [⟨0, 8, 32⟩] }

/-- Table 15-6, KWL_KEY_IN. -/
def KWL_KEY_IN : Fld :=
  { name := "KWL_KEY_IN", base := 0x710c0, lo := 0, width := 32, acc := .wo, whn := .live, restore := .literal, dflt := fun _ => 0,
    dims := [⟨0, 8, 32⟩] }

/-- Table 15-6, KWL_RD_SEL.SLOT. -/
def KWL_RD_SEL_SLOT : Fld :=
  { name := "KWL_RD_SEL.SLOT", base := 0x71100, lo := 0, width := 12, acc := .rw, whn := .live, restore := .literal, dflt := fun _ => 0 }

/-- Table 15-6, KWL_RD. -/
def KWL_RD : Fld :=
  { name := "KWL_RD", base := 0x71140, lo := 0, width := 32, acc := .ro, whn := .none, restore := .literal, dflt := fun _ => 0,
    dims := [⟨0, 16, 32⟩] }

/-- Table 15-7, KWL_CNT_DERIVE.CNT. -/
def KWL_CNT_DERIVE_CNT : Fld :=
  { name := "KWL_CNT_DERIVE.CNT", base := 0x72080, lo := 0, width := 32, acc := .ro, whn := .none, restore := .literal, counter := true, dflt := fun _ => 0 }

/-- Table 15-7, KWL_CNT_IMPORT.CNT. -/
def KWL_CNT_IMPORT_CNT : Fld :=
  { name := "KWL_CNT_IMPORT.CNT", base := 0x72084, lo := 0, width := 32, acc := .ro, whn := .none, restore := .literal, counter := true, dflt := fun _ => 0 }

/-- Table 15-7, KWL_CNT_INVALIDATE.CNT. -/
def KWL_CNT_INVALIDATE_CNT : Fld :=
  { name := "KWL_CNT_INVALIDATE.CNT", base := 0x72088, lo := 0, width := 32, acc := .ro, whn := .none, restore := .literal, counter := true, dflt := fun _ => 0 }

/-- Table 15-7, KWL_CNT_DESTROY.CNT. -/
def KWL_CNT_DESTROY_CNT : Fld :=
  { name := "KWL_CNT_DESTROY.CNT", base := 0x7208c, lo := 0, width := 32, acc := .ro, whn := .none, restore := .literal, counter := true, dflt := fun _ => 0 }

/-- Table 15-7, KWL_CNT_SWEPT.CNT. -/
def KWL_CNT_SWEPT_CNT : Fld :=
  { name := "KWL_CNT_SWEPT.CNT", base := 0x72090, lo := 0, width := 32, acc := .ro, whn := .none, restore := .literal, counter := true, dflt := fun _ => 0 }

/-- Table 15-7, KWL_CNT_ERASE.CNT. -/
def KWL_CNT_ERASE_CNT : Fld :=
  { name := "KWL_CNT_ERASE.CNT", base := 0x72094, lo := 0, width := 32, acc := .ro, whn := .none, restore := .literal, counter := true, dflt := fun _ => 0 }

/-- Table 15-7, KWL_CNT_LOAD.CNT. -/
def KWL_CNT_LOAD_CNT : Fld :=
  { name := "KWL_CNT_LOAD.CNT", base := 0x72098, lo := 0, width := 32, acc := .ro, whn := .none, restore := .literal, counter := true, dflt := fun _ => 0 }

/-- Table 15-7, KWL_CNT_COMMIT.CNT. -/
def KWL_CNT_COMMIT_CNT : Fld :=
  { name := "KWL_CNT_COMMIT.CNT", base := 0x7209c, lo := 0, width := 32, acc := .ro, whn := .none, restore := .literal, counter := true, dflt := fun _ => 0 }

/-- Table 15-7, KWL_CNT_COMMIT_HOLDUP.CNT. -/
def KWL_CNT_COMMIT_HOLDUP_CNT : Fld :=
  { name := "KWL_CNT_COMMIT_HOLDUP.CNT", base := 0x720a0, lo := 0, width := 32, acc := .ro, whn := .none, restore := .literal, counter := true, dflt := fun _ => 0 }

/-- Table 15-7, KWL_CNT_HEALTH_FAIL.CNT. -/
def KWL_CNT_HEALTH_FAIL_CNT : Fld :=
  { name := "KWL_CNT_HEALTH_FAIL.CNT", base := 0x720a4, lo := 0, width := 32, acc := .ro, whn := .none, restore := .literal, counter := true, dflt := fun _ => 0 }

/-- Table 15-7, KWL_CNT_REMASK.CNT. -/
def KWL_CNT_REMASK_CNT : Fld :=
  { name := "KWL_CNT_REMASK.CNT", base := 0x720a8, lo := 0, width := 32, acc := .ro, whn := .none, restore := .literal, counter := true, dflt := fun _ => 0 }

/-- Table 15-7, KWL_CNT_CLR.ALL. -/
def KWL_CNT_CLR_ALL : Fld :=
  { name := "KWL_CNT_CLR.ALL", base := 0x720c0, lo := 0, width := 1, acc := .w1s, whn := .live, restore := .literal, dflt := fun _ => 0 }

/-- The fields above, part 0. -/
def regsKwl0 : List Fld :=
  [KWL_CTRL_AUTO_RESTORE,
   KWL_CMD_OP,
   KWL_CMD_PARENT,
   KWL_CMD_SLOT,
   KWL_STATUS_RESULT,
   KWL_STATUS_BUSY,
   KWL_STATUS_CMD_REJECT,
   KWL_STATUS_COMMIT_BUSY,
   KWL_STATUS_COMMIT_RESULT,
   KWL_STATUS_ROOT,
   KWL_STATUS_RBG,
   KWL_STATUS_ALARM,
   KWL_STATUS_DIRTY,
   KWL_ROOT_GEN_GEN,
   KWL_JSEQ_SEQ,
   KWL_NEW_CFG_KEY256,
   KWL_NEW_CFG_PERSIST,
   KWL_NEW_CFG_CLASS,
   KWL_NEW_CFG_USE,
   KWL_NEW_LABEL_LO,
   KWL_NEW_LABEL_HI,
   KWL_NEW_CTX_LO,
   KWL_NEW_CTX_HI,
   KWL_NEW_ATTR,
   KWL_KEY_IN,
   KWL_RD_SEL_SLOT,
   KWL_RD,
   KWL_CNT_DERIVE_CNT,
   KWL_CNT_IMPORT_CNT,
   KWL_CNT_INVALIDATE_CNT,
   KWL_CNT_DESTROY_CNT,
   KWL_CNT_SWEPT_CNT,
   KWL_CNT_ERASE_CNT,
   KWL_CNT_LOAD_CNT,
   KWL_CNT_COMMIT_CNT,
   KWL_CNT_COMMIT_HOLDUP_CNT,
   KWL_CNT_HEALTH_FAIL_CNT,
   KWL_CNT_REMASK_CNT,
   KWL_CNT_CLR_ALL]

/-- The register fields of the KWL pages (Tables 15-5 to 15-7). -/
def regsKwl : List Fld := regsKwl0

end Sys2Proof.Machine
end

