-- ==== Sys2Proof/Machine/RegsLfe.lean ====
section
/-! DEFINITION. The register fields of the LFE pages (Table 11-7), row by row. -/

namespace Sys2Proof.Machine

/-- Table 11-7, LFE_CTRL.AUTO_TDR. -/
def LFE_CTRL_AUTO_TDR : Fld :=
  { name := "LFE_CTRL.AUTO_TDR", base := 0x200080, lo := 8, width := 1, acc := .rw, whn := .staged, restore := .kept, dflt := fun ix => if 48 ≤ ix.headD 0 ∧ ix.headD 0 < 56 then 1 else 0,
    dims := [⟨0, 64, 32768⟩] }

/-- Table 11-7, LFE_CTRL.SWAP_AUTO. -/
def LFE_CTRL_SWAP_AUTO : Fld :=
  { name := "LFE_CTRL.SWAP_AUTO", base := 0x200080, lo := 7, width := 1, acc := .rw, whn := .staged, restore := .kept, dflt := fun ix => if ix.headD 0 < 32 then 1 else 0,
    dims := [⟨0, 64, 32768⟩] }

/-- Table 11-7, LFE_CTRL.CAN_CLASS. -/
def LFE_CTRL_CAN_CLASS : Fld :=
  { name := "LFE_CTRL.CAN_CLASS", base := 0x200080, lo := 4, width := 1, acc := .rw, whn := .locked, restore := .kept, dflt := fun _ => 0,
    dims := [⟨0, 64, 32768⟩] }

/-- Table 11-7, LFE_CTRL.TX_EN. -/
def LFE_CTRL_TX_EN : Fld :=
  { name := "LFE_CTRL.TX_EN", base := 0x200080, lo := 0, width := 1, acc := .rw, whn := .staged, restore := .kept, dflt := fun _ => 0,
    dims := [⟨0, 64, 32768⟩] }

/-- Table 11-7, LFE_CMD.OP. -/
def LFE_CMD_OP : Fld :=
  { name := "LFE_CMD.OP", base := 0x200084, lo := 0, width := 4, acc := .wo, whn := .live, restore := .literal, dflt := fun _ => 0,
    dims := [⟨0, 64, 32768⟩] }

/-- Table 11-7, LFE_STATUS.STATE. -/
def LFE_STATUS_STATE : Fld :=
  { name := "LFE_STATUS.STATE", base := 0x200088, lo := 27, width := 5, acc := .ro, whn := .none, restore := .literal, dflt := fun _ => 0,
    dims := [⟨0, 64, 32768⟩] }

/-- Table 11-7, LFE_STATUS.SWAPPED. -/
def LFE_STATUS_SWAPPED : Fld :=
  { name := "LFE_STATUS.SWAPPED", base := 0x200088, lo := 26, width := 1, acc := .ro, whn := .none, restore := .literal, dflt := fun _ => 0,
    dims := [⟨0, 64, 32768⟩] }

/-- Table 11-7, LFE_STATUS.POL_INV. -/
def LFE_STATUS_POL_INV : Fld :=
  { name := "LFE_STATUS.POL_INV", base := 0x200088, lo := 25, width := 1, acc := .ro, whn := .none, restore := .literal, dflt := fun _ => 0,
    dims := [⟨0, 64, 32768⟩] }

/-- Table 11-7, LFE_STATUS.DRV_OFF. -/
def LFE_STATUS_DRV_OFF : Fld :=
  { name := "LFE_STATUS.DRV_OFF", base := 0x200088, lo := 24, width := 1, acc := .ro, whn := .none, restore := .literal, dflt := fun _ => 0,
    dims := [⟨0, 64, 32768⟩] }

/-- Table 11-7, LFE_STATUS.SQI. -/
def LFE_STATUS_SQI : Fld :=
  { name := "LFE_STATUS.SQI", base := 0x200088, lo := 21, width := 3, acc := .ro, whn := .none, restore := .literal, dflt := fun _ => 0,
    dims := [⟨0, 64, 32768⟩] }

/-- Table 11-7, LFE_STATUS.MEAS_BUSY. -/
def LFE_STATUS_MEAS_BUSY : Fld :=
  { name := "LFE_STATUS.MEAS_BUSY", base := 0x200088, lo := 20, width := 1, acc := .ro, whn := .none, restore := .literal, dflt := fun _ => 0,
    dims := [⟨0, 64, 32768⟩] }

/-- Table 11-7, LFE_STATUS.MEAS_WAIT. -/
def LFE_STATUS_MEAS_WAIT : Fld :=
  { name := "LFE_STATUS.MEAS_WAIT", base := 0x200088, lo := 19, width := 1, acc := .ro, whn := .none, restore := .literal, dflt := fun _ => 0,
    dims := [⟨0, 64, 32768⟩] }

/-- Table 11-7, LFE_STATUS.WAKE_ARMED. -/
def LFE_STATUS_WAKE_ARMED : Fld :=
  { name := "LFE_STATUS.WAKE_ARMED", base := 0x200088, lo := 18, width := 1, acc := .ro, whn := .none, restore := .literal, dflt := fun _ => 0,
    dims := [⟨0, 64, 32768⟩] }

/-- Table 11-7, LFE_STATUS.CMD_REJECT. -/
def LFE_STATUS_CMD_REJECT : Fld :=
  { name := "LFE_STATUS.CMD_REJECT", base := 0x200088, lo := 17, width := 1, acc := .w1c, whn := .live, restore := .literal, dflt := fun _ => 0,
    dims := [⟨0, 64, 32768⟩] }

/-- Table 11-7, LFE_FAULT_SET.SET. -/
def LFE_FAULT_SET_SET : Fld :=
  { name := "LFE_FAULT_SET.SET", base := 0x20008c, lo := 0, width := 32, acc := .ro, whn := .none, restore := .literal, dflt := fun _ => 0,
    dims := [⟨0, 64, 32768⟩] }

/-- Table 11-7, LFE_FAULT_LATCH.LATCH. -/
def LFE_FAULT_LATCH_LATCH : Fld :=
  { name := "LFE_FAULT_LATCH.LATCH", base := 0x200090, lo := 0, width := 32, acc := .w1c, whn := .live, restore := .literal, dflt := fun _ => 0,
    dims := [⟨0, 64, 32768⟩] }

/-- Table 11-7, LFE_FAULT_FILT.FILT_US. -/
def LFE_FAULT_FILT_FILT_US : Fld :=
  { name := "LFE_FAULT_FILT.FILT_US", base := 0x200094, lo := 0, width := 10, acc := .rw, whn := .staged, restore := .kept, dflt := fun _ => 100,
    dims := [⟨0, 64, 32768⟩] }

/-- Table 11-7, LFE_TERM.VALID. -/
def LFE_TERM_VALID : Fld :=
  { name := "LFE_TERM.VALID", base := 0x200098, lo := 31, width := 1, acc := .ro, whn := .none, restore := .literal, dflt := fun _ => 0,
    dims := [⟨0, 64, 32768⟩] }

/-- Table 11-7, LFE_TERM.CLASS. -/
def LFE_TERM_CLASS : Fld :=
  { name := "LFE_TERM.CLASS", base := 0x200098, lo := 28, width := 3, acc := .ro, whn := .none, restore := .literal, dflt := fun _ => 0,
    dims := [⟨0, 64, 32768⟩] }

/-- Table 11-7, LFE_TERM.OHMS. -/
def LFE_TERM_OHMS : Fld :=
  { name := "LFE_TERM.OHMS", base := 0x200098, lo := 0, width := 12, acc := .ro, whn := .none, restore := .literal, dflt := fun _ => 0,
    dims := [⟨0, 64, 32768⟩] }

/-- Table 11-7, LFE_TDR_CFG.VF. -/
def LFE_TDR_CFG_VF : Fld :=
  { name := "LFE_TDR_CFG.VF", base := 0x20009c, lo := 0, width := 8, acc := .rw, whn := .staged, restore := .kept, dflt := fun ix => if 32 ≤ ix.headD 0 ∧ ix.headD 0 < 56 then 169 else 0,
    dims := [⟨0, 64, 32768⟩] }

/-- Table 11-7, LFE_TDR_RES.VALID. -/
def LFE_TDR_RES_VALID : Fld :=
  { name := "LFE_TDR_RES.VALID", base := 0x2000a0, lo := 31, width := 1, acc := .ro, whn := .none, restore := .literal, dflt := fun _ => 0,
    dims := [⟨0, 64, 32768⟩] }

/-- Table 11-7, LFE_TDR_RES.KIND. -/
def LFE_TDR_RES_KIND : Fld :=
  { name := "LFE_TDR_RES.KIND", base := 0x2000a0, lo := 28, width := 3, acc := .ro, whn := .none, restore := .literal, dflt := fun _ => 0,
    dims := [⟨0, 64, 32768⟩] }

/-- Table 11-7, LFE_TDR_RES.DIST. -/
def LFE_TDR_RES_DIST : Fld :=
  { name := "LFE_TDR_RES.DIST", base := 0x2000a0, lo := 0, width := 10, acc := .ro, whn := .none, restore := .literal, dflt := fun _ => 0,
    dims := [⟨0, 64, 32768⟩] }

/-- Table 11-7, LFE_WAKE.MODE. -/
def LFE_WAKE_MODE : Fld :=
  { name := "LFE_WAKE.MODE", base := 0x2000a4, lo := 30, width := 2, acc := .rw, whn := .staged, restore := .kept, dflt := fun ix => if ix.headD 0 < 56 then 1 else 0,
    dims := [⟨0, 64, 32768⟩] }

/-- Table 11-7, LFE_WAKE.FD_PASSIVE. -/
def LFE_WAKE_FD_PASSIVE : Fld :=
  { name := "LFE_WAKE.FD_PASSIVE", base := 0x2000a4, lo := 29, width := 1, acc := .rw, whn := .staged, restore := .kept, dflt := fun ix => if ix.headD 0 < 32 then 1 else 0,
    dims := [⟨0, 64, 32768⟩] }

/-- Table 11-7, LFE_WAKE.WUF_RATE. -/
def LFE_WAKE_WUF_RATE : Fld :=
  { name := "LFE_WAKE.WUF_RATE", base := 0x2000a4, lo := 27, width := 2, acc := .rw, whn := .staged, restore := .kept, dflt := fun ix => if ix.headD 0 < 32 then 2 else 0,
    dims := [⟨0, 64, 32768⟩] }

/-- Table 11-7, LFE_WAKE.DLC_EN. -/
def LFE_WAKE_DLC_EN : Fld :=
  { name := "LFE_WAKE.DLC_EN", base := 0x2000a4, lo := 26, width := 1, acc := .rw, whn := .staged, restore := .kept, dflt := fun _ => 0,
    dims := [⟨0, 64, 32768⟩] }

/-- Table 11-7, LFE_WAKE.DLC. -/
def LFE_WAKE_DLC : Fld :=
  { name := "LFE_WAKE.DLC", base := 0x2000a4, lo := 22, width := 4, acc := .rw, whn := .staged, restore := .kept, dflt := fun _ => 0,
    dims := [⟨0, 64, 32768⟩] }

/-- Table 11-7, LFE_WUF_ID.IDE. -/
def LFE_WUF_ID_IDE : Fld :=
  { name := "LFE_WUF_ID.IDE", base := 0x2000a8, lo := 31, width := 1, acc := .rw, whn := .staged, restore := .kept, dflt := fun _ => 0,
    dims := [⟨0, 64, 32768⟩] }

/-- Table 11-7, LFE_WUF_ID.ID. -/
def LFE_WUF_ID_ID : Fld :=
  { name := "LFE_WUF_ID.ID", base := 0x2000a8, lo := 0, width := 29, acc := .rw, whn := .staged, restore := .kept, dflt := fun _ => 0,
    dims := [⟨0, 64, 32768⟩] }

/-- Table 11-7, LFE_WUF_MASK.MASK. -/
def LFE_WUF_MASK_MASK : Fld :=
  { name := "LFE_WUF_MASK.MASK", base := 0x2000ac, lo := 0, width := 29, acc := .rw, whn := .staged, restore := .kept, dflt := fun _ => 0,
    dims := [⟨0, 64, 32768⟩] }

/-- Table 11-7, LFE_WUF_DMASK_LO.D. -/
def LFE_WUF_DMASK_LO_D : Fld :=
  { name := "LFE_WUF_DMASK_LO.D", base := 0x2000b0, lo := 0, width := 32, acc := .rw, whn := .staged, restore := .kept, dflt := fun _ => 0,
    dims := [⟨0, 64, 32768⟩] }

/-- Table 11-7, LFE_WUF_DMASK_HI.D. -/
def LFE_WUF_DMASK_HI_D : Fld :=
  { name := "LFE_WUF_DMASK_HI.D", base := 0x2000b4, lo := 0, width := 32, acc := .rw, whn := .staged, restore := .kept, dflt := fun _ => 0,
    dims := [⟨0, 64, 32768⟩] }

/-- Table 11-7, LFE_WAKE_FILT.ENERGY_US. -/
def LFE_WAKE_FILT_ENERGY_US : Fld :=
  { name := "LFE_WAKE_FILT.ENERGY_US", base := 0x2000b8, lo := 0, width := 10, acc := .rw, whn := .staged, restore := .kept, dflt := fun ix => if 32 ≤ ix.headD 0 ∧ ix.headD 0 < 48 then 100 else 0,
    dims := [⟨0, 64, 32768⟩] }

/-- Table 11-7, LFE_WAKE_STAT.VALID. -/
def LFE_WAKE_STAT_VALID : Fld :=
  { name := "LFE_WAKE_STAT.VALID", base := 0x2000bc, lo := 31, width := 1, acc := .w1c, whn := .live, restore := .literal, dflt := fun _ => 0,
    dims := [⟨0, 64, 32768⟩] }

/-- Table 11-7, LFE_WAKE_STAT.KIND. -/
def LFE_WAKE_STAT_KIND : Fld :=
  { name := "LFE_WAKE_STAT.KIND", base := 0x2000bc, lo := 28, width := 3, acc := .ro, whn := .none, restore := .literal, dflt := fun _ => 0,
    dims := [⟨0, 64, 32768⟩] }

/-- Table 11-7, LFE_WAKE_STAT.FERR. -/
def LFE_WAKE_STAT_FERR : Fld :=
  { name := "LFE_WAKE_STAT.FERR", base := 0x2000bc, lo := 0, width := 6, acc := .ro, whn := .none, restore := .literal, dflt := fun _ => 0,
    dims := [⟨0, 64, 32768⟩] }

/-- Table 11-7, LFE_SERDES.TX_INV. -/
def LFE_SERDES_TX_INV : Fld :=
  { name := "LFE_SERDES.TX_INV", base := 0x2000c0, lo := 31, width := 1, acc := .rw, whn := .locked, restore := .kept, dflt := fun _ => 0,
    dims := [⟨0, 64, 32768⟩] }

/-- Table 11-7, LFE_SERDES.RX_INV. -/
def LFE_SERDES_RX_INV : Fld :=
  { name := "LFE_SERDES.RX_INV", base := 0x2000c0, lo := 30, width := 1, acc := .rw, whn := .locked, restore := .kept, dflt := fun _ => 0,
    dims := [⟨0, 64, 32768⟩] }

/-- Table 11-7, LFE_SERDES.TX_PRE. -/
def LFE_SERDES_TX_PRE : Fld :=
  { name := "LFE_SERDES.TX_PRE", base := 0x2000c0, lo := 16, width := 6, acc := .rw, whn := .locked, restore := .kept, dflt := fun ix => if 56 ≤ ix.headD 0 then 4 else 0,
    dims := [⟨0, 64, 32768⟩] }

/-- Table 11-7, LFE_SERDES.TX_MAIN. -/
def LFE_SERDES_TX_MAIN : Fld :=
  { name := "LFE_SERDES.TX_MAIN", base := 0x2000c0, lo := 8, width := 6, acc := .rw, whn := .locked, restore := .kept, dflt := fun ix => if 56 ≤ ix.headD 0 then 48 else 0,
    dims := [⟨0, 64, 32768⟩] }

/-- Table 11-7, LFE_SERDES.TX_POST. -/
def LFE_SERDES_TX_POST : Fld :=
  { name := "LFE_SERDES.TX_POST", base := 0x2000c0, lo := 0, width := 6, acc := .rw, whn := .locked, restore := .kept, dflt := fun ix => if 56 ≤ ix.headD 0 then 8 else 0,
    dims := [⟨0, 64, 32768⟩] }

/-- Table 11-7, LFE_CNT_FAULT.CNT. -/
def LFE_CNT_FAULT_CNT : Fld :=
  { name := "LFE_CNT_FAULT.CNT", base := 0x2000e0, lo := 0, width := 32, acc := .ro, whn := .none, restore := .literal, counter := true, dflt := fun _ => 0,
    dims := [⟨0, 64, 32768⟩] }

/-- Table 11-7, LFE_CNT_SWAP.CNT. -/
def LFE_CNT_SWAP_CNT : Fld :=
  { name := "LFE_CNT_SWAP.CNT", base := 0x2000e4, lo := 0, width := 32, acc := .ro, whn := .none, restore := .literal, counter := true, dflt := fun _ => 0,
    dims := [⟨0, 64, 32768⟩] }

/-- Table 11-7, LFE_CNT_MEAS.CNT. -/
def LFE_CNT_MEAS_CNT : Fld :=
  { name := "LFE_CNT_MEAS.CNT", base := 0x2000e8, lo := 0, width := 32, acc := .ro, whn := .none, restore := .literal, counter := true, dflt := fun _ => 0,
    dims := [⟨0, 64, 32768⟩] }

/-- Table 11-7, LFE_CNT_CLR.ALL. -/
def LFE_CNT_CLR_ALL : Fld :=
  { name := "LFE_CNT_CLR.ALL", base := 0x2000f0, lo := 0, width := 1, acc := .w1s, whn := .live, restore := .literal, dflt := fun _ => 0,
    dims := [⟨0, 64, 32768⟩] }

/-- The fields above, part 0. -/
def regsLfe0 : List Fld :=
  [LFE_CTRL_AUTO_TDR,
   LFE_CTRL_SWAP_AUTO,
   LFE_CTRL_CAN_CLASS,
   LFE_CTRL_TX_EN,
   LFE_CMD_OP,
   LFE_STATUS_STATE,
   LFE_STATUS_SWAPPED,
   LFE_STATUS_POL_INV,
   LFE_STATUS_DRV_OFF,
   LFE_STATUS_SQI,
   LFE_STATUS_MEAS_BUSY,
   LFE_STATUS_MEAS_WAIT,
   LFE_STATUS_WAKE_ARMED,
   LFE_STATUS_CMD_REJECT,
   LFE_FAULT_SET_SET,
   LFE_FAULT_LATCH_LATCH,
   LFE_FAULT_FILT_FILT_US,
   LFE_TERM_VALID,
   LFE_TERM_CLASS,
   LFE_TERM_OHMS,
   LFE_TDR_CFG_VF,
   LFE_TDR_RES_VALID,
   LFE_TDR_RES_KIND,
   LFE_TDR_RES_DIST,
   LFE_WAKE_MODE,
   LFE_WAKE_FD_PASSIVE,
   LFE_WAKE_WUF_RATE,
   LFE_WAKE_DLC_EN,
   LFE_WAKE_DLC,
   LFE_WUF_ID_IDE,
   LFE_WUF_ID_ID,
   LFE_WUF_MASK_MASK,
   LFE_WUF_DMASK_LO_D,
   LFE_WUF_DMASK_HI_D,
   LFE_WAKE_FILT_ENERGY_US,
   LFE_WAKE_STAT_VALID,
   LFE_WAKE_STAT_KIND,
   LFE_WAKE_STAT_FERR,
   LFE_SERDES_TX_INV,
   LFE_SERDES_RX_INV]

/-- The fields above, part 1. -/
def regsLfe1 : List Fld :=
  [LFE_SERDES_TX_PRE,
   LFE_SERDES_TX_MAIN,
   LFE_SERDES_TX_POST,
   LFE_CNT_FAULT_CNT,
   LFE_CNT_SWAP_CNT,
   LFE_CNT_MEAS_CNT,
   LFE_CNT_CLR_ALL]

/-- The register fields of the LFE pages (Table 11-7). -/
def regsLfe : List Fld := regsLfe0 ++ regsLfe1

end Sys2Proof.Machine
end

