-- ==== Sys2Proof/Machine/RegsLkp.lean ====
section
/-! DEFINITION. The register fields of the LKP pages (Tables 8-7 to 8-9), row by row. -/

namespace Sys2Proof.Machine

/-- Table 8-7, LKP_CTRL.WALK_PAUSE. -/
def LKP_CTRL_WALK_PAUSE : Fld :=
  { name := "LKP_CTRL.WALK_PAUSE", base := 0xc0080, lo := 2, width := 1, acc := .rw, whn := .live, restore := .literal, dflt := fun _ => 0 }

/-- Table 8-7, LKP_CTRL.WALK_EN. -/
def LKP_CTRL_WALK_EN : Fld :=
  { name := "LKP_CTRL.WALK_EN", base := 0xc0080, lo := 1, width := 1, acc := .rw, whn := .staged, restore := .kept, dflt := fun _ => 0 }

/-- Table 8-7, LKP_CTRL.LEARN_EN. -/
def LKP_CTRL_LEARN_EN : Fld :=
  { name := "LKP_CTRL.LEARN_EN", base := 0xc0080, lo := 0, width := 1, acc := .rw, whn := .staged, restore := .kept, dflt := fun _ => 0 }

/-- Table 8-7, LKP_LEARN_PORTS.MASK. -/
def LKP_LEARN_PORTS_MASK : Fld :=
  { name := "LKP_LEARN_PORTS.MASK", base := 0xc0084, lo := 0, width := 32, acc := .rw, whn := .staged, restore := .kept, dflt := fun _ => 0 }

/-- Table 8-7, LKP_HOLD.HOLD_MS. -/
def LKP_HOLD_HOLD_MS : Fld :=
  { name := "LKP_HOLD.HOLD_MS", base := 0xc0088, lo := 0, width := 7, acc := .rw, whn := .staged, restore := .kept, dflt := fun _ => 1 }

/-- Table 8-7, LKP_AGE.TICK_MS. -/
def LKP_AGE_TICK_MS : Fld :=
  { name := "LKP_AGE.TICK_MS", base := 0xc008c, lo := 0, width := 16, acc := .rw, whn := .staged, restore := .kept, dflt := fun _ => 20000 }

/-- Table 8-7, LKP_PCP_QMAP.MAP. -/
def LKP_PCP_QMAP_MAP : Fld :=
  { name := "LKP_PCP_QMAP.MAP", base := 0xc0090, lo := 0, width := 24, acc := .rw, whn := .staged, restore := .kept, dflt := fun _ => 16434824 }

/-- Table 8-7, LKP_WALK.PERIOD_MS. -/
def LKP_WALK_PERIOD_MS : Fld :=
  { name := "LKP_WALK.PERIOD_MS", base := 0xc0094, lo := 0, width := 16, acc := .rw, whn := .staged, restore := .kept, dflt := fun _ => 1000 }

/-- Table 8-7, LKP_SEED_ACTIVE.SEED. -/
def LKP_SEED_ACTIVE_SEED : Fld :=
  { name := "LKP_SEED_ACTIVE.SEED", base := 0xc0098, lo := 0, width := 32, acc := .ro, whn := .none, restore := .kept, dflt := fun _ => 0 }

/-- Table 8-7, LKP_SEED_IDLE.SEED. -/
def LKP_SEED_IDLE_SEED : Fld :=
  { name := "LKP_SEED_IDLE.SEED", base := 0xc009c, lo := 0, width := 32, acc := .ro, whn := .none, restore := .literal, dflt := fun _ => 0 }

/-- Table 8-7, LKP_STATUS.WALK_PARTIAL. -/
def LKP_STATUS_WALK_PARTIAL : Fld :=
  { name := "LKP_STATUS.WALK_PARTIAL", base := 0xc00a0, lo := 4, width := 1, acc := .ro, whn := .none, restore := .literal, dflt := fun _ => 0 }

/-- Table 8-7, LKP_STATUS.PENDING. -/
def LKP_STATUS_PENDING : Fld :=
  { name := "LKP_STATUS.PENDING", base := 0xc00a0, lo := 3, width := 1, acc := .ro, whn := .none, restore := .literal, dflt := fun _ => 0 }

/-- Table 8-7, LKP_STATUS.MIRROR_FAIL. -/
def LKP_STATUS_MIRROR_FAIL : Fld :=
  { name := "LKP_STATUS.MIRROR_FAIL", base := 0xc00a0, lo := 2, width := 1, acc := .ro, whn := .none, restore := .literal, dflt := fun _ => 0 }

/-- Table 8-7, LKP_STATUS.REBUILD_OPEN. -/
def LKP_STATUS_REBUILD_OPEN : Fld :=
  { name := "LKP_STATUS.REBUILD_OPEN", base := 0xc00a0, lo := 1, width := 1, acc := .ro, whn := .none, restore := .literal, dflt := fun _ => 0 }

/-- Table 8-7, LKP_STATUS.ACTIVE_BANK. -/
def LKP_STATUS_ACTIVE_BANK : Fld :=
  { name := "LKP_STATUS.ACTIVE_BANK", base := 0xc00a0, lo := 0, width := 1, acc := .ro, whn := .none, restore := .literal, dflt := fun _ => 0 }

/-- Table 8-7, LKP_PEND.ENT. -/
def LKP_PEND_ENT : Fld :=
  { name := "LKP_PEND.ENT", base := 0xc00a4, lo := 0, width := 32, acc := .ro, whn := .none, restore := .literal, dflt := fun _ => 0,
    dims := [⟨0, 4, 32⟩] }

/-- Table 8-7, LKP_CONFLICT.VALID. -/
def LKP_CONFLICT_VALID : Fld :=
  { name := "LKP_CONFLICT.VALID", base := 0xc00b4, lo := 31, width := 1, acc := .w1c, whn := .live, restore := .literal, dflt := fun _ => 0 }

/-- Table 8-7, LKP_CONFLICT.VID. -/
def LKP_CONFLICT_VID : Fld :=
  { name := "LKP_CONFLICT.VID", base := 0xc00b4, lo := 16, width := 12, acc := .ro, whn := .none, restore := .literal, dflt := fun _ => 0 }

/-- Table 8-7, LKP_CONFLICT.HELD. -/
def LKP_CONFLICT_HELD : Fld :=
  { name := "LKP_CONFLICT.HELD", base := 0xc00b4, lo := 8, width := 7, acc := .ro, whn := .none, restore := .literal, dflt := fun _ => 0 }

/-- Table 8-7, LKP_CONFLICT.REFUSED. -/
def LKP_CONFLICT_REFUSED : Fld :=
  { name := "LKP_CONFLICT.REFUSED", base := 0xc00b4, lo := 0, width := 7, acc := .ro, whn := .none, restore := .literal, dflt := fun _ => 0 }

/-- Table 8-7, LKP_CONFLICT_DA_LO.DA. -/
def LKP_CONFLICT_DA_LO_DA : Fld :=
  { name := "LKP_CONFLICT_DA_LO.DA", base := 0xc00b8, lo := 0, width := 32, acc := .ro, whn := .none, restore := .literal, dflt := fun _ => 0 }

/-- Table 8-7, LKP_CONFLICT_DA_HI.DA. -/
def LKP_CONFLICT_DA_HI_DA : Fld :=
  { name := "LKP_CONFLICT_DA_HI.DA", base := 0xc00bc, lo := 0, width := 16, acc := .ro, whn := .none, restore := .literal, dflt := fun _ => 0 }

/-- Table 8-7, LKP_WALK_MISS.VALID. -/
def LKP_WALK_MISS_VALID : Fld :=
  { name := "LKP_WALK_MISS.VALID", base := 0xc00c0, lo := 31, width := 1, acc := .w1c, whn := .live, restore := .literal, dflt := fun _ => 0 }

/-- Table 8-7, LKP_WALK_MISS.OVF. -/
def LKP_WALK_MISS_OVF : Fld :=
  { name := "LKP_WALK_MISS.OVF", base := 0xc00c0, lo := 16, width := 1, acc := .ro, whn := .none, restore := .literal, dflt := fun _ => 0 }

/-- Table 8-7, LKP_WALK_MISS.LOC. -/
def LKP_WALK_MISS_LOC : Fld :=
  { name := "LKP_WALK_MISS.LOC", base := 0xc00c0, lo := 0, width := 16, acc := .ro, whn := .none, restore := .literal, dflt := fun _ => 0 }

/-- Table 8-7, LKP_PRELOAD_LEFT.CNT. -/
def LKP_PRELOAD_LEFT_CNT : Fld :=
  { name := "LKP_PRELOAD_LEFT.CNT", base := 0xc00c4, lo := 0, width := 17, acc := .ro, whn := .none, restore := .literal, dflt := fun _ => 0 }

/-- Table 8-7, LKP_GEN_NEXT.GEN. -/
def LKP_GEN_NEXT_GEN : Fld :=
  { name := "LKP_GEN_NEXT.GEN", base := 0xc00c8, lo := 0, width := 16, acc := .ro, whn := .none, restore := .literal, dflt := fun _ => 0 }

/-- Table 8-8, LKP_CMD_KEY_LO.KEY. -/
def LKP_CMD_KEY_LO_KEY : Fld :=
  { name := "LKP_CMD_KEY_LO.KEY", base := 0xc1080, lo := 0, width := 32, acc := .rw, whn := .live, restore := .literal, dflt := fun _ => 0 }

/-- Table 8-8, LKP_CMD_KEY_HI.DA. -/
def LKP_CMD_KEY_HI_DA : Fld :=
  { name := "LKP_CMD_KEY_HI.DA", base := 0xc1084, lo := 16, width := 16, acc := .rw, whn := .live, restore := .literal, dflt := fun _ => 0 }

/-- Table 8-8, LKP_CMD_KEY_HI.VID. -/
def LKP_CMD_KEY_HI_VID : Fld :=
  { name := "LKP_CMD_KEY_HI.VID", base := 0xc1084, lo := 4, width := 12, acc := .rw, whn := .live, restore := .literal, dflt := fun _ => 0 }

/-- Table 8-8, LKP_CMD_DATA.DATA. -/
def LKP_CMD_DATA_DATA : Fld :=
  { name := "LKP_CMD_DATA.DATA", base := 0xc1088, lo := 0, width := 32, acc := .rw, whn := .live, restore := .literal, dflt := fun _ => 0,
    dims := [⟨0, 4, 32⟩] }

/-- Table 8-8, LKP_CMD_GEN.GEN. -/
def LKP_CMD_GEN_GEN : Fld :=
  { name := "LKP_CMD_GEN.GEN", base := 0xc1098, lo := 0, width := 16, acc := .rw, whn := .live, restore := .literal, dflt := fun _ => 0 }

/-- Table 8-8, LKP_CMD_GO.TAG. -/
def LKP_CMD_GO_TAG : Fld :=
  { name := "LKP_CMD_GO.TAG", base := 0xc109c, lo := 24, width := 8, acc := .wo, whn := .live, restore := .literal, dflt := fun _ => 0 }

/-- Table 8-8, LKP_CMD_GO.COND. -/
def LKP_CMD_GO_COND : Fld :=
  { name := "LKP_CMD_GO.COND", base := 0xc109c, lo := 8, width := 1, acc := .wo, whn := .live, restore := .literal, dflt := fun _ => 0 }

/-- Table 8-8, LKP_CMD_GO.BANK. -/
def LKP_CMD_GO_BANK : Fld :=
  { name := "LKP_CMD_GO.BANK", base := 0xc109c, lo := 7, width := 1, acc := .wo, whn := .live, restore := .literal, dflt := fun _ => 0 }

/-- Table 8-8, LKP_CMD_GO.TABLE. -/
def LKP_CMD_GO_TABLE : Fld :=
  { name := "LKP_CMD_GO.TABLE", base := 0xc109c, lo := 6, width := 1, acc := .wo, whn := .live, restore := .literal, dflt := fun _ => 0 }

/-- Table 8-8, LKP_CMD_GO.OP. -/
def LKP_CMD_GO_OP : Fld :=
  { name := "LKP_CMD_GO.OP", base := 0xc109c, lo := 0, width := 4, acc := .wo, whn := .live, restore := .literal, dflt := fun _ => 0 }

/-- Table 8-8, LKP_CMD_STAT.BUSY. -/
def LKP_CMD_STAT_BUSY : Fld :=
  { name := "LKP_CMD_STAT.BUSY", base := 0xc10a0, lo := 31, width := 1, acc := .ro, whn := .none, restore := .literal, dflt := fun _ => 0 }

/-- Table 8-8, LKP_CMD_STAT.CMD_REJECT. -/
def LKP_CMD_STAT_CMD_REJECT : Fld :=
  { name := "LKP_CMD_STAT.CMD_REJECT", base := 0xc10a0, lo := 30, width := 1, acc := .w1c, whn := .live, restore := .literal, dflt := fun _ => 0 }

/-- Table 8-8, LKP_CMD_STAT.QFREE. -/
def LKP_CMD_STAT_QFREE : Fld :=
  { name := "LKP_CMD_STAT.QFREE", base := 0xc10a0, lo := 0, width := 7, acc := .ro, whn := .none, restore := .literal, dflt := fun _ => 64 }

/-- Table 8-8, LKP_RES_POP.POP. -/
def LKP_RES_POP_POP : Fld :=
  { name := "LKP_RES_POP.POP", base := 0xc10a4, lo := 0, width := 1, acc := .w1s, whn := .live, restore := .literal, dflt := fun _ => 0 }

/-- Table 8-8, LKP_RES_HEAD.VALID. -/
def LKP_RES_HEAD_VALID : Fld :=
  { name := "LKP_RES_HEAD.VALID", base := 0xc10a8, lo := 31, width := 1, acc := .ro, whn := .none, restore := .literal, dflt := fun _ => 0 }

/-- Table 8-8, LKP_RES_HEAD.GAP. -/
def LKP_RES_HEAD_GAP : Fld :=
  { name := "LKP_RES_HEAD.GAP", base := 0xc10a8, lo := 30, width := 1, acc := .ro, whn := .none, restore := .literal, dflt := fun _ => 0 }

/-- Table 8-8, LKP_RES_HEAD.TAG. -/
def LKP_RES_HEAD_TAG : Fld :=
  { name := "LKP_RES_HEAD.TAG", base := 0xc10a8, lo := 16, width := 8, acc := .ro, whn := .none, restore := .literal, dflt := fun _ => 0 }

/-- Table 8-8, LKP_RES_HEAD.STATUS. -/
def LKP_RES_HEAD_STATUS : Fld :=
  { name := "LKP_RES_HEAD.STATUS", base := 0xc10a8, lo := 0, width := 4, acc := .ro, whn := .none, restore := .literal, dflt := fun _ => 0 }

/-- Table 8-8, LKP_RES_LOC.OVF. -/
def LKP_RES_LOC_OVF : Fld :=
  { name := "LKP_RES_LOC.OVF", base := 0xc10ac, lo := 16, width := 1, acc := .ro, whn := .none, restore := .literal, dflt := fun _ => 0 }

/-- Table 8-8, LKP_RES_LOC.LOC. -/
def LKP_RES_LOC_LOC : Fld :=
  { name := "LKP_RES_LOC.LOC", base := 0xc10ac, lo := 0, width := 16, acc := .ro, whn := .none, restore := .literal, dflt := fun _ => 0 }

/-- Table 8-8, LKP_RES_DATA.DATA. -/
def LKP_RES_DATA_DATA : Fld :=
  { name := "LKP_RES_DATA.DATA", base := 0xc10b0, lo := 0, width := 32, acc := .ro, whn := .none, restore := .literal, dflt := fun _ => 0,
    dims := [⟨0, 4, 32⟩] }

/-- Table 8-9, LKP_CNT_HIT.CNT. -/
def LKP_CNT_HIT_CNT : Fld :=
  { name := "LKP_CNT_HIT.CNT", base := 0xc2080, lo := 0, width := 32, acc := .ro, whn := .none, restore := .literal, counter := true, dflt := fun _ => 0 }

/-- Table 8-9, LKP_CNT_FLOOD.CNT. -/
def LKP_CNT_FLOOD_CNT : Fld :=
  { name := "LKP_CNT_FLOOD.CNT", base := 0xc2084, lo := 0, width := 32, acc := .ro, whn := .none, restore := .literal, counter := true, dflt := fun _ => 0 }

/-- Table 8-9, LKP_CNT_NO_VLAN.CNT. -/
def LKP_CNT_NO_VLAN_CNT : Fld :=
  { name := "LKP_CNT_NO_VLAN.CNT", base := 0xc2088, lo := 0, width := 32, acc := .ro, whn := .none, restore := .literal, counter := true, dflt := fun _ => 0 }

/-- Table 8-9, LKP_CNT_LEARN.CNT. -/
def LKP_CNT_LEARN_CNT : Fld :=
  { name := "LKP_CNT_LEARN.CNT", base := 0xc208c, lo := 0, width := 32, acc := .ro, whn := .none, restore := .literal, counter := true, dflt := fun _ => 0 }

/-- Table 8-9, LKP_CNT_MOVE.CNT. -/
def LKP_CNT_MOVE_CNT : Fld :=
  { name := "LKP_CNT_MOVE.CNT", base := 0xc2090, lo := 0, width := 32, acc := .ro, whn := .none, restore := .literal, counter := true, dflt := fun _ => 0 }

/-- Table 8-9, LKP_CNT_LEARN_CONFLICT.CNT. -/
def LKP_CNT_LEARN_CONFLICT_CNT : Fld :=
  { name := "LKP_CNT_LEARN_CONFLICT.CNT", base := 0xc2094, lo := 0, width := 32, acc := .ro, whn := .none, restore := .literal, counter := true, dflt := fun _ => 0 }

/-- Table 8-9, LKP_CNT_LEARN_STATIC.CNT. -/
def LKP_CNT_LEARN_STATIC_CNT : Fld :=
  { name := "LKP_CNT_LEARN_STATIC.CNT", base := 0xc2098, lo := 0, width := 32, acc := .ro, whn := .none, restore := .literal, counter := true, dflt := fun _ => 0 }

/-- Table 8-9, LKP_CNT_LEARN_DROP.CNT. -/
def LKP_CNT_LEARN_DROP_CNT : Fld :=
  { name := "LKP_CNT_LEARN_DROP.CNT", base := 0xc209c, lo := 0, width := 32, acc := .ro, whn := .none, restore := .literal, counter := true, dflt := fun _ => 0 }

/-- Table 8-9, LKP_CNT_LEARN_GAP.CNT. -/
def LKP_CNT_LEARN_GAP_CNT : Fld :=
  { name := "LKP_CNT_LEARN_GAP.CNT", base := 0xc20a0, lo := 0, width := 32, acc := .ro, whn := .none, restore := .literal, counter := true, dflt := fun _ => 0 }

/-- Table 8-9, LKP_CNT_AGE_OUT.CNT. -/
def LKP_CNT_AGE_OUT_CNT : Fld :=
  { name := "LKP_CNT_AGE_OUT.CNT", base := 0xc20a4, lo := 0, width := 32, acc := .ro, whn := .none, restore := .literal, counter := true, dflt := fun _ => 0 }

/-- Table 8-9, LKP_CNT_RELOCATE.CNT. -/
def LKP_CNT_RELOCATE_CNT : Fld :=
  { name := "LKP_CNT_RELOCATE.CNT", base := 0xc20a8, lo := 0, width := 32, acc := .ro, whn := .none, restore := .literal, counter := true, dflt := fun _ => 0 }

/-- Table 8-9, LKP_CNT_REHASH_REQ.CNT. -/
def LKP_CNT_REHASH_REQ_CNT : Fld :=
  { name := "LKP_CNT_REHASH_REQ.CNT", base := 0xc20ac, lo := 0, width := 32, acc := .ro, whn := .none, restore := .literal, counter := true, dflt := fun _ => 0 }

/-- Table 8-9, LKP_CNT_WALK_MISMATCH.CNT. -/
def LKP_CNT_WALK_MISMATCH_CNT : Fld :=
  { name := "LKP_CNT_WALK_MISMATCH.CNT", base := 0xc20b0, lo := 0, width := 32, acc := .ro, whn := .none, restore := .literal, counter := true, dflt := fun _ => 0 }

/-- Table 8-9, LKP_CNT_WALK_PASS.CNT. -/
def LKP_CNT_WALK_PASS_CNT : Fld :=
  { name := "LKP_CNT_WALK_PASS.CNT", base := 0xc20b4, lo := 0, width := 32, acc := .ro, whn := .none, restore := .literal, counter := true, dflt := fun _ => 0 }

/-- Table 8-9, LKP_CNT_CLR.ALL. -/
def LKP_CNT_CLR_ALL : Fld :=
  { name := "LKP_CNT_CLR.ALL", base := 0xc20c0, lo := 0, width := 1, acc := .w1s, whn := .live, restore := .literal, dflt := fun _ => 0 }

/-- The fields above, part 0. -/
def regsLkp0 : List Fld :=
  [LKP_CTRL_WALK_PAUSE,
   LKP_CTRL_WALK_EN,
   LKP_CTRL_LEARN_EN,
   LKP_LEARN_PORTS_MASK,
   LKP_HOLD_HOLD_MS,
   LKP_AGE_TICK_MS,
   LKP_PCP_QMAP_MAP,
   LKP_WALK_PERIOD_MS,
   LKP_SEED_ACTIVE_SEED,
   LKP_SEED_IDLE_SEED,
   LKP_STATUS_WALK_PARTIAL,
   LKP_STATUS_PENDING,
   LKP_STATUS_MIRROR_FAIL,
   LKP_STATUS_REBUILD_OPEN,
   LKP_STATUS_ACTIVE_BANK,
   LKP_PEND_ENT,
   LKP_CONFLICT_VALID,
   LKP_CONFLICT_VID,
   LKP_CONFLICT_HELD,
   LKP_CONFLICT_REFUSED,
   LKP_CONFLICT_DA_LO_DA,
   LKP_CONFLICT_DA_HI_DA,
   LKP_WALK_MISS_VALID,
   LKP_WALK_MISS_OVF,
   LKP_WALK_MISS_LOC,
   LKP_PRELOAD_LEFT_CNT,
   LKP_GEN_NEXT_GEN,
   LKP_CMD_KEY_LO_KEY,
   LKP_CMD_KEY_HI_DA,
   LKP_CMD_KEY_HI_VID,
   LKP_CMD_DATA_DATA,
   LKP_CMD_GEN_GEN,
   LKP_CMD_GO_TAG,
   LKP_CMD_GO_COND,
   LKP_CMD_GO_BANK,
   LKP_CMD_GO_TABLE,
   LKP_CMD_GO_OP,
   LKP_CMD_STAT_BUSY,
   LKP_CMD_STAT_CMD_REJECT,
   LKP_CMD_STAT_QFREE]

/-- The fields above, part 1. -/
def regsLkp1 : List Fld :=
  [LKP_RES_POP_POP,
   LKP_RES_HEAD_VALID,
   LKP_RES_HEAD_GAP,
   LKP_RES_HEAD_TAG,
   LKP_RES_HEAD_STATUS,
   LKP_RES_LOC_OVF,
   LKP_RES_LOC_LOC,
   LKP_RES_DATA_DATA,
   LKP_CNT_HIT_CNT,
   LKP_CNT_FLOOD_CNT,
   LKP_CNT_NO_VLAN_CNT,
   LKP_CNT_LEARN_CNT,
   LKP_CNT_MOVE_CNT,
   LKP_CNT_LEARN_CONFLICT_CNT,
   LKP_CNT_LEARN_STATIC_CNT,
   LKP_CNT_LEARN_DROP_CNT,
   LKP_CNT_LEARN_GAP_CNT,
   LKP_CNT_AGE_OUT_CNT,
   LKP_CNT_RELOCATE_CNT,
   LKP_CNT_REHASH_REQ_CNT,
   LKP_CNT_WALK_MISMATCH_CNT,
   LKP_CNT_WALK_PASS_CNT,
   LKP_CNT_CLR_ALL]

/-- The register fields of the LKP pages (Tables 8-7 to 8-9). -/
def regsLkp : List Fld := regsLkp0 ++ regsLkp1

end Sys2Proof.Machine
end

