-- ==== Sys2Proof/Machine/RegsLog.lean ====
section
/-! DEFINITION. The register fields of the LOG pages (Tables 13-6 to 13-8), row by row. -/

namespace Sys2Proof.Machine

/-- Table 13-6, LOG_CTRL.SEAL_EN. -/
def LOG_CTRL_SEAL_EN : Fld :=
  { name := "LOG_CTRL.SEAL_EN", base := 0x50080, lo := 4, width := 1, acc := .rw, whn := .staged, restore := .kept, dflt := fun _ => 0 }

/-- Table 13-6, LOG_CTRL.FORMAT. -/
def LOG_CTRL_FORMAT : Fld :=
  { name := "LOG_CTRL.FORMAT", base := 0x50080, lo := 3, width := 1, acc := .rw, whn := .staged, restore := .kept, dflt := fun _ => 0 }

/-- Table 13-6, LOG_CTRL.OUT. -/
def LOG_CTRL_OUT : Fld :=
  { name := "LOG_CTRL.OUT", base := 0x50080, lo := 1, width := 2, acc := .rw, whn := .staged, restore := .kept, dflt := fun _ => 0 }

/-- Table 13-6, LOG_CMD.OP. -/
def LOG_CMD_OP : Fld :=
  { name := "LOG_CMD.OP", base := 0x50084, lo := 0, width := 4, acc := .wo, whn := .live, restore := .literal, dflt := fun _ => 0 }

/-- Table 13-6, LOG_STATUS.BUF_KIB. -/
def LOG_STATUS_BUF_KIB : Fld :=
  { name := "LOG_STATUS.BUF_KIB", base := 0x50088, lo := 16, width := 11, acc := .ro, whn := .none, restore := .literal, dflt := fun _ => 0 }

/-- Table 13-6, LOG_STATUS.CMD_REJECT. -/
def LOG_STATUS_CMD_REJECT : Fld :=
  { name := "LOG_STATUS.CMD_REJECT", base := 0x50088, lo := 10, width := 1, acc := .w1c, whn := .live, restore := .literal, dflt := fun _ => 0 }

/-- Table 13-6, LOG_STATUS.SEAL_STOPPED. -/
def LOG_STATUS_SEAL_STOPPED : Fld :=
  { name := "LOG_STATUS.SEAL_STOPPED", base := 0x50088, lo := 8, width := 1, acc := .ro, whn := .none, restore := .literal, dflt := fun _ => 0 }

/-- Table 13-6, LOG_STATUS.OUT_BLOCKED. -/
def LOG_STATUS_OUT_BLOCKED : Fld :=
  { name := "LOG_STATUS.OUT_BLOCKED", base := 0x50088, lo := 7, width := 1, acc := .ro, whn := .none, restore := .literal, dflt := fun _ => 0 }

/-- Table 13-6, LOG_STATUS.SUM_PORTS. -/
def LOG_STATUS_SUM_PORTS : Fld :=
  { name := "LOG_STATUS.SUM_PORTS", base := 0x50088, lo := 0, width := 7, acc := .ro, whn := .none, restore := .literal, dflt := fun _ => 0 }

/-- Table 13-6, LOG_STREAM.STREAM. -/
def LOG_STREAM_STREAM : Fld :=
  { name := "LOG_STREAM.STREAM", base := 0x5008c, lo := 0, width := 16, acc := .rw, whn := .staged, restore := .kept, dflt := fun _ => 0 }

/-- Table 13-6, LOG_WM.HIGH_KIB. -/
def LOG_WM_HIGH_KIB : Fld :=
  { name := "LOG_WM.HIGH_KIB", base := 0x50090, lo := 16, width := 10, acc := .rw, whn := .staged, restore := .kept, dflt := fun _ => 960 }

/-- Table 13-6, LOG_WM.LOW_KIB. -/
def LOG_WM_LOW_KIB : Fld :=
  { name := "LOG_WM.LOW_KIB", base := 0x50090, lo := 0, width := 10, acc := .rw, whn := .staged, restore := .kept, dflt := fun _ => 512 }

/-- Table 13-6, LOG_RING_BASE_LO.ADDR. -/
def LOG_RING_BASE_LO_ADDR : Fld :=
  { name := "LOG_RING_BASE_LO.ADDR", base := 0x50094, lo := 12, width := 20, acc := .rw, whn := .locked, restore := .kept, dflt := fun _ => 0 }

/-- Table 13-6, LOG_RING_BASE_HI.ADDR. -/
def LOG_RING_BASE_HI_ADDR : Fld :=
  { name := "LOG_RING_BASE_HI.ADDR", base := 0x50098, lo := 0, width := 32, acc := .rw, whn := .locked, restore := .kept, dflt := fun _ => 0 }

/-- Table 13-6, LOG_RING_SIZE.SIZE. -/
def LOG_RING_SIZE_SIZE : Fld :=
  { name := "LOG_RING_SIZE.SIZE", base := 0x5009c, lo := 0, width := 5, acc := .rw, whn := .locked, restore := .kept, dflt := fun _ => 0 }

/-- Table 13-6, LOG_RING_WP.WP. -/
def LOG_RING_WP_WP : Fld :=
  { name := "LOG_RING_WP.WP", base := 0x500a0, lo := 0, width := 32, acc := .ro, whn := .none, restore := .literal, dflt := fun _ => 0 }

/-- Table 13-6, LOG_RING_RP.RP. -/
def LOG_RING_RP_RP : Fld :=
  { name := "LOG_RING_RP.RP", base := 0x500a4, lo := 0, width := 32, acc := .rw, whn := .live, restore := .literal, dflt := fun _ => 0 }

/-- Table 13-6, LOG_IRQ_COAL.RECS. -/
def LOG_IRQ_COAL_RECS : Fld :=
  { name := "LOG_IRQ_COAL.RECS", base := 0x500a8, lo := 16, width := 16, acc := .rw, whn := .staged, restore := .kept, dflt := fun _ => 256 }

/-- Table 13-6, LOG_IRQ_COAL.US. -/
def LOG_IRQ_COAL_US : Fld :=
  { name := "LOG_IRQ_COAL.US", base := 0x500a8, lo := 0, width := 16, acc := .rw, whn := .staged, restore := .kept, dflt := fun _ => 100 }

/-- Table 13-6, LOG_OUT_Q.QUAY. -/
def LOG_OUT_Q_QUAY : Fld :=
  { name := "LOG_OUT_Q.QUAY", base := 0x500ac, lo := 8, width := 6, acc := .rw, whn := .staged, restore := .kept, dflt := fun _ => 58 }

/-- Table 13-6, LOG_OUT_Q.QUEUE. -/
def LOG_OUT_Q_QUEUE : Fld :=
  { name := "LOG_OUT_Q.QUEUE", base := 0x500ac, lo := 0, width := 3, acc := .rw, whn := .staged, restore := .kept, dflt := fun _ => 0 }

/-- Table 13-6, LOG_OUT_DA_LO.DA. -/
def LOG_OUT_DA_LO_DA : Fld :=
  { name := "LOG_OUT_DA_LO.DA", base := 0x500b0, lo := 0, width := 32, acc := .rw, whn := .staged, restore := .kept, dflt := fun _ => 0 }

/-- Table 13-6, LOG_OUT_DA_HI.DA. -/
def LOG_OUT_DA_HI_DA : Fld :=
  { name := "LOG_OUT_DA_HI.DA", base := 0x500b4, lo := 0, width := 16, acc := .rw, whn := .staged, restore := .kept, dflt := fun _ => 0 }

/-- Table 13-6, LOG_OUT_SA_LO.SA. -/
def LOG_OUT_SA_LO_SA : Fld :=
  { name := "LOG_OUT_SA_LO.SA", base := 0x500b8, lo := 0, width := 32, acc := .rw, whn := .staged, restore := .kept, dflt := fun _ => 0 }

/-- Table 13-6, LOG_OUT_SA_HI.SA. -/
def LOG_OUT_SA_HI_SA : Fld :=
  { name := "LOG_OUT_SA_HI.SA", base := 0x500bc, lo := 0, width := 16, acc := .rw, whn := .staged, restore := .kept, dflt := fun _ => 0 }

/-- Table 13-6, LOG_OUT_FLUSH_US.US. -/
def LOG_OUT_FLUSH_US_US : Fld :=
  { name := "LOG_OUT_FLUSH_US.US", base := 0x500c0, lo := 0, width := 16, acc := .rw, whn := .staged, restore := .kept, dflt := fun _ => 100 }

/-- Table 13-6, LOG_CMP.DEVICE_ID. -/
def LOG_CMP_DEVICE_ID : Fld :=
  { name := "LOG_CMP.DEVICE_ID", base := 0x500c4, lo := 0, width := 16, acc := .rw, whn := .staged, restore := .kept, dflt := fun _ => 0 }

/-- Table 13-6, LOG_SEAL.KEY_SLOT. -/
def LOG_SEAL_KEY_SLOT : Fld :=
  { name := "LOG_SEAL.KEY_SLOT", base := 0x500c8, lo := 16, width := 12, acc := .rw, whn := .staged, restore := .kept, dflt := fun _ => 0 }

/-- Table 13-6, LOG_SEAL.RECS. -/
def LOG_SEAL_RECS : Fld :=
  { name := "LOG_SEAL.RECS", base := 0x500c8, lo := 0, width := 16, acc := .rw, whn := .staged, restore := .kept, dflt := fun _ => 4096 }

/-- Table 13-6, LOG_SEAL_MS.MS. -/
def LOG_SEAL_MS_MS : Fld :=
  { name := "LOG_SEAL_MS.MS", base := 0x500cc, lo := 0, width := 16, acc := .rw, whn := .staged, restore := .kept, dflt := fun _ => 1000 }

/-- Table 13-6, LOG_SEQ.SEQ. -/
def LOG_SEQ_SEQ : Fld :=
  { name := "LOG_SEQ.SEQ", base := 0x500d0, lo := 0, width := 16, acc := .ro, whn := .none, restore := .literal, dflt := fun _ => 0 }

/-- Table 13-7, LOG_QCFG.RX_EN. -/
def LOG_QCFG_RX_EN : Fld :=
  { name := "LOG_QCFG.RX_EN", base := 0x51080, lo := 31, width := 1, acc := .rw, whn := .staged, restore := .kept, dflt := fun _ => 0,
    dims := [⟨0, 65, 32⟩] }

/-- Table 13-7, LOG_QCFG.TX_EN. -/
def LOG_QCFG_TX_EN : Fld :=
  { name := "LOG_QCFG.TX_EN", base := 0x51080, lo := 30, width := 1, acc := .rw, whn := .staged, restore := .kept, dflt := fun _ => 0,
    dims := [⟨0, 65, 32⟩] }

/-- Table 13-7, LOG_QCFG.DROP_EN. -/
def LOG_QCFG_DROP_EN : Fld :=
  { name := "LOG_QCFG.DROP_EN", base := 0x51080, lo := 29, width := 1, acc := .rw, whn := .staged, restore := .kept, dflt := fun _ => 0,
    dims := [⟨0, 65, 32⟩] }

/-- Table 13-7, LOG_QCFG.EVT_EN. -/
def LOG_QCFG_EVT_EN : Fld :=
  { name := "LOG_QCFG.EVT_EN", base := 0x51080, lo := 28, width := 1, acc := .rw, whn := .staged, restore := .kept, dflt := fun _ => 0,
    dims := [⟨0, 65, 32⟩] }

/-- Table 13-7, LOG_QCFG.DEPTH. -/
def LOG_QCFG_DEPTH : Fld :=
  { name := "LOG_QCFG.DEPTH", base := 0x51080, lo := 24, width := 3, acc := .rw, whn := .staged, restore := .kept, dflt := fun _ => 0,
    dims := [⟨0, 65, 32⟩] }

/-- Table 13-8, LOG_CNT_RECORDS.CNT. -/
def LOG_CNT_RECORDS_CNT : Fld :=
  { name := "LOG_CNT_RECORDS.CNT", base := 0x52080, lo := 0, width := 32, acc := .ro, whn := .none, restore := .literal, counter := true, dflt := fun _ => 0 }

/-- Table 13-8, LOG_CNT_FOLDED.CNT. -/
def LOG_CNT_FOLDED_CNT : Fld :=
  { name := "LOG_CNT_FOLDED.CNT", base := 0x52084, lo := 0, width := 32, acc := .ro, whn := .none, restore := .literal, counter := true, dflt := fun _ => 0 }

/-- Table 13-8, LOG_CNT_SUMMARY.CNT. -/
def LOG_CNT_SUMMARY_CNT : Fld :=
  { name := "LOG_CNT_SUMMARY.CNT", base := 0x52088, lo := 0, width := 32, acc := .ro, whn := .none, restore := .literal, counter := true, dflt := fun _ => 0 }

/-- Table 13-8, LOG_CNT_LOST.CNT. -/
def LOG_CNT_LOST_CNT : Fld :=
  { name := "LOG_CNT_LOST.CNT", base := 0x5208c, lo := 0, width := 32, acc := .ro, whn := .none, restore := .literal, counter := true, dflt := fun _ => 0 }

/-- Table 13-8, LOG_CNT_TOO_LONG.CNT. -/
def LOG_CNT_TOO_LONG_CNT : Fld :=
  { name := "LOG_CNT_TOO_LONG.CNT", base := 0x52090, lo := 0, width := 32, acc := .ro, whn := .none, restore := .literal, counter := true, dflt := fun _ => 0 }

/-- Table 13-8, LOG_CNT_SEAL.CNT. -/
def LOG_CNT_SEAL_CNT : Fld :=
  { name := "LOG_CNT_SEAL.CNT", base := 0x52094, lo := 0, width := 32, acc := .ro, whn := .none, restore := .literal, counter := true, dflt := fun _ => 0 }

/-- Table 13-8, LOG_CNT_OUT_FRAMES.CNT. -/
def LOG_CNT_OUT_FRAMES_CNT : Fld :=
  { name := "LOG_CNT_OUT_FRAMES.CNT", base := 0x52098, lo := 0, width := 32, acc := .ro, whn := .none, restore := .literal, counter := true, dflt := fun _ => 0 }

/-- Table 13-8, LOG_CNT_CLR.ALL. -/
def LOG_CNT_CLR_ALL : Fld :=
  { name := "LOG_CNT_CLR.ALL", base := 0x520c0, lo := 0, width := 1, acc := .w1s, whn := .live, restore := .literal, dflt := fun _ => 0 }

/-- The fields above, part 0. -/
def regsLog0 : List Fld :=
  [LOG_CTRL_SEAL_EN,
   LOG_CTRL_FORMAT,
   LOG_CTRL_OUT,
   LOG_CMD_OP,
   LOG_STATUS_BUF_KIB,
   LOG_STATUS_CMD_REJECT,
   LOG_STATUS_SEAL_STOPPED,
   LOG_STATUS_OUT_BLOCKED,
   LOG_STATUS_SUM_PORTS,
   LOG_STREAM_STREAM,
   LOG_WM_HIGH_KIB,
   LOG_WM_LOW_KIB,
   LOG_RING_BASE_LO_ADDR,
   LOG_RING_BASE_HI_ADDR,
   LOG_RING_SIZE_SIZE,
   LOG_RING_WP_WP,
   LOG_RING_RP_RP,
   LOG_IRQ_COAL_RECS,
   LOG_IRQ_COAL_US,
   LOG_OUT_Q_QUAY,
   LOG_OUT_Q_QUEUE,
   LOG_OUT_DA_LO_DA,
   LOG_OUT_DA_HI_DA,
   LOG_OUT_SA_LO_SA,
   LOG_OUT_SA_HI_SA,
   LOG_OUT_FLUSH_US_US,
   LOG_CMP_DEVICE_ID,
   LOG_SEAL_KEY_SLOT,
   LOG_SEAL_RECS,
   LOG_SEAL_MS_MS,
   LOG_SEQ_SEQ,
   LOG_QCFG_RX_EN,
   LOG_QCFG_TX_EN,
   LOG_QCFG_DROP_EN,
   LOG_QCFG_EVT_EN,
   LOG_QCFG_DEPTH,
   LOG_CNT_RECORDS_CNT,
   LOG_CNT_FOLDED_CNT,
   LOG_CNT_SUMMARY_CNT,
   LOG_CNT_LOST_CNT]

/-- The fields above, part 1. -/
def regsLog1 : List Fld :=
  [LOG_CNT_TOO_LONG_CNT,
   LOG_CNT_SEAL_CNT,
   LOG_CNT_OUT_FRAMES_CNT,
   LOG_CNT_CLR_ALL]

/-- The register fields of the LOG pages (Tables 13-6 to 13-8). -/
def regsLog : List Fld := regsLog0 ++ regsLog1

end Sys2Proof.Machine
end

