-- ==== Sys2Proof/Machine/RegsPage.lean ====
section
/-! DEFINITION. The register fields of the page header (Table 2-2) and the device page (Table 2-5), row by row. -/

namespace Sys2Proof.Machine

/-- Table 2-2, PG_ID.BLOCK_TYPE. -/
def PG_ID_BLOCK_TYPE : Fld :=
  { name := "PG_ID.BLOCK_TYPE", base := 0x0, lo := 20, width := 12, acc := .ro, whn := .none, restore := .fixed, dflt := fun ix => pageBlockType (ix.headD 0),
    dims := [⟨0, 774, 32768⟩] }

/-- Table 2-2, PG_ID.INSTANCE. -/
def PG_ID_INSTANCE : Fld :=
  { name := "PG_ID.INSTANCE", base := 0x0, lo := 8, width := 12, acc := .ro, whn := .none, restore := .fixed, dflt := fun ix => pageInstance (ix.headD 0),
    dims := [⟨0, 774, 32768⟩] }

/-- Table 2-2, PG_ID.PAGE. -/
def PG_ID_PAGE : Fld :=
  { name := "PG_ID.PAGE", base := 0x0, lo := 0, width := 8, acc := .ro, whn := .none, restore := .fixed, dflt := fun ix => pageOfBlock (ix.headD 0),
    dims := [⟨0, 774, 32768⟩] }

/-- Table 2-2, PG_VER.MAJOR. -/
def PG_VER_MAJOR : Fld :=
  { name := "PG_VER.MAJOR", base := 0x4, lo := 24, width := 8, acc := .ro, whn := .none, restore := .fixed, dflt := fun _ => 1,
    dims := [⟨0, 774, 32768⟩] }

/-- Table 2-2, PG_VER.MINOR. -/
def PG_VER_MINOR : Fld :=
  { name := "PG_VER.MINOR", base := 0x4, lo := 16, width := 8, acc := .ro, whn := .none, restore := .fixed, dflt := fun _ => 0,
    dims := [⟨0, 774, 32768⟩] }

/-- Table 2-2, PG_CAPS.CAPS. -/
def PG_CAPS_CAPS : Fld :=
  { name := "PG_CAPS.CAPS", base := 0x8, lo := 0, width := 32, acc := .ro, whn := .none, restore := .fixed, dflt := fun ix => Config.pageCaps (ix.headD 0),
    dims := [⟨0, 774, 32768⟩] }

/-- Table 2-2, PG_STATE.STAGED_REJECT. -/
def PG_STATE_STAGED_REJECT : Fld :=
  { name := "PG_STATE.STAGED_REJECT", base := 0xc, lo := 3, width := 1, acc := .w1c, whn := .live, restore := .literal, dflt := fun _ => 0,
    dims := [⟨0, 774, 32768⟩] }

/-- Table 2-2, PG_STATE.LOCKED_WRITE_SEEN. -/
def PG_STATE_LOCKED_WRITE_SEEN : Fld :=
  { name := "PG_STATE.LOCKED_WRITE_SEEN", base := 0xc, lo := 2, width := 1, acc := .w1c, whn := .live, restore := .literal, dflt := fun _ => 0,
    dims := [⟨0, 774, 32768⟩] }

/-- Table 2-2, PG_STATE.STAGED_PENDING. -/
def PG_STATE_STAGED_PENDING : Fld :=
  { name := "PG_STATE.STAGED_PENDING", base := 0xc, lo := 1, width := 1, acc := .ro, whn := .none, restore := .literal, dflt := fun _ => 0,
    dims := [⟨0, 774, 32768⟩] }

/-- Table 2-2, PG_STATE.ENABLED. -/
def PG_STATE_ENABLED : Fld :=
  { name := "PG_STATE.ENABLED", base := 0xc, lo := 0, width := 1, acc := .ro, whn := .none, restore := .literal, dflt := fun ix => pageEnableFactory (ix.headD 0),
    dims := [⟨0, 774, 32768⟩] }

/-- Table 2-2, PG_CTRL.CNT_CLR. -/
def PG_CTRL_CNT_CLR : Fld :=
  { name := "PG_CTRL.CNT_CLR", base := 0x10, lo := 8, width := 1, acc := .w1s, whn := .live, restore := .literal, dflt := fun _ => 0,
    dims := [⟨0, 774, 32768⟩] }

/-- Table 2-2, PG_CTRL.ENABLE. -/
def PG_CTRL_ENABLE : Fld :=
  { name := "PG_CTRL.ENABLE", base := 0x10, lo := 0, width := 1, acc := .rw, whn := .staged, restore := .kept, dflt := fun ix => pageEnableFactory (ix.headD 0),
    dims := [⟨0, 774, 32768⟩] }

/-- Table 2-2, PG_COMMIT.KEY. -/
def PG_COMMIT_KEY : Fld :=
  { name := "PG_COMMIT.KEY", base := 0x14, lo := 0, width := 8, acc := .wo, whn := .live, restore := .literal, dflt := fun _ => 0,
    dims := [⟨0, 774, 32768⟩] }

/-- Table 2-2, PG_COMMIT_STAT.APPLIED_CNT. -/
def PG_COMMIT_STAT_APPLIED_CNT : Fld :=
  { name := "PG_COMMIT_STAT.APPLIED_CNT", base := 0x18, lo := 16, width := 16, acc := .ro, whn := .none, restore := .literal, dflt := fun _ => 0,
    dims := [⟨0, 774, 32768⟩] }

/-- Table 2-2, PG_COMMIT_STAT.REFUSED. -/
def PG_COMMIT_STAT_REFUSED : Fld :=
  { name := "PG_COMMIT_STAT.REFUSED", base := 0x18, lo := 3, width := 1, acc := .w1c, whn := .live, restore := .literal, dflt := fun _ => 0,
    dims := [⟨0, 774, 32768⟩] }

/-- Table 2-2, PG_COMMIT_STAT.BAD_KEY. -/
def PG_COMMIT_STAT_BAD_KEY : Fld :=
  { name := "PG_COMMIT_STAT.BAD_KEY", base := 0x18, lo := 2, width := 1, acc := .w1c, whn := .live, restore := .literal, dflt := fun _ => 0,
    dims := [⟨0, 774, 32768⟩] }

/-- Table 2-2, PG_COMMIT_STAT.DISCARDED. -/
def PG_COMMIT_STAT_DISCARDED : Fld :=
  { name := "PG_COMMIT_STAT.DISCARDED", base := 0x18, lo := 1, width := 1, acc := .w1c, whn := .live, restore := .literal, dflt := fun _ => 0,
    dims := [⟨0, 774, 32768⟩] }

/-- Table 2-2, IRQ_RAW.ERR. -/
def IRQ_RAW_ERR : Fld :=
  { name := "IRQ_RAW.ERR", base := 0x20, lo := 31, width := 1, acc := .ro, whn := .none, restore := .literal, dflt := fun _ => 0,
    dims := [⟨0, 774, 32768⟩] }

/-- Table 2-2, IRQ_RAW.CORR. -/
def IRQ_RAW_CORR : Fld :=
  { name := "IRQ_RAW.CORR", base := 0x20, lo := 30, width := 1, acc := .ro, whn := .none, restore := .literal, dflt := fun _ => 0,
    dims := [⟨0, 774, 32768⟩] }

/-- Table 2-2, IRQ_RAW.COMMIT_DONE. -/
def IRQ_RAW_COMMIT_DONE : Fld :=
  { name := "IRQ_RAW.COMMIT_DONE", base := 0x20, lo := 29, width := 1, acc := .ro, whn := .none, restore := .literal, dflt := fun _ => 0,
    dims := [⟨0, 774, 32768⟩] }

/-- Table 2-2, IRQ_RAW.LOCKED_WRITE. -/
def IRQ_RAW_LOCKED_WRITE : Fld :=
  { name := "IRQ_RAW.LOCKED_WRITE", base := 0x20, lo := 28, width := 1, acc := .ro, whn := .none, restore := .literal, dflt := fun _ => 0,
    dims := [⟨0, 774, 32768⟩] }

/-- Table 2-2, IRQ_RAW.BLOCK. -/
def IRQ_RAW_BLOCK : Fld :=
  { name := "IRQ_RAW.BLOCK", base := 0x20, lo := 0, width := 28, acc := .ro, whn := .none, restore := .literal, dflt := fun _ => 0,
    dims := [⟨0, 774, 32768⟩] }

/-- Table 2-2, IRQ_EN.EN. -/
def IRQ_EN_EN : Fld :=
  { name := "IRQ_EN.EN", base := 0x24, lo := 0, width := 32, acc := .rw, whn := .live, restore := .kept, dflt := fun _ => 0,
    dims := [⟨0, 774, 32768⟩] }

/-- Table 2-2, IRQ_PEND.PEND. -/
def IRQ_PEND_PEND : Fld :=
  { name := "IRQ_PEND.PEND", base := 0x28, lo := 0, width := 32, acc := .w1c, whn := .live, restore := .literal, dflt := fun _ => 0,
    dims := [⟨0, 774, 32768⟩] }

/-- Table 2-2, IRQ_FORCE.FORCE. -/
def IRQ_FORCE_FORCE : Fld :=
  { name := "IRQ_FORCE.FORCE", base := 0x2c, lo := 0, width := 32, acc := .w1s, whn := .live, restore := .literal, dflt := fun _ => 0,
    dims := [⟨0, 774, 32768⟩] }

/-- Table 2-2, IRQ_ROUTE.MGP_EN. -/
def IRQ_ROUTE_MGP_EN : Fld :=
  { name := "IRQ_ROUTE.MGP_EN", base := 0x30, lo := 9, width := 1, acc := .rw, whn := .live, restore := .kept, dflt := fun _ => 0,
    dims := [⟨0, 774, 32768⟩] }

/-- Table 2-2, IRQ_ROUTE.HOST_EN. -/
def IRQ_ROUTE_HOST_EN : Fld :=
  { name := "IRQ_ROUTE.HOST_EN", base := 0x30, lo := 8, width := 1, acc := .rw, whn := .live, restore := .kept, dflt := fun _ => 0,
    dims := [⟨0, 774, 32768⟩] }

/-- Table 2-2, IRQ_ROUTE.VECTOR. -/
def IRQ_ROUTE_VECTOR : Fld :=
  { name := "IRQ_ROUTE.VECTOR", base := 0x30, lo := 0, width := 6, acc := .rw, whn := .live, restore := .kept, dflt := fun _ => 0,
    dims := [⟨0, 774, 32768⟩] }

/-- Table 2-2, ERR_FIRST.VALID. -/
def ERR_FIRST_VALID : Fld :=
  { name := "ERR_FIRST.VALID", base := 0x40, lo := 31, width := 1, acc := .w1c, whn := .live, restore := .literal, dflt := fun _ => 0,
    dims := [⟨0, 774, 32768⟩] }

/-- Table 2-2, ERR_FIRST.LEVEL. -/
def ERR_FIRST_LEVEL : Fld :=
  { name := "ERR_FIRST.LEVEL", base := 0x40, lo := 28, width := 3, acc := .ro, whn := .none, restore := .literal, dflt := fun _ => 0,
    dims := [⟨0, 774, 32768⟩] }

/-- Table 2-2, ERR_FIRST.CODE. -/
def ERR_FIRST_CODE : Fld :=
  { name := "ERR_FIRST.CODE", base := 0x40, lo := 20, width := 8, acc := .ro, whn := .none, restore := .literal, dflt := fun _ => 0,
    dims := [⟨0, 774, 32768⟩] }

/-- Table 2-2, ERR_FIRST.DETAIL. -/
def ERR_FIRST_DETAIL : Fld :=
  { name := "ERR_FIRST.DETAIL", base := 0x40, lo := 0, width := 20, acc := .ro, whn := .none, restore := .literal, dflt := fun _ => 0,
    dims := [⟨0, 774, 32768⟩] }

/-- Table 2-2, ERR_CNT.CNT. -/
def ERR_CNT_CNT : Fld :=
  { name := "ERR_CNT.CNT", base := 0x44, lo := 0, width := 32, acc := .ro, whn := .none, restore := .literal, dflt := fun _ => 0,
    dims := [⟨0, 774, 32768⟩] }

/-- Table 2-2, CORR_CNT.CNT. -/
def CORR_CNT_CNT : Fld :=
  { name := "CORR_CNT.CNT", base := 0x48, lo := 0, width := 32, acc := .ro, whn := .none, restore := .literal, dflt := fun _ => 0,
    dims := [⟨0, 774, 32768⟩] }

/-- Table 2-2, ERR_INJECT.ARM. -/
def ERR_INJECT_ARM : Fld :=
  { name := "ERR_INJECT.ARM", base := 0x4c, lo := 31, width := 1, acc := .rw, whn := .live, restore := .literal, dflt := fun _ => 0,
    dims := [⟨0, 774, 32768⟩] }

/-- Table 2-2, ERR_INJECT.TYPE. -/
def ERR_INJECT_TYPE : Fld :=
  { name := "ERR_INJECT.TYPE", base := 0x4c, lo := 16, width := 2, acc := .rw, whn := .live, restore := .literal, dflt := fun _ => 0,
    dims := [⟨0, 774, 32768⟩] }

/-- Table 2-2, ERR_INJECT.SITE. -/
def ERR_INJECT_SITE : Fld :=
  { name := "ERR_INJECT.SITE", base := 0x4c, lo := 0, width := 16, acc := .rw, whn := .live, restore := .literal, dflt := fun _ => 0,
    dims := [⟨0, 774, 32768⟩] }

/-- Table 2-5, DEV_PART.PART. -/
def DEV_PART_PART : Fld :=
  { name := "DEV_PART.PART", base := 0x80, lo := 16, width := 16, acc := .ro, whn := .none, restore := .fixed, dflt := fun _ => 0x6412 }

/-- Table 2-5, DEV_PART.ORDER. -/
def DEV_PART_ORDER : Fld :=
  { name := "DEV_PART.ORDER", base := 0x80, lo := 0, width := 16, acc := .ro, whn := .none, restore := .fixed, dflt := fun _ => 1 }

/-- Table 2-5, DEV_REV.LOGIC. -/
def DEV_REV_LOGIC : Fld :=
  { name := "DEV_REV.LOGIC", base := 0x84, lo := 24, width := 8, acc := .ro, whn := .none, restore := .fixed, dflt := fun _ => Config.revLogic }

/-- Table 2-5, DEV_REV.IO. -/
def DEV_REV_IO : Fld :=
  { name := "DEV_REV.IO", base := 0x84, lo := 16, width := 8, acc := .ro, whn := .none, restore := .fixed, dflt := fun _ => Config.revIo }

/-- Table 2-5, DEV_PKG_ID_LO.ID. -/
def DEV_PKG_ID_LO_ID : Fld :=
  { name := "DEV_PKG_ID_LO.ID", base := 0x88, lo := 0, width := 32, acc := .ro, whn := .none, restore := .fixed, dflt := fun _ => Config.packageId % 2 ^ 32 }

/-- Table 2-5, DEV_PKG_ID_HI.ID. -/
def DEV_PKG_ID_HI_ID : Fld :=
  { name := "DEV_PKG_ID_HI.ID", base := 0x8c, lo := 0, width := 32, acc := .ro, whn := .none, restore := .fixed, dflt := fun _ => Config.packageId / 2 ^ 32 }

/-- Table 2-5, DEV_STATUS.RESTORE_SRC. -/
def DEV_STATUS_RESTORE_SRC : Fld :=
  { name := "DEV_STATUS.RESTORE_SRC", base := 0x90, lo := 6, width := 2, acc := .ro, whn := .none, restore := .literal, dflt := fun _ => 0 }

/-- Table 2-5, DEV_STATUS.RESTORE_DONE. -/
def DEV_STATUS_RESTORE_DONE : Fld :=
  { name := "DEV_STATUS.RESTORE_DONE", base := 0x90, lo := 5, width := 1, acc := .ro, whn := .none, restore := .literal, dflt := fun _ => 0 }

/-- Table 2-5, DEV_STATUS.LOGIC_UP. -/
def DEV_STATUS_LOGIC_UP : Fld :=
  { name := "DEV_STATUS.LOGIC_UP", base := 0x90, lo := 4, width := 1, acc := .ro, whn := .none, restore := .literal, dflt := fun _ => 0 }

/-- Table 2-5, DEV_STATUS.MODE. -/
def DEV_STATUS_MODE : Fld :=
  { name := "DEV_STATUS.MODE", base := 0x90, lo := 0, width := 2, acc := .ro, whn := .none, restore := .literal, dflt := fun _ => 0 }

/-- Table 2-5, DEV_IRQ_SUM_Q0.Q. -/
def DEV_IRQ_SUM_Q0_Q : Fld :=
  { name := "DEV_IRQ_SUM_Q0.Q", base := 0xa0, lo := 0, width := 32, acc := .ro, whn := .none, restore := .literal, dflt := fun _ => 0 }

/-- Table 2-5, DEV_IRQ_SUM_Q1.Q. -/
def DEV_IRQ_SUM_Q1_Q : Fld :=
  { name := "DEV_IRQ_SUM_Q1.Q", base := 0xa4, lo := 0, width := 32, acc := .ro, whn := .none, restore := .literal, dflt := fun _ => 0 }

/-- Table 2-5, DEV_IRQ_SUM_BLK.BLK. -/
def DEV_IRQ_SUM_BLK_BLK : Fld :=
  { name := "DEV_IRQ_SUM_BLK.BLK", base := 0xa8, lo := 0, width := 20, acc := .ro, whn := .none, restore := .literal, dflt := fun _ => 0 }

/-- The fields above, part 0. -/
def regsPage0 : List Fld :=
  [PG_ID_BLOCK_TYPE,
   PG_ID_INSTANCE,
   PG_ID_PAGE,
   PG_VER_MAJOR,
   PG_VER_MINOR,
   PG_CAPS_CAPS,
   PG_STATE_STAGED_REJECT,
   PG_STATE_LOCKED_WRITE_SEEN,
   PG_STATE_STAGED_PENDING,
   PG_STATE_ENABLED,
   PG_CTRL_CNT_CLR,
   PG_CTRL_ENABLE,
   PG_COMMIT_KEY,
   PG_COMMIT_STAT_APPLIED_CNT,
   PG_COMMIT_STAT_REFUSED,
   PG_COMMIT_STAT_BAD_KEY,
   PG_COMMIT_STAT_DISCARDED,
   IRQ_RAW_ERR,
   IRQ_RAW_CORR,
   IRQ_RAW_COMMIT_DONE,
   IRQ_RAW_LOCKED_WRITE,
   IRQ_RAW_BLOCK,
   IRQ_EN_EN,
   IRQ_PEND_PEND,
   IRQ_FORCE_FORCE,
   IRQ_ROUTE_MGP_EN,
   IRQ_ROUTE_HOST_EN,
   IRQ_ROUTE_VECTOR,
   ERR_FIRST_VALID,
   ERR_FIRST_LEVEL,
   ERR_FIRST_CODE,
   ERR_FIRST_DETAIL,
   ERR_CNT_CNT,
   CORR_CNT_CNT,
   ERR_INJECT_ARM,
   ERR_INJECT_TYPE,
   ERR_INJECT_SITE,
   DEV_PART_PART,
   DEV_PART_ORDER,
   DEV_REV_LOGIC]

/-- The fields above, part 1. -/
def regsPage1 : List Fld :=
  [DEV_REV_IO,
   DEV_PKG_ID_LO_ID,
   DEV_PKG_ID_HI_ID,
   DEV_STATUS_RESTORE_SRC,
   DEV_STATUS_RESTORE_DONE,
   DEV_STATUS_LOGIC_UP,
   DEV_STATUS_MODE,
   DEV_IRQ_SUM_Q0_Q,
   DEV_IRQ_SUM_Q1_Q,
   DEV_IRQ_SUM_BLK_BLK]

/-- The register fields of the page header (Table 2-2) and the device page (Table 2-5). -/
def regsPage : List Fld := regsPage0 ++ regsPage1

end Sys2Proof.Machine
end

