-- ==== Sys2Proof/Machine/RegsPm.lean ====
section
/-! DEFINITION. The register fields of the PMA and PMB pages (Tables 4-8 to 4-10), row by row. -/

namespace Sys2Proof.Machine

/-- Table 4-8, PMx_CTRL.CHECK_LIMIT. -/
def PM_CTRL_CHECK_LIMIT : Fld :=
  { name := "PMx_CTRL.CHECK_LIMIT", base := 0x80080, lo := 16, width := 8, acc := .rw, whn := .staged, restore := .kept, dflt := fun _ => 4,
    dims := [⟨0, 2, 524288⟩] }

/-- Table 4-8, PMx_CTRL.REJOIN_AUTO. -/
def PM_CTRL_REJOIN_AUTO : Fld :=
  { name := "PMx_CTRL.REJOIN_AUTO", base := 0x80080, lo := 0, width := 1, acc := .rw, whn := .staged, restore := .kept, dflt := fun _ => 1,
    dims := [⟨0, 2, 524288⟩] }

/-- Table 4-8, PMx_CMD.OP. -/
def PM_CMD_OP : Fld :=
  { name := "PMx_CMD.OP", base := 0x80084, lo := 0, width := 4, acc := .wo, whn := .live, restore := .literal, dflt := fun _ => 0,
    dims := [⟨0, 2, 524288⟩] }

/-- Table 4-8, PMx_STATUS.CLAIM. -/
def PM_STATUS_CLAIM : Fld :=
  { name := "PMx_STATUS.CLAIM", base := 0x80088, lo := 16, width := 16, acc := .ro, whn := .none, restore := .literal, dflt := fun _ => 0,
    dims := [⟨0, 2, 524288⟩] }

/-- Table 4-8, PMx_STATUS.CMD_REJECT. -/
def PM_STATUS_CMD_REJECT : Fld :=
  { name := "PMx_STATUS.CMD_REJECT", base := 0x80088, lo := 15, width := 1, acc := .w1c, whn := .live, restore := .literal, dflt := fun _ => 0,
    dims := [⟨0, 2, 524288⟩] }

/-- Table 4-8, PMx_STATUS.NOT_PROTECTED. -/
def PM_STATUS_NOT_PROTECTED : Fld :=
  { name := "PMx_STATUS.NOT_PROTECTED", base := 0x80088, lo := 14, width := 1, acc := .ro, whn := .none, restore := .literal, dflt := fun _ => 0,
    dims := [⟨0, 2, 524288⟩] }

/-- Table 4-8, PMx_STATUS.REJOIN_TRIES. -/
def PM_STATUS_REJOIN_TRIES : Fld :=
  { name := "PMx_STATUS.REJOIN_TRIES", base := 0x80088, lo := 4, width := 4, acc := .ro, whn := .none, restore := .literal, dflt := fun _ => 0,
    dims := [⟨0, 2, 524288⟩] }

/-- Table 4-8, PMx_STATUS.ROLE. -/
def PM_STATUS_ROLE : Fld :=
  { name := "PMx_STATUS.ROLE", base := 0x80088, lo := 0, width := 4, acc := .ro, whn := .none, restore := .literal, dflt := fun _ => 0,
    dims := [⟨0, 2, 524288⟩] }

/-- Table 4-8, PMx_TX_FRESH_SKIP.SKIP. -/
def PM_TX_FRESH_SKIP_SKIP : Fld :=
  { name := "PMx_TX_FRESH_SKIP.SKIP", base := 0x8008c, lo := 0, width := 16, acc := .rw, whn := .staged, restore := .kept, dflt := fun _ => 4096,
    dims := [⟨0, 2, 524288⟩] }

/-- Table 4-8, PMx_OUT_CAUSE.SRC. -/
def PM_OUT_CAUSE_SRC : Fld :=
  { name := "PMx_OUT_CAUSE.SRC", base := 0x80090, lo := 28, width := 4, acc := .ro, whn := .none, restore := .literal, dflt := fun _ => 0,
    dims := [⟨0, 2, 524288⟩] }

/-- Table 4-8, PMx_OUT_CAUSE.CODE. -/
def PM_OUT_CAUSE_CODE : Fld :=
  { name := "PMx_OUT_CAUSE.CODE", base := 0x80090, lo := 20, width := 8, acc := .ro, whn := .none, restore := .literal, dflt := fun _ => 0,
    dims := [⟨0, 2, 524288⟩] }

/-- Table 4-8, PMx_OUT_CAUSE.DETAIL. -/
def PM_OUT_CAUSE_DETAIL : Fld :=
  { name := "PMx_OUT_CAUSE.DETAIL", base := 0x80090, lo := 0, width := 20, acc := .ro, whn := .none, restore := .literal, dflt := fun _ => 0,
    dims := [⟨0, 2, 524288⟩] }

/-- Table 4-8, PMx_EVT_NS.NS. -/
def PM_EVT_NS_NS : Fld :=
  { name := "PMx_EVT_NS.NS", base := 0x80094, lo := 0, width := 32, acc := .ro, whn := .none, restore := .literal, dflt := fun _ => 0,
    dims := [⟨0, 2, 524288⟩] }

/-- Table 4-8, PMx_EVT_S.S. -/
def PM_EVT_S_S : Fld :=
  { name := "PMx_EVT_S.S", base := 0x80098, lo := 0, width := 32, acc := .ro, whn := .none, restore := .literal, dflt := fun _ => 0,
    dims := [⟨0, 2, 524288⟩] }

/-- Table 4-8, PMx_TAKEOVER_NS.NS. -/
def PM_TAKEOVER_NS_NS : Fld :=
  { name := "PMx_TAKEOVER_NS.NS", base := 0x8009c, lo := 0, width := 32, acc := .ro, whn := .none, restore := .literal, dflt := fun _ => 0,
    dims := [⟨0, 2, 524288⟩] }

/-- Table 4-8, PMx_TAKEOVER_S.S. -/
def PM_TAKEOVER_S_S : Fld :=
  { name := "PMx_TAKEOVER_S.S", base := 0x800a0, lo := 0, width := 32, acc := .ro, whn := .none, restore := .literal, dflt := fun _ => 0,
    dims := [⟨0, 2, 524288⟩] }

/-- Table 4-8, PMx_SELFTEST.RESULT. -/
def PM_SELFTEST_RESULT : Fld :=
  { name := "PMx_SELFTEST.RESULT", base := 0x800a4, lo := 30, width := 2, acc := .ro, whn := .none, restore := .literal, dflt := fun _ => 0,
    dims := [⟨0, 2, 524288⟩] }

/-- Table 4-8, PMx_SELFTEST.SITE. -/
def PM_SELFTEST_SITE : Fld :=
  { name := "PMx_SELFTEST.SITE", base := 0x800a4, lo := 0, width := 16, acc := .ro, whn := .none, restore := .literal, dflt := fun _ => 0,
    dims := [⟨0, 2, 524288⟩] }

/-- Table 4-9, PMx_CNT_DEC_LO.CNT. -/
def PM_CNT_DEC_LO_CNT : Fld :=
  { name := "PMx_CNT_DEC_LO.CNT", base := 0x81080, lo := 0, width := 32, acc := .ro, whn := .none, restore := .literal, counter := true, dflt := fun _ => 0,
    dims := [⟨0, 2, 524288⟩] }

/-- Table 4-9, PMx_CNT_DEC_HI.CNT. -/
def PM_CNT_DEC_HI_CNT : Fld :=
  { name := "PMx_CNT_DEC_HI.CNT", base := 0x81084, lo := 0, width := 32, acc := .ro, whn := .none, restore := .literal, counter := true, dflt := fun _ => 0,
    dims := [⟨0, 2, 524288⟩] }

/-- Table 4-9, PMx_CNT_CHECK_FAIL.CNT. -/
def PM_CNT_CHECK_FAIL_CNT : Fld :=
  { name := "PMx_CNT_CHECK_FAIL.CNT", base := 0x81088, lo := 0, width := 32, acc := .ro, whn := .none, restore := .literal, counter := true, dflt := fun _ => 0,
    dims := [⟨0, 2, 524288⟩] }

/-- Table 4-9, PMx_CNT_CHECK_RESCUE.CNT. -/
def PM_CNT_CHECK_RESCUE_CNT : Fld :=
  { name := "PMx_CNT_CHECK_RESCUE.CNT", base := 0x8108c, lo := 0, width := 32, acc := .ro, whn := .none, restore := .literal, counter := true, dflt := fun _ => 0,
    dims := [⟨0, 2, 524288⟩] }

/-- Table 4-9, PMx_CNT_CHECK_DROP.CNT. -/
def PM_CNT_CHECK_DROP_CNT : Fld :=
  { name := "PMx_CNT_CHECK_DROP.CNT", base := 0x81090, lo := 0, width := 32, acc := .ro, whn := .none, restore := .literal, counter := true, dflt := fun _ => 0,
    dims := [⟨0, 2, 524288⟩] }

/-- Table 4-9, PMx_CNT_HISTORY_MISS.CNT. -/
def PM_CNT_HISTORY_MISS_CNT : Fld :=
  { name := "PMx_CNT_HISTORY_MISS.CNT", base := 0x81094, lo := 0, width := 32, acc := .ro, whn := .none, restore := .literal, counter := true, dflt := fun _ => 0,
    dims := [⟨0, 2, 524288⟩] }

/-- Table 4-9, PMx_CNT_INTERRUPT_DROP.CNT. -/
def PM_CNT_INTERRUPT_DROP_CNT : Fld :=
  { name := "PMx_CNT_INTERRUPT_DROP.CNT", base := 0x81098, lo := 0, width := 32, acc := .ro, whn := .none, restore := .literal, counter := true, dflt := fun _ => 0,
    dims := [⟨0, 2, 524288⟩] }

/-- Table 4-9, PMx_CNT_TAKEOVER.CNT. -/
def PM_CNT_TAKEOVER_CNT : Fld :=
  { name := "PMx_CNT_TAKEOVER.CNT", base := 0x8109c, lo := 0, width := 32, acc := .ro, whn := .none, restore := .literal, counter := true, dflt := fun _ => 0,
    dims := [⟨0, 2, 524288⟩] }

/-- Table 4-9, PMx_CNT_TAKEN_OUT.CNT. -/
def PM_CNT_TAKEN_OUT_CNT : Fld :=
  { name := "PMx_CNT_TAKEN_OUT.CNT", base := 0x810a0, lo := 0, width := 32, acc := .ro, whn := .none, restore := .literal, counter := true, dflt := fun _ => 0,
    dims := [⟨0, 2, 524288⟩] }

/-- Table 4-9, PMx_CNT_DELTA_DISCARD.CNT. -/
def PM_CNT_DELTA_DISCARD_CNT : Fld :=
  { name := "PMx_CNT_DELTA_DISCARD.CNT", base := 0x810a4, lo := 0, width := 32, acc := .ro, whn := .none, restore := .literal, counter := true, dflt := fun _ => 0,
    dims := [⟨0, 2, 524288⟩] }

/-- Table 4-9, PMx_CNT_DELTA_OVERRUN.CNT. -/
def PM_CNT_DELTA_OVERRUN_CNT : Fld :=
  { name := "PMx_CNT_DELTA_OVERRUN.CNT", base := 0x810a8, lo := 0, width := 32, acc := .ro, whn := .none, restore := .literal, counter := true, dflt := fun _ => 0,
    dims := [⟨0, 2, 524288⟩] }

/-- Table 4-9, PMx_CNT_TIMING_DIVERGE.CNT. -/
def PM_CNT_TIMING_DIVERGE_CNT : Fld :=
  { name := "PMx_CNT_TIMING_DIVERGE.CNT", base := 0x810ac, lo := 0, width := 32, acc := .ro, whn := .none, restore := .literal, counter := true, dflt := fun _ => 0,
    dims := [⟨0, 2, 524288⟩] }

/-- Table 4-9, PMx_CNT_REJOIN.CNT. -/
def PM_CNT_REJOIN_CNT : Fld :=
  { name := "PMx_CNT_REJOIN.CNT", base := 0x810b0, lo := 0, width := 32, acc := .ro, whn := .none, restore := .literal, counter := true, dflt := fun _ => 0,
    dims := [⟨0, 2, 524288⟩] }

/-- Table 4-9, PMx_CNT_CLR.ALL. -/
def PM_CNT_CLR_ALL : Fld :=
  { name := "PMx_CNT_CLR.ALL", base := 0x810c0, lo := 0, width := 1, acc := .w1s, whn := .live, restore := .literal, dflt := fun _ => 0,
    dims := [⟨0, 2, 524288⟩] }

/-- Table 4-10, PMx_DELTA_LAST.LINES. -/
def PM_DELTA_LAST_LINES : Fld :=
  { name := "PMx_DELTA_LAST.LINES", base := 0x82080, lo := 0, width := 13, acc := .ro, whn := .none, restore := .literal, dflt := fun _ => 0,
    dims := [⟨0, 2, 524288⟩] }

/-- Table 4-10, PMx_DELTA_MAX.LINES. -/
def PM_DELTA_MAX_LINES : Fld :=
  { name := "PMx_DELTA_MAX.LINES", base := 0x82084, lo := 0, width := 13, acc := .ro, whn := .none, restore := .literal, dflt := fun _ => 0,
    dims := [⟨0, 2, 524288⟩] }

/-- Table 4-10, PMx_REJOIN_LEN.K. -/
def PM_REJOIN_LEN_K : Fld :=
  { name := "PMx_REJOIN_LEN.K", base := 0x82088, lo := 0, width := 13, acc := .ro, whn := .none, restore := .literal, dflt := fun _ => 0,
    dims := [⟨0, 2, 524288⟩] }

/-- Table 4-10, PMx_REJOIN_LEFT.STROKES. -/
def PM_REJOIN_LEFT_STROKES : Fld :=
  { name := "PMx_REJOIN_LEFT.STROKES", base := 0x8208c, lo := 0, width := 13, acc := .ro, whn := .none, restore := .literal, dflt := fun _ => 0,
    dims := [⟨0, 2, 524288⟩] }

/-- Table 4-10, PMx_REJOIN_SLICE.LINES. -/
def PM_REJOIN_SLICE_LINES : Fld :=
  { name := "PMx_REJOIN_SLICE.LINES", base := 0x82090, lo := 0, width := 13, acc := .ro, whn := .none, restore := .literal, dflt := fun _ => 0,
    dims := [⟨0, 2, 524288⟩] }

/-- The fields above, part 0. -/
def regsPm0 : List Fld :=
  [PM_CTRL_CHECK_LIMIT,
   PM_CTRL_REJOIN_AUTO,
   PM_CMD_OP,
   PM_STATUS_CLAIM,
   PM_STATUS_CMD_REJECT,
   PM_STATUS_NOT_PROTECTED,
   PM_STATUS_REJOIN_TRIES,
   PM_STATUS_ROLE,
   PM_TX_FRESH_SKIP_SKIP,
   PM_OUT_CAUSE_SRC,
   PM_OUT_CAUSE_CODE,
   PM_OUT_CAUSE_DETAIL,
   PM_EVT_NS_NS,
   PM_EVT_S_S,
   PM_TAKEOVER_NS_NS,
   PM_TAKEOVER_S_S,
   PM_SELFTEST_RESULT,
   PM_SELFTEST_SITE,
   PM_CNT_DEC_LO_CNT,
   PM_CNT_DEC_HI_CNT,
   PM_CNT_CHECK_FAIL_CNT,
   PM_CNT_CHECK_RESCUE_CNT,
   PM_CNT_CHECK_DROP_CNT,
   PM_CNT_HISTORY_MISS_CNT,
   PM_CNT_INTERRUPT_DROP_CNT,
   PM_CNT_TAKEOVER_CNT,
   PM_CNT_TAKEN_OUT_CNT,
   PM_CNT_DELTA_DISCARD_CNT,
   PM_CNT_DELTA_OVERRUN_CNT,
   PM_CNT_TIMING_DIVERGE_CNT,
   PM_CNT_REJOIN_CNT,
   PM_CNT_CLR_ALL,
   PM_DELTA_LAST_LINES,
   PM_DELTA_MAX_LINES,
   PM_REJOIN_LEN_K,
   PM_REJOIN_LEFT_STROKES,
   PM_REJOIN_SLICE_LINES]

/-- The register fields of the PMA and PMB pages (Tables 4-8 to 4-10). -/
def regsPm : List Fld := regsPm0

end Sys2Proof.Machine
end

