-- ==== Sys2Proof/Machine/RegsQyc.lean ====
section
/-! DEFINITION. The register fields of the QYC pages (Tables 9-6, 9-7, 9-10 and 9-11), row by row. -/

namespace Sys2Proof.Machine

/-- Table 9-6, QYC_CTRL.AUTO_RECOVER. -/
def QYC_CTRL_AUTO_RECOVER : Fld :=
  { name := "QYC_CTRL.AUTO_RECOVER", base := 0x100080, lo := 11, width := 1, acc := .rw, whn := .staged, restore := .kept, dflt := fun _ => 1,
    dims := [⟨0, 32, 131072⟩] }

/-- Table 9-6, QYC_CTRL.TXMB_EN. -/
def QYC_CTRL_TXMB_EN : Fld :=
  { name := "QYC_CTRL.TXMB_EN", base := 0x100080, lo := 10, width := 1, acc := .rw, whn := .staged, restore := .kept, dflt := fun _ => 1,
    dims := [⟨0, 32, 131072⟩] }

/-- Table 9-6, QYC_CTRL.ONE_SHOT. -/
def QYC_CTRL_ONE_SHOT : Fld :=
  { name := "QYC_CTRL.ONE_SHOT", base := 0x100080, lo := 9, width := 1, acc := .rw, whn := .staged, restore := .kept, dflt := fun _ => 0,
    dims := [⟨0, 32, 131072⟩] }

/-- Table 9-6, QYC_CTRL.TXTS_EN. -/
def QYC_CTRL_TXTS_EN : Fld :=
  { name := "QYC_CTRL.TXTS_EN", base := 0x100080, lo := 8, width := 1, acc := .rw, whn := .staged, restore := .kept, dflt := fun _ => 1,
    dims := [⟨0, 32, 131072⟩] }

/-- Table 9-6, QYC_CTRL.XL_EN. -/
def QYC_CTRL_XL_EN : Fld :=
  { name := "QYC_CTRL.XL_EN", base := 0x100080, lo := 7, width := 1, acc := .rw, whn := .locked, restore := .kept, dflt := fun _ => 0,
    dims := [⟨0, 32, 131072⟩] }

/-- Table 9-6, QYC_CTRL.FD_EN. -/
def QYC_CTRL_FD_EN : Fld :=
  { name := "QYC_CTRL.FD_EN", base := 0x100080, lo := 6, width := 1, acc := .rw, whn := .locked, restore := .kept, dflt := fun _ => 1,
    dims := [⟨0, 32, 131072⟩] }

/-- Table 9-6, QYC_CTRL.MODE. -/
def QYC_CTRL_MODE : Fld :=
  { name := "QYC_CTRL.MODE", base := 0x100080, lo := 0, width := 2, acc := .rw, whn := .staged, restore := .kept, dflt := fun _ => 1,
    dims := [⟨0, 32, 131072⟩] }

/-- Table 9-6, QYC_CMD.OP. -/
def QYC_CMD_OP : Fld :=
  { name := "QYC_CMD.OP", base := 0x100084, lo := 0, width := 4, acc := .wo, whn := .live, restore := .literal, dflt := fun _ => 0,
    dims := [⟨0, 32, 131072⟩] }

/-- Table 9-6, QYC_STATUS.LEC. -/
def QYC_STATUS_LEC : Fld :=
  { name := "QYC_STATUS.LEC", base := 0x100088, lo := 28, width := 4, acc := .ro, whn := .none, restore := .literal, dflt := fun _ => 0,
    dims := [⟨0, 32, 131072⟩] }

/-- Table 9-6, QYC_STATUS.ACK_RUN. -/
def QYC_STATUS_ACK_RUN : Fld :=
  { name := "QYC_STATUS.ACK_RUN", base := 0x100088, lo := 16, width := 5, acc := .ro, whn := .none, restore := .literal, dflt := fun _ => 0,
    dims := [⟨0, 32, 131072⟩] }

/-- Table 9-6, QYC_STATUS.MB_WR_IGNORED. -/
def QYC_STATUS_MB_WR_IGNORED : Fld :=
  { name := "QYC_STATUS.MB_WR_IGNORED", base := 0x100088, lo := 9, width := 1, acc := .w1c, whn := .live, restore := .literal, dflt := fun _ => 0,
    dims := [⟨0, 32, 131072⟩] }

/-- Table 9-6, QYC_STATUS.CMD_REJECT. -/
def QYC_STATUS_CMD_REJECT : Fld :=
  { name := "QYC_STATUS.CMD_REJECT", base := 0x100088, lo := 8, width := 1, acc := .w1c, whn := .live, restore := .literal, dflt := fun _ => 0,
    dims := [⟨0, 32, 131072⟩] }

/-- Table 9-6, QYC_STATUS.MODE_PENDING. -/
def QYC_STATUS_MODE_PENDING : Fld :=
  { name := "QYC_STATUS.MODE_PENDING", base := 0x100088, lo := 7, width := 1, acc := .ro, whn := .none, restore := .literal, dflt := fun _ => 0,
    dims := [⟨0, 32, 131072⟩] }

/-- Table 9-6, QYC_STATUS.SLEEPING. -/
def QYC_STATUS_SLEEPING : Fld :=
  { name := "QYC_STATUS.SLEEPING", base := 0x100088, lo := 6, width := 1, acc := .ro, whn := .none, restore := .literal, dflt := fun _ => 0,
    dims := [⟨0, 32, 131072⟩] }

/-- Table 9-6, QYC_STATUS.LONE_NODE. -/
def QYC_STATUS_LONE_NODE : Fld :=
  { name := "QYC_STATUS.LONE_NODE", base := 0x100088, lo := 5, width := 1, acc := .ro, whn := .none, restore := .literal, dflt := fun _ => 0,
    dims := [⟨0, 32, 131072⟩] }

/-- Table 9-6, QYC_STATUS.ERR_WARN. -/
def QYC_STATUS_ERR_WARN : Fld :=
  { name := "QYC_STATUS.ERR_WARN", base := 0x100088, lo := 4, width := 1, acc := .ro, whn := .none, restore := .literal, dflt := fun _ => 0,
    dims := [⟨0, 32, 131072⟩] }

/-- Table 9-6, QYC_STATUS.FC_STATE. -/
def QYC_STATUS_FC_STATE : Fld :=
  { name := "QYC_STATUS.FC_STATE", base := 0x100088, lo := 0, width := 2, acc := .ro, whn := .none, restore := .literal, dflt := fun _ => 0,
    dims := [⟨0, 32, 131072⟩] }

/-- Table 9-6, QYC_ERRCNT.TEC. -/
def QYC_ERRCNT_TEC : Fld :=
  { name := "QYC_ERRCNT.TEC", base := 0x10008c, lo := 16, width := 8, acc := .ro, whn := .none, restore := .literal, dflt := fun _ => 0,
    dims := [⟨0, 32, 131072⟩] }

/-- Table 9-6, QYC_ERRCNT.REC. -/
def QYC_ERRCNT_REC : Fld :=
  { name := "QYC_ERRCNT.REC", base := 0x10008c, lo := 0, width := 8, acc := .ro, whn := .none, restore := .literal, dflt := fun _ => 0,
    dims := [⟨0, 32, 131072⟩] }

/-- Table 9-6, QYC_WARN.RX_WARN. -/
def QYC_WARN_RX_WARN : Fld :=
  { name := "QYC_WARN.RX_WARN", base := 0x100090, lo := 8, width := 8, acc := .rw, whn := .staged, restore := .kept, dflt := fun _ => 96,
    dims := [⟨0, 32, 131072⟩] }

/-- Table 9-6, QYC_WARN.TX_WARN. -/
def QYC_WARN_TX_WARN : Fld :=
  { name := "QYC_WARN.TX_WARN", base := 0x100090, lo := 0, width := 8, acc := .rw, whn := .staged, restore := .kept, dflt := fun _ => 96,
    dims := [⟨0, 32, 131072⟩] }

/-- Table 9-6, QYC_NBT.NTSEG1. -/
def QYC_NBT_NTSEG1 : Fld :=
  { name := "QYC_NBT.NTSEG1", base := 0x100094, lo := 24, width := 8, acc := .rw, whn := .locked, restore := .kept, dflt := fun _ => 126,
    dims := [⟨0, 32, 131072⟩] }

/-- Table 9-6, QYC_NBT.NTSEG2. -/
def QYC_NBT_NTSEG2 : Fld :=
  { name := "QYC_NBT.NTSEG2", base := 0x100094, lo := 16, width := 7, acc := .rw, whn := .locked, restore := .kept, dflt := fun _ => 31,
    dims := [⟨0, 32, 131072⟩] }

/-- Table 9-6, QYC_NBT.NSJW. -/
def QYC_NBT_NSJW : Fld :=
  { name := "QYC_NBT.NSJW", base := 0x100094, lo := 8, width := 7, acc := .rw, whn := .locked, restore := .kept, dflt := fun _ => 31,
    dims := [⟨0, 32, 131072⟩] }

/-- Table 9-6, QYC_NBT.NBRP. -/
def QYC_NBT_NBRP : Fld :=
  { name := "QYC_NBT.NBRP", base := 0x100094, lo := 0, width := 5, acc := .rw, whn := .locked, restore := .kept, dflt := fun _ => 1,
    dims := [⟨0, 32, 131072⟩] }

/-- Table 9-6, QYC_FDBT.DTSEG1. -/
def QYC_FDBT_DTSEG1 : Fld :=
  { name := "QYC_FDBT.DTSEG1", base := 0x100098, lo := 24, width := 6, acc := .rw, whn := .locked, restore := .kept, dflt := fun _ => 58,
    dims := [⟨0, 32, 131072⟩] }

/-- Table 9-6, QYC_FDBT.DTSEG2. -/
def QYC_FDBT_DTSEG2 : Fld :=
  { name := "QYC_FDBT.DTSEG2", base := 0x100098, lo := 16, width := 5, acc := .rw, whn := .locked, restore := .kept, dflt := fun _ => 19,
    dims := [⟨0, 32, 131072⟩] }

/-- Table 9-6, QYC_FDBT.DSJW. -/
def QYC_FDBT_DSJW : Fld :=
  { name := "QYC_FDBT.DSJW", base := 0x100098, lo := 8, width := 5, acc := .rw, whn := .locked, restore := .kept, dflt := fun _ => 19,
    dims := [⟨0, 32, 131072⟩] }

/-- Table 9-6, QYC_FDBT.DBRP. -/
def QYC_FDBT_DBRP : Fld :=
  { name := "QYC_FDBT.DBRP", base := 0x100098, lo := 0, width := 5, acc := .rw, whn := .locked, restore := .kept, dflt := fun _ => 0,
    dims := [⟨0, 32, 131072⟩] }

/-- Table 9-6, QYC_XLBT.DTSEG1. -/
def QYC_XLBT_DTSEG1 : Fld :=
  { name := "QYC_XLBT.DTSEG1", base := 0x10009c, lo := 24, width := 6, acc := .rw, whn := .locked, restore := .kept, dflt := fun _ => 10,
    dims := [⟨0, 32, 131072⟩] }

/-- Table 9-6, QYC_XLBT.DTSEG2. -/
def QYC_XLBT_DTSEG2 : Fld :=
  { name := "QYC_XLBT.DTSEG2", base := 0x10009c, lo := 16, width := 5, acc := .rw, whn := .locked, restore := .kept, dflt := fun _ => 3,
    dims := [⟨0, 32, 131072⟩] }

/-- Table 9-6, QYC_XLBT.DSJW. -/
def QYC_XLBT_DSJW : Fld :=
  { name := "QYC_XLBT.DSJW", base := 0x10009c, lo := 8, width := 5, acc := .rw, whn := .locked, restore := .kept, dflt := fun _ => 3,
    dims := [⟨0, 32, 131072⟩] }

/-- Table 9-6, QYC_XLBT.DBRP. -/
def QYC_XLBT_DBRP : Fld :=
  { name := "QYC_XLBT.DBRP", base := 0x10009c, lo := 0, width := 5, acc := .rw, whn := .locked, restore := .kept, dflt := fun _ => 0,
    dims := [⟨0, 32, 131072⟩] }

/-- Table 9-6, QYC_TDC.TDC_EN. -/
def QYC_TDC_TDC_EN : Fld :=
  { name := "QYC_TDC.TDC_EN", base := 0x1000a0, lo := 31, width := 1, acc := .rw, whn := .locked, restore := .kept, dflt := fun _ => 1,
    dims := [⟨0, 32, 131072⟩] }

/-- Table 9-6, QYC_TDC.TDCF. -/
def QYC_TDC_TDCF : Fld :=
  { name := "QYC_TDC.TDCF", base := 0x1000a0, lo := 16, width := 7, acc := .rw, whn := .locked, restore := .kept, dflt := fun _ => 0,
    dims := [⟨0, 32, 131072⟩] }

/-- Table 9-6, QYC_TDC.TDCO. -/
def QYC_TDC_TDCO : Fld :=
  { name := "QYC_TDC.TDCO", base := 0x1000a0, lo := 8, width := 7, acc := .rw, whn := .locked, restore := .kept, dflt := fun _ => 60,
    dims := [⟨0, 32, 131072⟩] }

/-- Table 9-6, QYC_TDC.TDCV. -/
def QYC_TDC_TDCV : Fld :=
  { name := "QYC_TDC.TDCV", base := 0x1000a0, lo := 0, width := 7, acc := .ro, whn := .none, restore := .literal, dflt := fun _ => 0,
    dims := [⟨0, 32, 131072⟩] }

/-- Table 9-6, QYC_XL_CFG.TMS. -/
def QYC_XL_CFG_TMS : Fld :=
  { name := "QYC_XL_CFG.TMS", base := 0x1000a4, lo := 31, width := 1, acc := .rw, whn := .locked, restore := .kept, dflt := fun _ => 0,
    dims := [⟨0, 32, 131072⟩] }

/-- Table 9-6, QYC_XL_CFG.ES_DIS. -/
def QYC_XL_CFG_ES_DIS : Fld :=
  { name := "QYC_XL_CFG.ES_DIS", base := 0x1000a4, lo := 30, width := 1, acc := .rw, whn := .locked, restore := .kept, dflt := fun _ => 0,
    dims := [⟨0, 32, 131072⟩] }

/-- Table 9-6, QYC_XL_CFG.PWMO. -/
def QYC_XL_CFG_PWMO : Fld :=
  { name := "QYC_XL_CFG.PWMO", base := 0x1000a4, lo := 16, width := 6, acc := .rw, whn := .locked, restore := .kept, dflt := fun _ => 0,
    dims := [⟨0, 32, 131072⟩] }

/-- Table 9-6, QYC_XL_CFG.PWML. -/
def QYC_XL_CFG_PWML : Fld :=
  { name := "QYC_XL_CFG.PWML", base := 0x1000a4, lo := 8, width := 6, acc := .rw, whn := .locked, restore := .kept, dflt := fun _ => 0,
    dims := [⟨0, 32, 131072⟩] }

/-- Table 9-6, QYC_XL_CFG.PWMS. -/
def QYC_XL_CFG_PWMS : Fld :=
  { name := "QYC_XL_CFG.PWMS", base := 0x1000a4, lo := 0, width := 6, acc := .rw, whn := .locked, restore := .kept, dflt := fun _ => 0,
    dims := [⟨0, 32, 131072⟩] }

/-- Table 9-6, QYC_GANG.GROUP. -/
def QYC_GANG_GROUP : Fld :=
  { name := "QYC_GANG.GROUP", base := 0x1000a8, lo := 0, width := 3, acc := .rw, whn := .staged, restore := .kept, dflt := fun _ => 0,
    dims := [⟨0, 32, 131072⟩] }

/-- Table 9-6, QYC_G1608.COMPAT. -/
def QYC_G1608_COMPAT : Fld :=
  { name := "QYC_G1608.COMPAT", base := 0x1000ac, lo := 31, width := 1, acc := .rw, whn := .staged, restore := .kept, dflt := fun _ => 0,
    dims := [⟨0, 32, 131072⟩] }

/-- Table 9-6, QYC_G1608.WAKE_FRAME. -/
def QYC_G1608_WAKE_FRAME : Fld :=
  { name := "QYC_G1608.WAKE_FRAME", base := 0x1000ac, lo := 30, width := 1, acc := .rw, whn := .staged, restore := .kept, dflt := fun _ => 0,
    dims := [⟨0, 32, 131072⟩] }

/-- Table 9-6, QYC_G1608.WAKE_FILT. -/
def QYC_G1608_WAKE_FILT : Fld :=
  { name := "QYC_G1608.WAKE_FILT", base := 0x1000ac, lo := 0, width := 5, acc := .rw, whn := .staged, restore := .kept, dflt := fun _ => 5,
    dims := [⟨0, 32, 131072⟩] }

/-- Table 9-6, QYC_G1608_ID.IDE. -/
def QYC_G1608_ID_IDE : Fld :=
  { name := "QYC_G1608_ID.IDE", base := 0x1000b0, lo := 31, width := 1, acc := .rw, whn := .staged, restore := .kept, dflt := fun _ => 0,
    dims := [⟨0, 32, 131072⟩] }

/-- Table 9-6, QYC_G1608_ID.ID. -/
def QYC_G1608_ID_ID : Fld :=
  { name := "QYC_G1608_ID.ID", base := 0x1000b0, lo := 0, width := 29, acc := .rw, whn := .staged, restore := .kept, dflt := fun _ => 0,
    dims := [⟨0, 32, 131072⟩] }

/-- Table 9-6, QYC_G1608_MASK.MASK. -/
def QYC_G1608_MASK_MASK : Fld :=
  { name := "QYC_G1608_MASK.MASK", base := 0x1000b4, lo := 0, width := 29, acc := .rw, whn := .staged, restore := .kept, dflt := fun _ => 0,
    dims := [⟨0, 32, 131072⟩] }

/-- Table 9-6, QYC_G1608_DATA.DMASK. -/
def QYC_G1608_DATA_DMASK : Fld :=
  { name := "QYC_G1608_DATA.DMASK", base := 0x1000b8, lo := 8, width := 8, acc := .rw, whn := .staged, restore := .kept, dflt := fun _ => 0,
    dims := [⟨0, 32, 131072⟩] }

/-- Table 9-6, QYC_G1608_DATA.DVAL. -/
def QYC_G1608_DATA_DVAL : Fld :=
  { name := "QYC_G1608_DATA.DVAL", base := 0x1000b8, lo := 0, width := 8, acc := .rw, whn := .staged, restore := .kept, dflt := fun _ => 0,
    dims := [⟨0, 32, 131072⟩] }

/-- Table 9-6, QYC_WAKE_LAST.VALID. -/
def QYC_WAKE_LAST_VALID : Fld :=
  { name := "QYC_WAKE_LAST.VALID", base := 0x1000bc, lo := 31, width := 1, acc := .w1c, whn := .live, restore := .literal, dflt := fun _ => 0,
    dims := [⟨0, 32, 131072⟩] }

/-- Table 9-6, QYC_WAKE_LAST.KIND. -/
def QYC_WAKE_LAST_KIND : Fld :=
  { name := "QYC_WAKE_LAST.KIND", base := 0x1000bc, lo := 29, width := 2, acc := .ro, whn := .none, restore := .literal, dflt := fun _ => 0,
    dims := [⟨0, 32, 131072⟩] }

/-- Table 9-6, QYC_WAKE_LAST.ID. -/
def QYC_WAKE_LAST_ID : Fld :=
  { name := "QYC_WAKE_LAST.ID", base := 0x1000bc, lo := 0, width := 29, acc := .ro, whn := .none, restore := .literal, dflt := fun _ => 0,
    dims := [⟨0, 32, 131072⟩] }

/-- Table 9-7, QYC_FLT_MATCH.ACT. -/
def QYC_FLT_MATCH_ACT : Fld :=
  { name := "QYC_FLT_MATCH.ACT", base := 0x101080, lo := 30, width := 2, acc := .rw, whn := .staged, restore := .kept, dflt := fun _ => 0,
    dims := [⟨0, 32, 131072⟩, ⟨0, 128, 64⟩] }

/-- Table 9-7, QYC_FLT_MATCH.IDE. -/
def QYC_FLT_MATCH_IDE : Fld :=
  { name := "QYC_FLT_MATCH.IDE", base := 0x101080, lo := 29, width := 1, acc := .rw, whn := .staged, restore := .kept, dflt := fun _ => 0,
    dims := [⟨0, 32, 131072⟩, ⟨0, 128, 64⟩] }

/-- Table 9-7, QYC_FLT_MATCH.ID. -/
def QYC_FLT_MATCH_ID : Fld :=
  { name := "QYC_FLT_MATCH.ID", base := 0x101080, lo := 0, width := 29, acc := .rw, whn := .staged, restore := .kept, dflt := fun _ => 0,
    dims := [⟨0, 32, 131072⟩, ⟨0, 128, 64⟩] }

/-- Table 9-7, QYC_FLT_MASK.CC. -/
def QYC_FLT_MASK_CC : Fld :=
  { name := "QYC_FLT_MASK.CC", base := 0x101084, lo := 31, width := 1, acc := .rw, whn := .staged, restore := .kept, dflt := fun _ => 0,
    dims := [⟨0, 32, 131072⟩, ⟨0, 128, 64⟩] }

/-- Table 9-7, QYC_FLT_MASK.FD. -/
def QYC_FLT_MASK_FD : Fld :=
  { name := "QYC_FLT_MASK.FD", base := 0x101084, lo := 30, width := 1, acc := .rw, whn := .staged, restore := .kept, dflt := fun _ => 0,
    dims := [⟨0, 32, 131072⟩, ⟨0, 128, 64⟩] }

/-- Table 9-7, QYC_FLT_MASK.XL. -/
def QYC_FLT_MASK_XL : Fld :=
  { name := "QYC_FLT_MASK.XL", base := 0x101084, lo := 29, width := 1, acc := .rw, whn := .staged, restore := .kept, dflt := fun _ => 0,
    dims := [⟨0, 32, 131072⟩, ⟨0, 128, 64⟩] }

/-- Table 9-7, QYC_FLT_MASK.MASK. -/
def QYC_FLT_MASK_MASK : Fld :=
  { name := "QYC_FLT_MASK.MASK", base := 0x101084, lo := 0, width := 29, acc := .rw, whn := .staged, restore := .kept, dflt := fun _ => 0,
    dims := [⟨0, 32, 131072⟩, ⟨0, 128, 64⟩] }

/-- Table 9-7, QYC_RX_CFG.DEFAULT. -/
def QYC_RX_CFG_DEFAULT : Fld :=
  { name := "QYC_RX_CFG.DEFAULT", base := 0x101480, lo := 30, width := 2, acc := .rw, whn := .staged, restore := .kept, dflt := fun _ => 1,
    dims := [⟨0, 32, 131072⟩] }

/-- Table 9-7, QYC_RX_CFG.RXQ1_RSV. -/
def QYC_RX_CFG_RXQ1_RSV : Fld :=
  { name := "QYC_RX_CFG.RXQ1_RSV", base := 0x101480, lo := 0, width := 6, acc := .rw, whn := .staged, restore := .kept, dflt := fun _ => 0,
    dims := [⟨0, 32, 131072⟩] }

/-- Table 9-10, QYC_MB_CTL.SEQ. -/
def QYC_MB_CTL_SEQ : Fld :=
  { name := "QYC_MB_CTL.SEQ", base := 0x102080, lo := 24, width := 8, acc := .ro, whn := .none, restore := .literal, dflt := fun _ => 0,
    dims := [⟨0, 32, 131072⟩, ⟨0, 32, 768⟩] }

/-- Table 9-10, QYC_MB_CTL.STATE. -/
def QYC_MB_CTL_STATE : Fld :=
  { name := "QYC_MB_CTL.STATE", base := 0x102080, lo := 20, width := 4, acc := .ro, whn := .none, restore := .literal, dflt := fun _ => 0,
    dims := [⟨0, 32, 131072⟩, ⟨0, 32, 768⟩] }

/-- Table 9-10, QYC_MB_CTL.RESULT. -/
def QYC_MB_CTL_RESULT : Fld :=
  { name := "QYC_MB_CTL.RESULT", base := 0x102080, lo := 16, width := 4, acc := .ro, whn := .none, restore := .literal, dflt := fun _ => 0,
    dims := [⟨0, 32, 131072⟩, ⟨0, 32, 768⟩] }

/-- Table 9-10, QYC_MB_CTL.ATTEMPTS. -/
def QYC_MB_CTL_ATTEMPTS : Fld :=
  { name := "QYC_MB_CTL.ATTEMPTS", base := 0x102080, lo := 0, width := 16, acc := .ro, whn := .none, restore := .literal, dflt := fun _ => 0,
    dims := [⟨0, 32, 131072⟩, ⟨0, 32, 768⟩] }

/-- Table 9-10, QYC_MB_ID.IDE. -/
def QYC_MB_ID_IDE : Fld :=
  { name := "QYC_MB_ID.IDE", base := 0x102084, lo := 31, width := 1, acc := .rw, whn := .live, restore := .literal, dflt := fun _ => 0,
    dims := [⟨0, 32, 131072⟩, ⟨0, 32, 768⟩] }

/-- Table 9-10, QYC_MB_ID.RTR_RRS. -/
def QYC_MB_ID_RTR_RRS : Fld :=
  { name := "QYC_MB_ID.RTR_RRS", base := 0x102084, lo := 30, width := 1, acc := .rw, whn := .live, restore := .literal, dflt := fun _ => 0,
    dims := [⟨0, 32, 131072⟩, ⟨0, 32, 768⟩] }

/-- Table 9-10, QYC_MB_ID.BRS. -/
def QYC_MB_ID_BRS : Fld :=
  { name := "QYC_MB_ID.BRS", base := 0x102084, lo := 29, width := 1, acc := .rw, whn := .live, restore := .literal, dflt := fun _ => 0,
    dims := [⟨0, 32, 131072⟩, ⟨0, 32, 768⟩] }

/-- Table 9-10, QYC_MB_ID.ID. -/
def QYC_MB_ID_ID : Fld :=
  { name := "QYC_MB_ID.ID", base := 0x102084, lo := 0, width := 29, acc := .rw, whn := .live, restore := .literal, dflt := fun _ => 0,
    dims := [⟨0, 32, 131072⟩, ⟨0, 32, 768⟩] }

/-- Table 9-10, QYC_MB_FMT.FORMAT. -/
def QYC_MB_FMT_FORMAT : Fld :=
  { name := "QYC_MB_FMT.FORMAT", base := 0x102088, lo := 30, width := 2, acc := .rw, whn := .live, restore := .literal, dflt := fun _ => 0,
    dims := [⟨0, 32, 131072⟩, ⟨0, 32, 768⟩] }

/-- Table 9-10, QYC_MB_FMT.ONE_SHOT. -/
def QYC_MB_FMT_ONE_SHOT : Fld :=
  { name := "QYC_MB_FMT.ONE_SHOT", base := 0x102088, lo := 29, width := 1, acc := .rw, whn := .live, restore := .literal, dflt := fun _ => 0,
    dims := [⟨0, 32, 131072⟩, ⟨0, 32, 768⟩] }

/-- Table 9-10, QYC_MB_FMT.DATA_LEN. -/
def QYC_MB_FMT_DATA_LEN : Fld :=
  { name := "QYC_MB_FMT.DATA_LEN", base := 0x102088, lo := 0, width := 7, acc := .rw, whn := .live, restore := .literal, dflt := fun _ => 0,
    dims := [⟨0, 32, 131072⟩, ⟨0, 32, 768⟩] }

/-- Table 9-10, QYC_MB_STAMP_NS.NS. -/
def QYC_MB_STAMP_NS_NS : Fld :=
  { name := "QYC_MB_STAMP_NS.NS", base := 0x10208c, lo := 0, width := 32, acc := .ro, whn := .none, restore := .literal, dflt := fun _ => 0,
    dims := [⟨0, 32, 131072⟩, ⟨0, 32, 768⟩] }

/-- Table 9-10, QYC_MB_STAMP_S.S. -/
def QYC_MB_STAMP_S_S : Fld :=
  { name := "QYC_MB_STAMP_S.S", base := 0x102090, lo := 0, width := 32, acc := .ro, whn := .none, restore := .literal, dflt := fun _ => 0,
    dims := [⟨0, 32, 131072⟩, ⟨0, 32, 768⟩] }

/-- Table 9-10, QYC_MB_STAMP_FR.FR. -/
def QYC_MB_STAMP_FR_FR : Fld :=
  { name := "QYC_MB_STAMP_FR.FR", base := 0x102094, lo := 16, width := 16, acc := .ro, whn := .none, restore := .literal, dflt := fun _ => 0,
    dims := [⟨0, 32, 131072⟩, ⟨0, 32, 768⟩] }

/-- Table 9-10, QYC_MB_DATA.D. -/
def QYC_MB_DATA_D : Fld :=
  { name := "QYC_MB_DATA.D", base := 0x102098, lo := 0, width := 32, acc := .rw, whn := .live, restore := .literal, dflt := fun _ => 0,
    dims := [⟨0, 32, 131072⟩, ⟨0, 32, 768⟩, ⟨0, 16, 32⟩] }

/-- Table 9-10, QYC_MB_END.SEQ. -/
def QYC_MB_END_SEQ : Fld :=
  { name := "QYC_MB_END.SEQ", base := 0x1020dc, lo := 24, width := 8, acc := .ro, whn := .none, restore := .literal, dflt := fun _ => 0,
    dims := [⟨0, 32, 131072⟩, ⟨0, 32, 768⟩] }

/-- Table 9-10, QYC_MB_END.HELD. -/
def QYC_MB_END_HELD : Fld :=
  { name := "QYC_MB_END.HELD", base := 0x1020dc, lo := 23, width := 1, acc := .ro, whn := .none, restore := .literal, dflt := fun _ => 0,
    dims := [⟨0, 32, 131072⟩, ⟨0, 32, 768⟩] }

/-- Table 9-11, QYC_CNT_TX_OK.CNT. -/
def QYC_CNT_TX_OK_CNT : Fld :=
  { name := "QYC_CNT_TX_OK.CNT", base := 0x103080, lo := 0, width := 32, acc := .ro, whn := .none, restore := .literal, counter := true, dflt := fun _ => 0,
    dims := [⟨0, 32, 131072⟩] }

/-- Table 9-11, QYC_CNT_TX_RETRY.CNT. -/
def QYC_CNT_TX_RETRY_CNT : Fld :=
  { name := "QYC_CNT_TX_RETRY.CNT", base := 0x103084, lo := 0, width := 32, acc := .ro, whn := .none, restore := .literal, counter := true, dflt := fun _ => 0,
    dims := [⟨0, 32, 131072⟩] }

/-- Table 9-11, QYC_CNT_TX_ONESHOT_FAIL.CNT. -/
def QYC_CNT_TX_ONESHOT_FAIL_CNT : Fld :=
  { name := "QYC_CNT_TX_ONESHOT_FAIL.CNT", base := 0x103088, lo := 0, width := 32, acc := .ro, whn := .none, restore := .literal, counter := true, dflt := fun _ => 0,
    dims := [⟨0, 32, 131072⟩] }

/-- Table 9-11, QYC_CNT_TX_FMT_DROP.CNT. -/
def QYC_CNT_TX_FMT_DROP_CNT : Fld :=
  { name := "QYC_CNT_TX_FMT_DROP.CNT", base := 0x10308c, lo := 0, width := 32, acc := .ro, whn := .none, restore := .literal, counter := true, dflt := fun _ => 0,
    dims := [⟨0, 32, 131072⟩] }

/-- Table 9-11, QYC_CNT_CANCELLED.CNT. -/
def QYC_CNT_CANCELLED_CNT : Fld :=
  { name := "QYC_CNT_CANCELLED.CNT", base := 0x103090, lo := 0, width := 32, acc := .ro, whn := .none, restore := .literal, counter := true, dflt := fun _ => 0,
    dims := [⟨0, 32, 131072⟩] }

/-- Table 9-11, QYC_CNT_CANCEL_LATE.CNT. -/
def QYC_CNT_CANCEL_LATE_CNT : Fld :=
  { name := "QYC_CNT_CANCEL_LATE.CNT", base := 0x103094, lo := 0, width := 32, acc := .ro, whn := .none, restore := .literal, counter := true, dflt := fun _ => 0,
    dims := [⟨0, 32, 131072⟩] }

/-- Table 9-11, QYC_CNT_ARB_LOST.CNT. -/
def QYC_CNT_ARB_LOST_CNT : Fld :=
  { name := "QYC_CNT_ARB_LOST.CNT", base := 0x103098, lo := 0, width := 32, acc := .ro, whn := .none, restore := .literal, counter := true, dflt := fun _ => 0,
    dims := [⟨0, 32, 131072⟩] }

/-- Table 9-11, QYC_CNT_RX_RXQ0.CNT. -/
def QYC_CNT_RX_RXQ0_CNT : Fld :=
  { name := "QYC_CNT_RX_RXQ0.CNT", base := 0x10309c, lo := 0, width := 32, acc := .ro, whn := .none, restore := .literal, counter := true, dflt := fun _ => 0,
    dims := [⟨0, 32, 131072⟩] }

/-- Table 9-11, QYC_CNT_RX_RXQ1.CNT. -/
def QYC_CNT_RX_RXQ1_CNT : Fld :=
  { name := "QYC_CNT_RX_RXQ1.CNT", base := 0x1030a0, lo := 0, width := 32, acc := .ro, whn := .none, restore := .literal, counter := true, dflt := fun _ => 0,
    dims := [⟨0, 32, 131072⟩] }

/-- Table 9-11, QYC_CNT_RX_REJECT.CNT. -/
def QYC_CNT_RX_REJECT_CNT : Fld :=
  { name := "QYC_CNT_RX_REJECT.CNT", base := 0x1030a4, lo := 0, width := 32, acc := .ro, whn := .none, restore := .literal, counter := true, dflt := fun _ => 0,
    dims := [⟨0, 32, 131072⟩] }

/-- Table 9-11, QYC_CNT_RX_OVF.CNT. -/
def QYC_CNT_RX_OVF_CNT : Fld :=
  { name := "QYC_CNT_RX_OVF.CNT", base := 0x1030a8, lo := 0, width := 32, acc := .ro, whn := .none, restore := .literal, counter := true, dflt := fun _ => 0,
    dims := [⟨0, 32, 131072⟩] }

/-- Table 9-11, QYC_CNT_BUS_ERR.CNT. -/
def QYC_CNT_BUS_ERR_CNT : Fld :=
  { name := "QYC_CNT_BUS_ERR.CNT", base := 0x1030ac, lo := 0, width := 32, acc := .ro, whn := .none, restore := .literal, counter := true, dflt := fun _ => 0,
    dims := [⟨0, 32, 131072⟩] }

/-- Table 9-11, QYC_CNT_ACK_ERR.CNT. -/
def QYC_CNT_ACK_ERR_CNT : Fld :=
  { name := "QYC_CNT_ACK_ERR.CNT", base := 0x1030b0, lo := 0, width := 32, acc := .ro, whn := .none, restore := .literal, counter := true, dflt := fun _ => 0,
    dims := [⟨0, 32, 131072⟩] }

/-- Table 9-11, QYC_CNT_BUS_OFF.CNT. -/
def QYC_CNT_BUS_OFF_CNT : Fld :=
  { name := "QYC_CNT_BUS_OFF.CNT", base := 0x1030b4, lo := 0, width := 32, acc := .ro, whn := .none, restore := .literal, counter := true, dflt := fun _ => 0,
    dims := [⟨0, 32, 131072⟩] }

/-- Table 9-11, QYC_CNT_LIFE_EXPIRED.CNT. -/
def QYC_CNT_LIFE_EXPIRED_CNT : Fld :=
  { name := "QYC_CNT_LIFE_EXPIRED.CNT", base := 0x1030b8, lo := 0, width := 32, acc := .ro, whn := .none, restore := .literal, counter := true, dflt := fun _ => 0,
    dims := [⟨0, 32, 131072⟩] }

/-- Table 9-11, QYC_CNT_LOCK_TIMEOUT.CNT. -/
def QYC_CNT_LOCK_TIMEOUT_CNT : Fld :=
  { name := "QYC_CNT_LOCK_TIMEOUT.CNT", base := 0x1030bc, lo := 0, width := 32, acc := .ro, whn := .none, restore := .literal, counter := true, dflt := fun _ => 0,
    dims := [⟨0, 32, 131072⟩] }

/-- Table 9-11, QYC_CNT_WAKE.CNT. -/
def QYC_CNT_WAKE_CNT : Fld :=
  { name := "QYC_CNT_WAKE.CNT", base := 0x1030c0, lo := 0, width := 32, acc := .ro, whn := .none, restore := .literal, counter := true, dflt := fun _ => 0,
    dims := [⟨0, 32, 131072⟩] }

/-- Table 9-11, QYC_CNT_CLR.ALL. -/
def QYC_CNT_CLR_ALL : Fld :=
  { name := "QYC_CNT_CLR.ALL", base := 0x1030d0, lo := 0, width := 1, acc := .w1s, whn := .live, restore := .literal, dflt := fun _ => 0,
    dims := [⟨0, 32, 131072⟩] }

/-- Table 9-11, QYC_MB_REQ.REQ. -/
def QYC_MB_REQ_REQ : Fld :=
  { name := "QYC_MB_REQ.REQ", base := 0x103100, lo := 0, width := 32, acc := .w1s, whn := .live, restore := .literal, dflt := fun _ => 0,
    dims := [⟨0, 32, 131072⟩] }

/-- Table 9-11, QYC_MB_CANCEL.CANCEL. -/
def QYC_MB_CANCEL_CANCEL : Fld :=
  { name := "QYC_MB_CANCEL.CANCEL", base := 0x103104, lo := 0, width := 32, acc := .w1s, whn := .live, restore := .literal, dflt := fun _ => 0,
    dims := [⟨0, 32, 131072⟩] }

/-- Table 9-11, QYC_MB_PENDING.BUSY. -/
def QYC_MB_PENDING_BUSY : Fld :=
  { name := "QYC_MB_PENDING.BUSY", base := 0x103108, lo := 0, width := 32, acc := .ro, whn := .none, restore := .literal, dflt := fun _ => 0,
    dims := [⟨0, 32, 131072⟩] }

/-- Table 9-11, QYC_MB_DONE.DONE. -/
def QYC_MB_DONE_DONE : Fld :=
  { name := "QYC_MB_DONE.DONE", base := 0x10310c, lo := 0, width := 32, acc := .w1c, whn := .live, restore := .literal, dflt := fun _ => 0,
    dims := [⟨0, 32, 131072⟩] }

/-- Table 9-11, QYC_TXQ_LIFE.LIFE. -/
def QYC_TXQ_LIFE_LIFE : Fld :=
  { name := "QYC_TXQ_LIFE.LIFE", base := 0x103110, lo := 0, width := 16, acc := .rw, whn := .staged, restore := .kept, dflt := fun _ => 0,
    dims := [⟨0, 32, 131072⟩] }

/-- The fields above, part 0. -/
def regsQyc0 : List Fld :=
  [QYC_CTRL_AUTO_RECOVER,
   QYC_CTRL_TXMB_EN,
   QYC_CTRL_ONE_SHOT,
   QYC_CTRL_TXTS_EN,
   QYC_CTRL_XL_EN,
   QYC_CTRL_FD_EN,
   QYC_CTRL_MODE,
   QYC_CMD_OP,
   QYC_STATUS_LEC,
   QYC_STATUS_ACK_RUN,
   QYC_STATUS_MB_WR_IGNORED,
   QYC_STATUS_CMD_REJECT,
   QYC_STATUS_MODE_PENDING,
   QYC_STATUS_SLEEPING,
   QYC_STATUS_LONE_NODE,
   QYC_STATUS_ERR_WARN,
   QYC_STATUS_FC_STATE,
   QYC_ERRCNT_TEC,
   QYC_ERRCNT_REC,
   QYC_WARN_RX_WARN,
   QYC_WARN_TX_WARN,
   QYC_NBT_NTSEG1,
   QYC_NBT_NTSEG2,
   QYC_NBT_NSJW,
   QYC_NBT_NBRP,
   QYC_FDBT_DTSEG1,
   QYC_FDBT_DTSEG2,
   QYC_FDBT_DSJW,
   QYC_FDBT_DBRP,
   QYC_XLBT_DTSEG1,
   QYC_XLBT_DTSEG2,
   QYC_XLBT_DSJW,
   QYC_XLBT_DBRP,
   QYC_TDC_TDC_EN,
   QYC_TDC_TDCF,
   QYC_TDC_TDCO,
   QYC_TDC_TDCV,
   QYC_XL_CFG_TMS,
   QYC_XL_CFG_ES_DIS,
   QYC_XL_CFG_PWMO]

/-- The fields above, part 1. -/
def regsQyc1 : List Fld :=
  [QYC_XL_CFG_PWML,
   QYC_XL_CFG_PWMS,
   QYC_GANG_GROUP,
   QYC_G1608_COMPAT,
   QYC_G1608_WAKE_FRAME,
   QYC_G1608_WAKE_FILT,
   QYC_G1608_ID_IDE,
   QYC_G1608_ID_ID,
   QYC_G1608_MASK_MASK,
   QYC_G1608_DATA_DMASK,
   QYC_G1608_DATA_DVAL,
   QYC_WAKE_LAST_VALID,
   QYC_WAKE_LAST_KIND,
   QYC_WAKE_LAST_ID,
   QYC_FLT_MATCH_ACT,
   QYC_FLT_MATCH_IDE,
   QYC_FLT_MATCH_ID,
   QYC_FLT_MASK_CC,
   QYC_FLT_MASK_FD,
   QYC_FLT_MASK_XL,
   QYC_FLT_MASK_MASK,
   QYC_RX_CFG_DEFAULT,
   QYC_RX_CFG_RXQ1_RSV,
   QYC_MB_CTL_SEQ,
   QYC_MB_CTL_STATE,
   QYC_MB_CTL_RESULT,
   QYC_MB_CTL_ATTEMPTS,
   QYC_MB_ID_IDE,
   QYC_MB_ID_RTR_RRS,
   QYC_MB_ID_BRS,
   QYC_MB_ID_ID,
   QYC_MB_FMT_FORMAT,
   QYC_MB_FMT_ONE_SHOT,
   QYC_MB_FMT_DATA_LEN,
   QYC_MB_STAMP_NS_NS,
   QYC_MB_STAMP_S_S,
   QYC_MB_STAMP_FR_FR,
   QYC_MB_DATA_D,
   QYC_MB_END_SEQ,
   QYC_MB_END_HELD]

/-- The fields above, part 2. -/
def regsQyc2 : List Fld :=
  [QYC_CNT_TX_OK_CNT,
   QYC_CNT_TX_RETRY_CNT,
   QYC_CNT_TX_ONESHOT_FAIL_CNT,
   QYC_CNT_TX_FMT_DROP_CNT,
   QYC_CNT_CANCELLED_CNT,
   QYC_CNT_CANCEL_LATE_CNT,
   QYC_CNT_ARB_LOST_CNT,
   QYC_CNT_RX_RXQ0_CNT,
   QYC_CNT_RX_RXQ1_CNT,
   QYC_CNT_RX_REJECT_CNT,
   QYC_CNT_RX_OVF_CNT,
   QYC_CNT_BUS_ERR_CNT,
   QYC_CNT_ACK_ERR_CNT,
   QYC_CNT_BUS_OFF_CNT,
   QYC_CNT_LIFE_EXPIRED_CNT,
   QYC_CNT_LOCK_TIMEOUT_CNT,
   QYC_CNT_WAKE_CNT,
   QYC_CNT_CLR_ALL,
   QYC_MB_REQ_REQ,
   QYC_MB_CANCEL_CANCEL,
   QYC_MB_PENDING_BUSY,
   QYC_MB_DONE_DONE,
   QYC_TXQ_LIFE_LIFE]

/-- The register fields of the QYC pages (Tables 9-6, 9-7, 9-10 and 9-11). -/
def regsQyc : List Fld := regsQyc0 ++ regsQyc1 ++ regsQyc2

end Sys2Proof.Machine
end

