-- ==== Sys2Proof/Machine/RegsQye.lean ====
section
/-! DEFINITION. The register fields of the QYE pages (Tables 10-6 to 10-8), row by row. -/

namespace Sys2Proof.Machine

/-- Table 10-6, QYE_CTRL.FEC. -/
def QYE_CTRL_FEC : Fld :=
  { name := "QYE_CTRL.FEC", base := 0x100080, lo := 10, width := 2, acc := .rw, whn := .locked, restore := .kept, dflt := fun _ => 0,
    dims := [⟨32, 32, 131072⟩] }

/-- Table 10-6, QYE_CTRL.SPEED. -/
def QYE_CTRL_SPEED : Fld :=
  { name := "QYE_CTRL.SPEED", base := 0x100080, lo := 4, width := 4, acc := .rw, whn := .locked, restore := .kept, dflt := fun ix => if ix.headD 0 < 48 then 0 else if ix.headD 0 < 56 then 2 else 3,
    dims := [⟨32, 32, 131072⟩] }

/-- Table 10-6, QYE_CTRL.MODE. -/
def QYE_CTRL_MODE : Fld :=
  { name := "QYE_CTRL.MODE", base := 0x100080, lo := 0, width := 2, acc := .rw, whn := .staged, restore := .kept, dflt := fun _ => 1,
    dims := [⟨32, 32, 131072⟩] }

/-- Table 10-6, QYE_CMD.OP. -/
def QYE_CMD_OP : Fld :=
  { name := "QYE_CMD.OP", base := 0x100084, lo := 0, width := 4, acc := .wo, whn := .live, restore := .literal, dflt := fun _ => 0,
    dims := [⟨32, 32, 131072⟩] }

/-- Table 10-6, QYE_STATUS.USX_SPEED. -/
def QYE_STATUS_USX_SPEED : Fld :=
  { name := "QYE_STATUS.USX_SPEED", base := 0x100088, lo := 8, width := 3, acc := .ro, whn := .none, restore := .literal, dflt := fun _ => 0,
    dims := [⟨32, 32, 131072⟩] }

/-- Table 10-6, QYE_STATUS.CMD_REJECT. -/
def QYE_STATUS_CMD_REJECT : Fld :=
  { name := "QYE_STATUS.CMD_REJECT", base := 0x100088, lo := 5, width := 1, acc := .w1c, whn := .live, restore := .literal, dflt := fun _ => 0,
    dims := [⟨32, 32, 131072⟩] }

/-- Table 10-6, QYE_STATUS.MODE_PENDING. -/
def QYE_STATUS_MODE_PENDING : Fld :=
  { name := "QYE_STATUS.MODE_PENDING", base := 0x100088, lo := 4, width := 1, acc := .ro, whn := .none, restore := .literal, dflt := fun _ => 0,
    dims := [⟨32, 32, 131072⟩] }

/-- Table 10-6, QYE_STATUS.LOWPOWER. -/
def QYE_STATUS_LOWPOWER : Fld :=
  { name := "QYE_STATUS.LOWPOWER", base := 0x100088, lo := 3, width := 1, acc := .ro, whn := .none, restore := .literal, dflt := fun _ => 0,
    dims := [⟨32, 32, 131072⟩] }

/-- Table 10-6, QYE_STATUS.SPEED_MISMATCH. -/
def QYE_STATUS_SPEED_MISMATCH : Fld :=
  { name := "QYE_STATUS.SPEED_MISMATCH", base := 0x100088, lo := 2, width := 1, acc := .ro, whn := .none, restore := .literal, dflt := fun _ => 0,
    dims := [⟨32, 32, 131072⟩] }

/-- Table 10-6, QYE_STATUS.PLCA_ACTIVE. -/
def QYE_STATUS_PLCA_ACTIVE : Fld :=
  { name := "QYE_STATUS.PLCA_ACTIVE", base := 0x100088, lo := 1, width := 1, acc := .ro, whn := .none, restore := .literal, dflt := fun _ => 0,
    dims := [⟨32, 32, 131072⟩] }

/-- Table 10-6, QYE_STATUS.LINK. -/
def QYE_STATUS_LINK : Fld :=
  { name := "QYE_STATUS.LINK", base := 0x100088, lo := 0, width := 1, acc := .ro, whn := .none, restore := .literal, dflt := fun _ => 0,
    dims := [⟨32, 32, 131072⟩] }

/-- Table 10-6, QYE_FRAME.MAX_LEN. -/
def QYE_FRAME_MAX_LEN : Fld :=
  { name := "QYE_FRAME.MAX_LEN", base := 0x10008c, lo := 0, width := 14, acc := .rw, whn := .staged, restore := .kept, dflt := fun _ => 1518,
    dims := [⟨32, 32, 131072⟩] }

/-- Table 10-6, QYE_RX_CFG.DELIVER_BAD. -/
def QYE_RX_CFG_DELIVER_BAD : Fld :=
  { name := "QYE_RX_CFG.DELIVER_BAD", base := 0x100090, lo := 31, width := 1, acc := .rw, whn := .staged, restore := .kept, dflt := fun _ => 0,
    dims := [⟨32, 32, 131072⟩] }

/-- Table 10-6, QYE_RX_CFG.CTRL_PASS. -/
def QYE_RX_CFG_CTRL_PASS : Fld :=
  { name := "QYE_RX_CFG.CTRL_PASS", base := 0x100090, lo := 30, width := 1, acc := .rw, whn := .staged, restore := .kept, dflt := fun _ => 0,
    dims := [⟨32, 32, 131072⟩] }

/-- Table 10-6, QYE_RX_CFG.TPID2. -/
def QYE_RX_CFG_TPID2 : Fld :=
  { name := "QYE_RX_CFG.TPID2", base := 0x100090, lo := 0, width := 16, acc := .rw, whn := .staged, restore := .kept, dflt := fun _ => 34984,
    dims := [⟨32, 32, 131072⟩] }

/-- Table 10-6, QYE_RX_TAG.DEF_PCP. -/
def QYE_RX_TAG_DEF_PCP : Fld :=
  { name := "QYE_RX_TAG.DEF_PCP", base := 0x100094, lo := 12, width := 3, acc := .rw, whn := .staged, restore := .kept, dflt := fun _ => 0,
    dims := [⟨32, 32, 131072⟩] }

/-- Table 10-6, QYE_RX_TAG.PVID. -/
def QYE_RX_TAG_PVID : Fld :=
  { name := "QYE_RX_TAG.PVID", base := 0x100094, lo := 0, width := 12, acc := .rw, whn := .staged, restore := .kept, dflt := fun _ => 1,
    dims := [⟨32, 32, 131072⟩] }

/-- Table 10-6, QYE_TX_TAG.TPID. -/
def QYE_TX_TAG_TPID : Fld :=
  { name := "QYE_TX_TAG.TPID", base := 0x100098, lo := 16, width := 16, acc := .rw, whn := .staged, restore := .kept, dflt := fun _ => 33024,
    dims := [⟨32, 32, 131072⟩] }

/-- Table 10-6, QYE_TX_TAG.MACSEC_CLEAR. -/
def QYE_TX_TAG_MACSEC_CLEAR : Fld :=
  { name := "QYE_TX_TAG.MACSEC_CLEAR", base := 0x100098, lo := 2, width := 1, acc := .rw, whn := .staged, restore := .kept, dflt := fun _ => 0,
    dims := [⟨32, 32, 131072⟩] }

/-- Table 10-6, QYE_TX_TAG.MODE. -/
def QYE_TX_TAG_MODE : Fld :=
  { name := "QYE_TX_TAG.MODE", base := 0x100098, lo := 0, width := 2, acc := .rw, whn := .staged, restore := .kept, dflt := fun _ => 0,
    dims := [⟨32, 32, 131072⟩] }

/-- Table 10-6, QYE_TXTS.QMASK. -/
def QYE_TXTS_QMASK : Fld :=
  { name := "QYE_TXTS.QMASK", base := 0x10009c, lo := 0, width := 8, acc := .rw, whn := .staged, restore := .kept, dflt := fun _ => 255,
    dims := [⟨32, 32, 131072⟩] }

/-- Table 10-6, QYE_WAKE_LAST.VALID. -/
def QYE_WAKE_LAST_VALID : Fld :=
  { name := "QYE_WAKE_LAST.VALID", base := 0x1000a0, lo := 31, width := 1, acc := .w1c, whn := .live, restore := .literal, dflt := fun _ => 0,
    dims := [⟨32, 32, 131072⟩] }

/-- Table 10-6, QYE_WAKE_LAST.KIND. -/
def QYE_WAKE_LAST_KIND : Fld :=
  { name := "QYE_WAKE_LAST.KIND", base := 0x1000a0, lo := 29, width := 2, acc := .ro, whn := .none, restore := .literal, dflt := fun _ => 0,
    dims := [⟨32, 32, 131072⟩] }

/-- Table 10-6, QYE_RX_PRI.PCP_MASK. -/
def QYE_RX_PRI_PCP_MASK : Fld :=
  { name := "QYE_RX_PRI.PCP_MASK", base := 0x1000a4, lo := 0, width := 8, acc := .rw, whn := .staged, restore := .kept, dflt := fun _ => 0,
    dims := [⟨32, 32, 131072⟩] }

/-- Table 10-7, QYE_PLCA.EN. -/
def QYE_PLCA_EN : Fld :=
  { name := "QYE_PLCA.EN", base := 0x101080, lo := 31, width := 1, acc := .rw, whn := .locked, restore := .kept, dflt := fun _ => 0,
    dims := [⟨32, 32, 131072⟩] }

/-- Table 10-7, QYE_PLCA.NODE_CNT. -/
def QYE_PLCA_NODE_CNT : Fld :=
  { name := "QYE_PLCA.NODE_CNT", base := 0x101080, lo := 8, width := 8, acc := .rw, whn := .locked, restore := .kept, dflt := fun ix => if ix.headD 0 < 48 then 8 else 0,
    dims := [⟨32, 32, 131072⟩] }

/-- Table 10-7, QYE_PLCA.NODE_ID. -/
def QYE_PLCA_NODE_ID : Fld :=
  { name := "QYE_PLCA.NODE_ID", base := 0x101080, lo := 0, width := 8, acc := .rw, whn := .locked, restore := .kept, dflt := fun _ => 0,
    dims := [⟨32, 32, 131072⟩] }

/-- Table 10-7, QYE_PLCA_TMR.TO_TIMER. -/
def QYE_PLCA_TMR_TO_TIMER : Fld :=
  { name := "QYE_PLCA_TMR.TO_TIMER", base := 0x101084, lo := 16, width := 8, acc := .rw, whn := .locked, restore := .kept, dflt := fun ix => if ix.headD 0 < 48 then 32 else 0,
    dims := [⟨32, 32, 131072⟩] }

/-- Table 10-7, QYE_PLCA_TMR.MAX_BC. -/
def QYE_PLCA_TMR_MAX_BC : Fld :=
  { name := "QYE_PLCA_TMR.MAX_BC", base := 0x101084, lo := 8, width := 8, acc := .rw, whn := .locked, restore := .kept, dflt := fun _ => 0,
    dims := [⟨32, 32, 131072⟩] }

/-- Table 10-7, QYE_PLCA_TMR.BURST_TMR. -/
def QYE_PLCA_TMR_BURST_TMR : Fld :=
  { name := "QYE_PLCA_TMR.BURST_TMR", base := 0x101084, lo := 0, width := 8, acc := .rw, whn := .locked, restore := .kept, dflt := fun ix => if ix.headD 0 < 48 then 128 else 0,
    dims := [⟨32, 32, 131072⟩] }

/-- Table 10-7, QYE_CSMA.ATTEMPT_LIMIT. -/
def QYE_CSMA_ATTEMPT_LIMIT : Fld :=
  { name := "QYE_CSMA.ATTEMPT_LIMIT", base := 0x101088, lo := 0, width := 5, acc := .rw, whn := .locked, restore := .kept, dflt := fun ix => if ix.headD 0 < 48 then 16 else 0,
    dims := [⟨32, 32, 131072⟩] }

/-- Table 10-7, QYE_GANG.DELAY_NS. -/
def QYE_GANG_DELAY_NS : Fld :=
  { name := "QYE_GANG.DELAY_NS", base := 0x101090, lo := 16, width := 16, acc := .rw, whn := .staged, restore := .kept, dflt := fun _ => 1000,
    dims := [⟨32, 32, 131072⟩] }

/-- Table 10-7, QYE_GANG.GROUP. -/
def QYE_GANG_GROUP : Fld :=
  { name := "QYE_GANG.GROUP", base := 0x101090, lo := 0, width := 3, acc := .rw, whn := .staged, restore := .kept, dflt := fun _ => 0,
    dims := [⟨32, 32, 131072⟩] }

/-- Table 10-8, QYE_CNT_RX_OK.CNT. -/
def QYE_CNT_RX_OK_CNT : Fld :=
  { name := "QYE_CNT_RX_OK.CNT", base := 0x102080, lo := 0, width := 32, acc := .ro, whn := .none, restore := .literal, counter := true, dflt := fun _ => 0,
    dims := [⟨32, 32, 131072⟩] }

/-- Table 10-8, QYE_CNT_RX_OCTETS_LO.CNT. -/
def QYE_CNT_RX_OCTETS_LO_CNT : Fld :=
  { name := "QYE_CNT_RX_OCTETS_LO.CNT", base := 0x102084, lo := 0, width := 32, acc := .ro, whn := .none, restore := .literal, counter := true, dflt := fun _ => 0,
    dims := [⟨32, 32, 131072⟩] }

/-- Table 10-8, QYE_CNT_RX_OCTETS_HI.CNT. -/
def QYE_CNT_RX_OCTETS_HI_CNT : Fld :=
  { name := "QYE_CNT_RX_OCTETS_HI.CNT", base := 0x102088, lo := 0, width := 32, acc := .ro, whn := .none, restore := .literal, counter := true, dflt := fun _ => 0,
    dims := [⟨32, 32, 131072⟩] }

/-- Table 10-8, QYE_CNT_RX_FCS.CNT. -/
def QYE_CNT_RX_FCS_CNT : Fld :=
  { name := "QYE_CNT_RX_FCS.CNT", base := 0x10208c, lo := 0, width := 32, acc := .ro, whn := .none, restore := .literal, counter := true, dflt := fun _ => 0,
    dims := [⟨32, 32, 131072⟩] }

/-- Table 10-8, QYE_CNT_RX_SYMBOL.CNT. -/
def QYE_CNT_RX_SYMBOL_CNT : Fld :=
  { name := "QYE_CNT_RX_SYMBOL.CNT", base := 0x102090, lo := 0, width := 32, acc := .ro, whn := .none, restore := .literal, counter := true, dflt := fun _ => 0,
    dims := [⟨32, 32, 131072⟩] }

/-- Table 10-8, QYE_CNT_RX_RUNT.CNT. -/
def QYE_CNT_RX_RUNT_CNT : Fld :=
  { name := "QYE_CNT_RX_RUNT.CNT", base := 0x102094, lo := 0, width := 32, acc := .ro, whn := .none, restore := .literal, counter := true, dflt := fun _ => 0,
    dims := [⟨32, 32, 131072⟩] }

/-- Table 10-8, QYE_CNT_RX_LONG.CNT. -/
def QYE_CNT_RX_LONG_CNT : Fld :=
  { name := "QYE_CNT_RX_LONG.CNT", base := 0x102098, lo := 0, width := 32, acc := .ro, whn := .none, restore := .literal, counter := true, dflt := fun _ => 0,
    dims := [⟨32, 32, 131072⟩] }

/-- Table 10-8, QYE_CNT_RX_OVF.CNT. -/
def QYE_CNT_RX_OVF_CNT : Fld :=
  { name := "QYE_CNT_RX_OVF.CNT", base := 0x10209c, lo := 0, width := 32, acc := .ro, whn := .none, restore := .literal, counter := true, dflt := fun _ => 0,
    dims := [⟨32, 32, 131072⟩] }

/-- Table 10-8, QYE_CNT_RX_CTRL_DROP.CNT. -/
def QYE_CNT_RX_CTRL_DROP_CNT : Fld :=
  { name := "QYE_CNT_RX_CTRL_DROP.CNT", base := 0x1020a0, lo := 0, width := 32, acc := .ro, whn := .none, restore := .literal, counter := true, dflt := fun _ => 0,
    dims := [⟨32, 32, 131072⟩] }

/-- Table 10-8, QYE_CNT_RX_BAD_DELIVERED.CNT. -/
def QYE_CNT_RX_BAD_DELIVERED_CNT : Fld :=
  { name := "QYE_CNT_RX_BAD_DELIVERED.CNT", base := 0x1020a4, lo := 0, width := 32, acc := .ro, whn := .none, restore := .literal, counter := true, dflt := fun _ => 0,
    dims := [⟨32, 32, 131072⟩] }

/-- Table 10-8, QYE_CNT_TX_OK.CNT. -/
def QYE_CNT_TX_OK_CNT : Fld :=
  { name := "QYE_CNT_TX_OK.CNT", base := 0x1020a8, lo := 0, width := 32, acc := .ro, whn := .none, restore := .literal, counter := true, dflt := fun _ => 0,
    dims := [⟨32, 32, 131072⟩] }

/-- Table 10-8, QYE_CNT_TX_OCTETS_LO.CNT. -/
def QYE_CNT_TX_OCTETS_LO_CNT : Fld :=
  { name := "QYE_CNT_TX_OCTETS_LO.CNT", base := 0x1020ac, lo := 0, width := 32, acc := .ro, whn := .none, restore := .literal, counter := true, dflt := fun _ => 0,
    dims := [⟨32, 32, 131072⟩] }

/-- Table 10-8, QYE_CNT_TX_OCTETS_HI.CNT. -/
def QYE_CNT_TX_OCTETS_HI_CNT : Fld :=
  { name := "QYE_CNT_TX_OCTETS_HI.CNT", base := 0x1020b0, lo := 0, width := 32, acc := .ro, whn := .none, restore := .literal, counter := true, dflt := fun _ => 0,
    dims := [⟨32, 32, 131072⟩] }

/-- Table 10-8, QYE_CNT_TX_BAD_DROP.CNT. -/
def QYE_CNT_TX_BAD_DROP_CNT : Fld :=
  { name := "QYE_CNT_TX_BAD_DROP.CNT", base := 0x1020b4, lo := 0, width := 32, acc := .ro, whn := .none, restore := .literal, counter := true, dflt := fun _ => 0,
    dims := [⟨32, 32, 131072⟩] }

/-- Table 10-8, QYE_CNT_TX_LONG.CNT. -/
def QYE_CNT_TX_LONG_CNT : Fld :=
  { name := "QYE_CNT_TX_LONG.CNT", base := 0x1020b8, lo := 0, width := 32, acc := .ro, whn := .none, restore := .literal, counter := true, dflt := fun _ => 0,
    dims := [⟨32, 32, 131072⟩] }

/-- Table 10-8, QYE_CNT_TX_LINK_DROP.CNT. -/
def QYE_CNT_TX_LINK_DROP_CNT : Fld :=
  { name := "QYE_CNT_TX_LINK_DROP.CNT", base := 0x1020bc, lo := 0, width := 32, acc := .ro, whn := .none, restore := .literal, counter := true, dflt := fun _ => 0,
    dims := [⟨32, 32, 131072⟩] }

/-- Table 10-8, QYE_CNT_TX_ABORT.CNT. -/
def QYE_CNT_TX_ABORT_CNT : Fld :=
  { name := "QYE_CNT_TX_ABORT.CNT", base := 0x1020c0, lo := 0, width := 32, acc := .ro, whn := .none, restore := .literal, counter := true, dflt := fun _ => 0,
    dims := [⟨32, 32, 131072⟩] }

/-- Table 10-8, QYE_CNT_TAG_SKIP.CNT. -/
def QYE_CNT_TAG_SKIP_CNT : Fld :=
  { name := "QYE_CNT_TAG_SKIP.CNT", base := 0x1020c4, lo := 0, width := 32, acc := .ro, whn := .none, restore := .literal, counter := true, dflt := fun _ => 0,
    dims := [⟨32, 32, 131072⟩] }

/-- Table 10-8, QYE_CNT_FLUSHED.CNT. -/
def QYE_CNT_FLUSHED_CNT : Fld :=
  { name := "QYE_CNT_FLUSHED.CNT", base := 0x1020c8, lo := 0, width := 32, acc := .ro, whn := .none, restore := .literal, counter := true, dflt := fun _ => 0,
    dims := [⟨32, 32, 131072⟩] }

/-- Table 10-8, QYE_CNT_COLLISION.CNT. -/
def QYE_CNT_COLLISION_CNT : Fld :=
  { name := "QYE_CNT_COLLISION.CNT", base := 0x1020cc, lo := 0, width := 32, acc := .ro, whn := .none, restore := .literal, counter := true, dflt := fun _ => 0,
    dims := [⟨32, 32, 131072⟩] }

/-- Table 10-8, QYE_CNT_LATE_COLL.CNT. -/
def QYE_CNT_LATE_COLL_CNT : Fld :=
  { name := "QYE_CNT_LATE_COLL.CNT", base := 0x1020d0, lo := 0, width := 32, acc := .ro, whn := .none, restore := .literal, counter := true, dflt := fun _ => 0,
    dims := [⟨32, 32, 131072⟩] }

/-- Table 10-8, QYE_CNT_EXCESS_COLL.CNT. -/
def QYE_CNT_EXCESS_COLL_CNT : Fld :=
  { name := "QYE_CNT_EXCESS_COLL.CNT", base := 0x1020d4, lo := 0, width := 32, acc := .ro, whn := .none, restore := .literal, counter := true, dflt := fun _ => 0,
    dims := [⟨32, 32, 131072⟩] }

/-- Table 10-8, QYE_CNT_GANG_SLIP.CNT. -/
def QYE_CNT_GANG_SLIP_CNT : Fld :=
  { name := "QYE_CNT_GANG_SLIP.CNT", base := 0x1020d8, lo := 0, width := 32, acc := .ro, whn := .none, restore := .literal, counter := true, dflt := fun _ => 0,
    dims := [⟨32, 32, 131072⟩] }

/-- Table 10-8, QYE_CNT_FEC_CORR.CNT. -/
def QYE_CNT_FEC_CORR_CNT : Fld :=
  { name := "QYE_CNT_FEC_CORR.CNT", base := 0x1020dc, lo := 0, width := 32, acc := .ro, whn := .none, restore := .literal, counter := true, dflt := fun _ => 0,
    dims := [⟨32, 32, 131072⟩] }

/-- Table 10-8, QYE_CNT_FEC_UNCORR.CNT. -/
def QYE_CNT_FEC_UNCORR_CNT : Fld :=
  { name := "QYE_CNT_FEC_UNCORR.CNT", base := 0x1020e0, lo := 0, width := 32, acc := .ro, whn := .none, restore := .literal, counter := true, dflt := fun _ => 0,
    dims := [⟨32, 32, 131072⟩] }

/-- Table 10-8, QYE_CNT_LINK_DOWN.CNT. -/
def QYE_CNT_LINK_DOWN_CNT : Fld :=
  { name := "QYE_CNT_LINK_DOWN.CNT", base := 0x1020e4, lo := 0, width := 32, acc := .ro, whn := .none, restore := .literal, counter := true, dflt := fun _ => 0,
    dims := [⟨32, 32, 131072⟩] }

/-- Table 10-8, QYE_CNT_WAKE.CNT. -/
def QYE_CNT_WAKE_CNT : Fld :=
  { name := "QYE_CNT_WAKE.CNT", base := 0x1020e8, lo := 0, width := 32, acc := .ro, whn := .none, restore := .literal, counter := true, dflt := fun _ => 0,
    dims := [⟨32, 32, 131072⟩] }

/-- Table 10-8, QYE_CNT_CLR.ALL. -/
def QYE_CNT_CLR_ALL : Fld :=
  { name := "QYE_CNT_CLR.ALL", base := 0x102100, lo := 0, width := 1, acc := .w1s, whn := .live, restore := .literal, dflt := fun _ => 0,
    dims := [⟨32, 32, 131072⟩] }

/-- The fields above, part 0. -/
def regsQye0 : List Fld :=
  [QYE_CTRL_FEC,
   QYE_CTRL_SPEED,
   QYE_CTRL_MODE,
   QYE_CMD_OP,
   QYE_STATUS_USX_SPEED,
   QYE_STATUS_CMD_REJECT,
   QYE_STATUS_MODE_PENDING,
   QYE_STATUS_LOWPOWER,
   QYE_STATUS_SPEED_MISMATCH,
   QYE_STATUS_PLCA_ACTIVE,
   QYE_STATUS_LINK,
   QYE_FRAME_MAX_LEN,
   QYE_RX_CFG_DELIVER_BAD,
   QYE_RX_CFG_CTRL_PASS,
   QYE_RX_CFG_TPID2,
   QYE_RX_TAG_DEF_PCP,
   QYE_RX_TAG_PVID,
   QYE_TX_TAG_TPID,
   QYE_TX_TAG_MACSEC_CLEAR,
   QYE_TX_TAG_MODE,
   QYE_TXTS_QMASK,
   QYE_WAKE_LAST_VALID,
   QYE_WAKE_LAST_KIND,
   QYE_RX_PRI_PCP_MASK,
   QYE_PLCA_EN,
   QYE_PLCA_NODE_CNT,
   QYE_PLCA_NODE_ID,
   QYE_PLCA_TMR_TO_TIMER,
   QYE_PLCA_TMR_MAX_BC,
   QYE_PLCA_TMR_BURST_TMR,
   QYE_CSMA_ATTEMPT_LIMIT,
   QYE_GANG_DELAY_NS,
   QYE_GANG_GROUP,
   QYE_CNT_RX_OK_CNT,
   QYE_CNT_RX_OCTETS_LO_CNT,
   QYE_CNT_RX_OCTETS_HI_CNT,
   QYE_CNT_RX_FCS_CNT,
   QYE_CNT_RX_SYMBOL_CNT,
   QYE_CNT_RX_RUNT_CNT,
   QYE_CNT_RX_LONG_CNT]

/-- The fields above, part 1. -/
def regsQye1 : List Fld :=
  [QYE_CNT_RX_OVF_CNT,
   QYE_CNT_RX_CTRL_DROP_CNT,
   QYE_CNT_RX_BAD_DELIVERED_CNT,
   QYE_CNT_TX_OK_CNT,
   QYE_CNT_TX_OCTETS_LO_CNT,
   QYE_CNT_TX_OCTETS_HI_CNT,
   QYE_CNT_TX_BAD_DROP_CNT,
   QYE_CNT_TX_LONG_CNT,
   QYE_CNT_TX_LINK_DROP_CNT,
   QYE_CNT_TX_ABORT_CNT,
   QYE_CNT_TAG_SKIP_CNT,
   QYE_CNT_FLUSHED_CNT,
   QYE_CNT_COLLISION_CNT,
   QYE_CNT_LATE_COLL_CNT,
   QYE_CNT_EXCESS_COLL_CNT,
   QYE_CNT_GANG_SLIP_CNT,
   QYE_CNT_FEC_CORR_CNT,
   QYE_CNT_FEC_UNCORR_CNT,
   QYE_CNT_LINK_DOWN_CNT,
   QYE_CNT_WAKE_CNT,
   QYE_CNT_CLR_ALL]

/-- The register fields of the QYE pages (Tables 10-6 to 10-8). -/
def regsQye : List Fld := regsQye0 ++ regsQye1

end Sys2Proof.Machine
end

