-- ==== Sys2Proof/Machine/RegsRet.lean ====
section
/-! DEFINITION. The register fields of the RET and PWK pages (Tables 17-8 to 17-10, 17-12 and 17-13), row by row. -/

namespace Sys2Proof.Machine

/-- Table 17-8, RET_CMD.OP. -/
def RET_CMD_OP : Fld :=
  { name := "RET_CMD.OP", base := 0x300080, lo := 0, width := 4, acc := .wo, whn := .live, restore := .literal, dflt := fun _ => 0 }

/-- Table 17-8, RET_STATUS.CAUSE. -/
def RET_STATUS_CAUSE : Fld :=
  { name := "RET_STATUS.CAUSE", base := 0x300084, lo := 28, width := 4, acc := .ro, whn := .none, restore := .literal, dflt := fun _ => 0 }

/-- Table 17-8, RET_STATUS.CMD_REJECT. -/
def RET_STATUS_CMD_REJECT : Fld :=
  { name := "RET_STATUS.CMD_REJECT", base := 0x300084, lo := 19, width := 1, acc := .w1c, whn := .live, restore := .literal, dflt := fun _ => 0 }

/-- Table 17-8, RET_STATUS.COMMIT_BUSY. -/
def RET_STATUS_COMMIT_BUSY : Fld :=
  { name := "RET_STATUS.COMMIT_BUSY", base := 0x300084, lo := 18, width := 1, acc := .ro, whn := .none, restore := .literal, dflt := fun _ => 0 }

/-- Table 17-8, RET_STATUS.COMMIT_RESULT. -/
def RET_STATUS_COMMIT_RESULT : Fld :=
  { name := "RET_STATUS.COMMIT_RESULT", base := 0x300084, lo := 16, width := 2, acc := .ro, whn := .none, restore := .literal, dflt := fun _ => 0 }

/-- Table 17-8, RET_STATUS.LOAD_OPEN. -/
def RET_STATUS_LOAD_OPEN : Fld :=
  { name := "RET_STATUS.LOAD_OPEN", base := 0x300084, lo := 8, width := 1, acc := .ro, whn := .none, restore := .literal, dflt := fun _ => 0 }

/-- Table 17-8, RET_STATUS.TARGET. -/
def RET_STATUS_TARGET : Fld :=
  { name := "RET_STATUS.TARGET", base := 0x300084, lo := 0, width := 1, acc := .ro, whn := .none, restore := .literal, dflt := fun _ => 0 }

/-- Table 17-8, RET_SLOT_STATE.VERIFY_CODE. -/
def RET_SLOT_STATE_VERIFY_CODE : Fld :=
  { name := "RET_SLOT_STATE.VERIFY_CODE", base := 0x300088, lo := 8, width := 8, acc := .ro, whn := .none, restore := .literal, dflt := fun _ => 0,
    dims := [⟨0, 2, 64⟩] }

/-- Table 17-8, RET_SLOT_STATE.STATE. -/
def RET_SLOT_STATE_STATE : Fld :=
  { name := "RET_SLOT_STATE.STATE", base := 0x300088, lo := 0, width := 3, acc := .ro, whn := .none, restore := .literal, dflt := fun _ => 0,
    dims := [⟨0, 2, 64⟩] }

/-- Table 17-8, RET_SLOT_SEQ.SEQ. -/
def RET_SLOT_SEQ_SEQ : Fld :=
  { name := "RET_SLOT_SEQ.SEQ", base := 0x30008c, lo := 0, width := 32, acc := .ro, whn := .none, restore := .literal, dflt := fun _ => 0,
    dims := [⟨0, 2, 64⟩] }

/-- Table 17-8, RET_RD_ADDR.ADDR. -/
def RET_RD_ADDR_ADDR : Fld :=
  { name := "RET_RD_ADDR.ADDR", base := 0x300098, lo := 2, width := 21, acc := .rw, whn := .live, restore := .literal, dflt := fun _ => 0 }

/-- Table 17-8, RET_RD_DATA.DATA. -/
def RET_RD_DATA_DATA : Fld :=
  { name := "RET_RD_DATA.DATA", base := 0x30009c, lo := 0, width := 32, acc := .ro, whn := .none, restore := .literal, dflt := fun _ => 0 }

/-- Table 17-9, RET_LOAD_ADDR.ADDR. -/
def RET_LOAD_ADDR_ADDR : Fld :=
  { name := "RET_LOAD_ADDR.ADDR", base := 0x301080, lo := 2, width := 20, acc := .rw, whn := .live, restore := .literal, dflt := fun _ => 0 }

/-- Table 17-9, RET_LOAD_DATA.DATA. -/
def RET_LOAD_DATA_DATA : Fld :=
  { name := "RET_LOAD_DATA.DATA", base := 0x301084, lo := 0, width := 32, acc := .wo, whn := .live, restore := .literal, dflt := fun _ => 0 }

/-- Table 17-10, RET_CNT_COMMIT.CNT. -/
def RET_CNT_COMMIT_CNT : Fld :=
  { name := "RET_CNT_COMMIT.CNT", base := 0x302080, lo := 0, width := 32, acc := .ro, whn := .none, restore := .literal, counter := true, dflt := fun _ => 0 }

/-- Table 17-10, RET_CNT_COMMIT_FAIL.CNT. -/
def RET_CNT_COMMIT_FAIL_CNT : Fld :=
  { name := "RET_CNT_COMMIT_FAIL.CNT", base := 0x302084, lo := 0, width := 32, acc := .ro, whn := .none, restore := .literal, counter := true, dflt := fun _ => 0 }

/-- Table 17-10, RET_CNT_HOLDUP_RETRY.CNT. -/
def RET_CNT_HOLDUP_RETRY_CNT : Fld :=
  { name := "RET_CNT_HOLDUP_RETRY.CNT", base := 0x302088, lo := 0, width := 32, acc := .ro, whn := .none, restore := .literal, counter := true, dflt := fun _ => 0 }

/-- Table 17-10, RET_CNT_FALLBACK.CNT. -/
def RET_CNT_FALLBACK_CNT : Fld :=
  { name := "RET_CNT_FALLBACK.CNT", base := 0x30208c, lo := 0, width := 32, acc := .ro, whn := .none, restore := .literal, counter := true, dflt := fun _ => 0 }

/-- Table 17-10, RET_CNT_CLR.ALL. -/
def RET_CNT_CLR_ALL : Fld :=
  { name := "RET_CNT_CLR.ALL", base := 0x3020c0, lo := 0, width := 1, acc := .w1s, whn := .live, restore := .literal, dflt := fun _ => 0 }

/-- Table 17-12, PWK_CTRL.INH_SLEEP. -/
def PWK_CTRL_INH_SLEEP : Fld :=
  { name := "PWK_CTRL.INH_SLEEP", base := 0x304080, lo := 2, width := 1, acc := .rw, whn := .staged, restore := .kept, dflt := fun _ => 1 }

/-- Table 17-12, PWK_CMD.OP. -/
def PWK_CMD_OP : Fld :=
  { name := "PWK_CMD.OP", base := 0x304084, lo := 0, width := 4, acc := .wo, whn := .live, restore := .literal, dflt := fun _ => 0 }

/-- Table 17-12, PWK_SEG_CMD.OP. -/
def PWK_SEG_CMD_OP : Fld :=
  { name := "PWK_SEG_CMD.OP", base := 0x304088, lo := 28, width := 4, acc := .wo, whn := .live, restore := .literal, dflt := fun _ => 0 }

/-- Table 17-12, PWK_SEG_CMD.QUAY. -/
def PWK_SEG_CMD_QUAY : Fld :=
  { name := "PWK_SEG_CMD.QUAY", base := 0x304088, lo := 0, width := 6, acc := .wo, whn := .live, restore := .literal, dflt := fun _ => 0 }

/-- Table 17-12, PWK_STATUS.CMD_REJECT. -/
def PWK_STATUS_CMD_REJECT : Fld :=
  { name := "PWK_STATUS.CMD_REJECT", base := 0x30408c, lo := 10, width := 1, acc := .w1c, whn := .live, restore := .literal, dflt := fun _ => 0 }

/-- Table 17-12, PWK_STATUS.ENTERING. -/
def PWK_STATUS_ENTERING : Fld :=
  { name := "PWK_STATUS.ENTERING", base := 0x30408c, lo := 9, width := 1, acc := .ro, whn := .none, restore := .literal, dflt := fun _ => 0 }

/-- Table 17-12, PWK_STATUS.INH. -/
def PWK_STATUS_INH : Fld :=
  { name := "PWK_STATUS.INH", base := 0x30408c, lo := 8, width := 1, acc := .ro, whn := .none, restore := .literal, dflt := fun _ => 0 }

/-- Table 17-12, PWK_STATUS.PINS. -/
def PWK_STATUS_PINS : Fld :=
  { name := "PWK_STATUS.PINS", base := 0x30408c, lo := 4, width := 4, acc := .ro, whn := .none, restore := .literal, dflt := fun _ => 0 }

/-- Table 17-12, PWK_STATUS.SOUTH. -/
def PWK_STATUS_SOUTH : Fld :=
  { name := "PWK_STATUS.SOUTH", base := 0x30408c, lo := 2, width := 2, acc := .ro, whn := .none, restore := .literal, dflt := fun _ => 0 }

/-- Table 17-12, PWK_STATUS.NORTH. -/
def PWK_STATUS_NORTH : Fld :=
  { name := "PWK_STATUS.NORTH", base := 0x30408c, lo := 0, width := 2, acc := .ro, whn := .none, restore := .literal, dflt := fun _ => 0 }

/-- Table 17-12, PWK_DWELL.MS. -/
def PWK_DWELL_MS : Fld :=
  { name := "PWK_DWELL.MS", base := 0x304090, lo := 0, width := 8, acc := .rw, whn := .staged, restore := .kept, dflt := fun _ => 2 }

/-- Table 17-12, PWK_FW.MS. -/
def PWK_FW_MS : Fld :=
  { name := "PWK_FW.MS", base := 0x304094, lo := 0, width := 16, acc := .rw, whn := .staged, restore := .kept, dflt := fun _ => 2000 }

/-- Table 17-12, PWK_FW_MASK_LO.MASK. -/
def PWK_FW_MASK_LO_MASK : Fld :=
  { name := "PWK_FW_MASK_LO.MASK", base := 0x304098, lo := 0, width := 32, acc := .rw, whn := .staged, restore := .kept, dflt := fun _ => 4294967295 }

/-- Table 17-12, PWK_FW_MASK_HI.MASK. -/
def PWK_FW_MASK_HI_MASK : Fld :=
  { name := "PWK_FW_MASK_HI.MASK", base := 0x30409c, lo := 0, width := 24, acc := .rw, whn := .staged, restore := .kept, dflt := fun _ => 16777215 }

/-- Table 17-12, PWK_STAY_LO.MASK. -/
def PWK_STAY_LO_MASK : Fld :=
  { name := "PWK_STAY_LO.MASK", base := 0x3040a0, lo := 0, width := 32, acc := .rw, whn := .staged, restore := .kept, dflt := fun _ => 0 }

/-- Table 17-12, PWK_STAY_HI.MASK. -/
def PWK_STAY_HI_MASK : Fld :=
  { name := "PWK_STAY_HI.MASK", base := 0x3040a4, lo := 0, width := 24, acc := .rw, whn := .staged, restore := .kept, dflt := fun _ => 0 }

/-- Table 17-12, PWK_TC10.TMO_MS. -/
def PWK_TC10_TMO_MS : Fld :=
  { name := "PWK_TC10.TMO_MS", base := 0x3040a8, lo := 24, width := 8, acc := .rw, whn := .staged, restore := .kept, dflt := fun _ => 16 }

/-- Table 17-12, PWK_TC10.ACCEPT. -/
def PWK_TC10_ACCEPT : Fld :=
  { name := "PWK_TC10.ACCEPT", base := 0x3040a8, lo := 0, width := 8, acc := .rw, whn := .staged, restore := .kept, dflt := fun _ => 255 }

/-- Table 17-12, PWK_TIMER.MS. -/
def PWK_TIMER_MS : Fld :=
  { name := "PWK_TIMER.MS", base := 0x3040ac, lo := 0, width := 24, acc := .rw, whn := .staged, restore := .kept, dflt := fun _ => 0 }

/-- Table 17-12, PWK_PIN_CFG.EN. -/
def PWK_PIN_CFG_EN : Fld :=
  { name := "PWK_PIN_CFG.EN", base := 0x3040b0, lo := 31, width := 1, acc := .rw, whn := .staged, restore := .kept, dflt := fun _ => 0,
    dims := [⟨0, 4, 32⟩] }

/-- Table 17-12, PWK_PIN_CFG.EDGE. -/
def PWK_PIN_CFG_EDGE : Fld :=
  { name := "PWK_PIN_CFG.EDGE", base := 0x3040b0, lo := 29, width := 2, acc := .rw, whn := .staged, restore := .kept, dflt := fun _ => 0,
    dims := [⟨0, 4, 32⟩] }

/-- Table 17-12, PWK_PIN_CFG.TARGET. -/
def PWK_PIN_CFG_TARGET : Fld :=
  { name := "PWK_PIN_CFG.TARGET", base := 0x3040b0, lo := 27, width := 2, acc := .rw, whn := .staged, restore := .kept, dflt := fun _ => 0,
    dims := [⟨0, 4, 32⟩] }

/-- Table 17-12, PWK_PIN_CFG.FILT. -/
def PWK_PIN_CFG_FILT : Fld :=
  { name := "PWK_PIN_CFG.FILT", base := 0x3040b0, lo := 0, width := 8, acc := .rw, whn := .staged, restore := .kept, dflt := fun _ => 10,
    dims := [⟨0, 4, 32⟩] }

/-- Table 17-12, PWK_HOLDUP_CFG.CAP_UF. -/
def PWK_HOLDUP_CFG_CAP_UF : Fld :=
  { name := "PWK_HOLDUP_CFG.CAP_UF", base := 0x3040c0, lo := 16, width := 16, acc := .rw, whn := .staged, restore := .kept, dflt := fun _ => 1000 }

/-- Table 17-12, PWK_HOLDUP_CFG.VMIN_MV. -/
def PWK_HOLDUP_CFG_VMIN_MV : Fld :=
  { name := "PWK_HOLDUP_CFG.VMIN_MV", base := 0x3040c0, lo := 0, width := 16, acc := .rw, whn := .staged, restore := .kept, dflt := fun _ => 6000 }

/-- Table 17-12, PWK_HOLDUP_RATIO.RATIO. -/
def PWK_HOLDUP_RATIO_RATIO : Fld :=
  { name := "PWK_HOLDUP_RATIO.RATIO", base := 0x3040c4, lo := 0, width := 10, acc := .rw, whn := .staged, restore := .kept, dflt := fun _ => 160 }

/-- Table 17-12, PWK_HOLDUP_MEAS.VB_MV. -/
def PWK_HOLDUP_MEAS_VB_MV : Fld :=
  { name := "PWK_HOLDUP_MEAS.VB_MV", base := 0x3040c8, lo := 0, width := 16, acc := .ro, whn := .none, restore := .literal, dflt := fun _ => 0 }

/-- Table 17-12, PWK_HOLDUP_E.UJ. -/
def PWK_HOLDUP_E_UJ : Fld :=
  { name := "PWK_HOLDUP_E.UJ", base := 0x3040cc, lo := 0, width := 32, acc := .ro, whn := .none, restore := .literal, dflt := fun _ => 0 }

/-- Table 17-12, PWK_SEG_STATE.STATE. -/
def PWK_SEG_STATE_STATE : Fld :=
  { name := "PWK_SEG_STATE.STATE", base := 0x3040d0, lo := 0, width := 4, acc := .ro, whn := .none, restore := .literal, dflt := fun _ => 0,
    dims := [⟨0, 7, 32⟩, ⟨0, 8, 4⟩] }

/-- Table 17-13, PWK_WAKE_POP.POP. -/
def PWK_WAKE_POP_POP : Fld :=
  { name := "PWK_WAKE_POP.POP", base := 0x305080, lo := 0, width := 1, acc := .w1s, whn := .live, restore := .literal, dflt := fun _ => 0 }

/-- Table 17-13, PWK_WAKE_RES0.FLAGS. -/
def PWK_WAKE_RES0_FLAGS : Fld :=
  { name := "PWK_WAKE_RES0.FLAGS", base := 0x305084, lo := 25, width := 7, acc := .ro, whn := .none, restore := .literal, dflt := fun _ => 0 }

/-- Table 17-13, PWK_WAKE_RES0.KIND. -/
def PWK_WAKE_RES0_KIND : Fld :=
  { name := "PWK_WAKE_RES0.KIND", base := 0x305084, lo := 20, width := 3, acc := .ro, whn := .none, restore := .literal, dflt := fun _ => 0 }

/-- Table 17-13, PWK_WAKE_RES0.LFE_KIND. -/
def PWK_WAKE_RES0_LFE_KIND : Fld :=
  { name := "PWK_WAKE_RES0.LFE_KIND", base := 0x305084, lo := 16, width := 3, acc := .ro, whn := .none, restore := .literal, dflt := fun _ => 0 }

/-- Table 17-13, PWK_WAKE_RES0.SRC. -/
def PWK_WAKE_RES0_SRC : Fld :=
  { name := "PWK_WAKE_RES0.SRC", base := 0x305084, lo := 8, width := 6, acc := .ro, whn := .none, restore := .literal, dflt := fun _ => 0 }

/-- Table 17-13, PWK_WAKE_RES1.ID_VALID. -/
def PWK_WAKE_RES1_ID_VALID : Fld :=
  { name := "PWK_WAKE_RES1.ID_VALID", base := 0x305088, lo := 31, width := 1, acc := .ro, whn := .none, restore := .literal, dflt := fun _ => 0 }

/-- Table 17-13, PWK_WAKE_RES1.ID. -/
def PWK_WAKE_RES1_ID : Fld :=
  { name := "PWK_WAKE_RES1.ID", base := 0x305088, lo := 0, width := 29, acc := .ro, whn := .none, restore := .literal, dflt := fun _ => 0 }

/-- Table 17-13, PWK_WAKE_RES2.SLEEP_MS. -/
def PWK_WAKE_RES2_SLEEP_MS : Fld :=
  { name := "PWK_WAKE_RES2.SLEEP_MS", base := 0x30508c, lo := 0, width := 32, acc := .ro, whn := .none, restore := .literal, dflt := fun _ => 0 }

/-- Table 17-13, PWK_WAKE_RES3.NS. -/
def PWK_WAKE_RES3_NS : Fld :=
  { name := "PWK_WAKE_RES3.NS", base := 0x305090, lo := 0, width := 32, acc := .ro, whn := .none, restore := .literal, dflt := fun _ => 0 }

/-- Table 17-13, PWK_WAKE_RES4.S. -/
def PWK_WAKE_RES4_S : Fld :=
  { name := "PWK_WAKE_RES4.S", base := 0x305094, lo := 0, width := 32, acc := .ro, whn := .none, restore := .literal, dflt := fun _ => 0 }

/-- Table 17-13, PWK_CNT_WAKE.CNT. -/
def PWK_CNT_WAKE_CNT : Fld :=
  { name := "PWK_CNT_WAKE.CNT", base := 0x3050c0, lo := 0, width := 32, acc := .ro, whn := .none, restore := .literal, counter := true, dflt := fun _ => 0 }

/-- Table 17-13, PWK_CNT_LATE_WAKE.CNT. -/
def PWK_CNT_LATE_WAKE_CNT : Fld :=
  { name := "PWK_CNT_LATE_WAKE.CNT", base := 0x3050c4, lo := 0, width := 32, acc := .ro, whn := .none, restore := .literal, counter := true, dflt := fun _ => 0 }

/-- Table 17-13, PWK_CNT_SLEEP_ABORT.CNT. -/
def PWK_CNT_SLEEP_ABORT_CNT : Fld :=
  { name := "PWK_CNT_SLEEP_ABORT.CNT", base := 0x3050c8, lo := 0, width := 32, acc := .ro, whn := .none, restore := .literal, counter := true, dflt := fun _ => 0 }

/-- Table 17-13, PWK_CNT_SLEEP_FAIL.CNT. -/
def PWK_CNT_SLEEP_FAIL_CNT : Fld :=
  { name := "PWK_CNT_SLEEP_FAIL.CNT", base := 0x3050cc, lo := 0, width := 32, acc := .ro, whn := .none, restore := .literal, counter := true, dflt := fun _ => 0 }

/-- Table 17-13, PWK_CNT_FALSE_WAKE.CNT. -/
def PWK_CNT_FALSE_WAKE_CNT : Fld :=
  { name := "PWK_CNT_FALSE_WAKE.CNT", base := 0x3050d0, lo := 0, width := 32, acc := .ro, whn := .none, restore := .literal, counter := true, dflt := fun _ => 0 }

/-- Table 17-13, PWK_CNT_ISOLATE_DROP.CNT. -/
def PWK_CNT_ISOLATE_DROP_CNT : Fld :=
  { name := "PWK_CNT_ISOLATE_DROP.CNT", base := 0x3050d4, lo := 0, width := 32, acc := .ro, whn := .none, restore := .literal, counter := true, dflt := fun _ => 0 }

/-- Table 17-13, PWK_CNT_HOLDUP_REFUSE.CNT. -/
def PWK_CNT_HOLDUP_REFUSE_CNT : Fld :=
  { name := "PWK_CNT_HOLDUP_REFUSE.CNT", base := 0x3050d8, lo := 0, width := 32, acc := .ro, whn := .none, restore := .literal, counter := true, dflt := fun _ => 0 }

/-- Table 17-13, PWK_CNT_CLR.ALL. -/
def PWK_CNT_CLR_ALL : Fld :=
  { name := "PWK_CNT_CLR.ALL", base := 0x3050e0, lo := 0, width := 1, acc := .w1s, whn := .live, restore := .literal, dflt := fun _ => 0 }

/-- The fields above, part 0. -/
def regsRet0 : List Fld :=
  [RET_CMD_OP,
   RET_STATUS_CAUSE,
   RET_STATUS_CMD_REJECT,
   RET_STATUS_COMMIT_BUSY,
   RET_STATUS_COMMIT_RESULT,
   RET_STATUS_LOAD_OPEN,
   RET_STATUS_TARGET,
   RET_SLOT_STATE_VERIFY_CODE,
   RET_SLOT_STATE_STATE,
   RET_SLOT_SEQ_SEQ,
   RET_RD_ADDR_ADDR,
   RET_RD_DATA_DATA,
   RET_LOAD_ADDR_ADDR,
   RET_LOAD_DATA_DATA,
   RET_CNT_COMMIT_CNT,
   RET_CNT_COMMIT_FAIL_CNT,
   RET_CNT_HOLDUP_RETRY_CNT,
   RET_CNT_FALLBACK_CNT,
   RET_CNT_CLR_ALL,
   PWK_CTRL_INH_SLEEP,
   PWK_CMD_OP,
   PWK_SEG_CMD_OP,
   PWK_SEG_CMD_QUAY,
   PWK_STATUS_CMD_REJECT,
   PWK_STATUS_ENTERING,
   PWK_STATUS_INH,
   PWK_STATUS_PINS,
   PWK_STATUS_SOUTH,
   PWK_STATUS_NORTH,
   PWK_DWELL_MS,
   PWK_FW_MS,
   PWK_FW_MASK_LO_MASK,
   PWK_FW_MASK_HI_MASK,
   PWK_STAY_LO_MASK,
   PWK_STAY_HI_MASK,
   PWK_TC10_TMO_MS,
   PWK_TC10_ACCEPT,
   PWK_TIMER_MS,
   PWK_PIN_CFG_EN,
   PWK_PIN_CFG_EDGE]

/-- The fields above, part 1. -/
def regsRet1 : List Fld :=
  [PWK_PIN_CFG_TARGET,
   PWK_PIN_CFG_FILT,
   PWK_HOLDUP_CFG_CAP_UF,
   PWK_HOLDUP_CFG_VMIN_MV,
   PWK_HOLDUP_RATIO_RATIO,
   PWK_HOLDUP_MEAS_VB_MV,
   PWK_HOLDUP_E_UJ,
   PWK_SEG_STATE_STATE,
   PWK_WAKE_POP_POP,
   PWK_WAKE_RES0_FLAGS,
   PWK_WAKE_RES0_KIND,
   PWK_WAKE_RES0_LFE_KIND,
   PWK_WAKE_RES0_SRC,
   PWK_WAKE_RES1_ID_VALID,
   PWK_WAKE_RES1_ID,
   PWK_WAKE_RES2_SLEEP_MS,
   PWK_WAKE_RES3_NS,
   PWK_WAKE_RES4_S,
   PWK_CNT_WAKE_CNT,
   PWK_CNT_LATE_WAKE_CNT,
   PWK_CNT_SLEEP_ABORT_CNT,
   PWK_CNT_SLEEP_FAIL_CNT,
   PWK_CNT_FALSE_WAKE_CNT,
   PWK_CNT_ISOLATE_DROP_CNT,
   PWK_CNT_HOLDUP_REFUSE_CNT,
   PWK_CNT_CLR_ALL]

/-- The register fields of the RET and PWK pages (Tables 17-8 to 17-10, 17-12 and 17-13). -/
def regsRet : List Fld := regsRet0 ++ regsRet1

end Sys2Proof.Machine
end

