-- ==== Sys2Proof/Machine/RegsSgw.lean ====
section
/-! DEFINITION. The register fields of the SGW pages (Tables 5-11 and 5-12), row by row. -/

namespace Sys2Proof.Machine

/-- Table 5-11, SGW_CTRL.DECAP_STAMP. -/
def SGW_CTRL_DECAP_STAMP : Fld :=
  { name := "SGW_CTRL.DECAP_STAMP", base := 0xb0080, lo := 1, width := 1, acc := .rw, whn := .staged, restore := .kept, dflt := fun _ => 0 }

/-- Table 5-11, SGW_CTRL.REBUILD_EN. -/
def SGW_CTRL_REBUILD_EN : Fld :=
  { name := "SGW_CTRL.REBUILD_EN", base := 0xb0080, lo := 0, width := 1, acc := .rw, whn := .staged, restore := .kept, dflt := fun _ => 1 }

/-- Table 5-11, SGW_DARAST_ETYPE.ETYPE. -/
def SGW_DARAST_ETYPE_ETYPE : Fld :=
  { name := "SGW_DARAST_ETYPE.ETYPE", base := 0xb0084, lo := 0, width := 16, acc := .rw, whn := .staged, restore := .kept, dflt := fun _ => 34997 }

/-- Table 5-11, SGW_STATUS.JOBQ_DEPTH. -/
def SGW_STATUS_JOBQ_DEPTH : Fld :=
  { name := "SGW_STATUS.JOBQ_DEPTH", base := 0xb0088, lo := 0, width := 11, acc := .ro, whn := .none, restore := .literal, dflt := fun _ => 0 }

/-- Table 5-11, SGW_ACT_MAPS.CNT. -/
def SGW_ACT_MAPS_CNT : Fld :=
  { name := "SGW_ACT_MAPS.CNT", base := 0xb008c, lo := 0, width := 15, acc := .ro, whn := .none, restore := .literal, dflt := fun _ => 0 }

/-- Table 5-11, SGW_ACT_PDUS.CNT. -/
def SGW_ACT_PDUS_CNT : Fld :=
  { name := "SGW_ACT_PDUS.CNT", base := 0xb0090, lo := 0, width := 14, acc := .ro, whn := .none, restore := .literal, dflt := fun _ => 0 }

/-- Table 5-11, SGW_ACT_TUNNELS.CNT. -/
def SGW_ACT_TUNNELS_CNT : Fld :=
  { name := "SGW_ACT_TUNNELS.CNT", base := 0xb0094, lo := 0, width := 11, acc := .ro, whn := .none, restore := .literal, dflt := fun _ => 0 }

/-- Table 5-11, SGW_MAP_SEL.MAP. -/
def SGW_MAP_SEL_MAP : Fld :=
  { name := "SGW_MAP_SEL.MAP", base := 0xb0098, lo := 0, width := 14, acc := .rw, whn := .live, restore := .literal, dflt := fun _ => 0 }

/-- Table 5-11, SGW_MAP_STATE.STATE. -/
def SGW_MAP_STATE_STATE : Fld :=
  { name := "SGW_MAP_STATE.STATE", base := 0xb009c, lo := 0, width := 32, acc := .ro, whn := .none, restore := .literal, dflt := fun _ => 0 }

/-- Table 5-11, SGW_TUN_SEL.TUNNEL. -/
def SGW_TUN_SEL_TUNNEL : Fld :=
  { name := "SGW_TUN_SEL.TUNNEL", base := 0xb00a0, lo := 0, width := 10, acc := .rw, whn := .live, restore := .literal, dflt := fun _ => 0 }

/-- Table 5-11, SGW_TUN_STATE.TX_SEQ. -/
def SGW_TUN_STATE_TX_SEQ : Fld :=
  { name := "SGW_TUN_STATE.TX_SEQ", base := 0xb00a4, lo := 16, width := 16, acc := .ro, whn := .none, restore := .literal, dflt := fun _ => 0 }

/-- Table 5-11, SGW_TUN_STATE.RX_SEQ. -/
def SGW_TUN_STATE_RX_SEQ : Fld :=
  { name := "SGW_TUN_STATE.RX_SEQ", base := 0xb00a4, lo := 0, width := 16, acc := .ro, whn := .none, restore := .literal, dflt := fun _ => 0 }

/-- Table 5-11, SGW_LAST_TIMEOUT.MAP. -/
def SGW_LAST_TIMEOUT_MAP : Fld :=
  { name := "SGW_LAST_TIMEOUT.MAP", base := 0xb00a8, lo := 0, width := 14, acc := .ro, whn := .none, restore := .literal, dflt := fun _ => 0 }

/-- Table 5-12, SGW_CNT_JOBS.CNT. -/
def SGW_CNT_JOBS_CNT : Fld :=
  { name := "SGW_CNT_JOBS.CNT", base := 0xb1080, lo := 0, width := 32, acc := .ro, whn := .none, restore := .literal, counter := true, dflt := fun _ => 0 }

/-- Table 5-12, SGW_CNT_JOB_DROP.CNT. -/
def SGW_CNT_JOB_DROP_CNT : Fld :=
  { name := "SGW_CNT_JOB_DROP.CNT", base := 0xb1084, lo := 0, width := 32, acc := .ro, whn := .none, restore := .literal, counter := true, dflt := fun _ => 0 }

/-- Table 5-12, SGW_CNT_SHORT.CNT. -/
def SGW_CNT_SHORT_CNT : Fld :=
  { name := "SGW_CNT_SHORT.CNT", base := 0xb1088, lo := 0, width := 32, acc := .ro, whn := .none, restore := .literal, counter := true, dflt := fun _ => 0 }

/-- Table 5-12, SGW_CNT_TIMEOUT.CNT. -/
def SGW_CNT_TIMEOUT_CNT : Fld :=
  { name := "SGW_CNT_TIMEOUT.CNT", base := 0xb108c, lo := 0, width := 32, acc := .ro, whn := .none, restore := .literal, counter := true, dflt := fun _ => 0 }

/-- Table 5-12, SGW_CNT_RECOVER.CNT. -/
def SGW_CNT_RECOVER_CNT : Fld :=
  { name := "SGW_CNT_RECOVER.CNT", base := 0xb1090, lo := 0, width := 32, acc := .ro, whn := .none, restore := .literal, counter := true, dflt := fun _ => 0 }

/-- Table 5-12, SGW_CNT_PACK.CNT. -/
def SGW_CNT_PACK_CNT : Fld :=
  { name := "SGW_CNT_PACK.CNT", base := 0xb1094, lo := 0, width := 32, acc := .ro, whn := .none, restore := .literal, counter := true, dflt := fun _ => 0 }

/-- Table 5-12, SGW_CNT_PACK_REPLACE.CNT. -/
def SGW_CNT_PACK_REPLACE_CNT : Fld :=
  { name := "SGW_CNT_PACK_REPLACE.CNT", base := 0xb1098, lo := 0, width := 32, acc := .ro, whn := .none, restore := .literal, counter := true, dflt := fun _ => 0 }

/-- Table 5-12, SGW_CNT_REBUILD_OK.CNT. -/
def SGW_CNT_REBUILD_OK_CNT : Fld :=
  { name := "SGW_CNT_REBUILD_OK.CNT", base := 0xb109c, lo := 0, width := 32, acc := .ro, whn := .none, restore := .literal, counter := true, dflt := fun _ => 0 }

/-- Table 5-12, SGW_CNT_REBUILD_FAIL.CNT. -/
def SGW_CNT_REBUILD_FAIL_CNT : Fld :=
  { name := "SGW_CNT_REBUILD_FAIL.CNT", base := 0xb10a0, lo := 0, width := 32, acc := .ro, whn := .none, restore := .literal, counter := true, dflt := fun _ => 0 }

/-- Table 5-12, SGW_CNT_ENCAP.CNT. -/
def SGW_CNT_ENCAP_CNT : Fld :=
  { name := "SGW_CNT_ENCAP.CNT", base := 0xb10a4, lo := 0, width := 32, acc := .ro, whn := .none, restore := .literal, counter := true, dflt := fun _ => 0 }

/-- Table 5-12, SGW_CNT_DECAP.CNT. -/
def SGW_CNT_DECAP_CNT : Fld :=
  { name := "SGW_CNT_DECAP.CNT", base := 0xb10a8, lo := 0, width := 32, acc := .ro, whn := .none, restore := .literal, counter := true, dflt := fun _ => 0 }

/-- Table 5-12, SGW_CNT_DECAP_DROP.CNT. -/
def SGW_CNT_DECAP_DROP_CNT : Fld :=
  { name := "SGW_CNT_DECAP_DROP.CNT", base := 0xb10ac, lo := 0, width := 32, acc := .ro, whn := .none, restore := .literal, counter := true, dflt := fun _ => 0 }

/-- Table 5-12, SGW_CNT_DECAP_SKIP.CNT. -/
def SGW_CNT_DECAP_SKIP_CNT : Fld :=
  { name := "SGW_CNT_DECAP_SKIP.CNT", base := 0xb10b0, lo := 0, width := 32, acc := .ro, whn := .none, restore := .literal, counter := true, dflt := fun _ => 0 }

/-- Table 5-12, SGW_CNT_SEQ_GAP.CNT. -/
def SGW_CNT_SEQ_GAP_CNT : Fld :=
  { name := "SGW_CNT_SEQ_GAP.CNT", base := 0xb10b4, lo := 0, width := 32, acc := .ro, whn := .none, restore := .literal, counter := true, dflt := fun _ => 0 }

/-- Table 5-12, SGW_CNT_TOO_LONG.CNT. -/
def SGW_CNT_TOO_LONG_CNT : Fld :=
  { name := "SGW_CNT_TOO_LONG.CNT", base := 0xb10b8, lo := 0, width := 32, acc := .ro, whn := .none, restore := .literal, counter := true, dflt := fun _ => 0 }

/-- Table 5-12, SGW_CNT_CONVERT_DROP.CNT. -/
def SGW_CNT_CONVERT_DROP_CNT : Fld :=
  { name := "SGW_CNT_CONVERT_DROP.CNT", base := 0xb10bc, lo := 0, width := 32, acc := .ro, whn := .none, restore := .literal, counter := true, dflt := fun _ => 0 }

/-- Table 5-12, SGW_CNT_CLR.ALL. -/
def SGW_CNT_CLR_ALL : Fld :=
  { name := "SGW_CNT_CLR.ALL", base := 0xb10c0, lo := 0, width := 1, acc := .w1s, whn := .live, restore := .literal, dflt := fun _ => 0 }

/-- The fields above, part 0. -/
def regsSgw0 : List Fld :=
  [SGW_CTRL_DECAP_STAMP,
   SGW_CTRL_REBUILD_EN,
   SGW_DARAST_ETYPE_ETYPE,
   SGW_STATUS_JOBQ_DEPTH,
   SGW_ACT_MAPS_CNT,
   SGW_ACT_PDUS_CNT,
   SGW_ACT_TUNNELS_CNT,
   SGW_MAP_SEL_MAP,
   SGW_MAP_STATE_STATE,
   SGW_TUN_SEL_TUNNEL,
   SGW_TUN_STATE_TX_SEQ,
   SGW_TUN_STATE_RX_SEQ,
   SGW_LAST_TIMEOUT_MAP,
   SGW_CNT_JOBS_CNT,
   SGW_CNT_JOB_DROP_CNT,
   SGW_CNT_SHORT_CNT,
   SGW_CNT_TIMEOUT_CNT,
   SGW_CNT_RECOVER_CNT,
   SGW_CNT_PACK_CNT,
   SGW_CNT_PACK_REPLACE_CNT,
   SGW_CNT_REBUILD_OK_CNT,
   SGW_CNT_REBUILD_FAIL_CNT,
   SGW_CNT_ENCAP_CNT,
   SGW_CNT_DECAP_CNT,
   SGW_CNT_DECAP_DROP_CNT,
   SGW_CNT_DECAP_SKIP_CNT,
   SGW_CNT_SEQ_GAP_CNT,
   SGW_CNT_TOO_LONG_CNT,
   SGW_CNT_CONVERT_DROP_CNT,
   SGW_CNT_CLR_ALL]

/-- The register fields of the SGW pages (Tables 5-11 and 5-12). -/
def regsSgw : List Fld := regsSgw0

end Sys2Proof.Machine
end

