-- ==== Sys2Proof/Machine/RegsSup.lean ====
section
/-! DEFINITION. The register fields of the SUP pages (Tables 18-6 to 18-12), row by row. -/

namespace Sys2Proof.Machine

/-- Table 18-6, SUP_CTRL.SAFE_RESET_MS. -/
def SUP_CTRL_SAFE_RESET_MS : Fld :=
  { name := "SUP_CTRL.SAFE_RESET_MS", base := 0x1080, lo := 16, width := 16, acc := .rw, whn := .staged, restore := .kept, dflt := fun _ => 0 }

/-- Table 18-6, SUP_CTRL.REGION_RETRY_MS. -/
def SUP_CTRL_REGION_RETRY_MS : Fld :=
  { name := "SUP_CTRL.REGION_RETRY_MS", base := 0x1080, lo := 0, width := 16, acc := .rw, whn := .staged, restore := .kept, dflt := fun _ => 0 }

/-- Table 18-6, SUP_CMD.OP. -/
def SUP_CMD_OP : Fld :=
  { name := "SUP_CMD.OP", base := 0x1084, lo := 28, width := 4, acc := .wo, whn := .live, restore := .literal, dflt := fun _ => 0 }

/-- Table 18-6, SUP_CMD_ARG.TARGET. -/
def SUP_CMD_ARG_TARGET : Fld :=
  { name := "SUP_CMD_ARG.TARGET", base := 0x1088, lo := 0, width := 32, acc := .rw, whn := .live, restore := .literal, dflt := fun _ => 0 }

/-- Table 18-6, SUP_STATUS.CMD_REJECT. -/
def SUP_STATUS_CMD_REJECT : Fld :=
  { name := "SUP_STATUS.CMD_REJECT", base := 0x108c, lo := 9, width := 1, acc := .w1c, whn := .live, restore := .literal, dflt := fun _ => 0 }

/-- Table 18-6, SUP_STATUS.RESET_BUSY. -/
def SUP_STATUS_RESET_BUSY : Fld :=
  { name := "SUP_STATUS.RESET_BUSY", base := 0x108c, lo := 8, width := 1, acc := .ro, whn := .none, restore := .literal, dflt := fun _ => 0 }

/-- Table 18-6, SUP_STATUS.DIE_SAFE. -/
def SUP_STATUS_DIE_SAFE : Fld :=
  { name := "SUP_STATUS.DIE_SAFE", base := 0x108c, lo := 2, width := 1, acc := .ro, whn := .none, restore := .literal, dflt := fun _ => 0 }

/-- Table 18-6, SUP_STATUS.SAFE_SOUTH. -/
def SUP_STATUS_SAFE_SOUTH : Fld :=
  { name := "SUP_STATUS.SAFE_SOUTH", base := 0x108c, lo := 1, width := 1, acc := .ro, whn := .none, restore := .literal, dflt := fun _ => 0 }

/-- Table 18-6, SUP_STATUS.SAFE_NORTH. -/
def SUP_STATUS_SAFE_NORTH : Fld :=
  { name := "SUP_STATUS.SAFE_NORTH", base := 0x108c, lo := 0, width := 1, acc := .ro, whn := .none, restore := .literal, dflt := fun _ => 0 }

/-- Table 18-6, SUP_ESC.AUTO_ACK_MS. -/
def SUP_ESC_AUTO_ACK_MS : Fld :=
  { name := "SUP_ESC.AUTO_ACK_MS", base := 0x1090, lo := 16, width := 16, acc := .rw, whn := .staged, restore := .kept, dflt := fun _ => 100 }

/-- Table 18-6, SUP_ESC.HIST_MIN. -/
def SUP_ESC_HIST_MIN : Fld :=
  { name := "SUP_ESC.HIST_MIN", base := 0x1090, lo := 8, width := 3, acc := .rw, whn := .staged, restore := .kept, dflt := fun _ => 2 }

/-- Table 18-6, SUP_ESC.CEIL. -/
def SUP_ESC_CEIL : Fld :=
  { name := "SUP_ESC.CEIL", base := 0x1090, lo := 0, width := 3, acc := .rw, whn := .staged, restore := .kept, dflt := fun _ => 2 }

/-- Table 18-6, SUP_RESET_CAUSE.DIE. -/
def SUP_RESET_CAUSE_DIE : Fld :=
  { name := "SUP_RESET_CAUSE.DIE", base := 0x1094, lo := 8, width := 4, acc := .ro, whn := .none, restore := .literal, dflt := fun _ => 0 }

/-- Table 18-6, SUP_RESET_CAUSE.START. -/
def SUP_RESET_CAUSE_START : Fld :=
  { name := "SUP_RESET_CAUSE.START", base := 0x1094, lo := 0, width := 4, acc := .ro, whn := .none, restore := .literal, dflt := fun _ => 0 }

/-- Table 18-7, SUP_REC_POP.POP. -/
def SUP_REC_POP_POP : Fld :=
  { name := "SUP_REC_POP.POP", base := 0x2080, lo := 0, width := 1, acc := .w1s, whn := .live, restore := .literal, dflt := fun _ => 0 }

/-- Table 18-7, SUP_REC_SEL.ID. -/
def SUP_REC_SEL_ID : Fld :=
  { name := "SUP_REC_SEL.ID", base := 0x2084, lo := 0, width := 6, acc := .wo, whn := .live, restore := .literal, dflt := fun _ => 0 }

/-- Table 18-7, SUP_REC_ACK.ID. -/
def SUP_REC_ACK_ID : Fld :=
  { name := "SUP_REC_ACK.ID", base := 0x2088, lo := 0, width := 6, acc := .wo, whn := .live, restore := .literal, dflt := fun _ => 0 }

/-- Table 18-7, SUP_REC_STAT.OPEN. -/
def SUP_REC_STAT_OPEN : Fld :=
  { name := "SUP_REC_STAT.OPEN", base := 0x208c, lo := 0, width := 7, acc := .ro, whn := .none, restore := .literal, dflt := fun _ => 0 }

/-- Table 18-7, SUP_REC. -/
def SUP_REC : Fld :=
  { name := "SUP_REC", base := 0x2090, lo := 0, width := 32, acc := .ro, whn := .none, restore := .literal, dflt := fun _ => 0,
    dims := [⟨0, 6, 32⟩] }

/-- Table 18-8, SUP_HIST_HDR.COUNT. -/
def SUP_HIST_HDR_COUNT : Fld :=
  { name := "SUP_HIST_HDR.COUNT", base := 0x3080, lo := 16, width := 10, acc := .ro, whn := .none, restore := .literal, dflt := fun _ => 0 }

/-- Table 18-8, SUP_HIST_HDR.WIDX. -/
def SUP_HIST_HDR_WIDX : Fld :=
  { name := "SUP_HIST_HDR.WIDX", base := 0x3080, lo := 0, width := 10, acc := .ro, whn := .none, restore := .literal, dflt := fun _ => 0 }

/-- Table 18-8, SUP_HIST_SEL.IDX. -/
def SUP_HIST_SEL_IDX : Fld :=
  { name := "SUP_HIST_SEL.IDX", base := 0x3084, lo := 0, width := 10, acc := .rw, whn := .live, restore := .literal, dflt := fun _ => 0 }

/-- Table 18-8, SUP_HIST_PEND.CNT. -/
def SUP_HIST_PEND_CNT : Fld :=
  { name := "SUP_HIST_PEND.CNT", base := 0x3088, lo := 0, width := 5, acc := .ro, whn := .none, restore := .literal, dflt := fun _ => 0 }

/-- Table 18-8, SUP_HIST_DATA. -/
def SUP_HIST_DATA : Fld :=
  { name := "SUP_HIST_DATA", base := 0x30c0, lo := 0, width := 32, acc := .ro, whn := .none, restore := .literal, dflt := fun _ => 0,
    dims := [⟨0, 16, 32⟩] }

/-- Table 18-9, SUP_ST_PERIOD.S. -/
def SUP_ST_PERIOD_S : Fld :=
  { name := "SUP_ST_PERIOD.S", base := 0x4080, lo := 0, width := 16, acc := .rw, whn := .staged, restore := .kept, dflt := fun _ => 3600 }

/-- Table 18-9, SUP_ST_EN_Q_LO.MASK. -/
def SUP_ST_EN_Q_LO_MASK : Fld :=
  { name := "SUP_ST_EN_Q_LO.MASK", base := 0x4084, lo := 0, width := 32, acc := .rw, whn := .staged, restore := .kept, dflt := fun _ => 0 }

/-- Table 18-9, SUP_ST_EN_Q_HI.MASK. -/
def SUP_ST_EN_Q_HI_MASK : Fld :=
  { name := "SUP_ST_EN_Q_HI.MASK", base := 0x4088, lo := 0, width := 32, acc := .rw, whn := .staged, restore := .kept, dflt := fun _ => 0 }

/-- Table 18-9, SUP_ST_EN_LFE_LO.MASK. -/
def SUP_ST_EN_LFE_LO_MASK : Fld :=
  { name := "SUP_ST_EN_LFE_LO.MASK", base := 0x408c, lo := 0, width := 32, acc := .rw, whn := .staged, restore := .kept, dflt := fun _ => 0 }

/-- Table 18-9, SUP_ST_EN_LFE_HI.MASK. -/
def SUP_ST_EN_LFE_HI_MASK : Fld :=
  { name := "SUP_ST_EN_LFE_HI.MASK", base := 0x4090, lo := 0, width := 24, acc := .rw, whn := .staged, restore := .kept, dflt := fun _ => 0 }

/-- Table 18-9, SUP_ST_EN_ENG.MASK. -/
def SUP_ST_EN_ENG_MASK : Fld :=
  { name := "SUP_ST_EN_ENG.MASK", base := 0x4094, lo := 0, width := 13, acc := .rw, whn := .staged, restore := .kept, dflt := fun _ => 0 }

/-- Table 18-9, SUP_ST_REQ.KIND. -/
def SUP_ST_REQ_KIND : Fld :=
  { name := "SUP_ST_REQ.KIND", base := 0x4098, lo := 24, width := 8, acc := .wo, whn := .live, restore := .literal, dflt := fun _ => 0 }

/-- Table 18-9, SUP_ST_REQ.TARGET. -/
def SUP_ST_REQ_TARGET : Fld :=
  { name := "SUP_ST_REQ.TARGET", base := 0x4098, lo := 0, width := 8, acc := .wo, whn := .live, restore := .literal, dflt := fun _ => 0 }

/-- Table 18-10, SUP_ST_SEL.KIND. -/
def SUP_ST_SEL_KIND : Fld :=
  { name := "SUP_ST_SEL.KIND", base := 0x5080, lo := 8, width := 8, acc := .rw, whn := .live, restore := .literal, dflt := fun _ => 0 }

/-- Table 18-10, SUP_ST_SEL.TARGET. -/
def SUP_ST_SEL_TARGET : Fld :=
  { name := "SUP_ST_SEL.TARGET", base := 0x5080, lo := 0, width := 8, acc := .rw, whn := .live, restore := .literal, dflt := fun _ => 0 }

/-- Table 18-10, SUP_ST_RES.RESULT. -/
def SUP_ST_RES_RESULT : Fld :=
  { name := "SUP_ST_RES.RESULT", base := 0x5084, lo := 30, width := 2, acc := .ro, whn := .none, restore := .literal, dflt := fun _ => 0 }

/-- Table 18-10, SUP_ST_RES.OVERDUE. -/
def SUP_ST_RES_OVERDUE : Fld :=
  { name := "SUP_ST_RES.OVERDUE", base := 0x5084, lo := 29, width := 1, acc := .ro, whn := .none, restore := .literal, dflt := fun _ => 0 }

/-- Table 18-10, SUP_ST_RES.SLICE. -/
def SUP_ST_RES_SLICE : Fld :=
  { name := "SUP_ST_RES.SLICE", base := 0x5084, lo := 16, width := 6, acc := .ro, whn := .none, restore := .literal, dflt := fun _ => 0 }

/-- Table 18-10, SUP_ST_RES.AGE_S. -/
def SUP_ST_RES_AGE_S : Fld :=
  { name := "SUP_ST_RES.AGE_S", base := 0x5084, lo := 0, width := 16, acc := .ro, whn := .none, restore := .literal, dflt := fun _ => 0 }

/-- Table 18-10, SUP_ST_FAIL.CELL. -/
def SUP_ST_FAIL_CELL : Fld :=
  { name := "SUP_ST_FAIL.CELL", base := 0x5088, lo := 0, width := 17, acc := .ro, whn := .none, restore := .literal, dflt := fun _ => 0 }

/-- Table 18-10, SUP_ST_FAIL_BIT.BIT. -/
def SUP_ST_FAIL_BIT_BIT : Fld :=
  { name := "SUP_ST_FAIL_BIT.BIT", base := 0x508c, lo := 16, width := 12, acc := .ro, whn := .none, restore := .literal, dflt := fun _ => 0 }

/-- Table 18-10, SUP_ST_FAIL_BIT.COUNT. -/
def SUP_ST_FAIL_BIT_COUNT : Fld :=
  { name := "SUP_ST_FAIL_BIT.COUNT", base := 0x508c, lo := 0, width := 10, acc := .ro, whn := .none, restore := .literal, dflt := fun _ => 0 }

/-- Table 18-10, SUP_REPAIR_CNT.CNT. -/
def SUP_REPAIR_CNT_CNT : Fld :=
  { name := "SUP_REPAIR_CNT.CNT", base := 0x5090, lo := 0, width := 12, acc := .ro, whn := .none, restore := .literal, dflt := fun _ => 0 }

/-- Table 18-11, SUP_ALARM.ACTIVE. -/
def SUP_ALARM_ACTIVE : Fld :=
  { name := "SUP_ALARM.ACTIVE", base := 0x6080, lo := 0, width := 7, acc := .ro, whn := .none, restore := .literal, dflt := fun _ => 0 }

/-- Table 18-11, SUP_ALARM_LATCH.SEEN. -/
def SUP_ALARM_LATCH_SEEN : Fld :=
  { name := "SUP_ALARM_LATCH.SEEN", base := 0x6084, lo := 0, width := 7, acc := .w1c, whn := .live, restore := .literal, dflt := fun _ => 0 }

/-- Table 18-11, SUP_TEMP.LOGIC_C. -/
def SUP_TEMP_LOGIC_C : Fld :=
  { name := "SUP_TEMP.LOGIC_C", base := 0x6088, lo := 16, width := 16, acc := .ro, whn := .none, restore := .literal, dflt := fun _ => 0 }

/-- Table 18-11, SUP_TEMP.IO_C. -/
def SUP_TEMP_IO_C : Fld :=
  { name := "SUP_TEMP.IO_C", base := 0x6088, lo := 0, width := 16, acc := .ro, whn := .none, restore := .literal, dflt := fun _ => 0 }

/-- Table 18-11, SUP_TEMP_CFG.WARN_C. -/
def SUP_TEMP_CFG_WARN_C : Fld :=
  { name := "SUP_TEMP_CFG.WARN_C", base := 0x608c, lo := 0, width := 8, acc := .rw, whn := .staged, restore := .kept, dflt := fun _ => 125 }

/-- Table 18-11, SUP_SCAN.ARM. -/
def SUP_SCAN_ARM : Fld :=
  { name := "SUP_SCAN.ARM", base := 0x6090, lo := 24, width := 8, acc := .wo, whn := .live, restore := .literal, dflt := fun _ => 0 }

/-- Table 18-11, SUP_SCAN.GO. -/
def SUP_SCAN_GO : Fld :=
  { name := "SUP_SCAN.GO", base := 0x6090, lo := 16, width := 1, acc := .w1s, whn := .live, restore := .literal, dflt := fun _ => 0 }

/-- Table 18-11, SUP_SCAN.RESULT. -/
def SUP_SCAN_RESULT : Fld :=
  { name := "SUP_SCAN.RESULT", base := 0x6090, lo := 8, width := 2, acc := .ro, whn := .none, restore := .literal, dflt := fun _ => 0 }

/-- Table 18-11, SUP_SCAN.CHAIN. -/
def SUP_SCAN_CHAIN : Fld :=
  { name := "SUP_SCAN.CHAIN", base := 0x6090, lo := 0, width := 8, acc := .ro, whn := .none, restore := .literal, dflt := fun _ => 0 }

/-- Table 18-12, SUP_CNT_RECORDS.CNT. -/
def SUP_CNT_RECORDS_CNT : Fld :=
  { name := "SUP_CNT_RECORDS.CNT", base := 0x7080, lo := 0, width := 32, acc := .ro, whn := .none, restore := .literal, counter := true, dflt := fun _ => 0 }

/-- Table 18-12, SUP_CNT_REPEAT.CNT. -/
def SUP_CNT_REPEAT_CNT : Fld :=
  { name := "SUP_CNT_REPEAT.CNT", base := 0x7084, lo := 0, width := 32, acc := .ro, whn := .none, restore := .literal, counter := true, dflt := fun _ => 0 }

/-- Table 18-12, SUP_CNT_ESCALATE.CNT. -/
def SUP_CNT_ESCALATE_CNT : Fld :=
  { name := "SUP_CNT_ESCALATE.CNT", base := 0x7088, lo := 0, width := 32, acc := .ro, whn := .none, restore := .literal, counter := true, dflt := fun _ => 0 }

/-- Table 18-12, SUP_CNT_GAP.CNT. -/
def SUP_CNT_GAP_CNT : Fld :=
  { name := "SUP_CNT_GAP.CNT", base := 0x708c, lo := 0, width := 32, acc := .ro, whn := .none, restore := .literal, counter := true, dflt := fun _ => 0 }

/-- Table 18-12, SUP_CNT_SAFE_DROP.CNT. -/
def SUP_CNT_SAFE_DROP_CNT : Fld :=
  { name := "SUP_CNT_SAFE_DROP.CNT", base := 0x7090, lo := 0, width := 32, acc := .ro, whn := .none, restore := .literal, counter := true, dflt := fun _ => 0 }

/-- Table 18-12, SUP_CNT_ST_SLICE.CNT. -/
def SUP_CNT_ST_SLICE_CNT : Fld :=
  { name := "SUP_CNT_ST_SLICE.CNT", base := 0x7094, lo := 0, width := 32, acc := .ro, whn := .none, restore := .literal, counter := true, dflt := fun _ => 0 }

/-- Table 18-12, SUP_CNT_ST_FAIL.CNT. -/
def SUP_CNT_ST_FAIL_CNT : Fld :=
  { name := "SUP_CNT_ST_FAIL.CNT", base := 0x7098, lo := 0, width := 32, acc := .ro, whn := .none, restore := .literal, counter := true, dflt := fun _ => 0 }

/-- Table 18-12, SUP_CNT_ST_LOST.CNT. -/
def SUP_CNT_ST_LOST_CNT : Fld :=
  { name := "SUP_CNT_ST_LOST.CNT", base := 0x709c, lo := 0, width := 32, acc := .ro, whn := .none, restore := .literal, counter := true, dflt := fun _ => 0 }

/-- Table 18-12, SUP_CNT_ALARM.CNT. -/
def SUP_CNT_ALARM_CNT : Fld :=
  { name := "SUP_CNT_ALARM.CNT", base := 0x70a0, lo := 0, width := 32, acc := .ro, whn := .none, restore := .literal, counter := true, dflt := fun _ => 0 }

/-- Table 18-12, SUP_CNT_HIST_DROP.CNT. -/
def SUP_CNT_HIST_DROP_CNT : Fld :=
  { name := "SUP_CNT_HIST_DROP.CNT", base := 0x70a4, lo := 0, width := 32, acc := .ro, whn := .none, restore := .literal, counter := true, dflt := fun _ => 0 }

/-- Table 18-12, SUP_CNT_CLR.ALL. -/
def SUP_CNT_CLR_ALL : Fld :=
  { name := "SUP_CNT_CLR.ALL", base := 0x70c0, lo := 0, width := 1, acc := .w1s, whn := .live, restore := .literal, dflt := fun _ => 0 }

/-- The fields above, part 0. -/
def regsSup0 : List Fld :=
  [SUP_CTRL_SAFE_RESET_MS,
   SUP_CTRL_REGION_RETRY_MS,
   SUP_CMD_OP,
   SUP_CMD_ARG_TARGET,
   SUP_STATUS_CMD_REJECT,
   SUP_STATUS_RESET_BUSY,
   SUP_STATUS_DIE_SAFE,
   SUP_STATUS_SAFE_SOUTH,
   SUP_STATUS_SAFE_NORTH,
   SUP_ESC_AUTO_ACK_MS,
   SUP_ESC_HIST_MIN,
   SUP_ESC_CEIL,
   SUP_RESET_CAUSE_DIE,
   SUP_RESET_CAUSE_START,
   SUP_REC_POP_POP,
   SUP_REC_SEL_ID,
   SUP_REC_ACK_ID,
   SUP_REC_STAT_OPEN,
   SUP_REC,
   SUP_HIST_HDR_COUNT,
   SUP_HIST_HDR_WIDX,
   SUP_HIST_SEL_IDX,
   SUP_HIST_PEND_CNT,
   SUP_HIST_DATA,
   SUP_ST_PERIOD_S,
   SUP_ST_EN_Q_LO_MASK,
   SUP_ST_EN_Q_HI_MASK,
   SUP_ST_EN_LFE_LO_MASK,
   SUP_ST_EN_LFE_HI_MASK,
   SUP_ST_EN_ENG_MASK,
   SUP_ST_REQ_KIND,
   SUP_ST_REQ_TARGET,
   SUP_ST_SEL_KIND,
   SUP_ST_SEL_TARGET,
   SUP_ST_RES_RESULT,
   SUP_ST_RES_OVERDUE,
   SUP_ST_RES_SLICE,
   SUP_ST_RES_AGE_S,
   SUP_ST_FAIL_CELL,
   SUP_ST_FAIL_BIT_BIT]

/-- The fields above, part 1. -/
def regsSup1 : List Fld :=
  [SUP_ST_FAIL_BIT_COUNT,
   SUP_REPAIR_CNT_CNT,
   SUP_ALARM_ACTIVE,
   SUP_ALARM_LATCH_SEEN,
   SUP_TEMP_LOGIC_C,
   SUP_TEMP_IO_C,
   SUP_TEMP_CFG_WARN_C,
   SUP_SCAN_ARM,
   SUP_SCAN_GO,
   SUP_SCAN_RESULT,
   SUP_SCAN_CHAIN,
   SUP_CNT_RECORDS_CNT,
   SUP_CNT_REPEAT_CNT,
   SUP_CNT_ESCALATE_CNT,
   SUP_CNT_GAP_CNT,
   SUP_CNT_SAFE_DROP_CNT,
   SUP_CNT_ST_SLICE_CNT,
   SUP_CNT_ST_FAIL_CNT,
   SUP_CNT_ST_LOST_CNT,
   SUP_CNT_ALARM_CNT,
   SUP_CNT_HIST_DROP_CNT,
   SUP_CNT_CLR_ALL]

/-- The register fields of the SUP pages (Tables 18-6 to 18-12). -/
def regsSup : List Fld := regsSup0 ++ regsSup1

end Sys2Proof.Machine
end

