-- ==== Sys2Proof/Machine/RegsTid.lean ====
section
/-! DEFINITION. The register fields of the TID pages (Tables 3-10 to 3-12), row by row. -/

namespace Sys2Proof.Machine

/-- Table 3-10, TID_CTRL.AUTO_COMMIT. -/
def TID_CTRL_AUTO_COMMIT : Fld :=
  { name := "TID_CTRL.AUTO_COMMIT", base := 0xa0080, lo := 2, width := 1, acc := .rw, whn := .staged, restore := .kept, dflt := fun _ => 0 }

/-- Table 3-10, TID_CTRL.FREE_RUN. -/
def TID_CTRL_FREE_RUN : Fld :=
  { name := "TID_CTRL.FREE_RUN", base := 0xa0080, lo := 1, width := 1, acc := .rw, whn := .staged, restore := .kept, dflt := fun _ => 0 }

/-- Table 3-10, TID_CTRL.RUN. -/
def TID_CTRL_RUN : Fld :=
  { name := "TID_CTRL.RUN", base := 0xa0080, lo := 0, width := 1, acc := .rw, whn := .staged, restore := .kept, dflt := fun _ => 0 }

/-- Table 3-10, TID_CMD.OP. -/
def TID_CMD_OP : Fld :=
  { name := "TID_CMD.OP", base := 0xa0084, lo := 0, width := 4, acc := .wo, whn := .live, restore := .literal, dflt := fun _ => 0 }

/-- Table 3-10, TID_STATUS.VERIFY_CODE. -/
def TID_STATUS_VERIFY_CODE : Fld :=
  { name := "TID_STATUS.VERIFY_CODE", base := 0xa0088, lo := 24, width := 8, acc := .ro, whn := .none, restore := .literal, dflt := fun _ => 0 }

/-- Table 3-10, TID_STATUS.CMD_REJECT. -/
def TID_STATUS_CMD_REJECT : Fld :=
  { name := "TID_STATUS.CMD_REJECT", base := 0xa0088, lo := 19, width := 1, acc := .w1c, whn := .live, restore := .literal, dflt := fun _ => 0 }

/-- Table 3-10, TID_STATUS.COMMIT_BUSY. -/
def TID_STATUS_COMMIT_BUSY : Fld :=
  { name := "TID_STATUS.COMMIT_BUSY", base := 0xa0088, lo := 18, width := 1, acc := .ro, whn := .none, restore := .literal, dflt := fun _ => 0 }

/-- Table 3-10, TID_STATUS.COMMIT_RESULT. -/
def TID_STATUS_COMMIT_RESULT : Fld :=
  { name := "TID_STATUS.COMMIT_RESULT", base := 0xa0088, lo := 16, width := 2, acc := .ro, whn := .none, restore := .literal, dflt := fun _ => 0 }

/-- Table 3-10, TID_STATUS.SHADOW. -/
def TID_STATUS_SHADOW : Fld :=
  { name := "TID_STATUS.SHADOW", base := 0xa0088, lo := 8, width := 4, acc := .ro, whn := .none, restore := .literal, dflt := fun _ => 0 }

/-- Table 3-10, TID_STATUS.EXEC. -/
def TID_STATUS_EXEC : Fld :=
  { name := "TID_STATUS.EXEC", base := 0xa0088, lo := 0, width := 4, acc := .ro, whn := .none, restore := .literal, dflt := fun _ => 0 }

/-- Table 3-10, TID_ANCHOR_NS.NS. -/
def TID_ANCHOR_NS_NS : Fld :=
  { name := "TID_ANCHOR_NS.NS", base := 0xa008c, lo := 0, width := 32, acc := .rw, whn := .staged, restore := .kept, dflt := fun _ => 0 }

/-- Table 3-10, TID_ANCHOR_S_LO.S. -/
def TID_ANCHOR_S_LO_S : Fld :=
  { name := "TID_ANCHOR_S_LO.S", base := 0xa0090, lo := 0, width := 32, acc := .rw, whn := .staged, restore := .kept, dflt := fun _ => 0 }

/-- Table 3-10, TID_ANCHOR_S_HI.S. -/
def TID_ANCHOR_S_HI_S : Fld :=
  { name := "TID_ANCHOR_S_HI.S", base := 0xa0094, lo := 0, width := 16, acc := .rw, whn := .staged, restore := .kept, dflt := fun _ => 0 }

/-- Table 3-10, TID_SWAP_CFG.MAX_WAIT. -/
def TID_SWAP_CFG_MAX_WAIT : Fld :=
  { name := "TID_SWAP_CFG.MAX_WAIT", base := 0xa0098, lo := 0, width := 8, acc := .rw, whn := .staged, restore := .kept, dflt := fun _ => 4 }

/-- Table 3-10, TID_MIN_SEQ.SEQ. -/
def TID_MIN_SEQ_SEQ : Fld :=
  { name := "TID_MIN_SEQ.SEQ", base := 0xa009c, lo := 0, width := 32, acc := .rw, whn := .locked, restore := .kept, dflt := fun _ => 0 }

/-- Table 3-10, TID_SNAP_STROKE_LO.N. -/
def TID_SNAP_STROKE_LO_N : Fld :=
  { name := "TID_SNAP_STROKE_LO.N", base := 0xa00a0, lo := 0, width := 32, acc := .ro, whn := .none, restore := .literal, dflt := fun _ => 0 }

/-- Table 3-10, TID_SNAP_STROKE_HI.N. -/
def TID_SNAP_STROKE_HI_N : Fld :=
  { name := "TID_SNAP_STROKE_HI.N", base := 0xa00a4, lo := 0, width := 16, acc := .ro, whn := .none, restore := .literal, dflt := fun _ => 0 }

/-- Table 3-10, TID_SNAP_INDEX.S. -/
def TID_SNAP_INDEX_S : Fld :=
  { name := "TID_SNAP_INDEX.S", base := 0xa00a8, lo := 0, width := 17, acc := .ro, whn := .none, restore := .literal, dflt := fun _ => 0 }

/-- Table 3-10, TID_SNAP_TIDES.CNT. -/
def TID_SNAP_TIDES_CNT : Fld :=
  { name := "TID_SNAP_TIDES.CNT", base := 0xa00ac, lo := 0, width := 32, acc := .ro, whn := .none, restore := .literal, dflt := fun _ => 0 }

/-- Table 3-10, TID_BASE_LO.N. -/
def TID_BASE_LO_N : Fld :=
  { name := "TID_BASE_LO.N", base := 0xa00b0, lo := 0, width := 32, acc := .ro, whn := .none, restore := .literal, dflt := fun _ => 0 }

/-- Table 3-10, TID_BASE_HI.N. -/
def TID_BASE_HI_N : Fld :=
  { name := "TID_BASE_HI.N", base := 0xa00b4, lo := 0, width := 16, acc := .ro, whn := .none, restore := .literal, dflt := fun _ => 0 }

/-- Table 3-10, TID_ACT_LEN.L. -/
def TID_ACT_LEN_L : Fld :=
  { name := "TID_ACT_LEN.L", base := 0xa00c0, lo := 0, width := 32, acc := .ro, whn := .none, restore := .literal, dflt := fun _ => 0 }

/-- Table 3-10, TID_ACT_SEQ.SEQ. -/
def TID_ACT_SEQ_SEQ : Fld :=
  { name := "TID_ACT_SEQ.SEQ", base := 0xa00c4, lo := 0, width := 32, acc := .ro, whn := .none, restore := .literal, dflt := fun _ => 0 }

/-- Table 3-10, TID_ACT_CRC.CRC. -/
def TID_ACT_CRC_CRC : Fld :=
  { name := "TID_ACT_CRC.CRC", base := 0xa00c8, lo := 0, width := 32, acc := .ro, whn := .none, restore := .literal, dflt := fun _ => 0 }

/-- Table 3-10, TID_ACT_ACTIONS.CNT. -/
def TID_ACT_ACTIONS_CNT : Fld :=
  { name := "TID_ACT_ACTIONS.CNT", base := 0xa00cc, lo := 0, width := 32, acc := .ro, whn := .none, restore := .literal, dflt := fun _ => 0 }

/-- Table 3-10, TID_SHD_LEN.L. -/
def TID_SHD_LEN_L : Fld :=
  { name := "TID_SHD_LEN.L", base := 0xa00d0, lo := 0, width := 32, acc := .ro, whn := .none, restore := .literal, dflt := fun _ => 0 }

/-- Table 3-10, TID_SHD_SEQ.SEQ. -/
def TID_SHD_SEQ_SEQ : Fld :=
  { name := "TID_SHD_SEQ.SEQ", base := 0xa00d4, lo := 0, width := 32, acc := .ro, whn := .none, restore := .literal, dflt := fun _ => 0 }

/-- Table 3-10, TID_SHD_CRC.CRC. -/
def TID_SHD_CRC_CRC : Fld :=
  { name := "TID_SHD_CRC.CRC", base := 0xa00d8, lo := 0, width := 32, acc := .ro, whn := .none, restore := .literal, dflt := fun _ => 0 }

/-- Table 3-10, TID_SHD_ACTIONS.CNT. -/
def TID_SHD_ACTIONS_CNT : Fld :=
  { name := "TID_SHD_ACTIONS.CNT", base := 0xa00dc, lo := 0, width := 32, acc := .ro, whn := .none, restore := .literal, dflt := fun _ => 0 }

/-- Table 3-10, TID_VERIFY_OFS.OFS. -/
def TID_VERIFY_OFS_OFS : Fld :=
  { name := "TID_VERIFY_OFS.OFS", base := 0xa00e0, lo := 0, width := 32, acc := .ro, whn := .none, restore := .literal, dflt := fun _ => 0 }

/-- Table 3-10, TID_ACT_VTAG.TAG. -/
def TID_ACT_VTAG_TAG : Fld :=
  { name := "TID_ACT_VTAG.TAG", base := 0xa00e4, lo := 0, width := 32, acc := .ro, whn := .none, restore := .literal, dflt := fun _ => 0,
    dims := [⟨0, 4, 32⟩] }

/-- Table 3-11, TID_LOAD_ADDR.ADDR. -/
def TID_LOAD_ADDR_ADDR : Fld :=
  { name := "TID_LOAD_ADDR.ADDR", base := 0xa1080, lo := 2, width := 20, acc := .rw, whn := .live, restore := .literal, dflt := fun _ => 0 }

/-- Table 3-11, TID_LOAD_DATA.DATA. -/
def TID_LOAD_DATA_DATA : Fld :=
  { name := "TID_LOAD_DATA.DATA", base := 0xa1084, lo := 0, width := 32, acc := .rw, whn := .live, restore := .literal, dflt := fun _ => 0 }

/-- Table 3-11, TID_FETCH_ADDR_LO.ADDR. -/
def TID_FETCH_ADDR_LO_ADDR : Fld :=
  { name := "TID_FETCH_ADDR_LO.ADDR", base := 0xa1088, lo := 6, width := 26, acc := .rw, whn := .live, restore := .literal, dflt := fun _ => 0 }

/-- Table 3-11, TID_FETCH_ADDR_HI.ADDR. -/
def TID_FETCH_ADDR_HI_ADDR : Fld :=
  { name := "TID_FETCH_ADDR_HI.ADDR", base := 0xa108c, lo := 0, width := 32, acc := .rw, whn := .live, restore := .literal, dflt := fun _ => 0 }

/-- Table 3-11, TID_FETCH_LEN.LEN. -/
def TID_FETCH_LEN_LEN : Fld :=
  { name := "TID_FETCH_LEN.LEN", base := 0xa1090, lo := 0, width := 23, acc := .rw, whn := .live, restore := .literal, dflt := fun _ => 0 }

/-- Table 3-11, TID_FETCH_STAT.ERR. -/
def TID_FETCH_STAT_ERR : Fld :=
  { name := "TID_FETCH_STAT.ERR", base := 0xa1094, lo := 31, width := 1, acc := .w1c, whn := .live, restore := .literal, dflt := fun _ => 0 }

/-- Table 3-11, TID_FETCH_STAT.DONE. -/
def TID_FETCH_STAT_DONE : Fld :=
  { name := "TID_FETCH_STAT.DONE", base := 0xa1094, lo := 0, width := 23, acc := .ro, whn := .none, restore := .literal, dflt := fun _ => 0 }

/-- Table 3-12, TID_CNT_LATE_EMIT.CNT. -/
def TID_CNT_LATE_EMIT_CNT : Fld :=
  { name := "TID_CNT_LATE_EMIT.CNT", base := 0xa2080, lo := 0, width := 32, acc := .ro, whn := .none, restore := .literal, counter := true, dflt := fun _ => 0 }

/-- Table 3-12, TID_CNT_LATE_ARRIVAL.CNT. -/
def TID_CNT_LATE_ARRIVAL_CNT : Fld :=
  { name := "TID_CNT_LATE_ARRIVAL.CNT", base := 0xa2084, lo := 0, width := 32, acc := .ro, whn := .none, restore := .literal, counter := true, dflt := fun _ => 0 }

/-- Table 3-12, TID_CNT_FLUSH.CNT. -/
def TID_CNT_FLUSH_CNT : Fld :=
  { name := "TID_CNT_FLUSH.CNT", base := 0xa2088, lo := 0, width := 32, acc := .ro, whn := .none, restore := .literal, counter := true, dflt := fun _ => 0 }

/-- Table 3-12, TID_CNT_CHECK_MISS.CNT. -/
def TID_CNT_CHECK_MISS_CNT : Fld :=
  { name := "TID_CNT_CHECK_MISS.CNT", base := 0xa208c, lo := 0, width := 32, acc := .ro, whn := .none, restore := .literal, counter := true, dflt := fun _ => 0 }

/-- Table 3-12, TID_CNT_SWAP.CNT. -/
def TID_CNT_SWAP_CNT : Fld :=
  { name := "TID_CNT_SWAP.CNT", base := 0xa2090, lo := 0, width := 32, acc := .ro, whn := .none, restore := .literal, counter := true, dflt := fun _ => 0 }

/-- Table 3-12, TID_CNT_SWAP_FAIL.CNT. -/
def TID_CNT_SWAP_FAIL_CNT : Fld :=
  { name := "TID_CNT_SWAP_FAIL.CNT", base := 0xa2094, lo := 0, width := 32, acc := .ro, whn := .none, restore := .literal, counter := true, dflt := fun _ => 0 }

/-- Table 3-12, TID_CNT_HALT.CNT. -/
def TID_CNT_HALT_CNT : Fld :=
  { name := "TID_CNT_HALT.CNT", base := 0xa2098, lo := 0, width := 32, acc := .ro, whn := .none, restore := .literal, counter := true, dflt := fun _ => 0 }

/-- Table 3-12, TID_CNT_WINDOW_SKIP.CNT. -/
def TID_CNT_WINDOW_SKIP_CNT : Fld :=
  { name := "TID_CNT_WINDOW_SKIP.CNT", base := 0xa209c, lo := 0, width := 32, acc := .ro, whn := .none, restore := .literal, counter := true, dflt := fun _ => 0 }

/-- Table 3-12, TID_CNT_CLR.ALL. -/
def TID_CNT_CLR_ALL : Fld :=
  { name := "TID_CNT_CLR.ALL", base := 0xa20c0, lo := 0, width := 1, acc := .w1s, whn := .live, restore := .literal, dflt := fun _ => 0 }

/-- The fields above, part 0. -/
def regsTid0 : List Fld :=
  [TID_CTRL_AUTO_COMMIT,
   TID_CTRL_FREE_RUN,
   TID_CTRL_RUN,
   TID_CMD_OP,
   TID_STATUS_VERIFY_CODE,
   TID_STATUS_CMD_REJECT,
   TID_STATUS_COMMIT_BUSY,
   TID_STATUS_COMMIT_RESULT,
   TID_STATUS_SHADOW,
   TID_STATUS_EXEC,
   TID_ANCHOR_NS_NS,
   TID_ANCHOR_S_LO_S,
   TID_ANCHOR_S_HI_S,
   TID_SWAP_CFG_MAX_WAIT,
   TID_MIN_SEQ_SEQ,
   TID_SNAP_STROKE_LO_N,
   TID_SNAP_STROKE_HI_N,
   TID_SNAP_INDEX_S,
   TID_SNAP_TIDES_CNT,
   TID_BASE_LO_N,
   TID_BASE_HI_N,
   TID_ACT_LEN_L,
   TID_ACT_SEQ_SEQ,
   TID_ACT_CRC_CRC,
   TID_ACT_ACTIONS_CNT,
   TID_SHD_LEN_L,
   TID_SHD_SEQ_SEQ,
   TID_SHD_CRC_CRC,
   TID_SHD_ACTIONS_CNT,
   TID_VERIFY_OFS_OFS,
   TID_ACT_VTAG_TAG,
   TID_LOAD_ADDR_ADDR,
   TID_LOAD_DATA_DATA,
   TID_FETCH_ADDR_LO_ADDR,
   TID_FETCH_ADDR_HI_ADDR,
   TID_FETCH_LEN_LEN,
   TID_FETCH_STAT_ERR,
   TID_FETCH_STAT_DONE,
   TID_CNT_LATE_EMIT_CNT,
   TID_CNT_LATE_ARRIVAL_CNT]

/-- The fields above, part 1. -/
def regsTid1 : List Fld :=
  [TID_CNT_FLUSH_CNT,
   TID_CNT_CHECK_MISS_CNT,
   TID_CNT_SWAP_CNT,
   TID_CNT_SWAP_FAIL_CNT,
   TID_CNT_HALT_CNT,
   TID_CNT_WINDOW_SKIP_CNT,
   TID_CNT_CLR_ALL]

/-- The register fields of the TID pages (Tables 3-10 to 3-12). -/
def regsTid : List Fld := regsTid0 ++ regsTid1

end Sys2Proof.Machine
end

