-- ==== Sys2Proof/Machine/StBridge.lean ====
section
/-! DEFINITION. The state of the host bridge and the management port that no register shows (chapter 16). -/

namespace Sys2Proof.Machine

/-- A receive buffer taken for a frame (R570): HEAD value and TAG of its descriptor, its address and length, and the bytes written. -/
structure RxBuf where
  idx : Nat
  tag : Nat
  addr : Nat
  size : Nat
  used : Nat := 0
  deriving DecidableEq, Repr

/-- The frame that IQ0 is writing: its record, its ring pair, its buffers in order. -/
structure RxJob where
  item : QItem
  pair : Nat
  bufs : List RxBuf := []
  deriving DecidableEq, Repr

/-- The transmit descriptor in progress (R576–R578): its bytes, HEAD value, the elapsed ns of the frame's read, and its completion once the
frame has landed or failed. -/
structure TxJob where
  desc : List Nat
  idx : Nat
  at_ : Nat
  result : Option CqEntry := none
  deriving DecidableEq, Repr

/-- A ring pair. -/
structure PairSt where
  tx : Option TxJob := none
  /-- The DMA completion queue (R582), and the direction of the entry that its gap marker stands for. -/
  cq : CQueue CqEntry := {}
  gapRx : Bool := false
  /-- Entries written since the last message, and the elapsed ns of the first of them (R581). -/
  fresh : Nat := 0
  freshAt : Option Nat := none
  deriving DecidableEq, Repr

/-- The host bridge and the management port. -/
structure HbrSt where
  rx : Option RxJob := none
  pairs : SMap PairSt := []
  /-- The pair that the transmit side serves next (R576). -/
  rr : Nat := 0
  /-- Elapsed ns at which each held semaphore was taken (R566). -/
  semAt : SMap Nat := []
  /-- The master that wins the next tie (R565). -/
  tie : Master := .host
  /-- Whether the next word popped of a completion queue is uncorrected (R596). -/
  cqBad : Bool := false
  /-- Whether the next Fearlek frame meets an uncorrected word in the frame buffer (R598). -/
  frameBad : Bool := false
  deriving DecidableEq, Repr

end Sys2Proof.Machine
end

