-- ==== Sys2Proof/Machine/StClock.lean ====
section
/-! DEFINITION. The state of the harbour clock that no register shows (chapter 12). -/

namespace Sys2Proof.Machine

/-- A pending step (R425): its kind (0 STEP, 1 STEP_PPS, 2 automatic), Δ in units of 2⁻¹⁶ ns, the elapsed ns at which it fell due (`none`
while a STEP_PPS waits for its edge), and the target second of a STEP_PPS. -/
structure StepReq where
  kind : Nat
  delta : Int := 0
  due : Option Nat := none
  target : Nat := 0
  deriving DecidableEq, Repr

/-- An entry of a capture queue (R452–R454). -/
structure CapEntry where
  stamp : Nat
  miss : Bool := false
  rise : Bool := false
  deriving DecidableEq, Repr

/-- What the time engine keeps of a domain (R444–R446): offset of the domain time to harbour time and interval of the last Sync in units of
2⁻¹⁶ ns, its receive stamp, and the multiple of its interval at which a grandmaster domain last sent. -/
structure DomSt where
  ofs : Int := 0
  lastRx : Option Nat := none
  interval : Nat := 0
  /-- Elapsed ns of the last Sync. -/
  seenAt : Nat := 0
  sent : Option Nat := none
  deriving DecidableEq, Repr

/-- What the time engine keeps of a CAN time entry (R450, R451): SEC and SEQ of the SYNC written, whether its stamp is still awaited, and
the arrival of the boundary before which no cell was free. -/
structure CantSt where
  sec : Nat := 0
  seq : Nat := 0
  waits : Bool := false
  retryFrom : Option Nat := none
  deriving DecidableEq, Repr

/-- A capture window (R453): when it opened and when it last closed, as stamps. -/
structure CapWin where
  from_ : Nat := 0
  closed : Option Nat := none
  deriving DecidableEq, Repr

/-- A trigger edge issued and not yet driven (R456): output, level, the action's time and the pin time in harbour units. -/
structure TrigEdge where
  output : Nat
  level : Nat
  at_ : Nat
  pin : Int
  deriving DecidableEq, Repr

/-- The harbour clock. -/
structure HckSt where
  step : Option StepReq := none
  /-- Elapsed ns at which an EPOCH_RESTART was accepted (R427). -/
  epochAt : Option Nat := none
  /-- Whether the automatic step of Table 12-2 is armed. -/
  autoArmed : Bool := true
  /-- Consecutive measurements with |e| ≤ LOCK_NS (R431). -/
  run : Nat := 0
  /-- Elapsed ns and nominal interval of the last measurement (sync loss). -/
  lastMeas : Option (Nat × Nat) := none
  /-- The last gmTimeBaseIndicator, sourcePortIdentity and grandmasterIdentity of the working domain (R431). -/
  gmTbi : Option Nat := none
  gmPort : Option Nat := none
  gmId : Option Nat := none
  /-- Consecutive frames failing the cross-check, by quay (R436). -/
  xrun : SMap Nat := []
  /-- Quays whose cross-check is made to fail for every frame (Table 12-16). -/
  xforce : List Nat := []
  caps : SMap (CQueue CapEntry) := []
  /-- Capture windows of the inputs. -/
  wins : SMap CapWin := []
  /-- Inputs whose open window has stamped an edge (R453). -/
  stamped : List Nat := []
  edges : List TrigEdge := []
  doms : SMap DomSt := []
  /-- Failed exchanges in a row, by quay (R442). -/
  lost : SMap Nat := []
  /-- Elapsed ns at which a quay's last Pdelay exchange began, and the quays with an exchange under way (R442). -/
  pdelayAt : SMap Nat := []
  pdelay : List Nat := []
  /-- The last pair (t3, t4) of a quay's successful exchanges, from which neighborRateRatio follows. -/
  pdelayLast : SMap (Nat × Nat) := []
  /-- The boundary, as a stamp, from which FB_ACTIVE of a quay holds (R435). -/
  fbSince : SMap Nat := []
  /-- The last corrected stamp of a quay (key 2 q, or 2 q + 1 for receive), as R421 returns it. -/
  stamps : SMap Nat := []
  cant : SMap CantSt := []
  /-- Whether the next message of the time engine meets an uncorrected error in message memory (Table 12-15, code 0x04). -/
  msgBad : Bool := false
  /-- Harbour ns at which the present PPS_OUT pulse began. -/
  ppsFrom : Option Nat := none
  deriving DecidableEq, Repr

end Sys2Proof.Machine
end

