-- ==== Sys2Proof/Machine/StCrypto.lean ====
section
/-! DEFINITION. The state of the log recorder, the cipher engine and the key well that no register shows (chapters 13, 14 and 15). -/

namespace Sys2Proof.Machine

/-! ### Key well -/

/-- A key slot (Table 15-1). STATE is 0 EMPTY, 1 VALID or 3 ERASED; ORPHANED is computed (R528). `dirty` marks a change not yet
committed. -/
structure KwlSlot where
  state : Nat := 0
  cls : Nat := 0
  use : Nat := 0
  flags : Nat := 0
  parent : Nat := 0
  level : Nat := 0
  gen : Nat := 0
  pgen : Nat := 0
  label : List Nat := []
  context : List Nat := []
  attr : List Nat := []
  key : List Nat := []
  dirty : Bool := false
  deriving DecidableEq, Repr

/-- A DERIVE or IMPORT under way (R530, R531), with the staging registers as they stood at acceptance. -/
structure KwlCmd where
  derive_ : Bool
  slot : Nat
  parent : Nat
  cfg : KwlSlot
  at_ : Nat
  deriving DecidableEq, Repr

/-- A journal in the retained store (R545). -/
structure Journal where
  seq : Nat := 0
  valid : Bool := false
  /-- Its last write was cut short (R549). -/
  broken : Bool := false
  recs : List (Nat × KwlSlot) := []
  deriving DecidableEq, Repr

/-- A retained commit of the key well (R546, R547): the records of the snapshot not yet journalled, the records of the present journal and
which journal holds it, whether phase 1 is done, and which 64 KiB pieces of the slot table are left. -/
structure KwlCommit where
  left : List (Nat × KwlSlot)
  recs : List (Nat × KwlSlot)
  journal : Nat
  seq : Nat
  pieces : List Nat := []
  deriving DecidableEq, Repr

/-- A root copy in the retained store (R521): its sequence number and two shares whose XOR is the root. -/
structure RootCopy where
  seq : Nat
  share0 : List Nat
  share1 : List Nat
  deriving DecidableEq, Repr

/-- What the key well keeps in the retained store (R521, R545): two root copies with their sequence numbers, the slot table and two
journals. -/
structure KwlRet where
  rootA : Option RootCopy := none
  rootB : Option RootCopy := none
  /-- Whether a root copy has ever been written. -/
  used : Bool := false
  table : SMap KwlSlot := []
  j0 : Journal := {}
  j1 : Journal := {}
  deriving DecidableEq, Repr

/-- The key well. -/
structure KwlSt where
  /-- The working copy. Slot 0 holds the root, whose key is empty until one is committed or restored. -/
  slots : SMap KwlSlot := []
  /-- A root drawn and not yet committed (R523). -/
  newRoot : Option (List Nat) := none
  cmd : Option KwlCmd := none
  commit : Option KwlCommit := none
  /-- Whether a commit is to follow the one that runs (R539). -/
  again : Bool := false
  /-- Health test failures in a row (R541). -/
  fails : Nat := 0
  /-- The slot that the orphan sweep visits next, and the arrival of the boundary it visited last (R538). -/
  sweep : Nat := 0
  sweptAt : Option Nat := none
  /-- The mask key, the pass counter and the arrival of the boundary at which the key was drawn (R540). -/
  maskKey : Nat := 0
  maskPass : Nat := 0
  maskAt : Option Nat := none
  /-- Whether the derivation engine's next command meets a fault (R554). -/
  engineBad : Bool := false
  /-- Whether the next key load meets an uncorrected error (R554). -/
  slotBad : Bool := false
  /-- Whether a self-test slice runs (R659). -/
  testing : Bool := false
  ret : KwlRet := {}
  deriving DecidableEq, Repr

/-! ### Cipher engine -/

/-- A traffic job (R489–R491): its record's item, whether it protects, its freshness value, the descriptor's sequence, and the harbour time of
its admission. -/
structure CphJob where
  item : QItem
  protect : Bool
  fv : Nat
  admitted : Nat
  deriving DecidableEq, Repr

/-- A host job as its GO write copies the job registers (R513). -/
structure HostJob where
  op : Nat
  mode : Nat
  intake : Bool
  tagLen : Nat
  slot : Nat
  len : Nat
  aad : Nat
  src : Nat
  dst : Nat
  iv : List Nat
  tagIn : List Nat
  tag : Nat
  at_ : Nat
  deriving DecidableEq, Repr

/-- What a lane runs. -/
inductive LaneJob where
  /-- A traffic job, the key and generation it took, and the output frame of a provisional continuation. -/
  | traffic (j : CphJob) (key : List Nat) (attr : List Nat) (gen : Nat) (out : Option Nat)
  /-- A host job, its key, whether that is of custody class, and its slot's generation. -/
  | host (j : HostJob) (key : List Nat) (custody : Bool) (gen : Nat)
  deriving DecidableEq, Repr

/-- A host job's result (Table 14-5). -/
structure HostRes where
  status : Nat
  tag : Nat
  iv : List Nat := []
  mac : List Nat := []
  deriving DecidableEq, Repr

/-- A cipher lane. -/
structure Lane where
  job : Option LaneJob := none
  /-- Harbour time at which the job started. -/
  started : Nat := 0
  /-- The key register: slot and generation of a traffic-class key, which the next load may find (R501). -/
  keyReg : Option (Nat × Nat) := none
  /-- The intake buffer: key and CUSTODY. -/
  intake : Option (List Nat × Bool) := none
  queue : List HostJob := []
  results : CQueue HostRes := {}
  /-- Comparison failures in the present stroke (R506). -/
  cmpFails : Nat := 0
  /-- Whether the next job's comparison fails (R519). -/
  cmpBad : Bool := false
  /-- Whether a self-test slice runs (R659). -/
  testing : Bool := false
  deriving DecidableEq, Repr

/-- A finished traffic job that waits for earlier jobs of its berth (R492): its output, or none where nothing is issued. -/
structure DoneJob where
  job : CphJob
  bytes : List Nat
  medium : Nat
  authOk : Bool
  scheduled : Bool
  deriving DecidableEq, Repr

/-- The cipher engine. -/
structure CphSt where
  jobs : CQueue CphJob := {}
  lanes : SMap Lane := []
  done : List DoneJob := []
  /-- Whether the next job word fails its check (R519). -/
  wordBad : Bool := false
  deriving DecidableEq, Repr

/-! ### Log recorder -/

/-- A record in the record buffer: its common header's fields but SEQ, its body, and what the CMP format needs of a frame record. -/
structure LogRec where
  ty : Nat
  port : Nat := 0xFF
  tx : Bool := false
  status : Nat := 0
  stamp : Nat
  fb : Bool := false
  body : List Nat
  medium : Nat := 3
  data : List Nat := []
  deriving DecidableEq, Repr

/-- A port's summary accumulator (R480). -/
structure LogSum where
  dirs : Nat := 0
  count : Nat := 0
  notOk : Nat := 0
  bytes : Nat := 0
  first : Nat := 0
  last : Nat := 0
  deriving DecidableEq, Repr

/-- The seal in progress (R482): its key with slot and generation, the TAG of the previous seal, the bytes covered so far, the first SEQ, how
many records, and the elapsed ns of the first. -/
structure SealSt where
  key : Option (List Nat × Nat × Nat) := none
  chain : List Nat := []
  bytes : List Nat := []
  firstSeq : Nat := 0
  recs : Nat := 0
  since : Option Nat := none
  /-- SEAL_NOW waits for room. -/
  asked : Bool := false
  deriving DecidableEq, Repr

/-- The log recorder. -/
structure LogSt where
  /-- Records queued, oldest first. -/
  buf : List LogRec := []
  sums : SMap LogSum := []
  /-- Records packed for the next log frame, with the elapsed ns of the first (R477). -/
  frame : List Nat := []
  frameAt : Option Nat := none
  /-- Records written to the ring and not yet announced, with the elapsed ns of the first (R476). -/
  fresh : Nat := 0
  freshAt : Option Nat := none
  /-- Whether the present coalescing unit or log frame has its CMP header. -/
  unitOpen : Bool := false
  sealing : SealSt := {}
  /-- Whether the seal core meets a fault (R487). -/
  sealBad : Bool := false
  deriving DecidableEq, Repr

end Sys2Proof.Machine
end

