-- ==== Sys2Proof/Machine/StQuay.lean ====
section
/-! DEFINITION. The state of quays, line front ends, segments and the wake record that no register shows (chapters 9, 10, 11
and 17). -/

namespace Sys2Proof.Machine

/-- The fields of a message buffer that hardware updates (R340): its stamp is in units of 2⁻¹⁶ ns. -/
structure MbView where
  state : Nat := 0
  result : Nat := 0
  attempts : Nat := 0
  stamp : Nat := 0
  deriving DecidableEq, Repr

/-- A transmission in progress: a message buffer, or an item of an egress queue. -/
structure TxSt where
  mb : Option Nat := none
  queue : Nat := 0
  item : Option QItem := none
  /-- The CAN frame sent. -/
  can : CanFrame := { ident := 0 }
  /-- The Ethernet frame as edited, at its start. -/
  bytes : List Nat := []
  /-- Start-of-frame stamp. -/
  sof : Nat := 0
  /-- An ending held pending at or after start-of-frame (R342): 0 none, 1 FLUSH, 2 lifetime, 3 the close of its gate (R330). -/
  ended : Nat := 0
  /-- LEC of the last error of the attempt, 0 for none. -/
  lec : Nat := 0
  /-- Started under cut-through, before the frame was complete. -/
  cut : Bool := false
  deriving DecidableEq, Repr

/-- What a quay holds beside its pages and its ingress side. -/
structure QuaySt where
  /-- Isolated by a unit fault (R24) until a unit reset. -/
  isolated : Bool := false
  /-- The mode in force while a change waits (R318, R360). -/
  oldMode : Option Nat := none
  /-- Whether MODE resumes only at the next commit boundary, after a wake or a reset (R349, R381, R655). -/
  resume : Bool := false
  /-- Whether a self-test slice runs (R659). -/
  testing : Bool := false
  tx : Option TxSt := none
  /-- Whether the filters wait for their reload after error 0x03 (Table 9-13). -/
  filterBad : Bool := false
  /-- An assembly buffer fault that the next frame sent or received meets (Tables 9-13 and 10-10); on reception, the index of the buffer. -/
  txFault : Bool := false
  rxFault : Option Nat := none
  /-- Message buffers whose lock is held, with the elapsed ns at which it was taken. -/
  locks : SMap Nat := []
  /-- Deferred updates of locked message buffers, oldest first (R340). -/
  deferred : SMap (List MbView) := []
  /-- Whether the external PHY or the link partner reports the link up, and whether the PHY's rate fits (R357). -/
  phyUp : Bool := false
  txStamps : CQueue StampEntry := {}
  syncStamps : CQueue StampEntry := {}
  deriving DecidableEq, Repr

/-- What a line front end holds beside its page. -/
structure FrontSt where
  /-- Held under error 0x02, 0x03 or 0x04 of Table 11-9. -/
  fault : Bool := false
  /-- Whether the configuration store waits for its reload (error 0x02). -/
  cfgBad : Bool := false
  /-- Frames in a row that showed a reversal (R395, R397). -/
  reversals : Nat := 0
  /-- An exchange that waits for its idle point: `some true` for a reversal found, `some false` for SWAP_RESET. -/
  exchange : Option Bool := none
  /-- The measurement running or waiting: 1 termination, 2 TDR, and the elapsed ns of its command. -/
  meas : Option (Nat × Nat) := none
  /-- Whether the driver is re-enabled for one attempt while PAIR_SHORT is present. -/
  retest : Bool := false
  /-- Whether the wake detector waits for a quiet wire before it re-arms (R413). -/
  quietWait : Bool := false
  /-- The frame error count of the selective wake decoder (R409). -/
  ferr : Nat := 0
  deriving DecidableEq, Repr

/-- A segment's sleep state beside PWK_SEG_STATE. -/
structure SegSt where
  /-- Elapsed ns of the segment's commit point. -/
  sleptAt : Nat := 0
  /-- Whether a wake is held through DWELL (R609). -/
  held : Bool := false
  /-- Whether the wake came from the TC10 partner (R607). -/
  fromPartner : Bool := false
  /-- Start of the false-wake timer, in elapsed ns (R611). -/
  fwFrom : Option Nat := none
  /-- Elapsed ns of the TC10 sleep request sent, and whether the partner acknowledged it (R606). -/
  tc10At : Nat := 0
  tc10Ack : Bool := false
  deriving DecidableEq, Repr

/-- An entry of the wake record queue (R617). -/
structure WakeRec where
  kind : Nat
  src : Nat
  lfeKind : Nat := 0
  ident : Option Nat := none
  late : Bool := false
  abort : Bool := false
  sleepMs : Nat := 0
  /-- Harbour time as a stamp; `none` for NO_TIME. -/
  time : Option Nat := none
  /-- The always-on clock in which the wake was recognised (R618). -/
  clock : Nat := 0
  deriving DecidableEq, Repr

/-- The wake and power block. -/
structure PwkSt where
  segs : SMap SegSt := []
  wakes : CQueue WakeRec := {}
  /-- Elapsed ns of the commit points of North, South and the package. -/
  northAt : Nat := 0
  southAt : Nat := 0
  pkgAt : Nat := 0
  /-- Whether the package has been woken from SLEEP: held until the package dwell ends (R601). -/
  pkgWake : Bool := false
  /-- Segments whose wake ends SLEEP, whatever their STAY bit (R615). -/
  pkgSegs : List Nat := []
  /-- Whether the last wake of the package is to be logged once the recorder runs (R469). -/
  pkgRec : Option WakeRec := none
  /-- Wakes whose quay record waits for the logic die: quay, KIND of the quay's record and identifier (R617). -/
  quayWakes : List (Nat × Nat × Nat) := []
  /-- What the next START reports as its cause (SUP_RESET_CAUSE.START). -/
  startCause : Nat := 0
  /-- Whether the logic die is powered up by a wake from SLEEP. -/
  fromSleep : Bool := false
  /-- Whether the next measurement of HOLDUP_SNS fails its self-check (Table 17-14, code 0x03). -/
  snsBad : Bool := false
  /-- Whether VBAT has held 4.5 V and the logic die is to be powered (R686). -/
  powered : Bool := false
  /-- Whether VBAT is above its power-on threshold, RST_N low, and CORE_EN high (R601, R683). -/
  vbat : Bool := false
  rstLow : Bool := false
  coreEn : Bool := false
  deriving DecidableEq, Repr

end Sys2Proof.Machine
end

