-- ==== Sys2Proof/Machine/StShared.lean ====
section
/-! DEFINITION. State that all blocks share: the latest boundary, the reports on their way to the supervisor and the log recorder,
and what the block has given to the outside. -/

namespace Sys2Proof.Machine

/-- The latest commit boundary (R57): its harbour time, in harbour units, the elapsed time in ns at which it arrived, and which of
the boundary's events have been taken. -/
structure Boundary where
  time : Nat := 0
  arrived : Nat := 0
  /-- No boundary has arrived yet. -/
  none : Bool := true
  /-- How many boundaries have arrived. -/
  num : Nat := 0
  swap : Bool := false
  stroke : Bool := false
  commit : Bool := false
  start : Bool := false
  step : Bool := false
  epoch : Bool := false
  takeover : Bool := false
  rejoin : Bool := false
  sweep : Bool := false
  deriving DecidableEq, Repr

/-- The package modes of Table 17-1 (R601). -/
inductive PkgMode where
  | off | start | run | entering | sleep
  deriving DecidableEq, Repr

/-- A frame event on its way to the log recorder (Tables 13-1 to 13-3). `frame` is the frame whose cells the recorder holds as a
reader until it has copied them. -/
structure FrameLog where
  port : Nat
  tx : Bool := false
  status : Nat := 0
  detail : Nat := 0
  len : Nat := 0
  bad : Bool := false
  cut : Bool := false
  zeroed : Bool := false
  berthValid : Bool := false
  berth : Nat := 0
  queue : Nat := 0
  seq : Nat := 0
  medium : Nat := 3
  stamp : Nat := 0
  frame : Option Nat := none
  /-- The bytes of a frame that has no cells: one sent from a message buffer. -/
  data : List Nat := []
  deriving DecidableEq, Repr

/-- An event reported to the log recorder (R464), before the recorder takes it. -/
inductive LogEvent where
  /-- A frame record. -/
  | frame (f : FrameLog)
  /-- A CAN error record: port, whether this quay sent the error frame, LEC, fault confinement state, TEC, REC, bit position, the
  identifier field, stamp. -/
  | canError (port : Nat) (sent : Bool) (lec fc tec rec bitpos ident stamp : Nat)
  /-- An event record of Table 13-5: EVENT, port (255 if none), arguments, stamp. -/
  | event (code port arg0 arg1 arg2 arg3 stamp : Nat)
  /-- A mark record: code, tide stroke index, IMAGE_SEQ, stamp. -/
  | mark (code stroke seq stamp : Nat)
  deriving DecidableEq, Repr

/-- What the block gives to the outside world. -/
inductive OutEvent where
  /-- An MSI-X message on a vector (R72). -/
  | msix (vector : Nat)
  /-- A write to host memory: address and bytes. -/
  | hostWrite (addr : Nat) (data : List Nat)
  /-- A read request to host memory: tag, address and length. -/
  | hostRead (tag : Nat) (addr : Nat) (len : Nat)
  /-- A completion of a host read: tag and value. -/
  | completion (tag : Nat) (value : Nat) (ok : Bool)
  /-- A Fearlek response frame. -/
  | fearlek (bytes : List Nat)
  /-- A frame put on the line of a quay. -/
  | line (quay : Nat) (bytes : List Nat) (good : Bool)
  /-- A level driven on a trigger output. -/
  | trigger (output level : Nat) (time : Nat)
  /-- A level driven on PPS_OUT. -/
  | pps (level : Nat) (time : Nat)
  /-- An 802.1AS message sent on a quay from the time engine's slot: 0 Pdelay_Req, 1 Pdelay_Resp with its Follow_Up, 2 Sync with its
  Follow_Up; the numbers are those of its rule. -/
  | timeMessage (quay kind : Nat) (args : List Int)
  /-- A pattern sent on a segment: 1 wake-up, 2 sleep request, 3 sleep acknowledge, 4 sleep rejection. -/
  | segment (quay : Nat) (pattern : Nat)
  deriving DecidableEq, Repr

end Sys2Proof.Machine
end

