-- ==== Sys2Proof/Machine/StSup.lean ====
section
/-! DEFINITION. The state of the supervisor and of the retained store that no register shows (chapters 17 and 18). -/

namespace Sys2Proof.Machine

/-- An error record (Table 18-1). `stamp` is the harbour time of the first error, `firstAt` and `lastAt` elapsed ns. -/
structure SupRec where
  opened : Bool := true
  level : Nat
  code : Nat
  repeats : Nat := 0
  noTime : Bool := false
  clockSet : Bool := false
  page : Nat
  sub : Nat := 0
  detail : Nat := 0
  stamp : Nat := 0
  lastCode : Nat := 0
  lastUs : Nat := 0
  firstAt : Nat := 0
  lastAt : Nat := 0
  /-- Whether the record's error was the one captured in ERR_FIRST of its page (R643). -/
  captured : Bool := false
  deriving DecidableEq, Repr

/-- The scope of a reset (R28–R31). -/
inductive Scope where
  | unit (page : Nat)
  | cluster (k : Nat)
  | region (r : Nat)
  | die
  | package
  deriving DecidableEq, Repr

/-- A reset under way: its scope, why a die reset was issued (SUP_RESET_CAUSE.DIE), the masters that asked for it, and the supervisor clock in which
it was last asked for (R31). -/
structure ResetReq where
  scope : Scope
  cause : Nat := 0
  asked : List Master := []
  clock : Nat := 0
  deriving DecidableEq, Repr

/-- A self-test target (R657–R662). `next` is the next slice, `dueAt` the elapsed ns of its next due time. -/
structure TestSt where
  active : Bool := false
  next : Nat := 0
  running : Bool := false
  dueAt : Nat := 0
  passedAt : Option Nat := none
  overdue : Bool := false
  /-- 0 none, 1 pass, 2 fail. -/
  result : Nat := 0
  /-- Whether the target failed and has had no unit reset since (R662). -/
  failed : Bool := false
  deriving DecidableEq, Repr

/-- An entry of the repair map (R664). -/
structure RepairEntry where
  cell : Nat
  bit : Nat
  bits : Nat
  deriving DecidableEq, Repr

/-- Who owns a retained write (Table 17-7). -/
inductive RetOwner where
  /-- A write of the slot commit. -/
  | commit
  /-- A write of the LOAD port. -/
  | load
  /-- The key well's journal, phase 1. -/
  | journal
  /-- A key-well slot table piece, phase 2. -/
  | slotTable
  /-- A root copy. -/
  | root
  /-- The repair map. -/
  | repair
  /-- An error history record, and the history's header with it. -/
  | history
  deriving DecidableEq, Repr

/-- A retained write: its owner, address, bytes and the energy it needs, in µJ (Table 17-7). -/
structure RetWrite where
  owner : RetOwner
  addr : Nat
  data : List Nat
  need : Nat
  /-- Retries made after a refusal. -/
  tries : Nat := 0
  deriving DecidableEq, Repr

/-- A slot commit under way (R624–R626): its target, its SEQ, the elapsed ns of acceptance, whether the snapshot has been taken, and the
writes left. -/
structure CommitSt where
  target : Nat
  seq : Nat
  at_ : Nat
  snapped : Bool := false
  left : List RetWrite := []
  deriving DecidableEq, Repr

/-- A load under way (R630): its target, the 64 bytes of the header as loaded, the collected bytes of the present piece by slot offset,
and how far LOAD_SEAL has come: 0 not given, 1 the last piece is being written, 2 the header is. -/
structure LoadSt where
  target : Nat
  header : List Nat := []
  piece : List (Nat × Nat) := []
  sealing : Nat := 0
  deriving DecidableEq, Repr

/-- The retained store and its writers. An unlisted byte of the store reads 0. -/
structure RetSt where
  store : Mem := []
  /-- Retained writes waiting, oldest first, and the one running (R547, R622). -/
  queue : List RetWrite := []
  active : Option RetWrite := none
  /-- Writes refused by the hold-up check, with the elapsed ns of the refusal. -/
  refused : List (RetWrite × Nat) := []
  commit : Option CommitSt := none
  load : Option LoadSt := none
  /-- Whether the next retained read of a restore meets an uncorrected error (Table 17-11, site 0x0001). -/
  readBad : Bool := false
  deriving DecidableEq, Repr

/-- The supervisor. -/
structure SupSt where
  recs : SMap SupRec := []
  /-- IDs not yet returned by a pop, with the gap marker. -/
  unread : CQueue Nat := {}
  resets : List ResetReq := []
  /-- The completion record of the last reset: its scope and the masters that asked for it (R30, R31). -/
  lastReset : Option (Scope × List Master) := none
  /-- The master whose write of SUP_CMD asked last for a reset: in whose name the reset commands ask (R30, R31). -/
  caller : Master := .host
  /-- Elapsed ns at which the safe states of North, South and the die began, and whether the automatic reset has been issued. -/
  northAt : Nat := 0
  southAt : Nat := 0
  dieAt : Nat := 0
  northRetried : Bool := false
  southRetried : Bool := false
  /-- Whether an alarm caused the region's safe state. -/
  northAlarm : Bool := false
  southAlarm : Bool := false
  /-- Elapsed ns of the end of the last die reset that ended a die safe state (R651). -/
  dieResetEnd : Option Nat := none
  /-- Tests, keyed 256 × KIND + target. -/
  tests : SMap TestSt := []
  /-- The repair map, whether it differs from the retained copy, its sequence number. -/
  repair : List RepairEntry := []
  repairDirty : Bool := false
  repairSeq : Nat := 0
  /-- The map as the retained store holds it, and whether the write of that copy was cut short. -/
  repairKept : List RepairEntry := []
  repairBad : Bool := false
  /-- History records that are to be written (R670): bytes 0x00–0x17 and EVENT; with the elapsed ns of a refusal for those waiting (R671). -/
  history : List (List Nat × Nat × Option Nat) := []
  /-- The retained history's write index, record count and sequence number, and the count of start-ups. -/
  histIdx : Nat := 0
  histCount : Nat := 0
  hseq : Nat := 0
  startCount : Nat := 0
  /-- A valid ARM: who wrote it and when. -/
  scanArm : Option (Master × Nat) := none
  scanning : Bool := false
  deriving DecidableEq, Repr

end Sys2Proof.Machine
end

