-- ==== Sys2Proof/Machine/State.lean ====
section
/-! DEFINITION. The machine's state: every register, memory, queue, counter and mode the spec gives the block, and the queue of
commands that wait. -/

namespace Sys2Proof.Machine

/-- Why the machine stops with a fault. -/
inductive Fault where
  /-- No meaning raises a fault: the block reports every error in its registers and goes on. Kept as a name for a state that no rule
  of the spec reaches. Safe. -/
  | none
  deriving DecidableEq, Repr

/-- Why a command has no meaning. -/
inductive Refusal where
  /-- Raised by a command whose meaning is not written yet. Safe: nothing can be proved of its effect. -/
  | notModelled (mnemonic : String)
  deriving DecidableEq, Repr

/-- The state of the block. -/
structure State where
  /-- The register file: every field of every page. -/
  regs : RegFile := []
  /-- The staging copy: S fields whose staged value differs from the active value (R60). -/
  staged : RegFile := []
  /-- Pages with an accepted commit: the elapsed ns of acceptance (R58). -/
  commits : SMap Nat := []
  /-- Pages with a discard that takes effect after the boundary of their commit (R63). -/
  discards : List Nat := []
  /-- Pages whose pending commit is refused at its boundary whatever it holds (BTH error 0x02). -/
  spoiled : List Nat := []
  /-- Elapsed time in ns since power was applied: the clock of every local timer. -/
  now : Nat := 0
  /-- The harbour counter, in units of 2⁻⁴⁰ ns (R420). -/
  count : Nat := 0
  bnd : Boundary := {}
  mode : PkgMode := .off
  /-- Reports on their way to the supervisor, oldest first. -/
  errLines : List ErrReport := []
  /-- Events on their way to the log recorder, oldest first. -/
  logLines : List LogEvent := []
  /-- What the block has given to the outside, oldest first. -/
  outs : List OutEvent := []
  /-- How many free values have been taken. -/
  freeCtr : Nat := 0
  cst : CstSt := {}
  planes : SMap PlaneSt := []
  /-- The switchover generation g (R141). -/
  switchGen : Nat := 0
  tid : TidSt := {}
  gates : SMap GateSt := []
  bth : BthSt := {}
  sgw : SgwSt := {}
  lkp : LkpSt := {}
  quays : SMap QuaySt := []
  fronts : SMap FrontSt := []
  pwk : PwkSt := {}
  hck : HckSt := {}
  lgr : LogSt := {}
  cph : CphSt := {}
  kwl : KwlSt := {}
  hbr : HbrSt := {}
  sup : SupSt := {}
  ret : RetSt := {}
  /-- Commands that wait, first in, first out. -/
  pending : List Instr := []
  deriving DecidableEq, Repr

/-- The block right after reset: package OFF, every field at the value its table states or, for a kept field, its factory value. -/
def State.reset : State := {}

end Sys2Proof.Machine
end

