-- ==== Sys2Proof/Machine/Ops.lean ====
section
/-! DEFINITION. The operations every block shares: reading and writing fields, counting, raising interrupts and errors, reporting
to the log recorder, harbour time and strokes. -/

namespace Sys2Proof.Machine

/-- What a meaning answers. -/
abbrev Result := Host.Outcome State Fault Refusal

/-! ### Fields -/

/-- The active value of a field. -/
def State.rd (s : State) (f : Fld) (ix : List Nat) : Nat := s.regs.get f ix

/-- Write the active value of a field. -/
def State.wr (s : State) (f : Fld) (ix : List Nat) (v : Nat) : State := { s with regs := s.regs.set f ix v }

/-- A one-bit field as a truth value. -/
def State.on (s : State) (f : Fld) (ix : List Nat) : Bool := s.rd f ix == 1

/-- Set a one-bit field. -/
def State.setB (s : State) (f : Fld) (ix : List Nat) (b : Bool) : State := s.wr f ix (if b then 1 else 0)

/-- Count `n` in a counter that saturates at its largest value. -/
def State.bumpBy (s : State) (f : Fld) (ix : List Nat) (n : Nat) : State := s.wr f ix (min (s.rd f ix + n) (2 ^ f.width - 1))

/-- Count one in a counter that saturates. -/
def State.bump (s : State) (f : Fld) (ix : List Nat) : State := s.bumpBy f ix 1

/-- Count `n` in a 64-bit counter held in two registers, which saturates as a whole. -/
def State.bump64 (s : State) (hi lo : Fld) (ix : List Nat) (n : Nat) : State :=
  let v := min (s.rd hi ix * 2 ^ 32 + s.rd lo ix + n) (2 ^ 64 - 1)
  (s.wr hi ix (v / 2 ^ 32)).wr lo ix (v % 2 ^ 32)

/-- Clear a list of fields to 0. -/
def State.clearFields (s : State) (fs : List (Fld × List Nat)) : State := fs.foldl (fun s p => s.wr p.1 p.2 0) s

/-- A fresh free value: nothing in the spec fixes it. -/
def State.fresh (s : State) : Nat := Config.freeValue s.freeCtr

/-- Move on to the next free value. -/
def State.useFresh (s : State) : State := { s with freeCtr := s.freeCtr + 1 }

/-- Give a field a free value. -/
def State.wrFree (s : State) (f : Fld) (ix : List Nat) : State := s.useFresh.wr f ix s.fresh

/-- `n` unstated bytes. -/
def State.freeBytes (s : State) (n : Nat) : List Nat := (List.range n).map fun i => Config.freeValue (s.freeCtr + i) % 256

/-- `n` random bytes: free values. -/
def State.random (s : State) (n : Nat) : State × List Nat := ({ s with freeCtr := s.freeCtr + n }, s.freeBytes n)

/-- Give an event to the outside. -/
def State.out (s : State) (e : OutEvent) : State := { s with outs := s.outs ++ [e] }

/-- The logic die is powered and out of reset. -/
def State.logicUp (s : State) : Bool := s.on DEV_STATUS_LOGIC_UP []

/-- A meaning that takes place on the logic die: nothing happens there while the die is not up. -/
def onLogic (s : State) (f : State → State) : Result := if s.logicUp then .next (f s) else .next s

/-- A meaning that takes place only when its condition holds; otherwise the event does not occur and nothing changes. -/
def onLogicIf (s : State) (c : Bool) (f : State → State) : Result := if s.logicUp && c then .next (f s) else .next s

/-- A page answers: it exists and its die is up, or it is served in sleep (R76). -/
def State.pageServed (s : State) (pg : Nat) : Bool :=
  pageExists pg && s.mode != .off && (s.logicUp || pageServedAsleep pg)

/-- A value of `w` bits read as a two's-complement number. -/
def signedOf (w v : Nat) : Int := if v < 2 ^ (w - 1) then v else (v : Int) - 2 ^ w

/-- The two's-complement encoding of a number in `w` bits. -/
def unsignedOf (w : Nat) (v : Int) : Nat := (v % (2 ^ w : Int)).toNat

/-- The advance of the harbour counter per nanosecond (R420). -/
def State.tickInc (s : State) : Nat := ((2 ^ 40 : Int) + signedOf 32 (s.rd HCK_RATE_APPLIED_RATE [])).toNat

/-! ### Interrupts (R70–R72) -/

/-- The pages whose IRQ_PEND shows in DEV_IRQ_SUM for quay or front end q. -/
def quayPages (q : Nat) : List Nat := [pgQ q, pgQ q + 1, pgQ q + 2, pgQ q + 3, pgLFE q]

/-- Whether any page of a list has an IRQ_PEND bit set. -/
def State.anyPend (s : State) (pgs : List Nat) : Bool := pgs.any fun p => s.rd IRQ_PEND_PEND [p] != 0

/-- Bring the DEV_IRQ_SUM registers in line with the IRQ_PEND of a page (Table 2-5). -/
def State.irqSum (s : State) (pg : Nat) : State :=
  match blockOf pg with
  | none => s
  | some r =>
    if r.showInst then
      let q := pageInstance pg
      let f := if q < 32 then DEV_IRQ_SUM_Q0_Q else DEV_IRQ_SUM_Q1_Q
      let old := s.rd f []
      s.wr f [] (if s.anyPend (quayPages q) then setBitOf old (q % 32) else clearBitOf old (q % 32))
    else
      let i := blockRanges.findIdx (fun x => x.name == r.name)
      let old := s.rd DEV_IRQ_SUM_BLK_BLK []
      s.wr DEV_IRQ_SUM_BLK_BLK []
        (if s.anyPend ((List.range r.pages).map fun p => r.first + p) then setBitOf old i else clearBitOf old i)

/-- Whether the bridge may issue a request to the host: link up, bus master enabled, D0 and HBR page 0 enabled (R556, R557, R593). -/
def State.hostReachable (s : State) : Bool :=
  s.logicUp && s.on HBR_STATUS_LINK_UP [] && s.on HBR_STATUS_BME [] && !s.on HBR_STATUS_D3 []
    && s.on PG_STATE_ENABLED [pgHBR]

/-- Send an MSI-X message on a vector, or leave it pending while the vector is masked or the host is out of reach. -/
def State.msix (s : State) (v : Nat) : State :=
  if s.on HBR_MSIX_CTRL_MASK [v] || !s.hostReachable then
    s.wr HBR_MSIX_PBA_PEND [v / 32] (setBitOf (s.rd HBR_MSIX_PBA_PEND [v / 32]) (v % 32))
  else s.out (.msix v)

/-- The interrupt message of a page, to the host on its vector if HOST_EN is 1 (R72). -/
def State.irqMessage (s : State) (pg : Nat) : State :=
  if s.on IRQ_ROUTE_HOST_EN [pg] then s.msix (s.rd IRQ_ROUTE_VECTOR [pg]) else s

/-- Put a value into IRQ_PEND: a message goes out when it rises from all zero. -/
def State.setPend (s : State) (pg v : Nat) : State :=
  let old := s.rd IRQ_PEND_PEND [pg]
  let s := (s.wr IRQ_PEND_PEND [pg] v).irqSum pg
  if old = 0 ∧ v ≠ 0 then s.irqMessage pg else s

/-- A source has an event: its IRQ_PEND bit is set while its enable is 1 (R70). -/
def State.irq (s : State) (pg bit : Nat) : State :=
  if bitOf (s.rd IRQ_EN_EN [pg]) bit = 1 then s.setPend pg (setBitOf (s.rd IRQ_PEND_PEND [pg]) bit) else s

/-- A condition source takes a level: IRQ_RAW shows it, and a rise sets IRQ_PEND while its enable is 1 (R70). -/
def State.cond (s : State) (pg bit : Nat) (level : Bool) : State :=
  let raw := s.rd IRQ_RAW_BLOCK [pg]
  let was := bitOf raw bit == 1
  let s := s.wr IRQ_RAW_BLOCK [pg] (if level then setBitOf raw bit else clearBitOf raw bit)
  if level && !was then s.irq pg bit else s

/-- MG_INT_N is asserted while any page with MGP_EN = 1 has an IRQ_PEND bit set (R72). -/
def State.mgIntAsserted (s : State) : Bool :=
  blockRanges.any fun r => (List.range (r.insts * r.pages)).any fun i =>
    s.rd IRQ_PEND_PEND [r.first + i] != 0 && s.on IRQ_ROUTE_MGP_EN [r.first + i]

/-! ### Errors (R50, R639) -/

/-- A corrected error of a page: CORR_CNT and its event. -/
def State.corrected (s : State) (pg : Nat) : State := (s.bump CORR_CNT_CNT [pg]).irq pg 30

/-- An uncorrected error of a page: the first one is captured (R50), ERR_CNT counts it, and an error of level 1 or higher goes to the
supervisor (R639). -/
def State.err (s : State) (pg code level detail : Nat) : State :=
  if level = 0 then s.corrected pg
  else
    let s :=
      if s.on ERR_FIRST_VALID [pg] then s
      else (((s.wr ERR_FIRST_VALID [pg] 1).wr ERR_FIRST_LEVEL [pg] level).wr ERR_FIRST_CODE [pg] code).wr ERR_FIRST_DETAIL [pg] detail
    let s := (s.bump ERR_CNT_CNT [pg]).irq pg 31
    { s with errLines := s.errLines ++ [⟨pg, code, detail % 2 ^ 20, level⟩] }

/-- An error whose DETAIL no table of its page defines: the detail is a free value. -/
def State.errU (s : State) (pg code level : Nat) : State := s.useFresh.err pg code level s.fresh

/-- A word of a buffer is read at an injection site (R49): an injection armed there takes place and ARM clears. Answers whether the word meets an
uncorrected error. -/
def State.passSite (s : State) (pg site : Nat) : State × Bool :=
  if s.on ERR_INJECT_ARM [pg] && s.rd ERR_INJECT_SITE [pg] == site then
    match s.rd ERR_INJECT_TYPE [pg] with
    | 0 => ((s.wr ERR_INJECT_ARM [pg] 0).corrected pg, false)
    | 1 => (s.wr ERR_INJECT_ARM [pg] 0, true)
    | _ => (s, false)
  else (s, false)

/-- A device-issued read has failed: HBR_CNT_DMA_RD_ERR and DMA_RD_ERR (R563). -/
def State.dmaReadErr (s : State) : State := (s.bump HBR_CNT_DMA_RD_ERR_CNT []).irq pgHBR 3

/-- Report an event to the log recorder, which takes none while its page is disabled (R464). -/
def State.log (s : State) (e : LogEvent) : State :=
  if s.on PG_STATE_ENABLED [pgLOG] then { s with logLines := s.logLines ++ [e] } else s

/-! ### Harbour time and strokes -/

/-- Harbour time in ns. -/
def State.ns (s : State) : Nat := s.count / nsUnit

/-- A harbour time in units of 2⁻¹⁶ ns, the resolution of a stamp (R8). -/
def stampOf (count : Nat) : Nat := count / 2 ^ 24

/-- Seconds, nanoseconds and fraction of a stamp (R8). -/
def stampS (t : Nat) : Nat := t / 2 ^ 16 / nsPerS
/-- Nanoseconds of a stamp. -/
def stampNs (t : Nat) : Nat := t / 2 ^ 16 % nsPerS
/-- Fraction of a stamp. -/
def stampFr (t : Nat) : Nat := t % 2 ^ 16
/-- A stamp from seconds, nanoseconds and fraction. -/
def stampMk (sec ns fr : Nat) : Nat := (sec * nsPerS + ns) * 2 ^ 16 + fr

/-- The present harbour time as a stamp. -/
def State.stamp (s : State) : Nat := stampOf s.count

/-- The tide anchor in harbour units (R79). -/
def State.anchor (s : State) : Nat :=
  ((s.rd TID_ANCHOR_S_HI_S [] * 2 ^ 32 + s.rd TID_ANCHOR_S_LO_S []) * nsPerS + s.rd TID_ANCHOR_NS_NS []) * nsUnit

/-- The global stroke at a harbour time (R79). -/
def State.strokeAt (s : State) (t : Nat) : Nat := (t - s.anchor) / strokeUnits

/-- The current global stroke. -/
def State.stroke (s : State) : Nat := s.strokeAt s.count

/-- Harbour time at which a global stroke begins. -/
def State.strokeStart (s : State) (n : Nat) : Nat := s.anchor + n * strokeUnits

/-- EXEC of Table 3-9. -/
def exIdle : Nat := 0
/-- WAIT_TIME. -/
def exWait : Nat := 1
/-- RUNNING. -/
def exRunning : Nat := 2
/-- HALTED. -/
def exHalted : Nat := 3

/-- Execution is RUNNING. -/
def State.running (s : State) : Bool := s.rd TID_STATUS_EXEC [] == exRunning

/-- TIDE_LEN of the active image. -/
def State.tideLen (s : State) : Nat := s.rd TID_ACT_LEN_L []

/-- Base of R80. -/
def State.base (s : State) : Nat := s.rd TID_BASE_HI_N [] * 2 ^ 32 + s.rd TID_BASE_LO_N []

/-- Tide stroke index of a global stroke (R80); a free value while no image is active. -/
def State.tideIndex (s : State) (n : Nat) : Nat := 
  if s.tideLen = 0 then Config.idleIndex n % 2 ^ 17 else (((n : Int) - s.base) % s.tideLen).toNat

/-- The phase of the commit boundaries: stroke boundaries of the executing tide table, and otherwise also anchor + k × 8 µs (R57, R426). -/
def State.boundaryPhase (s : State) : Nat := s.anchor % strokeUnits

/-- The first boundary after a harbour time. -/
def State.nextBoundary (s : State) (t : Nat) : Nat :=
  let p := s.boundaryPhase
  if t < p then p else p + ((t - p) / strokeUnits + 1) * strokeUnits

/-- Whether a boundary has arrived whose events of one kind are still to be taken. -/
def State.bndDue (s : State) (taken : Boundary → Bool) : Bool := !s.bnd.none && !taken s.bnd

/-- The lead of 256 ns before a commit boundary, in elapsed ns (R714): 256 clocks of the harbour clock island, or, while the logic die is
asleep, 5 clocks of the 16 MHz always-on island, 312.5 ns. -/
def State.leadNs (s : State) : Nat := if s.logicUp then 256 else 313

/-- Whether the lead lay between an acceptance and the latest boundary's arrival (R714). -/
def State.leadHeld (s : State) (acceptedAt : Nat) : Bool := acceptedAt + s.leadNs ≤ s.bnd.arrived

/-! ### Planes -/

/-- What plane x (0 for A, 1 for B) holds. -/
def State.plane (s : State) (x : Nat) : PlaneSt := SMap.getD s.planes x {}

/-- Change what plane x holds. -/
def State.setPlane (s : State) (x : Nat) (p : PlaneSt) : State := { s with planes := SMap.setD s.planes {} x p }

/-- Roles of Table 4-6. -/
def roleStart : Nat := 0
/-- ACTIVE. -/
def roleActive : Nat := 1
/-- TAKING_OVER. -/
def roleTakingOver : Nat := 2
/-- STANDBY. -/
def roleStandby : Nat := 3
/-- OUT. -/
def roleOut : Nat := 4
/-- REJOINING. -/
def roleRejoining : Nat := 5
/-- FAILED. -/
def roleFailed : Nat := 6

/-- The role of plane x. -/
def State.role (s : State) (x : Nat) : Nat := s.rd PM_STATUS_ROLE [x]

/-- The claim of plane x. -/
def State.claim (s : State) (x : Nat) : Nat := s.rd PM_STATUS_CLAIM [x]

/-- A plane in service takes descriptors (R130): every role but OUT, REJOINING and FAILED, and START before it is in service. -/
def State.inService (s : State) (x : Nat) : Bool :=
  s.role x == roleActive || s.role x == roleTakingOver || s.role x == roleStandby

/-- The plane whose updates of copied state stand: the ACTIVE plane, or the plane TAKING_OVER (Table 4-5). -/
def State.actPlane (s : State) : Nat :=
  if s.role 0 = roleActive then 0 else if s.role 1 = roleActive then 1
  else if s.role 0 = roleTakingOver then 0 else if s.role 1 = roleTakingOver then 1 else 0

/-- Whether some plane's updates stand. -/
def State.hasAct (s : State) : Bool :=
  s.role 0 == roleActive || s.role 1 == roleActive || s.role 0 == roleTakingOver || s.role 1 == roleTakingOver

/-- The copied state in force. -/
def State.img (s : State) : PlaneImg := (s.plane s.actPlane).img

/-- Change the copied state of a plane, recording the changed lines (R149). -/
def State.setImgOf (s : State) (x : Nat) (i : PlaneImg) (lines : List Nat) : State :=
  let p := s.plane x
  s.setPlane x { p with img := i, changed := lines.filter (fun l => !p.changed.contains l) ++ p.changed }

/-- Change the copied state in force. -/
def State.setImg (s : State) (i : PlaneImg) (lines : List Nat) : State := s.setImgOf s.actPlane i lines

/-- Whether a plane takes tide staging writes, page commits and what a swap brings into force: every plane that is not OUT, REJOINING or
FAILED (R161). -/
def State.takesWrites (s : State) (x : Nat) : Bool :=
  !(s.role x == roleOut || s.role x == roleRejoining || s.role x == roleFailed)

/-- Change the copied state of every plane that takes writes, for writes that reach both planes by a boundary (R14). A delta that is not
yet committed carries the lines as they stand after the write. -/
def State.mapImgs (s : State) (f : PlaneImg → PlaneImg) : State :=
  [0, 1].foldl (fun s x =>
    let p := s.plane x
    if s.takesWrites x then s.setPlane x { p with img := f p.img, delta := p.delta.map fun d => { d with img := f d.img } } else s) s

/-- The tide memories and the berth configuration of the acting plane. -/
def State.sharedMem (s : State) : PlaneMem :=
  { active := s.tid.active, shadow := s.tid.shadow, cfg := s.bth.cfg, valid := s.bth.valid }

/-- Put contents in the acting plane's place. -/
def State.setShared (s : State) (m : PlaneMem) : State :=
  { s with tid := { s.tid with active := m.active, shadow := m.shadow }, bth := { s.bth with cfg := m.cfg, valid := m.valid } }

/-- Each plane's own complete copy (R14). -/
def State.planeMem (s : State) (x : Nat) : PlaneMem := (s.plane x).own.getD s.sharedMem

/-- Apply a write to the copies that planes with contents of their own hold, where they take writes. -/
def State.mapOwn (s : State) (f : PlaneMem → PlaneMem) : State :=
  [0, 1].foldl (fun s x =>
    let p := s.plane x
    match p.own with
    | some m => if s.takesWrites x then s.setPlane x { p with own := some (f m) } else s
    | none => s) s

/-- Apply a write to every plane that takes writes (R14, R161). -/
def State.mapMem (s : State) (f : PlaneMem → PlaneMem) : State :=
  if s.takesWrites 0 || s.takesWrites 1 then (s.setShared (f s.sharedMem)).mapOwn f else s

/-- A plane leaves service: its contents stay as they are (R161). -/
def State.keepOwn (s : State) (x : Nat) : State :=
  let p := s.plane x
  if p.own.isNone then s.setPlane x { p with own := some s.sharedMem } else s

/-- The state as plane x sees it: its own tide memories and berth configuration in the acting plane's place. -/
def State.asPlane (s : State) (x : Nat) : State :=
  match (s.plane x).own with
  | some m => s.setShared m
  | none => s

/-- A plane becomes the acting one: contents of its own take the acting plane's place. -/
def State.actAs (s : State) (x : Nat) : State :=
  match (s.plane x).own with
  | some m => (s.setPlane x { s.plane x with own := none }).setShared m
  | none => s

/-- The delta line of a berth (R262). -/
def lineBerth (b : Nat) : Nat := b
/-- The delta line of a line of the PDU buffer store. -/
def linePdu (l : Nat) : Nat := 16384 + l
/-- The delta line of a bucket of the forwarding table. -/
def lineBucket (b : Nat) : Nat := 32768 + b
/-- The delta line of an overflow entry, four to a line. -/
def lineOvf (i : Nat) : Nat := 49152 + i / 4
/-- The delta line of the lookup counters and the pending register. -/
def lineLkp : Nat := 49280
/-- The delta line of an egress queue's occupancy, four to a line (Table 4-5): four queues of each CAN quay, eight of each other quay. -/
def lineEgress (k : Nat) : Nat := 49408 + (if k < 256 then k / 8 else 32 + (k - 256) / 4)
/-- The delta line of a berth queue's occupancy, 32 to a line. -/
def lineBerthQ (b : Nat) : Nat := 49536 + b / 32
/-- The delta line of the idle bank that stands where a line of the active bank does. -/
def lineIdle (l : Nat) : Nat := l + 32768
/-- The VLAN table of the idle bank as a delta line. -/
def lineIdleVlan : Nat := lineIdle 49408

/-- The delta line of an inner quay's queue occupancy, behind the 96 lines of the quays (Table 4-5). -/
def lineInner : Nat := 49504

/-- Record lines as changed without changing the image, for state the cistern keeps. -/
def State.touch (s : State) (lines : List Nat) : State := if s.hasAct then s.setImg s.img lines else s

/-- The runtime state of a berth in a plane. -/
def State.rtOf (s : State) (x b : Nat) : BerthRt := SMap.getD (s.plane x).img.bth b {}

/-- Set the runtime state of a berth in a plane. -/
def State.setRtOf (s : State) (x b : Nat) (r : BerthRt) : State :=
  let i := (s.plane x).img
  s.setImgOf x { i with bth := SMap.setD i.bth {} b r } [lineBerth b]

/-- The runtime state of a berth in force. -/
def State.rt (s : State) (b : Nat) : BerthRt := s.rtOf s.actPlane b

/-- Set the runtime state of a berth in force. -/
def State.setRt (s : State) (b : Nat) (r : BerthRt) : State := s.setRtOf s.actPlane b r

/-- Gate masks of a quay: open and scheduled-class (R91). -/
def State.gate (s : State) (q : Nat) : GateSt := SMap.getD s.gates q {}

/-- Set the gate masks of a quay. -/
def State.setGate (s : State) (q : Nat) (g : GateSt) : State := { s with gates := SMap.setD s.gates {} q g }

end Sys2Proof.Machine
end

