-- ==== Sys2Proof/Machine/PageOps.lean ====
section
/-! DEFINITION. The pages as the masters see them: the fields of a page, the staging copy, and what a register write and a register
read do to a plain field (R51–R56, R60, R61). -/

namespace Sys2Proof.Machine

/-- The register fields of a block, by its name in Table 2-6. -/
def blockFields (name : String) : List Fld :=
  match name with
  | "SUP" => regsSup
  | "HBR" => regsHbr
  | "MGP" => regsHbr
  | "HCK" => regsHck
  | "LOG" => regsLog
  | "CPH" => regsCph
  | "KWL" => regsKwl
  | "PMA" => regsPm
  | "PMB" => regsPm
  | "TID" => regsTid
  | "SGW" => regsSgw
  | "LKP" => regsLkp
  | "BTH" => regsBth
  | "CST" => regsCst
  | "QYC" => regsQyc
  | "QYE" => regsQye
  | "LFE" => regsLfe
  | "RET" => regsRet
  | "PWK" => regsRet
  | _ => []

/-- The fields of a page: the common header and the block's own. -/
def pageFields (pg : Nat) : List Fld :=
  match blockOf pg with
  | some r => regsPage ++ blockFields r.name
  | none => []

/-- The fields in the register at byte address `a` of BAR0, with their indices. -/
def fieldsAt (a : Nat) : List (Fld × List Nat) :=
  (pageFields (a / 4096)).flatMap fun f => (f.at a).map fun ix => (f, ix)

/-- The page whose PG_CTRL.ENABLE enables the block that a page belongs to: the page itself, or page 0 of its block. -/
def enablePage (pg : Nat) : Nat :=
  if pageHasEnable pg then pg else pg - pageOfBlock pg

/-- Whether the block of a page is enabled (R56). -/
def State.enabled (s : State) (pg : Nat) : Bool := s.on PG_STATE_ENABLED [enablePage pg]

/-- The staging copy of a field (R60). -/
def State.rdStaged (s : State) (f : Fld) (ix : List Nat) : Nat :=
  match SMap.find? s.staged (f.key ix) with
  | some v => v
  | none => s.rd f ix

/-- Write the staging copy: a staged value equal to the active value is not listed. -/
def State.stage (s : State) (f : Fld) (ix : List Nat) (v : Nat) : State :=
  { s with staged := SMap.setD s.staged (s.rd f ix) (f.key ix) (v % 2 ^ f.width) }

/-- Raise the LOCKED_WRITE event of a page (IRQ_RAW bit 28). -/
def State.lockedWrite (s : State) (pg : Nat) : State := s.irq pg 28

/-- A write to a staged field: to the staging copy, or ignored while a commit is pending (R56, R61). -/
def State.writeStaged (s : State) (f : Fld) (ix : List Nat) (v : Nat) : State :=
  let pg := f.page ix
  if s.on PG_STATE_STAGED_PENDING [pg] then (s.setB PG_STATE_STAGED_REJECT [pg] true).lockedWrite pg
  else s.stage f ix v

/-- A write to a locked field: at once while its block is disabled, otherwise ignored (R56). -/
def State.writeLocked (s : State) (f : Fld) (ix : List Nat) (v : Nat) : State :=
  let pg := f.page ix
  if s.enabled pg then (s.setB PG_STATE_LOCKED_WRITE_SEEN [pg] true).lockedWrite pg else s.wr f ix v

/-- Fields that read 0 and ignore writes on some of their indices: CST_CUT_q on CAN quays, HCK_PORT_T1S on Q48–Q63, the PLCA and
CSMA/CD fields on Q48–Q63 (Table 10-7), and the fields that do not apply to a front end's medium (R416). -/
def fieldAbsent (f : Fld) (ix : List Nat) : Bool :=
  let k := f.key []
  let q := ix.headD 0
  let isOneOf (l : List Fld) : Bool := l.any fun g => g.key [] == k
  (k == CST_CUT_BYTES.key [] && q < 32)
    || (48 ≤ q && isOneOf [HCK_PORT_T1S_LINK_NS, QYE_PLCA_EN, QYE_PLCA_NODE_CNT, QYE_PLCA_NODE_ID, QYE_PLCA_TMR_TO_TIMER,
        QYE_PLCA_TMR_MAX_BC, QYE_PLCA_TMR_BURST_TMR, QYE_CSMA_ATTEMPT_LIMIT])
    || (32 ≤ q && isOneOf [LFE_CTRL_SWAP_AUTO, LFE_CTRL_CAN_CLASS, LFE_WAKE_FD_PASSIVE, LFE_WAKE_WUF_RATE, LFE_WAKE_DLC_EN,
        LFE_WAKE_DLC, LFE_WUF_ID_IDE, LFE_WUF_ID_ID, LFE_WUF_MASK_MASK, LFE_WUF_DMASK_LO_D, LFE_WUF_DMASK_HI_D])
    || ((q < 48 || 56 ≤ q) && k == LFE_CTRL_AUTO_TDR.key [])
    || ((q < 32 || 56 ≤ q) && k == LFE_TDR_CFG_VF.key [])
    || (56 ≤ q && k == LFE_WAKE_MODE.key [])
    || ((q < 32 || 48 ≤ q) && k == LFE_WAKE_FILT_ENERGY_US.key [])
    || (q < 56 && isOneOf [LFE_SERDES_TX_INV, LFE_SERDES_RX_INV, LFE_SERDES_TX_PRE, LFE_SERDES_TX_MAIN, LFE_SERDES_TX_POST])

/-- A write of a value to one field, by its access code and When class (Tables 2-3 and 2-4). PG_CTRL.ENABLE of a page without an
enable ignores writes (Table 2-2). -/
def State.writeField (s : State) (f : Fld) (ix : List Nat) (v : Nat) : State :=
  if f.key ix = PG_CTRL_ENABLE.key [f.page ix] ∧ !pageHasEnable (f.page ix) then s
  else if fieldAbsent f ix then s
  else
    match f.acc with
    | .ro => s
    | .wo => s
    | .w1s => s
    | .w1c => s.wr f ix (clearMask (s.rd f ix) v f.width)
    | .rw =>
      match f.whn with
      | .staged => s.writeStaged f ix v
      | .locked => s.writeLocked f ix v
      | .live => s.wr f ix v
      | .none => s

/-- What a read of one field returns: the staging copy of a staged field, 0 for a WO or W1S field that the text gives no other value
(Table 2-3, R60). -/
def State.readField (s : State) (f : Fld) (ix : List Nat) : Nat :=
  match f.acc with
  | .wo => 0
  | .rw => if f.whn == .staged then s.rdStaged f ix else s.rd f ix
  | _ => s.rd f ix

/-- The bits of a register word that belong to a field at bit address `k`. -/
def fieldBitsOf (f : Fld) (k w : Nat) : Nat := w / 2 ^ (k % 32) % 2 ^ f.width

/-- A write of a word to the plain fields of a register. -/
def State.writeWord (s : State) (a w : Nat) : State :=
  (fieldsAt a).foldl (fun s p => s.writeField p.1 p.2 (fieldBitsOf p.1 (p.1.key p.2) w)) s

/-- The word a read of a register returns (R51–R53, R60). -/
def State.readWord (s : State) (a : Nat) : Nat :=
  (fieldsAt a).foldl (fun w p => w + s.readField p.1 p.2 * 2 ^ (p.1.key p.2 % 32)) 0 % 2 ^ 32

/-- The fields named by the listed keys of the staging copy of a page, with their staged values. -/
def State.stagedOf (s : State) (pg : Nat) : List (Fld × List Nat × Nat) :=
  (s.staged.filter fun p => keyPage p.1 == pg).flatMap fun p =>
    ((fieldsAt (keyWord p.1)).filter fun q => q.1.key q.2 == p.1).map fun q => (q.1, q.2, p.2)

/-- Reload the staging copy of a page from its active values (R63). -/
def State.reloadStaging (s : State) (pg : Nat) : State := { s with staged := s.staged.filter fun p => keyPage p.1 != pg }

/-- Give a staged field its active value with the staging copy following (R60). -/
def State.wrBoth (s : State) (f : Fld) (ix : List Nat) (v : Nat) : State :=
  { s.wr f ix v with staged := SMap.erase s.staged (f.key ix) }

/-- The counters of a page, cleared by the CNT_CLR register of the page (R52); ERR_CNT and CORR_CNT have their own clear. -/
def State.clearCounters (s : State) (pg : Nat) : State :=
  { s with regs := s.regs.filter fun p =>
      keyPage p.1 != pg || !((fieldsAt (keyWord p.1)).any fun q => q.1.counter && q.1.key q.2 == p.1) }

end Sys2Proof.Machine
end

