-- ==== Sys2Proof/Machine/CstOps.lean ====
section
/-! DEFINITION. The cistern's operations: sources and their loads, landing, release, queues (chapter 6). -/

namespace Sys2Proof.Machine

/-- Inner quay IQk as a port (R88, R135). -/
def portIQ (k : Nat) : Nat := 64 + k

/-- The cluster of a quay (Table 6-1). -/
def clusterOf (q : Nat) : Nat := q / 8

/-- The source a cell belongs to (Table 6-1). -/
def srcOfCell (c : Nat) : Nat := if c < 32768 then c / 4096 else 8

/-- Total number of cells (R209). -/
def cellCount : Nat := 98304

/-- LAND_MAX of a writer (Table 6-2). -/
def landMax (w : Nat) : Nat := if w < 32 then 24 else if w < 48 then 72 else if w < 56 then 96 else if w < 64 then 160 else 256

/-- The landing margin of a source (Table 6-2). -/
def marginOf (src : Nat) : Nat := if src < 4 then 192 else if src < 6 then 576 else if src < 7 then 768 else if src < 8 then 1280 else 4736

/-- Change the cistern. -/
def State.setCst (s : State) (c : CstSt) : State := { s with cst := c }

/-- Change the gateway. -/
def State.setSgw (s : State) (g : SgwSt) : State := { s with sgw := g }

/-- Change the cipher engine. -/
def State.setCph (s : State) (c : CphSt) : State := { s with cph := c }

/-- A frame, by its first cell. -/
def State.frame? (s : State) (f : Nat) : Option FrameObj := SMap.find? s.cst.frames f

/-- Store a frame. -/
def State.putFrame (s : State) (f : Nat) (o : FrameObj) : State :=
  s.setCst { s.cst with frames := SMap.insert s.cst.frames f o }

/-- The ingress side of a writer. -/
def State.ingr (s : State) (w : Nat) : Ingress := SMap.getD s.cst.ingress w {}

/-- Change the ingress side of a writer. -/
def State.putIngr (s : State) (w : Nat) (i : Ingress) : State :=
  s.setCst { s.cst with ingress := SMap.setD s.cst.ingress {} w i }

/-- The bytes a frame holds. -/
def FrameObj.len (o : FrameObj) : Nat := (o.cells.map (fun p => p.2)).foldl (· + ·) 0

/-- The first cell of the shadow region (R210). -/
def State.shadowFirst (s : State) : Nat := cellCount - s.rd CST_SHADOW_CELLS []

/-- Cells a source has: its first cell and how many (Table 6-1, R210). -/
def State.srcCells (s : State) (src : Nat) : Nat × Nat :=
  if src < 8 then (4096 * src, 4096) else (32768, s.shadowFirst - 32768)

/-- Cells taken by frames, and cells taken for the next bank of a landing frame. -/
def State.heldCells (s : State) : List Nat :=
  (s.cst.frames.flatMap fun p => p.2.cells.map fun c => c.1) ++ s.cst.ingress.filterMap fun p => p.2.next

/-- The first cell from `c` on, among `n`, that is not listed. -/
def firstFree : Nat → Nat → List Nat → Option Nat
  | 0, _, _ => none
  | n + 1, c, held => if held.contains c then firstFree n (c + 1) held else some c

/-- The free cell a source gives next: the lowest-numbered one (DESIGN CHOICE: the spec names no order among free cells). -/
def State.freeCell (s : State) (src : Nat) : Option Nat :=
  let p := s.srcCells src
  firstFree p.2 p.1 (s.heldCells ++ s.cst.retired ++ s.cst.excluded)

/-- Whether a bank is failed (R231). -/
def State.bankFailed (s : State) (src : Nat) : Bool := bitOf (s.rd CST_STATUS_FAILED []) src == 1

/-- Whether a bank is in a low tide bank window (R233). -/
def State.bankInTest (s : State) (src : Nat) : Bool := src < 8 && bitOf (s.rd CST_STATUS_BANK_TEST []) src == 1

/-- Retired_s (R217). -/
def State.retiredOf (s : State) (src : Nat) : Nat :=
  ((s.cst.retired ++ s.cst.excluded.filter fun c => !s.cst.retired.contains c).filter fun c => srcOfCell c == src).length

/-- Cap_s, 0 for a failed bank (Table 6-1, R231). -/
def State.capOf (s : State) (src : Nat) : Nat :=
  if src < 8 then (if s.bankFailed src then 0 else 4096) else 65536 - s.rd CST_SHADOW_CELLS []

/-- Shadow state codes of Table 3-10. -/
def shEmpty : Nat := 0
/-- LOADED. -/
def shLoaded : Nat := 1
/-- VERIFYING. -/
def shVerifying : Nat := 2
/-- VERIFIED. -/
def shVerified : Nat := 3
/-- ARMED. -/
def shArmed : Nat := 4
/-- FAILED. -/
def shFailed : Nat := 5
/-- FETCHING. -/
def shFetching : Nat := 6

/-- The shadow state. -/
def State.shadow (s : State) : Nat := s.rd TID_STATUS_SHADOW []

/-- The reservation total of the active image for a source; 0 without an image. -/
def State.activeFloor (s : State) (src : Nat) : Nat := if s.tid.hasActive then imgFloor s.tid.active src else 0

/-- The reservation total for a source: while a swap is armed, the larger of the outgoing and incoming totals (R106). -/
def State.rawFloor (s : State) (src : Nat) : Nat :=
  if s.shadow = shArmed then max (s.activeFloor src) (imgFloor s.tid.shadow src) else s.activeFloor src

/-- Floor_s: the floor of a failed bank is added to the pool's (R217, R231). -/
def State.floorOf (s : State) (src : Nat) : Nat :=
  if src = 8 then
    s.rawFloor 8 + ((List.range 8).map fun k => if s.bankFailed k then s.rawFloor k else 0).foldl (· + ·) 0
  else s.rawFloor src

/-- Cells of a source held by frames of a kind. -/
def State.cellsWhere (s : State) (src : Nat) (p : FrameObj → Bool) : Nat :=
  (s.cst.frames.map fun f =>
    if p f.2 then (f.2.cells.filter fun c => srcOfCell c.1 == src).length else 0).foldl (· + ·) 0

/-- Cells of a CUT frame that have not landed, of its bound (R226). -/
def FrameObj.unlanded (o : FrameObj) : Nat := if o.complete then 0 else (o.bound + 255) / 256 - o.cells.length

/-- Cells charged ahead of landing to a source for unscheduled CUT frames (R226). -/
def State.aheadOf (s : State) (src : Nat) : Nat :=
  (s.cst.frames.map fun f => if f.2.charge == .unscheduled && f.2.ahead == some src then f.2.unlanded else 0).foldl (· + ·) 0

/-- Sched_s. -/
def State.schedOf (s : State) (src : Nat) : Nat := s.cellsWhere src fun o => o.charge == .scheduled

/-- Land_s. -/
def State.landOf (s : State) (src : Nat) : Nat := s.cellsWhere src fun o => o.charge == .landing

/-- Ue_s (R217). -/
def State.ueOf (s : State) (src : Nat) : Nat :=
  s.cellsWhere src (fun o => o.charge == .unscheduled) + s.aheadOf src + (s.schedOf src - s.floorOf src)

/-- Lim_s (R217). -/
def State.limOf (s : State) (src : Nat) : Nat := s.capOf src - s.retiredOf src - s.floorOf src - marginOf src

/-- Free cells of a source. -/
def State.freeOf (s : State) (src : Nat) : Nat :=
  let p := s.srcCells src
  p.2 - ((s.heldCells ++ s.cst.retired ++ s.cst.excluded).filter fun c => p.1 ≤ c && c < p.1 + p.2).length

/-- Record the highest unscheduled load of every source (CST_SRC_HWM, Table 6-7). -/
def State.hwm (s : State) : State :=
  (List.range 9).foldl (fun s i => s.wr CST_SRC_HWM_CELLS [i] (max (s.rd CST_SRC_HWM_CELLS [i]) (s.ueOf i))) s

/-- Bring the source registers of CST page 1 in line with the cistern (Table 6-7). -/
def State.viewCst (s : State) : State :=
  (List.range 9).foldl (fun s i =>
    (((((((s.wr CST_SRC_FREE_CELLS [i] (s.freeOf i)).wr CST_SRC_SCHED_CELLS [i] (s.schedOf i)).wr
      CST_SRC_UNSCHED_CELLS [i] (s.ueOf i)).wr CST_SRC_LAND_CELLS [i] (s.landOf i)).wr
      CST_SRC_FLOOR_CELLS [i] (s.floorOf i)).wr CST_SRC_LIMIT_CELLS [i] (s.limOf i)).wr
      CST_SRC_RETIRED_CELLS [i] (s.retiredOf i))) s

/-- The source from which a landing frame of a writer takes its next cell (R218). A failed bank, or one in its test window, is skipped
(R231, R233). -/
def State.landSource (s : State) (w : Nat) : Option (Nat × Nat) :=
  let bank := clusterOf w
  let useBank := w < 64 && !s.bankFailed bank && !s.bankInTest bank
  let pick (src : Nat) (c : Bool) : Option (Nat × Nat) := if c then (s.freeCell src).map fun x => (src, x) else none
  (pick bank (useBank && s.ueOf bank + s.landOf bank < s.limOf bank)).or
    ((pick 8 (w < 64 && s.ueOf 8 + s.landOf 8 < s.limOf 8)).or
      ((pick bank useBank).or (pick 8 true)))

/-- Landing cells of a writer (R216). -/
def State.writerLanding (s : State) (w : Nat) : Nat :=
  (s.cst.frames.map fun f => if f.2.charge == .landing && f.2.writer == w then f.2.cells.length else 0).foldl (· + ·) 0

/-- The next cell of a landing frame of a writer, `first` being its first cell, unless LAND_MAX or the sources refuse it (R216, R218).
LAND_MAX binds a frame while its cells are landing cells. -/
def State.takeCell (s : State) (w : Nat) (first : Option Nat) : Option Nat :=
  let landing := match first.bind s.frame? with | some o => o.charge == .landing | none => true
  if landing && decide (landMax w < s.writerLanding w + 1) then none else (s.landSource w).map fun p => p.2

/-! ### Cell contents -/

/-- What is left of a range of undefined bytes when lo up to hi are taken out of it. -/
def Lost.without (lo hi : Nat) (r : Lost) : List Lost :=
  (if r.lo < min r.hi lo then [{ r with hi := min r.hi lo }] else [])
    ++ (if max r.lo hi < r.hi then [{ lo := max r.lo hi, hi := r.hi, seed := r.seed + (max r.lo hi - r.lo) }] else [])

/-- A byte of the cells, by its address 256 c + i. -/
def State.cellByte (s : State) (a : Nat) : Nat :=
  match s.cst.lost.find? fun r => decide (r.lo ≤ a ∧ a < r.hi) with
  | some r => Config.freeValue (r.seed + (a - r.lo)) % 256
  | none => Mem.byte s.cst.mem a

/-- Write bytes of the cells. -/
def State.putCells (s : State) (a : Nat) (bs : List Nat) : State :=
  s.setCst { s.cst with
    mem := Mem.puts s.cst.mem a bs
    lost := s.cst.lost.flatMap (Lost.without a (a + bs.length)) }

/-- The contents of cells lo up to hi become undefined (R33, R37, R210). -/
def State.loseCells (s : State) (lo hi : Nat) : State :=
  let a := 256 * lo
  let b := 256 * max lo hi
  let s := s.setCst { s.cst with
    mem := SMap.copyRange a b [] s.cst.mem
    lost := s.cst.lost.flatMap (Lost.without a b) ++ [{ lo := a, hi := b, seed := s.freeCtr }] }
  { s with freeCtr := s.freeCtr + (b - a) }

/-- The link word of a cell (R211): NEXT, FILL and LAST. -/
def linkWord (next fill : Nat) (last : Bool) : Nat := next % 2 ^ 17 + fill % 2 ^ 9 * 2 ^ 17 + (if last then 2 ^ 26 else 0)

/-- The link word that a cell of a frame holds. DESIGN CHOICE (log 9): NEXT of a cell that no cell follows is 0. -/
def FrameObj.link (o : FrameObj) (c : Nat) : Nat :=
  let rest := o.cells.dropWhile fun x => x.1 != c
  let next := match rest[1]? with | some x => x.1 | none => 0
  linkWord next ((rest.headD (0, 0)).2) (o.complete && rest.length == 1)

/-- The CRC-32C of a cell: over its 256 data bytes and its link word, most significant byte first (R211). -/
def State.cellCrcOver (s : State) (link c : Nat) : Nat := crc32c (Mem.bytes s.cst.mem (256 * c) 256 ++ beBytes 4 link)

/-- The CRC that a cell of a frame holds: that of its contents, but for the cells listed as bad, whose CRC is some other value. -/
def State.cellCrcHeld (s : State) (link c : Nat) : Nat :=
  let v := s.cellCrcOver link c
  if s.cst.badCells.contains c then (v + 1 + Config.freeValue c % (2 ^ 32 - 1)) % 2 ^ 32 else v

/-- Write a cell: its data with zeros beyond FILL, and a CRC that fits (R211), unless an injected CRC fault awaits the next cell written
in its source (Table 6-12). -/
def State.writeCell (s : State) (c : Nat) (data : List Nat) : State :=
  let src := srcOfCell c
  let bad := s.cst.crcFaults.contains src
  let s := s.putCells (256 * c) (data ++ List.replicate (256 - data.length) 0)
  s.setCst { s.cst with
    badCells := (if bad then [c] else []) ++ s.cst.badCells.filter fun x => x != c
    crcFaults := if bad then s.cst.crcFaults.erase src else s.cst.crcFaults }

/-- Append a written cell to a frame, which begins with it if the writer has no frame in progress. -/
def State.appendCell (s : State) (w : Nat) (first : Option Nat) (c : Nat) (data : List Nat) : State × Nat :=
  let s := s.writeCell c data
  match first with
  | none => (s.putFrame c { writer := w, cells := [(c, data.length)] }, c)
  | some f =>
    match s.frame? f with
    | some o => (s.putFrame f { o with cells := o.cells ++ [(c, data.length)] }, f)
    | none => (s, f)

/-- Cut bytes into cells of 256. -/
def cellChunks : Nat → List Nat → List (List Nat)
  | 0, _ => []
  | n + 1, bs => if bs.isEmpty then [] else bs.take 256 :: cellChunks n (bs.drop 256)

/-- The bytes of a frame as stored. -/
def State.frameBytes (s : State) (f : Nat) : List Nat :=
  match s.frame? f with
  | some o => o.own ++ o.cells.flatMap fun c => Mem.bytes s.cst.mem (256 * c.1) c.2
  | none => []

/-- The cells of a frame whose CRC fails (R229). -/
def State.badCellsOf (s : State) (f : Nat) : List Nat :=
  match s.frame? f with
  | some o => (o.cells.map fun c => c.1).filter fun c => s.cst.badCells.contains c
  | none => []

/-! ### Release, retirement and bank failure -/

/-- The items of a control queue that hold a condition; its marker stays. -/
def CQueue.keep {α : Type} (q : CQueue α) (p : α → Bool) : CQueue α := { q with items := q.items.filter p, after := q.after.filter p }

/-- The keys of the queues that hold a frame. -/
def queuesWith (f : Nat) (m : SMap (List QItem)) : List Nat := (m.filter fun p => p.2.any fun x => x.frame == f).map fun p => p.1

/-- Remove a frame from every queue of the device: descriptors, records, egress, berth and inner queues, and jobs not yet begun. The queues'
occupancy is copied state (Table 4-5). -/
def State.unqueue (s : State) (f : Nat) : State :=
  let keep (q : List QItem) : List QItem := q.filter fun x => x.frame != f
  let ls := (queuesWith f s.cst.queues).map lineEgress ++ (queuesWith f s.cst.bq).map lineBerthQ
    ++ (queuesWith f s.cst.innerIn).map fun _ => lineInner
  let s := s.setCst { s.cst with
    queues := (s.cst.queues.map fun p => (p.1, keep p.2)).filter fun p => !p.2.isEmpty
    bq := (s.cst.bq.map fun p => (p.1, keep p.2)).filter fun p => !p.2.isEmpty
    innerIn := (s.cst.innerIn.map fun p => (p.1, keep p.2)).filter fun p => !p.2.isEmpty
    ingress := s.cst.ingress.map fun p => (p.1, { p.2 with fifo := p.2.fifo.keep fun d => d.1.cell != f })
    inbox := s.cst.inbox.filter fun d => d.1.cell != f
    notices := s.cst.notices.filter fun n => n.frame != f || n.seq.isSome
    flow := s.cst.flow.filter fun x => x.r.d.cell != f }
  let s := s.setSgw { s.sgw with jobs := s.sgw.jobs.keep fun it => it.frame != f }
  let s := s.setCph { s.cph with jobs := s.cph.jobs.keep fun j => j.item.frame != f }
  if ls.isEmpty then s else s.touch ls

/-- The ingress side gives up the frame at its head: banks of it that wait are freed, and the rest of it is refused (R215, R216). -/
def Ingress.giveUp (i : Ingress) : Ingress :=
  match i.waiting.findIdx? fun b => b.last with
  | some k => { i with waiting := i.waiting.drop (k + 1), current := none, next := none, landed := i.landed ++ [none] }
  | none => { i with waiting := [], current := none, next := none, refused := true }

/-- No cell has this number: it stands for a provisional continuation that has been dropped while its job runs. -/
def noFrame : Nat := cellCount

/-- A frame that is dropped whole leaves its landing: the rest of it is refused, and a lane that still writes it writes it no more. -/
def State.endLanding (s : State) (f : Nat) : State :=
  let out (x : Lane) : Lane :=
    match x.job with
    | some (.traffic j k a g (some n)) => if n = f then { x with job := some (.traffic j k a g (some noFrame)) } else x
    | _ => x
  let land (i : Ingress) : Ingress :=
    let i := { i with landed := i.landed.map fun x => if x = some f then none else x }
    if i.current = some f then i.giveUp else i
  let s := s.setCst { s.cst with ingress := s.cst.ingress.map fun p => (p.1, land p.2) }
  s.setCph { s.cph with lanes := s.cph.lanes.map fun p => (p.1, out p.2) }

/-- Bring BANK_FAILED in line with CST_STATUS.FAILED (Table 6-10). -/
def State.bankCond (s : State) : State := s.cond pgCST 6 (s.rd CST_STATUS_FAILED [] != 0)

/-- Whether a report is the receive-side record of a frame (R465). -/
def isRxLog (port seq : Nat) (e : LogEvent) : Bool :=
  match e with
  | .frame f => !f.tx && f.port == port && f.seq == seq && f.status != 3 && f.frame.isSome
  | _ => false

/-- Take back the receive-side report of a frame that still waits: one record stands for a frame (R465). Answers the frames whose
copy is given up. -/
def State.unlogRx (s : State) (port seq : Nat) : State × List Nat :=
  let gone := s.logLines.filterMap fun e => match e with
    | .frame f => if isRxLog port seq e then f.frame else none
    | _ => none
  ({ s with logLines := s.logLines.filter fun e => !isRxLog port seq e }, gone)

/-- Drop the recorder's hold on frames whose copy is given up. -/
def State.unhold (s : State) (fs : List Nat) : State :=
  fs.foldl (fun s f => match s.frame? f with
    | some o => s.putFrame f { o with holders := o.holders.erase (.reader 65) }
    | none => s) s

/-- The receive-side log report of a frame dropped by the cistern (R221, Table 13-3). -/
def State.logCst (s : State) (o : FrameObj) (cause : Nat) (r : Option Rec) : State :=
  if o.writer < 65 then
    let p := match o.seq with | some q => s.unlogRx o.writer q | none => (s, [])
    let s := p.1.unhold p.2
    match r with
    | some r =>
      s.log (.frame {
        port := o.writer, status := 2, detail := cause, len := r.d.len, bad := r.d.bad, cut := r.d.cut,
        berthValid := r.berthValid, berth := r.berth, seq := r.seq, medium := r.d.medium, stamp := r.d.stamp })
    | none =>
      s.log (.frame {
        port := o.writer, status := 2, detail := cause, len := o.len, medium := if o.writer < 32 then 0 else 3,
        stamp := (s.ingr o.writer).stamp, seq := o.seq.getD 0, cut := !o.complete })
  else s

/-- Whether a holder reads the frame. -/
def readerHolder (h : Holder) : Bool := match h with | .reader _ => true | _ => false

/-- Whether the gateway engine works on a frame. -/
def State.gatewayOn (s : State) (f : Nat) : Bool := match s.sgw.cur with | some j => j.item.frame == f | none => false

/-- Whether a cipher lane works on a frame. -/
def State.laneOn (s : State) (f : Nat) : Bool :=
  s.cph.lanes.any fun p => match p.2.job with | some (.traffic j _ _ _ _) => j.item.frame == f | _ => false

/-- The holders of a frame whose transmission, copy or job has started. -/
def State.startedBy (s : State) (f : Nat) (o : FrameObj) : List Holder :=
  o.holders.filter fun h => readerHolder h || (h == .inner 2 && s.gatewayOn f) || (h == .inner 3 && s.laneOn f)

/-- Retire the failed cells of a released frame while RETIRE_EN is 1 (R230). -/
def State.retire (s : State) (cells : List Nat) : State :=
  if s.on CST_CTRL_RETIRE_EN [] then
    cells.foldl (fun s c =>
      if s.cst.retired.contains c then s
      else ((s.setCst { s.cst with retired := s.cst.retired ++ [c] }).bump CST_CNT_RETIRED_CNT []).irq pgCST 3) s
  else s

/-- Return the cells of a frame to their sources (R212), withholding failed cells (R230). -/
def State.freeCells (s : State) (f : Nat) : State :=
  match s.frame? f with
  | none => s
  | some o => ({ s with cst := { s.cst with frames := SMap.erase s.cst.frames f } } : State).retire o.failed

/-- Drop every frame with a cell in a failing bank that is not scheduled and whose reading has not started (R231). -/
def State.bankDrop (s : State) (src : Nat) : State :=
  let hit := s.cst.frames.filter fun p =>
    p.2.charge != .scheduled && (s.startedBy p.1 p.2).isEmpty && p.2.cells.any fun c => srcOfCell c.1 == src
  hit.foldl (fun s p =>
    ((((s.logCst p.2 5 none).endLanding p.1).unqueue p.1).freeCells p.1).bump CST_CNT_BANK_DROP_CNT []) s

/-- A bank fails (R231). -/
def State.failBank (s : State) (src : Nat) : State :=
  let s := (s.wr CST_STATUS_FAILED [] (setBitOf (s.rd CST_STATUS_FAILED []) src)).bankCond
  (s.bankDrop src).hwm

/-- A bank whose Retired count exceeds 256 fails with error 0x05 (R231). -/
def State.retireLimit (s : State) (cell : Nat) : State :=
  let src := srcOfCell cell
  if src < 8 && 256 < s.retiredOf src && !s.bankFailed src then (s.err pgCST 0x05 1 cell).failBank src else s

/-- Free a frame whose last holder is gone (R212). -/
def State.freeFrame (s : State) (f : Nat) : State :=
  match s.frame? f with
  | none => s
  | some o => (o.failed.foldl (fun s c => s.retireLimit c) (s.freeCells f))

/-- A holder releases a frame; the last one frees it (R212). -/
def State.release (s : State) (f : Nat) (h : Holder) : State :=
  match s.frame? f with
  | none => s
  | some o =>
    let hs := o.holders.erase h
    let s := s.putFrame f { o with holders := hs }
    if hs.isEmpty then s.freeFrame f else s

/-- A frame gains a holder. -/
def State.hold (s : State) (f : Nat) (h : Holder) : State :=
  match s.frame? f with
  | none => s
  | some o => if o.holders.contains h then s else s.putFrame f { o with holders := o.holders ++ [h] }

/-- Drop a frame whole: it lands no further, leaves every queue, and its cells are freed. -/
def State.dropFrame (s : State) (f : Nat) : State := ((s.endLanding f).unqueue f).freeFrame f

/-- A frame refused whole at landing (R216). -/
def State.landRefuse (s : State) (w : Nat) (first : Option Nat) (len : Nat) : State :=
  let s := (s.bump CST_CNT_LAND_REFUSE_CNT []).irq pgCST 0
  let e : FrameLog := {
    port := w, status := 2, detail := 1, len := len, medium := if w < 32 then 0 else 3, stamp := (s.ingr w).stamp }
  let s := if w < 65 then s.log (.frame e) else s
  match first with
  | some f => s.dropFrame f
  | none => s

/-- Land the cells of a frame one by one. Answers the state and the frame's first cell, or `none` where the landing was refused. -/
def State.landChunks (w : Nat) : List (List Nat) → State → Option Nat → State × Option Nat
  | [], s, first => (s, first)
  | d :: ds, s, first =>
    match s.takeCell w first with
    | none => (s.landRefuse w first 0, none)
    | some c =>
      let p := s.appendCell w first c d
      State.landChunks w ds p.1 (some p.2)

/-- A frame's last byte has landed. -/
def State.landingDone (s : State) (f : Nat) : State :=
  match s.frame? f with
  | some o => s.putFrame f { o with complete := true }
  | none => s

/-- Land a frame whole, or the rest of a frame whose first bytes have landed. -/
def State.landFrame (s : State) (w : Nat) (first : Option Nat) (bytes : List Nat) : State × Option Nat :=
  let p := State.landChunks w (cellChunks 128 bytes) s first
  match p.2 with
  | none => p
  | some f => (p.1.landingDone f, some f)

/-! ### Descriptors -/

/-- The ingress descriptor FIFO holds 64 entries (Table 6-3). -/
def ingressDepth : Nat := 64

/-- A gap marker was created in a CST-owned queue (R237). -/
def State.cstGap (s : State) (created : Bool) : State := if created then (s.bump CST_CNT_GAP_CNT []).irq pgCST 5 else s

/-- Push a descriptor into the ingress FIFO of its writer (R132, R234). Answers whether it was pushed; a frame whose descriptor finds the
FIFO full is freed. -/
def State.pushDesc (s : State) (w : Nat) (d : Desc) (mark : Bool) : State × Bool :=
  let i := s.ingr w
  let r := i.fifo.push ingressDepth (d, mark) s.stamp
  let s := s.putIngr w { i with fifo := r.1 }
  if r.2.1 then
    match s.frame? d.cell with
    | some o => (s.putFrame d.cell { o with issued := true, bound := if d.cut then d.len else o.bound }, true)
    | none => (s, true)
  else ((s.cstGap r.2.2).dropFrame d.cell, false)

/-! ### Queues -/

/-- Items of egress queue i of quay q. -/
def State.egress (s : State) (q i : Nat) : List QItem := SMap.getD s.cst.queues (8 * q + i) []

/-- Change an egress queue, whose occupancy is copied state (Table 4-5). -/
def State.putEgress (s : State) (q i : Nat) (l : List QItem) : State :=
  (s.setCst { s.cst with queues := SMap.setD s.cst.queues [] (8 * q + i) l }).touch [lineEgress (8 * q + i)]

/-- What a quay holds beside its pages. -/
def State.quay (s : State) (q : Nat) : QuaySt := SMap.getD s.quays q {}

/-- Change what a quay holds. -/
def State.setQuay (s : State) (q : Nat) (x : QuaySt) : State := { s with quays := SMap.setD s.quays {} q x }

/-- Whether a CAN quay has a transmit request: an attempt, a busy message buffer or a queued frame. -/
def State.canRequests (s : State) (q : Nat) : Bool :=
  (s.quay q).tx.isSome || s.rd QYC_MB_PENDING_BUSY [q] != 0 || (List.range 4).any fun i => !(s.egress q i).isEmpty

/-- LONE_NODE clears when ACK_RUN is 0 or no request is left (R336). -/
def State.loneNode (s : State) (q : Nat) : State :=
  if s.rd QYC_STATUS_ACK_RUN [q] = 0 || !s.canRequests q then (s.setB QYC_STATUS_LONE_NODE [q] false).cond (pgQ q) 5 false else s

/-- LONE_NODE of a quay whose queue has lost frames; Ethernet quays have none. -/
def State.loneAfter (s : State) (q : Nat) : State := if q < 32 then s.loneNode q else s

/-- Items of a berth queue. -/
def State.berthQ (s : State) (b : Nat) : List QItem := SMap.getD s.cst.bq b []

/-- Change a berth queue. -/
def State.putBerthQ (s : State) (b : Nat) (l : List QItem) : State :=
  (s.setCst { s.cst with bq := SMap.setD s.cst.bq [] b l }).touch [lineBerthQ b]

/-- Records that have joined inner quay IQk. -/
def State.inner (s : State) (k : Nat) : List QItem := SMap.getD s.cst.innerIn k []

/-- Change the records that have joined an inner quay, whose occupancy is copied state. -/
def State.putInner (s : State) (k : Nat) (l : List QItem) : State :=
  (s.setCst { s.cst with innerIn := SMap.setD s.cst.innerIn [] k l }).touch [lineInner]

/-- Unscheduled cells a destination holds, a CUT frame counting with its bound (R220, R226). -/
def State.unschedHeldBy (s : State) (h : Holder) : Nat :=
  (s.cst.frames.map fun f =>
    if f.2.charge == .unscheduled && f.2.holders.contains h then f.2.cells.length + f.2.unlanded else 0).foldl (· + ·) 0

/-- Whether a frame is ready to be started as it stands: complete (R225 adds the CUT case per port). -/
def State.frameComplete (s : State) (f : Nat) : Bool := match s.frame? f with | some o => o.complete | none => false

end Sys2Proof.Machine
end

