-- ==== Sys2Proof/Machine/Parse.lean ====
section
/-! DEFINITION. Frame formats: Ethernet headers (R362), the stored CAN frame (Table 9-3), the HDR field of a descriptor, and the words
of a decision record with their check word (Table 4-2, R136). -/

namespace Sys2Proof.Machine

/-! ### Ethernet -/

/-- The parsed header of an Ethernet frame, before an ingress quay's defaults: the outer tag if any. -/
structure EthHdr where
  da : Nat
  sa : Nat
  tagged : Bool
  vid : Nat
  pcp : Nat
  dei : Nat
  etype : Nat
  deriving DecidableEq, Repr

/-- Bytes `a` to `a + n - 1` as a big-endian number. -/
def be (bs : List Nat) (a n : Nat) : Nat := ofBe ((bs.drop a).take n)

/-- Parse the outer header; a tag is marked by one of the listed TPIDs (R362). -/
def parseEth (tpids : List Nat) (bs : List Nat) : EthHdr :=
  let t := be bs 12 2
  if tpids.contains t then
    let tci := be bs 14 2
    { da := be bs 0 6, sa := be bs 6 6, tagged := true, vid := tci % 4096, pcp := tci / 8192, dei := tci / 4096 % 2, etype := be bs 16 2 }
  else { da := be bs 0 6, sa := be bs 6 6, tagged := false, vid := 0, pcp := 0, dei := 0, etype := t }

/-- HDR of an Ethernet descriptor (Table 4-2). -/
def hdrEth (h : EthHdr) : BitVec 128 :=
  BitVec.ofNat 128 (h.da * 2 ^ 80 + h.sa * 2 ^ 32 + h.vid * 2 ^ 20 + h.pcp * 2 ^ 17 + h.dei * 2 ^ 16 + h.etype)

/-- The header with an ingress quay's defaults: PVID for an untagged or priority-tagged frame, DEF_PCP for an untagged one (R362). -/
def ethDefaults (pvid defPcp : Nat) (h : EthHdr) : EthHdr :=
  if h.tagged then (if h.vid = 0 then { h with vid := pvid } else h) else { h with vid := pvid, pcp := defPcp, dei := 0 }

/-- DA of an Ethernet HDR. -/
def hdrDa (d : Desc) : Nat := d.hdr.toNat / 2 ^ 80 % 2 ^ 48
/-- SA of an Ethernet HDR. -/
def hdrSa (d : Desc) : Nat := d.hdr.toNat / 2 ^ 32 % 2 ^ 48
/-- VID of an Ethernet HDR. -/
def hdrVid (d : Desc) : Nat := d.hdr.toNat / 2 ^ 20 % 2 ^ 12
/-- PCP of an Ethernet HDR. -/
def hdrPcp (d : Desc) : Nat := d.hdr.toNat / 2 ^ 17 % 8
/-- EtherType of an Ethernet HDR. -/
def hdrEtype (d : Desc) : Nat := d.hdr.toNat % 2 ^ 16

/-! ### CAN -/

/-- FORMAT codes of Table 9-3. -/
def fmtCC : Nat := 0
/-- CAN FD. -/
def fmtFD : Nat := 1
/-- CAN XL. -/
def fmtXL : Nat := 2

/-- A classical frame with RTR. -/
def canRemote (f : CanFrame) : Bool := f.format == fmtCC && bitOf f.flags 0 == 1

/-- The stored form of a CAN frame (Table 9-3). -/
def canStore (f : CanFrame) : List Nat :=
  leBytes 4 (f.ident % 2 ^ 29 + (if f.ide then 2 ^ 29 else 0)) ++ [f.format % 256, f.flags % 16] ++ leBytes 2 f.dataLen
    ++ [if f.format = fmtXL then f.sdt % 256 else 0, if f.format = fmtXL then f.vcid % 256 else 0, 0, 0]
    ++ leBytes 4 (if f.format = fmtXL then f.af else 0)
    ++ (if canRemote f then [] else (f.data ++ List.replicate f.dataLen 0).take f.dataLen)

/-- The CAN frame that stored bytes hold. -/
def canParse (bs : List Nat) : CanFrame :=
  let w := ofLe (bs.take 4)
  { ident := w % 2 ^ 29, ide := bitOf w 29 == 1, format := (bs.drop 4).headD 0, flags := (bs.drop 5).headD 0,
    dataLen := ofLe ((bs.drop 6).take 2), sdt := (bs.drop 8).headD 0, vcid := (bs.drop 9).headD 0,
    af := ofLe ((bs.drop 12).take 4), data := bs.drop 16 }

/-- LEN of a stored CAN frame (R323). -/
def canLen (f : CanFrame) : Nat := if canRemote f then 16 else 16 + f.dataLen

/-- HDR of a CAN descriptor (Table 4-2, R324). -/
def hdrCan (f : CanFrame) : BitVec 128 :=
  let n := if f.format = fmtXL then f.dataLen - 1 else f.dataLen
  let d := if canRemote f then [] else f.data.take (min f.dataLen 4)
  BitVec.ofNat 128
    (f.ident % 2 ^ 29 * 2 ^ 99 + (if f.ide then 2 ^ 98 else 0) + (if f.format = fmtFD then 2 ^ 97 else 0)
      + (if f.format = fmtXL then 2 ^ 96 else 0) + bitOf f.flags 1 * 2 ^ 95 + bitOf f.flags 0 * 2 ^ 94 + n % 2 ^ 11 * 2 ^ 83
      + (if f.format = fmtXL then f.sdt % 256 * 2 ^ 75 + f.vcid % 256 * 2 ^ 67 + f.af % 2 ^ 32 * 2 ^ 35 else 0)
      + ofBe ((d ++ [0, 0, 0, 0]).take 4) * 2 ^ 3)

/-- ID of a CAN HDR. -/
def hdrId (d : Desc) : Nat := d.hdr.toNat / 2 ^ 99 % 2 ^ 29
/-- IDE of a CAN HDR. -/
def hdrIde (d : Desc) : Bool := d.hdr.toNat / 2 ^ 98 % 2 == 1
/-- VCID of a CAN HDR. -/
def hdrVcid (d : Desc) : Nat := d.hdr.toNat / 2 ^ 67 % 256

/-- The data lengths that a format admits (Table 9-3). -/
def canLenLegal (f : CanFrame) : Bool :=
  if f.format = fmtCC then f.dataLen ≤ 8
  else if f.format = fmtFD then f.dataLen ≤ 8 || [12, 16, 20, 24, 32, 48, 64].contains f.dataLen
  else if f.format = fmtXL then 1 ≤ f.dataLen && f.dataLen ≤ 2048
  else false

/-! ### Records -/

/-- Word 0 of a descriptor (Table 4-2). -/
def descWord0 (d : Desc) : Nat :=
  d.cell * 2 ^ 47 + d.len * 2 ^ 33 + d.src * 2 ^ 26 + d.rxq * 2 ^ 25 + d.medium * 2 ^ 22 + (if d.recirc then 2 ^ 21 else 0)
    + d.pass * 2 ^ 18 + (if d.bad then 2 ^ 17 else 0) + (if d.cut then 2 ^ 16 else 0) + d.hint * 4 + (if d.authOk then 2 else 0)
    + (if d.hintValid then 1 else 0)

/-- Word 1 of a descriptor. -/
def descWord1 (d : Desc) : Nat :=
  d.stamp / 2 ^ 16 / 1000000000 % 2 ^ 16 * 2 ^ 48 + d.stamp / 2 ^ 16 % 1000000000 * 2 ^ 16 + d.stamp % 2 ^ 16

/-- Word 4 of a record. -/
def recWord4 (r : Rec) : Nat :=
  (if r.berthValid then 2 ^ 60 else 0) + r.queue * 2 ^ 57 + r.berth * 2 ^ 43 + (if r.sched then 2 ^ 42 else 0)
    + (if r.vbr then 2 ^ 41 else 0) + r.tagOp * 2 ^ 39 + r.newVid * 2 ^ 27 + r.newPcp * 2 ^ 24 + r.reason * 2 ^ 21 + r.drop * 2 ^ 17
    + r.stroke

/-- The words of a record (Table 4-2). -/
def recWords (r : Rec) : List Nat :=
  [descWord0 r.d, descWord1 r.d, r.d.hdr.toNat / 2 ^ 64, r.d.hdr.toNat % 2 ^ 64, recWord4 r,
   r.claim * 2 ^ 48 + r.check * 2 ^ 32 + r.seq, r.ports, r.iq * 2 ^ 60]

/-- The check word of a record: words 0, 1, 2, 3, 4, 6 and 7, most significant byte first (R136). -/
def checkWord (r : Rec) : Nat :=
  crc16 ((([descWord0 r.d, descWord1 r.d, r.d.hdr.toNat / 2 ^ 64, r.d.hdr.toNat % 2 ^ 64, recWord4 r, r.ports, r.iq * 2 ^ 60]).flatMap
    fun w => beBytes 8 (w % 2 ^ 64)))

/-- Whether a record names a port: bit of PORTS for a quay, of IQ for an inner quay (Table 4-2). -/
def Rec.has (r : Rec) (port : Nat) : Bool := if port < 64 then bitOf r.ports port == 1 else bitOf r.iq (port - 64) == 1

end Sys2Proof.Machine
end

