-- ==== Sys2Proof/Machine/Verify.lean ====
section
/-! DEFINITION. Verification of a `.pbw` image: the checks of Table 3-6, in order, with the code and the byte offset of the
first failing item (R96). -/

namespace Sys2Proof.Machine

/-- What the checks of Table 3-6 compare the image with. -/
structure VerifyCtx where
  loaded : Nat
  minSeq : Nat
  revLogic : Nat
  revIo : Nat
  pkgId : Nat
  keyOk : Bool
  /-- AES-CMAC of the image under its key (R86). -/
  cmac : List Nat
  shadowCells : Nat
  /-- KIND of each cipher profile in force (R497). -/
  profiles : List Nat

/-- A failed check: code and byte offset. -/
abbrev VFail := Option (Nat × Nat)

/-- The first failure of a list. -/
def firstFail : List VFail → VFail
  | [] => none
  | some f :: _ => some f
  | none :: fs => firstFail fs

/-- A failure with a code at an offset unless the condition holds. -/
def failUnless (c : Bool) (code ofs : Nat) : VFail := if c then none else some (code, ofs)

/-- Whether a value has no bit outside a mask. -/
def within (v mask : Nat) : Bool := (v &&& mask) == v

/-- Whether port `p` is a CAN quay. -/
def isCan (p : Nat) : Bool := p < 32
/-- Whether port `p` is an Ethernet quay. -/
def isEth (p : Nat) : Bool := 32 ≤ p && p < 64

/-- Queue range of a port (Table 3-5). -/
def queueOk (p q : Nat) : Bool := if isEth p then q ≤ 7 else if isCan p then q ≤ 3 else q == 0

/-- The payload bit positions of a field (R178): little-endian from its start up; big-endian from its most significant bit
down each byte. Listed from value bit 0 up. -/
def fieldBitsBe : Nat → Nat → List Nat
  | 0, _ => []
  | w + 1, p => fieldBitsBe w (if p % 8 = 0 then p + 15 else p - 1) ++ [p]

/-- The payload positions of value bits 0 to w − 1. -/
def fieldBits (be : Bool) (start w : Nat) : List Nat :=
  if be then fieldBitsBe w start else (List.range w).map (fun k => start + k)

/-! ### Header and directory: checks 2 to 6, 9 to 11 -/

/-- The bytes of the image with the listed ranges zeroed. -/
def imgZeroed (m : Mem) (zero : Nat → Bool) : List Nat :=
  (List.range (imgLen m)).map fun i => if zero i then 0 else Mem.byte m i

/-- The bytes of R85: CRC and CMAC fields zero. -/
def imgCrcBytes (m : Mem) : List Nat := imgZeroed m fun i => 0x3C ≤ i && i < 0x50

/-- The bytes of R86: CMAC field zero. -/
def imgCmacBytes (m : Mem) : List Nat := imgZeroed m fun i => 0x40 ≤ i && i < 0x50

/-- ENTRY_SIZE of a section type (Table 3-3). -/
def sectionEntry (ty : Nat) : Option Nat :=
  match ty with
  | 1 => some 4 | 2 => some 8 | 3 => some 64 | 4 => some 24 | 5 => some 32 | 6 => some 8 | 7 => some 8 | 8 => some 16
  | 9 => some 8 | 10 => some 16 | 11 => some 64
  | _ => none

/-- Number of set bits among the 16,384 of the BERTHS bitmap at an offset. -/
def bitmapCount (m : Mem) (ofs : Nat) : Nat :=
  (List.range 2048).foldl (fun n i => n + ((List.range 8).filter fun b => bitOf (Mem.byte m (ofs + i)) b == 1).length) 0

/-- Layout of one directory entry (R84, R90, R95). -/
def dirOk (m : Mem) (i : Nat) (e : Section) : Bool :=
  sectionEntry e.ty == some e.entry
    && e.ofs % 64 == 0
    && e.len == e.entry * e.count + (if e.ty = 3 then 2048 else 0)
    && 0x80 + 16 * imgSections m ≤ e.ofs
    && e.ofs + e.len ≤ imgLen m
    && ((imgDirs m).zipIdx).all (fun p => p.2 == i || (p.1.ty != e.ty
          && (p.1.ofs + p.1.len ≤ e.ofs || e.ofs + e.len ≤ p.1.ofs)))
    && (e.ty != 3 || bitmapCount m e.ofs == e.count)

/-- Check 10 (R84, R90, R95). -/
def checkDir (m : Mem) : VFail :=
  firstFail
    ([failUnless (3 ≤ imgSections m && imgSections m ≤ 11) 0x0A 0x36]
      ++ ((imgDirs m).zipIdx).map (fun p => failUnless (dirOk m p.2 p.1) 0x0A (0x80 + 16 * p.2))
      ++ [1, 2, 10].map (fun t => failUnless ((imgDirs m).any (fun e => e.ty == t)) 0x0A 0x36))

/-- Check 12: the chain of STROKE_INDEX (R87). -/
def chainFrom (m : Mem) : List Nat → Nat → VFail
  | [], next => failUnless (next == imgActions m && next == (imgSection m 2).count && next ≤ 262144) 0x0C 0x38
  | s :: ss, next =>
    let e := imgStroke m s
    if e.1 = next ∧ e.2.1 ≤ 2048 then chainFrom m ss (next + e.2.1)
    else some (0x0C, (imgSection m 1).ofs + 4 * s)

/-! ### Actions: checks 13 and 14 -/

/-- Every action with its stroke and its index in ACTIONS. -/
def imgAll (m : Mem) : List (Nat × Nat × ActionWord) :=
  (List.range (imgTideLen m)).flatMap fun s =>
    let e := imgStroke m s
    (List.range e.2.1).map fun k => (s, e.1 + k, imgAction m (e.1 + k))

/-- PORT, INPUT, OUTPUT and the other operand fields of Table 3-5. -/
def ActionWord.port (a : ActionWord) : Nat := a.operand / 2 ^ 40 % 2 ^ 7
/-- SRC of an EMIT. -/
def ActionWord.emitPdu (a : ActionWord) : Bool := bitOf a.operand 49 == 1
/-- QUEUE of an EMIT. -/
def ActionWord.queue (a : ActionWord) : Nat := a.operand / 2 ^ 36 % 8
/-- INDEX, BERTH or PDU. -/
def ActionWord.index (a : ActionWord) : Nat := a.operand % 2 ^ 14
/-- OUTPUT of a TRIG, INPUT of a CAPW. -/
def ActionWord.line (a : ActionWord) : Nat := a.operand / 2 ^ 40 % 16
/-- LEVEL of a TRIG, OPEN of a CAPW. -/
def ActionWord.level (a : ActionWord) : Nat := bitOf a.operand 36

/-- Check 13: order and sharing limits within a stroke (R89). -/
def orderFrom (m : Mem) : List (Nat × Nat × ActionWord) → VFail
  | [] => none
  | (s, i, a) :: rest =>
    let same := (rest.takeWhile fun x => x.1 == s).filter fun x => x.2.2.slot == a.slot
    let next := rest.headD (s + 1, 0, a)
    if next.1 = s ∧ next.2.2.slot < a.slot then some (0x0D, (imgSection m 2).ofs + 8 * i + 8)
    else if same.length ≥ 8 then some (0x0D, (imgSection m 2).ofs + 8 * i)
    else if a.ty = 3 ∧ same.any (fun x => x.2.2.ty == 3 && x.2.2.line == a.line) then
      some (0x0D, (imgSection m 2).ofs + 8 * i)
    else if a.ty = 2 ∧ same.any (fun x => x.2.2.ty == 2 && x.2.2.port == a.port) then
      some (0x0D, (imgSection m 2).ofs + 8 * i)
    else orderFrom m rest

/-- Operand rules of Table 3-5, R186 and the schedule rule of Table 7-2 for one action. -/
def actionOk (m : Mem) (berthSched : Nat → Bool) (a : ActionWord) : Bool :=
  a.slot ≤ 999 &&
  match a.ty with
  | 1 => within a.operand (2 ^ 49 + 127 * 2 ^ 40 + 7 * 2 ^ 36 + (2 ^ 14 - 1)) && a.port ≤ 67 && queueOk a.port a.queue
          && (if a.emitPdu then a.index < 8192 && (imgLayout m a.index).isSome else berthSched a.index)
  | 2 => within a.operand (127 * 2 ^ 40 + 255) && a.port ≤ 63 && (!isCan a.port || a.operand % 256 < 16)
  | 3 => within a.operand (15 * 2 ^ 40 + 2 ^ 36 + 7)
  | 4 => within a.operand (15 * 2 ^ 40 + 2 ^ 36)
  | 5 => within a.operand (2 ^ 13 - 1) && (imgLayout m (a.operand % 2 ^ 13)).isSome
  | 6 => within a.operand (2 ^ 14 - 1) && berthSched a.index
  | 7 => within a.operand (2 ^ 12 - 1) && a.operand < (imgSection m 10).count
  | 8 => within a.operand (2 ^ 32 - 1)
  | _ => false

/-! ### Berths (Table 7-2, R245, R497) -/

/-- Whether a set of ports, given as a mask of bits 0–63, holds only ports that satisfy `p`. -/
def portsAll (mask : Nat) (p : Nat → Bool) : Bool := (List.range 64).all fun q => bitOf mask q == 0 || p q

/-- Whether any listed port is set. -/
def portsAny (mask : Nat) (p : Nat → Bool) : Bool := (List.range 64).any fun q => bitOf mask q == 1 && p q

/-- SCHED_MASK of a quay in an image (R91). -/
def imgSchedMask (m : Mem) (q : Nat) : Nat :=
  match (imgGates m).find? (fun g => g.1 == q) with
  | some g => g.2.2.1
  | none => 0

/-- Times, in slot positions of the tide, of the CHECK actions of a berth. -/
def checkTimes (m : Mem) (b : Nat) : List Nat :=
  ((imgAll m).filter fun x => x.2.2.ty == 6 && x.2.2.index == b).map fun x => x.1 * 1000 + x.2.2.slot

/-- The smallest distance between consecutive times around a tide of `t` slot positions. -/
def minGap (ts : List Nat) (t : Nat) : Nat :=
  match ts with
  | [] => 0
  | a :: _ =>
    let nexts := ts.drop 1 ++ [a + t]
    (ts.zip nexts).foldl (fun g p => min g (p.2 - p.1)) t

/-- Zero bits and ranges of a berth block's configuration (Table 7-1). -/
def berthFieldsOk (blk : List Nat) (c : BerthCfg) : Bool :=
  (c.mkind == 1 || c.mkind == 2)
    && (c.srcPort ≤ 67 || c.srcPort == 0xFF)
    && (if c.mkind = 1 then c.vidWord < 2 ^ 14 && (c.b02.drop 9).headD 0 == 0
        else c.idLo < 2 ^ 30 && c.idHi < 2 ^ 29 && c.fmtSet < 16)
    && c.out < 64 && c.tag < 32 && c.cph < 16 && c.newVid < 4096 && c.keyRef < 4096 && c.maxSdu < 2 ^ 14
    && (blk.drop 0x27).headD 0 == 0

/-- The consistency rules of Table 7-2 that speak of the block alone. -/
def berthRulesOk (c : BerthCfg) : Bool :=
  (if c.mkind = 2 then
      let lo := c.idLo % 2 ^ 29
      lo ≤ c.idHi
        && (!(bitOf c.idLo 29 == 0 || c.fmtSet % 8 == 4) || (lo ≤ 0x7FF && c.idHi ≤ 0x7FF))
        && c.fmtSet % 8 != 0
        && portsAll c.ports isCan && c.tag % 4 == 0
    else c.pcpSet != 0 && portsAll c.ports isEth)
    && (!portsAny c.ports isCan || c.queue ≤ 3)
    && (!c.bq || (c.sched && c.ports == 0 && !c.lookup))
    && (!c.lookup || (c.mkind == 1 && !c.sched && c.ports == 0))
    && (c.burst != 0 || c.rate == 0)
    && !(c.authRx && c.authTx)
    && (!(c.mkind == 2 && c.authRx) || c.vbr)

/-- The profile rule of R497 and Table 14-2. -/
def berthProfileOk (profiles : List Nat) (c : BerthCfg) : Bool :=
  !(c.authRx || c.authTx) ||
    match profiles.getD (c.cph % 16) 0 with
    | 1 => c.mkind == 1
    | 2 => c.mkind == 1
    | 3 => c.mkind == 2 && c.fmtSet % 8 == 4
    | 4 => c.mkind == 2
    | _ => false

/-- The rules of Table 7-2 that a berth's configuration must keep against an image's schedule. -/
def berthScheduleOk (m : Mem) (b : Nat) (c : BerthCfg) : Bool :=
  (!c.bq || (imgAll m).any fun x => x.2.2.ty == 1 && !x.2.2.emitPdu && x.2.2.index == b)
    && (!(c.sched && !c.bq) || portsAll c.ports fun q => bitOf (imgSchedMask m q) c.queue == 1)
    && (c.lead == 0 ||
        let ts := checkTimes m b
        ts != [] && c.lead ≤ minGap ts (imgTideLen m * 1000))

/-- Runtime bytes of a block in an image (R245). -/
def berthRuntimeOk (blk : List Nat) (c : BerthCfg) : Bool :=
  ofLe ((blk.drop 0x28).take 4) ≤ 256 * c.burst && ofLe ((blk.drop 0x2C).take 4) == 0 && ofLe ((blk.drop 0x38).take 8) == 0

/-- The berth blocks of an image: berth number, block bytes and offset. -/
def imgBlocks (m : Mem) : List (Nat × List Nat × Nat) :=
  ((imgBerths m).zipIdx).map fun p => (p.1, imgBerthBlock m p.2, (imgSection m 3).ofs + 2048 + 64 * p.2)

/-- The configuration of a valid berth of an image. -/
def imgBerth (m : Mem) (b : Nat) : Option BerthCfg :=
  ((imgBlocks m).find? fun x => x.1 == b).map fun x => berthOfBytes (x.2.1.take 40)

/-! ### The records of the other chapters -/

/-- Record limits of one value among keys. -/
def countKey (keys : List Nat) (k : Nat) : Nat := (keys.filter fun x => x == k).length

/-- A signal map record (Table 5-4, R180). -/
def mapOk (m : Mem) (x : SigMap) : Bool :=
  x.srcBerth < 2 ^ 14 && x.srcPos < 2 ^ 14 && 1 ≤ x.width && x.width ≤ 64 && x.flags < 32 && x.dstPdu < 8192
    && x.dstPos < 2 ^ 14 && x.srcUpd < 2 ^ 14 && x.dstUpd < 2 ^ 14
    && (bitOf x.flags 2 == 1 || x.srcUpd == 0) && (bitOf x.flags 3 == 1 || x.dstUpd == 0)
    && x.dflt < 2 ^ x.width
    && (match imgLayout m x.dstPdu with
        | none => false
        | some l =>
          (fieldBits (bitOf x.flags 1 == 1) x.dstPos x.width).all (fun p => p < 8 * l.length)
            && (bitOf x.flags 3 == 0 || x.dstUpd < 8 * l.length))

/-- LENGTH of a layout (Table 5-5). -/
def layoutLenOk (kind n : Nat) : Bool :=
  match kind with
  | 0 => n ≤ 8
  | 1 => n ≤ 8 || n == 12 || n == 16 || n == 20 || n == 24 || n == 32 || n == 48 || n == 64
  | 2 => 1 ≤ n && n ≤ 2048
  | 3 => 46 ≤ n && n ≤ 1500
  | _ => false

/-- A PDU layout record (Table 5-5). -/
def layoutOk (m : Mem) (a : Nat) (l : PduLayout) : Bool :=
  l.pdu < 8192 && l.kind ≤ 3 && l.flags < 16 && layoutLenOk l.kind l.length && l.base + 2 * l.lines ≤ 15104
    && (if l.kind = 3 then l.canId == 0
        else if l.kind = 2 then l.canId ≤ 0x7FF
        else if bitOf l.flags 1 = 1 then l.canId < 2 ^ 29 else l.canId ≤ 0x7FF)
    && (l.kind == 2 || (l.sdt == 0 && l.vcid == 0 && l.af == 0))
    && (if l.kind = 3 then l.hdrTunnel < (imgSection m 11).count && (imgTunnel m l.hdrTunnel).kind == 6 else l.hdrTunnel == 0)
    && l.txBerth < 2 ^ 14 && Mem.le m (a + 0x16) 10 == 0

/-- Whether two layouts' areas overlap. -/
def layoutsDisjoint (x y : PduLayout) : Bool := x.base + 2 * x.lines ≤ y.base || y.base + 2 * y.lines ≤ x.base

/-- A tunnel record (R194). -/
def tunnelOk (m : Mem) (t : Tunnel) : Bool :=
  let z := fun (l : List Nat) => l.all (· == 0)
  let srcKind := fun (k : Nat) => match imgBerth m t.srcBerth with | some c => c.mkind == k | none => false
  let tgtKind := fun (k : Nat) => match imgBerth m t.target with | some c => c.mkind == k | none => false
  let eth := t.sa ++ t.da
  t.b03 == 0 && z t.rest && t.srcBerth < 2 ^ 14 && t.target < 2 ^ 14 &&
  match t.kind with
  | 1 => within t.flags 7 && t.busId ≤ 31 && t.etype == 0 && 64 ≤ t.maxLen && t.maxLen ≤ 16379 && t.newId == 0
          && t.newFormat == 0 && t.newBrs == 0 && srcKind 2 && tgtKind 1 && (bitOf t.flags 0 == 1 || t.tci == 0)
  | 2 => within t.flags 8 && t.busId ≤ 31 && z eth && t.tci == 0 && t.etype == 0 && t.maxLen == 0 && t.newId == 0
          && t.newFormat == 0 && t.newBrs == 0 && srcKind 1 && tgtKind 2
  | 3 => within t.flags 1 && t.busId == 0 && z (t.streamId.drop 2) && t.etype == 0 && 64 ≤ t.maxLen && t.maxLen ≤ 16379
          && t.newId == 0 && t.newFormat == 0 && t.newBrs == 0 && srcKind 2 && tgtKind 1
          && (bitOf t.flags 0 == 1 || t.tci == 0)
  | 4 => within t.flags 8 && t.busId == 0 && z (t.streamId.drop 2) && z eth && t.tci == 0 && t.etype == 0 && t.maxLen == 0
          && t.newId == 0 && t.newFormat == 0 && t.newBrs == 0 && srcKind 1 && tgtKind 2
  | 5 => t.flags == 0 && t.busId == 0 && z t.streamId && z eth && t.tci == 0 && t.etype == 0 && t.maxLen == 0
          && within t.newId (2 ^ 31 + (2 ^ 29 - 1)) && t.newFormat ≤ 2 && t.newBrs ≤ 1 && srcKind 2 && tgtKind 2
  | 6 => within t.flags 1 && t.busId == 0 && t.srcBerth == 0 && t.target == 0 && z t.streamId && t.maxLen == 0
          && t.newId == 0 && t.newFormat == 0 && t.newBrs == 0 && (bitOf t.flags 0 == 1 || t.tci == 0)
  | _ => false

/-- Key of a preload record: DA and VID for KIND 0x01, VID for KIND 0x02. -/
def preloadKey (r : List Nat) : Nat × Nat × Nat :=
  (r.headD 0, ofLe ((r.drop 2).take 2), if r.headD 0 = 1 then ofLe ((r.drop 4).take 6) else 0)

/-- A preload record (R308, Table 8-6). -/
def preloadOk (r : List Nat) : Bool :=
  let kind := r.headD 0
  let b1 := (r.drop 1).headD 0
  let dest := ofLe ((r.drop 10).take 5)
  (kind == 1 || kind == 2) && ofLe ((r.drop 2).take 2) < 4096 && dest < 2 ^ 33 && (r.drop 15).headD 0 == 0
    && (if kind = 1 then b1 == 0 else b1 < 8 && ofLe ((r.drop 4).take 6) == 0)

/-- A window record (R94). DESIGN CHOICE (log 8): a start stroke index at or beyond the tide's length is accepted and taken modulo the tide; R94 names
no refusal for it. -/
def windowOk (w : WinRec) : Bool :=
  (match w.kind with
    | 0x01 => w.target ≤ 67
    | 0x02 => w.target ≤ 7
    | 0x03 => w.target ≤ 3
    | 0x04 => w.target == 0
    | 0x05 => w.target ≤ 63
    | 0x0F => w.target == 0
    | _ => false)
    && w.z2 == 0 && w.z14 == 0 && 1 ≤ w.len && w.len ≤ 1048576 && w.slot ≤ 999

/-- Whether keys repeat. -/
def noRepeat {α : Type} [BEq α] : List α → Bool
  | [] => true
  | a :: as => !as.contains a && noRepeat as

/-- Fail at the offset of each record that breaks its rule. -/
def recordsOk {α : Type} (xs : List α) (ofs entry : Nat) (ok : α → Bool) : List VFail :=
  (xs.zipIdx).map fun p => failUnless (ok p.1) 0x0E (ofs + entry * p.2)

/-- Check 14: every operand and record field in range, with zero bits zero. -/
def checkOperands (ctx : VerifyCtx) (m : Mem) : VFail :=
  let blocks := imgBlocks m
  let berthSched := fun b => match blocks.find? (fun x => x.1 == b) with
    | some x => (berthOfBytes (x.2.1.take 40)).sched
    | none => false
  let sec := fun t => (imgSection m t).ofs
  let maps := (imgMaps m).map Prod.snd
  let lays := imgLayouts m
  let tuns := (imgTunnels m).map Prod.snd
  firstFail
    ((List.range (imgTideLen m)).map (fun s => failUnless ((imgStroke m s).2.2 == 0) 0x0E (sec 1 + 4 * s))
      ++ (imgAll m).map (fun x => failUnless (actionOk m berthSched x.2.2) 0x0E (sec 2 + 8 * x.2.1))
      ++ blocks.map (fun x =>
          let c := berthOfBytes (x.2.1.take 40)
          failUnless (berthFieldsOk x.2.1 c && berthRulesOk c && berthScheduleOk m x.1 c && berthProfileOk ctx.profiles c
            && berthRuntimeOk x.2.1 c) 0x0E x.2.2)
      ++ recordsOk maps (sec 4) 24 (mapOk m)
      ++ [failUnless (maps.length ≤ 16384
            && maps.all (fun x => countKey (maps.map (·.srcBerth)) x.srcBerth ≤ 256 && countKey (maps.map (·.dstPdu)) x.dstPdu ≤ 256))
            0x0E (sec 4)]
      ++ (lays.zipIdx).map (fun p => failUnless (layoutOk m (sec 5 + 32 * p.2) p.1) 0x0E (sec 5 + 32 * p.2))
      ++ [failUnless (lays.length ≤ 8192 && noRepeat (lays.map (·.pdu)) && lays.foldl (fun n l => n + 2 * l.lines) 0 ≤ 15104
            && (lays.zipIdx).all (fun p => (lays.zipIdx).all fun r => p.2 == r.2 || layoutsDisjoint p.1 r.1)) 0x0E (sec 5)]
      ++ recordsOk (imgGates m) (sec 6) 8 (fun g => g.1 ≤ 63 && g.2.2.2 == 0
            && (!isCan g.1 || (g.2.1 < 16 && g.2.2.1 < 16)))
      ++ [failUnless (noRepeat ((imgGates m).map (·.1))) 0x0E (sec 6)]
      ++ recordsOk (imgTriggers m) (sec 7) 8 (fun t => t.1 ≤ 15 && t.2.1 ≤ 1 && t.2.2.1 ≤ 1 && t.2.2.2 == 0)
      ++ recordsOk (imgPreload m) (sec 8) 16 preloadOk
      ++ [failUnless (noRepeat ((imgPreload m).map preloadKey)
            && ((imgPreload m).filter (fun r => r.headD 0 == 1)).length ≤ 65536) 0x0E (sec 8)]
      ++ recordsOk (imgReservations m) (sec 9) 8 (fun r => r.port ≤ 67 && queueOk r.port r.queue && r.source ≤ 1 && r.b3 == 0
            && !(64 ≤ r.port && r.source == 0))
      ++ recordsOk (imgWindows m) (sec 10) 16 windowOk
      ++ [failUnless ((imgWindows m).length ≤ 4096) 0x0E (sec 10)]
      ++ recordsOk tuns (sec 11) 64 (tunnelOk m)
      ++ [failUnless (tuns.length ≤ 1024
            && tuns.all (fun t => t.kind == 6 || countKey ((tuns.filter (fun x => x.kind != 6)).map (·.srcBerth)) t.srcBerth ≤ 4))
            0x0E (sec 11)])

/-! ### Windows: checks 16 and 17 -/

/-- Whether slot position `p` of the tide lies inside a window, windows running on over the tide's end. -/
def inWindow (m : Mem) (w : WinRec) (p : Nat) : Bool :=
  let t := imgTideLen m * 1000
  (p + t - (w.stroke * 1000 + w.slot) % t) % t < w.len

/-- Check 16 (R120). -/
def checkSwapWindow (m : Mem) : VFail :=
  let ws := (imgWindows m).filter fun w => w.kind == 0x0F
  failUnless (ws.length == 1 && ws.all fun w => w.stroke == imgTideLen m - 1 && w.slot == 968 && w.len == 32) 0x10
    (imgSection m 10).ofs

/-- Whether an action breaks R118 against a window. -/
def windowConflict (m : Mem) (a : ActionWord) (pos : Nat) (w : WinRec) : Bool :=
  inWindow m w pos &&
    (w.kind == 0x0F
      || ((a.ty == 1 || a.ty == 2) && a.port ≤ 63
          && ((w.kind == 1 && w.target == a.port) || (w.kind == 2 && w.target == a.port / 8) || (w.kind == 5 && w.target == a.port)))
      || (a.ty == 1 && 64 ≤ a.port && w.kind == 1 && w.target == a.port)
      || (a.ty == 5 && w.kind == 1 && w.target == 66))

/-- Check 17 (R118). -/
def checkWindows (m : Mem) : VFail :=
  firstFail ((imgAll m).map fun x =>
    failUnless (!((imgWindows m).any (windowConflict m x.2.2 (x.1 * 1000 + x.2.2.slot)))
      && !(x.2.2.ty == 7 && (imgWindow m (x.2.2.operand % 2 ^ 12)).kind == 0x0F))
      0x11 ((imgSection m 2).ofs + 8 * x.2.1))

/-- Check 15 (R93). -/
def checkReserve (ctx : VerifyCtx) (m : Mem) : VFail :=
  failUnless ((List.range 8).all (fun k => imgFloor m k ≤ 4096) && imgFloor m 8 ≤ 65536 - ctx.shadowCells) 0x0F
    (imgSection m 9).ofs

/-- The checks of Table 3-6 in order, over the shadow memory of one plane. DESIGN CHOICE (log 8): check 2 gives two codes for three items, and a wrong
HDR_LEN takes 0x02 BAD_VERSION; a failure that concerns a section as a whole names the section's start, or its directory entry, as the failing
item. -/
def verifyImage (ctx : VerifyCtx) (m : Mem) : VFail :=
  firstFail
    [failUnless (Mem.bytes m 0 4 == [0x50, 0x42, 0x57, 0x1A]) 0x01 0x00,
     failUnless (Mem.byte m 4 == 1) 0x02 0x04,
     failUnless (Mem.le m 6 2 == 0x80) 0x02 0x06,
     failUnless (Mem.le m 8 4 == 0x64120001) 0x03 0x08,
     failUnless (Mem.byte m 0x0C ≤ ctx.revLogic) 0x03 0x0C,
     failUnless (Mem.byte m 0x0D ≤ ctx.revIo) 0x03 0x0D,
     failUnless (Mem.le m 0x10 8 == ctx.pkgId) 0x04 0x10,
     failUnless (imgLen m % 64 == 0 && 0x400 ≤ imgLen m && imgLen m ≤ 0x400000 && imgLen m ≤ ctx.loaded) 0x05 0x28,
     failUnless (crc32c (imgCrcBytes m) == imgCrc m) 0x06 0x3C,
     failUnless ctx.keyOk 0x07 0x34,
     failUnless (ctx.cmac == Mem.bytes m 0x40 16) 0x08 0x40,
     failUnless (ctx.minSeq ≤ imgSeq m) 0x09 0x30,
     checkDir m,
     failUnless (1 ≤ imgTideLen m && imgTideLen m ≤ 131072 && (imgSection m 1).count == imgTideLen m) 0x0B 0x2C,
     chainFrom m (List.range (imgTideLen m)) 0,
     orderFrom m (imgAll m),
     checkOperands ctx m,
     checkReserve ctx m,
     checkSwapWindow m,
     checkWindows m]

end Sys2Proof.Machine
end

