-- ==== Sys2Proof/Machine/BthOps.lean ====
section
/-! DEFINITION. Berths: configuration and runtime state, matching, gate windows, freshness and policing (chapter 7). -/

namespace Sys2Proof.Machine

/-! ### The berth store -/

/-- The configuration of a berth in force. -/
def State.berth (s : State) (b : Nat) : BerthCfg := berthOfBytes (Mem.bytes s.bth.cfg (64 * b) 40)

/-- A berth is valid while the active image marks it (R90). -/
def State.berthValid (s : State) (b : Nat) : Bool := s.bth.valid.contains b

/-- Raise STAT_SAT for a berth (R261). -/
def State.statSat (s : State) (b : Nat) : State :=
  ((s.wr BTH_LAST_SAT_VALID [] 1).wr BTH_LAST_SAT_BERTH [] b).irq pgBTH 0

/-- One more in a statistic that saturates at `lim`: the new value, and whether it has just reached its limit (R261). -/
def satInc (v lim : Nat) : Nat × Bool := if v < lim then (v + 1, v + 1 == lim) else (v, false)

/-- Which statistic of a berth. -/
inductive BStat where
  | pass | drop | authFail | late | miss
  deriving DecidableEq, Repr

/-- Count one in a statistic of a berth of a plane (Table 7-1). -/
def State.berthStat (s : State) (x b : Nat) (k : BStat) : State :=
  let r := s.rtOf x b
  match k with
  | .pass => let v := satInc r.passFrames 0xFFFFFFFF; let s := s.setRtOf x b { r with passFrames := v.1 }; if v.2 then s.statSat b else s
  | .drop => let v := satInc r.drop 255; let s := s.setRtOf x b { r with drop := v.1 }; if v.2 then s.statSat b else s
  | .authFail => let v := satInc r.authFail 255; let s := s.setRtOf x b { r with authFail := v.1 }; if v.2 then s.statSat b else s
  | .late => let v := satInc r.late 255; let s := s.setRtOf x b { r with late := v.1 }; if v.2 then s.statSat b else s
  | .miss => let v := satInc r.miss 255; let s := s.setRtOf x b { r with miss := v.1 }; if v.2 then s.statSat b else s

/-- Set BLOCKED of a berth if its BLOCK_EN is 1 (Table 7-3). -/
def State.blockBerth (s : State) (x b : Nat) : State :=
  let r := s.rtOf x b
  if (s.berth b).blockEn && !r.blocked then
    (((s.setRtOf x b { r with blocked := true }).wr BTH_LAST_BLOCK_VALID [] 1).wr BTH_LAST_BLOCK_BERTH [] b).irq pgBTH 1
  else s

/-! ### Matching (R247–R249) -/

/-- The rule of a berth recognises a descriptor (R247). -/
def berthMatches (c : BerthCfg) (d : Desc) : Bool :=
  (c.srcPort == 0xFF || c.srcPort == d.src) &&
  (if d.medium = 3 then
    c.mkind == 1
      && (bitOf c.vidWord 13 == 1 || c.da == hdrDa d)
      && (bitOf c.vidWord 12 == 1 || c.vidWord % 4096 == hdrVid d)
      && bitOf c.pcpSet (hdrPcp d) == 1
  else
    c.mkind == 2
      && bitOf c.fmtSet d.medium == 1
      && (bitOf c.idLo 29 == 1) == hdrIde d
      && c.idLo % 2 ^ 29 ≤ hdrId d && hdrId d ≤ c.idHi % 2 ^ 29
      && (d.medium != 2 || bitOf c.fmtSet 3 == 0 || c.vcid == hdrVcid d))

/-- The berth of a descriptor: the hinted one if it is valid (R249), otherwise the lowest-numbered valid berth that matches (R248). -/
def State.matchBerth (s : State) (d : Desc) : Option Nat :=
  if d.hintValid then (if s.berthValid d.hint then some d.hint else none)
  else s.bth.valid.find? fun b => berthMatches (s.berth b) d

/-! ### Gate windows and deadlines (R252, R253, R716) -/

/-- The first of a list of offsets, in harbour units within a period, strictly later than a time, counted from an origin. -/
def nextOccurrence (origin : Nat) (period : Nat) (offs : List Nat) (t : Nat) : Option Nat :=
  match offs with
  | [] => none
  | a :: _ =>
    let rel := (((t : Int) - origin) % period).toNat
    match offs.find? fun o => rel < o with
    | some o => some (t + (o - rel))
    | none => some (t + (period - rel) + a)

/-- The harbour time of the first CHECK of a berth strictly later than a time; none while no image runs (R716) or without a CHECK. -/
def State.nextCheck (s : State) (b t : Nat) : Option Nat :=
  if s.running && s.tideLen != 0 then
    nextOccurrence (s.strokeStart s.base) (s.tideLen * strokeUnits) ((checkTimes s.tid.active b).map fun p => p * slotUnits) t
  else none

/-- A stamp as a harbour time. -/
def stampTime (t : Nat) : Nat := t * 2 ^ 24

/-- Step 3 of Table 7-3: the stamp lies in a gate window of the berth, or the berth has no gate (R252, R716). -/
def State.gateOk (s : State) (b : Nat) (d : Desc) : Bool :=
  let lead := (s.berth b).lead
  lead == 0 ||
    match s.nextCheck b (stampTime d.stamp) with
    | some c => c ≤ stampTime d.stamp + lead * slotUnits
    | none => false

/-- Step 4 of Table 7-3: the frame is late against its CHECK (R253, R254). -/
def State.lateForCheck (s : State) (b : Nat) (d : Desc) : Bool :=
  match s.nextCheck b (stampTime d.stamp) with
  | some c => c ≤ s.count
  | none => false

/-! ### Freshness (R257, R258, R490, R499) -/

/-- Largest freshness value of a profile (Table 14-2). -/
def State.freshMax (s : State) (prof : Nat) : Nat :=
  match s.rd CPH_PROF_A_KIND [prof] with
  | 1 => 2 ^ 32 - 1
  | 4 => 2 ^ s.rd CPH_PROF_A_FV_BITS [prof] - 1
  | _ => 2 ^ 60 - 1

/-- The 64-bit packet number of GCM-AES-XPN from its low 32 bits, with FRESH as reference (R490; the rule is that of IEEE 802.1AE,
PRESUMED). -/
def xpnRecover (fresh lo : Nat) : Nat :=
  let hi := fresh / 2 ^ 32
  if fresh % 2 ^ 32 ≥ 2 ^ 31 ∧ lo < 2 ^ 31 then (hi + 1) * 2 ^ 32 + lo else hi * 2 ^ 32 + lo

/-- Bytes of a KIND 4 trailer (R498). -/
def trailerLen (fvBits tag : Nat) : Nat := (fvBits + 8 * tag + 7) / 8

/-- FV of a KIND 4 trailer: the value with the received low bits in the range of R499. A negative value of that range is replaced by the
next value with the same low bits (DEDUCED: FV is not negative). -/
def truncFv (fresh w n bits : Nat) : Nat :=
  if n = 0 then fresh + 1
  else
    let lo : Int := (fresh : Int) - w + 1
    let v : Int := lo + ((bits : Int) - lo) % (2 ^ n : Int)
    if v < 0 then (v + 2 ^ n).toNat else v.toNat

/-- The freshness value that the Parse stage takes from a frame of an AUTH_RX berth (R257, R490). -/
def State.frameFv (s : State) (x b : Nat) (d : Desc) : Nat :=
  let c := s.berth b
  let prof := c.cph % 16
  let bs := s.frameBytes d.cell
  let fresh := (s.rtOf x b).fresh
  if d.hintValid && d.src == 67 then d.fv else
  match s.rd CPH_PROF_A_KIND [prof] with
  | 1 => be bs 16 4
  | 2 => xpnRecover fresh (be bs 16 4)
  | 3 => Config.cansecFreshness (bs.drop 16)
  | 4 =>
    let n := s.rd CPH_PROF_A_FV_BITS [prof]
    let t := trailerLen n (s.rd CPH_PROF_A_TAG_BYTES [prof])
    let tr := bs.drop (bs.length - t)
    truncFv fresh (s.rd CPH_PROF_B_WINDOW [prof]) n (ofBe tr / 2 ^ (8 * t - n))
  | _ => 0

/-- Step 5 of Table 7-3 (R257). -/
def State.freshOk (s : State) (x b fv : Nat) : Bool :=
  (s.rtOf x b).fresh < fv + s.rd CPH_PROF_B_WINDOW [(s.berth b).cph % 16]

/-! ### Meter (R255) -/

/-- The bucket after its fill, before any cost. -/
def meterFill (c : BerthCfg) (r : BerthRt) (stroke : Nat) : Nat :=
  let e := (stroke % 2 ^ 24 + 2 ^ 24 - r.meterStroke % 2 ^ 24) % 2 ^ 24
  min (256 * c.burst) (r.tokens + c.rate * e)

/-- The cost of a frame of a length. -/
def meterCost (c : BerthCfg) (len : Nat) : Nat := if c.meterFrames then 256 else 256 * len

/-- Step 6 of Table 7-3: the state with the meter updated, and whether the frame passes. -/
def State.meter (s : State) (x b : Nat) (len : Nat) : State × Bool :=
  let c := s.berth b
  let r := s.rtOf x b
  if c.burst = 0 then (s, true)
  else
    let fill := meterFill c r s.stroke
    let cost := meterCost c len
    let ok := cost ≤ fill
    (s.setRtOf x b { r with tokens := if ok then fill - cost else fill, meterStroke := s.stroke % 2 ^ 24 }, ok)

/-! ### Policing (Table 7-3) -/

/-- Set the arrival flag of a berth (R125). -/
def State.arrive (s : State) (b : Nat) : State :=
  if s.tid.arrived.contains b then s else { s with tid := { s.tid with arrived := b :: s.tid.arrived } }

/-- A frame counts as late at its berth. -/
def State.berthLate (s : State) (x b : Nat) : State := s.berthStat x b .late

/-- The outcome of policing: dropped with a class, or accepted, with the freshness value for IQ3. -/
inductive Verdict where
  | drop (cls : Nat)
  | accept
  deriving DecidableEq, Repr

/-- Whether a continuation is provisional still: its tag has not checked (R495). -/
def State.tagPending (s : State) (d : Desc) : Bool :=
  d.cut && (match s.frame? d.cell with | some o => !o.noticed | none => true)

/-- Steps 4 to 7 of Table 7-3 after the first three have passed. `first` is the first pass; `fv` the freshness value of an AUTH_RX
frame. -/
def State.policeRest (s : State) (x b : Nat) (d : Desc) (first : Bool) (fv : Nat) : State × Verdict :=
  let c := s.berth b
  let tests4 := first || c.authRx
  let isLate := tests4 && s.lateForCheck b d
  if isLate && c.dlStrict then (((s.berthLate x b).bump BTH_CNT_DL_CLOSED_CNT []), .drop 8)
  else
    let s := if isLate then (s.berthLate x b).bump BTH_CNT_LATE_ACCEPT_CNT [] else s
    if c.authRx && !s.freshOk x b fv then ((s.berthStat x b .authFail).bump BTH_CNT_FRESH_CNT [], .drop 7)
    else
      let m := if first then s.meter x b d.len else (s, true)
      let s := m.1
      if !m.2 then ((s.berthStat x b .drop).bump BTH_CNT_METER_CNT [], .drop 4)
      else if first && c.authRx then (s, .accept)
      else if !first && !c.authRx then (s, .accept)
      else
        let s := s.berthStat x b .pass
        let r := s.rtOf x b
        let s := if !c.authRx && !c.authTx && !d.cut then s.setRtOf x b { r with fresh := (r.fresh + d.len) % 2 ^ 64 } else s
        let s := if c.authRx && !s.tagPending d then s.setRtOf x b { s.rtOf x b with fresh := max (s.rtOf x b).fresh fv } else s
        (if isLate then s else s.arrive b, .accept)

/-- The Police stage (Table 7-3, R251). -/
def State.police (s : State) (x b : Nat) (d : Desc) (fv : Nat) : State × Verdict :=
  let c := s.berth b
  let first := !(d.hintValid && d.src == 67)
  if !first then
    if c.authRx && !d.authOk then ((s.berthStat x b .authFail).bump BTH_CNT_AUTH_CNT [], .drop 6)
    else if c.authRx then s.policeRest x b d false fv
    else (s, .accept)
  else if (s.rtOf x b).blocked then ((s.berthStat x b .drop).bump BTH_CNT_GATE_BLOCKED_CNT [], .drop 3)
  else if c.maxSdu % 2 ^ 14 != 0 && !d.cut && c.maxSdu % 2 ^ 14 < d.len then
    (((s.berthStat x b .drop).bump BTH_CNT_FILTER_CNT []).blockBerth x b, .drop 2)
  else if !s.gateOk b d then
    ((((s.berthLate x b).bump BTH_CNT_LATE_GATE_CNT []).bump TID_CNT_LATE_ARRIVAL_CNT []).blockBerth x b, .drop 5)
  else s.policeRest x b d true fv

end Sys2Proof.Machine
end

