-- ==== Sys2Proof/Machine/LkpOps.lean ====
section
/-! DEFINITION. The lookup tables: hashing, search, placement, relocation, forwarding and learning requests (chapter 8). -/

namespace Sys2Proof.Machine

/-! ### Entries -/

/-- ENT0–ENT3 of an entry (Table 8-2). -/
def entWords (e : FwdEntry) : List Nat :=
  [e.da % 2 ^ 32,
   e.da / 2 ^ 32 % 2 ^ 16 * 2 ^ 16 + e.vid % 4096 * 16 + (if e.valid then 8 else 0) + (if e.static then 4 else 0)
     + (if e.img then 2 else 0) + (if e.destIq0 then 1 else 0),
   e.dest % 2 ^ 32,
   e.age % 16 * 2 ^ 28 + e.stamp % 256 * 2 ^ 20 + e.gen % 2 ^ 16]

/-- DATA0 and DATA1 of a VLAN entry (Table 8-1). -/
def vlanWords (v : VlanEntry) : List Nat :=
  [v.member % 2 ^ 32,
   (if v.valid then 2 ^ 31 else 0) + (if v.floodMc then 8 else 0) + (if v.floodUc then 4 else 0) + (if v.learnEn then 2 else 0)
     + (if v.memberIq0 then 1 else 0), 0, 0]

/-- The VLAN entry of DATA0 and DATA1. -/
def vlanOfWords (d0 d1 : Nat) : VlanEntry :=
  { member := d0, valid := bitOf d1 31 == 1, floodMc := bitOf d1 3 == 1, floodUc := bitOf d1 2 == 1, learnEn := bitOf d1 1 == 1,
    memberIq0 := bitOf d1 0 == 1 }

/-! ### Places -/

/-- The bucket of a key under a seed (R282). -/
def bucketOf (seed da vid : Nat) : Nat := crc32c (leBytes 4 seed ++ beBytes 2 (vid % 4096) ++ beBytes 6 da) % 0x4000

/-- Entries of the overflow store. -/
def ovfCount : Nat := 512

/-- The entry at a location. -/
def LkpBank.at (b : LkpBank) (l : Loc) : FwdEntry :=
  if l.ovf then SMap.getD b.ovf l.idx {} else SMap.getD b.fwd l.idx {}

/-- Write the entry at a location. -/
def LkpBank.put (b : LkpBank) (l : Loc) (e : FwdEntry) : LkpBank :=
  if l.ovf then { b with ovf := SMap.setD b.ovf {} l.idx e } else { b with fwd := SMap.setD b.fwd {} l.idx e }

/-- The four locations of a bucket. -/
def bucketLocs (k : Nat) : List Loc := (List.range 4).map fun w => ⟨false, 4 * k + w⟩

/-- An entry holds a key. -/
def holdsKey (e : FwdEntry) (da vid : Nat) : Bool := e.valid && e.da == da && e.vid == vid

/-- Where a key is held in a bank (R283: at most one place). -/
def LkpBank.find (b : LkpBank) (seed da vid : Nat) : Option Loc :=
  match (bucketLocs (bucketOf seed da vid)).find? fun l => holdsKey (b.at l) da vid with
  | some l => some l
  | none => (List.find? (fun p : Nat × FwdEntry => holdsKey p.2 da vid) b.ovf).map fun p => ⟨true, p.1⟩

/-- The lowest free way of a bucket. -/
def LkpBank.freeWay (b : LkpBank) (k : Nat) : Option Loc := (bucketLocs k).find? fun l => !(b.at l).valid

/-- The first index from `i` on, among `n`, whose overflow entry is free. -/
def freeOvfFrom (b : LkpBank) : Nat → Nat → Option Loc
  | 0, _ => none
  | n + 1, i => if (b.at ⟨true, i⟩).valid then freeOvfFrom b n (i + 1) else some ⟨true, i⟩

/-- The lowest free overflow entry. -/
def LkpBank.freeOvf (b : LkpBank) : Option Loc := freeOvfFrom b ovfCount 0

/-- The dynamic entry of a bucket with the lowest AGE, lowest way on a tie (R283). -/
def LkpBank.victim (b : LkpBank) (k : Nat) : Option Loc :=
  (bucketLocs k).foldl (fun best l =>
    let e := b.at l
    if e.valid && !e.static then
      match best with
      | none => some l
      | some m => if e.age < (b.at m).age then some l else best
    else best) none

/-- A placement: the bank, where the entry went, and how many relocations it took. -/
structure Placed where
  bank : LkpBank
  loc : Loc
  moved : List Loc := []
  deriving DecidableEq, Repr

/-- Steps 1 to 3 of R283; none when the insertion reaches step 4. -/
def LkpBank.place (b : LkpBank) (seed : Nat) (e : FwdEntry) : Option Placed :=
  let k := bucketOf seed e.da e.vid
  match b.freeWay k with
  | some l => some { bank := b.put l e, loc := l }
  | none =>
    match b.freeOvf with
    | none => none
    | some o =>
      match (if e.static then b.victim k else none) with
      | some v => some { bank := (b.put o (b.at v)).put v e, loc := v, moved := [o] }
      | none => some { bank := b.put o e, loc := o }

/-- An entry invalidated: VALID falls and the rest of its words stay. -/
def inval (e : FwdEntry) : FwdEntry := { e with valid := false }

/-- The lowest-indexed dynamic overflow entry that belongs to a bucket is relocated into its freed way (R284). -/
def LkpBank.drain (b : LkpBank) (seed k : Nat) : LkpBank × List Loc :=
  match b.freeWay k, List.find? (fun p : Nat × FwdEntry => p.2.valid && !p.2.static && bucketOf seed p.2.da p.2.vid == k) b.ovf with
  | some w, some p => ((b.put w p.2).put ⟨true, p.1⟩ (inval p.2), [w, ⟨true, p.1⟩])
  | _, _ => (b, [])

/-- The delta line of a location. -/
def lineLoc (l : Loc) : Nat := if l.ovf then lineOvf l.idx else lineBucket (l.idx / 4)

/-! ### The tables of a plane -/

/-- The lookup tables of a plane. -/
def State.lkpOf (s : State) (x : Nat) : LkpImg := (s.plane x).img.lkp

/-- Change the lookup tables of a plane, recording the changed locations. -/
def State.setLkpOf (s : State) (x : Nat) (i : LkpImg) (locs : List Loc) : State :=
  s.setImgOf x { (s.plane x).img with lkp := i } (lineLkp :: locs.map lineLoc)

/-- Change the lookup tables of a plane, recording the changed locations of the idle bank, or of the active one. -/
def State.setLkpAt (s : State) (x : Nat) (idle : Bool) (i : LkpImg) (locs : List Loc) : State :=
  s.setImgOf x { (s.plane x).img with lkp := i } (lineLkp :: locs.map fun l => if idle then lineIdle (lineLoc l) else lineLoc l)

/-- Seed of the active bank. -/
def State.seedActive (s : State) : Nat := s.rd LKP_SEED_ACTIVE_SEED []
/-- Seed of the idle bank. -/
def State.seedIdle (s : State) : Nat := s.rd LKP_SEED_IDLE_SEED []
/-- A rebuild is open (R298). -/
def State.rebuildOpen (s : State) : Bool := s.on LKP_STATUS_REBUILD_OPEN []

/-- The next generation value (R281). -/
def LkpImg.nextGen (i : LkpImg) : LkpImg := { i with gen := (i.gen + 1) % 2 ^ 16 }

/-- Bring REHASH_REQ and RESULT in line (Table 8-10). -/
def State.lkpConds (s : State) : State :=
  (s.cond pgLKP 0 (s.lkpOf s.actPlane).pend.isSome).cond pgLKP 4 (s.lkp.results.depth != 0 || s.lkp.results.gap.isSome)

/-- Count relocations (R285). -/
def State.relocations (s : State) (n : Nat) : State := s.bumpBy LKP_CNT_RELOCATE_CNT [] n

/-- A mirrored insertion that reaches step 4 fails (R298). -/
def State.mirrorFail (s : State) : State := (s.wr LKP_STATUS_MIRROR_FAIL [] 1).irq pgLKP 3

/-- Apply an entry's learn, refresh or move to the idle bank of a plane while a rebuild is open (R298). A static entry that holds the key there
is never learned over or moved (Table 8-2). -/
def State.mirror (s : State) (x : Nat) (e : FwdEntry) : State :=
  if s.rebuildOpen then
    let i := s.lkpOf x
    match i.idle.find s.seedIdle e.da e.vid with
    | some l => if (i.idle.at l).static then s else s.setLkpAt x true { i with idle := i.idle.put l e } [l]
    | none =>
      match i.idle.place s.seedIdle e with
      | some p => (s.setLkpAt x true { i with idle := p.bank } (p.loc :: p.moved)).relocations p.moved.length
      | none => s.mirrorFail
  else s

/-- What stands in the pending register as an entry of the bank that holds its key: an entry that the driver put there stays, but for a
dynamic one that a static pending entry takes over (DESIGN CHOICE, log 9: no rule speaks of a pending entry whose key a bank exchange
brings back). -/
def State.settlePending (s : State) (x : Nat) (e : FwdEntry) (l : Loc) : State :=
  let i := s.lkpOf x
  let old := i.active.at l
  if e.static && !old.static then s.setLkpOf x { i with active := i.active.put l e, pend := none } [l]
  else s.setLkpOf x { i with pend := none } []

/-- The pending entry is retried in the active bank of a plane (R296). A key is held in one place (R283): while another copy of it is held
there, the pending entry stays. -/
def State.retryPending (s : State) (x : Nat) : State :=
  let i := s.lkpOf x
  match i.pend with
  | none => s
  | some e =>
    match i.active.find s.seedActive e.da e.vid, i.active.place s.seedActive e with
    | none, some p => (s.setLkpOf x { i with active := p.bank, pend := none } (p.loc :: p.moved)).relocations p.moved.length
    | _, _ => s

/-- One bank of the lookup tables. -/
def LkpImg.bank (i : LkpImg) (idle : Bool) : LkpBank := if idle then i.idle else i.active

/-- Change one bank of the lookup tables of a plane. -/
def LkpImg.setBank (i : LkpImg) (idle : Bool) (b : LkpBank) : LkpImg := if idle then { i with idle := b } else { i with active := b }

/-- Seed of a bank. -/
def State.seedOf (s : State) (idle : Bool) : Nat := if idle then s.seedIdle else s.seedActive

/-- A freed way of a bucket takes its overflow entry (R284). Answers whether an entry was relocated. -/
def State.drainBucket (s : State) (x : Nat) (idle : Bool) (bucket : Nat) : State × Bool :=
  let i := s.lkpOf x
  let d := (i.bank idle).drain (s.seedOf idle) bucket
  if d.2.isEmpty then (s, false) else ((s.setLkpAt x idle (i.setBank idle d.1) d.2).relocations 1, true)

/-- A place in a bank of a plane has freed: in the active bank the pending entry is retried first, and again where the drain frees an overflow
entry (R284, R296). -/
def State.afterFree (s : State) (x : Nat) (idle : Bool) (bucket : Nat) : State :=
  if idle then (s.drainBucket x true bucket).1
  else
    let p := (s.retryPending x).drainBucket x false bucket
    if p.2 then p.1.retryPending x else p.1

/-- Invalidate the entry at a location of a bank with the next generation value (R281), and use what it frees. -/
def State.removeAt (s : State) (x : Nat) (idle : Bool) (l : Loc) : State :=
  let i := s.lkpOf x
  let e := (i.bank idle).at l
  let j := i.nextGen
  let s := s.setLkpAt x idle (j.setBank idle ((j.bank idle).put l { inval e with gen := i.gen })) [l]
  s.afterFree x idle (bucketOf (s.seedOf idle) e.da e.vid)

/-- Remove a key from the idle bank while a rebuild is open (R298): an age-out committed in the active bank, which a static entry of the idle bank
does not take (Table 8-2). The removal takes no generation value of its own. -/
def State.mirrorRemove (s : State) (x da vid : Nat) : State :=
  if s.rebuildOpen then
    let i := s.lkpOf x
    match i.idle.find s.seedIdle da vid with
    | some l =>
      if (i.idle.at l).static then s
      else (s.setLkpAt x true { i with idle := i.idle.put l (inval (i.idle.at l)) } [l]).afterFree x true (bucketOf s.seedIdle da vid)
    | none => s
  else s

/-- Place an entry in the pending register (R294). -/
def State.toPending (s : State) (x : Nat) (e : FwdEntry) : State :=
  (s.setLkpOf x { s.lkpOf x with pend := some e } []).bump LKP_CNT_REHASH_REQ_CNT []

/-! ### Forwarding (R286–R288) -/

/-- A destination set: quays Q32–Q63 as a mask, and IQ0. -/
structure DestSet where
  mask : Nat
  iq0 : Bool
  deriving DecidableEq, Repr

/-- The membership port of a frame (R286): SRC for a frame from an Ethernet quay or IQ0, for a continuation the membership port of the
descriptor that started its job, which IQ3 has kept, none for a frame from IQ2. -/
def memberPort (d : Desc) : Option Nat :=
  let src := if d.src = 67 then d.origin else d.src
  if src = 66 then none else some src

/-- Whether a port is a member of a VLAN. -/
def isMember (v : VlanEntry) (p : Nat) : Bool :=
  if 32 ≤ p ∧ p < 64 then bitOf v.member (p - 32) == 1 else p == 64 && v.memberIq0

/-- A destination set without a port. -/
def DestSet.without (t : DestSet) (p : Option Nat) : DestSet :=
  match p with
  | none => t
  | some p => if 32 ≤ p ∧ p < 64 then { t with mask := clearBitOf t.mask (p - 32) } else if p = 64 then { t with iq0 := false } else t

/-- What the lookup says of a frame: dropped, or a reason and a destination set. -/
inductive LookupOut where
  | noVlan
  | fwd (reason : Nat) (t : DestSet) (cnt : Option Fld)

/-- Forward a frame through the active bank of a plane (R286, R287). -/
def State.lookup (s : State) (x : Nat) (d : Desc) : LookupOut :=
  let b := (s.lkpOf x).active
  let v := SMap.getD b.vlan (hdrVid d) {}
  let port := memberPort d
  let member := match port with | none => true | some p => isMember v p
  if !v.valid || !member then .noVlan
  else
    let da := hdrDa d
    match b.find s.seedActive da (hdrVid d) with
    | some l =>
      let e := b.at l
      let t : DestSet := { mask := e.dest &&& v.member, iq0 := e.destIq0 && v.memberIq0 }
      .fwd (if e.static then 2 else 1) (t.without port) (some LKP_CNT_HIT_CNT)
    | none =>
      let flood := if bitOf da 40 = 1 then v.floodMc else v.floodUc
      let t : DestSet := if flood then { mask := v.member, iq0 := v.memberIq0 } else { mask := 0, iq0 := false }
      .fwd 3 (t.without port) (if flood then some LKP_CNT_FLOOD_CNT else none)

/-- QUEUE of a frame that matched no berth (R288). -/
def State.pcpQueue (s : State) (pcp : Nat) : Nat := s.rd LKP_PCP_QMAP_MAP [] / 2 ^ (3 * pcp) % 8

/-! ### Learning requests (R289) -/

/-- Whether the Match stage raises a learning request (R289). -/
def State.raisesLearn (s : State) (x : Nat) (d : Desc) : Bool :=
  let v := SMap.getD (s.lkpOf x).active.vlan (hdrVid d) {}
  let sa := hdrSa d
  d.medium == 3 && d.pass == 0 && 32 ≤ d.src && d.src < 64 && bitOf (s.rd LKP_LEARN_PORTS_MASK []) (d.src - 32) == 1
    && s.on LKP_CTRL_LEARN_EN [] && v.valid && v.learnEn && bitOf sa 40 == 0 && sa != 0 && !d.bad

/-- Depth of the learning queue (Table 6-3). -/
def learnDepth : Nat := 256

/-- A request enters the learning queue. -/
def State.pushLearn (s : State) (x : LearnReq) : State :=
  let r := s.lkp.learn.push learnDepth x s.stamp
  let s := { s with lkp := { s.lkp with learn := r.1 } }
  if r.2.1 then s else (s.bump LKP_CNT_LEARN_GAP_CNT []).irq pgLKP 5

/-- A frame's request to learn its source (R289). -/
def State.queueLearn (s : State) (d : Desc) : State := s.pushLearn { da := hdrSa d, vid := hdrVid d, quay := d.src, stamp := d.stamp }

/-- now of R290: harbour time in 0.5 ms ticks, modulo 256. -/
def State.halfMs (s : State) : Nat := s.ns / 500000 % 256

end Sys2Proof.Machine
end

