-- ==== Sys2Proof/Machine/PlaneOps.lean ====
section
/-! DEFINITION. The pump planes: roles, claims, faults, and the copied state's way to the standby (chapter 4). -/

namespace Sys2Proof.Machine

/-- The other plane. -/
def otherPlane (x : Nat) : Nat := 1 - x

/-- Bring NOT_PROTECTED of both planes in line with their roles (Tables 4-8 and 4-11). -/
def State.protect (s : State) : State :=
  [0, 1].foldl (fun s x =>
    let np := s.role x == roleActive && s.role (otherPlane x) != roleStandby
    (s.setB PM_STATUS_NOT_PROTECTED [x] np).cond (pgPM x) 8 np) s

/-- Give a plane a role (Table 4-6). A plane that goes out of service keeps its contents as they are (R161). -/
def State.setRole (s : State) (x r : Nat) : State :=
  let s := if r = roleOut ∨ r = roleRejoining ∨ r = roleFailed then s.keepOwn x else s
  (s.wr PM_STATUS_ROLE [x] r).protect

/-- Give a plane a claim (R141). In die safe state both planes hold claim zero (R27). -/
def State.setClaim (s : State) (x c : Nat) : State := s.wr PM_STATUS_CLAIM [x] (if s.on SUP_STATUS_DIE_SAFE [] then 0 else c)

/-- Write the time of a takeover moment D that involves a plane (Table 4-8). -/
def State.evtTime (s : State) (x : Nat) : State :=
  (s.wr PM_EVT_NS_NS [x] (s.ns % nsPerS)).wr PM_EVT_S_S [x] (s.ns / nsPerS)

/-- Write a mark record for a code at a harbour time (Tables 3-8, 3-9 and 13-4). -/
def State.markAt (s : State) (code t : Nat) : State :=
  s.log (.mark code (s.tideIndex (s.strokeAt t)) (s.rd TID_ACT_SEQ_SEQ []) (stampOf t))

/-- Discard a delta that a plane received and has not committed (R150, R153). -/
def State.dropDelta (s : State) (x : Nat) : State :=
  let p := s.plane x
  if p.delta.isSome then (s.setPlane x { p with delta := none }).bump PM_CNT_DELTA_DISCARD_CNT [x] else s

/-- What PMx_OUT_CAUSE reports. -/
structure OutCause where
  src : Nat
  code : Nat := 0
  detail : Nat := 0
  deriving DecidableEq, Repr

/-- A plane enters OUT: its claim falls, and its self-test starts, at once or when its PLL has relocked (R160). -/
def State.enterOut (s : State) (x : Nat) (c : OutCause) : State :=
  let pll := c.src == 0 && c.code == 0x05
  let s := ((s.dropDelta x).setClaim x 0).setRole x roleOut
  let s := ((s.wr PM_OUT_CAUSE_SRC [x] c.src).wr PM_OUT_CAUSE_CODE [x] c.code).wr PM_OUT_CAUSE_DETAIL [x] c.detail
  let s := (s.bump PM_CNT_TAKEN_OUT_CNT [x]).irq (pgPM x) 0
  s.setPlane x { s.plane x with
    outAt := s.now, pllLost := pll, testing := !pll, rejoinAsked := false, rejoinDue := false, copying := false, reloading := false,
    mismatches := 0 }

/-- The standby enters TAKING_OVER (R153): it discards its deltas, applies its own updates from then on and reloads the queue occupancy
image. -/
def State.startTakingOver (s : State) (y : Nat) : State :=
  let s := ((s.dropDelta y).setRole y roleTakingOver).evtTime y
  let s := s.actAs y
  let s := s.setPlane y { s.plane y with reloading := true, skipped := some [], changed := [] }
  ({ s with lkp := { s.lkp with learn := {} } } : State).lkpConds

/-- Error 0x0C: a fault with no plane ready to take over. -/
def State.noPlane (s : State) (x : Nat) : State := s.errU (pgPM x) 0x0C 4

/-- A plane leaves service while ACTIVE: the standby takes over, or no plane is ready (R148, Table 4-6). -/
def State.leaveActive (s : State) (x : Nat) (c : OutCause) : State :=
  let y := otherPlane x
  if s.role y = roleStandby then ((s.enterOut x c).evtTime x).startTakingOver y
  else
    let s := ((s.enterOut x c).evtTime x).noPlane x
    if s.role y = roleRejoining then s.useFresh.enterOut y { src := 0, code := 0x0C, detail := s.fresh % 2 ^ 20 } else s

/-- A fault of a plane (R147, R148, R166): reported on its PMx page, or on the TID page for a tide execution fault. -/
def State.planeFault (s : State) (x : Nat) (tid : Bool) (code detail : Nat) : State :=
  let pg := if tid then pgTID else pgPM x
  let c : OutCause := { src := if tid then 1 else 0, code := code, detail := detail % 2 ^ 20 }
  let r := s.role x
  if r = roleActive then (s.err pg code 2 detail).leaveActive x c
  else if r = roleTakingOver then ((s.err pg code 1 detail).enterOut x c).noPlane x
  else if r = roleStandby ∨ r = roleRejoining then (s.err pg code 1 detail).enterOut x c
  else s.err pg code 1 detail

/-- A command that is not valid in the plane's role (Table 4-8). -/
def State.pmReject (s : State) (x : Nat) : State := s.setB PM_STATUS_CMD_REJECT [x] true

/-- The standby's state becomes stale: it takes a full copy (R152). -/
def State.goStale (s : State) (y code : Nat) : State :=
  let s := ((s.errU (pgPM y) code 1).dropDelta y).setRole y roleRejoining
  let s := s.wr PM_STATUS_REJOIN_TRIES [y] 1
  s.setPlane y { s.plane y with rejoinDue := true, rejoinAt := s.now, copying := false }

/-- K of the full copy (R162). -/
def State.copyStrokes (s : State) : Nat :=
  let l := s.tideLen
  if !s.tid.hasActive || l = 0 then 50 else if 50 ≤ l then min l 4096 else l * ((50 + l - 1) / l)

/-- Lines of the plane state image (Table 4-7). -/
def planeImageLines : Nat := 241664

/-- The lines of a bank of the lookup tables taken from another copy of it. -/
def LkpBank.takeLines (l : List Nat) (src dst : LkpBank) : LkpBank :=
  { dst with
    fwd := SMap.copyWhere (fun k => l.contains (lineBucket (k / 4))) src.fwd dst.fwd
    ovf := SMap.copyWhere (fun k => l.contains (lineOvf k)) src.ovf dst.ovf }

/-- The lines of the idle bank taken from another copy of it. -/
def LkpBank.takeIdle (l : List Nat) (src dst : LkpBank) : LkpBank :=
  { vlan := if l.contains lineIdleVlan then src.vlan else dst.vlan
    fwd := SMap.copyWhere (fun k => l.contains (lineIdle (lineBucket (k / 4)))) src.fwd dst.fwd
    ovf := SMap.copyWhere (fun k => l.contains (lineIdle (lineOvf k))) src.ovf dst.ovf }

/-- The runtime state of the berths of a delta: receive freshness values only rise (Table 4-5). -/
def State.takeBerths (s : State) (l : List Nat) (src dst : SMap BerthRt) : SMap BerthRt :=
  l.foldl (fun m k =>
    if k < 16384 then
      let new := SMap.getD src k {}
      let own := SMap.getD dst k {}
      SMap.setD m {} k (if (s.berth k).authRx then { new with fresh := max new.fresh own.fresh } else new)
    else m) dst

/-- The copied state of the standby when it commits a delta: the delta's lines, and its own state at every other line (R149, R150, Table 4-5). -/
def State.commitDelta (s : State) (d : Delta) (own : PlaneImg) : PlaneImg :=
  let l := d.lines
  let lk := own.lkp
  { bth := s.takeBerths l d.img.bth own.bth
    pdu := SMap.copyWhere (fun a => l.contains (linePdu (a / 64))) d.img.pdu own.pdu
    lkp := {
      active := LkpBank.takeLines l d.img.lkp.active lk.active
      idle := LkpBank.takeIdle l d.img.lkp.idle lk.idle
      gen := if l.contains lineLkp then d.img.lkp.gen else lk.gen
      pend := if l.contains lineLkp then d.img.lkp.pend else lk.pend } }

/-! ### The full copy (R161, R162) -/

/-- The part of a table that lies in lines `lo` to below `hi` of the plane state image, where the table takes `n` lines from line `base` on with
`per` keys a line. -/
def copyRegion {α : Type} (base n per lo hi : Nat) (src dst : SMap α) : SMap α :=
  let a := max lo base - base
  let b := min hi (base + n) - base
  if a < b then SMap.copyRange (per * a) (per * b) src dst else dst

/-- Tide memories and berth configuration in a slice of the full copy (Table 4-7). The lines go in the order of that table, and the list of valid berths
with the last line of the berth store (DESIGN CHOICE, log 7: the spec names no order). -/
def copyMem (lo hi : Nat) (src dst : PlaneMem) : PlaneMem :=
  { active := copyRegion 0 65536 64 lo hi src.active dst.active
    shadow := copyRegion 65536 65536 64 lo hi src.shadow dst.shadow
    cfg := copyRegion 163840 16384 64 lo hi src.cfg dst.cfg
    valid := if lo < 180224 ∧ 180224 ≤ hi then src.valid else dst.valid }

/-- A bank of the lookup tables in a slice of the full copy: buckets, VLAN table and overflow store from line `base` on. -/
def copyBankLines (base lo hi : Nat) (src dst : LkpBank) : LkpBank :=
  { fwd := copyRegion base 16384 4 lo hi src.fwd dst.fwd
    vlan := copyRegion (base + 16384) 1024 4 lo hi src.vlan dst.vlan
    ovf := copyRegion (base + 17408) 128 4 lo hi src.ovf dst.ovf }

/-- Copied state in a slice of the full copy. The counters and the pending register of the lookup tables go with their last line. -/
def copyPlaneImg (lo hi : Nat) (src dst : PlaneImg) : PlaneImg :=
  let last := lo < 221184 && 221184 ≤ hi
  { bth := copyRegion 163840 16384 1 lo hi src.bth dst.bth
    lkp := {
      active := copyBankLines 180224 lo hi src.lkp.active dst.lkp.active
      idle := copyBankLines 200704 lo hi src.lkp.idle dst.lkp.idle
      gen := if last then src.lkp.gen else dst.lkp.gen
      pend := if last then src.lkp.pend else dst.lkp.pend }
    pdu := copyRegion 221184 16384 64 lo hi src.pdu dst.pdu }

/-- A slice of the full copy reaches plane x with the values that the acting plane holds (R162). -/
def State.copySlice (s : State) (x lo hi : Nat) : State :=
  let p := s.plane x
  s.setPlane x { p with
    img := copyPlaneImg lo hi s.img p.img, own := p.own.map fun m => copyMem lo hi s.sharedMem m }

/-- A plane whose copy is complete has contents of its own only where a write has overtaken the copy. -/
def State.ownDone (s : State) (x : Nat) : State :=
  let p := s.plane x
  if p.own = some s.sharedMem then s.setPlane x { p with own := none } else s

/-- Seal the active plane's delta at the boundary that ends a stroke and send it to the other plane (R149, R152). DESIGN CHOICE (log 7): a
delta over 4,800 lines while the other plane is REJOINING is counted and raises DELTA_OVERRUN, raises no error 0x09, and lets the copy go on;
R152 names the standby only. -/
def State.sealDelta (s : State) : State :=
  if !(s.role 0 == roleActive || s.role 1 == roleActive) then s
  else
    let x := s.actPlane
    let y := otherPlane x
    let p := s.plane x
    let n := p.changed.length
    let s := s.setPlane x { p with changed := [] }
    if s.role y = roleStandby ∨ (s.role y = roleRejoining ∧ (s.plane y).copying) then
      let s := s.wr PM_DELTA_LAST_LINES [x] n
      let s := s.wr PM_DELTA_MAX_LINES [x] (max n (s.rd PM_DELTA_MAX_LINES [x]))
      if 4800 < n then
        let s := (s.bump PM_CNT_DELTA_OVERRUN_CNT [x]).irq (pgPM x) 5
        if s.role y = roleStandby then s.goStale y 0x09 else s
      else
        let s := s.dropDelta y
        s.setPlane y { s.plane y with
          delta := some { stroke := s.strokeAt s.bnd.time - 1, lines := p.changed, img := p.img, claim := s.claim x } }
    else s

end Sys2Proof.Machine
end

