-- ==== Sys2Proof/Machine/Decide.lean ====
section
/-! DEFINITION. One forwarding decision of a plane: match, police, resolve, check word (R131, R134, R168, R248–R263). -/

namespace Sys2Proof.Machine

/-- Whether the planes send a log copy of a port's frames to IQ1 (R134): the recorder runs and the port is logged on receive. -/
def State.logsCopy (s : State) (src : Nat) : Bool :=
  src ≤ 64 && s.on PG_STATE_ENABLED [pgLOG] && (s.on LOG_QCFG_RX_EN [src] || s.on LOG_QCFG_DROP_EN [src])

/-- The IQ bits of a log copy. -/
def State.logBit (s : State) (d : Desc) : Nat := if !d.recirc && s.logsCopy d.src then 2 else 0

/-- Seal a record with its check word (R136). -/
def sealRec (r : Rec) : Rec := { r with check := checkWord r }

/-- A record before its outcome is known. -/
def State.baseRec (s : State) (x : Nat) (d : Desc) (seq : Nat) : Rec :=
  { d := d, stroke := s.tideIndex s.stroke, claim := s.claim x, seq := seq }

/-- The record of a frame dropped in the plane (R134). -/
def State.dropRec (s : State) (x : Nat) (d : Desc) (seq : Nat) (berth : Option Nat) (cls : Nat) : Rec :=
  sealRec { s.baseRec x d seq with
    reason := 7, drop := cls, iq := s.logBit d, berthValid := berth.isSome, berth := berth.getD 0 }

/-- Whether a berth is the source of signal maps or tunnel records of the active image (R168). -/
def State.feedsGateway (s : State) (b : Nat) : Bool :=
  s.tid.hasActive &&
    ((imgMaps s.tid.active).any (fun m => m.2.srcBerth % 2 ^ 14 == b)
      || (imgTunnels s.tid.active).any (fun t => t.2.kind != 6 && t.2.srcBerth % 2 ^ 14 == b))

/-- The IQ2 bit. -/
def State.iq2Bit (s : State) (b : Nat) : Nat := if s.feedsGateway b then 4 else 0

/-- The transmit freshness value that a plane gives the next frame of an AUTH_TX berth: advanced at first use after a takeover
(R151, R258). -/
def State.nextFresh (s : State) (x b : Nat) : State × Nat :=
  let p := s.plane x
  let fresh := (s.rtOf x b).fresh
  match p.skipped with
  | some l =>
    if l.contains b then (s, fresh)
    else (s.setPlane x { p with skipped := some (b :: l) }, fresh + s.rd PM_TX_FRESH_SKIP_SKIP [x])
  | none => (s, fresh)

/-- The Resolve stage of an AUTH_TX first pass: the value for IQ3, or none where the freshness width is exhausted (R258). -/
def State.takeFresh (s : State) (x b : Nat) : State × Option Nat :=
  let p := s.nextFresh x b
  let s := p.1
  let v := p.2
  if s.freshMax ((s.berth b).cph % 16) < v then
    let s := s.setRtOf x b { s.rtOf x b with fresh := v, freshExh := true }
    let s := ((s.berthStat x b .authFail).bump BTH_CNT_FRESH_CNT []).irq pgBTH 2
    ((s.wr BTH_LAST_EXH_VALID [] 1).wr BTH_LAST_EXH_BERTH [] b, none)
  else (s.setRtOf x b { s.rtOf x b with fresh := v + 1 }, some v)

/-- The record of an accepted frame with the berth's fields (R263). DESIGN CHOICE (log 7): REASON 4 and 6 of Table 4-2 are never given, since
Table 7-4 gives the frames that they name REASON 0 to 3. -/
def State.berthRec (s : State) (x : Nat) (d : Desc) (seq b : Nat) : Rec :=
  let c := s.berth b
  { s.baseRec x d seq with
    berthValid := true, berth := b, queue := c.queue, sched := c.sched, vbr := c.vbr, tagOp := c.tag % 4,
    newVid := c.newVid % 4096, newPcp := c.tag / 4 % 8, reason := if c.sched then 0 else 2, iq := s.logBit d }

/-- Forward a frame by the lookup tables with the fields of a record (R286–R288). -/
def State.forwardLookup (s : State) (x : Nat) (r : Rec) (berth : Option Nat) (more : Nat) : State × Rec :=
  let drop (s : State) : State × Rec := ((s.bump LKP_CNT_NO_VLAN_CNT []).bump BTH_CNT_NO_MATCH_CNT [], s.dropRec x r.d r.seq berth 1)
  match s.lookup x r.d with
  | .noVlan => drop s
  | .fwd reason t cnt =>
    let s := match cnt with | some f => s.bump f [] | none => s
    if t.mask = 0 ∧ !t.iq0 then drop s
    else (s, sealRec { r with reason := reason, ports := t.mask * 2 ^ 32, iq := r.iq ||| more ||| (if t.iq0 then 1 else 0) })

/-- REASON of the row of Table 7-4 that a berth takes, for the first pass of a frame that goes to IQ3. -/
def State.rowReason (s : State) (x : Nat) (d : Desc) (c : BerthCfg) : Nat :=
  if c.lookup then (match s.lookup x d with | .fwd reason _ _ => reason | .noVlan => 3) else if c.sched then 0 else 2

/-- The destinations of an accepted frame of a berth (Table 7-4, R168, R258, R259). -/
def State.resolveBerth (s : State) (x : Nat) (d : Desc) (seq b fv : Nat) : State × Rec :=
  let c := s.berth b
  let r := s.berthRec x d seq b
  let first := !(d.hintValid && d.src == 67)
  let host := if c.host then 1 else 0
  if first && c.authRx then (s, sealRec { r with iq := r.iq ||| 8, reason := s.rowReason x d c, fv := fv })
  else if first && c.authTx then
    let p := s.takeFresh x b
    match p.2 with
    | none => (p.1, p.1.dropRec x d seq (some b) 7)
    | some v => (p.1, sealRec { r with iq := r.iq ||| 8 ||| s.iq2Bit b, reason := s.rowReason x d c, fv := v })
  else if c.lookup then s.forwardLookup x r (some b) (host ||| s.iq2Bit b)
  else if c.bq then (s, sealRec { r with iq := r.iq ||| s.iq2Bit b })
  else (s, sealRec { r with ports := c.ports, iq := r.iq ||| host ||| s.iq2Bit b })

/-- The record of an unscheduled Ethernet frame that matched no berth (R250, R288). -/
def State.resolveFree (s : State) (x : Nat) (d : Desc) (seq : Nat) : State × Rec :=
  s.forwardLookup x { s.baseRec x d seq with queue := s.pcpQueue (hdrPcp d), iq := s.logBit d } none 0

/-- The decision of plane x for a descriptor, with the plane's own state changes. -/
def State.decideFrame (s : State) (x : Nat) (d : Desc) (seq : Nat) : State × Rec :=
  if 7 < d.pass then (s, s.dropRec x { d with pass := 7 } seq none 9)
  else
    match s.matchBerth d with
    | none =>
      if d.hintValid || d.medium != 3 then (s.bump BTH_CNT_NO_MATCH_CNT [], s.dropRec x d seq none 1)
      else s.resolveFree x d seq
    | some b =>
      let fv := if (s.berth b).authRx then s.frameFv x b d else 0
      let p := s.police x b d fv
      match p.2 with
      | .drop cls => (p.1, p.1.dropRec x d seq (some b) cls)
      | .accept => p.1.resolveBerth x d seq b fv

/-- Remember a record in a plane's decision history (R138). -/
def State.remember (s : State) (x : Nat) (r : Rec) : State :=
  let p := s.plane x
  s.setPlane x { p with history := (r :: p.history).take 16384 }

/-- Count a decision of a plane (Table 4-9). -/
def State.countDecision (s : State) (x : Nat) : State := s.bump64 PM_CNT_DEC_HI_CNT PM_CNT_DEC_LO_CNT [x] 1

/-- The decision of the standby: it keeps its record and its own receive freshness values, and nothing else of what it computed
(Table 4-5). -/
def State.decideStandby (s : State) (x : Nat) (d : Desc) (seq : Nat) : State :=
  let p := s.decideFrame x d seq
  let s :=
    match s.matchBerth d with
    | some b =>
      if (s.berth b).authRx then
        let pl := s.plane x
        s.setPlane x { pl with img := { pl.img with
          bth := SMap.setD pl.img.bth {} b { s.rtOf x b with fresh := (p.1.rtOf x b).fresh } } }
      else s
    | none => s
  (s.remember x p.2).countDecision x

/-- The consumers a record is delivered to: bit p for port p, bit 68 for the cistern's berth-queue enqueue. -/
def State.consumers (s : State) (r : Rec) : Nat :=
  let bq := r.reason != 7 && r.berthValid && (s.berth r.berth).bq && bitOf r.iq 3 == 0
  r.ports + r.iq * 2 ^ 64 + (if bq then 2 ^ 68 else 0)

/-- The decision of the plane whose work is taken: its record goes to its consumers, and its learning request is queued (R289). -/
def State.decideActing (s : State) (x : Nat) (d : Desc) (seq : Nat) : State :=
  let p := s.decideFrame x d seq
  let s := (p.1.remember x p.2).countDecision x
  let s := if p.2.reason != 7 && s.raisesLearn x d then s.queueLearn d else s
  s.setCst { s.cst with flow := s.cst.flow ++ [{ plane := x, r := p.2, todo := s.consumers p.2 }] }

end Sys2Proof.Machine
end

