-- ==== Sys2Proof/Machine/Shaper.lean ====
section
/-! DEFINITION. Line rates and the credit-based shapers of the Ethernet quays (Table 10-1, R266–R268). -/

namespace Sys2Proof.Machine

/-- The line rate of a quay in Mb/s (Table 10-1, R356). -/
def State.lineRate (s : State) (q : Nat) : Nat :=
  match s.rd QYE_CTRL_SPEED [q] with
  | 0 => 10 | 1 => 100 | 2 => 1000 | 3 => 10000 | 4 => 25000 | 5 => 10000 | 6 => 5000 | 7 => 2500 | _ => 0

/-- Whether the shaper of a queue works (R266, R268). -/
def State.shaped (s : State) (q i : Nat) : Bool :=
  32 ≤ q && q < 64 && s.on BTH_CBS_CBS_EN [q, i] && bitOf (s.gate q).schedMask i == 0

/-- The bits of the quay's longest frame on the line, which bound a credit: MAX_LEN, FCS, preamble and gap. -/
def State.maxFrameBits (s : State) (q : Nat) : Nat := (s.rd QYE_FRAME_MAX_LEN [q] + 24) * 8

/-- hiCredit of IEEE 802.1Q, in units of 10⁻⁵ bit. -/
def State.hiCredit (s : State) (q i : Nat) : Int :=
  (s.maxFrameBits q * 100000 * s.rd BTH_CBS_IDLE_SLOPE [q, i] / (s.lineRate q * 100) : Nat)

/-- loCredit of IEEE 802.1Q, in units of 10⁻⁵ bit. -/
def State.loCredit (s : State) (q i : Nat) : Int :=
  -((s.maxFrameBits q * 100000 * (s.lineRate q * 100 - s.rd BTH_CBS_IDLE_SLOPE [q, i]) / (s.lineRate q * 100) : Nat) : Int)

/-- The credit of a queue. -/
def State.credit (s : State) (q i : Nat) : Int := SMap.getD s.bth.credit (8 * q + i) 0

/-- Set the credit of a queue, within its bounds. -/
def State.setCredit (s : State) (q i : Nat) (c : Int) : State :=
  { s with bth := { s.bth with credit := SMap.setD s.bth.credit 0 (8 * q + i) (max (s.loCredit q i) (min (s.hiCredit q i) c)) } }

/-- The credit of a queue after `dt` ns in which nothing joined, left or changed its gate. -/
def State.creditAfter (s : State) (q i dt : Nat) (sending : Bool) : Int :=
  let c := s.credit q i
  let slope : Int := s.rd BTH_CBS_IDLE_SLOPE [q, i]
  let empty := (s.egress q i).isEmpty
  if sending then c + (slope - s.lineRate q * 100) * dt
  else if bitOf (s.gate q).openMask i = 0 then c
  else if !empty then c + slope * dt
  else if c < 0 then min 0 (c + slope * dt)
  else 0

/-- Count the credits of a quay's shaped queues up to now. -/
def State.advanceCredit (s : State) (q : Nat) : State :=
  let dt := s.now - SMap.getD s.bth.creditAt q 0
  let tx := (SMap.find? s.quays q).bind fun x => x.tx
  let s := (List.range 8).foldl (fun s i =>
    if s.shaped q i then s.setCredit q i (s.creditAfter q i dt ((tx.map fun t => t.queue) == some i)) else s) s
  if (List.range 8).any fun i => s.shaped q i then
    { s with bth := { s.bth with creditAt := SMap.setD s.bth.creditAt 0 q s.now } }
  else s

end Sys2Proof.Machine
end

