-- ==== Sys2Proof/Machine/FlowOps.lean ====
section
/-! DEFINITION. Decision records at their consumers: acceptance by claim, check words, and what a quay discards on arrival
(R137–R145, R369, R605, R654). -/

namespace Sys2Proof.Machine

/-! ### Acceptance -/

/-- The plane that class E accepts: the one whose claim is strictly higher (R142). -/
def State.classE (s : State) : Option Nat :=
  if s.claim 1 < s.claim 0 then some 0 else if s.claim 0 < s.claim 1 then some 1 else none

/-- The plane that class T accepts: as class E, or the plane taking over while both claims are 0 (R142). -/
def State.classT (s : State) : Option Nat :=
  if s.claim 0 = 0 ∧ s.claim 1 = 0 then
    match s.role 0 == roleTakingOver, s.role 1 == roleTakingOver with
    | true, false => some 0
    | false, true => some 1
    | _, _ => none
  else s.classE

/-- Whether a consumer belongs to class T (Table 4-3). -/
def isClassT (port : Nat) : Bool := port == 65 || port == 68

/-- The plane a consumer accepts. -/
def State.accepts (s : State) (port : Nat) : Option Nat := if isClassT port then s.classT else s.classE

/-- Two equal non-zero claims (R144). -/
def State.claimsClash (s : State) : Bool := s.claim 0 == s.claim 1 && s.claim 0 != 0

/-- A record is taken only from the accepted plane and with that plane's current claim (R142). -/
def State.takesFrom (s : State) (port plane claim : Nat) : Bool := s.accepts port == some plane && claim == s.claim plane

/-! ### The flow list -/

/-- Whether a consumer still waits for a record. -/
def FlowRec.waits (f : FlowRec) (port : Nat) : Bool := bitOf f.todo port == 1

/-- The record a port acts on. -/
def FlowRec.recFor (f : FlowRec) (port : Nat) : Rec :=
  match f.alt.find? (fun p => p.1 == port) with
  | some p => p.2
  | none => f.r

/-- Replace the n-th entry of the flow list. -/
def State.putFlow (s : State) (n : Nat) (f : FlowRec) : State := s.setCst { s.cst with flow := s.cst.flow.set n f }

/-- The oldest record that a port still waits for. -/
def State.flowFor (s : State) (port : Nat) : Option (Nat × FlowRec) :=
  match s.cst.flow.findIdx? (fun f => f.waits port) with
  | some n => (s.cst.flow[n]?).map fun f => (n, f)
  | none => none

/-! ### Logging of egress events -/

/-- Whether the recorder records transmit events of a quay. -/
def State.logsTx (s : State) (q : Nat) : Bool := s.on PG_STATE_ENABLED [pgLOG] && s.on LOG_QCFG_TX_EN [q]

/-- Hold a frame for the recorder's copy. -/
def State.holdLog (s : State) (f : Nat) : State :=
  match s.frame? f with
  | none => s
  | some o => s.putFrame f { o with holders := o.holders ++ [.reader 65] }

/-- Report a frame event of an egress quay to the log recorder (Tables 13-1 and 13-3). -/
def State.logTx (s : State) (q : Nat) (r : Rec) (f status detail stamp : Nat) : State :=
  if s.logsTx q then
    let alive := (s.frame? f).isSome
    let s := if alive then s.holdLog f else s
    s.log (.frame {
      port := q, tx := true, status := status, detail := detail, len := r.d.len, bad := r.d.bad, cut := r.d.cut,
      berthValid := r.berthValid, berth := r.berth, queue := r.queue, seq := r.seq, medium := r.d.medium, stamp := stamp,
      frame := if alive then some f else none })
  else s

/-- Report the log copy that IQ1 accepted (Table 13-1, R466). -/
def State.logCopy (s : State) (r : Rec) (f : Nat) : State :=
  if 64 < r.d.src then s
  else
    let interrupted := s.claim 0 == 0 && s.claim 1 == 0
    let status := if r.reason = 7 ∨ interrupted then 1 else 0
    let detail := if r.reason = 7 then r.drop else if interrupted then 0x10 else 0
    let s := if (s.frame? f).isSome then s.holdLog f else s
    s.log (.frame {
      port := r.d.src, status := status, detail := detail, len := r.d.len, bad := r.d.bad, cut := r.d.cut,
      berthValid := r.berthValid, berth := r.berth, seq := r.seq, medium := r.d.medium, stamp := r.d.stamp,
      frame := if (s.frame? f).isSome then some f else none })

/-! ### What a quay discards on arrival -/

/-- The state of a segment (Table 17-2); serial quays have none and are always awake. -/
def State.segment (s : State) (q : Nat) : Nat := if q < 56 then s.rd PWK_SEG_STATE_STATE [q / 8, q % 8] else 0

/-- Whether the region of a quay is in safe state (R654): clusters C0–C3 are North, C4–C7 South. -/
def State.regionSafe (s : State) (q : Nat) : Bool := if q < 32 then s.on SUP_STATUS_SAFE_NORTH [] else s.on SUP_STATUS_SAFE_SOUTH []

/-- A record reaches an egress quay: an isolated segment, a region in safe state or a bad frame discards it (R605, R654, R369). -/
def State.quayTakes (s : State) (q : Nat) (r : Rec) : State × Bool :=
  if s.segment q != 0 then ((s.bump PWK_CNT_ISOLATE_DROP_CNT []).logTx q r r.d.cell 5 1 s.stamp, false)
  else if s.regionSafe q then (s.bump SUP_CNT_SAFE_DROP_CNT [], false)
  else if 32 ≤ q && r.d.bad then ((s.bump QYE_CNT_TX_BAD_DROP_CNT [q]).logTx q r r.d.cell 5 3 s.stamp, false)
  else (s, true)

/-! ### Check words -/

/-- A check-word mismatch on a record of a plane (R137, R140). -/
def State.checkFail (s : State) (x : Nat) : State :=
  let s := s.bump PM_CNT_CHECK_FAIL_CNT [x]
  let n := (s.plane x).mismatches + 1
  let s := s.setPlane x { s.plane x with mismatches := n }
  let lim := s.rd PM_CTRL_CHECK_LIMIT [x]
  if lim != 0 && n == lim then s.useFresh.planeFault x false 0x07 s.fresh else s

/-- A frame dropped at a consumer after a failed rescue (R137, Table 13-3). -/
def State.checkDrop (s : State) (x port : Nat) (r : Rec) : State :=
  let s := (s.bump PM_CNT_CHECK_DROP_CNT [x]).irq (pgPM x) 6
  if port < 64 then s.logTx port r r.d.cell 5 6 s.stamp else s

/-- A port takes a record. -/
def FlowRec.taking (f : FlowRec) (port : Nat) (r : Rec) : FlowRec :=
  { f with taken := f.taken ||| 2 ^ port, alt := if r = f.r then f.alt else (port, r) :: f.alt }

/-- A port's consumer has dropped the frame. -/
def FlowRec.losing (f : FlowRec) (port : Nat) : FlowRec := { f with lost := port :: f.lost }

/-- An accepted record whose check word recomputes reaches its consumer. -/
def State.deliver (s : State) (n : Nat) (f : FlowRec) (port : Nat) (r : Rec) : State :=
  if port < 64 then
    let p := s.quayTakes port r
    p.1.putFlow n (if p.2 then f.taking port r else f.losing port)
  else if port = 65 then (s.logCopy r f.r.d.cell).putFlow n (f.taking port r)
  else s.putFlow n (f.taking port r)

/-- A record without what the standby's record differs in by rule: its CLAIM, and the freshness value of its job word, which lags in the standby
(R141, R489). -/
def compared (r : Rec) : Rec := { r with claim := 0, fv := 0 }

/-- The class T comparison of a log copy or a berth-queue enqueue with the standby's record (R143). -/
def State.compareStandby (s : State) (port : Nat) (f : FlowRec) : State :=
  let y := otherPlane f.plane
  if isClassT port && s.role f.plane == roleActive && s.role y == roleStandby then
    match (s.plane y).history.find? (fun r => r.seq == f.r.seq) with
    | some r => if compared r = compared f.r then s else (s.bump PM_CNT_TIMING_DIVERGE_CNT [y]).irq (pgPM y) 7
    | none => s
  else s

/-- What a class T consumer takes where the plane that decided a record is no longer accepted: the record of the plane taking over, which decided
the same descriptor (R142, R157). -/
def State.takeoverRec (s : State) (port : Nat) (f : FlowRec) : Option (Nat × Rec) :=
  match (if isClassT port then s.accepts port else none) with
  | some y =>
    if y = f.plane then none
    else ((s.plane y).history.find? (fun r => r.seq == f.r.seq)).map fun r => (y, { r with claim := s.claim y })
  | none => none

/-- A record as the plane that is accepted sends it to a consumer. -/
def State.sentTo (s : State) (port : Nat) (f : FlowRec) : FlowRec :=
  match s.takeoverRec port f with
  | some (y, r) => { f with plane := y, alt := (port, r) :: f.alt.filter fun p => p.1 != port }
  | none => f

/-- A consumer receives a record as `got` (R137, R139, R142). -/
def State.receiveRecord (s : State) (port : Nat) (got : Option Rec) : State :=
  match s.flowFor port with
  | none => s
  | some (n, f) =>
    let f := { s.sentTo port f with todo := clearBitOf f.todo port }
    let r := got.getD (f.recFor port)
    let s := if s.claimsClash then s.errU (pgPM f.plane) 0x0D 4 else s
    if !s.takesFrom port f.plane r.claim then s.putFlow n { f with interrupted := f.interrupted || !isClassT port }
    else
      let s := s.compareStandby port f
      if checkWord r = r.check then s.deliver n f port r
      else
        let s := s.checkFail f.plane
        if r.reason = 5 then
          if s.on SGW_CTRL_REBUILD_EN [] then
            let s := s.hold f.r.d.cell (.rebuild port)
            (s.setCst { s.cst with rebuilds := s.cst.rebuilds ++ [(port, { frame := f.r.d.cell, r := f.r, emit := f.emit, due := f.due })] }).putFlow n
              (f.losing port)
          else (s.checkDrop f.plane port f.r).putFlow n (f.losing port)
        else s.putFlow n { f with query := f.query ||| 2 ^ port, alt := (port, r) :: f.alt }

/-- A consumer queries the other plane's decision history (R137, R138). -/
def State.queryOther (s : State) (port : Nat) : State :=
  match s.cst.flow.findIdx? (fun f => bitOf f.query port == 1) with
  | none => s
  | some n =>
    match s.cst.flow[n]? with
    | none => s
    | some f =>
      let carried := f.recFor port
      let y := otherPlane f.plane
      let f := { f with query := clearBitOf f.query port, alt := f.alt.filter (fun p => p.1 != port) }
      let failed (s : State) : State := (s.checkDrop f.plane port carried).putFlow n (f.losing port)
      if !s.inService y then failed s
      else
        match (s.plane y).history.find? (fun r => r.seq == carried.seq) with
        | none => failed (s.bump PM_CNT_HISTORY_MISS_CNT [y])
        | some r =>
          let agrees := r.d.cell == carried.d.cell && r.d.len == carried.d.len &&
            (if port = 68 then true else Rec.has r port == Rec.has carried port)
          if checkWord r = r.check ∧ agrees then (s.bump PM_CNT_CHECK_RESCUE_CNT [y]).deliver n f port r else failed s

end Sys2Proof.Machine
end

