-- ==== Sys2Proof/Machine/PageCmds.lean ====
section
/-! DEFINITION. The commands of the page header: commit, discard, counter clears, interrupts, and error capture and injection
(chapter 2). -/

namespace Sys2Proof.Machine

/-- A command to a page: nothing happens at a page number that no block occupies (R53) or at a page that does not answer (R76). -/
def onPage (pg : Nat) (s : State) (f : State → State) : Result := if s.pageServed pg then .next (f s) else .next s

/-- Ticks of 1 ns until the next commit boundary. -/
def State.ticksToBoundary (s : State) : Nat :=
  let inc := s.tickInc
  if !s.logicUp then strokeNs - s.now % strokeNs
  else if inc = 0 then 0 else (s.nextBoundary s.count - s.count + inc - 1) / inc

/-- Whether a discard accepted now comes at least 256 ns before the boundary of a commit accepted at `at_` (R63, R714). A commit
that the next boundary does not serve applies a stroke later. -/
def State.discardInTime (s : State) (at_ : Nat) : Bool :=
  let k := s.ticksToBoundary
  s.leadNs ≤ k || s.now + k < at_ + s.leadNs

/-- PG_COMMIT written with 0xC0 (R58, R61). -/
def execPgCommit (pg : Nat) (s : State) : Result :=
  onPage pg s fun s =>
    if s.on PG_STATE_STAGED_PENDING [pg] then s
    else { s.setB PG_STATE_STAGED_PENDING [pg] true with commits := SMap.insert s.commits pg s.now }

/-- Change the berth block. -/
def State.setBth (s : State) (b : BthSt) : State := { s with bth := b }

/-- Show the number of slots in use. -/
def State.showStaged (s : State) : State := s.wr BTH_STATUS_STAGED [] s.bth.slots.length

/-- Free every staging slot unapplied, counting them (R271, R273). -/
def State.freeSlots (s : State) : State :=
  let n := s.bth.slots.length
  ((s.setBth { s.bth with slots := [] }).bumpBy BTH_CNT_STAGE_DISCARD_CNT [] n).showStaged

/-- The discard of R63; on BTH page 0 every staging slot is freed (R271). -/
def State.discard (s : State) (pg : Nat) : State :=
  let s := if pg = pgBTH then s.freeSlots else s
  (s.reloadStaging pg).setB PG_COMMIT_STAT_DISCARDED [pg] true

/-- PG_COMMIT written with 0xD5 (R63). -/
def execPgDiscard (pg : Nat) (s : State) : Result :=
  onPage pg s fun s =>
    match SMap.find? s.commits pg with
    | none => s.discard pg
    | some at_ =>
      if s.discardInTime at_ then
        { (s.discard pg).setB PG_STATE_STAGED_PENDING [pg] false with commits := SMap.erase s.commits pg }
      else { s with discards := pg :: s.discards.filter (fun p => p != pg) }

/-- PG_COMMIT written with any other value (Table 2-2). -/
def execPgCommitBadKey (pg : Nat) (s : State) : Result :=
  onPage pg s fun s => s.setB PG_COMMIT_STAT_BAD_KEY [pg] true

/-- PG_CTRL.CNT_CLR written with 1 (Table 2-2). -/
def execPgCntClr (pg : Nat) (s : State) : Result :=
  onPage pg s fun s => (s.wr ERR_CNT_CNT [pg] 0).wr CORR_CNT_CNT [pg] 0

/-- Pages that hold a CNT_CLR.ALL register: one in each block with counters, page 3 of a QYC, page 2 of a QYE, and the LFE page. -/
def hasCntClr (pg : Nat) : Bool :=
  [0x007, 0x011, 0x020, 0x045, 0x052, 0x060, 0x061, 0x062, 0x063, 0x064, 0x072, 0x081, 0x091, 0x0A2, 0x0B1, 0x0C2, 0x0D1, 0x0E3,
   0x302, 0x305].contains pg
    || (0x100 ≤ pg && pg < 0x180 && pg % 4 == 3) || (0x180 ≤ pg && pg < 0x200 && pg % 4 == 2) || (0x200 ≤ pg && pg < 0x240)

/-- CNT_CLR.ALL written with 1: the counters of the page, and what the table of the page adds (PMx_DELTA_MAX, CST_SRC_HWM, and
pages 1–3 for HBR). -/
def execCntClrAll (pg : Nat) (s : State) : Result :=
  onPage pg s fun s =>
    if !hasCntClr pg then s else
    let s := s.clearCounters pg
    if pg = 0x011 then (s.clearCounters 0x012).clearCounters 0x013
    else if pg = 0x081 then s.wr PM_DELTA_MAX_LINES [0] 0
    else if pg = 0x091 then s.wr PM_DELTA_MAX_LINES [1] 0
    else if pg = 0x0E3 then (List.range 9).foldl (fun s i => s.wr CST_SRC_HWM_CELLS [i] 0) s
    else s

/-- IRQ_EN written: a bit written to 1 while its condition source is 1 becomes pending (R70). -/
def execIrqEnWrite (pg : Nat) (v : Word) (s : State) : Result :=
  onPage pg s fun s =>
    let s := s.wr IRQ_EN_EN [pg] v.toNat
    s.setPend pg (s.rd IRQ_PEND_PEND [pg] ||| (v.toNat &&& s.rd IRQ_RAW_BLOCK [pg]))

/-- IRQ_PEND written: each 1 clears its bit; a further message follows while any bit stays set (R72). -/
def execIrqPendClear (pg : Nat) (v : Word) (s : State) : Result :=
  onPage pg s fun s =>
    let left := clearMask (s.rd IRQ_PEND_PEND [pg]) v.toNat 32
    let s := (s.wr IRQ_PEND_PEND [pg] left).irqSum pg
    if left = 0 then s else s.irqMessage pg

/-- IRQ_FORCE written: each 1 raises its source as an event (R70). -/
def execIrqForce (pg : Nat) (v : Word) (s : State) : Result :=
  onPage pg s fun s => s.setPend pg (s.rd IRQ_PEND_PEND [pg] ||| (v.toNat &&& s.rd IRQ_EN_EN [pg]))

/-- ERR_FIRST.VALID cleared by its W1C write (R50). -/
def execErrFirstClear (pg : Nat) (s : State) : Result := onPage pg s fun s => s.wr ERR_FIRST_VALID [pg] 0

/-- ERR_INJECT written with ARM = 1 (Table 2-2). -/
def execErrInjectArm (pg ty site : Nat) (s : State) : Result :=
  onPage pg s fun s => ((s.wr ERR_INJECT_ARM [pg] 1).wr ERR_INJECT_TYPE [pg] ty).wr ERR_INJECT_SITE [pg] site

end Sys2Proof.Machine
end

