-- ==== Sys2Proof/Machine/Berths.lean ====
section
/-! DEFINITION. The commands of the berths: window writes, the meter sweep and BTH_CMD (R256, R269–R274). -/

namespace Sys2Proof.Machine

/-! ### The berth window (R269, R270) -/

/-- Staging slots of the BTH block. -/
def stagingSlots : Nat := 64

/-- The staging slot of a berth. -/
def State.slot (s : State) (b : Nat) : Option (List Byte) := (s.bth.slots.find? fun p => p.1 == b).map fun p => p.2

/-- The active configuration bytes of a berth. -/
def State.cfgBytes (s : State) (b : Nat) : List Byte := (Mem.bytes s.bth.cfg (64 * b) 40).map (BitVec.ofNat 8)

/-- Write four bytes of a list at an offset. -/
def putWord4 (l : List Byte) (off : Nat) (v : Word) : List Byte :=
  l.take off ++ ((leBytes 4 v.toNat).map (BitVec.ofNat 8)) ++ l.drop (off + 4)

/-- A window write that is ignored (R269). -/
def State.windowIgnored (s : State) : State :=
  ((s.wr BTH_STATUS_WRITE_IGNORED [] 1).bump BTH_CNT_WRITE_IGNORED_CNT []).irq pgBTH 5

/-- Whether a window write at byte `off` of berth b reaches no configuration word: the berth is invalid, or the byte is runtime state. -/
def State.notStaged (s : State) (b off : Nat) : Bool := !s.berthValid b || 40 ≤ off || off % 4 != 0

/-- A 32-bit write at byte `off` of berth b (R269). -/
def State.berthWindow (s : State) (b off : Nat) (v : Word) : State :=
  if s.notStaged b off then s.windowIgnored
  else
    match s.slot b with
    | some bs => s.setBth { s.bth with slots := s.bth.slots.map fun p => if p.1 = b then (b, putWord4 bs off v) else p }
    | none =>
      if stagingSlots ≤ s.bth.slots.length then (s.wr BTH_STATUS_STAGE_FULL [] 1).irq pgBTH 3
      else (s.setBth { s.bth with slots := s.bth.slots ++ [(b, putWord4 (s.cfgBytes b) off v)] }).showStaged

/-- BERTH_WINDOW_WRITE at a byte address of the berth window; `narrow` is a write of fewer than 32 bits. While a commit of BTH page 0 is
pending a write to a configuration word is ignored like one to an S field (R61, R271). -/
def execBerthWindowWrite (a : Nat) (v : Word) (narrow : Bool) (s : State) : Result :=
  onLogicIf s (decide (a < 0x100000)) fun s =>
    if narrow || s.notStaged (a / 64) (a % 64) then s.windowIgnored
    else if s.on PG_STATE_STAGED_PENDING [pgBTH] then (s.setB PG_STATE_STAGED_REJECT [pgBTH] true).lockedWrite pgBTH
    else s.berthWindow (a / 64) (a % 64) v

/-- The bytes 0x28–0x3F of a berth as the window shows them (Table 7-1). -/
def State.runtimeBytes (s : State) (b : Nat) : List Nat :=
  let r := s.rt b
  leBytes 4 r.tokens ++ leBytes 3 r.meterStroke
    ++ [(if s.tid.arrived.contains b then 1 else 0) + (if r.blocked then 2 else 0) + (if r.freshExh then 4 else 0)]
    ++ leBytes 8 r.fresh ++ leBytes 4 r.passFrames ++ [r.drop, r.authFail, r.late, r.miss]

/-- The 64 bytes of a berth that a window read shows (R270). -/
def State.windowBytes (s : State) (b : Nat) : List Nat :=
  if !s.berthValid b then List.replicate 64 0
  else ((s.slot b).getD (s.cfgBytes b)).map (fun x => x.toNat) ++ s.runtimeBytes b

/-! ### The meter sweep (R256) -/

/-- METER_SWEEP visits berth b: the fill of R255 without cost. -/
def execMeterSweep (b : Nat) (s : State) : Result :=
  onLogicIf s (s.hasAct && s.berthValid b) fun s =>
    let c := s.berth b
    if c.burst = 0 then s
    else
      let r := s.rt b
      s.setRt b { r with tokens := meterFill c r s.stroke, meterStroke := s.stroke % 2 ^ 24 }

/-! ### BTH_CMD (R274) -/

/-- A write to BTH_CMD: queued until the next stroke boundary, or ignored while a command is in progress. -/
def State.bthCommand (s : State) (op b : Nat) : State :=
  if s.on BTH_STATUS_CMD_BUSY [] then s.wr BTH_STATUS_CMD_REJECT [] 1
  else (s.setBth { s.bth with cmd := some (op, b % 16384), clrAllAt := none }).wr BTH_STATUS_CMD_BUSY [] 1

/-- CLR_STATS. -/
def execClrStats (b : Nat) (s : State) : Result := onLogic s fun s => s.bthCommand 1 b

/-- REFILL. -/
def execRefill (b : Nat) (s : State) : Result := onLogic s fun s => s.bthCommand 2 b

/-- UNBLOCK. -/
def execUnblock (b : Nat) (s : State) : Result := onLogic s fun s => s.bthCommand 3 b

/-- CLR_ALL_STATS. -/
def execClrAllStats (s : State) : Result := onLogic s fun s => s.bthCommand 4 0

/-- The statistics of a berth cleared: bytes 0x38–0x3F, and OCTETS where the berth keeps them. -/
def clearStats (c : BerthCfg) (r : BerthRt) : BerthRt :=
  { r with passFrames := 0, drop := 0, authFail := 0, late := 0, miss := 0, fresh := if c.authRx || c.authTx then r.fresh else 0 }

/-- Change a berth's runtime state in both planes. The line counts as changed, for a plane that takes a copy meanwhile (R149). -/
def State.mapRt (s : State) (b : Nat) (f : BerthRt → BerthRt) : State :=
  (s.mapImgs fun i => { i with bth := SMap.modifyD i.bth {} b f }).touch [lineBerth b]

/-- BTH_CMD completes. -/
def State.bthDone (s : State) : State :=
  ((s.setBth { s.bth with cmd := none, clrAllAt := none }).wr BTH_STATUS_CMD_BUSY [] 0).irq pgBTH 6

/-- What BTH_CMD does at a stroke boundary, in both planes. -/
def State.bthBoundary (s : State) : State :=
  match s.bth.cmd with
  | none => s
  | some (1, b) => (s.mapRt b (clearStats (s.berth b))).bthDone
  | some (2, b) => (s.mapRt b fun r => { r with tokens := 256 * (s.berth b).burst }).bthDone
  | some (3, b) => (s.mapRt b fun r => { r with blocked := false }).bthDone
  | some _ => if s.bth.clrAllAt.isSome then s else s.setBth { s.bth with clrAllAt := some s.now }

/-- CLR_ALL_STATS_DONE: the statistics of every berth are clear (R274). -/
def execClrAllStatsDone (s : State) : Result :=
  onLogicIf s s.bth.clrAllAt.isSome fun s =>
    (s.mapImgs fun i =>
      { i with bth := (i.bth.map fun p => (p.1, clearStats (s.berth p.1) p.2)).filter fun p => p.2 != {} }).bthDone

end Sys2Proof.Machine
end

