-- ==== Sys2Proof/Machine/Cistern.lean ====
section
/-! DEFINITION. The commands of the cistern: hand-over, landing, classification, release, failures (chapter 6). -/

namespace Sys2Proof.Machine

/-! ### Descriptors of Ethernet frames -/

/-- The TPIDs that mark a tag on a quay (R362). -/
def State.tpids (s : State) (q : Nat) : List Nat := [0x8100, s.rd QYE_RX_CFG_TPID2 [q]]

/-- The header of a frame received on Ethernet quay q, with the quay's defaults (R362). -/
def State.ethHdr (s : State) (q : Nat) (bytes : List Nat) : EthHdr :=
  ethDefaults (s.rd QYE_RX_TAG_PVID [q]) (s.rd QYE_RX_TAG_DEF_PCP [q]) (parseEth (s.tpids q) bytes)

/-- The ingress descriptor of a frame of Ethernet quay q, and its priority mark (R132, R135, R362). -/
def State.ethDesc (s : State) (q f len : Nat) (bad cut : Bool) : Desc × Bool :=
  let h := s.ethHdr q (s.frameBytes f)
  ({ cell := f, len := len, src := q, medium := 3, bad := bad, cut := cut, stamp := (s.ingr q).stamp, hdr := hdrEth h },
   bitOf (s.rd QYE_RX_PRI_PCP_MASK [q]) h.pcp == 1)

/-- A receive overflow of a quay (R215, R322, R366). -/
def State.rxOverflow (s : State) (q : Nat) : State :=
  if q < 32 then (s.bump QYC_CNT_RX_OVF_CNT [q]).irq (pgQ q) 7
  else if q < 64 then (s.bump QYE_CNT_RX_OVF_CNT [q]).irq (pgQ q) 2
  else s

/-- The receive-side log report of a frame dropped by its quay (Table 13-3, STATUS 0x03). -/
def State.logRxDrop (s : State) (q detail len medium : Nat) (bad : Bool) : State :=
  s.log (.frame { port := q, status := 3, detail := detail, len := len, medium := medium, bad := bad, stamp := (s.ingr q).stamp })

/-! ### Frames found bad -/

/-- Consumers that read a frame. -/
def FrameObj.readers (o : FrameObj) : List Nat := o.holders.filterMap fun h => match h with | .reader q => some q | _ => none

/-- A CUT frame is found bad (R227): consumers that have started it end it as bad, and it leaves every queue. -/
def State.frameBad (s : State) (f : Nat) : State :=
  let s := (s.endLanding f).unqueue f
  match s.frame? f with
  | none => s
  | some o =>
    let rs := s.startedBy f o
    if rs.isEmpty then s.freeFrame f else s.putFrame f { o with bad := true, complete := true, holders := rs }

/-- The length notice of a frame issued with CUT = 1 whose last byte has landed (R226); its landing releases it where its first record has
been settled already. -/
def State.announce (s : State) (f : Nat) : State :=
  match s.frame? f with
  | some o =>
    if o.cut && !o.noticed then
      let s := s.putFrame f { o with noticed := true, complete := true }
      let s := s.setCst { s.cst with notices := s.cst.notices ++ [{ frame := f, seq := o.seq, bound := o.bound, len := o.len }] }
      if o.settled then s.release f .landing else s
    else s
  | none => s

/-- A record of a frame now carries BAD = 1. -/
def recSpoiled (f : Nat) (r : Rec) : Rec := if r.d.cell = f then { r with d := { r.d with bad := true } } else r

/-- The egress quays drop a frame that they have not started and that turns out bad (R369). -/
def State.badLeaves (s : State) (f : Nat) : State :=
  (queuesWith f s.cst.queues).foldl (fun (s : State) (k : Nat) =>
    List.foldl (fun (s : State) (it : QItem) =>
      if it.frame = f then
        ((s.bump QYE_CNT_TX_BAD_DROP_CNT [k / 8]).logTx (k / 8) { it.r with queue := k % 8 } f 5 3 s.stamp).release f (.egress (k / 8) (k % 8))
      else s)
      (s.putEgress (k / 8) (k % 8) ((s.egress (k / 8) (k % 8)).filter fun it => it.frame != f)) (s.egress (k / 8) (k % 8))) s

/-- A frame that a cut-through descriptor has announced ends bad with DELIVER_BAD = 1 (R365): its landed part keeps its descriptor, now with
BAD = 1, for IQ0 and the recorder, and quays that have started it end it under R227. No notice follows (R226). -/
def State.keepBad (s : State) (f : Nat) : State :=
  let s := s.badLeaves f
  let fix (it : QItem) : QItem := { it with r := recSpoiled f it.r }
  let inner := [2, 3].foldl (fun (s : State) (k : Nat) =>
    if (s.inner k).any fun it => it.frame == f then
      (s.putInner k ((s.inner k).filter fun it => it.frame != f)).release f (.inner k)
    else s) s
  let s := inner
  let s := s.setCst { s.cst with
    innerIn := s.cst.innerIn.map fun p => (p.1, p.2.map fix)
    inbox := s.cst.inbox.map fun d => if d.1.cell = f then ({ d.1 with bad := true }, d.2) else d
    ingress := s.cst.ingress.map fun p =>
      let mark (d : Desc × Bool) : Desc × Bool := if d.1.cell = f then ({ d.1 with bad := true }, d.2) else d
      (p.1, { p.2 with fifo := { p.2.fifo with items := p.2.fifo.items.map mark, after := p.2.fifo.after.map mark } })
    flow := s.cst.flow.map fun x => { x with r := recSpoiled f x.r, alt := x.alt.map fun p => (p.1, recSpoiled f p.2) } }
  match s.frame? f with
  | some o =>
    let s := s.putFrame f { o with bad := true, kept := true, noticed := true, complete := true }
    if o.settled then s.release f .landing else s
  | none => s

/-! ### Hand-over, landing and the write port (R213–R218, R224) -/

/-- The ns that a writer's other bank takes to fill: 256 bytes at the quay's line rate (Tables 1-7 and 10-1), or the 128 ns of an inner quay
(R214). -/
def State.bankTime (s : State) (w : Nat) : Nat :=
  if 64 ≤ w then 128 else 2048000 / (if w < 32 then 20 else s.lineRate w)

/-- BANK_HANDOVER: a bank of writer w is handed over when it is full or its frame ends; the first bank of a frame carries the receive
stamp, and the deadline is the time at which the other bank would fill (R213, R214). -/
def execBankHandover (w : Nat) (data : List Nat) (last : Bool) (stamp deadline : Nat) (s : State) : Result :=
  onLogicIf s (decide (w < 68 ∧ w ≠ 65 ∧ 1 ≤ data.length ∧ data.length ≤ 256) && (last || data.length == 256)) fun s =>
    let i := s.ingr w
    if i.refused then s.putIngr w (if last then { i with refused := false, landed := i.landed ++ [none] } else i)
    else if 2 ≤ i.waiting.length || deadline != s.now + s.bankTime w then s
    else
      let first := match i.waiting.getLast? with | some b => b.last | none => i.current.isNone
      let s := s.putIngr w { i with
        waiting := i.waiting ++ [{ data := data, last := last, deadline := deadline, stuck := s.cst.unserved }]
        stamp := if first then stamp else i.stamp }
      s.setCst { s.cst with unserved := false }

/-- A landing frame of a writer takes its next cell, or is refused whole (R216, R218). -/
def State.landNext (s : State) (w : Nat) : State :=
  let i := s.ingr w
  match s.takeCell w i.current with
  | some c => s.putIngr w { i with next := some c }
  | none =>
    let len := match i.current.bind s.frame? with | some o => o.len | none => 0
    let cut := match i.current.bind s.frame? with | some o => o.issued | none => false
    let s := s.putIngr w i.giveUp
    match cut, i.current with
    | true, some f => ((s.landRefuse w none len).frameBad f)
    | _, _ => s.landRefuse w i.current len

/-- CELL_LANDING: the frame of writer w that awaits the write port takes its next cell (R218). -/
def execCellLanding (w : Nat) (s : State) : Result :=
  onLogicIf s (!(s.ingr w).waiting.isEmpty && (s.ingr w).next.isNone) fun s => s.landNext w

/-- A descriptor with CUT = 1 is issued once BYTES have landed (R224). -/
def State.cutIssue (s : State) (q f : Nat) : State :=
  match s.frame? f with
  | none => s
  | some o =>
    let bytes := s.rd CST_CUT_BYTES [q]
    if 32 ≤ q && q < 64 && s.on CST_CTRL_CUT_EN [] && bytes != 0 && bytes ≤ o.len && !o.complete && !o.issued then
      let bound := s.rd QYE_FRAME_MAX_LEN [q]
      let d := s.ethDesc q f bound false true
      let s := s.putFrame f { o with cut := true, bound := bound }
      let p := s.pushDesc q d.1 d.2
      if p.2 then p.1 else (p.1.rxOverflow q).logRxDrop q 6 o.len 3 false
    else s

/-- The write port writes the first waiting bank of a writer. -/
def State.writeBank (s : State) (w : Nat) : State :=
  let s := if (s.ingr w).next.isNone then s.landNext w else s
  let i := s.ingr w
  match i.waiting, i.next with
  | b :: rest, some c =>
    let p := s.appendCell w i.current c b.data
    let s := p.1
    let f := p.2
    let i := s.ingr w
    if b.last then
      (s.putIngr w { i with waiting := rest, current := none, next := none, landed := i.landed ++ [some f] }).landingDone f
    else (s.putIngr w { i with waiting := rest, current := some f, next := none }).cutIssue w f
  | _, _ => s

/-- The writer that the write port serves next: the handed-over bank with the earliest deadline (R214). DESIGN CHOICE (log 9): of equal deadlines
the lowest-numbered writer's is served first. -/
def State.nextWriter (s : State) : Option Nat :=
  (s.cst.ingress.foldl (fun (best : Option (Nat × Nat)) p =>
    match p.2.waiting with
    | b :: _ =>
      if b.stuck then best
      else match best with
        | none => some (p.1, b.deadline)
        | some (_, t) => if b.deadline < t then some (p.1, b.deadline) else best
    | [] => best) none).map fun p => p.1

/-- CELL_WRITE (R211, R214). -/
def execCellWrite (s : State) : Result :=
  onLogic s fun s => match s.nextWriter with | some w => s.writeBank w | none => s

/-- INGRESS_OVERRUN: a line delivers a byte while both banks of its quay await the write port: the frame being received, which has the banks
behind the last bank of an earlier frame, is dropped whole (R215). A bank left unserved is served again (DESIGN CHOICE, log 9). -/
def execIngressOverrun (w : Nat) (s : State) : Result :=
  onLogicIf s (decide (w < 64 ∧ 2 ≤ (s.ingr w).waiting.length)) fun s =>
    let i := s.ingr w
    let old := i.waiting.take (i.waiting.length - (i.waiting.reverse.takeWhile fun b => !b.last).length)
    let o := if old.isEmpty then i.current.bind s.frame? else none
    let s := s.putIngr w { i with
      waiting := (old.filter fun b => !b.void).map fun b => { b with stuck := false }
      current := if old.isEmpty then none else i.current, next := if old.isEmpty then none else i.next, refused := true }
    let s := ((s.errU pgCST 0x07 1).bump CST_CNT_OVERRUN_CNT []).irq pgCST 4
    let s := s.rxOverflow w
    let s := s.log (.frame {
      port := w, status := 2, detail := 4, len := match o with | some o => o.len | none => 0
      medium := if w < 32 then 0 else 3, stamp := i.stamp })
    match i.current, o with
    | some f, some o => if o.issued then s.frameBad f else s.dropFrame f
    | _, _ => s

/-- Banks that wait for the write port. -/
def State.banksWaiting (s : State) : Nat := (s.cst.ingress.map fun p => p.2.waiting.length).foldl (· + ·) 0

/-- The write port serves banks, earliest deadline first, until none of a writer waits; a bank left unserved holds it up (R214, R243). -/
def State.serveUntil (w : Nat) : Nat → State → State
  | 0, s => s
  | n + 1, s =>
    match (s.ingr w).waiting with
    | [] => s
    | b :: _ => if b.stuck then s else match s.nextWriter with | some v => State.serveUntil w n (s.writeBank v) | none => s

/-- The banks of a writer reach the cistern. -/
def State.serveFor (s : State) (w : Nat) : State := State.serveUntil w s.banksWaiting s

/-- A frame ends while its banks wait behind a bank left unserved: it is lost, and its bank stays in its place (DESIGN CHOICE, log 9). -/
def State.loseStuck (s : State) (q : Nat) : State :=
  let i := s.ingr q
  let void (b : Bank) : Bank := { b with stuck := true, void := true }
  let more : List Bank := if i.waiting.length = 1 && i.waiting.all fun b => b.void then [void { data := [], last := true, deadline := 0 }] else []
  let s := s.putIngr q { i with waiting := i.waiting.map void ++ more, current := none, next := none }
  match i.current with
  | some f => (match s.frame? f with | some o => if o.issued then s.frameBad f else s.dropFrame f | none => s)
  | none => s

/-! ### Classification (R219, R220) -/

/-- Cells of a frame in a source. -/
def FrameObj.inSource (o : FrameObj) (src : Nat) : Nat := (o.cells.filter fun c => srcOfCell c.1 == src).length

/-- The cells a frame counts for at admission: its cells, or those of its bound for a CUT frame (R226). -/
def FrameObj.admitCells (o : FrameObj) : Nat := o.cells.length + (if o.cut then o.unlanded else 0)

/-- n_s of a frame: its cells in source s, with those not yet landed at the source of its next cell. -/
def State.admitIn (s : State) (o : FrameObj) (src : Nat) : Nat :=
  o.inSource src + (if o.cut && (s.landSource o.writer).map (fun p => p.1) == some src then o.unlanded else 0)

/-- The source test of R220. -/
def State.sourceTest (s : State) (o : FrameObj) : Bool :=
  (List.range 9).all fun i => s.admitIn o i == 0 || s.ueOf i + s.admitIn o i ≤ s.limOf i

/-- H of R220. -/
def State.headroom (s : State) (w : Nat) : Int :=
  let bank := clusterOf w
  ((s.limOf 8 : Int) - s.ueOf 8) + (if w < 64 && !s.bankFailed bank then (s.limOf bank : Int) - s.ueOf bank else 0)

/-- The code of α for a queue index. -/
def State.alphaCode (s : State) (i : Nat) : Nat := s.rd CST_ALPHA_CODE [] / 16 ^ i % 16

/-- The queue test of R220: Qu + n ≤ α × H with α = 2^(code − 4). -/
def State.queueTest (s : State) (o : FrameObj) (h : Holder) (i : Nat) : Bool :=
  decide (16 * ((s.unschedHeldBy h : Int) + o.admitCells) ≤ 2 ^ s.alphaCode i * s.headroom o.writer)

/-- The destinations of a classified record, as holders with the queue index of their test: quays, then IQ0, IQ2 and IQ3. -/
def FlowRec.dests (f : FlowRec) : List (Nat × Holder × Nat) :=
  ((List.range 64).filterMap fun q =>
    if bitOf f.taken q = 1 then some (q, .egress q (f.recFor q).queue, (f.recFor q).queue) else none)
  ++ ([64, 66, 67].filterMap fun p => if bitOf f.taken p = 1 then some (p, .inner (p - 64), 0) else none)

/-- A frame joins a destination. -/
def State.join (s : State) (f : Nat) (fl : FlowRec) (port : Nat) : State :=
  let r := fl.recFor port
  let it : QItem := { frame := f, r := r, emit := fl.emit, due := fl.due, since := s.now }
  if port < 64 then
    let s := s.advanceCredit port
    (s.putEgress port r.queue (s.egress port r.queue ++ [it])).hold f (.egress port r.queue)
  else (s.putInner (port - 64) (s.inner (port - 64) ++ [it])).hold f (.inner (port - 64))

/-- The berth queue holds at most 16 frames (R219). -/
def berthQueueMax : Nat := 16

/-- Record the charge of a frame. -/
def State.charge (s : State) (f : Nat) (c : Charge) : State :=
  match s.frame? f with
  | none => s
  | some o => s.putFrame f { o with charge := c, ahead := if o.cut && !o.complete then (s.landSource o.writer).map (fun p => p.1) else none }

/-- A frame whose first record has been settled leaves its landing; a CUT frame leaves it at the end of its landing (R212, R226). -/
def State.unland (s : State) (f : Nat) : State :=
  match s.frame? f with
  | some o => if o.cut && !o.noticed then s.putFrame f { o with settled := true } else s.release f .landing
  | none => s

/-- A frame dropped whole at its classification: its cells are charged to no class until its landing and its readers release it. -/
def State.dropClass (s : State) (f : Nat) : State := (s.charge f .dropped).unland f

/-- Whether class E consumers refused a record that was meant for them (R157). -/
def State.countInterrupt (s : State) (fl : FlowRec) : State :=
  if fl.interrupted && fl.r.reason != 7 then s.bump PM_CNT_INTERRUPT_DROP_CNT [s.actPlane] else s

/-- Classify a scheduled frame (R219). -/
def State.classifySched (s : State) (f : Nat) (fl : FlowRec) (o : FrameObj) : State :=
  let s := s.charge f .scheduled
  if bitOf fl.taken 68 = 1 then
    let b := fl.r.berth
    let l := s.berthQ b
    if berthQueueMax ≤ l.length then
      (((s.bump CST_CNT_BQ_FULL_CNT []).logCst o 2 (some fl.r)).dropClass f)
    else
      let s := (s.putBerthQ b (l ++ [{ frame := f, r := fl.recFor 68, since := s.now }])).hold f (.berthQueue b)
      let s := fl.dests.foldl (fun s d => s.join f fl d.1) s
      (s.unland f).hwm
  else ((fl.dests.foldl (fun s d => s.join f fl d.1) s).unland f).hwm

/-- Classify an unscheduled frame (R220). -/
def State.classifyUnsched (s : State) (f : Nat) (fl : FlowRec) (o : FrameObj) : State :=
  let joins := fl.dests.filter fun d => s.queueTest o d.2.1 d.2.2
  if fl.dests.isEmpty then s.dropClass f
  else if !s.sourceTest o || joins.isEmpty then
    ((((s.bump CST_CNT_UNSCHED_DROP_CNT []).irq pgCST 1).logCst o 3 (some fl.r)).dropClass f)
  else
    let s := s.charge f .unscheduled
    ((joins.foldl (fun s d => s.join f fl d.1) s).unland f).hwm

/-- The record of an EMIT release, or of a rebuilt PDU, reaches the enqueue: it is enqueued without a test (R219). -/
def State.enqueueEmit (s : State) (f : Nat) (fl : FlowRec) : State :=
  if fl.dests.isEmpty then
    let s := if fl.lost.isEmpty && fl.taken == 0 then s.bump TID_CNT_FLUSH_CNT [] else s
    match fl.source with | some h => s.release f h | none => s
  else
    let s := fl.dests.foldl (fun s d => s.join f fl d.1) s
    match fl.source with | some h => s.release f h | none => s

/-- Whether a record is, or may still be, one for IQ2. -/
def FlowRec.forIq2 (f : FlowRec) : Bool := bitOf (f.todo ||| f.query ||| f.taken) 66 == 1

/-- The place of the record that reaches the enqueue next: the oldest that every consumer has settled, where a record for IQ2 waits for the
earlier ones for IQ2, so that they join it in DESC_SEQ order (R171). -/
def State.nextSettled (s : State) : Option Nat :=
  ((s.cst.flow.zipIdx).find? fun x =>
    x.1.todo == 0 && x.1.query == 0 && !(x.1.forIq2 && (s.cst.flow.take x.2).any FlowRec.forIq2)).map fun x => x.2

/-- CLASSIFICATION: the next settled record reaches the cistern enqueue. -/
def execClassification (s : State) : Result :=
  onLogic s fun s =>
    match s.nextSettled with
    | none => s
    | some n =>
      match s.cst.flow[n]? with
      | none => s
      | some fl =>
        let s := s.setCst { s.cst with flow := s.cst.flow.eraseIdx n }
        let f := fl.r.d.cell
        match s.frame? f with
        | none => s
        | some o =>
          if fl.source.isSome then s.enqueueEmit f fl
          else
            let s := s.countInterrupt fl
            if fl.r.reason = 7 then s.dropClass f
            else if fl.r.sched then s.classifySched f fl o
            else s.classifyUnsched f fl o

/-! ### The length notice (R226) -/

/-- What the plane does at the length notice of a frame: the outcome of the stream filter, the meter's refund and OCTETS. -/
def State.noticeBerth (s : State) (x b bound len : Nat) : State :=
  let c := s.berth b
  let r := s.rtOf x b
  let s :=
    if c.burst = 0 then s
    else s.setRtOf x b { r with tokens := min (256 * c.burst) (r.tokens + (meterCost c bound - meterCost c len)) }
  if c.maxSdu % 2 ^ 14 != 0 && c.maxSdu % 2 ^ 14 < len then
    ((s.berthStat x b .drop).bump BTH_CNT_FILTER_CNT []).blockBerth x b
  else if !c.authRx && !c.authTx then
    s.setRtOf x b { s.rtOf x b with fresh := ((s.rtOf x b).fresh + len) % 2 ^ 64 }
  else s

/-- A record of a frame takes the final LEN. -/
def recNoticed (n : Notice) (seq : Nat) (r : Rec) : Rec :=
  if r.d.cell = n.frame ∧ r.seq = seq then { r with d := { r.d with len := n.len } } else r

/-- An item takes the final LEN. -/
def QItem.noticed (n : Notice) (seq : Nat) (it : QItem) : QItem := { it with r := recNoticed n seq it.r }

/-- Every holder of a frame takes its final LEN. -/
def State.noticeHolders (s : State) (n : Notice) (seq : Nat) : State :=
  let fixQ (m : SMap (List QItem)) : SMap (List QItem) := m.map fun p => (p.1, p.2.map fun it => it.noticed n seq)
  let fixJ (j : CphJob) : CphJob := { j with item := j.item.noticed n seq }
  let s := s.setCst { s.cst with
    queues := fixQ s.cst.queues, bq := fixQ s.cst.bq, innerIn := fixQ s.cst.innerIn
    flow := s.cst.flow.map fun x => { x with r := recNoticed n seq x.r, alt := x.alt.map fun p => (p.1, recNoticed n seq p.2) } }
  let s := s.setSgw { s.sgw with
    jobs := { s.sgw.jobs with
      items := s.sgw.jobs.items.map fun it => it.noticed n seq, after := s.sgw.jobs.after.map fun it => it.noticed n seq }
    cur := s.sgw.cur.map fun j => { j with item := j.item.noticed n seq } }
  let s := s.setCph { s.cph with
    jobs := { s.cph.jobs with items := s.cph.jobs.items.map fixJ, after := s.cph.jobs.after.map fixJ }
    lanes := s.cph.lanes.map fun p => (p.1, match p.2.job with
      | some (.traffic j k a g o) => { p.2 with job := some (.traffic (fixJ j) k a g o) }
      | _ => p.2) }
  { s with logLines := s.logLines.map fun e => match e with
      | LogEvent.frame l => if l.frame = some n.frame ∧ l.seq = seq then LogEvent.frame { l with len := n.len } else e
      | _ => e }

/-- The frame of a notice, while it is still held. -/
def State.noticeFrame (s : State) (n : Notice) : Option FrameObj :=
  match s.frame? n.frame with
  | some o => if n.seq.isNone || n.seq == o.seq then some o else none
  | none => none

/-- A notice acts once its frame's descriptor has been decided. -/
def State.noticeReady (s : State) (n : Notice) : Bool :=
  match s.noticeFrame n with
  | some o => (match o.seq with | some q => !s.cst.inbox.any fun d => d.2.1 == q | none => false)
  | none => true

/-- A frame whose final LEN is known has no bound of its length ahead any more. -/
def State.noticeSettled (s : State) (n : Notice) : State :=
  match s.noticeFrame n with
  | some o => s.putFrame n.frame { o with ahead := none }
  | none => s

/-- LENGTH_NOTICE: the final LEN of a frame issued with CUT = 1 reaches both planes and every holder. -/
def execLengthNotice (s : State) : Result :=
  onLogic s fun s =>
    match s.cst.notices.find? s.noticeReady with
    | none => s
    | some n =>
      let s := s.setCst { s.cst with notices := s.cst.notices.erase n }
      match (match s.noticeFrame n with | some o => o.seq | none => n.seq) with
      | none => s
      | some seq =>
        let s := (s.noticeHolders n seq).noticeSettled n
        if !s.hasAct then s
        else
          let x := s.actPlane
          match (s.plane x).history.find? (fun r => r.seq == seq) with
          | some r =>
            if r.berthValid && r.reason != 7 then
              let c := s.berth r.berth
              let s := s.noticeBerth x r.berth n.bound n.len
              if c.maxSdu % 2 ^ 14 != 0 && c.maxSdu % 2 ^ 14 < n.len && (s.noticeFrame n).isSome then s.frameBad n.frame else s
            else s
          | none => s

/-! ### Release and failures -/

/-- FRAME_RELEASE: a holder releases a frame (R212). -/
def execFrameRelease (f : Nat) (h : Holder) (s : State) : Result :=
  onLogicIf s (match s.frame? f with | some o => o.holders.contains h | none => false) fun s => s.release f h

/-- The stored CRC of a cell no longer fits its contents. -/
def State.spoilCell (s : State) (c : Nat) : State := s.setCst { s.cst with badCells := c :: s.cst.badCells.filter fun x => x != c }

/-- A cell fails its CRC at a consumer (R229). -/
def State.cellCrc (s : State) (f c : Nat) : State :=
  let s := (((s.spoilCell c).err pgCST 0x03 1 c).bump CST_CNT_CELL_CRC_CNT []).irq pgCST 2
  match s.frame? f with
  | some o => s.putFrame f { o with failed := c :: o.failed.filter (fun x => x != c) }
  | none => s

/-- Take a frame out of the egress queues of a quay. -/
def State.unqueueAt (s : State) (q f : Nat) : State :=
  (List.range 8).foldl (fun s i =>
    let l := s.egress q i
    if l.any (fun x => x.frame == f) then ((s.putEgress q i (l.filter fun x => x.frame != f)).release f (.egress q i)).loneAfter q else s) s

/-- Whether a failed frame is written afresh: it is a REASON 5 frame, and rebuilds are enabled (R190). -/
def State.rebuildable (s : State) (f : Nat) : Bool :=
  s.on SGW_CTRL_REBUILD_EN [] && (match s.frame? f with | some o => o.pdu.isSome | none => false)

/-- A consumer asks the gateway engine for a rebuild (R190). -/
def State.askRebuild (s : State) (port : Nat) (it : QItem) : State :=
  let s := s.hold it.frame (.rebuild port)
  s.setCst { s.cst with rebuilds := s.cst.rebuilds ++ [(port, it)] }

/-- A consumer that has not started a frame drops it, or asks for its rebuild (R190, R229). -/
def State.crcDrop (s : State) (port f : Nat) (it : QItem) : State :=
  if s.rebuildable f then s.askRebuild port it
  else match s.frame? f with | some o => s.logCst o 6 (some it.r) | none => s

/-- The frame in transmission at an egress quay meets a cell that fails its CRC: it ends as R227 has it, and a REASON 5 frame is rebuilt. A CAN
quay, which has no FCS to invert, ends its attempt (DESIGN CHOICE, log 9). -/
def State.crcEnd (s : State) (q f : Nat) : State :=
  let x := SMap.getD s.quays q {}
  match x.tx with
  | some t =>
    match t.item with
    | some it =>
      if it.frame = f then
        let s := if s.rebuildable f then s.askRebuild q it else s
        if q < 32 then
          let s : State := { s with quays := SMap.setD s.quays {} q { x with tx := none } }
          let s := (s.bump CST_CNT_CUT_ABORT_CNT []).logTx q { it.r with queue := t.queue } f 6 1 s.stamp
          (s.release f (.reader q)).release f (.egress q t.queue)
        else match s.frame? f with | some o => s.putFrame f { o with bad := true } | none => s
      else s
    | none => s
  | none => s

/-- A consumer's job on a frame is dropped: an item of an inner quay or of its job queue. -/
def State.crcInner (s : State) (k f : Nat) (it : QItem) : State :=
  let s := s.crcDrop (64 + k) f it
  (if k = 2 && !s.rebuildable f then s.errU pgSGW 0x03 1 else s).release f (.inner k)

/-- CELL_CRC_FAILURE: consumer `port` finds a cell of a frame failing its CRC, and drops or ends the frame, or asks for a rebuild
(R190, R208, R229). What IQ0, the recorder and a cipher lane already read, they find failed as they reach the cell. -/
def execCellCrcFailure (port f c : Nat) (s : State) : Result :=
  onLogicIf s (match s.frame? f with | some o => o.cells.any (fun x => x.1 == c) | none => false) fun s =>
    if port < 64 then
      let s := s.cellCrc f c
      match ((List.range 8).flatMap fun i => s.egress port i).find? fun x => x.frame == f with
      | some it => (s.crcDrop port f it).unqueueAt port f
      | none => s.crcEnd port f
    else if port = 65 || !(port < 68) then s.spoilCell c
    else
      let k := port - 64
      let queued := (s.inner k).find? fun x => x.frame == f
      let job := if k = 2 then s.sgw.jobs.all.find? (fun x => x.frame == f)
        else if k = 3 then (s.cph.jobs.all.find? fun j => j.item.frame == f).map fun j => j.item else none
      match queued, job with
      | some it, _ => ((s.cellCrc f c).putInner k ((s.inner k).filter fun x => x.frame != f)).crcInner k f it
      | none, some it =>
        let s := s.cellCrc f c
        let s := s.setSgw { s.sgw with jobs := s.sgw.jobs.keep fun x => x.frame != f }
        let s := s.setCph { s.cph with jobs := s.cph.jobs.keep fun j => j.item.frame != f }
        s.crcInner k f it
      | none, none => s.spoilCell c

/-- BANK_FAILURE: an uncorrected error in the link or free-list memory of a source (R231, R232). -/
def execBankFailure (src : Nat) (s : State) : Result :=
  onLogicIf s (decide (src ≤ 8)) fun s =>
    if src = 8 then (((s.err pgCST 0x06 4 8).wr CST_STATUS_FAILED [] (setBitOf (s.rd CST_STATUS_FAILED []) 8)).bankCond).hwm
    else if s.bankFailed src then s.err pgCST 0x04 1 src
    else (s.err pgCST 0x04 1 src).failBank src

end Sys2Proof.Machine
end

