-- ==== Sys2Proof/Machine/GwOps.lean ====
section
/-! DEFINITION. The gateway engine's operations: the PDU buffer store, signal fields, map expiry, the frames IQ2 builds (chapter 5). -/

namespace Sys2Proof.Machine

/-! ### Bit fields (R178) -/

/-- Payload bit p of a payload. -/
def payBit (bs : List Nat) (p : Nat) : Nat := bitOf (bs.getD (p / 8) 0) (p % 8)

/-- The value of a field, its bit positions listed from value bit 0 up. -/
def payField (bs : List Nat) (ps : List Nat) : Nat := (ps.zipIdx).foldl (fun v p => v + payBit bs p.1 * 2 ^ p.2) 0

/-- Whether every position lies within a payload. -/
def payHas (bs : List Nat) (ps : List Nat) : Bool := ps.all fun p => p / 8 < bs.length

/-- Put one bit into a memory, counted from a byte base. -/
def Mem.putBit (m : Mem) (base p b : Nat) : Mem :=
  let a := base + p / 8
  let old := Mem.byte m a
  Mem.put m a (if b = 1 then setBitOf old (p % 8) else clearBitOf old (p % 8))

/-- Deposit a value at bit positions listed from value bit 0 up. -/
def Mem.putField (m : Mem) (base : Nat) (ps : List Nat) (v : Nat) : Mem :=
  (ps.zipIdx).foldl (fun m p => Mem.putBit m base p.1 (bitOf v p.2)) m

/-! ### The PDU buffer store (R176, R177) -/

/-- Byte address of a map's state word. -/
def mapStateAt (m : Nat) : Nat := 64 * 15104 + 4 * m

/-- Byte address of a tunnel's state. -/
def tunStateAt (t : Nat) : Nat := 64 * 16128 + 16 * t

/-- The PDU store in force. -/
def State.pdu (s : State) : Mem := s.img.pdu

/-- Change the PDU store in force, recording the changed lines. -/
def State.setPdu (s : State) (m : Mem) (lines : List Nat) : State := s.setImg { s.img with pdu := m } (lines.map linePdu)

/-- The lines of an area that starts at a line. -/
def areaLines (first n : Nat) : List Nat := (List.range n).map fun i => first + i

/-- Byte address of the build area. -/
def PduLayout.build (l : PduLayout) : Nat := 64 * l.base
/-- Byte address of the packed area. -/
def PduLayout.packed (l : PduLayout) : Nat := 64 * (l.base + l.lines)
/-- FILL. -/
def PduLayout.fill (l : PduLayout) : Nat := if bitOf l.flags 0 = 1 then 0xFF else 0
/-- Lines of the build area. -/
def PduLayout.buildLines (l : PduLayout) : List Nat := areaLines l.base l.lines
/-- Lines of the packed area. -/
def PduLayout.packedLines (l : PduLayout) : List Nat := areaLines (l.base + l.lines) l.lines
/-- TX_BERTH, if valid. -/
def PduLayout.tx (l : PduLayout) : Option Nat := if bitOf l.flags 3 = 1 then some (l.txBerth % 2 ^ 14) else none

/-- Flags of a signal map (Table 5-4). -/
def SigMap.srcBe (m : SigMap) : Bool := bitOf m.flags 0 == 1
/-- DST_BE. -/
def SigMap.dstBe (m : SigMap) : Bool := bitOf m.flags 1 == 1
/-- SRC_UPD. -/
def SigMap.hasSrcUpd (m : SigMap) : Bool := bitOf m.flags 2 == 1
/-- DST_UPD. -/
def SigMap.hasDstUpd (m : SigMap) : Bool := bitOf m.flags 3 == 1
/-- HOLD. -/
def SigMap.hold (m : SigMap) : Bool := bitOf m.flags 4 == 1
/-- Positions of the source field. -/
def SigMap.srcBits (m : SigMap) : List Nat := fieldBits m.srcBe m.srcPos m.width
/-- Positions of the destination field. -/
def SigMap.dstBits (m : SigMap) : List Nat := fieldBits m.dstBe m.dstPos m.width

/-- Line of a map's state word. -/
def mapLine (i : Nat) : Nat := mapStateAt i / 64

/-- The state word that a write by a map leaves. -/
def State.mapWord (s : State) : Nat := 2 ^ 30 + s.stroke % 2 ^ 30

/-! ### Expiry (R183) -/

/-- Whether a map is expired and not yet flagged. -/
def State.mapExpires (s : State) (i : Nat) (m : SigMap) : Bool :=
  let w := Mem.le s.pdu (mapStateAt i) 4
  m.timeout != 0 && bitOf w 31 == 0 && 8 * m.timeout < (s.stroke % 2 ^ 30 + 2 ^ 30 - w % 2 ^ 30) % 2 ^ 30

/-- The engine finds an unflagged map expired. -/
def State.expireMap (s : State) (i : Nat) (m : SigMap) : State :=
  match imgLayout s.tid.active m.dstPdu with
  | none => s
  | some l =>
    let w := Mem.le s.pdu (mapStateAt i) 4
    let p := Mem.puts s.pdu (mapStateAt i) (leBytes 4 (w + 2 ^ 31))
    let p := if m.hold then p else Mem.putField p l.build m.dstBits m.dflt
    let p := if m.hasDstUpd then Mem.putBit p l.build m.dstUpd 0 else p
    let s := s.setPdu p (mapLine i :: l.buildLines)
    ((s.irq pgSGW 0).bump SGW_CNT_TIMEOUT_CNT []).wr SGW_LAST_TIMEOUT_MAP [] i

/-- Test expiry of a map. -/
def State.testMap (s : State) (i : Nat) (m : SigMap) : State := if s.mapExpires i m then s.expireMap i m else s

/-! ### Frames that IQ2 builds -/

/-- The Ethernet header of a tunnel record (R717). -/
def tunHeader (t : Tunnel) (etype : Nat) : List Nat :=
  t.da ++ t.sa ++ (if bitOf t.flags 0 = 1 then [0x81, 0x00] ++ beBytes 2 t.tci else []) ++ beBytes 2 etype

/-- The HDR of an Ethernet frame that an inner quay writes: no quay's defaults apply. -/
def innerHdr (bytes : List Nat) : BitVec 128 := hdrEth (parseEth [0x8100] bytes)

/-- The CAN frame of a PDU layout with its data (R186). -/
def pduCan (l : PduLayout) (data : List Nat) : CanFrame :=
  let xl := l.kind = 2
  { ident := l.canId % 2 ^ 29, ide := !xl && bitOf l.flags 1 == 1, format := l.kind
    flags := if l.kind = 1 then 2 * bitOf l.flags 2 else 0, dataLen := l.length
    sdt := if xl then l.sdt else 0, vcid := if xl then l.vcid else 0, af := if xl then l.af else 0, data := data }

/-- The frame of a PDU: its bytes and its HDR, from its layout and its packed area. -/
def State.pduFrame (s : State) (l : PduLayout) : List Nat × BitVec 128 :=
  let data := Mem.bytes s.pdu l.packed l.length
  if l.kind = 3 then
    let t := imgTunnel s.tid.active l.hdrTunnel
    let bs := tunHeader t t.etype ++ data
    (bs, innerHdr bs)
  else
    let f := pduCan l data
    (canStore f, hdrCan f)

/-- Cells that IQ2's PDU frames hold (R223). -/
def State.pduCells (s : State) : Nat :=
  (s.cst.frames.map fun p => if p.2.pdu.isSome then p.2.cells.length else 0).foldl (· + ·) 0

/-- The sum of IQ2's RESERVATIONS records. -/
def State.pduReserve (s : State) : Nat :=
  ((imgReservations s.tid.active).filter fun r => r.port == 66).foldl (fun n r => n + r.cells) 0

/-- Write the cells of a frame in source `src`, for writer `w`. -/
def State.writePool (src w : Nat) : List (List Nat) → State → Option Nat → State × Option Nat
  | [], s, f => (s, f)
  | d :: ds, s, f =>
    match s.freeCell src with
    | none => (s, f)
    | some c =>
      let p := s.appendCell w f c d
      State.writePool src w ds p.1 (some p.2)

/-- Write a PDU frame into cells of IQ2's reservation, held as `h`; none where no cell is free (R189, R223). -/
def State.writePduFrame (s : State) (k : Nat) (bytes : List Nat) (h : Holder) (rebuilt : Bool) : State × Option Nat :=
  let chunks := cellChunks 64 bytes
  let n := chunks.length
  if s.pduReserve < s.pduCells + n ∨ s.freeOf 8 < n then (s, none)
  else
    let p := State.writePool 8 66 chunks s none
    match p.2 with
    | none => (s, none)
    | some f =>
      match p.1.frame? f with
      | none => (s, none)
      | some o =>
        ((p.1.putFrame f { o with
            complete := true, issued := true, charge := .scheduled, holders := [h], pdu := some k, rebuilt := rebuilt }).hwm,
          some f)

/-- The record of a PDU emission (R188) before it is released. DESIGN CHOICE (log 7): the spec gives no SRC, STAMP or SCHED with TX_BERTH, and does not
say when the berth's fields are taken: the model gives SRC 66, the time of the PACK and SCHED 1, takes VBR and the tag fields at the PACK, and
updates no statistics of TX_BERTH. -/
def State.pduRec (s : State) (l : PduLayout) (f : Nat) (bytes : List Nat) (hdr : BitVec 128) : Rec :=
  let d : Desc := { cell := f, len := bytes.length, src := 66, medium := l.kind, stamp := s.stamp, hdr := hdr }
  match l.tx with
  | some b =>
    let c := s.berth b
    { d := d, berthValid := true, berth := b, sched := true, vbr := c.vbr, tagOp := c.tag % 4, newVid := c.newVid % 4096
      newPcp := c.tag / 4 % 8, reason := 5 }
  | none => { d := d, sched := true, reason := 5 }

/-- Seal a REASON 5 record: an injected fault spoils the check word of the next one (R208). -/
def State.sealPdu (s : State) (r : Rec) : State × Rec :=
  let r := sealRec r
  if s.sgw.badCheck then (s.setSgw { s.sgw with badCheck := false }, { r with check := r.check ^^^ 1 }) else (s, r)

/-! ### Initial contents at activation (R184) -/

/-- The PDU store of a newly activated image: every build area filled, then every DEFAULT deposited in record order, then every update bit
cleared. -/
def State.pduInit (s : State) (m : Mem) : Mem :=
  let maps := imgMaps m
  let onBuild (p : Mem) (x : Nat × SigMap) (f : Mem → Nat → Mem) : Mem :=
    match imgLayout m x.2.dstPdu with | some l => f p l.build | none => p
  let p := (imgLayouts m).foldl (fun (p : Mem) l => Mem.puts p l.build (List.replicate (64 * l.lines) l.fill)) []
  let p := maps.foldl (fun p x => Mem.puts p (mapStateAt x.1) (leBytes 4 (s.stroke % 2 ^ 30))) p
  let p := maps.foldl (fun p x => onBuild p x fun p a => Mem.putField p a x.2.dstBits x.2.dflt) p
  maps.foldl (fun p x => if x.2.hasDstUpd then onBuild p x fun p a => Mem.putBit p a x.2.dstUpd 0 else p) p

/-! ### Re-entering descriptors (R174) -/

/-- A frame that a job issues re-enters as a new descriptor. Answers whether it was issued. -/
def State.reissue (s : State) (r : Rec) (target : Nat) (bytes : List Nat) (medium : Nat) (hdr : BitVec 128) (stamp : Nat) : State × Bool :=
  let p := s.landFrame 66 none bytes
  match p.2 with
  | none => (p.1, false)
  | some f =>
    let d : Desc := {
      cell := f, len := bytes.length, src := 66, medium := medium, recirc := true, pass := r.d.pass + 1, hint := target
      hintValid := true, stamp := stamp, hdr := hdr }
    p.1.pushDesc 66 d r.sched

/-- A CAN frame re-enters. -/
def State.reissueCan (s : State) (r : Rec) (target : Nat) (f : CanFrame) (stamp : Nat) : State × Bool :=
  s.reissue r target (canStore f) f.format (hdrCan f) stamp

/-! ### The registers that show the gateway (Table 5-11) -/

/-- Bring the gateway's registers in line with its state. -/
def State.viewSgw (s : State) : State :=
  let a := s.tid.active
  let n (c : Nat) : Nat := if s.tid.hasActive then c else 0
  let s := s.wr SGW_STATUS_JOBQ_DEPTH [] s.sgw.jobs.depth
  let s := s.wr SGW_ACT_MAPS_CNT [] (n (imgSection a 4).count)
  let s := s.wr SGW_ACT_PDUS_CNT [] (n (imgSection a 5).count)
  let s := s.wr SGW_ACT_TUNNELS_CNT [] (n (imgSection a 11).count)
  let s := s.wr SGW_MAP_STATE_STATE [] (Mem.le s.pdu (mapStateAt (s.rd SGW_MAP_SEL_MAP [])) 4)
  let t := tunStateAt (s.rd SGW_TUN_SEL_TUNNEL [])
  (s.wr SGW_TUN_STATE_TX_SEQ [] (Mem.le s.pdu t 2)).wr SGW_TUN_STATE_RX_SEQ [] (Mem.le s.pdu (t + 2) 2)

end Sys2Proof.Machine
end

