-- ==== Sys2Proof/Machine/LogView.lean ====
section
/-! DEFINITION. The log recorder's buffer level and the registers that show it, and the Darast common header (chapters 5 and 13). -/

namespace Sys2Proof.Machine

/-- The Darast common header (Table 5-9). -/
def darastHeader (ty stream seq bodyLen stamp : Nat) (fallback : Bool) : List Nat :=
  [0x10 + ty, if fallback then 0x80 else 0] ++ beBytes 2 stream ++ beBytes 2 seq ++ beBytes 2 bodyLen
    ++ beBytes 6 (stampS stamp) ++ beBytes 4 (stampNs stamp) ++ beBytes 2 (stampFr stamp)

/-- Change the log recorder. -/
def State.setLog (s : State) (l : LogSt) : State := { s with lgr := l }

/-- Whether a stamp that quay q took at a time is a fall-back stamp (R435). -/
def State.stampOnFb (s : State) (q stamp : Nat) : Bool :=
  if q < 64 then
    let fb := s.on HCK_QSTAT_FB_ACTIVE [q]
    if SMap.getD s.hck.fbSince q 0 ≤ stamp then fb else !fb
  else false

/-- Length of a record as Darast. -/
def LogRec.size (r : LogRec) : Nat := 20 + r.body.length

/-- The record buffer of 1 MiB. -/
def logBuffer : Nat := 1048576

/-- Level of the record buffer: records, those packed for a log frame, and log frames that wait for their line. -/
def State.logLevel (s : State) : Nat :=
  s.lgr.buf.foldl (fun n r => n + r.size) 0 + s.lgr.frame.length + s.cst.frames.foldl (fun n p => n + p.2.own.length) 0

/-- Free space of the host ring (R475). -/
def State.ringFree (s : State) : Nat :=
  2 ^ s.rd LOG_RING_SIZE_SIZE [] - (s.rd LOG_RING_WP_WP [] + 2 ^ 32 - s.rd LOG_RING_RP_RP []) % 2 ^ 32

/-- The CMP header of an output unit (R474; the places of the fields are those of ASAM CMP 1.0, PRESUMED). -/
def cmpHeader (device stream seq : Nat) : List Nat :=
  beBytes 2 Config.cmpVersion ++ beBytes 2 device ++ beBytes 1 Config.cmpType ++ beBytes 1 stream ++ beBytes 2 seq

/-- The CMP data message of a frame (R474): timestamp, Interface ID, flags with the direction, payload type, payload length, and the frame. -/
def cmpData (medium port : Nat) (tx : Bool) (time len : Nat) (data : List Nat) : List Nat :=
  let header := if medium = 3 then [] else data.take 16
  let payload := (Config.cmpFrameHead medium len header).map (· % 256) ++ data.drop header.length
  beBytes 8 time ++ beBytes 4 port ++ beBytes 1 (Config.cmpFlags tx) ++ beBytes 1 (Config.cmpPayloadType medium)
    ++ beBytes 2 payload.length ++ payload

/-- The CMP vendor-specific message whose payload is a Darast record, header included (R474). -/
def cmpVendor (time : Nat) (record : List Nat) : List Nat :=
  (Config.cmpVendorHead time record.length).map (· % 256) ++ record

/-- The time of a CMP message: seconds × 10⁹ + nanoseconds, modulo 2⁶⁴ (R474). -/
def cmpTime (stamp : Nat) : Nat := (stampS stamp * nsPerS + stampNs stamp) % 2 ^ 64

/-- The bytes of a record with a sequence number, as its output format gives them (R474). -/
def State.logBytes (s : State) (r : LogRec) (seq : Nat) : List Nat :=
  let darast := darastHeader r.ty (s.rd LOG_STREAM_STREAM []) seq r.body.length r.stamp r.fb ++ r.body
  if !s.on LOG_CTRL_FORMAT [] then darast
  else if r.ty = 2 ∧ r.status = 0 then
    cmpData r.medium r.port r.tx (cmpTime r.stamp) (be r.body 2 2) r.data
  else cmpVendor (cmpTime r.stamp) darast

/-- The header that a record opens its output unit with: one for each unit in CMP format. -/
def State.unitHeader (s : State) (seq : Nat) : List Nat :=
  if s.on LOG_CTRL_FORMAT [] && !s.lgr.unitOpen then
    cmpHeader (s.rd LOG_CMP_DEVICE_ID []) (s.rd LOG_STREAM_STREAM [] % 256) seq
  else []

/-- Whether the output cannot take `n` bytes (R478). -/
def State.logBlocked (s : State) (n : Nat) : Bool :=
  match s.rd LOG_CTRL_OUT [] with
  | 1 => decide (s.ringFree < n)
  | 2 => !s.on QYE_STATUS_LINK [s.rd LOG_OUT_Q_QUAY []]
  | _ => false

/-- Bring LOG_STATUS in line. -/
def State.viewLog (s : State) : State :=
  let s := (s.wr LOG_STATUS_BUF_KIB [] (min 1024 (s.logLevel / 1024))).wr LOG_STATUS_SUM_PORTS [] s.lgr.sums.length
  let next := match s.lgr.buf with
    | r :: _ => (s.unitHeader (s.rd LOG_SEQ_SEQ [])).length + (s.logBytes r (s.rd LOG_SEQ_SEQ [])).length
    | [] => 0
  let blocked := s.on PG_STATE_ENABLED [pgLOG] && s.logBlocked next
  let s := (s.setB LOG_STATUS_OUT_BLOCKED [] blocked).cond pgLOG 2 blocked
  (s.cond pgLOG 1 (s.lgr.sums.length != 0)).cond pgLOG 4 (s.on LOG_STATUS_SEAL_STOPPED [])

end Sys2Proof.Machine
end

