-- ==== Sys2Proof/Machine/Gateway.lean ====
section
/-! DEFINITION. The commands of the signal gateway: the IQ2 intake queue, signal extraction, the background sweep, tunnels, rewrites and
rebuilds (chapter 5). -/

namespace Sys2Proof.Machine

/-! ### Jobs (R169–R172) -/

/-- IQ2 intake queue entries (R171). -/
def jobDepth : Nat := 1024

/-- A job is dropped (R171, R715). -/
def State.jobDrop (s : State) : State := (s.bump SGW_CNT_JOB_DROP_CNT []).irq pgSGW 3

/-- A record enters the IQ2 intake queue, or is dropped where it is full. -/
def State.pushJob (s : State) (it : QItem) : State :=
  let p := s.sgw.jobs.push jobDepth it s.stamp
  let s := s.setSgw { s.sgw with jobs := p.1 }
  if p.2.1 then s else s.jobDrop.release it.frame (.inner 2)

/-- IQ2_JOB_ENQUEUE: the oldest record that has joined IQ2 enters the intake queue. -/
def execIq2JobEnqueue (s : State) : Result :=
  onLogic s fun s =>
    match s.inner 2 with
    | [] => s
    | it :: rest =>
      (s.putInner 2 rest).pushJob it

/-- The tunnel records that a berth starts, in record order. -/
def State.tunnelsOf (s : State) (b : Nat) : List Nat :=
  ((imgTunnels s.tid.active).filter fun t => t.2.kind != 6 && t.2.srcBerth % 2 ^ 14 == b).map fun t => t.1

/-- The signal maps of a berth, in record order. -/
def State.mapsOf (s : State) (b : Nat) : List (Nat × SigMap) := (imgMaps s.tid.active).filter fun m => m.2.srcBerth % 2 ^ 14 == b

/-- The gateway engine takes the next job, if its frame is complete: a job whose cells fail their CRC is dropped (R169). DESIGN CHOICE (log 7): such
a drop raises error 0x03 but neither `SGW_CNT_JOB_DROP`, which Table 5-12 counts for other drops, nor the JOB_DROP event. -/
def State.takeJob (s : State) : State :=
  if s.sgw.cur.isSome then s
  else
    match s.sgw.jobs.pop with
    | (.item it, q) =>
      if !s.frameComplete it.frame then s
      else
        let s := s.setSgw { s.sgw with jobs := q }
        match s.badCellsOf it.frame with
        | c :: _ => (((s.cellCrc it.frame c).errU pgSGW 0x03 1).release it.frame (.inner 2))
        | [] =>
          let b := it.r.berth
          let ts := if it.r.berthValid then s.tunnelsOf b else []
          let ms := it.r.berthValid && !(s.mapsOf b).isEmpty
          s.setSgw { s.sgw with cur := some { item := it, maps := ms || ts.isEmpty, tunnels := ts } }
    | (.marker _, q) => s.setSgw { s.sgw with jobs := q }
    | (.empty, _) => s

/-- A part of the job is done; after the last one the job is complete. -/
def State.jobPart (s : State) (j : SgwJob) : State :=
  if !j.maps && j.tunnels.isEmpty then
    ((s.setSgw { s.sgw with cur := none }).bump SGW_CNT_JOBS_CNT []).release j.item.frame (.inner 2)
  else s.setSgw { s.sgw with cur := some j }

/-- The payload of a job's frame (chapter 5): the data field of a CAN frame, what follows the EtherType of an Ethernet frame. -/
def State.jobPayload (s : State) (it : QItem) : List Nat :=
  let bs := s.frameBytes it.frame
  if it.r.d.medium = 3 then
    let tp := if 32 ≤ it.r.d.src ∧ it.r.d.src < 64 then s.tpids it.r.d.src else [0x8100]
    bs.drop (if (parseEth tp bs).tagged then 18 else 14)
  else bs.drop 16

/-! ### Signal extraction (R181, R182) -/

/-- Apply one signal map to a payload. -/
def State.applyMap (s : State) (pay : List Nat) (i : Nat) (m : SigMap) : State :=
  if !payHas pay m.srcBits || (m.hasSrcUpd && !payHas pay [m.srcUpd]) then s.bump SGW_CNT_SHORT_CNT []
  else if m.hasSrcUpd && payBit pay m.srcUpd == 0 then s
  else
    match imgLayout s.tid.active m.dstPdu with
    | none => s
    | some l =>
      let w := Mem.le s.pdu (mapStateAt i) 4
      let p := Mem.putField s.pdu l.build m.dstBits (payField pay m.srcBits)
      let p := if m.hasDstUpd then Mem.putBit p l.build m.dstUpd 1 else p
      let p := Mem.puts p (mapStateAt i) (leBytes 4 s.mapWord)
      let s := s.setPdu p (mapLine i :: l.buildLines)
      if bitOf w 31 = 1 then (s.irq pgSGW 1).bump SGW_CNT_RECOVER_CNT [] else s

/-- SIGNAL_EXTRACTION: the job at the head applies its signal maps. -/
def execSignalExtraction (s : State) : Result :=
  onLogicIf s s.hasAct fun s =>
    let s := s.takeJob
    match s.sgw.cur with
    | none => s
    | some j =>
      if !j.maps then s
      else
        let pay := s.jobPayload j.item
        let s := (if j.item.r.berthValid then s.mapsOf j.item.r.berth else []).foldl (fun s m => s.applyMap pay m.1 m.2) s
        s.jobPart { j with maps := false }

/-- MAP_TIMEOUT_SWEEP: the background sweep visits the next map of the active image (R183). -/
def execMapTimeoutSweep (s : State) : Result :=
  onLogicIf s (s.hasAct && s.tid.hasActive) fun s =>
    let n := (imgSection s.tid.active 4).count
    if n = 0 then s
    else
      let i := s.sgw.sweep % n
      (s.setSgw { s.sgw with sweep := (i + 1) % n }).testMap i (imgMap s.tid.active i)

/-! ### Tunnels -/

/-- Run a row on the first tunnel record of a kind that the current job has still to run. -/
def tunnelRow (kind : Nat) (s : State) (f : SgwJob → Nat → Tunnel → State → State) : Result :=
  onLogicIf s s.hasAct fun s =>
    let s := s.takeJob
    match s.sgw.cur with
    | none => s
    | some j =>
      match j.tunnels.find? fun t => (imgTunnel s.tid.active t).kind == kind with
      | none => s
      | some t => (f j t (imgTunnel s.tid.active t) s).jobPart { j with tunnels := j.tunnels.filter fun u => u != t }

/-- A conversion is refused (R193, R197). -/
def State.convertDrop (s : State) : State := (s.bump SGW_CNT_CONVERT_DROP_CNT []).irq pgSGW 7

/-- A decapsulation drops a message or a frame (R199, R204). -/
def State.decapDrop (s : State) : State := (s.bump SGW_CNT_DECAP_DROP_CNT []).irq pgSGW 4

/-- The encapsulated frame is too long (R195). -/
def State.tooLong (s : State) : State := (s.bump SGW_CNT_TOO_LONG_CNT []).irq pgSGW 6

/-- The transmit sequence number of a tunnel. -/
def State.txSeq (s : State) (t : Nat) : Nat := Mem.le s.pdu (tunStateAt t) 2

/-- Send an encapsulated frame: it is counted, and the tunnel's sequence number advances (R195, R196). -/
def State.sendEncap (s : State) (it : QItem) (t : Nat) (x : Tunnel) (wrap : Nat) (bytes : List Nat) : State :=
  if x.maxLen < bytes.length then s.tooLong
  else
    let p := s.reissue it.r (x.target % 2 ^ 14) bytes 3 (innerHdr bytes) it.r.d.stamp
    if p.2 then
      let s := p.1
      let m := Mem.puts s.pdu (tunStateAt t) (leBytes 2 ((s.txSeq t + 1) % wrap))
      (s.setPdu m [tunStateAt t / 64]).bump SGW_CNT_ENCAP_CNT []
    else p.1

/-- Whether a flag of a tunnel record is set: 0 TAGGED, 1 MTV, 2 BRIEF, 3 SEQ_CHECK. -/
def Tunnel.flag (x : Tunnel) (i : Nat) : Bool := bitOf x.flags i == 1

/-- One byte of flags from truth values, most significant first. -/
def flagByte (bs : List Bool) : Nat := bs.foldl (fun v b => 2 * v + (if b then 1 else 0)) 0

/-- The ACF message of a CAN frame (R197, R198; field places are those of IEEE 1722, PRESUMED). -/
def acfMessage (x : Tunnel) (f : CanFrame) (ns : Nat) : List Nat :=
  let data := if canRemote f then [] else f.data.take f.dataLen
  let pad := (4 - data.length % 4) % 4
  let brief := x.flag 2
  let hdr := if brief then 8 else 16
  let quads := (hdr + data.length + pad) / 4
  let fd := f.format == fmtFD
  beBytes 2 ((if brief then 2 else 1) * 512 + quads % 512)
    ++ [pad * 64 + flagByte [x.flag 1, canRemote f, f.ide, fd && bitOf f.flags 1 == 1, fd, fd && bitOf f.flags 2 == 1]]
    ++ [x.busId % 32]
    ++ (if brief then [] else beBytes 8 (if x.flag 1 then ns % 2 ^ 64 else 0))
    ++ beBytes 4 (f.ident % 2 ^ 29) ++ data ++ List.replicate pad 0

/-- The AVTPDU of a CAN frame (R197). -/
def encap1722 (x : Tunnel) (seq : Nat) (f : CanFrame) (ns : Nat) : List Nat :=
  let msg := acfMessage x f ns
  tunHeader x 0x22F0 ++ [0x82, 0x80 + msg.length / 256 % 8, msg.length % 256, seq % 256] ++ x.streamId ++ msg

/-- ENCAP_1722 (R197). -/
def execEncap1722 (s : State) : Result :=
  tunnelRow 1 s fun j t x s =>
    let f := canParse (s.frameBytes j.item.frame)
    if f.format = fmtXL then s.convertDrop
    else s.sendEncap j.item t x 256 (encap1722 x (s.txSeq t) f (j.item.r.d.stamp / 2 ^ 16))

/-- A tunnel receives a frame with a sequence number of `n` bits: its state records that, and SEQ_CHECK compares the number (R177, R201). -/
def State.seqCheck (s : State) (t : Nat) (x : Tunnel) (n seq : Nat) : State :=
  let a := tunStateAt t
  if !x.flag 3 then s.setPdu (Mem.puts s.pdu (a + 4) [1]) [a / 64]
  else
    let first := bitOf (Mem.byte s.pdu (a + 4)) 0 == 0
    let gap := !first && Mem.le s.pdu (a + 2) 2 != seq
    let m := Mem.puts s.pdu (a + 2) (leBytes 2 ((seq + 1) % 2 ^ n) ++ [1])
    let s := s.setPdu m [a / 64]
    if gap then (s.bump SGW_CNT_SEQ_GAP_CNT []).irq pgSGW 5 else s

/-- The CAN frame of an ACF message of CAN or CAN Brief, and its time stamp if mtv is 1. -/
def acfCan (msg : List Nat) (brief : Bool) : CanFrame × Option Nat :=
  let b2 := msg.getD 2 0
  let pad := b2 / 64
  let hdr := if brief then 8 else 16
  let data := (msg.drop hdr).take (msg.length - hdr - pad)
  let fd := bitOf b2 1 == 1
  let rtr := bitOf b2 4 == 1
  let f : CanFrame := {
    ident := be msg (hdr - 4) 4 % 2 ^ 29, ide := bitOf b2 3 == 1, format := if fd then fmtFD else fmtCC
    flags := (if rtr then 1 else 0) + (if fd then 2 * bitOf b2 2 + 4 * bitOf b2 0 else 0)
    dataLen := data.length, data := if rtr && !fd then [] else data }
  (f, if bitOf b2 5 = 1 && !brief then some (be msg 4 8) else none)

/-- The ACF messages of an AVTPDU in order, through the KIND 0x02 records of the job. `n` bounds the recursion. DESIGN CHOICE (log 7): a CAN message
shorter than its header with its pad is dropped with DECAP_DROP, and the messages behind it are handled. -/
def State.acfMessages (recs : List (Nat × Tunnel)) (it : QItem) : Nat → List Nat → State → State
  | 0, _, s => s
  | n + 1, bs, s =>
    if bs.isEmpty then s
    else
      let len := 4 * (be bs 0 2 % 512)
      let ty := be bs 0 2 / 512
      let brief := ty = 2
      let hdr := if brief then 8 else 16
      if bs.length < 4 ∨ len = 0 ∨ bs.length < len then s.decapDrop
      else
        let msg := bs.take len
        let s :=
          if ty = 1 ∨ ty = 2 then
            if len < hdr + msg.getD 2 0 / 64 then s.decapDrop
            else
              match recs.find? fun r => r.2.busId % 32 == msg.getD 3 0 % 32 with
              | none => s.decapDrop
              | some r =>
                let c := acfCan msg brief
                let stamp := match c.2 with
                  | some ns => if s.on SGW_CTRL_DECAP_STAMP [] then ns * 2 ^ 16 else it.r.d.stamp
                  | none => it.r.d.stamp
                let p := s.reissueCan it.r (r.2.target % 2 ^ 14) c.1 stamp
                if p.2 then p.1.bump SGW_CNT_DECAP_CNT [] else p.1
          else s.bump SGW_CNT_DECAP_SKIP_CNT []
        State.acfMessages recs it n (bs.drop len) s

/-- The AVTPDU of a payload: its stream and sequence number, and its message bytes; none where the header checks fail (R199). -/
def avtpdu (pay : List Nat) : Option (List Nat × Nat × List Nat) :=
  let sub := pay.getD 0 0
  let sv := bitOf (pay.getD 1 0) 7 == 1
  if sub = 0x82 ∧ sv then
    let n := be pay 1 2 % 2048
    if pay.length < 12 + n then none else some ((pay.drop 4).take 8, pay.getD 3 0, (pay.drop 12).take n)
  else if sub = 0x05 ∧ sv then
    let n := be pay 20 2
    if pay.length < 24 + n then none else some ((pay.drop 4).take 8, pay.getD 2 0, (pay.drop 24).take n)
  else none

/-- DECAP_1722: all KIND 0x02 records of the job take the AVTPDU together (R199–R201). -/
def execDecap1722 (s : State) : Result :=
  onLogicIf s s.hasAct fun s =>
    let s := s.takeJob
    match s.sgw.cur with
    | none => s
    | some j =>
      let mine : List (Nat × Tunnel) := (j.tunnels.map fun t => (t, imgTunnel s.tid.active t)).filter fun r => r.2.kind == 2
      if mine.isEmpty then s
      else
        let s :=
          match avtpdu (s.jobPayload j.item) with
          | none => s.decapDrop
          | some (stream, seq, msgs) =>
            let recs := List.filter (fun r : Nat × Tunnel => r.2.streamId == stream) mine
            if recs.isEmpty then s.decapDrop
            else
              let s := List.foldl (fun (s : State) (r : Nat × Tunnel) => s.seqCheck r.1 r.2 8 seq) s recs
              State.acfMessages recs j.item (msgs.length + 1) msgs s
        s.jobPart { j with tunnels := j.tunnels.filter fun t => (imgTunnel s.tid.active t).kind != 2 }

/-- The Darast STREAM of a record. -/
def Tunnel.stream (x : Tunnel) : Nat := ofLe (x.streamId.take 2)

/-- The Darast CAN tunnel body (Table 5-10). -/
def darastBody (f : CanFrame) : List Nat :=
  let xl := f.format == fmtXL
  let cc := f.format == fmtCC
  let data := if canRemote f then [] else f.data.take f.dataLen
  [f.format,
   flagByte [f.ide, cc && bitOf f.flags 0 == 1, bitOf f.flags 1 == 1, bitOf f.flags 2 == 1, bitOf f.flags 3 == 1,
     !cc && bitOf f.flags 0 == 1, false, false]]
    ++ beBytes 2 f.dataLen ++ beBytes 4 (f.ident % 2 ^ 29) ++ [if xl then f.sdt else 0, if xl then f.vcid else 0, 0, 0]
    ++ beBytes 4 (if xl then f.af else 0) ++ data ++ List.replicate ((4 - data.length % 4) % 4) 0

/-- ENCAP_DARAST (R203). -/
def execEncapDarast (s : State) : Result :=
  tunnelRow 3 s fun j t x s =>
    let body := darastBody (canParse (s.frameBytes j.item.frame))
    let bytes := tunHeader x (s.rd SGW_DARAST_ETYPE_ETYPE [])
      ++ darastHeader 1 x.stream (s.txSeq t) body.length j.item.r.d.stamp
        (s.stampOnFb (if j.item.r.d.src < 64 then j.item.r.d.src else 64) j.item.r.d.stamp) ++ body
    s.sendEncap j.item t x 65536 bytes

/-- DATA_LEN is in range for its FORMAT (Table 5-10). -/
def darastLenOk (f : CanFrame) : Bool :=
  if f.format = fmtCC then f.dataLen ≤ 8 else if f.format = fmtFD then f.dataLen ≤ 64
  else f.format == fmtXL && 1 ≤ f.dataLen && f.dataLen ≤ 2048

/-- The CAN frame of a Darast tunnel body that follows its common header; none where a check of R204 fails. -/
def darastCan (pay : List Nat) (frameLen : Nat) : Option CanFrame :=
  let bodyLen := be pay 6 2
  let fmt := pay.getD 20 0
  let fl := pay.getD 21 0
  let dl := be pay 22 2
  let remote := fmt == fmtCC && bitOf fl 6 == 1
  let need := if remote then 16 else 16 + (dl + 3) / 4 * 4
  let cc := fmt == fmtCC
  let f : CanFrame := {
    ident := be pay 24 4 % 2 ^ 29, ide := bitOf fl 7 == 1, format := fmt
    flags := (if cc then bitOf fl 6 else bitOf fl 2) + 2 * bitOf fl 5 + 4 * bitOf fl 4 + 8 * bitOf fl 3
    dataLen := dl, sdt := if fmt = fmtXL then pay.getD 28 0 else 0, vcid := if fmt = fmtXL then pay.getD 29 0 else 0
    af := if fmt = fmtXL then be pay 32 4 else 0, data := if remote then [] else (pay.drop 36).take dl }
  let fits := pay.length == 20 + bodyLen || (frameLen == 60 && 20 + bodyLen ≤ pay.length)
  if pay.length < 36 ∨ pay.getD 0 0 ≠ 0x11 ∨ bodyLen ≠ need ∨ !fits ∨ !darastLenOk f then none else some f

/-- DECAP_DARAST: the KIND 0x04 records of the job take the frame together (R204). -/
def execDecapDarast (s : State) : Result :=
  onLogicIf s s.hasAct fun s =>
    let s := s.takeJob
    match s.sgw.cur with
    | none => s
    | some j =>
      let mine : List (Nat × Tunnel) := (j.tunnels.map fun t => (t, imgTunnel s.tid.active t)).filter fun r => r.2.kind == 4
      if mine.isEmpty then s
      else
        let pay := s.jobPayload j.item
        let s :=
          match List.find? (fun r : Nat × Tunnel => r.2.stream == be pay 2 2) mine, darastCan pay (s.frameBytes j.item.frame).length with
          | some r, some f =>
            let s := s.seqCheck r.1 r.2 16 (be pay 4 2)
            let p := s.reissueCan j.item.r (r.2.target % 2 ^ 14) f (stampMk (be pay 8 6) (be pay 14 4) (be pay 18 2))
            if p.2 then p.1.bump SGW_CNT_DECAP_CNT [] else p.1
          | _, _ => s.decapDrop
        s.jobPart { j with tunnels := j.tunnels.filter fun t => (imgTunnel s.tid.active t).kind != 4 }

/-! ### Rewrite (R193, Table 5-6) -/

/-- The rewritten frame; none where the conversion is refused. -/
def rewriteCan (x : Tunnel) (f : CanFrame) : Option CanFrame :=
  let id := x.newId % 2 ^ 29
  let ide := bitOf x.newId 31 == 1
  let brs := 2 * bitOf x.newBrs 0
  if f.format = fmtCC ∧ x.newFormat = fmtCC then some { f with ident := id, ide := ide }
  else if f.format = fmtCC ∧ x.newFormat = fmtFD then
    if canRemote f then none else some { f with ident := id, ide := ide, format := fmtFD, flags := brs }
  else if f.format = fmtFD ∧ x.newFormat = fmtCC then
    if 8 < f.dataLen then none else some { f with ident := id, ide := ide, format := fmtCC, flags := 0 }
  else if f.format = fmtFD ∧ x.newFormat = fmtFD then some { f with ident := id, ide := ide, flags := f.flags % 2 + brs }
  else if f.format = fmtXL ∧ x.newFormat = fmtXL then some { f with ident := id }
  else none

/-- REWRITE. -/
def execRewrite (s : State) : Result :=
  tunnelRow 5 s fun j _ x s =>
    match rewriteCan x (canParse (s.frameBytes j.item.frame)) with
    | none => s.convertDrop
    | some f => (s.reissueCan j.item.r (x.target % 2 ^ 14) f j.item.r.d.stamp).1

/-! ### Rebuild (R190, R191) -/

/-- A rebuild fails: the frame is dropped. -/
def State.rebuildFail (s : State) (port : Nat) (it : QItem) : State :=
  let s := ((s.bump SGW_CNT_REBUILD_FAIL_CNT []).errU pgSGW 0x04 1).irq pgSGW 2
  if port < 64 then s.logTx port it.r it.frame 5 7 s.stamp else s

/-- The PDU whose frame a rebuild request names, if its packed area still holds the frame and it has not been rebuilt. -/
def State.rebuildPdu (s : State) (it : QItem) : Option Nat :=
  match s.frame? it.frame with
  | some o =>
    match o.pdu with
    | some k => if !o.rebuilt && SMap.find? s.sgw.packed k == some it.frame then some k else none
    | none => none
  | none => none

/-- REBUILD: the gateway engine writes the frame of the oldest request afresh, and the consumer takes it if its record and its cells
check. -/
def execRebuild (s : State) : Result :=
  onLogicIf s s.hasAct fun s =>
    match s.cst.rebuilds with
    | [] => s
    | (port, it) :: rest =>
      let s := s.setCst { s.cst with rebuilds := rest }
      let s :=
        match (s.rebuildPdu it).bind fun k => (imgLayout s.tid.active k).map fun l => (k, l) with
        | none => s.rebuildFail port it
        | some (k, l) =>
          let fr := s.pduFrame l
          let w := s.writePduFrame k fr.1 (.rebuild port) true
          match w.2 with
          | none => s.rebuildFail port it
          | some f =>
            let s := w.1.setSgw { w.1.sgw with packed := SMap.insert w.1.sgw.packed k f }
            let p := s.sealPdu { it.r with d := { it.r.d with cell := f, len := fr.1.length, hdr := fr.2 }, claim := s.claim s.actPlane }
            let s := p.1
            if checkWord p.2 = p.2.check ∧ (s.badCellsOf f).isEmpty then
              let fl : FlowRec := { plane := s.actPlane, r := p.2, todo := 0, taken := 2 ^ port, emit := it.emit, due := it.due }
              (((s.join f fl port).release f (.rebuild port)).bump SGW_CNT_REBUILD_OK_CNT []).bump SGW_CNT_JOBS_CNT []
            else (s.rebuildFail port it).release f (.rebuild port)
      s.release it.frame (.rebuild port)

end Sys2Proof.Machine
end

