-- ==== Sys2Proof/Machine/CapTrig.lean ====
section
/-! DEFINITION. Capture queues and windows, trigger outputs and PPS_OUT (R26, R27, R92, R452–R457). -/

namespace Sys2Proof.Machine

/-- Change what the harbour clock holds. -/
def State.setHck (s : State) (h : HckSt) : State := { s with hck := h }

/-- 125 ps in units of 2⁻¹⁶ ns. -/
def ps125 : Nat := 8192

/-- A signed 16-bit offset field of 125 ps, in units of 2⁻¹⁶ ns. -/
def State.ofs125 (s : State) (f : Fld) (ix : List Nat) : Int := signedOf 16 (s.rd f ix) * ps125

/-- A stamp moved by a signed offset; a stamp is never negative. -/
def stampAdd (t : Nat) (d : Int) : Nat := ((t : Int) + d).toNat

/-! ### Capture -/

/-- The queue of a capture input. -/
def State.capQ (s : State) (c : Nat) : CQueue CapEntry := SMap.getD s.hck.caps c {}

/-- Give an input its queue, with DEPTH and the CAP condition in line (Tables 12-11 and 12-14). -/
def State.putCapQ (s : State) (c : Nat) (q : CQueue CapEntry) : State :=
  let s := (s.setHck { s.hck with caps := SMap.setD s.hck.caps {} c q }).wr HCK_CAP_STAT_DEPTH [c] q.depth
  s.cond pgHCK 11 (s.hck.caps.any fun p => p.2.depth != 0 || p.2.gap.isSome)

/-- Push an entry into an input's queue of 32 entries (R454). -/
def State.pushCap (s : State) (c : Nat) (e : CapEntry) : State :=
  let r := (s.capQ c).push 32 e s.stamp
  let s := s.putCapQ c r.1
  if r.2.2 then (s.bump HCK_CNT_CAP_GAP_CNT []).irq pgHCK 13 else s

/-- The window of an input. -/
def State.capWin (s : State) (c : Nat) : CapWin := SMap.getD s.hck.wins c {}

/-- Open the window of an input at a stamp. -/
def State.openCapture (s : State) (c t : Nat) : State :=
  let s := s.wr HCK_CAP_STAT_WIN_OPEN [c] 1
  s.setHck { s.hck with wins := SMap.setD s.hck.wins {} c { from_ := t }, stamped := s.hck.stamped.filter fun x => x != c }

/-- Close the window of an input at a stamp: without a stamped edge it gives a MISS entry while MISS_EN = 1 (R453). -/
def State.closeCapture (s : State) (c t : Nat) : State :=
  if !s.on HCK_CAP_STAT_WIN_OPEN [c] then s
  else
    let seen := s.hck.stamped.contains c
    let s := s.wr HCK_CAP_STAT_WIN_OPEN [c] 0
    let s := s.setHck { s.hck with wins := SMap.setD s.hck.wins {} c { s.capWin c with closed := some t } }
    if s.on HCK_CAP_CFG_MISS_EN [c] && !seen then
      ((s.pushCap c { stamp := t, miss := true }).irq pgHCK 12).bump HCK_CNT_CAP_MISS_CNT []
    else s

/-- Close every window, at image activation and when execution leaves RUNNING (R453). -/
def State.closeCaptures (s : State) : State := (List.range 16).foldl (fun s c => s.closeCapture c s.stamp) s

/-- Whether an edge at a pin time lies in the window of an input: from the open time on and before the close time (R453). -/
def State.inCapture (s : State) (c t : Nat) : Bool :=
  let w := s.capWin c
  decide (w.from_ ≤ t) && (match w.closed with | some x => decide (t < x) | none => s.on HCK_CAP_STAT_WIN_OPEN [c])

/-! ### Trigger outputs -/

/-- Whether an output is held low by its region's or the die's safe state (R26, R27). -/
def State.trigSafe (s : State) (t : Nat) : Bool :=
  s.on SUP_STATUS_DIE_SAFE [] || (if s.on HCK_TRG_REGION [t] then s.on SUP_STATUS_SAFE_SOUTH [] else s.on SUP_STATUS_SAFE_NORTH [])

/-- Whether the active image holds a TRIGGERS record of an output. -/
def State.trigProgram (s : State) (t : Nat) : Bool := (imgTriggers s.tid.active).any fun r => r.1 == t

/-- Give an output a level: no edge where it has the level already, low while it is held safe and where it has no record (R92). -/
def State.trigLevel (s : State) (t level time : Nat) : State :=
  let level := if s.trigSafe t || !s.trigProgram t then 0 else level
  if s.rd HCK_TRG_LEVEL [t] = level then s else (s.wr HCK_TRG_LEVEL [t] level).out (.trigger t level time)

/-- The idle level of an output in the active image; an output without a program is low. -/
def State.trigIdleLevel (s : State) (t : Nat) : Nat :=
  match (imgTriggers s.tid.active).find? (fun r => r.1 == t) with
  | some (_, _, idle, _) => idle % 2
  | none => 0

/-- Every output takes its idle level (R92, R456). -/
def State.trigIdle (s : State) : State := (List.range 16).foldl (fun s t => s.trigLevel t (s.trigIdleLevel t) s.count) s

/-- An image becomes active: outputs are bound to their regions, South without a program (R26), and take their idle level. -/
def State.trigActivate (s : State) : State :=
  let s := (List.range 16).foldl (fun s t =>
    match (imgTriggers s.tid.active).find? (fun r => r.1 == t) with
    | some (_, region, _, _) => s.wr HCK_TRG_REGION [t] (region % 2)
    | none => s.wr HCK_TRG_REGION [t] 1) s
  s.trigIdle

/-- Execution leaves RUNNING at a boundary: edges issued for later strokes are withdrawn, and outputs take their idle level. -/
def State.trigHalt (s : State) (fin : Nat) : State :=
  (s.setHck { s.hck with edges := s.hck.edges.filter fun e => decide (e.at_ < fin) }).trigIdle

/-- Outputs of a region or die that has entered safe state go low. -/
def State.trigSafeLow (s : State) : State :=
  (List.range 16).foldl (fun s t => if s.trigSafe t then s.trigLevel t 0 s.count else s) s

/-! ### PPS_OUT -/

/-- Whether PPS_OUT may pulse (R457): while PPS_OUT_EN = 1 and the clock is set, or PPS_OUT_UNSET = 1; never in die safe state. -/
def State.ppsAllowed (s : State) : Bool :=
  ((s.on HCK_CTRL_PPS_OUT_EN [] && s.on HCK_STATUS_SET []) || s.on HCK_CTRL_PPS_OUT_UNSET []) && !s.on SUP_STATUS_DIE_SAFE []

/-- PPS_OUT goes low at the harbour time t. -/
def State.ppsLowAt (s : State) (t : Nat) : State :=
  if s.hck.ppsFrom.isSome then (s.setHck { s.hck with ppsFrom := none }).out (.pps 0 t) else s

/-- PPS_OUT goes low now. -/
def State.ppsLow (s : State) : State := s.ppsLowAt s.count

/-- Outside the conditions of R457 PPS_OUT is low. -/
def State.ppsUpdate (s : State) : State := if s.ppsAllowed then s else s.ppsLow

end Sys2Proof.Machine
end

