-- ==== Sys2Proof/Machine/TideOps.lean ====
section
/-! DEFINITION. Tide control's operations: shadow tide memory, the actions of a stroke, EMIT releases, gates and late work (chapter 3). -/

namespace Sys2Proof.Machine

/-- Change tide control. -/
def State.setTid (s : State) (t : TidSt) : State := { s with tid := t }

/-- Bytes of a tide memory. -/
def tideBytes : Nat := 0x400000

/-! ### Shadow tide memory (R99, R102, Table 3-7) -/

/-- Give the shadow a state. -/
def State.setShadow (s : State) (x : Nat) : State := s.wr TID_STATUS_SHADOW [] x

/-- Reject a tide command. -/
def State.tidReject (s : State) : State := s.wr TID_STATUS_CMD_REJECT [] 1

/-- Write bytes into the shadow memory of every plane that takes writes (R14, R161). -/
def State.shadowPut (s : State) (a : Nat) (bs : List Nat) : State :=
  if s.takesWrites 0 || s.takesWrites 1 then
    (s.setTid { s.tid with shadow := Mem.puts s.tid.shadow a bs, loadedLen := max s.tid.loadedLen (a + bs.length) }).mapOwn
      fun m => { m with shadow := Mem.puts m.shadow a bs }
  else s

/-- Whether the coming boundary is one at which an armed swap may take place (R103): a tide boundary, or any while not RUNNING. -/
def State.swapBoundaryNext (s : State) : Bool :=
  !s.running || s.tideIndex (s.stroke + 1) == 0

/-- The armed swap is cancelled (Table 3-7). -/
def State.swapCancel (s : State) (target : Nat) : State :=
  (((s.setShadow target).bump TID_CNT_SWAP_FAIL_CNT []).irq pgTID 3).hwm

/-- A staging write through the tide staging window or TID_LOAD_DATA (Table 3-7). -/
def State.stagingWrite (s : State) (a : Nat) (bs : List Nat) : State :=
  let x := s.shadow
  if x = shFetching then s.tidReject
  else if x = shVerifying then
    (((s.shadowPut a bs).wr TID_STATUS_VERIFY_CODE [] 0x14).wr TID_VERIFY_OFS_OFS [] a).setShadow shLoaded |>.irq pgTID 1
  else if x = shArmed then
    if s.swapBoundaryNext && s.ticksToBoundary < 256 then
      s.setTid { s.tid with held := s.tid.held ++ ((List.range bs.length).map fun i => (a + i, bs.getD i 0)) }
    else (s.shadowPut a bs).swapCancel shLoaded
  else (s.shadowPut a bs).setShadow shLoaded

/-! ### The actions of a stroke (R81, R87, R88) -/

/-- The time of an action of the stroke under way. -/
def State.actionTime (s : State) (a : ActionWord) : Nat := s.strokeStart s.tid.curStroke + a.slot * slotUnits

/-- Action type TRIG, which has its own issue a stroke ahead (R456). -/
def tyTrig : Nat := 3

/-- The next action of the stroke under way, TRIG apart, with its place in ACTIONS, if its time has come. -/
def State.nextAction (s : State) : Option (Nat × ActionWord) :=
  if !s.running || s.tideLen = 0 then none
  else
    let e := imgStroke s.tid.active (s.tideIndex s.tid.curStroke)
    let left := (List.range e.2.1).filter fun k => s.tid.nextAction ≤ e.1 + k && (imgAction s.tid.active (e.1 + k)).ty != tyTrig
    match left with
    | [] => none
    | k :: _ =>
      let a := imgAction s.tid.active (e.1 + k)
      if s.actionTime a ≤ s.count then some (e.1 + k, a) else none

/-- The standby whose timing actions are compared with those of the active plane (R143). -/
def State.comparedPlane (s : State) : Option Nat :=
  let y := 1 - s.actPlane
  if s.role s.actPlane = roleActive ∧ s.role y = roleStandby then some y else none

/-- A consumer of class T has found the standby's action to differ (R143). -/
def State.diverge (s : State) (y : Nat) : State := (s.bump PM_CNT_TIMING_DIVERGE_CNT [y]).irq (pgPM y) 7

/-- The comparison of a GATE, CAPW, TRIG or MARK action with the word that the standby issues from its own tide memory (R143, Table 4-3). -/
def State.compareAction (s : State) (shadow : Bool) (k : Nat) (a : ActionWord) : State :=
  match s.comparedPlane with
  | some y =>
    let m := s.planeMem y
    if (a.ty == 2 || a.ty == 3 || a.ty == 4 || a.ty == 8) && imgAction (if shadow then m.shadow else m.active) k != a then s.diverge y else s
  | none => s

/-- A row that issues an action of a type: the next action of the stroke, in list order (R89). -/
def actionRow (ty : Nat) (s : State) (f : ActionWord → Nat → State → State) : Result :=
  onLogic s fun s =>
    match s.nextAction with
    | some (k, a) =>
      let c := s.compareAction false k a
      if a.ty = ty then f a (s.actionTime a) (c.setTid { c.tid with nextAction := k + 1 }) else s
    | none => s

/-! ### EMIT (R121, R124, R188) -/

/-- Whether egress quay q may start a frame that is not complete (R225). -/
def State.cutOk (s : State) (q : Nat) (r : Rec) : Bool :=
  let src := if r.d.src = 67 then r.d.origin else r.d.src
  32 ≤ q && q < 64 && !r.vbr && 32 ≤ src && src < 64 && s.lineRate q ≤ s.lineRate src

/-- Whether an item is ready for a port: complete, or cut-through applies. -/
def State.itemReady (s : State) (port : Nat) (it : QItem) : Bool :=
  s.frameComplete it.frame || port == 64 || port == 67 || s.cutOk port it.r

/-- A skipped EMIT (R121). -/
def State.lateEmit (s : State) (b : Option Nat) : State :=
  let s := (s.bump TID_CNT_LATE_EMIT_CNT []).irq pgTID 7
  match b with
  | some b => if s.hasAct && s.berthValid b then s.berthStat s.actPlane b .late else s
  | none => s

/-- The planes in service remember and count the decision of a release (R138). -/
def State.rememberAll (s : State) (r : Rec) : State :=
  ([0, 1].filter fun x => s.inService x).foldl (fun s x => (s.remember x r).countDecision x) s

/-- Release an item to a port: its record takes a DESC_SEQ and goes to the port's consumer, or no plane is accepted (R157). -/
def State.releaseItem (s : State) (a : ActionWord) (n : Nat) (it : QItem) (src : Holder) : State :=
  let port := a.port
  let x := s.actPlane
  let seq := s.cst.descSeq
  let s := s.setCst { s.cst with descSeq := (seq + 1) % 2 ^ 32 }
  let auth := port == 67 && it.r.berthValid && (s.berth it.r.berth).authTx
  let fr := if auth then s.takeFresh x it.r.berth else (s, some it.r.fv)
  let s := fr.1
  match fr.2 with
  | none => s.release it.frame src
  | some fv =>
    let r : Rec := { it.r with
      queue := a.queue, reason := if a.emitPdu then 5 else 0, drop := 0, stroke := s.tideIndex n, claim := s.claim x, seq := seq
      ports := if port < 64 then 2 ^ port else 0, iq := if port < 64 then 0 else 2 ^ (port - 64), fv := fv }
    let p := if a.emitPdu then s.sealPdu r else (s, sealRec r)
    let s := p.1.rememberAll p.2
    s.setCst { s.cst with flow := s.cst.flow ++ [{ plane := x, r := p.2, todo := 2 ^ port, emit := some n, due := s.strokeStart n + a.slot * slotUnits, source := some src }] }

/-- The item that an EMIT finds ready, with the state in which it has left its queue and the holder that has kept it. -/
def State.emitItem (s : State) (a : ActionWord) : Option (QItem × Holder × State) :=
  if a.emitPdu then
    match SMap.find? s.sgw.closed a.index with
    | some it => some (it, .pdu a.index, s.setSgw { s.sgw with closed := SMap.erase s.sgw.closed a.index })
    | none => none
  else
    match s.berthQ a.index with
    | it :: rest => if s.itemReady a.port it then some (it, .berthQueue a.index, s.putBerthQ a.index rest) else none
    | [] => none

/-- Bind an item that stays where it waits to an EMIT that no plane's record released: it is discarded at the stroke's end. -/
def State.bindItem (s : State) (a : ActionWord) (n : Nat) : State :=
  if a.emitPdu then
    match SMap.find? s.sgw.closed a.index with
    | some it => s.setSgw { s.sgw with closed := SMap.insert s.sgw.closed a.index { it with emit := some n } }
    | none => s
  else
    match s.berthQ a.index with
    | it :: rest => s.putBerthQ a.index ({ it with emit := some n } :: rest)
    | [] => s

/-- An EMIT of global stroke n takes effect. -/
def State.emit (s : State) (a : ActionWord) (n : Nat) : State :=
  match s.emitItem a with
  | none => s.lateEmit (if a.emitPdu then (imgLayout s.tid.active a.index).bind PduLayout.tx else some a.index)
  | some (it, src, s') => if (s.accepts a.port).isSome then s'.releaseItem a n it src else s.bindItem a n

/-! ### Gates (R91, R113, R123, R267) -/

/-- Flush an item from a closing scheduled-class queue (R123). -/
def State.flushItem (s : State) (q i : Nat) (it : QItem) (detail : Nat) : State :=
  ((s.bump TID_CNT_FLUSH_CNT []).logTx q it.r it.frame 4 detail s.stamp).release it.frame (.egress q i)

/-- The place of an EMIT's queue occupancy line in the reload: 97 lines of egress queues, then 512 of berth queues (Table 4-5; the order is a
DESIGN CHOICE, log 7). -/
def emitLine (a : ActionWord) : Nat :=
  if a.emitPdu then (if a.port < 64 then lineEgress (8 * a.port + a.queue) - lineEgress 0 else 96) else 97 + a.index / 32

/-- Whether the queue occupancy line of an EMIT stands in the acting plane: at once, or, while the plane that takes over reloads 609 lines from D on,
once it has arrived at one line a plane clock of 0.8 ns (R153, R156). -/
def State.lineArrived (s : State) (a : ActionWord) : Bool :=
  let x := s.actPlane
  !(s.hasAct && (s.plane x).reloading) || decide (8 * (emitLine a + 1) ≤ 10 * (s.now - (s.plane (1 - x)).outAt))

/-- Flush every frame of a queue that has not started. -/
def State.flushQueue (s : State) (q i detail : Nat) : State :=
  ((s.egress q i).foldl (fun s it => s.flushItem q i it detail) (s.putEgress q i [])).loneAfter q

/-- A CAN quay's attempt from a queue whose gate closes completes; its frame is flushed should it fail (R330). -/
def State.gateAttempt (s : State) (q i : Nat) : State :=
  match (s.quay q).tx with
  | some t => if q < 32 ∧ t.mb.isNone ∧ t.queue = i ∧ t.ended = 0 then s.setQuay q { s.quay q with tx := some { t with ended := 3 } } else s
  | none => s

/-- Apply gate masks to a quay at a harbour time: scheduled-class queues that close are flushed (R123), and an empty shaped queue that closes loses its credit. A
queue whose gate was closed already does not close. -/
def State.applyGate (s : State) (q mask sched time : Nat) : State :=
  let old := s.gate q
  let opens := (mask &&& sched &&& (255 ^^^ (old.openMask &&& 255))) != 0
  let s := (s.advanceCredit q).setGate q { openMask := mask, schedMask := sched, opened := if opens then some time else old.opened }
  (List.range 8).foldl (fun s i =>
    if bitOf mask i = 1 ∨ bitOf old.openMask i = 0 then s
    else if bitOf sched i = 1 then (s.gateAttempt q i).flushQueue q i 1
    else if (s.egress q i).isEmpty ∧ 0 < SMap.getD s.bth.credit (8 * q + i) 0 then
      { s with bth := { s.bth with credit := SMap.erase s.bth.credit (8 * q + i) } }
    else s) s

/-! ### Late work (R124) -/

/-- Whether an item is bound to an EMIT of a stroke up to n. -/
def boundTo (n : Nat) (it : QItem) : Bool := match it.emit with | some e => e ≤ n | none => false

/-- Discard the items bound to EMITs of strokes up to n in the egress queues. -/
def State.discardEgress (s : State) (n : Nat) : State :=
  s.cst.queues.foldl (fun s k =>
    let q := k.1 / 8
    let i := k.1 % 8
    let out := (s.egress q i).filter (boundTo n)
    if out.isEmpty then s
    else (out.foldl (fun s it => s.flushItem q i it 2) (s.putEgress q i ((s.egress q i).filter fun it => !boundTo n it))).loneAfter q) s

/-- Discard the items bound to such EMITs in the berth queues. -/
def State.discardBerthQ (s : State) (n : Nat) : State :=
  s.cst.bq.foldl (fun s k =>
    let out := (s.berthQ k.1).filter (boundTo n)
    if out.isEmpty then s
    else out.foldl (fun s it => (s.bump TID_CNT_FLUSH_CNT []).release it.frame (.berthQueue k.1))
      (s.putBerthQ k.1 ((s.berthQ k.1).filter fun it => !boundTo n it))) s

/-- Discard a closed PDU. -/
def State.discardPdu (s : State) (k : Nat) (it : QItem) : State :=
  ((s.setSgw { s.sgw with closed := SMap.erase s.sgw.closed k }).bump TID_CNT_FLUSH_CNT []).release it.frame (.pdu k)

/-- Discard such items on their way: records not yet enqueued, rebuild requests, closed PDUs and EMITs that still wait for their line. -/
def State.discardMoving (s : State) (n : Nat) : State :=
  let gone := s.cst.flow.filter fun f => match f.emit with | some e => e ≤ n | none => false
  let s := s.setCst { s.cst with flow := s.cst.flow.filter fun f => !(match f.emit with | some e => e ≤ n | none => false) }
  let s := gone.foldl (fun s f =>
    let s := s.bump TID_CNT_FLUSH_CNT []
    match f.source with | some h => s.release f.r.d.cell h | none => s) s
  let rb := s.cst.rebuilds.filter fun p => boundTo n p.2
  let s := s.setCst { s.cst with rebuilds := s.cst.rebuilds.filter fun p => !boundTo n p.2 }
  let s := rb.foldl (fun s p => (s.bump TID_CNT_FLUSH_CNT []).release p.2.frame (.rebuild p.1)) s
  let s := s.sgw.closed.foldl (fun s p => if boundTo n p.2 then s.discardPdu p.1 p.2 else s) s
  let late := s.tid.late.filter fun p => p.2.2 ≤ n
  let s := s.setTid { s.tid with late := s.tid.late.filter fun p => !(p.2.2 ≤ n) }
  late.foldl (fun s p =>
    match s.emitItem ⟨1, p.2.1, p.1⟩ with
    | some (it, src, s') => (s'.bump TID_CNT_FLUSH_CNT []).release it.frame src
    | none => s) s

/-- Discard the items bound to such EMITs that have joined an inner quay and that it has not taken. -/
def State.discardInner (s : State) (n : Nat) : State :=
  s.cst.innerIn.foldl (fun s k =>
    let out := (s.inner k.1).filter (boundTo n)
    if out.isEmpty then s
    else out.foldl (fun s it => (s.bump TID_CNT_FLUSH_CNT []).release it.frame (.inner k.1))
      (s.putInner k.1 ((s.inner k.1).filter fun it => !boundTo n it))) s

/-- The discard at the end of global stroke n (R124). -/
def State.cleanStroke (s : State) (n : Nat) : State := (((s.discardEgress n).discardInner n).discardBerthQ n).discardMoving n

/-! ### Execution (Table 3-9) -/

/-- Give execution a state and bring its conditions in line (Table 3-13). -/
def State.setExec (s : State) (x : Nat) : State :=
  ((s.wr TID_STATUS_EXEC [] x).cond pgTID 10 (x == exWait)).cond pgTID 11 (x == exHalted)

/-- Execution leaves RUNNING: capture windows close and trigger outputs take their idle level (R453, R456), the clean-stroke discard, and
TID_CNT_HALT (Table 3-9, Table 3-12). -/
def State.leaveRunning (s : State) (x : Nat) : State :=
  let s := (s.closeCaptures).trigHalt (s.strokeStart (s.tid.curStroke + 1))
  ((s.cleanStroke s.tid.curStroke).bump TID_CNT_HALT_CNT []).setExec x

end Sys2Proof.Machine
end

