-- ==== Sys2Proof/Machine/QuayOps.lean ====
section
/-! DEFINITION. What CAN and Ethernet quays share: modes, line state, landing to the end of a frame, stamp queues, the next scheduled
EMIT and the next gate window of a quay (R41, R42, R236, R390–R392, R438). -/

namespace Sys2Proof.Machine

/-- What a front end holds beside its page. -/
def State.front (s : State) (q : Nat) : FrontSt := SMap.getD s.fronts q {}

/-- Change what a front end holds. -/
def State.setFront (s : State) (q : Nat) (x : FrontSt) : State := { s with fronts := SMap.setD s.fronts {} q x }

/-- Q00–Q31 are CAN quays. -/
def isCanQ (q : Nat) : Bool := q < 32
/-- Q32–Q47 are 10BASE-T1S. -/
def isT1sQ (q : Nat) : Bool := 32 ≤ q && q < 48
/-- Q48–Q55 are 100BASE-T1 or 1000BASE-T1. -/
def isT1Q (q : Nat) : Bool := 48 ≤ q && q < 56
/-- Q56–Q63 are serial lanes. -/
def isSerialQ (q : Nat) : Bool := 56 ≤ q && q < 64
/-- Q32–Q63 are Ethernet quays. -/
def isEthQ (q : Nat) : Bool := 32 ≤ q && q < 64

/-! ### Modes -/

/-- MODE as the page holds it. -/
def State.modeReg (s : State) (q : Nat) : Nat := if q < 32 then s.rd QYC_CTRL_MODE [q] else s.rd QYE_CTRL_MODE [q]

/-- Whether a quay is powered and its segment not between its commit point and its wake (R379, R605, R610). -/
def State.quayAwake (s : State) (q : Nat) : Bool :=
  s.logicUp && s.segment q != 2 && s.segment q != 3 && !(32 ≤ q && s.on QYE_STATUS_LOWPOWER [q])

/-- The mode a quay works in (Tables 9-2 and 10-2): OFF while it is disabled, isolated, asleep or waits to resume. -/
def State.quayMode (s : State) (q : Nat) : Nat :=
  let x := s.quay q
  if !s.quayAwake q || !s.on PG_STATE_ENABLED [pgQ q] || x.isolated || x.resume then 0
  else x.oldMode.getD (s.modeReg q)

/-! ### Line state (R390–R392) -/

/-- The codes of Table 11-2 whose action is "off". -/
def offCodes : List Nat := [0x04, 0x05, 0x06, 0x07, 0x08, 0x09, 0x0A, 0x13, 0x14, 0x1E, 0x1F]

/-- Whether a line condition is present. -/
def State.hasFault (s : State) (q c : Nat) : Bool := bitOf (s.rd LFE_FAULT_SET_SET [q]) c == 1

/-- Whether a front end holds the safe line state of its medium (R392, R657, R659). -/
def State.safeLine (s : State) (q : Nat) : Bool :=
  s.regionSafe q || s.on SUP_STATUS_DIE_SAFE [] || (s.quay q).isolated || (s.front q).fault
    || !s.on PG_STATE_ENABLED [pgLFE q] || (s.quay q).testing || offCodes.any fun c => s.hasFault q c

/-- Whether a quay hears its line: its mode lands frames, its front end is enabled and no measurement takes the line (R401, R416). -/
def State.hears (s : State) (q : Nat) : Bool :=
  s.quayMode q != 0 && s.on PG_STATE_ENABLED [pgLFE q] && !(s.on LFE_STATUS_MEAS_BUSY [q] && 32 ≤ q)

/-! ### Reception -/

/-- Whether a quay has a frame in reception. -/
def State.receiving (s : State) (q : Nat) : Bool :=
  (s.ingr q).current.isSome || !(s.ingr q).waiting.isEmpty || (s.ingr q).refused

/-- The frame that a quay has received to its end, whose stored bytes are `bytes`: the one its banks have landed, or the rest landed now.
None where the landing was refused or overrun, or where a bank left unserved holds it up. -/
def State.takeLanded (s : State) (q : Nat) (bytes : List Nat) (stamp : Nat) : State × Option Nat :=
  let s := s.serveFor q
  let i := s.ingr q
  match i.landed with
  | f :: rest => (s.putIngr q { i with landed := rest }, f)
  | [] =>
    if i.refused then (s.putIngr q { i with refused := false }, none)
    else if !i.waiting.isEmpty then (s.loseStuck q, none)
    else
      match i.current with
      | none =>
        let s := s.putIngr q { i with stamp := stamp }
        s.landFrame q none bytes
      | some f =>
        let have_ := match s.frame? f with | some o => o.len | none => 0
        let s := s.putIngr q { i with current := none, next := none }
        s.landFrame q (some f) (bytes.drop have_)

/-- Discard the frame in reception: its cells are freed and no descriptor is issued (R321, R366). -/
def State.discardLanding (s : State) (q : Nat) : State :=
  let s := s.serveFor q
  let i := s.ingr q
  if i.landed.isEmpty && !i.refused && !i.waiting.isEmpty then s.loseStuck q
  else
    let f := match i.landed with | x :: _ => x | [] => i.current
    let s := s.putIngr q { i with
      landed := i.landed.drop 1, current := if i.landed.isEmpty then none else i.current
      next := if i.landed.isEmpty then none else i.next, refused := i.refused && !i.landed.isEmpty }
    match f with
    | some f => (match s.frame? f with | some o => if o.issued then s.frameBad f else s.dropFrame f | none => s)
    | none => s

/-- A quay has landed or sent a valid frame: the false-wake timer of its segment stops (R611). -/
def State.segmentUsed (s : State) (q : Nat) : State :=
  match SMap.find? s.pwk.segs q with
  | some g => { s with pwk := { s.pwk with segs := SMap.setD s.pwk.segs {} q { g with fwFrom := none } } }
  | none => s

/-- A frame received whole passes the assembly of its quay, an injection site: answers the index of the buffer whose word is uncorrected. An
injection's index is a free value: the spec numbers no assembly buffer. -/
def State.rxMeets (s : State) (q site : Nat) : State × Option Nat :=
  let p := s.passSite (pgQ q) site
  match (p.1.quay q).rxFault with
  | some k => (p.1.setQuay q { p.1.quay q with rxFault := none }, some k)
  | none => if p.2 then (p.1.useFresh, some p.1.fresh) else (p.1, none)

/-- Push a descriptor into a quay's FIFO where only `n` entries may be taken (R322, R366). Answers whether it was pushed. -/
def State.pushDescN (s : State) (q n : Nat) (d : Desc) (mark : Bool) : State × Bool :=
  let i := s.ingr q
  let r := i.fifo.push n (d, mark) s.stamp
  let s := s.putIngr q { i with fifo := r.1 }
  if r.2.1 then
    match s.frame? d.cell with
    | some o => (s.putFrame d.cell { o with issued := true }, true)
    | none => (s, true)
  else ((s.cstGap r.2.2).dropFrame d.cell, false)

/-! ### Stamp queues (R332, R373, R438) -/

/-- Whether a quay's stamps come from the fall-back path (R435). -/
def State.stampFb (s : State) (q : Nat) : Bool := s.on HCK_QSTAT_FB_ACTIVE [q]

/-- Whether an enabled CAN time entry names a quay (R439). -/
def State.cantQuay (s : State) (q : Nat) : Bool :=
  (List.range 16).any fun e => s.on HCK_CANT_CFG_EN [e] && s.rd HCK_CANT_CFG2_QUAY [e] == q

/-- Whether the time engine consumes a quay's synchronisation queue (R439). -/
def State.engineQueue (s : State) (q : Nat) : Bool :=
  if q < 32 then s.cantQuay q else s.on HCK_PORT_CFG_AS_EN [q]

/-- Bring the TSQ condition in line (Table 12-14). -/
def State.tsqCond (s : State) : State :=
  s.cond pgHCK 10 ((List.range 64).any fun q =>
    (s.quay q).txStamps.depth != 0 || (s.quay q).txStamps.gap.isSome
      || (!s.engineQueue q && ((s.quay q).syncStamps.depth != 0 || (s.quay q).syncStamps.gap.isSome)))

/-- A gap marker was created in a stamp queue (R237, Table 12-13). -/
def State.tsqGap (s : State) (created : Bool) : State := if created then (s.bump HCK_CNT_TSQ_GAP_CNT []).irq pgHCK 9 else s

/-- Push a stamp into a quay's egress time-stamp queue of 32 entries. -/
def State.pushTxStamp (s : State) (q : Nat) (e : StampEntry) : State :=
  let x := s.quay q
  let r := x.txStamps.push 32 { e with fb := s.stampFb q } s.stamp
  ((s.setQuay q { x with txStamps := r.1 }).tsqGap r.2.2).tsqCond

/-- Push a stamp into a quay's synchronisation stamp queue of 8 entries. The time engine takes the stamps of its Ethernet quays at
once (R439). -/
def State.pushSyncStamp (s : State) (q : Nat) (e : StampEntry) : State :=
  if 32 ≤ q && s.engineQueue q then s else
  let x := s.quay q
  let r := x.syncStamps.push 8 { e with fb := s.stampFb q } s.stamp
  ((s.setQuay q { x with syncStamps := r.1 }).tsqGap r.2.2).tsqCond

/-! ### asCapable (R442, R447) -/

/-- Give a port its asCapable bit; a change raises AS_CAPABLE_CHANGE. -/
def State.setCapable (s : State) (q : Nat) (b : Bool) : State :=
  let old := s.rd HCK_AS_CAPABLE_MASK []
  if (bitOf old (q - 32) == 1) == b then s
  else (s.wr HCK_AS_CAPABLE_MASK [] (if b then setBitOf old (q - 32) else clearBitOf old (q - 32))).irq pgHCK 7

/-- Whether a port is asCapable. -/
def State.capable (s : State) (q : Nat) : Bool := bitOf (s.rd HCK_AS_CAPABLE_MASK []) (q - 32) == 1

/-- Bring asCapable in line with AS_EN and, on T1S, with the mode: a T1S quay is asCapable while its MODE is normal. -/
def State.asUpdate (s : State) (q : Nat) : State :=
  if !s.on HCK_PORT_CFG_AS_EN [q] then s.setCapable q false
  else if isT1sQ q then s.setCapable q (s.quayMode q == 3)
  else s

/-! ### The schedule ahead of a quay (R41, R42, R264) -/

/-- The actions of the strokes that begin up to harbour time `fin`, from the present stroke on, with their times. -/
def State.actionsUntil (s : State) (fin : Nat) : List (Nat × ActionWord) :=
  if !s.running || s.tideLen = 0 then []
  else
    let n := s.stroke
    (List.range (s.strokeAt fin + 1 - n)).flatMap fun j =>
      let e := imgStroke s.tid.active (s.tideIndex (n + j))
      (List.range e.2.1).map fun k =>
        let a := imgAction s.tid.active (e.1 + k)
        (s.strokeStart (n + j) + a.slot * slotUnits, a)

/-- Whether a frame that would last until harbour time `fin` ends before the slot position of a quay's next scheduled EMIT (R42). -/
def State.beforeEmit (s : State) (q fin : Nat) : Bool :=
  !((s.actionsUntil fin).any fun p => p.2.ty == 1 && p.2.port == q && s.count ≤ p.1 && p.1 ≤ fin)

/-- The GATE actions of a quay still to come, up to harbour time `fin`: time and open mask. -/
def State.gatesUntil (s : State) (q fin : Nat) : List (Nat × Nat) :=
  ((s.actionsUntil fin).filter fun p => p.2.ty == 2 && p.2.port == q && s.count < p.1 && p.1 ≤ fin).map fun p => (p.1, p.2.operand % 256)

/-- Whether a GATE action in a list opens a scheduled-class queue that the mask before it keeps closed. -/
def opensWindow (sched : Nat) : Nat → List (Nat × Nat) → Bool
  | _, [] => false
  | old, (_, m) :: rest => (m &&& sched &&& (255 ^^^ (old &&& 255))) != 0 || opensWindow sched m rest

/-- Whether a frame that would last until harbour time `fin` ends before the next scheduled gate window of its quay opens (R41); a ganged
quay's window opens `delay` harbour units after its GATE action (R384). -/
def State.beforeWindow (s : State) (q fin delay : Nat) : Bool :=
  let g := s.gate q
  let pends := match g.opened with
    | some t => (g.openMask &&& g.schedMask &&& 255) != 0 && decide (s.count < t + delay) && decide (t + delay ≤ fin)
    | none => false
  !pends && !opensWindow g.schedMask g.openMask (s.gatesUntil q (fin - delay))

/-- Whether a frame of a scheduled-class queue that would last until harbour time `fin` ends before the GATE action that next closes the
queue (R264). -/
def State.beforeClose (s : State) (q i fin : Nat) : Bool := !((s.gatesUntil q fin).any fun p => bitOf p.2 i == 0)

end Sys2Proof.Machine
end

