-- ==== Sys2Proof/Machine/CanOps.lean ====
section
/-! DEFINITION. The operations of a CAN quay: bit times and bounds, format checks, message buffers, selection, the end of an attempt,
fault confinement (chapter 9). -/

namespace Sys2Proof.Machine

/-! ### Bit times (R313, R329) -/

/-- The kernel clock of 6.25 ns in harbour units. -/
def canClock : Nat := 25 * 2 ^ 38

/-- A nominal bit in kernel clocks. -/
def State.nomBit (s : State) (q : Nat) : Nat :=
  (s.rd QYC_NBT_NBRP [q] + 1) * (3 + s.rd QYC_NBT_NTSEG1 [q] + s.rd QYC_NBT_NTSEG2 [q])

/-- An FD data bit in kernel clocks. -/
def State.fdBit (s : State) (q : Nat) : Nat :=
  (s.rd QYC_FDBT_DBRP [q] + 1) * (3 + s.rd QYC_FDBT_DTSEG1 [q] + s.rd QYC_FDBT_DTSEG2 [q])

/-- An XL data bit in kernel clocks. -/
def State.xlBit (s : State) (q : Nat) : Nat :=
  (s.rd QYC_XLBT_DBRP [q] + 1) * (3 + s.rd QYC_XLBT_DTSEG1 [q] + s.rd QYC_XLBT_DTSEG2 [q])

/-- Nn and Nd of Table 9-4. -/
def canBoundBits (f : CanFrame) : Nat × Nat :=
  let n := if canRemote f then 0 else f.dataLen
  if f.format = fmtCC then
    let b := (if f.ide then 54 else 34) + 8 * n
    (b + (b - 1) / 4 + 13, 0)
  else if f.format = fmtFD then
    let b := 5 + 8 * n
    (if f.ide then 58 else 35, b + (b + 3) / 4 + (if n ≤ 16 then 27 else 32))
  else (35, (11 * (120 + 8 * n) + 9) / 10)

/-- The bound of R329 in kernel clocks. -/
def State.canBound (s : State) (q : Nat) (f : CanFrame) : Nat :=
  let b := canBoundBits f
  let nom := s.nomBit q
  let data := if bitOf f.flags 1 = 0 then nom else if f.format = fmtXL then s.xlBit q else if f.format = fmtFD then s.fdBit q else nom
  b.1 * nom + b.2 * data + (if s.rd QYC_GANG_GROUP [q] = 0 then 0 else nom)

/-- The checks of R327. -/
def State.canFmtOk (s : State) (q : Nat) (f : CanFrame) : Bool :=
  !(f.format == fmtFD && !s.on QYC_CTRL_FD_EN [q]) && !(f.format == fmtXL && !s.on QYC_CTRL_XL_EN [q]) && canLenLegal f
    && !(bitOf f.flags 3 == 1 && f.format != fmtXL) && !(bitOf f.flags 1 == 1 && f.format == fmtCC)

/-- Whether the quay's format enables accept a received frame (R338). -/
def State.canAdmits (s : State) (q : Nat) (f : CanFrame) : Bool :=
  f.format == fmtCC || (f.format == fmtFD && s.on QYC_CTRL_FD_EN [q]) || (f.format == fmtXL && s.on QYC_CTRL_XL_EN [q])

/-- The arbitration field as a number: the lower one wins (ISO 11898-1). -/
def arbKey (f : CanFrame) : Nat :=
  let r := bitOf f.flags 0
  if f.ide then f.ident / 2 ^ 18 * 2 ^ 21 + 2 ^ 20 + 2 ^ 19 + f.ident % 2 ^ 18 * 2 + r
  else f.ident % 2 ^ 11 * 2 ^ 21 + r * 2 ^ 20

/-! ### Message buffers (R339–R342) -/

/-- What a message buffer shows. -/
def State.mbShown (s : State) (q b : Nat) : MbView :=
  { state := s.rd QYC_MB_CTL_STATE [q, b], result := s.rd QYC_MB_CTL_RESULT [q, b], attempts := s.rd QYC_MB_CTL_ATTEMPTS [q, b]
    stamp := stampMk (s.rd QYC_MB_STAMP_S_S [q, b]) (s.rd QYC_MB_STAMP_NS_NS [q, b]) (s.rd QYC_MB_STAMP_FR_FR [q, b]) }

/-- What a message buffer holds, with its deferred updates. -/
def State.mb (s : State) (q b : Nat) : MbView :=
  match (SMap.getD (s.quay q).deferred b []).getLast? with
  | some v => v
  | none => s.mbShown q b

/-- Show an update of a message buffer. -/
def State.mbShow (s : State) (q b : Nat) (v : MbView) : State :=
  (((((s.wr QYC_MB_CTL_STATE [q, b] v.state).wr QYC_MB_CTL_RESULT [q, b] v.result).wr QYC_MB_CTL_ATTEMPTS [q, b] v.attempts).wr
    QYC_MB_STAMP_S_S [q, b] (stampS v.stamp)).wr QYC_MB_STAMP_NS_NS [q, b] (stampNs v.stamp)).wr QYC_MB_STAMP_FR_FR [q, b] (stampFr v.stamp)

/-- Whether a message buffer is PENDING, ACTIVE or CANCEL_PENDING. -/
def mbBusy (v : MbView) : Bool := v.state == 1 || v.state == 2 || v.state == 3

/-- Bring MB_DONE in line (Table 9-12). -/
def State.mbDoneCond (s : State) (q : Nat) : State := s.cond (pgQ q) 0 (s.rd QYC_MB_DONE_DONE [q] != 0)

/-- Update a message buffer: deferred while its lock is held (R340). BUSY follows at once. -/
def State.setMb (s : State) (q b : Nat) (v : MbView) : State :=
  let x := s.quay q
  let s :=
    if (SMap.find? x.locks b).isSome then
      s.setQuay q { x with deferred := SMap.insert x.deferred b (SMap.getD x.deferred b [] ++ [v]) }
    else s.mbShow q b v
  let busy := s.rd QYC_MB_PENDING_BUSY [q]
  s.wr QYC_MB_PENDING_BUSY [q] (if mbBusy v then setBitOf busy b else clearBitOf busy b)

/-- A message buffer enters DONE, FAILED or CANCELLED: its bit of MB_DONE is set (R342). -/
def State.endMb (s : State) (q b : Nat) (v : MbView) : State :=
  let s := s.setMb q b v
  (s.wr QYC_MB_DONE_DONE [q] (setBitOf (s.rd QYC_MB_DONE_DONE [q]) b)).mbDoneCond q

/-- SEQ of a buffer advances by one (R340). -/
def State.mbSeq (s : State) (q b : Nat) : State :=
  let v := (s.rd QYC_MB_CTL_SEQ [q, b] + 1) % 256
  (s.wr QYC_MB_CTL_SEQ [q, b] v).wr QYC_MB_END_SEQ [q, b] v

/-- Release a buffer's lock: the deferred updates are applied in order, each advancing SEQ (R340). -/
def State.mbRelease (s : State) (q b : Nat) : State :=
  let x := s.quay q
  let ups := SMap.getD x.deferred b []
  let s := (s.setQuay q { x with locks := SMap.erase x.locks b, deferred := SMap.erase x.deferred b }).wr QYC_MB_END_HELD [q, b] 0
  ups.foldl (fun s v => (s.mbShow q b v).mbSeq q b) s

/-- The frame a message buffer holds (Table 9-10). -/
def State.mbFrame (s : State) (q b : Nat) : CanFrame :=
  { ident := s.rd QYC_MB_ID_ID [q, b], ide := s.on QYC_MB_ID_IDE [q, b], format := s.rd QYC_MB_FMT_FORMAT [q, b]
    flags := s.rd QYC_MB_ID_RTR_RRS [q, b] + 2 * s.rd QYC_MB_ID_BRS [q, b], dataLen := s.rd QYC_MB_FMT_DATA_LEN [q, b]
    data := ((List.range 16).flatMap fun k => leBytes 4 (s.rd QYC_MB_DATA_D [q, b, k])).take (s.rd QYC_MB_FMT_DATA_LEN [q, b]) }

/-- Whether a message buffer's frame passes the checks of R327 and Table 9-10. -/
def State.mbFmtOk (s : State) (q b : Nat) : Bool :=
  let f := s.mbFrame q b
  f.format ≤ 1 && !(f.format == 1 && bitOf f.flags 0 == 1) && s.canFmtOk q f

/-- Whether a message buffer's frame gets one attempt (R337). -/
def State.mbOneShot (s : State) (q b : Nat) : Bool := s.on QYC_MB_FMT_ONE_SHOT [q, b] || s.on QYC_CTRL_ONE_SHOT [q]

/-- Report a message buffer's frame to the log recorder. -/
def State.logMb (s : State) (q b status detail stamp : Nat) : State :=
  if s.logsTx q then
    let f := s.mbFrame q b
    s.log (.frame {
      port := q, tx := true, status := status, detail := detail, len := canLen f, medium := f.format, stamp := stamp, data := canStore f })
  else s

/-- A PENDING buffer ends CANCELLED (Table 9-8). -/
def State.mbCancel (s : State) (q b : Nat) : State :=
  (((s.endMb q b { s.mb q b with state := 6, result := 3 }).bump QYC_CNT_CANCELLED_CNT [q]).logMb q b 4 5 s.stamp)

/-- ACK_RUN returns to 0 (R336). -/
def State.ackSeen (s : State) (q : Nat) : State := (s.wr QYC_STATUS_ACK_RUN [q] 0).loneNode q

/-! ### The end of an attempt (R330, R331, R337, R342) -/

/-- End the transmission in progress. -/
def State.txClear (s : State) (q : Nat) : State := s.setQuay q { s.quay q with tx := none }

/-- An item of a CAN queue leaves the quay unsent. -/
def State.canDropItem (s : State) (q : Nat) (it : QItem) (queue status detail : Nat) : State :=
  (((s.logTx q { it.r with queue := queue } it.frame status detail s.stamp).release it.frame (.reader q)).release it.frame (.egress q queue))

/-- A message buffer's attempt has failed: `lost` for lost arbitration, otherwise by the error with code `lec`. -/
def State.mbFail (s : State) (q b : Nat) (lost : Bool) (lec : Nat) : State :=
  let v := s.mb q b
  if v.state = 3 then s.mbCancel q b
  else if v.state = 2 then
    if s.mbOneShot q b then
      let result := if lost then 6 else if lec = 3 then 4 else 5
      (s.endMb q b { v with state := 5, result := result }).logMb q b 5 5 s.stamp
    else s.setMb q b { v with state := 1 }
  else s

/-- A queue frame's attempt has failed: it is removed, flushed, dropped, or a candidate again. -/
def State.queueFail (s : State) (q : Nat) (t : TxSt) (it : QItem) : State :=
  let i := t.queue
  if t.ended = 1 then (s.bump QYC_CNT_CANCELLED_CNT [q]).canDropItem q it i 4 3
  else if t.ended = 2 then ((s.bump QYC_CNT_LIFE_EXPIRED_CNT [q]).irq (pgQ q) 9).canDropItem q it i 4 4
  else if t.ended = 3 then (s.bump TID_CNT_FLUSH_CNT []).canDropItem q it i 4 1
  else if (it.emit.map fun e => decide (e < s.stroke)) = some true then (s.bump TID_CNT_FLUSH_CNT []).canDropItem q it i 4 2
  else if s.on QYC_CTRL_ONE_SHOT [q] then (s.bump QYC_CNT_TX_ONESHOT_FAIL_CNT [q]).canDropItem q it i 5 5
  else (s.putEgress q i (it :: s.egress q i)).release it.frame (.reader q)

/-- The attempt in progress loses arbitration or fails (R342). -/
def State.canFail (s : State) (q : Nat) (lost : Bool) : State :=
  match (s.quay q).tx with
  | none => s
  | some t =>
    let s := s.txClear q
    let s := if lost then s.bump QYC_CNT_ARB_LOST_CNT [q] else s
    let s := match t.mb, t.item with
      | some b, _ => s.mbFail q b lost t.lec
      | none, some it => s.queueFail q t it
      | none, none => s
    s.loneNode q

/-- The end of a sent frame: what both Tables 9-8 and R331 count. -/
def State.canSent (s : State) (q : Nat) (late : Bool) : State :=
  let s := (s.bump QYC_CNT_TX_OK_CNT [q]).segmentUsed q
  if late then (s.bump QYC_CNT_CANCEL_LATE_CNT [q]).irq (pgQ q) 1 else s

/-- Whether a frame carries a CAN time identifier of the quay (R332, R448): ID_LO of the SYNC or FUP berth of an enabled entry. -/
def State.canTimeId (s : State) (q : Nat) (f : CanFrame) : Bool :=
  (List.range 16).any fun e =>
    s.on HCK_CANT_CFG_EN [e] && s.rd HCK_CANT_CFG2_QUAY [e] == q &&
      [s.rd HCK_CANT_CFG_SYNC_BERTH [e], s.rd HCK_CANT_CFG_FUP_BERTH [e]].any fun b =>
        s.berthValid b && (s.berth b).mkind == 2 && (s.berth b).idLo % 2 ^ 29 == f.ident && (bitOf (s.berth b).idLo 29 == 1) == f.ide

/-- The transmit stamp of a sent frame (R332). -/
def State.canStamp (s : State) (q : Nat) (t : TxSt) (ref : Nat) : State :=
  let e : StampEntry := { stamp := t.sof, mb := t.mb.isSome, index := t.mb.getD 0, queue := t.queue, ref := ref }
  if s.canTimeId q t.can then s.pushSyncStamp q { e with ref := t.can.ident }
  else if s.on QYC_CTRL_TXTS_EN [q] then s.pushTxStamp q e
  else s

/-! ### Fault confinement (R333–R336) -/

/-- Bring the conditions of Table 9-12 in line. -/
def State.canConds (s : State) (q : Nat) : State :=
  let tec := s.rd QYC_ERRCNT_TEC [q]
  let rec_ := s.rd QYC_ERRCNT_REC [q]
  let warn := s.rd QYC_WARN_TX_WARN [q] ≤ tec || s.rd QYC_WARN_RX_WARN [q] ≤ rec_
  let fc := s.rd QYC_STATUS_FC_STATE [q]
  (((s.setB QYC_STATUS_ERR_WARN [q] warn).cond (pgQ q) 2 warn).cond (pgQ q) 3 (fc == 1)).cond (pgQ q) 4 (fc == 2 || fc == 3)

/-- The quay enters bus-off (R335). -/
def State.busOff (s : State) (q : Nat) : State :=
  let s := ((s.wr QYC_STATUS_FC_STATE [q] 2).wr QYC_ERRCNT_TEC [q] 255).bump QYC_CNT_BUS_OFF_CNT [q]
  let s := match (s.quay q).tx with
    | some t => match t.mb with
      | some b => ((s.endMb q b { s.mb q b with state := 5, result := 7 }).logMb q b 5 5 s.stamp).txClear q
      | none => s.canFail q false
    | none => s
  let s := s.loneNode q
  let s := if s.on QYC_CTRL_AUTO_RECOVER [q] then s.wr QYC_STATUS_FC_STATE [q] 3 else s
  s.canConds q

/-- TEC and REC take new values, and the fault confinement state follows them. -/
def State.setErrCnt (s : State) (q tec rec_ : Nat) : State :=
  if 2 ≤ s.rd QYC_STATUS_FC_STATE [q] then s
  else if 255 < tec then (s.wr QYC_ERRCNT_REC [q] (min rec_ 255)).busOff q
  else
    let s := (s.wr QYC_ERRCNT_TEC [q] tec).wr QYC_ERRCNT_REC [q] (min rec_ 255)
    (s.wr QYC_STATUS_FC_STATE [q] (if 127 < tec ∨ 127 < rec_ then 1 else 0)).canConds q

/-- Whether the log recorder records a port's events. -/
def State.logsEvt (s : State) (port : Nat) : Bool := s.on PG_STATE_ENABLED [pgLOG] && s.on LOG_QCFG_EVT_EN [port]

/-- How a detected error changes TEC and REC (ISO 11898-1): `sub` is 1 for a dominant bit after an error flag, 2 where the standard exempts
the transmitter. Nothing changes while error signalling is disabled, and outside normal mode (R319, R333, R336). -/
def State.errCounts (s : State) (q lec : Nat) (tx : Bool) (sub : Nat) : State :=
  let tec := s.rd QYC_ERRCNT_TEC [q]
  let rec_ := s.rd QYC_ERRCNT_REC [q]
  if s.quayMode q != 3 || s.on QYC_XL_CFG_ES_DIS [q] || sub = 2 then s
  else if tx then (if lec = 3 ∧ s.rd QYC_STATUS_FC_STATE [q] = 1 then s else s.setErrCnt q (tec + 8) rec_)
  else s.setErrCnt q tec (rec_ + (if sub = 1 then 8 else 1))

/-- An acknowledgement error of the quay's own transmission. -/
def State.ackError (s : State) (q : Nat) : State :=
  let s := s.bump QYC_CNT_ACK_ERR_CNT [q]
  let run := min 16 (s.rd QYC_STATUS_ACK_RUN [q] + 1)
  let s := s.wr QYC_STATUS_ACK_RUN [q] run
  if run = 16 ∧ s.canRequests q then (s.setB QYC_STATUS_LONE_NODE [q] true).cond (pgQ q) 5 true else s

/-- A bus error at the bit at which it is detected (R319, R325, R333). -/
def State.busError (s : State) (q lec : Nat) (tx : Bool) (sub bitpos ident stamp : Nat) : State :=
  let s := ((s.wr QYC_STATUS_LEC [q] lec).bump QYC_CNT_BUS_ERR_CNT [q]).irq (pgQ q) 6
  let s := if tx ∧ lec = 3 then s.ackError q else s
  let s := match (s.quay q).tx with
    | some t => if tx then s.setQuay q { s.quay q with tx := some { t with lec := lec } } else s
    | none => s
  let s := s.errCounts q lec tx sub
  if s.logsEvt q then
    let active := s.quayMode q == 3 && !s.on QYC_XL_CFG_ES_DIS [q]
    s.log (.canError q active lec (s.rd QYC_STATUS_FC_STATE [q]) (s.rd QYC_ERRCNT_TEC [q]) (s.rd QYC_ERRCNT_REC [q]) bitpos ident stamp)
  else s

/-! ### Selection (R326–R328, R345) -/

/-- The head of a queue as a candidate: the frame must be complete (R326). -/
def State.canHead (s : State) (q i : Nat) : Option (QItem × CanFrame) :=
  match s.egress q i with
  | it :: _ => if s.frameComplete it.frame && bitOf (s.gate q).openMask i == 1 then some (it, canParse (s.frameBytes it.frame)) else none
  | [] => none

/-- Drop heads that fail the checks of R327. -/
def State.canFmtDrop (s : State) (q i : Nat) : Nat → State
  | 0 => s
  | n + 1 =>
    match s.egress q i with
    | it :: rest =>
      if s.frameComplete it.frame && !s.canFmtOk q (canParse (s.frameBytes it.frame)) then
        let s := (((s.putEgress q i rest).bump QYC_CNT_TX_FMT_DROP_CNT [q]).irq (pgQ q) 8)
        (s.canDropItem q it i 5 4).canFmtDrop q i n
      else s
    | [] => s

/-- A candidate for the next start-of-frame. -/
structure CanCand where
  queue : Option Nat
  mb : Option Nat
  frame : CanFrame
  deriving DecidableEq, Repr

/-- The candidate of a list that would win arbitration; the first of equals. -/
def bestCand : List CanCand → Option CanCand
  | [] => none
  | c :: cs =>
    match bestCand cs with
    | none => some c
    | some d => if arbKey d.frame < arbKey c.frame then some d else some c

/-- Whether an unscheduled frame passes R42 with the bound of R329. -/
def State.canFits (s : State) (q : Nat) (f : CanFrame) : Bool := s.beforeEmit q (s.count + s.canBound q f * canClock)

/-- The candidates of the scheduled-class queues. -/
def State.schedCands (s : State) (q : Nat) : List CanCand :=
  (List.range 4).filterMap fun i =>
    if bitOf (s.gate q).schedMask i = 1 then (s.canHead q i).map fun p => ⟨some i, none, p.2⟩ else none

/-- The other candidates: queues before message buffers, lower indices first. -/
def State.freeCands (s : State) (q : Nat) : List CanCand :=
  ((List.range 4).filterMap fun i =>
    if bitOf (s.gate q).schedMask i = 1 then none
    else match s.canHead q i with
      | some p => if s.canFits q p.2 then some ⟨some i, none, p.2⟩ else none
      | none => none)
  ++ (if s.on QYC_CTRL_TXMB_EN [q] then
      (List.range 32).filterMap fun b =>
        if (s.mb q b).state = 1 && s.canFits q (s.mbFrame q b) then some ⟨none, some b, s.mbFrame q b⟩ else none
    else [])

/-- The candidate that the quay offers (R328). -/
def State.canSelect (s : State) (q : Nat) : Option CanCand :=
  match bestCand (s.schedCands q) with
  | some c => some c
  | none => bestCand (s.freeCands q)

/-- Whether the present time is a bit boundary of the quay's gang, to a kernel clock (R344, R345). -/
def State.onGangBoundary (s : State) (q : Nat) : Bool :=
  let bit := s.nomBit q * canClock
  let origin := if !s.on HCK_STATUS_SET [] && !s.running then 0 else s.anchor
  let d := (((s.count : Int) - origin) % bit).toNat
  d ≤ canClock || bit - d ≤ canClock

/-- Start an attempt with a candidate. -/
def State.canStart (s : State) (q : Nat) (c : CanCand) (sof : Nat) : State :=
  match c.queue, c.mb with
  | some i, _ =>
    match s.egress q i with
    | it :: rest =>
      let s := if it.attempts = 0 then s else s.bump QYC_CNT_TX_RETRY_CNT [q]
      let it := { it with attempts := it.attempts + 1 }
      let s := (s.putEgress q i rest).hold it.frame (.reader q)
      s.setQuay q { s.quay q with tx := some { queue := i, item := some it, can := c.frame, sof := sof } }
    | [] => s
  | none, some b =>
    let v := s.mb q b
    let s := if v.attempts = 0 then s else s.bump QYC_CNT_TX_RETRY_CNT [q]
    let s := s.setMb q b { v with state := 2, attempts := min 65535 (v.attempts + 1) }
    s.setQuay q { s.quay q with tx := some { mb := some b, can := c.frame, sof := sof } }
  | none, none => s

/-! ### Removal (R317, R606) -/

/-- Remove every frame from the egress queues of a CAN quay. -/
def State.canRemoveAll (s : State) (q : Nat) : State :=
  (List.range 4).foldl (fun (s : State) (i : Nat) =>
    List.foldl (fun (s : State) (it : QItem) => (s.bump QYC_CNT_CANCELLED_CNT [q]).canDropItem q it i 4 3) (s.putEgress q i []) (s.egress q i)) s

/-- The quay is disabled: its frames are removed, with that of an attempt in progress. Message buffers keep their state: the attempt of one ends as
a failed attempt by its own command (R317). -/
def State.canDisable (s : State) (q : Nat) : State :=
  let s := s.canRemoveAll q
  let s := match (s.quay q).tx with
    | some t => if t.mb.isSome then s else (s.setQuay q { s.quay q with tx := some { t with ended := 1 } }).canFail q false
    | none => s
  (s.discardLanding q).loneNode q

/-- The drain of a segment that goes to sleep: queued frames are removed, PENDING buffers end CANCELLED and an ending is held for the attempt
in progress (R606). -/
def State.canDrain (s : State) (q : Nat) : State :=
  let s := s.canRemoveAll q
  let s := (List.range 32).foldl (fun s b => if (s.mb q b).state = 1 then s.mbCancel q b else s) s
  let s := match (s.quay q).tx with
    | some t => match t.mb with
      | some b => if (s.mb q b).state = 2 then s.setMb q b { s.mb q b with state := 3 } else s
      | none => if t.ended = 0 then s.setQuay q { s.quay q with tx := some { t with ended := 1 } } else s
    | none => s
  s.loneNode q

end Sys2Proof.Machine
end

