-- ==== Sys2Proof/Machine/EthOps.lean ====
section
/-! DEFINITION. The operations of an Ethernet quay: receive checks, link, tag edits, selection and the end of a transmission
(chapter 10). -/

namespace Sys2Proof.Machine

/-! ### Receive checks (R363, Tables 10-3 and 10-4) -/

/-- What the checks of Table 10-3 find: the row that settles the outcome (6 for none), the bytes stored when the frame is delivered, and
whether it is delivered. -/
structure EthVerdict where
  row : Nat
  bytes : List Nat
  keep : Bool
  bad : Bool
  deriving DecidableEq, Repr

/-- The status trailer of Table 10-4. -/
def ethTrailer (trunc long runt symbol fcs : Bool) : List Nat :=
  leBytes 4 (0xE7 * 2 ^ 24 + (if trunc then 16 else 0) + (if long then 8 else 0) + (if runt then 4 else 0) + (if symbol then 2 else 0)
    + (if fcs then 1 else 0))

/-- The first row of Table 10-3 that applies to a frame of quay q. -/
def State.ethCheck (s : State) (q : Nat) (bytes : List Nat) (fcsOk symbolErr : Bool) : EthVerdict :=
  let deliver := s.on QYE_RX_CFG_DELIVER_BAD [q]
  let maxLen := s.rd QYE_FRAME_MAX_LEN [q]
  let n := bytes.length
  if n < 60 then ⟨1, bytes ++ ethTrailer false false true false (!fcsOk), deliver && decide (14 ≤ n), true⟩
  else if maxLen < n then ⟨2, bytes.take maxLen ++ ethTrailer true true false false (!fcsOk), deliver, true⟩
  else if symbolErr then ⟨3, bytes ++ ethTrailer false false false true (!fcsOk), deliver, true⟩
  else if !fcsOk then ⟨4, bytes ++ ethTrailer false false false false true, deliver, true⟩
  else if (parseEth (s.tpids q) bytes).etype = 0x8808 ∧ !s.on QYE_RX_CFG_CTRL_PASS [q] then ⟨5, bytes, false, false⟩
  else ⟨6, bytes, true, false⟩

/-- The counter of a row of Table 10-3. -/
def ethRowCounter (row : Nat) : Fld :=
  match row with
  | 1 => QYE_CNT_RX_RUNT_CNT
  | 2 => QYE_CNT_RX_LONG_CNT
  | 3 => QYE_CNT_RX_SYMBOL_CNT
  | 4 => QYE_CNT_RX_FCS_CNT
  | 5 => QYE_CNT_RX_CTRL_DROP_CNT
  | _ => QYE_CNT_RX_OK_CNT

/-- A frame of an 802.1AS port that goes to the time engine alone (R440). -/
def State.toTimeEngine (s : State) (q : Nat) (bytes : List Nat) : Bool :=
  let h := parseEth (s.tpids q) bytes
  s.on HCK_PORT_CFG_AS_EN [q] && !h.tagged && h.da == 0x0180C200000E && h.etype == 0x88F7 && !s.on HCK_PORT_CFG_LAND_PTP [q]

/-- REF of the synchronisation stamp of an 802.1AS message (Table 12-6): messageType, domainNumber, sequenceId. -/
def ptpRef (h : EthHdr) (bytes : List Nat) : Nat :=
  let p := bytes.drop (if h.tagged then 18 else 14)
  p.headD 0 % 16 * 2 ^ 28 + (p.drop 4).headD 0 * 2 ^ 20 + be p 30 2

/-- The receive stamp of a frame with EtherType 0x88F7 (R373). -/
def State.ethRxStamp (s : State) (q stamp : Nat) (bytes : List Nat) : State :=
  let h := parseEth (s.tpids q) bytes
  if h.etype = 0x88F7 then s.pushSyncStamp q { stamp := stamp, rx := true, ref := ptpRef h bytes } else s

/-- A frame that the checks let land takes its descriptor (R366), unless cut-through has issued it. Answers whether it landed. -/
def State.ethLand (s : State) (q f : Nat) (bad : Bool) : State × Bool :=
  match s.frame? f with
  | none => (s, false)
  | some o =>
    if o.issued then ((if bad then s.keepBad f else s.announce f), true)
    else
      let d := s.ethDesc q f o.len bad false
      let s := if bad then s.putFrame f { o with bad := true } else s
      let p := s.pushDesc q d.1 d.2
      if p.2 then p else ((p.1.rxOverflow q).logRxDrop q 6 o.len 3 bad, false)

/-! ### Link (R357, R368) -/

/-- End the frame in transmission without its FCS: TX_ABORT, and its log record (R368, R392). -/
def State.ethAbort (s : State) (q status detail : Nat) : State :=
  match (s.quay q).tx with
  | none => s
  | some t =>
    let s := ((s.advanceCredit q).setQuay q { s.quay q with tx := none }).bump QYE_CNT_TX_ABORT_CNT [q]
    match t.item with
    | none => s
    | some it =>
      ((s.logTx q { it.r with queue := t.queue } it.frame status detail s.stamp).release it.frame (.reader q)).release it.frame
        (.egress q t.queue)

/-- The USX_SPEED code of a USXGMII SPEED (Tables 10-1 and 10-6). -/
def usxCode (speed : Nat) : Option Nat := match speed with | 5 => some 1 | 6 => some 2 | 7 => some 3 | _ => none

/-- Judge SPEED_MISMATCH: in a USXGMII mode the external PHY reports its link up at a rate other than SPEED (R357). -/
def State.usxJudge (s : State) (q : Nat) : State :=
  let mis := match usxCode (s.rd QYE_CTRL_SPEED [q]) with
    | some c => (s.quay q).phyUp && s.rd QYE_STATUS_USX_SPEED [q] != c
    | none => false
  (s.setB QYE_STATUS_SPEED_MISMATCH [q] mis).cond (pgQ q) 1 mis

/-- Whether the link is up and usable. -/
def State.linkUsable (s : State) (q : Nat) : Bool :=
  s.on PG_STATE_ENABLED [pgQ q] && (s.quay q).phyUp && !s.on QYE_STATUS_SPEED_MISMATCH [q] && s.quayAwake q

/-- LINK_DOWN, while LINK is 0 and MODE is not OFF (Table 10-9); a disabled quay behaves as in OFF (R359). -/
def State.linkCond (s : State) (q : Nat) : State :=
  s.cond (pgQ q) 0 (!s.on QYE_STATUS_LINK [q] && s.on PG_STATE_ENABLED [pgQ q] && s.rd QYE_CTRL_MODE [q] != 0)

/-- The frame in reception when the link is lost is settled by row 3 of Table 10-3, or by an earlier row that applies; no FCS has arrived that
could hold (R363). -/
def State.linkLost (s : State) (q : Nat) : State :=
  let s := s.serveFor q
  let i := s.ingr q
  let f := match i.landed with | x :: _ => x | [] => i.current
  let bytes := match f with | some f => s.frameBytes f | none => []
  let v := s.ethCheck q bytes false true
  let s := s.bump (ethRowCounter v.row) [q]
  if v.keep then
    let p := s.takeLanded q v.bytes i.stamp
    match p.2 with
    | none => p.1
    | some f =>
      let r := p.1.ethLand q f true
      if r.2 then r.1.bump QYE_CNT_RX_BAD_DELIVERED_CNT [q] else r.1
  else (s.discardLanding q).logRxDrop q v.row bytes.length 3 v.bad

/-- Every frame that a quay has in reception is settled so. -/
def State.linkLostAll (s : State) (q : Nat) : State :=
  (List.range ((s.ingr q).landed.length + 1)).foldl (fun s _ =>
    if s.receiving q || !(s.ingr q).landed.isEmpty then s.linkLost q else s) s

/-- Bring LINK in line; its fall ends a frame in transmission and, unless the quay is disabled, is counted (R368). -/
def State.linkUpdate (s : State) (q : Nat) : State :=
  let s := s.usxJudge q
  let was := s.on QYE_STATUS_LINK [q]
  let now_ := s.linkUsable q
  let s := s.setB QYE_STATUS_LINK [q] now_
  let s :=
    if was && !now_ then
      let s := (s.ethAbort q 5 1).linkLostAll q
      if s.on PG_STATE_ENABLED [pgQ q] then s.bump QYE_CNT_LINK_DOWN_CNT [q] else s
    else s
  ((s.linkCond q).asUpdate q).viewLog

/-! ### Tag edits (R370, R374, Table 10-5) -/

/-- Insert a tag after SA. -/
def ethInsert (bs : List Nat) (tpid tci : Nat) : List Nat := bs.take 12 ++ beBytes 2 tpid ++ beBytes 2 tci ++ bs.drop 12

/-- Remove the outer tag. -/
def ethRemove (bs : List Nat) : List Nat := bs.take 12 ++ bs.drop 16

/-- Replace PCP and VID of the outer tag. -/
def ethReplace (bs : List Nat) (pcp vid : Nat) : List Nat :=
  bs.take 14 ++ beBytes 2 (pcp * 8192 + be bs 14 2 / 4096 % 2 * 4096 + vid) ++ bs.drop 16

/-- An edit of Table 10-5: nothing, an inserted tag, removal or replacement. -/
inductive TagEdit where
  | keep
  | insert (pcp vid : Nat)
  | remove
  | replace (pcp vid : Nat)
  deriving DecidableEq, Repr

/-- The edit that a record and the quay's MODE give (Table 10-5). -/
def State.tagEdit (s : State) (q : Nat) (r : Rec) (h : EthHdr) : TagEdit :=
  match r.tagOp with
  | 1 => if h.tagged then .replace r.newPcp r.newVid else .insert r.newPcp r.newVid
  | 2 => if h.tagged then .remove else .keep
  | 3 => if h.tagged then .replace r.newPcp r.newVid else .insert r.newPcp r.newVid
  | _ =>
    match s.rd QYE_TX_TAG_MODE [q] with
    | 1 => if h.tagged ∧ h.vid = s.rd QYE_RX_TAG_PVID [q] then .remove else .keep
    | 2 => if h.tagged then .keep else .insert (hdrPcp r.d) (hdrVid r.d)
    | 3 => if h.tagged then .remove else .keep
    | _ => .keep

/-- Pad a frame to 60 bytes. -/
def ethPad (bs : List Nat) : List Nat := bs ++ List.replicate (60 - bs.length) 0

/-- The frame as sent, and whether an insertion in front of a SecTAG was skipped (R374). -/
def State.ethEdit (s : State) (q : Nat) (r : Rec) (bs : List Nat) : List Nat × Bool :=
  let h := parseEth (s.tpids q) bs
  match s.tagEdit q r h with
  | .keep => (ethPad bs, false)
  | .insert pcp vid =>
    if h.etype = 0x88E5 ∧ !s.on QYE_TX_TAG_MACSEC_CLEAR [q] then (ethPad bs, true)
    else (ethPad (ethInsert bs (s.rd QYE_TX_TAG_TPID [q]) (pcp * 8192 + vid)), false)
  | .remove => (ethPad (ethRemove bs), false)
  | .replace pcp vid => (ethPad (ethReplace bs pcp vid), false)

/-! ### Selection (R265, R368, R371, R383) -/

/-- Time on the line of `n` bytes with preamble, FCS and gap, in harbour units. -/
def State.lineTime (s : State) (q n : Nat) : Nat := (n + 24) * 8000 * nsUnit / s.lineRate q

/-- Delay of a ganged quay's scheduled windows, in harbour units (R384). -/
def State.gangDelay (s : State) (q : Nat) : Nat :=
  if s.rd QYE_GANG_GROUP [q] = 0 then 0 else s.rd QYE_GANG_DELAY_NS [q] * nsUnit

/-- The length that a frame is tested with: as edited, or its bound while it lands, with the bytes that its edit adds or removes. -/
def State.testLen (s : State) (q : Nat) (it : QItem) : Nat :=
  let bs := s.frameBytes it.frame
  let n := (s.ethEdit q it.r bs).1.length
  if s.frameComplete it.frame then n
  else match s.frame? it.frame with | some o => o.bound + n - bs.length | none => 0

/-- Whether a ganged quay holds a released frame back until t + DELAY_NS (R383). -/
def State.gangWaits (s : State) (q : Nat) (it : QItem) : Bool :=
  s.rd QYE_GANG_GROUP [q] != 0 && it.emit.isSome && decide (s.count < it.due + s.gangDelay q)

/-- Whether queue i of a quay may start its head frame (R265). -/
def State.ethEligible (s : State) (q i : Nat) : Bool :=
  match s.egress q i with
  | [] => false
  | it :: _ =>
    let sched := bitOf (s.gate q).schedMask i == 1
    let fin := s.count + s.lineTime q (s.testLen q it)
    s.itemReady q it && bitOf (s.gate q).openMask i == 1 && (!s.shaped q i || 0 ≤ s.credit q i)
      && (if sched then s.beforeClose q i fin && !s.gangWaits q it else s.beforeWindow q fin (s.gangDelay q))

/-- The queue that starts next: the highest-numbered eligible one. -/
def State.ethSelect (s : State) (q : Nat) : Option Nat := (List.range 8).reverse.find? fun i => s.ethEligible q i

/-- Drop the unscheduled frames that reach the head of their queue while LINK is 0 (R368). -/
def State.linkDrop (s : State) (q : Nat) : State :=
  (List.range 8).foldl (fun (s : State) (i : Nat) =>
    if bitOf (s.gate q).schedMask i = 1 then s
    else
      List.foldl (fun (s : State) (it : QItem) =>
        ((s.bump QYE_CNT_TX_LINK_DROP_CNT [q]).logTx q { it.r with queue := i } it.frame 5 1 s.stamp).release it.frame (.egress q i))
        (s.putEgress q i []) (s.egress q i)) s

/-- Drop heads whose edited length exceeds MAX_LEN, before they start (R371). -/
def State.longDrop (s : State) (q i : Nat) : Nat → State
  | 0 => s
  | n + 1 =>
    match s.egress q i with
    | it :: rest =>
      if s.frameComplete it.frame && s.rd QYE_FRAME_MAX_LEN [q] < s.testLen q it then
        let s := ((s.putEgress q i rest).bump QYE_CNT_TX_LONG_CNT [q]).irq (pgQ q) 3
        ((s.logTx q { it.r with queue := i } it.frame 5 2 s.stamp).release it.frame (.egress q i)).longDrop q i n
      else s
    | [] => s

/-- A ganged frame that starts after t + DELAY_NS (R384); the figure of R383 is ±2 ns. -/
def State.gangSlip (s : State) (q i : Nat) (it : QItem) : State :=
  if s.rd QYE_GANG_GROUP [q] != 0 && bitOf (s.gate q).schedMask i == 1 && it.emit.isSome
      && decide (it.due + s.gangDelay q + 2 * nsUnit < s.count) then
    (s.bump QYE_CNT_GANG_SLIP_CNT [q]).irq (pgQ q) 7
  else s

/-- Start the head frame of a queue. -/
def State.ethStart (s : State) (q i : Nat) : State :=
  match s.egress q i with
  | [] => s
  | it :: rest =>
    let e := s.ethEdit q it.r (s.frameBytes it.frame)
    let s := s.gangSlip q i it
    let s := if e.2 then (s.bump QYE_CNT_TAG_SKIP_CNT [q]).irq (pgQ q) 4 else s
    let cut := !s.frameComplete it.frame
    let s := ((s.advanceCredit q).putEgress q i rest).hold it.frame (.reader q)
    s.setQuay q { s.quay q with tx := some { queue := i, item := some it, bytes := e.1, cut := cut } }

/-- Remove every frame from the egress queues of an Ethernet quay (R359, R379). -/
def State.ethFlushQueue (s : State) (q i : Nat) : State :=
  List.foldl (fun (s : State) (it : QItem) =>
    ((s.bump QYE_CNT_FLUSHED_CNT [q]).logTx q { it.r with queue := i } it.frame 4 3 s.stamp).release it.frame (.egress q i))
    ((s.advanceCredit q).putEgress q i []) (s.egress q i)

/-- Remove every frame from the egress queues. -/
def State.ethRemoveAll (s : State) (q : Nat) : State := (List.range 8).foldl (fun s i => s.ethFlushQueue q i) s

/-- The quay is disabled: its frames are removed, LINK falls and the frame in reception is discarded (R359, R368). -/
def State.ethDisable (s : State) (q : Nat) : State := ((s.ethRemoveAll q).discardLanding q).linkUpdate q

/-- The frame in transmission as it stands on the line. -/
def State.ethSent (s : State) (q : Nat) (t : TxSt) (it : QItem) : List Nat :=
  if t.cut then (s.ethEdit q it.r (s.frameBytes it.frame)).1 else t.bytes

/-- The transmit stamp of a sent frame (R373). -/
def State.ethTxStamp (s : State) (q queue stamp : Nat) (it : QItem) (bytes : List Nat) : State :=
  let h := parseEth (s.tpids q) bytes
  let s := if h.etype = 0x88F7 then s.pushSyncStamp q { stamp := stamp, queue := queue, ref := ptpRef h bytes } else s
  if bitOf (s.rd QYE_TXTS_QMASK [q]) queue = 1 then s.pushTxStamp q { stamp := stamp, queue := queue, ref := it.r.seq } else s

/-- Whether a frame is the log recorder's own output, which it does not record. -/
def State.ownOutput (s : State) (f : Nat) : Bool := match s.frame? f with | some o => o.writer == 65 | none => false

/-- The end of the frame in transmission: whole, or with an inverted FCS when it was found bad or met a buffer error (R372). -/
def State.ethEnd (s : State) (q stamp : Nat) : State :=
  match (s.quay q).tx with
  | none => s
  | some t =>
    match t.item with
    | none => s.setQuay q { s.quay q with tx := none }
    | some it =>
      let bytes := s.ethSent q t it
      let o := s.frame? it.frame
      let p := s.passSite (pgQ q) 1
      let s := p.1
      let fault := p.2 || (s.quay q).txFault
      let bad := match o with | some o => o.bad || o.zeroed | none => true
      let zeroed := match o with | some o => o.zeroed | none => false
      let own := s.ownOutput it.frame
      let s := (s.advanceCredit q).setQuay q { s.quay q with tx := none, txFault := false }
      let r : Rec := { it.r with queue := t.queue }
      let s :=
        if bad || fault then
          let s := s.bump QYE_CNT_TX_ABORT_CNT [q]
          let s := if bad then s.bump CST_CNT_CUT_ABORT_CNT [] else s
          let s := if fault then s.errU (pgQ q) 0x02 1 else s
          let s := s.out (.line q bytes false)
          if zeroed || own then s else s.logTx q r it.frame 6 (if fault then 2 else 1) stamp
        else
          let s := (s.bump QYE_CNT_TX_OK_CNT [q]).bump64 QYE_CNT_TX_OCTETS_HI_CNT QYE_CNT_TX_OCTETS_LO_CNT [q] (bytes.length + 4)
          let s := (s.out (.line q bytes true)).segmentUsed q
          let s := s.ethTxStamp q t.queue stamp it bytes
          if own then s else s.logTx q r it.frame 0 0 stamp
      (s.release it.frame (.reader q)).release it.frame (.egress q t.queue)

/-- A frame leaves a T1S quay after a collision. -/
def State.collisionDrop (s : State) (q : Nat) (t : TxSt) (it : QItem) : State :=
  let s := s.useFresh.logTx q { it.r with queue := t.queue } it.frame 5 (s.fresh % 256) s.stamp
  (s.release it.frame (.reader q)).release it.frame (.egress q t.queue)

end Sys2Proof.Machine
end

