-- ==== Sys2Proof/Machine/FrontOps.lean ====
section
/-! DEFINITION. The operations of a line front end: line conditions, safe line state, pair roles, measurements; and the resets of quays,
front ends, clusters and regions (R28, chapters 11 and 18). -/

namespace Sys2Proof.Machine

/-! ### Safe line state (R392) -/

/-- Bring DRV_OFF in line; where the safe line state holds, a transmission in progress ends. -/
def State.lineUpdate (s : State) (q : Nat) : State :=
  let safe := s.safeLine q
  let s := s.setB LFE_STATUS_DRV_OFF [q] (safe || !s.on LFE_CTRL_TX_EN [q])
  if safe && (s.quay q).tx.isSome then (if q < 32 then s.canFail q false else s.ethAbort q 5 8) else s

/-- The front ends of a list of quays follow a change of a safe state. -/
def State.linesUpdate (s : State) (qs : List Nat) : State := qs.foldl (fun s q => s.lineUpdate q) s

/-- All front ends. -/
def allQuays : List Nat := List.range 64

/-! ### Line conditions (R393, Table 11-2) -/

/-- The highest code present, or 0. -/
def topCode (set : Nat) : Nat := ((List.range 32).reverse.find? fun c => bitOf set c == 1).getD 0

/-- The bits that rise from one set to another. -/
def risen (old new : Nat) : List Nat := (List.range 32).filter fun c => bitOf new c == 1 && bitOf old c == 0

/-- FAULT_SET takes a new value (R393). -/
def State.setFaults (s : State) (q set : Nat) : State :=
  let old := s.rd LFE_FAULT_SET_SET [q]
  let up := risen old set
  let s := s.wr LFE_FAULT_SET_SET [q] set
  let s := s.wr LFE_FAULT_LATCH_LATCH [q] (up.foldl setBitOf (s.rd LFE_FAULT_LATCH_LATCH [q]))
  let s := s.bumpBy LFE_CNT_FAULT_CNT [q] up.length
  let code := topCode set
  let s := if s.rd LFE_STATUS_STATE [q] = code then s else (s.wr LFE_STATUS_STATE [q] code).irq (pgLFE q) 1
  (s.cond (pgLFE q) 0 (offCodes.contains code)).lineUpdate q

/-- Set line conditions. -/
def State.addFaults (s : State) (q : Nat) (cs : List Nat) : State := s.setFaults q (cs.foldl setBitOf (s.rd LFE_FAULT_SET_SET [q]))

/-- Clear line conditions. -/
def State.dropFaults (s : State) (q : Nat) (cs : List Nat) : State := s.setFaults q (cs.foldl clearBitOf (s.rd LFE_FAULT_SET_SET [q]))

/-- Set or clear one line condition. -/
def State.faultIs (s : State) (q c : Nat) (b : Bool) : State := if b then s.addFaults q [c] else s.dropFaults q [c]

/-- The codes that the line monitor of a medium finds by itself (Table 11-2, R394, R415). -/
def monitoredCodes (q : Nat) : List Nat :=
  if q < 32 then [0x03, 0x05, 0x06, 0x07, 0x08, 0x09, 0x0A, 0x1E, 0x1F]
  else if q < 48 then [0x13, 0x14, 0x1E, 0x1F]
  else if q < 56 then [0x10, 0x11, 0x13, 0x14, 0x1E, 0x1F]
  else [0x18, 0x19, 0x1A]

/-- The codes whose absence the monitor reports: code 0x13 clears by a TDR alone (Table 11-2). -/
def clearedCodes (q : Nat) : List Nat := (monitoredCodes q).filter fun c => c != 0x13

/-! ### Pair roles (R395–R397) -/

/-- The front end exchanges its roles, or restores the straight ones (R396, R397). -/
def State.exchangeRoles (s : State) (q : Nat) : State :=
  let now_ := s.on LFE_STATUS_SWAPPED [q]
  let s := (s.setB LFE_STATUS_SWAPPED [q] (!now_)).setFaults q
    (if now_ then clearBitOf (s.rd LFE_FAULT_SET_SET [q]) 1 else clearBitOf (setBitOf (s.rd LFE_FAULT_SET_SET [q]) 1) 4)
  let s := (s.bump LFE_CNT_SWAP_CNT [q]).irq (pgLFE q) 2
  s.setFront q { s.front q with reversals := 0, exchange := none }

/-- SWAP_RESET takes effect (R397). -/
def State.straightRoles (s : State) (q : Nat) : State :=
  let s := (s.setB LFE_STATUS_SWAPPED [q] false).dropFaults q [1]
  s.setFront q { s.front q with reversals := 0, exchange := none }

/-- A frame of another node with normal polarity: the reversal count returns to 0 and code 0x04 clears (R395, Table 11-2). -/
def State.normalPolarity (s : State) (q : Nat) : State :=
  let s := s.setFront q { s.front q with reversals := 0 }
  if s.hasFault q 0x04 then s.dropFaults q [0x04] else s

/-! ### Measurements (R399–R404) -/

/-- A measurement has ended. -/
def State.measEnd (s : State) (q : Nat) : State :=
  let s := ((s.wr LFE_STATUS_MEAS_BUSY [q] 0).wr LFE_STATUS_MEAS_WAIT [q] 0).setFront q { s.front q with meas := none }
  (s.bump LFE_CNT_MEAS_CNT [q]).irq (pgLFE q) 3

/-- CLASS of a resistance in quarter-ohms (Table 11-3). -/
def termClass (r : Nat) : Nat :=
  if r < 200 then 1 else if r ≤ 280 then 2 else if r < 400 then 3 else if r ≤ 560 then 4 else if r ≤ 4000 then 3 else 5

/-- A termination measurement ends with a class, and with a resistance unless it ended BUSY (R400). -/
def State.termResult (s : State) (q cls : Nat) (ohms : Option Nat) : State :=
  let s := (s.wr LFE_TERM_VALID [q] 1).wr LFE_TERM_CLASS [q] cls
  let s := match ohms with | some r => s.wr LFE_TERM_OHMS [q] (min r 0xFFF) | none => s
  (s.faultIs q 0x02 (cls == 5)).measEnd q

/-- A TDR ends with a kind, and with a distance unless it was aborted (R403). -/
def State.tdrResult (s : State) (q kind : Nat) (dist : Option Nat) : State :=
  let s := (s.wr LFE_TDR_RES_VALID [q] 1).wr LFE_TDR_RES_KIND [q] kind
  let s := match dist with | some d => s.wr LFE_TDR_RES_DIST [q] (min d 600) | none => s
  let set := s.rd LFE_FAULT_SET_SET [q]
  let set := if kind = 1 then setBitOf set 0x12 else clearBitOf set 0x12
  let set := if kind = 2 then setBitOf set 0x13 else clearBitOf set 0x13
  let set := if kind = 3 then setBitOf set 0x14 else set
  (s.setFaults q set).measEnd q

/-- A measurement is aborted: BUSY, or KIND 5 (R404). -/
def State.measAbort (s : State) (q : Nat) : State :=
  match (s.front q).meas with
  | some (1, _) => s.termResult q 6 none
  | some _ => s.tdrResult q 5 none
  | none => s

/-- A TDR starts or waits (R401). -/
def State.tdrStart (s : State) (q : Nat) (wait : Bool) : State :=
  let s := s.setFront q { s.front q with meas := some (2, s.now) }
  if wait then s.wr LFE_STATUS_MEAS_WAIT [q] 1 else s.wr LFE_STATUS_MEAS_BUSY [q] 1

/-- Whether a granted front-end window leaves a TDR its 12,500 slot positions (R401). -/
def State.tdrWindow (s : State) (q : Nat) : Bool :=
  s.tid.windows.any fun w => w.kind == 5 && w.target == q && s.count + 12500 * slotUnits ≤ w.fin

/-- The page of a front end is disabled (R416). -/
def State.lfeDisable (s : State) (q : Nat) : State :=
  let s := ((s.wr LFE_STATUS_MEAS_BUSY [q] 0).wr LFE_STATUS_MEAS_WAIT [q] 0).wr LFE_STATUS_WAKE_ARMED [q] 0
  (s.setFront q { s.front q with meas := none, exchange := none, retest := false }).setFaults q 0

/-- The page of a front end is enabled again: straight roles (R416), and an armed detector where its segment sleeps (R407). -/
def State.lfeEnable (s : State) (q : Nat) : State :=
  let s := s.setB LFE_STATUS_WAKE_ARMED [q] (q < 56 && (s.segment q == 2 || s.segment q == 3))
  ((s.setB LFE_STATUS_SWAPPED [q] false).setFront q { s.front q with reversals := 0, exchange := none }).lineUpdate q

/-! ### Isolation and resets (R24, R28) -/

/-- A unit fault isolates a quay until a unit reset. -/
def State.isolate (s : State) (q : Nat) : State := (s.setQuay q { s.quay q with isolated := true }).lineUpdate q

/-- Free the frames whose descriptors wait in a writer's FIFO, and its landing frame. -/
def State.clearIngress (s : State) (w : Nat) : State :=
  let i := s.ingr w
  let fs := (i.fifo.all.map fun p => p.1.cell) ++ i.landed.filterMap id ++ i.current.toList
  fs.foldl (fun s f => s.dropFrame f) (s.putIngr w {})

/-- The internal state of a CAN quay is cleared (R317, Table 9-8). -/
def State.canReset (s : State) (q : Nat) : State :=
  let s := s.clearCounters (pgQ q + 3)
  let s := s.canRemoveAll q
  let s := match (s.quay q).tx with
    | some t => match t.item with
      | some it => (s.bump QYC_CNT_CANCELLED_CNT [q]).canDropItem q it t.queue 4 3
      | none => s
    | none => s
  let s := s.setQuay q { phyUp := (s.quay q).phyUp, resume := true }
  let s := (List.range 32).foldl (fun s b =>
    ((s.wr QYC_MB_CTL_STATE [q, b] 0).wr QYC_MB_CTL_RESULT [q, b] 0).wr QYC_MB_END_HELD [q, b] 0) s
  let s := s.clearFields [(QYC_MB_PENDING_BUSY, [q]), (QYC_MB_DONE_DONE, [q]), (QYC_STATUS_LEC, [q]), (QYC_STATUS_ACK_RUN, [q]),
    (QYC_STATUS_LONE_NODE, [q]), (QYC_STATUS_MODE_PENDING, [q]), (QYC_STATUS_FC_STATE, [q]), (QYC_ERRCNT_TEC, [q]), (QYC_ERRCNT_REC, [q])]
  ((s.cond (pgQ q) 0 false).cond (pgQ q) 5 false).canConds q

/-- The internal state of an Ethernet quay is cleared (R359). -/
def State.ethReset (s : State) (q : Nat) : State :=
  let s := (s.clearCounters (pgQ q + 2)).ethRemoveAll q
  let s := match (s.quay q).tx with
    | some t => match t.item with
      | some it =>
        ((((s.bump QYE_CNT_FLUSHED_CNT [q]).logTx q { it.r with queue := t.queue } it.frame 4 3 s.stamp).release it.frame (.reader q)).release
          it.frame (.egress q t.queue))
      | none => s
    | none => s
  let s := s.setQuay q { phyUp := (s.quay q).phyUp, resume := true }
  (s.wr QYE_STATUS_MODE_PENDING [q] 0).linkUpdate q

/-- The internal state of a front end is cleared. -/
def State.lfeReset (s : State) (q : Nat) : State :=
  let s := s.clearCounters (pgLFE q)
  let s := ((s.wr LFE_STATUS_MEAS_BUSY [q] 0).wr LFE_STATUS_MEAS_WAIT [q] 0).setB LFE_STATUS_SWAPPED [q] false
  (s.setFront q {}).setFaults q 0

/-- A quay is reset; a front end held under an error is released with it (R392, R418). -/
def State.quayReset (s : State) (q : Nat) : State :=
  let s := s.clearIngress q
  let s := if q < 32 then s.canReset q else s.ethReset q
  (s.setFront q { s.front q with fault := false }).lineUpdate q

/-- The contents of a cistern bank are lost: every frame with a cell in it goes, its bytes are undefined, and the free list is rebuilt without the
cells of the repair map alone (R37, R233). -/
def State.bankLose (s : State) (k : Nat) : State :=
  let hit := (s.cst.frames.filter fun p => p.2.cells.any fun c => srcOfCell c.1 == k).map fun p => p.1
  let s := hit.foldl (fun s f => s.dropFrame f) s
  let s := s.loseCells (4096 * k) (4096 * k + 4096)
  let listed := (s.sup.repair.map fun e => e.cell).filter fun c => srcOfCell c == k
  s.setCst { s.cst with
    retired := s.cst.retired.filter fun c => srcOfCell c != k
    badCells := s.cst.badCells.filter fun c => srcOfCell c != k
    excluded := (s.cst.excluded.filter fun c => srcOfCell c != k) ++ listed }

/-- A cluster is reset: its quays, their front ends and its bank. -/
def State.clusterReset (s : State) (k : Nat) : State :=
  (((List.range 8).map fun j => 8 * k + j).foldl (fun s q => (s.lfeReset q).quayReset q) s).bankLose k

/-- The clusters of a region: 0 North, 1 South. -/
def regionClusters (r : Nat) : List Nat := if r = 0 then [0, 1, 2, 3] else [4, 5, 6, 7]

/-- The quays of a region. -/
def regionQuays (r : Nat) : List Nat := (List.range 32).map fun j => 32 * r + j

/-- The internal state of a region's blocks is cleared (R28). -/
def State.regionClear (s : State) (r : Nat) : State := (regionClusters r).foldl (fun s k => s.clusterReset k) s

end Sys2Proof.Machine
end

