-- ==== Sys2Proof/Machine/SleepOps.lean ====
section
/-! DEFINITION. Segment, region and package sleep: wakes and their record, drain, commit points (R599–R621). -/

namespace Sys2Proof.Machine

/-- Change the wake and power block. -/
def State.setPwk (s : State) (p : PwkSt) : State := { s with pwk := p }

/-- A millisecond in elapsed ns. -/
def msNs : Nat := 1000000

/-- The segments are Q00–Q55 (R599). -/
def allSegments : List Nat := List.range 56

/-- A segment's sleep state. -/
def State.seg (s : State) (q : Nat) : SegSt := SMap.getD s.pwk.segs q {}

/-- Change a segment's sleep state. -/
def State.setSeg (s : State) (q : Nat) (g : SegSt) : State := s.setPwk { s.pwk with segs := SMap.setD s.pwk.segs {} q g }

/-- Give a segment a state of Table 17-2. -/
def State.setSegment (s : State) (q v : Nat) : State := s.wr PWK_SEG_STATE_STATE [q / 8, q % 8] v

/-- The region of a quay: 0 North, 1 South. -/
def regionOf (q : Nat) : Nat := if q < 32 then 0 else 1

/-- The segments of a region. -/
def regionSegments (r : Nat) : List Nat := allSegments.filter fun q => regionOf q == r

/-- NORTH or SOUTH of PWK_STATUS: 0 up, 1 entering, 2 asleep. -/
def State.regionState (s : State) (r : Nat) : Nat := if r = 0 then s.rd PWK_STATUS_NORTH [] else s.rd PWK_STATUS_SOUTH []

/-- Change NORTH or SOUTH. -/
def State.setRegion (s : State) (r v : Nat) : State := if r = 0 then s.wr PWK_STATUS_NORTH [] v else s.wr PWK_STATUS_SOUTH [] v

/-- A bit of a quay mask held in a low and a high register. -/
def State.quayMaskBit (s : State) (lo hi : Fld) (q : Nat) : Bool := bitOf (if q < 32 then s.rd lo [] else s.rd hi []) (q % 32) == 1

/-- DWELL_MS in elapsed ns. -/
def State.dwellNs (s : State) : Nat := s.rd PWK_DWELL_MS [] * msNs

/-! ### The wake record queue (R617) -/

/-- Bring WAKE_REC in line (R638). -/
def State.wakeCond (s : State) : State := s.cond pgPWK 0 (s.pwk.wakes.depth != 0 || s.pwk.wakes.gap.isSome)

/-- SLEEP_MS of a scope whose commit point lay at an elapsed time; a free value where the scope has none. -/
def State.sleepMs (s : State) (since : Option Nat) : Nat :=
  match since with
  | some t => min (2 ^ 32 - 1) ((s.now - t) / msNs)
  | none => s.fresh % 2 ^ 32

/-- The number of the always-on clock of 62.5 ns (Table 1-5). -/
def State.aonClock (s : State) : Nat := s.now * 16 / 1000

/-- The order of wakes recognised in the same always-on clock: quays, pins, commands, the timer (R618). -/
def wakeOrder (w : WakeRec) : Nat :=
  match w.kind with
  | 0 => w.src
  | 1 => 64 + w.src
  | 4 => 192
  | _ => 128

/-- Whether a record of the same always-on clock stands behind another in the order of R618. -/
def wakeBehind (w x : WakeRec) : Bool := x.clock == w.clock && decide (wakeOrder w < wakeOrder x)

/-- Put a record before the last records of a list that belong behind it. -/
def putWake (w : WakeRec) : List WakeRec → List WakeRec
  | [] => [w]
  | x :: xs => if (x :: xs).all (wakeBehind w) then w :: x :: xs else x :: putWake w xs

/-- The queue's newest records with a record in its place: one taken at the end moves before those that belong behind it, and one not taken replaces
the last of them. -/
def settleWake (w : WakeRec) (taken : Bool) (l : List WakeRec) : List WakeRec :=
  if taken || (match l.getLast? with | some x => wakeBehind w x | none => false) then putWake w l.dropLast else l

/-- Push a wake record with the time of the wake, in the order of R618. -/
def State.recordWake (s : State) (w : WakeRec) (since : Option Nat) : State :=
  let known := s.logicUp && s.on HCK_STATUS_SET []
  let w := { w with sleepMs := s.sleepMs since, time := if known then some s.stamp else none, clock := s.aonClock }
  let s := if since.isNone then s.useFresh else s
  let r := s.pwk.wakes.push 32 w s.stamp
  let q := if r.1.after.isEmpty then { r.1 with items := settleWake w r.2.1 r.1.items } else { r.1 with after := settleWake w r.2.1 r.1.after }
  let s := s.setPwk { s.pwk with wakes := q }
  (if r.2.1 then s.bump PWK_CNT_WAKE_CNT [] else s).wakeCond

/-! ### The quay's record of its wake (R349, R381, R469) -/

/-- Write the quay's wake record: KIND of the quay's register and identifier. -/
def State.quayWake (s : State) (q kind ident : Nat) : State :=
  if q < 32 then
    let s := ((s.wr QYC_WAKE_LAST_VALID [q] 1).wr QYC_WAKE_LAST_KIND [q] kind).wr QYC_WAKE_LAST_ID [q] ident
    (s.bump QYC_CNT_WAKE_CNT [q]).irq (pgQ q) 11
  else
    let s := (s.wr QYE_WAKE_LAST_VALID [q] 1).wr QYE_WAKE_LAST_KIND [q] kind
    (s.bump QYE_CNT_WAKE_CNT [q]).irq (pgQ q) 9

/-- The quay's record, at once or once the logic die is up again. -/
def State.noteQuayWake (s : State) (q kind ident : Nat) : State :=
  if s.logicUp then s.quayWake q kind ident else s.setPwk { s.pwk with quayWakes := s.pwk.quayWakes ++ [(q, kind, ident)] }

/-- KIND of the quay's record for a front-end wake (Tables 9-6, 10-6 and 11-6). -/
def quayKind (q lfeKind : Nat) : Nat :=
  if q < 32 then (if lfeKind = 1 ∨ lfeKind = 4 then 1 else 0) else if lfeKind = 6 then 1 else 0

/-- Report a wake of a quay to the log recorder (Table 13-5, event 0x04). -/
def State.logWake (s : State) (q kind ident : Nat) (late : Bool) : State :=
  if s.logsEvt q then s.log (.event 4 q kind ident 0 (if late then 1 else 0) s.stamp) else s

/-! ### Leaving sleep -/

/-- A serial quay, or a quay whose segment wakes, leaves low power: its MODE resumes at the next commit boundary (R349, R381, R610). -/
def State.leaveLowPower (s : State) (q : Nat) : State :=
  let s := if q < 32 then s.wr QYC_STATUS_SLEEPING [q] 0 else s.wr QYE_STATUS_LOWPOWER [q] 0
  let s := s.setQuay q { s.quay q with resume := true }
  if 32 ≤ q then s.linkUpdate q else s

/-- The serial quays enter low power (R379, R612). -/
def State.serialSleep (s : State) : State :=
  ((List.range 8).map fun i => 56 + i).foldl (fun s q =>
    (((s.ethRemoveAll q).wr QYE_STATUS_LOWPOWER [q] 1).discardLanding q).linkUpdate q) s

/-- The serial quays leave low power. -/
def State.serialWake (s : State) : State :=
  ((List.range 8).map fun i => 56 + i).foldl (fun s q => if s.on QYE_STATUS_LOWPOWER [q] then (s.leaveLowPower q).noteQuayWake q 2 0 else s) s

/-- A region is powered again (R614). -/
def State.regionPower (s : State) (r : Nat) : State :=
  if s.regionState r = 0 then s
  else
    let s := s.setRegion r 0
    if r = 1 then s.serialWake else s

/-- A segment enters WAKING (R607, R610). -/
def State.startWaking (s : State) (q : Nat) (fromPartner : Bool) : State :=
  let s := if s.regionState (regionOf q) = 2 then s.regionPower (regionOf q) else s
  let s := (s.setSegment q 4).wr LFE_STATUS_WAKE_ARMED [q] 0
  let s := (s.setSeg q { s.seg q with held := false }).leaveLowPower q
  if isT1Q q && !fromPartner then s.out (.segment q 1) else s

/-- A package entry ends; its regions and segments go on by their own rules (Table 17-1, R613; log 25). -/
def State.entryStop (s : State) : State :=
  if s.on PWK_STATUS_ENTERING [] then
    { s.wr PWK_STATUS_ENTERING [] 0 with mode := if s.mode = .entering then .run else s.mode }
  else s

/-- A region's entry ends unsuccessfully, where one runs (R612); with it a package entry (Table 17-1). -/
def State.entryFails (s : State) (r : Nat) : State :=
  let s := if s.regionState r = 1 then
      let s := (s.setRegion r 0).irq pgPWK 1
      if r = 1 then s.serialWake else s
    else s
  s.entryStop

/-- A segment in DRAINING returns to AWAKE (R608). -/
def State.sleepAborted (s : State) (q : Nat) : State :=
  let s := s.setSegment q 0
  let s := (s.bump PWK_CNT_SLEEP_ABORT_CNT []).irq pgPWK 1
  s.entryFails (regionOf q)

/-! ### Waking the package (R601, R615) -/

/-- Power up after a wake from SLEEP, once the package dwell has passed: START (R601, R615). -/
def State.packageUp (s : State) : State :=
  let s := ({ s.wr PWK_STATUS_INH [] 1 with mode := PkgMode.start } : State).wr DEV_STATUS_MODE [] 0
  let s := s.setPwk { s.pwk with pkgWake := false, fromSleep := true, startCause := 4, powered := true }
  let s := { s with sup := { s.sup with startCount := (s.sup.startCount + 1) % 2 ^ 32 } }
  let s := (s.regionPower 0).regionPower 1
  allSegments.foldl (fun s q =>
    if s.pwk.pkgSegs.contains q || !s.quayMaskBit PWK_STAY_LO_MASK PWK_STAY_HI_MASK q then
      let s := if s.pwk.pkgSegs.contains q || (s.segment q != 2 && s.segment q != 3) then s else s.noteQuayWake q 2 0
      if s.segment q = 3 then s.startWaking q false
      else if s.segment q = 2 then s.setSeg q { s.seg q with held := true }
      else s
    else s) s

/-- A wake whose target is the package (R601, R613): it wakes the package from SLEEP, or ends a package entry. `segs` are segments that are
its source. -/
def State.wakePackage (s : State) (segs : List Nat) : State :=
  match s.mode with
  | .sleep =>
    let s := s.setPwk { s.pwk with pkgWake := true, pkgSegs := s.pwk.pkgSegs ++ segs }
    if s.pwk.pkgAt + s.dwellNs ≤ s.now then s.packageUp else s
  | .entering => s.entryStop
  | _ => s

/-! ### Wakes of segments (Table 17-2) -/

/-- What a wake does to a segment; it ends a package entry (Table 17-1). Answers whether the wake is LATE, whether it is an ABORT, and the elapsed time of the commit point it
counts from. -/
def State.wakeSegment (s : State) (q : Nat) (fromPartner : Bool) : State × Bool × Bool × Option Nat :=
  match s.segment q with
  | 1 => (s.sleepAborted q, false, true, none)
  | 2 => ((s.setSeg q { s.seg q with held := true, fromPartner := fromPartner }).entryStop, true, false, some (s.seg q).sleptAt)
  | 3 =>
    let since := (s.seg q).sleptAt
    if s.mode = .sleep then (s.wakePackage [q], false, false, some since)
    else (((s.setSeg q { s.seg q with fromPartner := fromPartner }).startWaking q fromPartner).entryStop, false, false, some since)
  | _ => (s, false, false, none)

/-- A wake that a front end, or a command that names a segment, gives to one segment, with its records (R604, R608, R609, R617). -/
def State.wakeOne (s : State) (q : Nat) (w : WakeRec) (qkind : Nat) (fromPartner : Bool) : State :=
  let asleep := s.mode = .sleep
  let p := s.wakeSegment q fromPartner
  let s := p.1.recordWake { w with late := p.2.1, abort := p.2.2.1 } p.2.2.2
  let s := s.noteQuayWake q qkind (w.ident.getD 0)
  if asleep then s.setPwk { s.pwk with pkgRec := some { w with late := true } }
  else s.logWake q (if w.kind = 0 then w.lfeKind else 8) (w.ident.getD 0) p.2.1

/-- A wake with several segments as its target: every segment of a list that is not AWAKE wakes; one record stands for the wake (R614,
R619). -/
def State.wakeMany (s : State) (qs : List Nat) (w : WakeRec) (since : Option Nat) : State :=
  let p := qs.foldl (fun (p : State × Bool × Bool) q =>
    if p.1.segment q = 0 ∨ p.1.segment q = 4 then p
    else
      let r := p.1.wakeSegment q false
      let t := r.1.noteQuayWake q 2 0
      (if s.mode = .sleep || (w.kind != 2 && w.kind != 3) then t else t.logWake q 8 0 r.2.1, p.2.1 || r.2.1, p.2.2 || r.2.2.1)) (s, false, false)
  p.1.recordWake { w with late := p.2.1, abort := p.2.2 } since

/-- The commit point of a region or package that a wake counts from, if it is past. -/
def State.regionSince (s : State) (r : Nat) : Option Nat :=
  if s.regionState r = 2 then some (if r = 0 then s.pwk.northAt else s.pwk.southAt) else none

/-- The commit point of the package, while it sleeps. -/
def State.packageSince (s : State) : Option Nat := if s.mode = .sleep then some s.pwk.pkgAt else none

/-- A front end recognises a wake (R414). -/
def State.frontWake (s : State) (q kind : Nat) (ident : Option Nat) : State :=
  let f := s.front q
  let s := ((s.wr LFE_WAKE_STAT_VALID [q] 1).wr LFE_WAKE_STAT_KIND [q] kind).wr LFE_WAKE_STAT_FERR [q] f.ferr
  let s := (s.irq (pgLFE q) 4).setFront q { f with quietWait := true }
  s.wakeOne q { kind := 0, src := q, lfeKind := kind, ident := ident } (quayKind q kind) (kind == 6)

/-- Whether a front end's detector watches the wire (R407, R413). -/
def State.detects (s : State) (q : Nat) : Bool :=
  s.on LFE_STATUS_WAKE_ARMED [q] && !(s.front q).quietWait && s.on PG_STATE_ENABLED [pgLFE q]

/-! ### Going to sleep -/

/-- A sleep request to an AWAKE segment: isolation, drain, and the TC10 request on T1 (Table 17-2, R605, R606). -/
def State.sleepRequest (s : State) (q : Nat) : State :=
  if s.segment q != 0 || 56 ≤ q then s
  else
    let s := (s.setSegment q 1).setSeg q { s.seg q with fwFrom := none, tc10At := s.now, tc10Ack := false, held := false, fromPartner := false }
    let s := if q < 32 then s.canDrain q else s.ethRemoveAll q
    if isT1Q q then s.out (.segment q 2) else s

/-- Whether no frame is in progress on a quay in either direction, and on T1 the partner has acknowledged (R606). -/
def State.drained (s : State) (q : Nat) : Bool :=
  (s.quay q).tx.isNone && !s.receiving q && (!isT1Q q || (s.seg q).tc10Ack)

/-- A segment's commit point (R404, R407, R606). -/
def State.segmentCommit (s : State) (q : Nat) : State :=
  let s := s.measAbort q
  let s := s.setB LFE_STATUS_WAKE_ARMED [q] (s.on PG_STATE_ENABLED [pgLFE q])
  let s := s.setFront q { s.front q with ferr := 0 }
  let s := if q < 32 then s.wr QYC_STATUS_SLEEPING [q] 1
    else ((s.ethRemoveAll q).wr QYE_STATUS_LOWPOWER [q] 1).discardLanding q
  let s := (s.setSegment q 2).setSeg q { s.seg q with sleptAt := s.now, held := false }
  if 32 ≤ q then s.linkUpdate q else s

/-- A sleep request to every AWAKE segment of a region (R612). -/
def State.regionSleep (s : State) (r : Nat) : State :=
  if s.regionState r = 2 then s
  else
    let s := s.setRegion r 1
    let s := (regionSegments r).foldl (fun s q => s.sleepRequest q) s
    if r = 1 then s.serialSleep else s

/-! ### Wake rules (R348, R409, R608) -/

/-- A selective wake frame (R409): a classical data frame that fits LFE_WUF and LFE_WAKE. -/
def State.wufMatches (s : State) (q : Nat) (f : CanFrame) : Bool :=
  let dmask := (List.range 8).map fun j =>
    if j < 4 then s.rd LFE_WUF_DMASK_LO_D [q] / 256 ^ j % 256 else s.rd LFE_WUF_DMASK_HI_D [q] / 256 ^ (j - 4) % 256
  f.format == fmtCC && !canRemote f && f.ide == s.on LFE_WUF_ID_IDE [q]
    && ((f.ident ^^^ s.rd LFE_WUF_ID_ID [q]) &&& s.rd LFE_WUF_MASK_MASK [q]) == 0
    && (!s.on LFE_WAKE_DLC_EN [q] || f.dataLen == s.rd LFE_WAKE_DLC [q])
    && ((dmask.all fun m => m == 0) || ((List.range (min 8 f.dataLen)).any fun j => (f.data.getD j 0 &&& dmask.getD j 0) != 0))

/-- A wake frame of a COMPAT quay (R348). -/
def State.g1608Matches (s : State) (q : Nat) (f : CanFrame) : Bool :=
  f.format != fmtXL && ((f.ident ^^^ s.rd QYC_G1608_ID_ID [q]) &&& s.rd QYC_G1608_MASK_MASK [q]) == 0
    && f.ide == s.on QYC_G1608_ID_IDE [q]
    && (s.rd QYC_G1608_DATA_DMASK [q] == 0
      || (!canRemote f && ((f.data.getD 0 0 ^^^ s.rd QYC_G1608_DATA_DVAL [q]) &&& s.rd QYC_G1608_DATA_DMASK [q]) == 0))

/-- The kind of wake that a valid CAN frame is to its front end, if it meets its wake rule (R608). -/
def State.canWakeKind (s : State) (q : Nat) (f : CanFrame) : Option Nat :=
  if s.on QYC_G1608_COMPAT [q] then
    if s.on QYC_G1608_WAKE_FRAME [q] then (if s.g1608Matches q f then some 4 else none) else some 3
  else
    match s.rd LFE_WAKE_MODE [q] with
    | 1 => some 0
    | 2 => if s.wufMatches q f then some 1 else none
    | _ => none

/-- A frame landed in DRAINING that meets the wake rule of its front end is a wake (R608). -/
def State.drainWake (s : State) (q : Nat) (kind : Option Nat) (ident : Option Nat) : State :=
  match kind with
  | some k => if s.segment q = 1 then s.frontWake q k ident else s
  | none => s

end Sys2Proof.Machine
end

