-- ==== Sys2Proof/Machine/Can.lean ====
section
/-! DEFINITION. The commands of the CAN quays and their message buffers (chapter 9). -/

namespace Sys2Proof.Machine

/-- A number below 32: a CAN quay, or a message buffer. -/
def below32 (n : Nat) : Bool := n < 32

/-! ### Message buffer locks (R340, R341) -/

/-- MB_LOCK_READ: word 0 is read: the lock is taken and SEQ advances. -/
def execMbLockRead (q b : Nat) (s : State) : Result :=
  onLogicIf s (below32 q && below32 b) fun s =>
    let x := s.quay q
    ((s.setQuay q { x with locks := SMap.insert x.locks b s.now }).wr QYC_MB_END_HELD [q, b] 1).mbSeq q b

/-- MB_UNLOCK_READ: word 23 is read: the lock is released. -/
def execMbUnlockRead (q b : Nat) (s : State) : Result := onLogicIf s (below32 q && below32 b) fun s => s.mbRelease q b

/-- MB_LOCK_TIMEOUT: a lock has been held for 4 µs. -/
def execMbLockTimeout (q b : Nat) (s : State) : Result :=
  onLogicIf s (match SMap.find? (s.quay q).locks b with | some t => decide (t + 4000 ≤ s.now) | none => false) fun s =>
    (((s.bump QYC_CNT_LOCK_TIMEOUT_CNT [q]).irq (pgQ q) 10).mbRelease q b)

/-! ### Receiving (R320–R325, R338) -/

/-- Whether filter k matches a frame (R320). -/
def State.filterHits (s : State) (q k : Nat) (f : CanFrame) : Bool :=
  s.rd QYC_FLT_MATCH_ACT [q, k] != 0
    && ((f.ident ^^^ s.rd QYC_FLT_MATCH_ID [q, k]) &&& s.rd QYC_FLT_MASK_MASK [q, k]) == 0
    && f.ide == s.on QYC_FLT_MATCH_IDE [q, k]
    && (match f.format with | 0 => s.on QYC_FLT_MASK_CC [q, k] | 1 => s.on QYC_FLT_MASK_FD [q, k] | _ => s.on QYC_FLT_MASK_XL [q, k])

/-- What the filters decide of a frame: 1 RXQ0, 2 RXQ1, 3 reject (R320, Table 9-13). -/
def State.canFilter (s : State) (q : Nat) (f : CanFrame) : Nat :=
  if (s.quay q).filterBad then 3
  else
    match (List.range 128).find? fun k => s.filterHits q k f with
    | some k => s.rd QYC_FLT_MATCH_ACT [q, k]
    | none => s.rd QYC_RX_CFG_DEFAULT [q]

/-- A landed frame takes its descriptor in the FIFO that RXQ0 and RXQ1 share (R322). -/
def State.canPush (s : State) (q fr : Nat) (f : CanFrame) (rxq1 : Bool) (stamp : Nat) : State :=
  let n := if rxq1 then 64 else 64 - s.rd QYC_RX_CFG_RXQ1_RSV [q]
  let d : Desc := {
    cell := fr, len := canLen f, src := q, rxq := if rxq1 then 1 else 0, medium := f.format, stamp := stamp, hdr := hdrCan f }
  let s := s.bump (if rxq1 then QYC_CNT_RX_RXQ1_CNT else QYC_CNT_RX_RXQ0_CNT) [q]
  let p := s.pushDescN q n d rxq1
  if p.2 then p.1 else (p.1.rxOverflow q).logRxDrop q 7 (canLen f) f.format false

/-- A frame that the filters let in lands (R321, R322, Table 9-13). -/
def State.canLand (s : State) (q : Nat) (f : CanFrame) (rxq1 : Bool) (stamp : Nat) : State :=
  let p := s.takeLanded q (canStore f) stamp
  match p.2 with
  | none => p.1
  | some fr =>
    let s := p.1
    let hit := s.rxMeets q 3
    let s := hit.1
    match hit.2 with
    | some index => ((((s.dropFrame fr).err (pgQ q) 0x04 1 index).rxOverflow q).logRxDrop q 8 (canLen f) f.format false)
    | none => ((s.canPush q fr f rxq1 stamp).segmentUsed q).drainWake q (s.canWakeKind q f) (some f.ident)

/-- REC after a valid reception: one less, or a value of 119 to 127 that the standard leaves open when it was above 127. -/
def State.recDown (s : State) (q : Nat) : State :=
  let r := s.rd QYC_ERRCNT_REC [q]
  if s.quayMode q != 3 || r = 0 then s
  else if r ≤ 127 then s.setErrCnt q (s.rd QYC_ERRCNT_TEC [q]) (r - 1)
  else s.useFresh.setErrCnt q (s.rd QYC_ERRCNT_TEC [q]) (119 + s.fresh % 9)

/-- A frame as it is stored: a classical one with a DLC of 9–15 has DATA_LEN 8 (R323). -/
def canHeard (f : CanFrame) : CanFrame := if f.format = fmtCC ∧ 9 ≤ f.dataLen ∧ f.dataLen ≤ 15 then { f with dataLen := 8 } else f

/-- CAN_FRAME_RECEIVED: a frame of another node becomes valid, with the stamp of its start-of-frame (R319–R324, R336, R659). -/
def execCanFrameReceived (q : Nat) (f : CanFrame) (stamp : Nat) (s : State) : Result :=
  let f := canHeard f
  onLogicIf s (below32 q && s.hears q && s.canAdmits q f && canLenLegal f) fun s =>
    if (s.quay q).testing then (s.bump SUP_CNT_ST_LOST_CNT []).discardLanding q
    else
      let s := ((s.normalPolarity q).ackSeen q).recDown q
      match s.canFilter q f with
      | 1 => s.canLand q f false stamp
      | 2 => s.canLand q f true stamp
      | _ => (s.bump QYC_CNT_RX_REJECT_CNT [q]).discardLanding q

/-- CAN_BUS_ERROR: an error detected at a bit, with its LEC, whether this quay transmits, how ISO 11898-1 counts it, the bit position, the
identifier field and the stamp of the error flag (R319, R321, R333). -/
def execCanBusError (q lec : Nat) (tx : Bool) (sub bitpos ident stamp : Nat) (s : State) : Result :=
  onLogicIf s (below32 q && s.quayMode q != 0 && s.rd QYC_STATUS_FC_STATE [q] ≤ 1 && 1 ≤ lec && lec ≤ 7) fun s =>
    let s := if tx then s else s.discardLanding q
    s.busError q lec tx sub bitpos ident stamp

/-- PROTOCOL_EXCEPTION: a frame of a disabled format (R338). -/
def execProtocolException (q : Nat) (s : State) : Result :=
  onLogicIf s (below32 q && s.hears q && !(s.on QYC_CTRL_FD_EN [q] && s.on QYC_CTRL_XL_EN [q])) fun s =>
    ((s.discardLanding q).wr QYC_STATUS_LEC [q] 8).irq (pgQ q) 14

/-! ### Transmitting (R326–R332, R342, R345, R390) -/

/-- Whether the driver is re-enabled for one attempt while PAIR_SHORT alone holds the line (Table 11-2). -/
def State.retestOnly (s : State) (q : Nat) : Bool :=
  (s.front q).retest && !((s.setFront q { s.front q with retest := false }).wr LFE_FAULT_SET_SET [q]
    (clearBitOf (s.rd LFE_FAULT_SET_SET [q]) 6)).safeLine q

/-- Whether the quay may start an attempt: normal mode, not bus-off, segment awake, no attempt in progress, no safe line state. -/
def State.canMayStart (s : State) (q : Nat) : Bool :=
  s.quayMode q == 3 && s.segment q == 0 && s.rd QYC_STATUS_FC_STATE [q] ≤ 1 && (s.quay q).tx.isNone
    && (!s.safeLine q || s.retestOnly q)

/-- The loop delay measured in a transmitted FD or XL frame, in kernel clocks (R315). -/
def State.loopDelay (s : State) (q : Nat) (f : CanFrame) (loop : Option Nat) : State :=
  match loop with
  | some d => if s.on QYC_TDC_TDC_EN [q] && f.format != fmtCC && s.rd QYC_TDC_TDCF [q] ≤ d then s.wr QYC_TDC_TDCV [q] d else s
  | none => s

/-- CAN_TX_ATTEMPT_START: a start-of-frame opportunity, with the stamp of the start-of-frame; `joined` when another node has started; `loop`
is the loop delay that the frame's edge shows (R315, R328, R342, R345, R346). With TX_EN = 0 the attempt fails at its start-of-frame bit
(Table 11-1). -/
def execCanTxAttemptStart (q stamp : Nat) (joined : Bool) (loop : Option Nat) (s : State) : Result :=
  onLogicIf s (below32 q && s.canMayStart q) fun s =>
    let s := (List.range 4).foldl (fun s i => s.canFmtDrop q i (s.egress q i).length) s
    if s.rd QYC_GANG_GROUP [q] != 0 && !joined && !s.onGangBoundary q then s
    else
      match s.canSelect q with
      | none => s.loneNode q
      | some c =>
        let s := (s.canStart q c stamp).setFront q { s.front q with retest := false }
        if s.on LFE_CTRL_TX_EN [q] then s.loopDelay q c.frame loop
        else (s.busError q 5 true 0 0 (2 ^ 31 + c.frame.ident) stamp).canFail q false

/-- What a successful attempt does to TEC (ISO 11898-1). -/
def State.tecDown (s : State) (q : Nat) : State :=
  let t := s.rd QYC_ERRCNT_TEC [q]
  if t = 0 then s else s.setErrCnt q (t - 1) (s.rd QYC_ERRCNT_REC [q])

/-- A message buffer's frame is sent (Table 9-8). -/
def State.mbSent (s : State) (q b : Nat) (t : TxSt) : State :=
  let v := s.mb q b
  let late := v.state == 3
  let s := s.endMb q b { v with state := 4, result := if late then 2 else 1, stamp := t.sof }
  (s.canSent q late).logMb q b 0 0 t.sof

/-- CAN_TX_SUCCESS: the attempt is acknowledged and its end-of-frame is complete (R331, R332, R336, R342). -/
def execCanTxSuccess (q : Nat) (s : State) : Result :=
  onLogicIf s (below32 q && (s.quay q).tx.isSome) fun s =>
    match (s.quay q).tx with
    | none => s
    | some t =>
      let s := ((s.txClear q).out (.line q (canStore t.can) true)).tecDown q
      let s := match t.mb, t.item with
        | some b, _ => (s.mbSent q b t).canStamp q t 0
        | none, some it =>
          let s := ((s.canSent q (t.ended == 1 || t.ended == 2)).canStamp q t it.r.seq).logTx q { it.r with queue := t.queue } it.frame 0 0 t.sof
          (s.release it.frame (.reader q)).release it.frame (.egress q t.queue)
        | none, none => s
      s.ackSeen q

/-- CAN_TX_ATTEMPT_FAIL: the attempt loses arbitration or has failed (R330, R337, R342). -/
def execCanTxAttemptFail (q : Nat) (lost : Bool) (s : State) : Result :=
  onLogicIf s (below32 q && (s.quay q).tx.isSome) fun s => s.canFail q lost

/-- Whether an item of a queue has exceeded its lifetime (R331). -/
def State.lifeOver (s : State) (q : Nat) (it : QItem) : Bool :=
  s.rd QYC_TXQ_LIFE_LIFE [q] != 0 && decide (it.since + s.rd QYC_TXQ_LIFE_LIFE [q] * 64000 < s.now)

/-- TX_LIFE_EXPIRED: the oldest frame of an unscheduled queue exceeds its lifetime (R331, R342). -/
def execTxLifeExpired (q k : Nat) (s : State) : Result :=
  onLogicIf s (below32 q && k < 4 && bitOf (s.gate q).schedMask k == 0) fun s =>
    let sending := (s.quay q).tx.bind fun t => if t.queue = k ∧ t.ended = 0 then t.item.map fun it => (t, it) else none
    match sending.filter fun p => s.lifeOver q p.2 with
    | some (t, _) => s.setQuay q { s.quay q with tx := some { t with ended := 2 } }
    | none =>
      match s.egress q k with
      | it :: rest =>
        if s.lifeOver q it then
          ((((s.putEgress q k rest).bump QYC_CNT_LIFE_EXPIRED_CNT [q]).irq (pgQ q) 9).canDropItem q it k 4 4).loneNode q
        else s
      | [] => s

/-- BUS_OFF_RECOVERED: recovery completes (R335). -/
def execBusOffRecovered (q : Nat) (s : State) : Result :=
  onLogicIf s (below32 q && s.rd QYC_STATUS_FC_STATE [q] == 3) fun s =>
    ((((s.wr QYC_ERRCNT_TEC [q] 0).wr QYC_ERRCNT_REC [q] 0).wr QYC_STATUS_FC_STATE [q] 0).canConds q).irq (pgQ q) 13

/-- CAN_MODE_APPLIED: the bus is idle and the pending MODE takes effect (R318). -/
def execCanModeApplied (q : Nat) (s : State) : Result :=
  onLogicIf s (below32 q && (s.quay q).oldMode.isSome && (s.quay q).tx.isNone && !s.receiving q) fun s =>
    ((s.setQuay q { s.quay q with oldMode := none }).wr QYC_STATUS_MODE_PENDING [q] 0).irq (pgQ q) 12

/-! ### Commands (Table 9-6, R339) -/

/-- Reject a command of QYC_CMD. -/
def State.canReject (s : State) (q : Nat) : State := s.wr QYC_STATUS_CMD_REJECT [q] 1

/-- RECOVER (R335). -/
def execRecover (q : Nat) (s : State) : Result :=
  onLogicIf s (below32 q) fun s =>
    if s.rd QYC_STATUS_FC_STATE [q] = 2 then (s.wr QYC_STATUS_FC_STATE [q] 3).canConds q else s.canReject q

/-- QYC_SLEEP (R347). -/
def execQycSleep (q : Nat) (s : State) : Result :=
  onLogicIf s (below32 q) fun s =>
    if s.on QYC_G1608_COMPAT [q] && s.segment q == 0 then s.sleepRequest q else s.canReject q

/-- QYC_WAKE by a master (R347–R349, R604). -/
def execQycWake (q : Nat) (m : Master) (s : State) : Result :=
  onLogicIf s (below32 q) fun s =>
    let st := s.segment q
    if s.on QYC_G1608_COMPAT [q] && 1 ≤ st && st ≤ 3 then
      s.wakeOne q { kind := if m = .mgp then 2 else 3, src := q } 2 false
    else s.canReject q

/-- CLR_LEC (Table 9-5). -/
def execClrLec (q : Nat) (s : State) : Result := onLogicIf s (below32 q) fun s => s.wr QYC_STATUS_LEC [q] 0

/-- FLUSH of queue i (R331, R342). -/
def execQycFlush (q i : Nat) (s : State) : Result :=
  onLogicIf s (below32 q && i < 4) fun s =>
    let s := List.foldl (fun (s : State) (it : QItem) => (s.bump QYC_CNT_CANCELLED_CNT [q]).canDropItem q it i 4 3)
      (s.putEgress q i []) (s.egress q i)
    let s := match (s.quay q).tx with
      | some t =>
        if t.mb.isNone && t.queue == i && t.ended == 0 then s.setQuay q { s.quay q with tx := some { t with ended := 1 } } else s
      | none => s
    s.loneNode q

/-- A request for one buffer (Table 9-8). -/
def State.mbRequest (s : State) (q b : Nat) : State :=
  let v := s.mb q b
  if mbBusy v then s
  else if s.mbFmtOk q b then s.setMb q b { v with state := 1, result := 0, attempts := 0 }
  else (s.endMb q b { v with state := 5, result := 8 }).logMb q b 5 4 s.stamp

/-- MB_REQ: each bit of the value requests its buffer. -/
def execMbReq (q : Nat) (v : Word) (s : State) : Result :=
  onLogicIf s (below32 q) fun s => (List.range 32).foldl (fun s b => if bitOf v.toNat b = 1 then s.mbRequest q b else s) s

/-- A cancel for one buffer (Table 9-8). -/
def State.mbCancelReq (s : State) (q b : Nat) : State :=
  let v := s.mb q b
  if v.state = 1 then s.mbCancel q b else if v.state = 2 then s.setMb q b { v with state := 3 } else s

/-- MB_CANCEL: each bit of the value cancels its buffer. -/
def execMbCancel (q : Nat) (v : Word) (s : State) : Result :=
  onLogicIf s (below32 q) fun s =>
    ((List.range 32).foldl (fun s b => if bitOf v.toNat b = 1 then s.mbCancelReq q b else s) s).loneNode q

end Sys2Proof.Machine
end

