-- ==== Sys2Proof/Machine/Aes.lean ====
section
/-! DEFINITION. AES and its modes as the spec's standards give them: FIPS 197, SP 800-38A (CBC, CFB with 128-bit segments, CTR), SP 800-38B
(CMAC) and SP 800-38D (GCM). Keys, blocks and messages are lists of bytes. -/

namespace Sys2Proof.Machine

/-! ### The field of 256 elements -/

/-- Multiply by x modulo x⁸ + x⁴ + x³ + x + 1. -/
def gfX (a : Nat) : Nat := if 128 ≤ a then (2 * a) % 256 ^^^ 0x1B else 2 * a

/-- Product in the field, over `n` bits of the second factor. -/
def gfMulN : Nat → Nat → Nat → Nat
  | 0, _, _ => 0
  | n + 1, a, b => (if b % 2 = 1 then a else 0) ^^^ gfMulN n (gfX a) (b / 2)

/-- Product in the field. -/
def gfMul (a b : Nat) : Nat := gfMulN 8 a b

/-- The inverse, a²⁵⁴, with 0 for 0. -/
def gfInv (a : Nat) : Nat :=
  let a2 := gfMul a a
  let a4 := gfMul a2 a2
  let a8 := gfMul a4 a4
  let a16 := gfMul a8 a8
  let a32 := gfMul a16 a16
  let a64 := gfMul a32 a32
  let a128 := gfMul a64 a64
  gfMul (gfMul (gfMul a2 a4) (gfMul a8 a16)) (gfMul (gfMul a32 a64) a128)

/-- Rotate a byte left. -/
def rotl8 (a n : Nat) : Nat := a * 2 ^ n % 256 + a / 2 ^ (8 - n)

/-- SubBytes on one byte. -/
def sbox (a : Nat) : Nat :=
  let b := gfInv a
  b ^^^ rotl8 b 1 ^^^ rotl8 b 2 ^^^ rotl8 b 3 ^^^ rotl8 b 4 ^^^ 0x63

/-- InvSubBytes on one byte. -/
def invSbox (a : Nat) : Nat := gfInv (rotl8 a 1 ^^^ rotl8 a 3 ^^^ rotl8 a 6 ^^^ 0x05)

/-! ### The block cipher -/

/-- XOR of byte strings; the result has the length of the shorter. -/
def xorBytes (a b : List Nat) : List Nat := (a.zip b).map fun p => p.1 ^^^ p.2

/-- The round constant of round i. -/
def rcon : Nat → Nat
  | 0 => 1
  | n + 1 => gfX (rcon n)

/-- The next word of the key schedule, word i with Nk words of key, from the words so far. -/
def nextKeyWord (nk : Nat) (ws : List (List Nat)) (i : Nat) : List Nat :=
  let t := ws.getD (i - 1) []
  let t :=
    if i % nk = 0 then
      let r := (t.drop 1 ++ t.take 1).map sbox
      xorBytes r [rcon (i / nk - 1), 0, 0, 0]
    else if 6 < nk ∧ i % nk = 4 then t.map sbox
    else t
  xorBytes (ws.getD (i - nk) []) t

/-- The key cut into words of four bytes. -/
def keyWords (key : List Nat) : List (List Nat) := (List.range (key.length / 4)).map fun i => (key.drop (4 * i)).take 4

/-- The round keys of a key of 16 or 32 bytes, 16 bytes each. -/
def roundKeys (key : List Nat) : List (List Nat) :=
  let nk := key.length / 4
  let total := 4 * (nk + 7)
  let ws := (List.range (total - nk)).foldl (fun ws i => ws ++ [nextKeyWord nk ws (nk + i)]) (keyWords key)
  (List.range (nk + 7)).map fun r => ((ws.drop (4 * r)).take 4).flatten

/-- ShiftRows: byte r + 4 c comes from column c + r. -/
def shiftRows (b : List Nat) : List Nat := (List.range 16).map fun i => b.getD (i % 4 + 4 * ((i / 4 + i % 4) % 4)) 0

/-- InvShiftRows. -/
def invShiftRows (b : List Nat) : List Nat := (List.range 16).map fun i => b.getD (i % 4 + 4 * ((i / 4 + 4 - i % 4) % 4)) 0

/-- Multiply every column by the circulant of four coefficients. -/
def mixWith (c0 c1 c2 c3 : Nat) (b : List Nat) : List Nat :=
  (List.range 16).map fun i =>
    let at_ (k : Nat) : Nat := b.getD (4 * (i / 4) + (i + k) % 4) 0
    gfMul (at_ 0) c0 ^^^ gfMul (at_ 1) c1 ^^^ gfMul (at_ 2) c2 ^^^ gfMul (at_ 3) c3

/-- The rounds of the cipher after the first key addition. -/
def encRounds : List (List Nat) → List Nat → List Nat
  | [], b => b
  | [k], b => xorBytes (shiftRows (b.map sbox)) k
  | k :: ks, b => encRounds ks (xorBytes (mixWith 2 3 1 1 (shiftRows (b.map sbox))) k)

/-- The cipher on one block. -/
def aesEnc (key block : List Nat) : List Nat :=
  match roundKeys key with
  | [] => block
  | k :: ks => encRounds ks (xorBytes block k)

/-- The rounds of the inverse cipher, round keys from the last to the first. -/
def decRounds : List (List Nat) → List Nat → List Nat
  | [], b => b
  | [k], b => xorBytes ((invShiftRows b).map invSbox) k
  | k :: ks, b => decRounds ks (mixWith 14 11 13 9 (xorBytes ((invShiftRows b).map invSbox) k))

/-- The inverse cipher on one block. -/
def aesDec (key block : List Nat) : List Nat :=
  match (roundKeys key).reverse with
  | [] => block
  | k :: ks => decRounds ks (xorBytes block k)

/-- Zero bytes. -/
def zeroBytes (n : Nat) : List Nat := List.replicate n 0

/-- Cut a message into blocks of 16 bytes, the last one possibly shorter. -/
def blocks16 (bs : List Nat) : List (List Nat) := (List.range ((bs.length + 15) / 16)).map fun i => (bs.drop (16 * i)).take 16

/-! ### CMAC -/

/-- Double in the field of SP 800-38B. -/
def cmacDouble (b : List Nat) : List Nat :=
  let v := ofBe b
  beBytes 16 ((2 * v) % 2 ^ 128 ^^^ (if v < 2 ^ 127 then 0 else 0x87))

/-- AES-CMAC of a message: 16 bytes. -/
def aesCmac (key msg : List Nat) : List Nat :=
  let k1 := cmacDouble (aesEnc key (zeroBytes 16))
  let k2 := cmacDouble k1
  let n := if msg.isEmpty then 1 else (msg.length + 15) / 16
  let last := msg.drop (16 * (n - 1))
  let final := if last.length = 16 then xorBytes last k1 else xorBytes (last ++ [0x80] ++ zeroBytes (15 - last.length)) k2
  let mid := (blocks16 (msg.take (16 * (n - 1)))).foldl (fun c b => aesEnc key (xorBytes c b)) (zeroBytes 16)
  aesEnc key (xorBytes mid final)

/-! ### CBC, CFB, CTR -/

/-- CBC encryption of whole blocks. -/
def cbcEnc (key iv msg : List Nat) : List Nat :=
  ((blocks16 msg).foldl (fun p b =>
    let c := aesEnc key (xorBytes p.2 b)
    (p.1 ++ c, c)) (([], iv) : List Nat × List Nat)).1

/-- CBC decryption of whole blocks. -/
def cbcDec (key iv msg : List Nat) : List Nat :=
  ((blocks16 msg).foldl (fun p b => (p.1 ++ xorBytes p.2 (aesDec key b), b)) (([], iv) : List Nat × List Nat)).1

/-- CFB encryption with 128-bit segments. -/
def cfbEnc (key iv msg : List Nat) : List Nat :=
  ((blocks16 msg).foldl (fun p b =>
    let c := xorBytes b (aesEnc key p.2)
    (p.1 ++ c, c)) (([], iv) : List Nat × List Nat)).1

/-- CFB decryption with 128-bit segments. -/
def cfbDec (key iv msg : List Nat) : List Nat :=
  ((blocks16 msg).foldl (fun p b => (p.1 ++ xorBytes b (aesEnc key p.2), b)) (([], iv) : List Nat × List Nat)).1

/-- A counter block: 12 bytes and a 32-bit counter. -/
def ctrBlock (iv : List Nat) (n : Nat) : List Nat := iv.take 12 ++ beBytes 4 (n % 2 ^ 32)

/-- CTR with a first counter value. -/
def ctrFrom (key iv : List Nat) (first : Nat) (msg : List Nat) : List Nat :=
  ((blocks16 msg).zipIdx).flatMap fun p => xorBytes p.1 (aesEnc key (ctrBlock iv (first + p.2)))

/-! ### GCM -/

/-- Product in the field of GHASH over `n` bits of the first factor, from its most significant bit: `z` the sum so far, `v` the second
factor times the power reached. -/
def ghashMulN : Nat → Nat → Nat → Nat → Nat
  | 0, _, z, _ => z
  | n + 1, x, z, v =>
    ghashMulN n x (if x / 2 ^ n % 2 = 1 then z ^^^ v else z) (if v % 2 = 1 then v / 2 ^^^ (0xE1 * 2 ^ 120) else v / 2)

/-- GHASH of whole blocks under H. -/
def ghash (h : Nat) (bs : List Nat) : Nat :=
  (blocks16 bs).foldl (fun y b => ghashMulN 128 (y ^^^ ofBe b) 0 h) 0

/-- Pad to whole blocks. -/
def pad16 (bs : List Nat) : List Nat := bs ++ zeroBytes ((16 - bs.length % 16) % 16)

/-- The tag of GCM with a 96-bit IV over additional data and ciphertext. -/
def gcmTag (key iv aad ct : List Nat) : List Nat :=
  let h := ofBe (aesEnc key (zeroBytes 16))
  let y := ghash h (pad16 aad ++ pad16 ct ++ beBytes 8 (8 * aad.length) ++ beBytes 8 (8 * ct.length))
  xorBytes (beBytes 16 y) (aesEnc key (ctrBlock iv 1))

/-- GCM encryption or decryption of the data. -/
def gcmCrypt (key iv msg : List Nat) : List Nat := ctrFrom key iv 2 msg

end Sys2Proof.Machine
end

