-- ==== Sys2Proof/Machine/KwlOps.lean ====
section
/-! DEFINITION. The key well's operations: slots and their usability, keys handed to consumers, derivation, destruction, erase, and its
retained commit (chapter 15). -/

namespace Sys2Proof.Machine

/-- Change the key well. -/
def State.setKwl (s : State) (k : KwlSt) : State := { s with kwl := k }

/-! ### Slots (R525–R529) -/

/-- ROOT codes of KWL_STATUS. -/
def rootPresent : Nat := 2

/-- Whether a root is committed. -/
def State.hasRoot (s : State) : Bool := s.rd KWL_STATUS_ROOT [] == rootPresent

/-- A slot's record. Slot 0 is a VALID traffic-class KDK at level 0 with the root as its key. -/
def State.keySlot (s : State) (n : Nat) : KwlSlot :=
  let x := SMap.getD s.kwl.slots n {}
  if n = 0 then { state := 1, use := 1, gen := s.rd KWL_ROOT_GEN_GEN [], key := x.key, dirty := x.dirty } else x

/-- Bring DIRTY and the conditions of Table 15-8 in line. -/
def State.kwlView (s : State) : State :=
  let n := (s.kwl.slots.filter fun p => p.2.dirty).length
  let s := s.wr KWL_STATUS_DIRTY [] n
  let s := s.cond pgKWL 4 (s.rd KWL_STATUS_RBG [] == 3)
  (s.cond pgKWL 5 (!s.hasRoot)).cond pgKWL 6 (s.on KWL_STATUS_ALARM [])

/-- Change a slot. -/
def State.putSlot (s : State) (n : Nat) (x : KwlSlot) : State :=
  (s.setKwl { s.kwl with slots := SMap.setD s.kwl.slots {} n x }).kwlView

/-- A persistent slot. -/
def KwlSlot.persist (x : KwlSlot) : Bool := bitOf x.flags 1 == 1

/-- A slot with a 256-bit key. -/
def KwlSlot.key256 (x : KwlSlot) : Bool := bitOf x.flags 0 == 1

/-- Whether every link from a slot to slot 0 holds (R528); a path has at most `k` slots. -/
def State.usableIn (s : State) : Nat → Nat → Bool
  | 0, _ => false
  | k + 1, n =>
    let x := s.keySlot n
    if n = 0 then s.hasRoot
    else x.state == 1 && (s.keySlot x.parent).gen == x.pgen && s.usableIn k x.parent

/-- Whether a slot is usable. -/
def State.usable (s : State) (n : Nat) : Bool := s.usableIn 6 n

/-- STATE as a read shows it: a VALID slot with a broken link is orphaned. -/
def State.slotState (s : State) (n : Nat) : Nat :=
  let x := s.keySlot n
  if n != 0 && x.state == 1 && !s.usable n then 2 else x.state

/-- Bytes padded with zeros, or cut, to a length. -/
def padTo (n : Nat) (bs : List Nat) : List Nat := (bs ++ zeroBytes n).take n

/-- Bytes 0x00–0x3F of a slot record (Table 15-1). -/
def State.slotBytes (s : State) (n : Nat) : List Nat :=
  let x := s.keySlot n
  if n = 0 then padTo 64 ([1, 0, 1, 0, 0, 0, 0, 0] ++ leBytes 4 x.gen)
  else
    [s.slotState n, x.cls, x.use, x.flags] ++ leBytes 2 x.parent ++ [x.level, 0] ++ leBytes 4 x.gen ++ leBytes 4 x.pgen
      ++ padTo 8 x.label ++ padTo 8 x.context ++ padTo 32 x.attr

/-- KWL_RD0–KWL_RD15 show the selected slot (R529). -/
def State.viewKwl (s : State) : State :=
  let bs := s.slotBytes (s.rd KWL_RD_SEL_SLOT [])
  (List.range 16).foldl (fun s i => s.wr KWL_RD [i] (ofLe ((bs.drop (4 * i)).take 4))) s

/-! ### Keys for consumers (R526, R537) -/

/-- A key asked for by a consumer: of a USE, from a usable slot. Answers the slot, and counts the key handed over. -/
def State.loadKey (s : State) (n use : Nat) : State × Option KwlSlot :=
  let x := s.keySlot n
  if s.kwl.slotBad then
    -- An uncorrected error in the slot's working copy (Table 15-9, code 0x02).
    let s := s.setKwl { s.kwl with slotBad := false }
    let s := s.err pgKWL 0x02 1 n
    let kept := SMap.find? s.kwl.ret.table n
    let new : KwlSlot := match x.persist, kept with
      | true, some r => r
      | _, _ => { x with state := 0, key := [], gen := (x.gen + 1) % 2 ^ 32 }
    (if n = 0 then s else s.putSlot n new, none)
  else if s.usable n && x.use == use && n != 0 then (s.bump KWL_CNT_LOAD_CNT [], some x)
  else (s, none)

/-- The release check of a consumer: the slot is usable and its GEN is the one handed over (R537). -/
def State.keyStands (s : State) (n gen : Nat) : Bool := s.usable n && (s.keySlot n).gen == gen

/-! ### Creating, invalidating and destroying (R530–R536) -/

/-- The register words of a field read as bytes: byte j lies in register j div 4, bits [8 k + 7 : 8 k] with k = j mod 4. -/
def State.regBytes (s : State) (f : Fld) (ix : List Nat) (n : Nat) : List Nat := (List.range n).flatMap fun i => leBytes 4 (s.rd f (ix ++ [i]))

/-- The configuration that the staging registers hold. For IMPORT the key is that of KWL_KEY_IN. -/
def State.newCfg (s : State) (imported : Bool) : KwlSlot :=
  let k := s.rd KWL_NEW_CFG_KEY256 []
  { state := 1, cls := s.rd KWL_NEW_CFG_CLASS [], use := s.rd KWL_NEW_CFG_USE []
    flags := k + 2 * s.rd KWL_NEW_CFG_PERSIST [] + (if imported then 4 else 0)
    label := leBytes 4 (s.rd KWL_NEW_LABEL_LO []) ++ leBytes 4 (s.rd KWL_NEW_LABEL_HI [])
    context := leBytes 4 (s.rd KWL_NEW_CTX_LO []) ++ leBytes 4 (s.rd KWL_NEW_CTX_HI [])
    attr := s.regBytes KWL_NEW_ATTR [] 8
    key := if imported then (s.regBytes KWL_KEY_IN [] 8).take (if k = 1 then 32 else 16) else [] }

/-- Whether a USE admits a CLASS (Table 15-2). -/
def classAdmitted (use cls : Nat) : Bool :=
  match use with
  | 1 => true
  | 2 => cls == 1
  | 3 => cls == 0
  | 4 => cls == 0
  | 5 => cls == 0
  | 6 => true
  | 7 => cls == 1
  | _ => false

/-- The rule of R527 on ATTR: the reserved bytes of Table 15-3 are 0 for MACSEC, everything for another USE. -/
def attrOk (use : Nat) (attr : List Nat) : Bool :=
  if use = 3 then decide (attr.getD 24 0 < 4) && (attr.drop 25).all (fun b => b == 0) else attr.all fun b => b == 0

/-- The result of a create command (Table 15-4), or none for OK. -/
def State.createResult (s : State) (c : KwlCmd) : Nat :=
  let p := s.keySlot c.parent
  if !s.hasRoot then 5
  else if c.slot = 0 ∨ 4 < p.level + 1 ∨ !(1 ≤ c.cfg.use && c.cfg.use ≤ 7) ∨ !attrOk c.cfg.use c.cfg.attr ∨ !classAdmitted c.cfg.use c.cfg.cls then 1
  else if (s.keySlot c.slot).state != 0 then 2
  else if !s.usable c.parent || p.use != 1 then 3
  else if c.parent != 0 && p.cls != c.cfg.cls then 4
  else if c.cfg.cls == 1 && s.on KWL_STATUS_ALARM [] then 7
  else if s.kwl.engineBad then 8
  else 0

/-- The key that DERIVE gives (R530). -/
def deriveKey (pkey : List Nat) (c : KwlSlot) (pgen : Nat) : List Nat :=
  let l := if c.key256 then 256 else 128
  let block (i : Nat) : List Nat :=
    aesCmac pkey ([i] ++ padTo 8 c.label ++ [0] ++ padTo 8 c.context ++ beBytes 4 pgen ++ [c.cls, c.use] ++ beBytes 2 l)
  if c.key256 then block 1 ++ block 2 else block 1

/-- The import key registers are zeroed, at the end of every command, accepted or not (R531). -/
def State.kwlKeyZero (s : State) : State := (List.range 8).foldl (fun s i => s.wr KWL_KEY_IN [i] 0) s

/-- A command is not accepted: CMD_REJECT. -/
def State.kwlReject (s : State) : State := s.kwlKeyZero.wr KWL_STATUS_CMD_REJECT [] 1

/-- A command ends with a result: CMD_DONE (R531, R533). -/
def State.kwlEnd (s : State) (result : Nat) : State :=
  let s := s.kwlKeyZero
  (((s.wr KWL_STATUS_RESULT [] result).wr KWL_STATUS_BUSY [] 0).irq pgKWL 0).setKwl { s.kwl with cmd := none }

/-- A create command finishes. -/
def State.kwlCreate (s : State) (c : KwlCmd) : State :=
  let r := s.createResult c
  let s := if r = 8 then (s.setKwl { s.kwl with engineBad := false }).errU pgKWL 0x06 1 else s
  if r != 0 then s.kwlEnd r
  else
    let p := s.keySlot c.parent
    let x : KwlSlot := { c.cfg with parent := c.parent, level := p.level + 1, gen := (s.keySlot c.slot).gen, pgen := p.gen, dirty := c.cfg.persist }
    let x := if c.derive_ then { x with key := deriveKey p.key x p.gen } else x
    let s := s.putSlot c.slot x
    (s.bump (if c.derive_ then KWL_CNT_DERIVE_CNT else KWL_CNT_IMPORT_CNT) []).kwlEnd 0

/-- DESTROY's effect on a slot (R535); one whose GEN is exhausted can no longer be destroyed (R536). -/
def State.destroySlot (s : State) (n : Nat) : State :=
  let x := s.keySlot n
  if x.gen = 2 ^ 32 - 1 then s else s.putSlot n { x with state := 0, key := [], gen := x.gen + 1, dirty := x.dirty || x.persist }

/-! ### Custody erase and reload (R542–R544) -/

/-- Whether a slot's record is persistent and in the retained slot table. -/
def State.retSlot (s : State) (n : Nat) : Option KwlSlot := SMap.find? s.kwl.ret.table n

/-- The custody erase in the key well (R542). -/
def State.kwlErase (s : State) : State :=
  let slots := s.kwl.slots.map fun p =>
    if p.1 != 0 && p.2.cls == 1 && p.2.state == 1 then
      (p.1, if p.2.persist then { p.2 with state := 3, key := [] } else { p.2 with state := 0, key := [], gen := (p.2.gen + 1) % 2 ^ 32 })
    else p
  let s := s.setKwl { s.kwl with slots := slots }
  let s := match s.kwl.cmd with | some c => if c.cfg.cls = 1 then s.kwlEnd 7 else s | none => s
  ((s.bump KWL_CNT_ERASE_CNT []).irq pgKWL 2).kwlView

/-- Every ERASED slot is reloaded from its retained record and set VALID; a generation raised since that record stands (R534, R543; log 21). -/
def State.restoreCustody (s : State) : State :=
  let slots := s.kwl.slots.map fun p =>
    if p.2.state = 3 then
      match s.retSlot p.1 with
      | some r => (p.1, { r with state := 1, gen := max r.gen p.2.gen, dirty := p.2.dirty })
      | none => p
    else p
  (s.setKwl { s.kwl with slots := slots }).kwlView

/-- The scan-entry sequence (R544): every key is zeroed and every slot ERASED. -/
def State.kwlScan (s : State) : State :=
  let slots := (List.range 4096).map fun n => (n, { SMap.getD s.kwl.slots n {} with state := 3, key := [] })
  let cmd := s.kwl.cmd.map fun c => { c with cfg := { c.cfg with key := c.cfg.key.map fun _ => 0 } }
  let s := s.kwlKeyZero
  (s.setKwl { s.kwl with slots := slots, maskKey := 0, newRoot := none, cmd := cmd }).kwlView

/-! ### The retained commit (R521, R546, R547) -/

/-- Put a retained write in the supervisor's queue (R622). -/
def State.retPush (s : State) (w : RetWrite) : State := { s with ret := { s.ret with queue := s.ret.queue ++ [w] } }

/-- Which root copy is rewritten: A when its sequence is lower. -/
def KwlRet.rootTurn (r : KwlRet) : Bool :=
  match r.rootA, r.rootB with
  | none, _ => true
  | some _, none => false
  | some a, some b => decide (a.seq < b.seq)

/-- The next sequence number of a root copy. -/
def KwlRet.rootSeq (r : KwlRet) : Nat :=
  max (match r.rootA with | some a => a.seq | none => 0) (match r.rootB with | some b => b.seq | none => 0) + 1

/-- The write of a root copy, with freshly drawn shares. -/
def State.pushRoot (s : State) : State :=
  s.retPush { owner := .root, addr := if s.kwl.ret.rootTurn then 0 else 128, data := [], need := 200 }

/-- Phase 1 of the next journal: up to 511 of the snapshot's slots, into the journal with the lower sequence. -/
def State.startJournal (s : State) (c : KwlCommit) : State :=
  let r := s.kwl.ret
  let now_ := c.left.take 511
  let j := if r.j0.seq ≤ r.j1.seq then 0 else 1
  let c := { c with
    left := c.left.drop 511, recs := now_, journal := j, seq := max r.j0.seq r.j1.seq + 1
    pieces := [] }
  (s.setKwl { s.kwl with commit := some c }).retPush
    { owner := .journal, addr := if j = 0 then 0x9C000 else 0xAC000, data := [], need := 3000 }

/-- A commit without a root copy to write begins with its first journal, or ends at once where its snapshot is empty. -/
def State.kwlRecords (s : State) (c : KwlCommit) : State :=
  if c.left.isEmpty then
    (((s.setKwl { s.kwl with commit := none }).wr KWL_STATUS_COMMIT_BUSY [] 0).wr KWL_STATUS_COMMIT_RESULT [] 1).irq pgKWL 1
  else s.startJournal c

/-- The records of the dirty persistent slots, as a commit takes its snapshot (R546). An ERASED slot has no key to write and stays dirty; the root's
key is in its own copies alone. -/
def State.kwlSnapshot (s : State) : List (Nat × KwlSlot) :=
  (s.kwl.slots.filter fun p => p.2.dirty && p.2.state != 3).map fun p =>
    (p.1, if p.1 = 0 then { s.keySlot 0 with key := [] } else s.keySlot p.1)

/-- A key-well commit starts: the snapshot of the dirty slots, and the root copy first. A root that is still to be committed has its write
under way; with no root at all there is no copy to rewrite. -/
def State.kwlCommit (s : State) : State :=
  let taken (x : KwlSlot) : Bool := x.dirty && x.state != 3
  let c : KwlCommit := { left := s.kwlSnapshot, recs := [], journal := 0, seq := 0 }
  let s := s.setKwl { s.kwl with
    slots := s.kwl.slots.map fun p => (p.1, if taken p.2 then { p.2 with dirty := false } else p.2)
    commit := some c, again := false }
  let s := (s.wr KWL_STATUS_COMMIT_BUSY [] 1).kwlView
  if s.hasRoot then s.pushRoot else if s.kwl.newRoot.isSome then s else s.kwlRecords c

/-- INVALIDATE and DESTROY start a commit, or let one follow that runs (R539). -/
def State.kwlAutoCommit (s : State) : State :=
  if s.on KWL_STATUS_COMMIT_BUSY [] then s.setKwl { s.kwl with again := true } else s.kwlCommit

/-- A commit ends: 1 committed, 2 HOLDUP, 3 failed. Slots of a snapshot not committed stay dirty. -/
def State.kwlCommitEnd (s : State) (result : Nat) : State :=
  match s.kwl.commit with
  | none => s
  | some c =>
    let redo := if result = 1 then [] else (c.left ++ c.recs).map fun p => p.1
    let s := s.setKwl { s.kwl with
      commit := none, slots := redo.foldl (fun m n => SMap.setD m {} n { SMap.getD m n {} with dirty := true }) s.kwl.slots }
    let s := ((s.wr KWL_STATUS_COMMIT_BUSY [] 0).wr KWL_STATUS_COMMIT_RESULT [] result).irq pgKWL 1
    let s := (if result = 2 then s.bump KWL_CNT_COMMIT_HOLDUP_CNT [] else s).kwlView
    if s.kwl.again then s.kwlCommit else s

/-- The next piece of phase 2, the next journal, or the end. -/
def State.kwlNext (s : State) (c : KwlCommit) : State :=
  match c.pieces with
  | p :: _ =>
    (s.setKwl { s.kwl with commit := some c }).retPush { owner := .slotTable, addr := 0x1C000 + 65536 * p, data := [], need := 2600 }
  | [] => if c.left.isEmpty then (s.setKwl { s.kwl with commit := some c }).kwlCommitEnd 1 else s.startJournal c

/-- A root copy has been written: a root drawn at first start becomes present, and a commit goes on. -/
def State.rootWritten (s : State) : State :=
  let r := s.kwl.ret
  let key := s.kwl.newRoot.getD (s.keySlot 0).key
  let drawn := s.random 32
  let s := drawn.1
  let copy := some { seq := r.rootSeq, share0 := drawn.2, share1 := xorBytes key drawn.2 : RootCopy }
  let r := if r.rootTurn then { r with rootA := copy, used := true } else { r with rootB := copy, used := true }
  let s := s.setKwl { s.kwl with ret := r }
  let s :=
    match s.kwl.newRoot with
    | some k =>
      let s := (s.setKwl { s.kwl with newRoot := none }).wr KWL_STATUS_ROOT [] rootPresent
      s.putSlot 0 { SMap.getD s.kwl.slots 0 {} with key := k }
    | none => s
  match s.kwl.commit with
  | some c => if c.seq = 0 then s.kwlNext c else s
  | none => s

/-- A journal has been written whole: phase 2 begins. -/
def State.journalWritten (s : State) : State :=
  match s.kwl.commit with
  | none => s
  | some c =>
    let j : Journal := { seq := c.seq, valid := true, recs := c.recs }
    let r := s.kwl.ret
    let s := s.setKwl { s.kwl with ret := if c.journal = 0 then { r with j0 := j } else { r with j1 := j } }
    let s := (s.wr KWL_JSEQ_SEQ [] c.seq).bump KWL_CNT_COMMIT_CNT []
    s.kwlNext { c with pieces := (List.range 8).filter fun p => c.recs.any fun x => x.1 / 512 == p }

/-- The records of a list that fall in a slot table piece, put into the table. -/
def putRecs (t : SMap KwlSlot) (recs : List (Nat × KwlSlot)) : SMap KwlSlot :=
  recs.foldl (fun t x => SMap.insert t x.1 { x.2 with dirty := false }) t

/-- A slot table piece has been written. -/
def State.pieceWritten (s : State) : State :=
  match s.kwl.commit with
  | none => s
  | some c =>
    let p := c.pieces.headD 0
    let r := s.kwl.ret
    let s := s.setKwl { s.kwl with ret := { r with table := putRecs r.table (c.recs.filter fun x => x.1 / 512 == p) } }
    s.kwlNext { c with pieces := c.pieces.drop 1 }

end Sys2Proof.Machine
end

