-- ==== Sys2Proof/Machine/CphOps.lean ====
section
/-! DEFINITION. The cipher engine's operations: profiles, protection and verification of a frame, lanes, continuations and their failure
(chapter 14). -/

namespace Sys2Proof.Machine

/-- Page of lane l. -/
def pgLane (l : Nat) : Nat := pgCPH + 1 + l % 4

/-- A lane. -/
def State.lane (s : State) (l : Nat) : Lane := SMap.getD s.cph.lanes l {}

/-- Bring the registers that show the lanes and the job queue in line (Tables 14-4 to 14-6). -/
def State.viewCph (s : State) : State :=
  let mask (p : Nat → Bool) : Nat := ((List.range 4).map fun l => if p l then 2 ^ l else 0).foldl (· + ·) 0
  let out := mask fun l => s.on CPH_LSTAT_OUT [l]
  let up := mask fun l => s.on PG_STATE_ENABLED [pgLane l] && !s.on CPH_LSTAT_OUT [l]
  let s := ((s.wr CPH_STATUS_JOBQ_DEPTH [] s.cph.jobs.depth).wr CPH_STATUS_LANE_OUT [] out).wr CPH_STATUS_LANE_UP [] up
  s.cond pgCPH 6 (out != 0)

/-- Change a lane, with its registers in line. -/
def State.setLane (s : State) (l : Nat) (x : Lane) : State :=
  let s := s.setCph { s.cph with lanes := SMap.setD s.cph.lanes {} l x }
  let s := (s.setB CPH_LSTAT_INTAKE_VALID [l] x.intake.isSome).setB CPH_LSTAT_INTAKE_CUSTODY [l] (match x.intake with | some i => i.2 | none => false)
  (s.wr CPH_LSTAT_JOBQ [l] x.queue.length).cond (pgLane l) 0 (x.results.depth != 0 || x.results.gap.isSome)

/-- Whether a lane takes new jobs. -/
def State.laneUp (s : State) (l : Nat) : Bool := s.on PG_STATE_ENABLED [pgLane l] && !s.on CPH_LSTAT_OUT [l]

/-! ### Profiles (R496–R500) -/

/-- A cipher profile (Table 14-4). -/
structure Profile where
  kind : Nat
  key256 : Bool
  conf : Bool
  sc : Bool
  es : Bool
  scb : Bool
  tag : Nat
  fvBits : Nat
  window : Nat
  deriving DecidableEq, Repr

/-- Profile p as the registers hold it. -/
def State.profile (s : State) (p : Nat) : Profile :=
  { kind := s.rd CPH_PROF_A_KIND [p], key256 := s.on CPH_PROF_A_KEY256 [p], conf := s.on CPH_PROF_A_CONF [p], sc := s.on CPH_PROF_A_SC [p]
    es := s.on CPH_PROF_A_ES [p], scb := s.on CPH_PROF_A_SCB [p], tag := s.rd CPH_PROF_A_TAG_BYTES [p], fvBits := s.rd CPH_PROF_A_FV_BITS [p]
    window := s.rd CPH_PROF_B_WINDOW [p] }

/-- The profile of a berth. -/
def State.berthProfile (s : State) (b : Nat) : Profile := s.profile ((s.berth b).cph % 16)

/-- The key-well slot of a berth. -/
def State.berthKey (s : State) (b : Nat) : Nat := (s.berth b).keyRef % 2 ^ 12

/-- The USE that a profile's key must have (Table 15-2). -/
def kindUse (kind : Nat) : Nat := if kind = 1 ∨ kind = 2 then 3 else if kind = 3 then 4 else 5

/-! ### MACsec (IEEE 802.1AE) -/

/-- Attributes of a MACsec slot (Table 15-3). -/
def attrSci (a : List Nat) : List Nat := a.take 8
/-- SSCI. -/
def attrSsci (a : List Nat) : List Nat := (a.drop 8).take 4
/-- Salt. -/
def attrSalt (a : List Nat) : List Nat := (a.drop 12).take 12
/-- AN. -/
def attrAn (a : List Nat) : Nat := a.getD 24 0 % 4

/-- The IV: SCI and PN for GCM-AES, and for GCM-AES-XPN the XOR of the salt with SSCI and the 64-bit PN. -/
def macsecIv (kind : Nat) (attr : List Nat) (fv : Nat) : List Nat :=
  if kind = 1 then attrSci attr ++ beBytes 4 fv else xorBytes (attrSalt attr) (attrSsci attr ++ beBytes 8 fv)

/-- Length of a SecTAG whose TCI octet is given. -/
def secTagLen (tci : Nat) : Nat := if bitOf tci 5 = 1 then 16 else 8

/-- The SecTAG that protection inserts. -/
def secTag (p : Profile) (attr : List Nat) (fv n : Nat) : List Nat :=
  let tci := (if p.es then 0x40 else 0) + (if p.sc then 0x20 else 0) + (if p.scb then 0x10 else 0) + (if p.conf then 0x0C else 0) + attrAn attr
  [0x88, 0xE5, tci, if n < 48 then n else 0] ++ beBytes 4 (fv % 2 ^ 32) ++ (if p.sc then attrSci attr else [])

/-- Protect an Ethernet frame. -/
def macsecProtect (p : Profile) (key attr bs : List Nat) (fv : Nat) : List Nat :=
  let data := bs.drop 12
  let head := bs.take 12 ++ secTag p attr fv data.length
  let iv := macsecIv p.kind attr fv
  if p.conf then
    let ct := gcmCrypt key iv data
    head ++ ct ++ gcmTag key iv head ct
  else head ++ data ++ gcmTag key iv (head ++ data) []

/-- Whether a SecTAG is one that IEEE 802.1AE admits: version 0, no SC with ES or SCB, no encryption without changed text, a short length
below 48 and a packet number other than 0: the 32 bits of the SecTAG, and the recovered 64-bit PN for GCM-AES-XPN, whose low 32 bits may be 0. -/
def secTagOk (kind fv : Nat) (bs : List Nat) : Bool :=
  let t := bs.getD 14 0
  bitOf t 7 == 0 && !(bitOf t 5 == 1 && (bitOf t 6 == 1 || bitOf t 4 == 1)) && !(bitOf t 3 == 1 && bitOf t 2 == 0)
    && decide (bs.getD 15 0 < 48) && decide (12 + secTagLen t + bs.getD 15 0 + 16 ≤ bs.length)
    && (if kind = 2 then fv != 0 else be bs 16 4 != 0)

/-- The secured data of a protected frame, and its ICV. -/
def macsecParts (bs : List Nat) : List Nat × List Nat :=
  let rest := bs.drop (12 + secTagLen (bs.getD 14 0))
  let n := if bs.getD 15 0 = 0 then rest.length - 16 else bs.getD 15 0
  (rest.take n, (rest.drop n).take 16)

/-- Verify a protected Ethernet frame (R500): the frame without its security fields, or none. -/
def macsecOpen (p : Profile) (key attr bs : List Nat) (fv : Nat) : Option (List Nat) :=
  let t := bs.getD 14 0
  if be bs 12 2 != 0x88E5 || !secTagOk p.kind fv bs || t % 4 != attrAn attr || (bitOf t 5 == 1 && (bs.drop 20).take 8 != attrSci attr) then none
  else
    let head := bs.take (12 + secTagLen t)
    let parts := macsecParts bs
    let iv := macsecIv p.kind attr fv
    if p.conf then
      if gcmTag key iv head parts.1 = parts.2 then some (bs.take 12 ++ gcmCrypt key iv parts.1) else none
    else if gcmTag key iv (head ++ parts.1) [] = parts.2 then some (bs.take 12 ++ parts.1)
    else none

/-- The output of a verification as far as the landed bytes give it, before its tag has checked. -/
def macsecPartial (p : Profile) (key attr bs : List Nat) (fv : Nat) : List Nat :=
  let rest := bs.drop (12 + secTagLen (bs.getD 14 0))
  let data := rest.take (rest.length - 16)
  bs.take 12 ++ (if p.conf then gcmCrypt key (macsecIv p.kind attr fv) data else data)

/-! ### CAN (R343, R498) -/

/-- A CANsec header as bytes of its fixed length. -/
def cansecHead (bs : List Nat) : List Nat := (padTo Config.cansecHeaderLen (bs.take Config.cansecHeaderLen)).map (· % 256)

/-- The 96-bit nonce of a CANsec frame. -/
def cansecIv (frame head : List Nat) (fv : Nat) : List Nat := (padTo 12 ((Config.cansecNonce frame head fv).take 12)).map (· % 256)

/-- The authenticated bytes of a CANsec frame beside its data. -/
def cansecAuth (frame head : List Nat) : List Nat := (Config.cansecAad frame head).map (· % 256)

/-- The message of a KIND 4 tag: identifier with IDE, data in front of the trailer, FV. -/
def truncMsg (f : CanFrame) (data : List Nat) (fv : Nat) : List Nat :=
  beBytes 4 (f.ident % 2 ^ 29 + (if f.ide then 2 ^ 29 else 0)) ++ data ++ beBytes 8 fv

/-- The trailer of KIND 4: the low bits of FV, then the leading tag bytes, then zero bits. -/
def truncTrailer (p : Profile) (key : List Nat) (f : CanFrame) (data : List Nat) (fv : Nat) : List Nat :=
  let n := trailerLen p.fvBits p.tag
  let mac := ofBe ((aesCmac key (truncMsg f data fv)).take p.tag)
  beBytes n ((fv % 2 ^ p.fvBits * 2 ^ (8 * p.tag) + mac) * 2 ^ (8 * n - p.fvBits - 8 * p.tag))

/-- The smallest legal data length of a format that holds n bytes. -/
def canFit (fmt n : Nat) : Option Nat :=
  if fmt = fmtCC then (if n ≤ 8 then some n else none)
  else if fmt = fmtFD then ([0, 1, 2, 3, 4, 5, 6, 7, 8, 12, 16, 20, 24, 32, 48, 64].find? fun m => decide (n ≤ m))
  else if n ≤ 2048 then some (max n 1) else none

/-- The data field of a CANsec frame (R343, Table 14-2): its header, the data, encrypted with CONF = 1, and TAG_BYTES of the GCM tag. The
header's form, the nonce and what the tag covers are those of CiA 613-2. -/
def cansecProtect (p : Profile) (key : List Nat) (f : CanFrame) (fv : Nat) : List Nat :=
  let head := cansecHead (Config.cansecHeader p.conf p.tag fv)
  let frame := (canStore f).take 16
  let iv := cansecIv frame head fv
  let aad := cansecAuth frame head
  if p.conf then
    let ct := gcmCrypt key iv f.data
    head ++ ct ++ (gcmTag key iv aad ct).take p.tag
  else head ++ f.data ++ (gcmTag key iv (aad ++ f.data) []).take p.tag

/-- The data that a CANsec data field carries, or none where its tag fails. -/
def cansecOpen (p : Profile) (key : List Nat) (f : CanFrame) (fv : Nat) : Option (List Nat) :=
  let n := Config.cansecHeaderLen
  if f.data.length < n + p.tag then none
  else
    let head := f.data.take n
    let body := (f.data.drop n).take (f.data.length - n - p.tag)
    let tag := f.data.drop (f.data.length - p.tag)
    let frame := (canStore f).take 16
    let iv := cansecIv frame head fv
    let aad := cansecAuth frame head
    if p.conf then (if (gcmTag key iv aad body).take p.tag = tag then some (gcmCrypt key iv body) else none)
    else if (gcmTag key iv (aad ++ body) []).take p.tag = tag then some body
    else none

/-- Protect a CAN frame; none where the result exceeds the format's largest data length. -/
def canProtect (p : Profile) (key : List Nat) (f : CanFrame) (fv : Nat) : Option CanFrame :=
  if p.kind = 3 then
    let d := cansecProtect p key f fv
    if d.length ≤ 2048 ∧ 1 ≤ d.length then some { f with data := d, dataLen := d.length } else none
  else
    let t := trailerLen p.fvBits p.tag
    match canFit f.format (f.data.length + t) with
    | none => none
    | some n =>
      let front := padTo (n - t) f.data
      some { f with data := front ++ truncTrailer p key f front fv, dataLen := n }

/-- Verify a CAN frame: the frame without its security fields, or none. -/
def canOpen (p : Profile) (key : List Nat) (f : CanFrame) (fv : Nat) : Option CanFrame :=
  if p.kind = 3 then (cansecOpen p key f fv).map fun d => { f with data := d, dataLen := d.length }
  else
    let t := trailerLen p.fvBits p.tag
    let front := f.data.take (f.data.length - t)
    if t ≤ f.data.length ∧ truncTrailer p key f front fv = f.data.drop (f.data.length - t) then some { f with data := front, dataLen := front.length }
    else none

/-- Protect a stored frame; none where the format cannot hold the result (R498). -/
def protectFrame (p : Profile) (key attr bs : List Nat) (medium fv : Nat) : Option (List Nat) :=
  if medium = 3 then some (macsecProtect p key attr bs fv) else (canProtect p key (canParse bs) fv).map canStore

/-- Verify a stored frame. -/
def openFrame (p : Profile) (key attr bs : List Nat) (medium fv : Nat) : Option (List Nat) :=
  if medium = 3 then macsecOpen p key attr bs fv else (canOpen p key (canParse bs) fv).map canStore

/-- Length of the output area of a verification. -/
def openLen (p : Profile) (bs : List Nat) (medium : Nat) : Nat :=
  max 1 (if medium = 3 then bs.length - 16 - (if p.sc then 16 else 8) else bs.length - (if p.kind = 4 then trailerLen p.fvBits p.tag else Config.cansecHeaderLen + p.tag))

/-- Bytes that a job processes, AAD included (R504). -/
def jobBytes (p : Profile) (protect : Bool) (len medium : Nat) : Nat :=
  if medium = 3 then (if protect then len + (if p.sc then 16 else 8) else len - 16)
  else if p.kind = 4 then len - 16 + 12 else len - 16

/-- Harbour units that a job occupies its lane (R504): 6 + ⌈B / 16⌉ lane clocks of 2.5 ns, and 8 for a key load. -/
def jobTime (bytes : Nat) (load : Bool) : Nat := (6 + (bytes + 15) / 16 + (if load then 8 else 0)) * 5 * (nsUnit / 2)

/-! ### Jobs waiting and running -/

/-- The harbour time of a job's release slot (R512). -/
def State.releaseSlot (s : State) (j : CphJob) : Nat :=
  j.admitted + 8 * (if j.item.r.sched then s.rd CPH_BUDGET_SCHED [] else s.rd CPH_BUDGET_UNSCHED []) * nsUnit

/-- The berth of a job. -/
def CphJob.berth (j : CphJob) : Nat := j.item.r.berth

/-- The traffic job that a lane runs. -/
def Lane.traffic? (x : Lane) : Option CphJob := match x.job with | some (.traffic j _ _ _ _) => some j | _ => none

/-- Whether an earlier job of the same berth has neither finished nor been discarded (R492). -/
def State.earlierJob (s : State) (j : CphJob) : Bool :=
  let before (k : CphJob) : Bool := k.berth == j.berth && decide (k.item.r.seq < j.item.r.seq)
  s.cph.jobs.all.any before || (List.range 4).any fun l => match (s.lane l).traffic? with | some k => before k | none => false

/-- The continuation descriptor of a job (R493, R495). -/
def contDesc (j : CphJob) (f len : Nat) (cut authOk : Bool) (hdr : BitVec 128) : Desc :=
  let d := j.item.r.d
  { cell := f, len := len, src := 67, medium := d.medium, recirc := true, pass := d.pass + 1, cut := cut, hint := j.berth, authOk := authOk
    hintValid := true, stamp := d.stamp, hdr := hdr, fv := j.fv, origin := if d.src = 67 then d.origin else d.src }

/-- The HDR of a frame that IQ3 writes for a job: of an Ethernet frame VID, PCP and DEI come from the job's descriptor, and the EtherType is the one
that follows SA and any tag in the output, where the TPIDs of the quay that the frame came from mark a tag (R362; log 22). -/
def State.outHdr (s : State) (j : CphJob) (medium : Nat) (bs : List Nat) : BitVec 128 :=
  let d := j.item.r.d
  let o := if d.src = 67 then d.origin else d.src
  if medium = 3 then
    hdrEth { parseEth (if 32 ≤ o ∧ o < 64 then s.tpids o else [0x8100]) bs with vid := hdrVid d, pcp := hdrPcp d, dei := d.hdr.toNat / 2 ^ 16 % 2 }
  else hdrCan (canParse bs)

/-- Issue a finished job's continuation at frame end. -/
def State.issueDone (s : State) (d : DoneJob) : State :=
  let p := s.landFrame 67 none d.bytes
  match p.2 with
  | none => p.1
  | some f => (p.1.pushDesc 67 (contDesc d.job f d.bytes.length false d.authOk (s.outHdr d.job d.medium d.bytes)) d.scheduled).1

/-- Issue the finished jobs that wait for no earlier one, in DESC_SEQ order of a berth. -/
def State.issueReady : Nat → State → State
  | 0, s => s
  | n + 1, s =>
    let first (d : DoneJob) : Bool :=
      !s.earlierJob d.job && !s.cph.done.any fun e => e.job.berth == d.job.berth && decide (e.job.item.r.seq < d.job.item.r.seq)
    match s.cph.done.find? first with
    | none => s
    | some d => ((s.setCph { s.cph with done := s.cph.done.erase d }).issueDone d).issueReady n

/-- Finished jobs proceed. -/
def State.cphProceed (s : State) : State := (State.issueReady (s.cph.done.length) s).viewCph

/-- A traffic job leaves: its frame is released. -/
def State.jobGone (s : State) (j : CphJob) : State := s.release j.item.frame (.inner 3)

/-! ### The failure of a provisional continuation (R228, R508) -/

/-- Zero the written cells of a frame; their CRCs are those of zeros (R228). -/
def State.zeroFrame (s : State) (f : Nat) : State :=
  match s.frame? f with
  | none => s
  | some o =>
    let cells := o.cells.map fun c => c.1
    let s := cells.foldl (fun (s : State) c => s.putCells (256 * c) (zeroBytes 256)) s
    let s := s.setCst { s.cst with badCells := s.cst.badCells.filter fun c => !cells.contains c }
    (s.putFrame f { o with zeroed := true, bad := true }).bump CST_CNT_ZEROED_CNT []

/-- The log records of a failed tag under cut-through (R472). -/
def State.logCutFail (s : State) (o : FrameObj) (r : Rec) : State :=
  o.readers.foldl (fun s q =>
    if q ≤ 64 then
      s.log (.frame {
        port := q, tx := decide (q < 64), status := 7, zeroed := true, len := r.d.len, cut := true, bad := true, berthValid := r.berthValid
        berth := r.berth, queue := if q < 64 then r.queue else 0, seq := r.seq, medium := r.d.medium, stamp := s.stamp })
    else s) s

/-- The failure notice: consumers that have not started the frame drop it, those that have end it, and its cells are zeroed (R508). `count`
says whether the berth's failure is counted. -/
def State.cutFail (s : State) (j : CphJob) (f : Nat) (count : Bool) : State :=
  let s :=
    match s.frame? f with
    | none => s
    | some o =>
      let s := s.logCutFail o { j.item.r with d := { j.item.r.d with len := o.len } }
      (s.zeroFrame f).frameBad f
  if count then
    let s := (s.bump CPH_CNT_CUT_FAIL_CNT []).irq pgCPH 1
    let s := s.bump BTH_CNT_AUTH_CNT []
    if s.hasAct then s.berthStat s.actPlane j.berth .authFail else s
  else s

/-- A traffic job is discarded late: no continuation, a provisional one ends under the cut-through failure procedure (R512). -/
def State.jobLate (s : State) (j : CphJob) (out : Option Nat) : State :=
  let s := (s.bump CPH_CNT_LATE_CNT []).irq pgCPH 2
  let s := match out with | some f => s.cutFail j f true | none => s
  (s.jobGone j).cphProceed

/-! ### Host jobs (R513, R514, Table 14-3) -/

/-- A result enters a lane's result queue of 16 entries. -/
def State.pushRes (s : State) (l : Nat) (r : HostRes) : State :=
  let x := s.lane l
  s.setLane l { x with results := (x.results.push 16 r s.stamp).1 }

/-- Whether a host job's arguments are refused. -/
def HostJob.badArg (j : HostJob) : Bool :=
  let cmac := j.op == 3 || j.op == 4
  !((j.op == 1 || j.op == 2) && 1 ≤ j.mode && j.mode ≤ 4 || cmac && j.mode == 5)
    || (!cmac && j.len == 0) || (j.mode == 1 && j.len % 16 != 0) || (j.aad != 0 && j.mode != 4)
    || (j.mode == 4 && !(12 ≤ j.tagLen && j.tagLen ≤ 16)) || (cmac && !(4 ≤ j.tagLen && j.tagLen ≤ 16))

/-- Whether a host job needs a random IV. -/
def HostJob.needsIv (j : HostJob) : Bool := j.op == 1

/-- Zero the DST area of a host job, as far as it can be written. -/
def State.zeroDst (s : State) (j : HostJob) : State :=
  if (j.op == 1 || j.op == 2) && s.hostReachable then s.out (.hostWrite j.dst (zeroBytes j.len)) else s

/-- A running host job ends with a status and without output. -/
def State.hostEnd (s : State) (l : Nat) (j : HostJob) (status : Nat) : State :=
  let s := s.setLane l { s.lane l with job := none }
  let s := ((s.zeroDst j).bump CPH_LCNT_JOBS_CNT [l]).pushRes l { status := status, tag := j.tag }
  s

/-- A host bridge error ends a running host job with HOST_ERR (R514). -/
def State.hostErr (s : State) (l : Nat) (j : HostJob) : State := ((s.bump CPH_LCNT_HOST_ERR_CNT [l]).irq (pgLane l) 2).hostEnd l j 7

/-- The output of ENC or DEC over the data, and for GCM the computed tag. -/
def hostCrypt (j : HostJob) (key iv aad data : List Nat) : List Nat × List Nat :=
  match j.mode, j.op with
  | 1, 1 => (cbcEnc key iv data, [])
  | 1, _ => (cbcDec key iv data, [])
  | 2, 1 => (cfbEnc key iv data, [])
  | 2, _ => (cfbDec key iv data, [])
  | 3, _ => (ctrFrom key iv (ofBe (iv.drop 12)) data, [])
  | _, 1 =>
    let ct := gcmCrypt key iv data
    (ct, gcmTag key iv aad ct)
  | _, _ => (gcmCrypt key iv data, gcmTag key iv aad data)

/-! ### Custody erase in the lanes (R510) -/

/-- Whether a host job uses a custody key of its lane or of the key well. -/
def State.jobCustody (s : State) (l : Nat) (j : HostJob) : Bool :=
  if j.intake then (match (s.lane l).intake with | some i => i.2 | none => false) else (s.keySlot j.slot).cls == 1

/-- The custody erase of a lane. -/
def State.laneErase (s : State) (l : Nat) : State :=
  let x := s.lane l
  let gone := x.queue.filter fun j => s.jobCustody l j
  let s := s.setLane l { x with
    queue := x.queue.filter fun j => !s.jobCustody l j
    intake := match x.intake with | some (k, c) => if c then none else some (k, c) | none => none }
  let s := match x.job with
    | some (.host j _ true _) => s.hostEnd l j 3
    | _ => s
  gone.foldl (fun s j => s.pushRes l { status := 3, tag := j.tag }) s

/-- The custody erase of every lane. -/
def State.cphErase (s : State) : State :=
  let s := (List.range 4).foldl (fun s l => s.laneErase l) s
  (s.bump CPH_CNT_ERASE_CNT []).irq pgCPH 5

end Sys2Proof.Machine
end

