-- ==== Sys2Proof/Machine/Cph.lean ====
section
/-! DEFINITION. The commands of the cipher engine (chapter 14). -/

namespace Sys2Proof.Machine

/-! ### Intake (R489, R491) -/

/-- IQ3 job queue entries (R491). -/
def cphDepth : Nat := 1024

/-- IQ3_JOB_ENQUEUE: IQ3 takes the oldest record bound for it, checks its job word and queues the job. -/
def execIq3JobEnqueue (s : State) : Result :=
  onLogic s fun s =>
    match s.inner 3 with
    | [] => s
    | it :: rest =>
      let s := s.putInner 3 rest
      if s.cph.wordBad then
        let s := s.setCph { s.cph with wordBad := false }
        ((((s.errU pgCPH 0x03 1).bump CPH_CNT_JOBWORD_DROP_CNT []).irq pgCPH 7).release it.frame (.inner 3))
      else
        let j : CphJob := { item := it, protect := (s.berth it.r.berth).authTx, fv := it.r.fv, admitted := s.count }
        let p := s.cph.jobs.push cphDepth j s.stamp
        let s := (s.setCph { s.cph with jobs := p.1 }).viewCph
        if p.2.1 then s else ((s.bump CPH_CNT_JOB_DROP_CNT []).release it.frame (.inner 3))

/-! ### Dispatch (R492, R502, R511, R512) -/

/-- Take a job out of the job queue; a gap marker that reaches the head goes with it. -/
def takeCphJob (q : CQueue CphJob) (j : CphJob) : CQueue CphJob :=
  let i := q.items.filter fun k => k != j
  let a := q.after.filter fun k => k != j
  if i.isEmpty then { items := a } else { q with items := i, after := a }

/-- Whether a lane is inside a granted low tide window of its own (R94, KIND 0x03). -/
def State.laneWindow (s : State) (l : Nat) : Bool :=
  s.tid.windows.any fun w => w.kind == 3 && w.target == l && w.from_ ≤ s.count && s.count < w.fin

/-- What lane l takes next: the oldest scheduled job, but none inside its low tide window (R117), or else, unless it runs scheduled jobs only, the oldest unscheduled traffic job or
host job. A host job that needs a random IV is passed over while the generator is not ready (R541). -/
def State.lanePick (s : State) (l : Nat) : Option (CphJob ⊕ HostJob) :=
  let jobs := s.cph.jobs.all
  match (if s.laneWindow l then none else jobs.find? fun j => j.item.r.sched) with
  | some j => some (.inl j)
  | none =>
    if bitOf (s.rd CPH_CTRL_SCHED_ONLY []) l = 1 then none
    else
      let hosts := (s.lane l).queue.filter fun j => !j.needsIv || s.rd KWL_STATUS_RBG [] == 1
      match jobs.find? (fun j => !j.item.r.sched), hosts.head? with
      | some j, some h => if h.at_ < j.item.since then some (.inr h) else some (.inl j)
      | some j, none => some (.inl j)
      | none, some h => some (.inr h)
      | none, none => none

/-- Whether a lane is idle and takes jobs. -/
def State.laneIdle (s : State) (l : Nat) : Bool := s.laneUp l && (s.lane l).job.isNone && !(s.lane l).testing

/-- Whether an idle lane with a lower number takes the same traffic job (R492). -/
def State.lowerLane (s : State) (l : Nat) (j : CphJob) : Bool :=
  (List.range l).any fun m => s.laneIdle m && s.lanePick m == some (.inl j)

/-- A job ends with KEY_ABSENT (R502). -/
def State.keyAbsent (s : State) (l : Nat) : State :=
  ((s.bump CPH_CNT_KEY_ABSENT_CNT []).irq pgCPH 4).bump CPH_LCNT_JOBS_CNT [l]

/-- A traffic job's key: from the key register where it still stands, or from the key well (R501, R502). Answers also whether it was
loaded. -/
def State.trafficKey (s : State) (l : Nat) (j : CphJob) : State × Option KwlSlot × Bool :=
  let p := s.berthProfile j.berth
  let n := s.berthKey j.berth
  let x := s.keySlot n
  if (s.lane l).keyReg == some (n, x.gen) && s.keyStands n x.gen && x.use == kindUse p.kind then
    (s, if x.key256 = p.key256 then some x else none, false)
  else
    let r := s.loadKey n (kindUse p.kind)
    match r.2 with
    | some k => (r.1, if k.key256 = p.key256 then some k else none, true)
    | none => (r.1, none, true)

/-- A lane starts a traffic job, or discards it unstarted. -/
def State.startTraffic (s : State) (l : Nat) (j : CphJob) : State :=
  let s := (s.setCph { s.cph with jobs := takeCphJob s.cph.jobs j }).viewCph
  let x := s.keySlot (s.berthKey j.berth)
  let reuse := (s.lane l).keyReg == some (s.berthKey j.berth, x.gen) && s.keyStands (s.berthKey j.berth) x.gen
  let d := j.item.r.d
  if s.releaseSlot j < s.count + jobTime (jobBytes (s.berthProfile j.berth) j.protect d.len d.medium) (!reuse) then s.jobLate j none
  else
    let r := s.trafficKey l j
    let s := r.1
    match r.2.1 with
    | none => ((s.keyAbsent l).jobGone j).cphProceed
    | some k =>
      let s := if r.2.2 then s.bump CPH_LCNT_KEY_LOAD_CNT [l] else s
      s.setLane l { s.lane l with
        job := some (.traffic j k.key k.attr k.gen none), started := s.count, keyReg := some (s.berthKey j.berth, k.gen) }

/-- Tag of a lane's host read. -/
def laneReadTag (l : Nat) : Nat := 1024 + l

/-- A lane starts a host job: its arguments and its key are judged, and its source is read (R501, R502, R514). A traffic-class key that the
register holds already is not loaded again. -/
def State.startHost (s : State) (l : Nat) (j : HostJob) : State :=
  let s := s.setLane l { s.lane l with queue := (s.lane l).queue.filter fun k => k != j }
  if j.badArg then (s.bump CPH_LCNT_JOBS_CNT [l]).pushRes l { status := 6, tag := j.tag }
  else
    let held := s.keySlot j.slot
    let reuse := !j.intake && held.cls != 1 && held.use == 6 && (s.lane l).keyReg == some (j.slot, held.gen) && s.keyStands j.slot held.gen
    let r : State × Option (List Nat × Bool × Nat) :=
      if j.intake then (s, (s.lane l).intake.map fun i => (i.1, i.2, 0))
      else if reuse then (s, some (held.key, false, held.gen))
      else
        let r := s.loadKey j.slot 6
        (r.1, r.2.map fun k => (k.key, k.cls == 1, k.gen))
    let s := r.1
    match r.2 with
    | none => (s.keyAbsent l).pushRes l { status := 4, tag := j.tag }
    | some (key, custody, gen) =>
      let s := if reuse then s else s.bump CPH_LCNT_KEY_LOAD_CNT [l]
      let s := s.setLane l { s.lane l with
        job := some (.host j key custody gen), started := s.count, keyReg := if j.intake || custody then none else some (j.slot, gen) }
      if s.hostReachable && j.aad + j.len != 0 then s.out (.hostRead (laneReadTag l) j.src (j.aad + j.len)) else s

/-- CIPHER_JOB_START: lane l takes its next job. While no lane is in service every traffic job is discarded as late (R518). -/
def execCipherJobStart (l : Nat) (s : State) : Result :=
  onLogicIf s (decide (l < 4)) fun s =>
    let s := s.cphProceed
    if !((List.range 4).any fun m => s.laneUp m) then
      match s.cph.jobs.all.head? with
      | some j => (s.setCph { s.cph with jobs := takeCphJob s.cph.jobs j }).jobLate j none
      | none => s
    else if !s.laneIdle l then s
    else
      match s.lanePick l with
      | some (.inl j) => if s.lowerLane l j then s else s.startTraffic l j
      | some (.inr h) => s.startHost l h
      | none => s

/-! ### Traffic jobs end (R493–R495, R505–R509) -/

/-- A lane's traffic job is over. -/
def State.laneFree (s : State) (l : Nat) : State := s.setLane l { s.lane l with job := none }

/-- A comparison fails in a lane: the second one in a stroke puts the lane out of service (R506). -/
def State.compareErr (s : State) (l : Nat) : State :=
  let s := ((s.errU (pgLane l) 0x02 1).bump CPH_LCNT_CMP_FAIL_CNT [l]).irq (pgLane l) 1
  let n := (s.lane l).cmpFails + 1
  let s := s.setLane l { s.lane l with cmpFails := n, cmpBad := false }
  if n = 2 then ((s.errU (pgLane l) 0x03 1).wr CPH_LSTAT_OUT [l] 1).viewCph else s

/-- The job of a lane ends with COMPARE_FAIL (R506). -/
def State.compareFail (s : State) (l : Nat) : State :=
  match (s.lane l).job with
  | none => s
  | some (.host j _ _ _) => (s.compareErr l).hostEnd l j 5
  | some (.traffic j _ _ _ out) =>
    let s := (s.compareErr l).laneFree l
    let s := s.bump CPH_LCNT_JOBS_CNT [l]
    let s := match out with | some f => s.cutFail j f false | none => s
    (s.jobGone j).cphProceed

/-- Whether a lane's traffic job is issued cut-through (R495). -/
def State.jobCut (s : State) (j : CphJob) : Bool :=
  j.item.r.d.cut && !j.protect && !j.item.r.vbr && s.on CST_CTRL_CUT_EN []

/-- PROVISIONAL_CONTINUATION: the first output cell of a verifying job whose descriptor has CUT = 1 is written, and its continuation issues
(R495). -/
def execProvisionalContinuation (l : Nat) (s : State) : Result :=
  onLogicIf s (decide (l < 4)) fun s =>
    match (s.lane l).job with
    | some (.traffic j key attr gen none) =>
      let p := s.berthProfile j.berth
      let bs := macsecPartial p key attr (s.frameBytes j.item.frame) j.fv
      let done := s.frameComplete j.item.frame
      if !s.jobCut j || bs.length < 256 || (done && bs.length == 256) || s.earlierJob j
        || (s.cph.done.any fun e => e.job.berth == j.berth) || !s.keyStands (s.berthKey j.berth) gen then s
      else
        match s.takeCell 67 none with
        | none => s
        | some c =>
          let a := s.appendCell 67 none c (bs.take 256)
          let s := a.1
          let s := match s.frame? a.2 with
            | some o => s.putFrame a.2 { o with cut := true }
            | none => s
          let bound := j.item.r.d.len - 16 - secTagLen ((s.frameBytes j.item.frame).getD 14 0)
          let q := s.pushDesc 67 (contDesc j a.2 bound true true (s.outHdr j 3 bs)) j.item.r.sched
          if q.2 then q.1.setLane l { q.1.lane l with job := some (.traffic j key attr gen (some a.2)) } else q.1
    | _ => s

/-- A traffic job finishes: its counts, and its lane is free. -/
def State.jobCounted (s : State) (l : Nat) (j : CphJob) : State :=
  let d := j.item.r.d
  let s := (s.laneFree l).bump CPH_LCNT_JOBS_CNT [l]
  let s := s.bump64 CPH_LCNT_BYTES_HI CPH_LCNT_BYTES_LO [l] (jobBytes (s.berthProfile j.berth) j.protect d.len d.medium)
  s.bump (if j.item.r.sched then CPH_CNT_JOBS_SCHED_CNT else CPH_CNT_JOBS_UNSCHED_CNT) []

/-- A finished job's continuation waits for the earlier jobs of its berth. -/
def State.queueDone (s : State) (j : CphJob) (bytes : List Nat) (authOk : Bool) : State :=
  let s := s.setCph { s.cph with done := s.cph.done ++ [{
    job := j, bytes := bytes, medium := j.item.r.d.medium, authOk := authOk, scheduled := j.item.r.sched }] }
  (s.jobGone j).cphProceed

/-- A job ends without a continuation; a provisional one ends as a failed one. -/
def State.jobNoOut (s : State) (j : CphJob) (out : Option Nat) (count : Bool) : State :=
  let s := match out with | some f => s.cutFail j f count | none => s
  (s.jobGone j).cphProceed

/-- The receive freshness update of a plane that has accepted the provisional continuation at step 5 of Table 7-3, now that its tag has checked
(R257, R495). A plane that has still to decide it updates FRESH as it does. -/
def State.raiseFresh (s : State) (x : Nat) (j : CphJob) (seq : Option Nat) : State :=
  match (s.plane x).history.find? (fun r => some r.seq == seq) with
  | some r =>
    if r.berthValid && !(r.reason == 7 && (r.drop == 6 || r.drop == 7 || r.drop == 8)) then
      let t := s.rtOf x j.berth
      s.setRtOf x j.berth { t with fresh := max t.fresh j.fv }
    else s
  | none => s

/-- The last output cells of a provisional continuation are written after the tag has checked (R494), and FRESH is updated (R495). -/
def State.cutPass (s : State) (j : CphJob) (f : Nat) (bytes : List Nat) : State :=
  match s.frame? f with
  | none => (s.jobGone j).cphProceed
  | some o =>
    let rest := bytes.drop o.len
    let p := s.landFrame 67 (some f) rest
    let s := p.1
    let s := if p.2.isSome then s.announce f else s.frameBad f
    let s := [0, 1].foldl (fun s x => if s.inService x then s.raiseFresh x j o.seq else s) s
    (s.jobGone j).cphProceed

/-- A traffic job finishes in its lane. A source found bad under R227 issues nothing, and its provisional continuation is bad with it (DESIGN
CHOICE, log 22). -/
def State.finishTraffic (s : State) (l : Nat) (j : CphJob) (key attr : List Nat) (gen : Nat) (out : Option Nat) : State :=
  let p := s.berthProfile j.berth
  let d := j.item.r.d
  let bs := s.frameBytes j.item.frame
  let zeros := zeroBytes (openLen p bs d.medium)
  match s.badCellsOf j.item.frame with
  | c :: _ =>
    let s := if s.rebuildable j.item.frame then s.askRebuild 67 j.item else s
    ((s.cellCrc j.item.frame c).laneFree l).jobNoOut j out false
  | [] =>
    if (match s.frame? j.item.frame with | some o => o.bad | none => true) then
      let s := match out with | some f => (s.laneFree l).frameBad f | none => s.laneFree l
      (s.jobGone j).cphProceed
    else
    let s := s.jobCounted l j
    if !s.keyStands (s.berthKey j.berth) gen then
      let s := (s.bump CPH_CNT_ORPHANED_CNT []).irq pgCPH 3
      let s := s.setLane l { s.lane l with keyReg := none }
      if j.protect || out.isSome then s.jobNoOut j out true else s.queueDone j zeros false
    else if j.protect then
      match protectFrame p key attr bs d.medium j.fv with
      | some bytes => s.queueDone j bytes false
      | none => (s.bump CPH_CNT_FMT_DROP_CNT []).jobNoOut j out false
    else
      match openFrame p key attr bs d.medium j.fv, out with
      | some bytes, some f => s.cutPass j f bytes
      | some bytes, none => s.queueDone j bytes true
      | none, some f => s.jobNoOut j (some f) true
      | none, none => ((s.bump CPH_CNT_TAG_FAIL_CNT []).irq pgCPH 0).queueDone j zeros false

/-- CIPHER_JOB_FINISH: the traffic job of lane l finishes; its frame is complete and its release slot has not come. -/
def execCipherJobFinish (l : Nat) (s : State) : Result :=
  onLogicIf s (decide (l < 4)) fun s =>
    match (s.lane l).job with
    | some (.traffic j key attr gen out) =>
      if !s.frameComplete j.item.frame || s.releaseSlot j < s.count then s
      else if (s.lane l).cmpBad then s.compareFail l
      else s.finishTraffic l j key attr gen out
    | _ => s

/-- COMPARE_FAIL: the two results of a block differ in lane l (R506). -/
def execCompareFail (l : Nat) (s : State) : Result := onLogicIf s (decide (l < 4)) fun s => s.compareFail l

/-- CIPHER_RELEASE_SLOT: the traffic job of lane l still runs at its release slot (R512). -/
def execCipherReleaseSlot (l : Nat) (s : State) : Result :=
  onLogicIf s (decide (l < 4)) fun s =>
    match (s.lane l).job with
    | some (.traffic j _ _ _ out) => if s.releaseSlot j ≤ s.count then (s.laneFree l).jobLate j out else s
    | _ => s

/-! ### Host jobs (R513, R514) -/

/-- Bytes of a lane's register array. -/
def State.laneBytes (s : State) (f : Fld) (l n : Nat) : List Nat := (List.range n).flatMap fun i => leBytes 4 (s.rd f [l, i])

/-- A GO write copies the job registers into the lane's host job queue of 16 entries; while it is full the write is ignored. -/
def State.cphGo (s : State) (l tag : Nat) : State :=
  let x := s.lane l
  if 16 ≤ x.queue.length then s.wr CPH_LSTAT_CMD_REJECT [l] 1
  else
    let j : HostJob := {
      op := s.rd CPH_JOB_CFG_OP [l], mode := s.rd CPH_JOB_CFG_MODE [l], intake := s.on CPH_JOB_CFG_KEY_SRC [l]
      tagLen := s.rd CPH_JOB_CFG_TAG_LEN [l], slot := s.rd CPH_JOB_CFG_KEY_SLOT [l], len := s.rd CPH_JOB_LEN_LEN [l]
      aad := s.rd CPH_JOB_AAD_AAD [l], src := s.rd CPH_JOB_SRC_HI [l] * 2 ^ 32 + s.rd CPH_JOB_SRC_LO [l]
      dst := s.rd CPH_JOB_DST_HI [l] * 2 ^ 32 + s.rd CPH_JOB_DST_LO [l], iv := s.laneBytes CPH_JOB_IV l 4
      tagIn := s.laneBytes CPH_JOB_TAGIN l 4, tag := tag, at_ := s.now }
    s.setLane l { x with queue := x.queue ++ [j] }

/-- A GO write with the operation that CPH_JOB_CFG.OP names. -/
def cphRow (op l tag : Nat) (s : State) : Result :=
  onLogicIf s (decide (l < 4 ∧ tag < 256) && s.rd CPH_JOB_CFG_OP [l] == op) fun s => s.cphGo l tag

/-- ENC: a GO write on lane l with OP ENC. -/
def execEnc (l tag : Nat) (s : State) : Result := cphRow 1 l tag s
/-- DEC. -/
def execDec (l tag : Nat) (s : State) : Result := cphRow 2 l tag s
/-- MAC. -/
def execMac (l tag : Nat) (s : State) : Result := cphRow 3 l tag s
/-- CMAC_VERIFY: a GO write with OP VERIFY. -/
def execCmacVerify (l tag : Nat) (s : State) : Result := cphRow 4 l tag s

/-- The random IV of an encryption: 128 bits for CBC and CFB, 96 bits for CTR, with its counter of 0, and for GCM. -/
def State.drawIv (s : State) (j : HostJob) : State × List Nat :=
  if j.op != 1 then (s, if j.mode = 4 then j.iv.take 12 else j.iv)
  else if j.mode = 1 ∨ j.mode = 2 then s.random 16
  else
    let p := s.random 12
    (p.1, if j.mode = 3 then p.2 ++ zeroBytes 4 else p.2)

/-- A host job has read its AAD and data and ends. -/
def State.finishHost (s : State) (l : Nat) (j : HostJob) (key src : List Nat) : State :=
  let s := s.bump64 CPH_LCNT_BYTES_HI CPH_LCNT_BYTES_LO [l] (j.aad + j.len)
  let s := (s.setLane l { s.lane l with job := none }).bump CPH_LCNT_JOBS_CNT [l]
  let res (s : State) (status : Nat) (iv mac : List Nat) : State := s.pushRes l { status := status, tag := j.tag, iv := iv, mac := mac }
  if j.op = 3 then res s 0 [] ((aesCmac key src).take j.tagLen)
  else if j.op = 4 then
    let mac := (aesCmac key src).take j.tagLen
    res s (if mac = j.tagIn.take j.tagLen then 0 else 1) [] mac
  else
    let v := s.drawIv j
    let s := v.1
    let o := hostCrypt j key v.2 (src.take j.aad) (src.drop j.aad)
    let mac := o.2.take j.tagLen
    if j.op = 2 ∧ j.mode = 4 ∧ mac ≠ j.tagIn.take j.tagLen then res (s.zeroDst j) 1 [] mac
    else res (s.out (.hostWrite j.dst o.1)) 0 (if j.op = 1 then v.2 else []) mac

/-- HOST_JOB_COMPLETE: the host job of lane l ends: with the AAD and data read, or with a host bridge error. -/
def execHostJobComplete (l : Nat) (data : Option (List Nat)) (s : State) : Result :=
  onLogicIf s (decide (l < 4)) fun s =>
    match (s.lane l).job with
    | some (.host j key _ gen) =>
      match data with
      | none => s.dmaReadErr.hostErr l j
      | some src =>
        if src.length != j.aad + j.len then s
        else if (s.lane l).cmpBad then s.compareFail l
        else if !j.intake && !s.keyStands j.slot gen then
          let s := (s.bump CPH_CNT_ORPHANED_CNT []).irq pgCPH 3
          (s.setLane l { s.lane l with keyReg := none }).hostEnd l j 2
        else if !s.hostReachable && (j.op == 1 || j.op == 2) then
          s.hostErr l j
        else s.finishHost l j key src
    | _ => s

/-! ### Intake keys and results (R503, R55) -/

/-- CPH_KEY_CTRL.LOAD on lane l (R503). -/
def State.laneLoad (s : State) (l : Nat) (key256 custody : Bool) : State :=
  let key := s.laneBytes CPH_KEY_IN l (if key256 then 8 else 4)
  let s := s.setLane l { s.lane l with intake := some (key, custody) }
  (List.range 8).foldl (fun s i => s.wr CPH_KEY_IN [l, i] 0) s

/-- CPH_KEY_CTRL.CLEAR on lane l. -/
def State.laneClear (s : State) (l : Nat) : State := s.setLane l { s.lane l with intake := none }

/-- KEY_LOAD: CPH_KEY_CTRL.LOAD with KEY256 and CUSTODY. -/
def execKeyLoad (l : Nat) (key256 custody : Bool) (s : State) : Result := onLogicIf s (decide (l < 4)) fun s => s.laneLoad l key256 custody

/-- KEY_CLEAR: CPH_KEY_CTRL.CLEAR. -/
def execKeyClear (l : Nat) (s : State) : Result := onLogicIf s (decide (l < 4)) fun s => s.laneClear l

/-- Write 16 bytes into a register array of a lane. -/
def State.putLane (s : State) (f : Fld) (l : Nat) (bs : List Nat) : State :=
  (List.range 4).foldl (fun s i => s.wr f [l, i] (ofLe ((bs.drop (4 * i)).take 4))) s

/-- CPH_RES_POP (R55): what the spec states no value for, of an entry or of a marker, is free. -/
def execCphResPop (l : Nat) (s : State) : Result :=
  onLogicIf s (decide (l < 4)) fun s =>
    let x := s.lane l
    let p := x.results.pop
    let s := s.setLane l { x with results := p.2 }
    match p.1 with
    | .empty => s.wr CPH_RES_HEAD_VALID [l] 0
    | .item r =>
      let s := ((((s.wr CPH_RES_HEAD_VALID [l] 1).wr CPH_RES_HEAD_GAP [l] 0).wr CPH_RES_HEAD_STATUS [l] r.status).wr CPH_RES_HEAD_TAG [l]
        r.tag).wrFree CPH_RES_HEAD_COUNT [l]
      let p := s.random 32
      (p.1.putLane CPH_RES_IV l (r.iv ++ p.2)).putLane CPH_RES_TAG l (r.mac ++ p.2.drop 16)
    | .marker g =>
      let s := (((s.wr CPH_RES_HEAD_VALID [l] 1).wr CPH_RES_HEAD_GAP [l] 1).wr CPH_RES_HEAD_COUNT [l] g.count).wrFree CPH_RES_HEAD_STATUS [l]
      let p := (s.wrFree CPH_RES_HEAD_TAG [l]).random 32
      (p.1.putLane CPH_RES_IV l p.2).putLane CPH_RES_TAG l (p.2.drop 16)

end Sys2Proof.Machine
end

