-- ==== Sys2Proof/Machine/Sleep.lean ====
section
/-! DEFINITION. The commands of sleep and wake: PWK commands, TC10, commit points, pins, timer and the wake record (chapter 17). -/

namespace Sys2Proof.Machine

/-- Something happens at the PWK block, which is served in every mode but OFF (R76). -/
def onPwk (s : State) (c : Bool) (f : State → State) : Result := if s.mode != .off && c then .next (f s) else .next s

/-- Reject a PWK command. -/
def State.pwkReject (s : State) : State := s.wr PWK_STATUS_CMD_REJECT [] 1

/-- KIND of a command's wake by its master (Table 17-4). -/
def commandKind (m : Master) : Nat := match m with | .mgp => 2 | .host => 3

/-! ### Sleep requests -/

/-- PWK_CMD SLEEP: the entry of both regions (R613). -/
def execPwkSleep (s : State) : Result :=
  onPwk s true fun s =>
    if s.mode = .run ∨ s.mode = .entering then
      ((({ s with mode := PkgMode.entering } : State).wr PWK_STATUS_ENTERING [] 1).regionSleep 0).regionSleep 1
    else s.pwkReject

/-- PWK_CMD SLEEP_NORTH (R612). -/
def execSleepNorth (s : State) : Result :=
  onPwk s true fun s => if s.mode = .run ∨ s.mode = .entering then s.regionSleep 0 else s.pwkReject

/-- PWK_CMD SLEEP_SOUTH (R612). -/
def execSleepSouth (s : State) : Result :=
  onPwk s true fun s => if s.mode = .run ∨ s.mode = .entering then s.regionSleep 1 else s.pwkReject

/-- PWK_SEG_CMD SLEEP (R604). -/
def execSegSleep (q : Nat) (s : State) : Result :=
  onPwk s true fun s => if q < 56 ∧ s.segment q = 0 then s.sleepRequest q else s.pwkReject

/-- TC10_SLEEP_REQUEST: the partner of a T1 quay requests sleep: accepted, or rejected as TC10 prescribes (R607). -/
def execTc10SleepRequest (q : Nat) (s : State) : Result :=
  onLogicIf s (isT1Q q && s.segment q == 0) fun s =>
    if bitOf (s.rd PWK_TC10_ACCEPT []) (q - 48) = 1 then
      let s := (s.sleepRequest q).out (.segment q 3)
      s.setSeg q { s.seg q with tc10Ack := true }
    else s.out (.segment q 4)

/-- A TC10 sleep request of ours fails (Table 17-2). -/
def State.tc10Fail (s : State) (q : Nat) : State :=
  (((s.setSegment q 0).bump PWK_CNT_SLEEP_FAIL_CNT []).irq pgPWK 2).entryFails (regionOf q)

/-- TC10_SLEEP_ACK: the partner acknowledges the sleep request or rejects it (R606, Table 17-2). -/
def execTc10SleepAck (q : Nat) (accepted : Bool) (s : State) : Result :=
  onLogicIf s (isT1Q q && s.segment q == 1) fun s =>
    if accepted then s.setSeg q { s.seg q with tc10Ack := true } else s.tc10Fail q

/-- TC10_SLEEP_TIMEOUT: no acknowledgement within TMO_MS (Table 17-2). -/
def execTc10SleepTimeout (q : Nat) (s : State) : Result :=
  onLogicIf s (isT1Q q && s.segment q == 1 && !(s.seg q).tc10Ack && decide ((s.seg q).tc10At + s.rd PWK_TC10_TMO_MS [] * msNs ≤ s.now))
    fun s => s.tc10Fail q

/-- FALSE_WAKE_TIMEOUT: no valid frame within FW_MS after a wake (R611). -/
def execFalseWakeTimeout (q : Nat) (s : State) : Result :=
  onPwk s (q < 56 && s.segment q == 0 && s.rd PWK_FW_MS [] != 0 && s.quayMaskBit PWK_FW_MASK_LO_MASK PWK_FW_MASK_HI_MASK q
      && (match (s.seg q).fwFrom with | some t => decide (t + s.rd PWK_FW_MS [] * msNs ≤ s.now) | none => false)) fun s =>
    (((s.sleepRequest q).bump PWK_CNT_FALSE_WAKE_CNT []).irq pgPWK 3)

/-! ### Commit points -/

/-- SEGMENT_COMMIT_POINT (R606). -/
def execSegmentCommitPoint (q : Nat) (s : State) : Result :=
  onLogicIf s (q < 56 && s.segment q == 1 && s.drained q) fun s => s.segmentCommit q

/-- DWELL_END: DWELL_MS have passed (Table 17-2). -/
def execDwellEnd (q : Nat) (s : State) : Result :=
  onPwk s (q < 56 && s.segment q == 2 && decide ((s.seg q).sleptAt + s.dwellNs ≤ s.now)) fun s =>
    if (s.seg q).held then
      let s := s.bump PWK_CNT_LATE_WAKE_CNT []
      if s.mode = .sleep then (s.setSegment q 3).wakePackage [q] else s.startWaking q (s.seg q).fromPartner
    else (s.setSegment q 3).irq pgPWK 6

/-- SEGMENT_AWAKE: the waking quay's MODE is applied: isolation ends and the false-wake timer starts (Table 17-2, R611). The region's entry, if one
runs, ends unsuccessfully (R612). -/
def execSegmentAwake (q : Nat) (s : State) : Result :=
  onLogicIf s (q < 56 && s.segment q == 4 && !(s.quay q).resume) fun s =>
    let timed := s.quayMaskBit PWK_FW_MASK_LO_MASK PWK_FW_MASK_HI_MASK q && s.rd PWK_FW_MS [] != 0
    let s := (s.setSegment q 0).setSeg q { s.seg q with fwFrom := if timed then some s.now else none }
    if s.regionState (regionOf q) = 1 then s.entryFails (regionOf q) else s

/-- SLEEP_ABORT: a wake recognised by the front end of a DRAINING segment returns it to AWAKE (R608). -/
def execSleepAbort (q lfeKind : Nat) (ident : Option Nat) (s : State) : Result :=
  onLogicIf s (q < 56 && s.segment q == 1) fun s => s.frontWake q lfeKind ident

/-- The blocks of a sleeping region lose their state: as by a region reset, but for the wake detectors (R612). -/
def State.regionLose (s : State) (r : Nat) : State :=
  (regionClusters r).foldl (fun s k => s.bankLose k) ((regionQuays r).foldl (fun s q => s.quayReset q) s)

/-- REGION_COMMIT_POINT: every segment of the region is in DWELL or ASLEEP (R612). -/
def execRegionCommitPoint (r : Nat) (s : State) : Result :=
  onLogicIf s (r ≤ 1 && s.regionState r == 1 && (regionSegments r).all fun q => s.segment q == 2 || s.segment q == 3) fun s =>
    let s := (s.setRegion r 2).regionLose r
    s.setPwk (if r = 0 then { s.pwk with northAt := s.now } else { s.pwk with southAt := s.now })

/-- Whether no retained write is in progress or queued (R613). -/
def State.retIdle (s : State) : Bool := s.ret.active.isNone && s.ret.queue.isEmpty && s.ret.refused.isEmpty && s.sup.history.isEmpty
  && !s.sup.repairDirty

/-- PACKAGE_COMMIT_POINT: both regions are past their commit points and no retained write runs (R613, R620). -/
def execPackageCommitPoint (s : State) : Result :=
  onLogicIf s (s.mode == .entering && s.regionState 0 == 2 && s.regionState 1 == 2 && s.retIdle) fun s =>
    let s := ({ s with mode := PkgMode.sleep } : State)
    let s := ((s.wr PWK_STATUS_ENTERING [] 0).wr DEV_STATUS_MODE [] 2).wr DEV_STATUS_LOGIC_UP [] 0
    let s := (s.wr DEV_STATUS_RESTORE_DONE [] 0).setB PWK_STATUS_INH [] (!s.on PWK_CTRL_INH_SLEEP [])
    let s := (List.range 32).foldl (fun s n => s.wr HBR_SEM_OWNER [n] 0) ({ s with hbr := { s.hbr with semAt := [] } } : State)
    s.setPwk { s.pwk with pkgAt := s.now, pkgWake := false, pkgSegs := [], pkgRec := none, powered := false, coreEn := false }

/-- PACKAGE_DWELL_END: the package dwell has passed with a wake held (R601). -/
def execPackageDwellEnd (s : State) : Result :=
  onPwk s (s.mode == .sleep && s.pwk.pkgWake && decide (s.pwk.pkgAt + s.dwellNs ≤ s.now)) fun s => s.packageUp

/-! ### Wakes -/

/-- Whether the package is in its dwell: a wake is held (R601). -/
def State.pkgHeld (s : State) : Bool := s.mode == .sleep && decide (s.now < s.pwk.pkgAt + s.dwellNs)

/-- A wake of the package with its record. -/
def State.packageWake (s : State) (w : WakeRec) : State :=
  let since := s.packageSince
  let asleep := s.mode = .sleep
  let s := s.recordWake { w with late := s.pkgHeld } since
  let s := s.wakePackage []
  if asleep then s.setPwk { s.pwk with pkgRec := some { w with late := true } } else s

/-- PWK_CMD WAKE by a master (R613). -/
def execPwkWake (m : Master) (s : State) : Result :=
  onPwk s true fun s => s.packageWake { kind := commandKind m, src := 0x3F }

/-- A wake of a region: every segment of it wakes; a command powers it, a pin's event does as a segment enters WAKING; the package wakes if it
sleeps (R614, R619). -/
def State.regionWake (s : State) (r : Nat) (w : WakeRec) : State :=
  let since := s.regionSince r
  let asleep := s.mode = .sleep
  let s := s.wakeMany (regionSegments r) w since
  if asleep then (s.wakePackage []).setPwk { (s.wakePackage []).pwk with pkgRec := some { w with late := true } }
  else
    let s := s.entryStop
    if s.regionState r = 2 ∧ (w.kind = 2 ∨ w.kind = 3) then s.regionPower r else s

/-- PWK_CMD WAKE_NORTH by a master (R614). -/
def execWakeNorth (m : Master) (s : State) : Result :=
  onPwk s true fun s => s.regionWake 0 { kind := commandKind m, src := 0x3F }

/-- PWK_CMD WAKE_SOUTH by a master (R614). -/
def execWakeSouth (m : Master) (s : State) : Result :=
  onPwk s true fun s => s.regionWake 1 { kind := commandKind m, src := 0x3F }

/-- PWK_SEG_CMD WAKE by a master (R604). -/
def execSegWake (q : Nat) (m : Master) (s : State) : Result :=
  onPwk s true fun s =>
    if q < 56 ∧ 1 ≤ s.segment q ∧ s.segment q ≤ 3 then s.wakeOne q { kind := commandKind m, src := q } 2 false else s.pwkReject

/-- WAKE_PIN_EVENT: a WAKE pin has held a new level for FILT (R619). -/
def execWakePinEvent (n level : Nat) (s : State) : Result :=
  onPwk s (n < 4 && level ≤ 1) fun s =>
    let pins := s.rd PWK_STATUS_PINS []
    let s := s.wr PWK_STATUS_PINS [] (if level = 1 then setBitOf pins n else clearBitOf pins n)
    if bitOf pins n != level && s.on PWK_PIN_CFG_EN [n] && bitOf (s.rd PWK_PIN_CFG_EDGE [n]) (1 - level) == 1 then
      let s := s.irq pgPWK 4
      let w : WakeRec := { kind := 1, src := n }
      match s.rd PWK_PIN_CFG_TARGET [n] with
      | 0 => s.packageWake w
      | 1 => s.regionWake 0 w
      | 2 => s.regionWake 1 w
      | _ => s.recordWake w none
    else s

/-- SLEEP_TIMER_EXPIRY: PWK_TIMER.MS after the package commit point (R621). -/
def execSleepTimerExpiry (s : State) : Result :=
  onPwk s (s.mode == .sleep && s.rd PWK_TIMER_MS [] != 0 && decide (s.pwk.pkgAt + s.rd PWK_TIMER_MS [] * msNs ≤ s.now)) fun s =>
    s.packageWake { kind := 4, src := 0x3F }

/-- What a pop of the wake record queue gives, in the result registers (R617, R637). -/
def State.showWake (s : State) (p : Popped WakeRec) : State :=
  match p with
  | .empty => s.wr PWK_WAKE_RES0_FLAGS [] 0
  | .marker g =>
    let s := s.wr PWK_WAKE_RES0_FLAGS [] (64 + 32 + (if g.split then 16 else 0) + (if g.sat then 8 else 0))
    let s := ((s.wr PWK_WAKE_RES1_ID_VALID [] 0).wr PWK_WAKE_RES1_ID [] g.count)
    let s := ((s.wr PWK_WAKE_RES3_NS [] (stampNs g.time)).wr PWK_WAKE_RES4_S [] (stampS g.time % 2 ^ 32))
    (((s.wrFree PWK_WAKE_RES0_KIND []).wrFree PWK_WAKE_RES0_LFE_KIND []).wrFree PWK_WAKE_RES0_SRC []).wrFree PWK_WAKE_RES2_SLEEP_MS []
  | .item w =>
    let s := s.wr PWK_WAKE_RES0_FLAGS [] (64 + (if w.late then 4 else 0) + (if w.abort then 2 else 0) + (if w.time.isNone then 1 else 0))
    let s := ((s.wr PWK_WAKE_RES0_KIND [] w.kind).wr PWK_WAKE_RES0_LFE_KIND [] w.lfeKind).wr PWK_WAKE_RES0_SRC [] w.src
    let s := ((s.setB PWK_WAKE_RES1_ID_VALID [] w.ident.isSome).wr PWK_WAKE_RES1_ID [] (w.ident.getD 0)).wr PWK_WAKE_RES2_SLEEP_MS [] w.sleepMs
    match w.time with
    | some t => (s.wr PWK_WAKE_RES3_NS [] (stampNs t)).wr PWK_WAKE_RES4_S [] (stampS t % 2 ^ 32)
    | none => (s.wrFree PWK_WAKE_RES3_NS []).wrFree PWK_WAKE_RES4_S []

/-- PWK_WAKE_POP (R617, R637). -/
def execPwkWakePop (s : State) : Result :=
  onPwk s true fun s =>
    let p := s.pwk.wakes.pop
    ((s.setPwk { s.pwk with wakes := p.2 }).wakeCond).showWake p.1

/-- A pop of the wake record queue meets an uncorrected word (Table 17-14, code 0x02). -/
def State.popWakeBad (s : State) : State :=
  if s.pwk.wakes.items.isEmpty then s
  else
    let p := s.pwk.wakes.popBad s.stamp
    (((s.setPwk { s.pwk with wakes := p.2.1 }).wakeCond).errU pgPWK 0x02 1).showWake p.1

end Sys2Proof.Machine
end

