-- ==== Sys2Proof/Machine/Log.lean ====
section
/-! DEFINITION. The log recorder: reports, records, summaries, output and sealing (chapter 13). -/

namespace Sys2Proof.Machine

/-! ### Records (R464–R471, Tables 13-1 to 13-5) -/

/-- Whether a port's switch of LOG_QCFG takes a report (Table 13-1). -/
def State.logTakes (s : State) (e : LogEvent) : Bool :=
  match e with
  | .frame f =>
    if 64 < f.port then false
    else if f.tx then f.port != 64 && s.on LOG_QCFG_TX_EN [f.port]
    else if f.status = 7 then true
    else if f.status = 0 ∨ (f.status = 1 ∧ f.detail = 0x10) then s.on LOG_QCFG_RX_EN [f.port]
    else s.on LOG_QCFG_DROP_EN [f.port]
  | .canError port _ _ _ _ _ _ _ _ => s.on LOG_QCFG_EVT_EN [port]
  | .event code port _ _ _ _ _ => code == 1 || code == 2 || code == 5 || 64 < port || s.on LOG_QCFG_EVT_EN [port]
  | .mark _ _ _ _ => true

/-- Whether a report's record can be built: the frame it copies is complete (R470). -/
def State.logReady (s : State) (e : LogEvent) : Bool :=
  match e with
  | .frame f => (match f.frame with | some k => s.frameComplete k || (s.frame? k).isNone | none => true)
  | _ => true

/-- Port and direction of a report, whose records leave in order (R467). -/
def LogEvent.lane : LogEvent → Option (Nat × Bool)
  | .frame f => some (f.port, f.tx)
  | _ => none

/-- The place of the oldest report that is ready and overtakes none of its port and direction. -/
def State.nextReport (s : State) (l : List LogEvent) : Option Nat :=
  l.zipIdx.findSome? fun p =>
    if s.logReady p.1 && !((l.take p.2).any fun e => e.lane.isSome && e.lane == p.1.lane) then some p.2 else none

/-- Bytes that a frame record captures (R470). -/
def State.capLen (s : State) (port len : Nat) : Nat := if port < 32 then len else min len (32 * (s.rd LOG_QCFG_DEPTH [port] + 1))

/-- The bytes of a frame up to a failing cell, and that cell (R471). -/
def copyCells (m : Mem) (bad : List Nat) : List (Nat × Nat) → Nat → List Nat × Option Nat
  | [], _ => ([], none)
  | c :: cs, n =>
    if n = 0 then ([], none)
    else if bad.contains c.1 then ([], some c.1)
    else
      let r := copyCells m bad cs (n - min n c.2)
      (Mem.bytes m (256 * c.1) (min n c.2) ++ r.1, r.2)

/-- The body of a frame record (Table 13-2). -/
def frameBody (f : FrameLog) (crc : Bool) (data : List Nat) : List Nat :=
  [f.port, flagByte [f.tx, f.bad, f.cut, decide (data.length < f.len), f.zeroed, crc, false, false]]
    ++ beBytes 2 f.len ++ [f.status, f.detail] ++ beBytes 2 data.length
    ++ beBytes 2 ((if f.berthValid then 2 ^ 15 else 0) + f.berth % 2 ^ 14) ++ [if f.tx then f.queue else 0, 0] ++ beBytes 4 f.seq
    ++ data ++ zeroBytes ((4 - data.length % 4) % 4)

/-- The record of a frame report: its bytes are copied from the frame's cells, where it still has any. -/
def State.frameRecord (s : State) (f : FrameLog) : State × LogRec :=
  let n := s.capLen f.port f.len
  let r : List Nat × Option Nat :=
    if f.status = 7 then ([], none)
    else match f.frame with
      | some k => (match s.frame? k with
        | some o => copyCells s.cst.mem s.cst.badCells o.cells n
        | none => ([], none))
      | none => (f.data.take n, none)
  let s := match f.frame, r.2 with
    | some k, some c => s.cellCrc k c
    | _, _ => s
  let s := match f.frame with | some k => s.release k (.reader 65) | none => s
  let stamped := f.status != 4 && f.status != 5
  (s, { ty := 2, port := f.port, tx := f.tx, status := f.status, stamp := f.stamp, fb := stamped && s.stampOnFb f.port f.stamp
        body := frameBody f r.2.isSome r.1, medium := f.medium, data := r.1 })

/-- An event record (Table 13-4). -/
def eventRecord (code port arg0 arg1 arg2 arg3 stamp : Nat) : LogRec :=
  { ty := 4, port := port, stamp := stamp
    body := [code, port, 0, 0] ++ beBytes 4 arg0 ++ beBytes 4 arg1 ++ beBytes 4 arg2 ++ beBytes 4 arg3 }

/-- The record of a report. -/
def State.recordOf (s : State) (e : LogEvent) : State × LogRec :=
  match e with
  | .frame f => s.frameRecord f
  | .canError port sent lec fc tec rec bitpos ident stamp =>
    (s, { ty := 3, port := port, stamp := stamp, fb := s.stampOnFb port stamp
          body := [port, if sent then 0x80 else 0, lec, fc, min tec 255, rec] ++ beBytes 2 bitpos ++ beBytes 4 ident })
  | .event code port a b c d stamp => (s, eventRecord code port a b c d stamp)
  | .mark code stroke seq stamp => (s, { ty := 5, port := 0xFF, stamp := stamp, body := beBytes 4 code ++ beBytes 4 stroke ++ beBytes 4 seq })

/-! ### The buffer and the summaries (R479–R481) -/

/-- Event, mark, summary and seal records may use the control reserve. -/
def LogRec.control (r : LogRec) : Bool := r.ty != 2 && r.ty != 3

/-- Fold a record into its port's summary accumulator (R480). -/
def State.fold (s : State) (r : LogRec) : State :=
  let len := if r.ty = 2 then be r.body 2 2 else 0
  let bit := if r.ty != 2 then 0 else if r.tx then 2 else if r.status = 0 then 1 else 4
  let x : LogSum :=
    match SMap.find? s.lgr.sums r.port with
    | some x => { x with dirs := x.dirs ||| bit, count := x.count + 1, notOk := x.notOk + (if r.status = 0 then 0 else 1), bytes := x.bytes + len, last := r.stamp }
    | none => { dirs := bit, count := 1, notOk := if r.status = 0 then 0 else 1, bytes := len, first := r.stamp, last := r.stamp }
  ((s.setLog { s.lgr with sums := SMap.insert s.lgr.sums r.port x }).bump LOG_CNT_FOLDED_CNT []).viewLog

/-- Queue a record, fold it, or lose it (R473, R479, R480). -/
def State.enqueueLog (s : State) (r : LogRec) : State :=
  let level := s.logLevel
  if r.control then
    if logBuffer < level + r.size then ((s.bump LOG_CNT_LOST_CNT []).irq pgLOG 3)
    else (s.setLog { s.lgr with buf := s.lgr.buf ++ [r] }).viewLog
  else if (SMap.find? s.lgr.sums r.port).isSome || s.rd LOG_WM_HIGH_KIB [] * 1024 ≤ level || s.rd LOG_CTRL_OUT [] == 0 || logBuffer < level + r.size then
    s.fold r
  else (s.setLog { s.lgr with buf := s.lgr.buf ++ [r] }).viewLog

/-- A summary record (Table 13-4). -/
def summaryRecord (port : Nat) (x : LogSum) : LogRec :=
  { ty := 6, port := port, stamp := x.last
    body := [port, x.dirs, 0, 0] ++ beBytes 4 (x.count % 2 ^ 32) ++ beBytes 4 (x.notOk % 2 ^ 32) ++ beBytes 8 x.bytes
      ++ beBytes 6 (stampS x.first) ++ beBytes 4 (stampNs x.first) ++ beBytes 2 (stampFr x.first) }

/-- Write one summary for each port in summary mode; the ports leave it. -/
def State.summaries (s : State) : State :=
  let sums := s.lgr.sums
  let s := s.setLog { s.lgr with sums := [] }
  (List.foldl (fun (s : State) (p : Nat × LogSum) => s.enqueueLog (summaryRecord p.1 p.2)) s sums).viewLog

/-- A wake that ended SLEEP is recorded when the recorder first runs (R469). -/
def State.logSleepWake (s : State) : State :=
  match s.pwk.pkgRec with
  | none => s
  | some w =>
    let s := s.setPwk { s.pwk with pkgRec := none }
    let port := if w.src < 64 ∧ w.src ≠ 0x3F then w.src else 0xFF
    if port != 0xFF && !s.on LOG_QCFG_EVT_EN [port] then s
    else s.enqueueLog (eventRecord 4 port (if w.kind = 0 then w.lfeKind else 8) (w.ident.getD 0) 0 1 s.stamp)

/-- Process one report: its record is queued or folded, unless its port's switch does not take it. -/
def State.takeReport (s : State) (e : LogEvent) (fold : Bool) : State :=
  if s.on PG_STATE_ENABLED [pgLOG] && s.logTakes e then
    let p := s.recordOf e
    if fold && !p.2.control then p.1.fold p.2 else p.1.enqueueLog p.2
  else match e with
    | .frame f => (match f.frame with | some k => s.release k (.reader 65) | none => s)
    | _ => s

/-- LOG_RECORD_REPORT: the oldest report that is ready becomes a record. -/
def execLogRecordReport (s : State) : Result :=
  onLogic s fun s =>
    let s := if s.on PG_STATE_ENABLED [pgLOG] then s.logSleepWake else s
    match s.nextReport s.logLines with
    | none => s
    | some n =>
      match s.logLines[n]? with
      | none => s
      | some e => ({ s with logLines := s.logLines.eraseIdx n } : State).takeReport e false

/-- At the end of a stroke, a report neither queued nor folded is folded (R481). -/
def State.foldReports (s : State) : State :=
  let l := s.logLines
  List.foldl (fun (s : State) (e : LogEvent) => s.takeReport e true) ({ s with logLines := [] } : State) l

/-- SUMMARY_WRITE: the level has fallen below LOW. -/
def execSummaryWrite (s : State) : Result :=
  onLogicIf s (s.on PG_STATE_ENABLED [pgLOG] && s.lgr.sums.length != 0 && decide (s.logLevel < s.rd LOG_WM_LOW_KIB [] * 1024)) State.summaries

/-- LOG_CMD FLUSH (R480). -/
def State.logFlush (s : State) : State := if s.lgr.sums.length = 0 then s else s.summaries

/-- LOG_FLUSH. -/
def execLogFlush (s : State) : Result := onLogicIf s (s.on PG_STATE_ENABLED [pgLOG]) State.logFlush

/-! ### Output (R473–R478) -/

/-- Write bytes into the host ring, wrapping at its end; LOG_RING_WP advances (R475). -/
def State.ringWrite (s : State) (bs : List Nat) : State :=
  let size := 2 ^ s.rd LOG_RING_SIZE_SIZE []
  let base := s.rd LOG_RING_BASE_HI_ADDR [] * 2 ^ 32 + s.rd LOG_RING_BASE_LO_ADDR [] * 2 ^ 12
  let wp := s.rd LOG_RING_WP_WP []
  let room := size - wp % size
  let s := s.out (.hostWrite (base + wp % size) (bs.take room))
  let s := if room < bs.length then s.out (.hostWrite base (bs.drop room)) else s
  s.wr LOG_RING_WP_WP [] ((wp + bs.length) % 2 ^ 32)

/-- The DATA interrupt: what is in the ring is announced (R476). -/
def State.logAnnounce (s : State) : State :=
  (s.setLog { s.lgr with fresh := 0, freshAt := none, unitOpen := false }).irq pgLOG 0

/-- The frame packed so far is sent on the output quay (R477). -/
def State.sendLogFrame (s : State) : State :=
  if s.lgr.frame.isEmpty then s
  else
    let q := s.rd LOG_OUT_Q_QUAY []
    let i := s.rd LOG_OUT_Q_QUEUE []
    let etype := if s.on LOG_CTRL_FORMAT [] then 0x99FE else s.rd SGW_DARAST_ETYPE_ETYPE []
    let bs := beBytes 6 (s.rd LOG_OUT_DA_HI_DA [] * 2 ^ 32 + s.rd LOG_OUT_DA_LO_DA [])
      ++ beBytes 6 (s.rd LOG_OUT_SA_HI_SA [] * 2 ^ 32 + s.rd LOG_OUT_SA_LO_SA []) ++ beBytes 2 etype ++ s.lgr.frame
    let key := s.cst.frames.foldl (fun n p => max n (p.1 + 1)) cellCount
    let r := sealRec { d := { cell := key, len := bs.length, src := 65, medium := 3, stamp := s.stamp, hdr := innerHdr bs }, queue := i, ports := 2 ^ q }
    let s := s.setLog { s.lgr with frame := [], frameAt := none, unitOpen := false }
    let s := s.putFrame key { writer := 65, cells := [], complete := true, issued := true, charge := .unscheduled, holders := [.egress q i], own := bs }
    let s := s.advanceCredit q
    ((s.putEgress q i (s.egress q i ++ [{ frame := key, r := r, since := s.now }])).bump LOG_CNT_OUT_FRAMES_CNT []).viewLog

/-- A record that the output takes leaves it with the next SEQ (R468): its bytes join the ring or the frame being packed. -/
def State.emitRecord (s : State) (r : LogRec) : State :=
  let seq := s.rd LOG_SEQ_SEQ []
  let bs := s.logBytes r seq
  let ring := s.rd LOG_CTRL_OUT [] == 1
  let s :=
    if ring then
      let s := s.ringWrite (s.unitHeader seq ++ bs)
      let s := s.setLog { s.lgr with fresh := s.lgr.fresh + 1, freshAt := some (s.lgr.freshAt.getD s.now), unitOpen := true }
      if s.rd LOG_IRQ_COAL_RECS [] ≤ s.lgr.fresh then s.logAnnounce else s
    else
      let full := s.rd QYE_FRAME_MAX_LEN [s.rd LOG_OUT_Q_QUAY []] < 14 + s.lgr.frame.length + bs.length
      let s := if full then s.sendLogFrame else s
      s.setLog { s.lgr with frame := s.lgr.frame ++ s.unitHeader seq ++ bs, frameAt := some (s.lgr.frameAt.getD s.now), unitOpen := true }
  let s := (s.wr LOG_SEQ_SEQ [] ((seq + 1) % 65536)).bump LOG_CNT_RECORDS_CNT []
  (if r.ty = 6 then s.bump LOG_CNT_SUMMARY_CNT [] else if r.ty = 7 then s.bump LOG_CNT_SEAL_CNT [] else s).viewLog

/-- Bytes that a record takes of the output, its unit's header included. -/
def State.outSize (s : State) (r : LogRec) : Nat :=
  (s.unitHeader (s.rd LOG_SEQ_SEQ [])).length + (s.logBytes r (s.rd LOG_SEQ_SEQ [])).length

/-- Whether the output takes a record now. -/
def State.outTakes (s : State) (r : LogRec) : Bool :=
  match s.rd LOG_CTRL_OUT [] with
  | 1 => s.hostReachable && !s.logBlocked (s.outSize r)
  | 2 => !s.logBlocked 0
  | _ => false

/-- A record too long for a log frame (R477): MAX_LEN − 14 bytes, with its unit's header in CMP format. -/
def State.tooLongRec (s : State) (r : LogRec) : Bool :=
  s.rd LOG_CTRL_OUT [] == 2
    && decide (s.rd QYE_FRAME_MAX_LEN [s.rd LOG_OUT_Q_QUAY []] < 14 + (s.logBytes r (s.rd LOG_SEQ_SEQ [])).length
      + (if s.on LOG_CTRL_FORMAT [] then 8 else 0))

/-! ### Sealing (R482, R483) -/

/-- Change the seal in progress. -/
def State.setSeal (s : State) (x : SealSt) : State := s.setLog { s.lgr with sealing := x }

/-- Sealing stops with a cause of Table 13-5: the key register is erased and EVENT 0x05 written. -/
def State.sealStop (s : State) (cause : Nat) : State :=
  let s := (s.setSeal {}).wr LOG_STATUS_SEAL_STOPPED [] 1
  (s.enqueueLog (eventRecord 5 0xFF cause 0 0 0 s.stamp)).viewLog

/-- Whether sealing runs. -/
def State.sealOn (s : State) : Bool := s.on PG_STATE_ENABLED [pgLOG] && s.on LOG_CTRL_SEAL_EN [] && !s.on LOG_STATUS_SEAL_STOPPED []

/-- Why sealing must stop, if it must: a fault of the seal core, a key erased, or a key absent. -/
def State.sealCause (s : State) : Option Nat :=
  let k := s.rd LOG_SEAL_KEY_SLOT []
  let lost := if (s.keySlot k).state = 3 then 1 else 2
  if s.lgr.sealBad then some 3
  else match s.lgr.sealing.key with
    | some (_, slot, gen) => if slot = k then (if s.keyStands slot gen then none else some lost) else none
    | none => if s.usable k && (s.keySlot k).use == 7 then none else some lost

/-- Stop sealing for a cause; a seal core fault raises error 0x03. -/
def State.sealFail (s : State) (cause : Nat) : State :=
  let s := if cause = 3 then (s.setLog { s.lgr with sealBad := false }).errU pgLOG 0x03 1 else s
  s.sealStop cause

/-- The seal core holds the key of LOG_SEAL.KEY_SLOT, or sealing stops. -/
def State.sealKey (s : State) : State :=
  match s.sealCause with
  | some c => s.sealFail c
  | none =>
    let k := s.rd LOG_SEAL_KEY_SLOT []
    if (match s.lgr.sealing.key with | some (_, slot, _) => slot == k | none => false) then s
    else
      let p := s.loadKey k 7
      match p.2 with
      | some x => p.1.setSeal { p.1.lgr.sealing with key := some (x.key, k, x.gen) }
      | none => p.1.sealStop 2

/-- The seal record that would be written now, with its TAG (R482). -/
def State.sealRecord (s : State) : LogRec :=
  let x := s.lgr.sealing
  let chain := padTo 16 x.chain
  let stamp := s.stamp
  let front := beBytes 2 (match x.key with | some (_, slot, _) => slot | none => 0) ++ [0, 0] ++ beBytes 2 x.firstSeq ++ beBytes 2 x.recs ++ chain
  let head := darastHeader 7 (s.rd LOG_STREAM_STREAM []) (s.rd LOG_SEQ_SEQ []) 40 stamp false
  let tag := aesCmac (match x.key with | some (k, _, _) => k | none => []) (chain ++ x.bytes ++ head ++ front)
  { ty := 7, stamp := stamp, body := front ++ tag }

/-- Whether the seal is due: after RECS records or SEAL_MS ms, or at SEAL_NOW. -/
def State.sealDue (s : State) : Bool :=
  let x := s.lgr.sealing
  s.sealOn && x.recs != 0 && (x.asked || decide (s.rd LOG_SEAL_RECS [] ≤ x.recs)
    || (match x.since with | some t => decide (t + 1000000 * s.rd LOG_SEAL_MS_MS [] ≤ s.now) | none => false))

/-- Close the seal, if the output takes its record. -/
def State.closeSeal (s : State) : State :=
  match s.sealCause with
  | some c => s.sealFail c
  | none =>
    let r := s.sealRecord
    if s.outTakes r then
      let s := s.emitRecord r
      s.setSeal { key := s.lgr.sealing.key, chain := r.body.drop 24 }
    else s

/-- A record enters the seal in progress. -/
def State.cover (s : State) (r : LogRec) : State :=
  if !s.sealOn then s
  else
    let s := s.sealKey
    if !s.sealOn then s
    else
      let x := s.lgr.sealing
      let seq := s.rd LOG_SEQ_SEQ []
      s.setSeal { x with
        bytes := x.bytes ++ s.logBytes r seq, recs := x.recs + 1, firstSeq := if x.recs = 0 then seq else x.firstSeq
        since := some (x.since.getD s.now) }

/-- LOG_RECORD_OUTPUT: the oldest record of the buffer is output; a seal that is due comes first. -/
def execLogRecordOutput (s : State) : Result :=
  onLogicIf s (s.on PG_STATE_ENABLED [pgLOG]) fun s =>
    if s.sealDue then s.closeSeal
    else
      match s.lgr.buf with
      | [] => s
      | r :: rest =>
        let gone := s.setLog { s.lgr with buf := rest }
        if s.tooLongRec r then (((gone.bump LOG_CNT_TOO_LONG_CNT []).irq pgLOG 5).fold r)
        else if s.outTakes r then (gone.cover r).emitRecord r
        else s.viewLog

/-- LOG_DATA_IRQ: RECS records or US µs after the first unannounced advance (R476). -/
def execLogDataIrq (s : State) : Result :=
  onLogicIf s (s.lgr.fresh != 0 && (decide (s.rd LOG_IRQ_COAL_RECS [] ≤ s.lgr.fresh)
    || (match s.lgr.freshAt with | some t => decide (t + 1000 * s.rd LOG_IRQ_COAL_US [] ≤ s.now) | none => false))) State.logAnnounce

/-- LOG_FRAME_SEND: LOG_OUT_FLUSH_US after its first record, or where the next record does not fit, the log frame is sent (R477). -/
def execLogFrameSend (s : State) : Result :=
  onLogicIf s (!s.lgr.frame.isEmpty && ((match s.lgr.frameAt with | some t => decide (t + 1000 * s.rd LOG_OUT_FLUSH_US_US [] ≤ s.now) | none => false)
    || (match s.lgr.buf with
      | r :: _ => decide (s.rd QYE_FRAME_MAX_LEN [s.rd LOG_OUT_Q_QUAY []] < 14 + s.lgr.frame.length + (s.logBytes r (s.rd LOG_SEQ_SEQ [])).length)
      | [] => false))) State.sendLogFrame

/-- LOG_CMD SEAL_NOW: a seal with records is closed at once, or as soon as the output takes it. -/
def State.sealNow (s : State) : State :=
  if s.sealOn && s.lgr.sealing.recs != 0 then (s.setSeal { s.lgr.sealing with asked := true }).closeSeal else s

/-- SEAL_NOW. -/
def execSealNow (s : State) : Result := onLogicIf s (s.on PG_STATE_ENABLED [pgLOG]) State.sealNow

/-- LOG_CMD RESEAL: with a valid key again, SEAL_STOPPED is cleared and a new chain begins (R483). -/
def State.reseal (s : State) : State :=
  let k := s.rd LOG_SEAL_KEY_SLOT []
  if s.on LOG_CTRL_SEAL_EN [] && s.usable k && (s.keySlot k).use == 7 && !s.lgr.sealBad then
    (((s.wr LOG_STATUS_SEAL_STOPPED [] 0).setSeal {}).sealKey).viewLog
  else s

/-- RESEAL. -/
def execReseal (s : State) : Result := onLogicIf s (s.on PG_STATE_ENABLED [pgLOG]) State.reseal

/-- SEAL_CLOSE: after RECS records or SEAL_MS, the seal is closed. -/
def execSealClose (s : State) : Result := onLogicIf s s.sealDue State.closeSeal

/-- SEAL_STOP: the seal key is erased or absent, or the seal core faults. -/
def execSealStop (s : State) : Result :=
  onLogicIf s (s.sealOn && s.sealCause.isSome) fun s => match s.sealCause with | some c => s.sealFail c | none => s

/-- A supervisor alarm erases the seal key (R483). -/
def State.sealErase (s : State) : State := if s.sealOn && s.lgr.sealing.key.isSome then s.sealStop 1 else s

/-- LOG_RING_RP_WRITE: the driver frees ring space. -/
def execLogRingRpWrite (rp : Nat) (s : State) : Result :=
  onLogic s fun s => (s.wr LOG_RING_RP_RP [] (rp % 2 ^ 32)).viewLog

end Sys2Proof.Machine
end

