-- ==== Sys2Proof/Machine/Tide.lean ====
section
/-! DEFINITION. The commands of tide control that concern the shadow memory and the actions of the tide table (chapter 3). -/

namespace Sys2Proof.Machine

/-! ### Loading (R99–R102) -/

/-- TIDE_STAGING_WRITE of bytes from offset `a` of the tide staging window. -/
def execTideStagingWrite (a : Nat) (bytes : List Nat) (s : State) : Result :=
  onLogicIf s (decide (a + bytes.length ≤ tideBytes)) fun s => if bytes.isEmpty then s else s.stagingWrite a (bytes.map (· % 256))

/-- TID_LOAD_DATA_WRITE (R100). A write that the FETCHING state ignores does not advance the address. -/
def execTidLoadDataWrite (v : Word) (s : State) : Result :=
  onLogic s fun s =>
    let a := s.rd TID_LOAD_ADDR_ADDR []
    if s.shadow = shFetching then s.tidReject
    else (s.stagingWrite (4 * a) (leBytes 4 v.toNat)).wr TID_LOAD_ADDR_ADDR [] (a + 1)

/-- The word that a read of TID_LOAD_DATA returns (R100). -/
def State.loadData (s : State) : Nat := Mem.le s.tid.shadow (4 * s.rd TID_LOAD_ADDR_ADDR []) 4

/-- A command of TID_CMD in one of the listed shadow states; otherwise it is rejected (Table 3-7, R126). -/
def State.tidCmd (s : State) (states : List Nat) (f : State → State) : State :=
  if s.on PG_STATE_ENABLED [pgTID] && states.contains s.shadow then f s else s.tidReject

/-- VERIFY. -/
def execVerify (s : State) : Result := onLogic s fun s => s.tidCmd [shLoaded, shFailed, shVerified] fun s =>
    (s.setShadow shVerifying).setTid { s.tid with verGen := (s.keySlot (imgKeySlot s.tid.shadow)).gen }

/-- ARM: the floor rises with the state (R106). -/
def execArm (s : State) : Result :=
  onLogic s fun s => s.tidCmd [shVerified] fun s => (s.setShadow shArmed).setTid { s.tid with waited := 0, armedAt := s.now }

/-- DISARM. -/
def execDisarm (s : State) : Result := onLogic s fun s => s.tidCmd [shArmed] fun s => (s.setShadow shVerified).hwm

/-- TID_SNAPSHOT, which a disabled page also accepts (R126). -/
def execTidSnapshot (s : State) : Result :=
  onLogic s fun s =>
    let n := s.stroke
    let s := (s.wr TID_SNAP_STROKE_LO_N [] (n % 2 ^ 32)).wr TID_SNAP_STROKE_HI_N [] (n / 2 ^ 32)
    (s.wr TID_SNAP_INDEX_S [] (s.tideIndex n)).wr TID_SNAP_TIDES_CNT [] (s.tid.tides % 2 ^ 32)

/-- Bytes of the FETCH that the registers ask for. -/
def State.fetchLen (s : State) : Nat := s.rd TID_FETCH_LEN_LEN []

/-- Shadow offset of the next FETCH. -/
def State.fetchOfs (s : State) : Nat := 4 * s.rd TID_LOAD_ADDR_ADDR []

/-- The conditions of R99 on a FETCH; TID_FETCH_ADDR holds only 64-byte aligned addresses. -/
def State.fetchLegal (s : State) : Bool :=
  s.fetchOfs % 64 == 0 && s.fetchLen % 64 == 0 && 64 ≤ s.fetchLen && s.fetchOfs + s.fetchLen ≤ tideBytes

/-- FETCH. -/
def execFetch (s : State) : Result :=
  onLogic s fun s => s.tidCmd [shEmpty, shLoaded, shFailed, shVerified] fun s =>
    if s.fetchLegal then
      (((s.setShadow shFetching).wr TID_FETCH_STAT_DONE [] 0).setTid { s.tid with fetch := (s.fetchOfs, s.fetchLen) }).out
        (.hostRead 0 (s.rd TID_FETCH_ADDR_HI_ADDR [] * 2 ^ 32 + s.rd TID_FETCH_ADDR_LO_ADDR [] * 64) s.fetchLen)
    else s.tidReject

/-- The bytes that a FETCH has written stay written, and TID_LOAD_ADDR advances by them (R99). The FETCH runs on the offset and length that it
started with. -/
def State.fetched (s : State) (bytes : List Nat) : State :=
  let a := s.tid.fetch.1
  ((s.shadowPut a bytes).wr TID_LOAD_ADDR_ADDR [] ((a + bytes.length) / 4)).wr TID_FETCH_STAT_DONE [] bytes.length |>.setShadow shLoaded

/-- FETCH_DONE: the fetched bytes, as many as were asked for. -/
def execFetchDone (bytes : List Nat) (s : State) : Result :=
  onLogicIf s (s.shadow == shFetching && bytes.length == s.tid.fetch.2) fun s => (s.fetched (bytes.map (· % 256))).irq pgTID 5

/-- A FETCH fails after `n` bytes were written: the contents are undefined (Table 3-7). -/
def State.fetchFail (s : State) (n : Nat) : State :=
  let a := s.tid.fetch.1
  let len := s.tid.fetch.2
  let s1 := { s.shadowPut a (s.freeBytes len) with freeCtr := s.freeCtr + len }
  let s2 := ((s1.wr TID_LOAD_ADDR_ADDR [] ((a + n) / 4)).wr TID_FETCH_STAT_DONE [] n).wr TID_FETCH_STAT_ERR [] 1
  (s2.setShadow shLoaded).irq pgTID 6

/-- FETCH_ERR after `n` bytes were written: its read failed (R563). -/
def execFetchErr (n : Nat) (s : State) : Result :=
  onLogicIf s (s.shadow == shFetching && decide (n ≤ s.tid.fetch.2)) fun s => s.dmaReadErr.fetchFail n

/-- CLEAR_SHADOW. -/
def execClearShadow (s : State) : Result :=
  onLogic s fun s => s.tidCmd [shEmpty, shLoaded, shFailed, shVerified] fun s =>
    ((s.setTid { s.tid with shadow := [], loadedLen := 0 }).mapOwn fun m => { m with shadow := [] }).setShadow shEmpty

/-! ### Actions -/

/-- EMIT. While the plane taking over reloads the queue occupancy, the EMIT waits for its line, and is issued with its own time once the line has
arrived (R156). -/
def execEmit (s : State) : Result :=
  match s.tid.late.find? (fun p => s.lineArrived ⟨1, p.2.1, p.1⟩) with
  | some p => onLogic s fun s => (s.setTid { s.tid with late := s.tid.late.erase p }).emit ⟨1, p.2.1, p.1⟩ p.2.2
  | none =>
    actionRow 1 s fun a _ s =>
      if s.lineArrived a then s.emit a s.tid.curStroke
      else s.setTid { s.tid with late := s.tid.late ++ [(a.operand, a.slot, s.tid.curStroke)] }

/-- GATE: the gate logic acts on the plane of class T (Table 4-3). -/
def execGate (s : State) : Result :=
  actionRow 2 s fun a t s => if s.hasAct then s.applyGate a.port (a.operand % 256) (s.gate a.port).schedMask t else s

/-- Write a PDU frame, and let it wait for the end of its PACK (R186, R189). -/
def State.packFrame (s : State) (k : Nat) (l : PduLayout) (t : Nat) : State :=
  let fr := s.pduFrame l
  let w := s.writePduFrame k fr.1 (.pdu k) false
  match w.2 with
  | none => s.errU pgSGW 0x05 1
  | some f =>
    let it : QItem := { frame := f, r := w.1.pduRec l f fr.1 fr.2, since := s.now }
    w.1.setSgw { w.1.sgw with
      packing := w.1.sgw.packing ++ [(k, it, t + 256 * nsUnit)], packed := SMap.insert w.1.sgw.packed k f }

/-- PACK (R186). -/
def execPack (s : State) : Result :=
  actionRow 5 s fun a t s =>
    let k := a.operand % 2 ^ 13
    match (if s.hasAct then imgLayout s.tid.active k else none) with
    | none => s
    | some l =>
      let maps := (imgMaps s.tid.active).filter fun m => m.2.dstPdu == k
      let s := maps.foldl (fun s m => s.testMap m.1 m.2) s
      let build := Mem.bytes s.pdu l.build (64 * l.lines)
      let p := Mem.puts s.pdu l.packed build
      let p := maps.foldl (fun p m => if m.2.hasDstUpd then Mem.putBit p l.build m.2.dstUpd 0 else p) p
      let s := s.setPdu p (l.packedLines ++ l.buildLines)
      (s.setSgw { s.sgw with packed := SMap.erase s.sgw.packed k }).packFrame k l t

/-- PACK_COMPLETE: the oldest PACK whose 256 ns have passed becomes the closed PDU (R187). -/
def execPackComplete (s : State) : Result :=
  onLogic s fun s =>
    match List.find? (fun p : Nat × QItem × Nat => p.2.2 ≤ s.count) s.sgw.packing with
    | none => s
    | some (k, it, t) =>
      let old := SMap.find? s.sgw.closed k
      let s := s.setSgw { s.sgw with
        packing := s.sgw.packing.erase (k, it, t), closed := SMap.insert s.sgw.closed k { it with since := s.now } }
      let s := (s.bump SGW_CNT_PACK_CNT []).bump SGW_CNT_JOBS_CNT []
      match old with
      | some o => (s.bump SGW_CNT_PACK_REPLACE_CNT []).release o.frame (.pdu k)
      | none => s

/-- CHECK (R125). -/
def execCheck (s : State) : Result :=
  actionRow 6 s fun a _ s =>
    let b := a.index
    if !s.hasAct || !s.berthValid b then s
    else if s.tid.arrived.contains b then s.setTid { s.tid with arrived := s.tid.arrived.filter fun x => x != b }
    else ((s.bump TID_CNT_CHECK_MISS_CNT []).irq pgTID 8).berthStat s.actPlane b .miss

/-- TEST (R116, R119). -/
def execTest (s : State) : Result :=
  actionRow 7 s fun a t s =>
    let w := imgWindow s.tid.active (a.operand % 2 ^ 12)
    if s.tid.windows.any fun g => g.kind == w.kind && g.target == w.target && t < g.fin then
      (s.bump TID_CNT_WINDOW_SKIP_CNT []).irq pgTID 9
    else
      let tdr := w.kind == 5 && decide (12500 ≤ w.len) && s.on LFE_STATUS_MEAS_WAIT [w.target]
      let s := s.setTid { s.tid with
        windows := s.tid.windows ++ [{ kind := w.kind, target := w.target, fin := t + w.len * slotUnits, from_ := t, served := tdr }] }
      if tdr then
        (s.wr LFE_STATUS_MEAS_WAIT [w.target] 0).wr LFE_STATUS_MEAS_BUSY [w.target] 1
      else s

/-- MARK. -/
def execMark (s : State) : Result := actionRow 8 s fun a t s => if s.hasAct then s.markAt (a.operand % 2 ^ 32) t else s

/-- LOW_TIDE_WINDOW_END: the first granted window whose end has come ends; a bank leaves its test window (R233). -/
def execLowTideWindowEnd (s : State) : Result :=
  onLogic s fun s =>
    match s.tid.windows.find? fun w => w.fin ≤ s.count with
    | none => s
    | some w =>
      let s := s.setTid { s.tid with windows := s.tid.windows.erase w }
      if w.kind = 2 then s.wr CST_STATUS_BANK_TEST [] (clearBitOf (s.rd CST_STATUS_BANK_TEST []) w.target) else s

/-- OCCUPANCY_RELOAD_DONE: the reload ends, and the EMITs that still waited for their lines are issued (R156). -/
def execOccupancyReloadDone (s : State) : Result :=
  onLogicIf s (s.hasAct && (s.plane s.actPlane).reloading) fun s =>
    let x := s.actPlane
    let s := s.setPlane x { s.plane x with reloading := false }
    let late := s.tid.late
    late.foldl (fun s p => s.emit ⟨1, p.2.1, p.1⟩ p.2.2) (s.setTid { s.tid with late := [] })

end Sys2Proof.Machine
end

