-- ==== Sys2Proof/Machine/HbrOps.lean ====
section
/-! DEFINITION. The host bridge's operations: ring pairs, completions, messages, and the reset of R556 (chapter 16). -/

namespace Sys2Proof.Machine

/-- Change the bridge. -/
def State.setHbr (s : State) (h : HbrSt) : State := { s with hbr := h }

/-- The indices of a ring pair's registers: pair p lies in page 2 + p div 8 (R593). -/
def pairIx (p : Nat) : List Nat := [p / 8, p % 8]

/-- A ring pair. -/
def State.pair (s : State) (p : Nat) : PairSt := SMap.getD s.hbr.pairs p {}

/-- Change a ring pair. -/
def State.setPair (s : State) (p : Nat) (x : PairSt) : State := s.setHbr { s.hbr with pairs := SMap.setD s.hbr.pairs {} p x }

/-- Bring the RING_HALT and LINK_DOWN conditions in line (Table 16-14). -/
def State.viewHbr (s : State) : State :=
  let halt := (List.range 16).any fun p => s.on HBR_RP_STAT_TX_HALT (pairIx p) || s.on HBR_RP_STAT_RX_HALT (pairIx p)
  (s.cond pgHBR 2 halt).cond pgHBR 1 (!s.on HBR_STATUS_LINK_UP [])

/-! ### Completions (R567, R568, R581, R582) -/

/-- Entries of a completion ring not yet consumed. -/
def State.cqUsed (s : State) (p : Nat) : Nat := (s.rd HBR_CQ_WP_IDX (pairIx p) + 2 ^ 17 - s.rd HBR_CQ_RP_IDX (pairIx p)) % 2 ^ 17

/-- Entries reserved and not yet written: waiting completions, the transmit descriptor in progress, and the buffers of the frame that IQ0
writes. -/
def State.cqReserved (s : State) (p : Nat) : Nat :=
  (s.pair p).cq.depth + (if (s.pair p).tx.isSome then 1 else 0)
    + (match s.hbr.rx with | some j => if j.pair = p then j.bufs.length else 0 | none => 0)

/-- Free entries of a completion ring. -/
def State.cqFree (s : State) (p : Nat) : Nat := 2 ^ s.rd HBR_RP_SIZE_CQ (pairIx p) - s.cqUsed p - s.cqReserved p

/-- PHASE of the next entry: 1 on the first pass through the ring, and alternating. -/
def State.cqPhase (s : State) (p : Nat) : Nat := 1 - s.rd HBR_CQ_WP_IDX (pairIx p) / 2 ^ s.rd HBR_RP_SIZE_CQ (pairIx p) % 2

/-- A pair sends its message. -/
def State.pairMessage (s : State) (p : Nat) : State :=
  (s.setPair p { s.pair p with fresh := 0, freshAt := none }).msix (s.rd HBR_RP_CTRL_VECTOR (pairIx p))

/-- Write 32 bytes as the next entry of a completion ring. -/
def State.cqWrite (s : State) (p : Nat) (bytes : List Nat) : State :=
  let wp := s.rd HBR_CQ_WP_IDX (pairIx p)
  let base := s.rd HBR_CQ_BASE_HI_ADDR (pairIx p) * 2 ^ 32 + s.rd HBR_CQ_BASE_LO_ADDR (pairIx p) * 2 ^ 12
  let s := s.out (.hostWrite (base + 32 * (wp % 2 ^ s.rd HBR_RP_SIZE_CQ (pairIx p))) bytes)
  let s := s.wr HBR_CQ_WP_IDX (pairIx p) ((wp + 1) % 2 ^ 17)
  let x := s.pair p
  let s := s.setPair p { x with fresh := x.fresh + 1, freshAt := some (x.freshAt.getD s.now) }
  let recs := s.rd HBR_RP_COAL_RECS (pairIx p)
  if s.on HBR_RP_CTRL_VEC_EN (pairIx p) && (recs ≤ x.fresh + 1 || s.rd HBR_RP_COAL_US (pairIx p) == 0) then s.pairMessage p else s

/-- A completion entry (Table 16-4), little-endian. -/
def cqBytes (phase : Nat) (e : CqEntry) : List Nat :=
  let bit (b : Bool) (i : Nat) : Nat := if b then 2 ^ i else 0
  let ctl := phase * 2 ^ 31 + bit e.rx 29 + bit e.first 28 + bit e.last 27 + bit e.bad 26 + bit e.zeroed 25 + bit e.fb 24 + e.status * 2 ^ 16
    + e.idx % 2 ^ 16
  leBytes 4 ctl ++ leBytes 2 e.tag ++ leBytes 2 e.bytes ++ leBytes 6 (stampS e.stamp) ++ leBytes 2 (stampFr e.stamp) ++ leBytes 4 (stampNs e.stamp)
    ++ [e.port, e.queue] ++ leBytes 2 (bit e.berthValid 15 + e.berth % 2 ^ 14) ++ leBytes 4 e.seq ++ leBytes 2 (if e.last then e.len else 0) ++ [0, 0]

/-- A gap entry: PHASE, GAP, DIR and COUNT; what else it holds is not stated. -/
def State.gapBytes (s : State) (p : Nat) (g : Gap) : State × List Nat :=
  let r := s.random 29
  let free := r.2
  let ctl := s.cqPhase p * 2 ^ 31 + 2 ^ 30 + (if (s.pair p).gapRx then 2 ^ 29 else 0) + free.headD 0 % 32 * 2 ^ 24 + free.getD 1 0 % 256 * 2 ^ 16 + g.count
  (r.1, leBytes 4 ctl ++ (free.drop 1).take 28)

/-- Write the waiting completions of a pair, while the host can be reached. -/
def State.drainCq : Nat → Nat → State → State
  | 0, _, s => s
  | n + 1, p, s =>
    if !s.hostReachable then s
    else
      let x := s.pair p
      let r : Popped CqEntry × CQueue CqEntry × Bool :=
        if s.hbr.cqBad then x.cq.popBad s.stamp else (x.cq.pop.1, x.cq.pop.2, false)
      match r.1 with
      | .empty => s
      | .item e => ((s.setPair p { x with cq := r.2.1 }).cqWrite p (cqBytes (s.cqPhase p) e)).drainCq n p
      | .marker g =>
        let lostRx := match x.cq.items with | e :: _ => e.rx | [] => x.gapRx
        let s := (s.setPair p { x with cq := r.2.1, gapRx := lostRx })
        let s := if s.hbr.cqBad then (s.setHbr { s.hbr with cqBad := false }).err pgHBR 0x02 1 p else s
        let b := s.gapBytes p g
        (b.1.cqWrite p b.2).drainCq n p

/-- A completion enters the pair's queue and is written. -/
def State.complete (s : State) (p : Nat) (e : CqEntry) : State :=
  let x := s.pair p
  let s := s.setPair p { x with cq := (x.cq.push 64 e s.stamp).1 }
  s.drainCq 66 p

/-! ### Receiving (R569–R575) -/

/-- The ring pair of a record. -/
def State.rxPair (s : State) (r : Rec) : Nat := s.rd HBR_RXMAP_RING [] / 16 ^ r.queue % 16

/-- Receive descriptors posted and not taken. -/
def State.rxPosted (s : State) (p : Nat) : Nat := (s.rd HBR_RX_TAIL_IDX (pairIx p) + 65536 - s.rd HBR_RX_HEAD_IDX (pairIx p)) % 65536

/-- Take a receive descriptor and a completion entry; none where either is missing or the descriptor's fetch fails, which halts the
direction (R570, R579). -/
def State.takeBuf (s : State) (p : Nat) (desc : Option (List Nat)) : State × Option RxBuf :=
  if !s.hostReachable || s.on HBR_RP_STAT_RX_HALT (pairIx p) || s.rxPosted p == 0 || s.cqFree p == 0 then (s, none)
  else
    match desc with
    | none => ((s.wr HBR_RP_STAT_RX_HALT (pairIx p) 1).dmaReadErr.viewHbr, none)
    | some d =>
      let idx := s.rd HBR_RX_HEAD_IDX (pairIx p)
      (s.wr HBR_RX_HEAD_IDX (pairIx p) ((idx + 1) % 65536),
        some { idx := idx, tag := ofLe ((d.drop 12).take 2), addr := ofLe (d.take 8), size := ofLe ((d.drop 8).take 2) })

/-- Write bytes of a frame into its buffers, taking descriptors as they are needed. Answers whether every byte was written. -/
def State.fillBufs : Nat → List Nat → List (Option (List Nat)) → State → RxJob → State × RxJob × Bool
  | 0, bs, _, s, j => (s, j, bs.isEmpty)
  | n + 1, bs, descs, s, j =>
    if bs.isEmpty then (s, j, true)
    else
      match j.bufs.getLast? with
      | some b =>
        if b.used < b.size then
          let k := min (b.size - b.used) bs.length
          let s := s.out (.hostWrite (b.addr + b.used) (bs.take k))
          State.fillBufs n (bs.drop k) descs s { j with bufs := j.bufs.dropLast ++ [{ b with used := b.used + k }] }
        else
          let r := s.takeBuf j.pair descs.head?.join
          match r.2 with
          | none => (r.1, j, false)
          | some b => State.fillBufs n bs (descs.drop 1) (r.1.setHbr { r.1.hbr with rx := some { j with bufs := j.bufs ++ [b] } }) { j with bufs := j.bufs ++ [b] }
      | none =>
        let r := s.takeBuf j.pair descs.head?.join
        match r.2 with
        | none => (r.1, j, false)
        | some b => State.fillBufs n bs (descs.drop 1) (r.1.setHbr { r.1.hbr with rx := some { j with bufs := [b] } }) { j with bufs := [b] }

/-- The completion of a buffer of a received frame. -/
def State.rxEntry (s : State) (j : RxJob) (k len status : Nat) (b : RxBuf) : CqEntry :=
  let r := j.item.r
  { rx := true, first := k == 0, last := k + 1 == j.bufs.length, bad := status == 0 && r.d.bad, zeroed := status == 2
    fb := s.stampOnFb (if r.d.src < 64 then r.d.src else 64) r.d.stamp, status := status, idx := b.idx, tag := b.tag, bytes := b.used
    stamp := r.d.stamp, port := r.d.src, queue := r.queue, berthValid := r.berthValid, berth := r.berth, seq := r.seq, len := len }

/-- The frame that IQ0 writes is over: every buffer completes with a status, and the reader releases the frame. -/
def State.rxEnd (s : State) (j : RxJob) (status : Nat) : State :=
  let len := match s.frame? j.item.frame with | some o => o.len | none => j.item.r.d.len
  let es := j.bufs.zipIdx.map fun b => s.rxEntry j b.2 len status b.1
  let s := s.setHbr { s.hbr with rx := none }
  (es.foldl (fun s e => s.complete j.pair e) s).release j.item.frame (.reader 64)

/-- A frame dropped before its first byte (R571). -/
def State.rxNoBuf (s : State) (p : Nat) : State := (s.bump HBR_RP_RX_DROP_CNT (pairIx p)).bump HBR_CNT_RX_NO_BUF_CNT []

/-- A frame dropped after its first byte (R572). -/
def State.rxDiscard (s : State) (j : RxJob) : State :=
  ((s.bump HBR_RP_RX_DROP_CNT (pairIx j.pair)).bump HBR_CNT_RX_DISCARD_CNT []).rxEnd j 1

/-- IQ0 writes what has landed of its frame, and completes it when it is whole. -/
def State.rxGo (s : State) (j : RxJob) (descs : List (Option (List Nat))) : State :=
  match s.frame? j.item.frame with
  | none => s.setHbr { s.hbr with rx := none }
  | some o =>
    let written := j.bufs.foldl (fun n b => n + b.used) 0
    if o.zeroed then s
    else
      match s.badCellsOf j.item.frame with
      | c :: _ =>
        let s := if s.rebuildable j.item.frame then s.askRebuild 64 j.item else s
        (s.cellCrc j.item.frame c).rxEnd j 3
      | [] =>
        if o.bad && o.cut && !o.kept then s.rxDiscard j
        else
          let bs := (s.frameBytes j.item.frame).drop written
          let r := State.fillBufs (2 * bs.length + 1) bs descs s j
          let s := r.1
          let j := r.2.1
          if r.2.2 then
            if o.complete then (s.rxEnd j 0).bump HBR_RP_RX_FRAMES_CNT (pairIx j.pair) else s.setHbr { s.hbr with rx := some j }
          else if j.bufs.isEmpty then
            ((s.rxNoBuf j.pair).setHbr { (s.rxNoBuf j.pair).hbr with rx := none }).release j.item.frame (.reader 64)
          else s.rxDiscard j

/-- Whether IQ0 may start a frame: it is complete, or it is a CUT frame whose record has VBR = 0 (R225, R260). -/
def State.rxReady (s : State) (it : QItem) : Bool := s.frameComplete it.frame || (it.r.d.cut && !it.r.vbr)

/-- The frame that IQ0 starts next: the oldest ready one that no earlier frame of its pair precedes (R569). -/
def State.rxNext (s : State) : Option QItem :=
  let l := s.inner 0
  l.zipIdx.findSome? fun x =>
    if s.rxReady x.1 && !((l.take x.2).any fun y => s.rxPair y.r == s.rxPair x.1.r) then some x.1 else none

/-- IQ0 starts a frame: it is dropped under R571, rebuilt under R190, or written. -/
def State.rxStart (s : State) (it : QItem) (descs : List (Option (List Nat))) : State :=
  let p := s.rxPair it.r
  let s := s.putInner 0 ((s.inner 0).filter fun x => x != it)
  if !s.on HBR_RP_CTRL_RX_EN (pairIx p) || !s.hostReachable || s.on HBR_RP_STAT_RX_HALT (pairIx p) then (s.rxNoBuf p).release it.frame (.inner 0)
  else
    match s.badCellsOf it.frame with
    | c :: _ =>
      ((s.cellCrc it.frame c).crcDrop 64 it.frame it).release it.frame (.inner 0)
    | [] =>
      let s := (s.hold it.frame (.reader 64)).release it.frame (.inner 0)
      let j : RxJob := { item := it, pair := p }
      (s.setHbr { s.hbr with rx := some j }).rxGo j descs

/-! ### Transmitting (R576–R578) -/

/-- Whether the bridge may fetch a descriptor of a pair. -/
def State.txServes (s : State) (p : Nat) : Bool :=
  s.hostReachable && s.on HBR_RP_CTRL_TX_EN (pairIx p) && !s.on HBR_RP_STAT_TX_HALT (pairIx p) && (s.pair p).tx.isNone
    && s.rd HBR_TX_HEAD_IDX (pairIx p) != s.rd HBR_TX_TAIL_IDX (pairIx p) && s.cqFree p != 0

/-- The pair served next, round-robin. -/
def State.txTurn (s : State) : Option Nat := ((List.range 16).map fun i => (s.hbr.rr + i) % 16).find? s.txServes

/-- A transmit job's fields (Table 16-2). -/
def TxJob.addr (j : TxJob) : Nat := ofLe (j.desc.take 8)
/-- LEN, with its reserved bits. -/
def TxJob.len (j : TxJob) : Nat := ofLe ((j.desc.drop 8).take 2)
/-- MEDIUM. -/
def TxJob.medium (j : TxJob) : Nat := j.desc.getD 10 0
/-- NO_CQ. -/
def TxJob.noCq (j : TxJob) : Bool := bitOf (j.desc.getD 11 0) 0 == 1
/-- TAG. -/
def TxJob.tag (j : TxJob) : Nat := ofLe ((j.desc.drop 12).take 2)

/-- The completion of a transmit descriptor; what an entry's status leaves unstated is free. -/
def State.txEntry (s : State) (j : TxJob) (status bytes stamp seq : Nat) : CqEntry :=
  { rx := false, status := status, idx := j.idx, tag := j.tag, bytes := bytes, stamp := stamp, seq := seq, len := j.len % 2 ^ 14
    fb := false }

/-- A transmit job has its outcome. -/
def State.txResult (s : State) (p : Nat) (j : TxJob) (e : CqEntry) : State := s.setPair p { s.pair p with tx := some { j with result := some e } }

/-- A transmit job fails: its stamp and DESC_SEQ are free values. -/
def State.txFail (s : State) (p : Nat) (j : TxJob) (status bytes : Nat) : State :=
  let stamp := s.fresh % 2 ^ 64
  let s := s.useFresh
  let seq := s.fresh % 2 ^ 32
  s.useFresh.txResult p j (s.txEntry j status bytes stamp seq)

/-- The frame of a transmit descriptor has been read: it is refused, or landed through IQ0 (R576, R577). -/
def State.txLand (s : State) (p : Nat) (j : TxJob) (bs : List Nat) : State :=
  let f := canParse bs
  let fits := j.medium = 3 ∨ (16 ≤ bs.length ∧ bs.length = 16 + (if canRemote f then 0 else f.dataLen))
  if ¬fits then s.txFail p j 5 0
  else
    let s := s.putIngr 64 { s.ingr 64 with stamp := s.stamp }
    let stamp := s.stamp
    let r := s.landFrame 64 none bs
    match r.2 with
    | none => r.1.txFail p j 6 bs.length
    | some k =>
      let hdr := if j.medium = 3 then innerHdr bs else hdrCan f
      let q := r.1.pushDesc 64 { cell := k, len := bs.length, src := 64, medium := j.medium, stamp := stamp, hdr := hdr } false
      if q.2 then
        let s := q.1.bump HBR_RP_TX_FRAMES_CNT (pairIx p)
        let seq := s.fresh % 2 ^ 32
        s.useFresh.txResult p j (s.txEntry j 0 bs.length stamp seq)
      else q.1.txFail p j 6 bs.length

/-- A device-issued read fails, with a host error to its requester (R563): the frame's descriptor ends, FETCH ends with a read error after a free
number of bytes, a host job ends with HOST_ERR. A requester that reads nothing has no read to fail. -/
def State.readFails (s : State) (r : ReadReq) : State :=
  match r with
  | .ring p => (match (s.pair p).tx with
    | some j => if j.result.isNone then s.dmaReadErr.txFail p j 4 (s.fresh % 65536) else s
    | none => s)
  | .fetch => if s.shadow = shFetching then s.useFresh.dmaReadErr.fetchFail (s.fresh % (s.tid.fetch.2 + 1)) else s
  | .cipher l => (match (s.lane l).job with
    | some (.host j _ _ _) => s.dmaReadErr.hostErr l j
    | _ => s)

/-! ### Enables and resets -/

/-- Write the enable of a direction (R568, R579, R580). -/
def State.ringEnable (s : State) (p : Nat) (rx en : Bool) : State :=
  let own := if rx then HBR_RP_CTRL_RX_EN else HBR_RP_CTRL_TX_EN
  let other := if rx then HBR_RP_CTRL_TX_EN else HBR_RP_CTRL_RX_EN
  if en && !s.on own (pairIx p) then
    let s := (s.wr own (pairIx p) 1).wr (if rx then HBR_RP_STAT_RX_HALT else HBR_RP_STAT_TX_HALT) (pairIx p) 0
    let s := (s.wr (if rx then HBR_RX_HEAD_IDX else HBR_TX_HEAD_IDX) (pairIx p) 0).wr (if rx then HBR_RX_TAIL_IDX else HBR_TX_TAIL_IDX) (pairIx p) 0
    let s := if rx then s else s.setPair p { s.pair p with tx := none }
    let s := if s.on other (pairIx p) then s
      else ((s.wr HBR_CQ_WP_IDX (pairIx p) 0).wr HBR_CQ_RP_IDX (pairIx p) 0).setPair p { s.pair p with cq := {}, fresh := 0, freshAt := none }
    s.viewHbr
  else s.setB own (pairIx p) en

/-- Every outstanding device-issued read ends with a host error to its requester (R556). -/
def State.endReads (s : State) : State :=
  let s := (List.range 16).foldl (fun s p =>
    match (s.pair p).tx with
    | some j => if j.result.isNone then s.txFail p j 4 (s.fresh % 65536) else s
    | none => s) s
  let s := if s.shadow = shFetching then s.useFresh.fetchFail (s.fresh % (s.tid.fetch.2 + 1)) else s
  (List.range 4).foldl (fun s l =>
    match (s.lane l).job with
    | some (.host j _ _ _) => s.hostErr l j
    | _ => s) s

/-- Free the semaphores of an owner: 1 the host, 2 the management port. -/
def State.freeSems (s : State) (owner : Nat) : State :=
  (List.range 32).foldl (fun s n =>
    if s.rd HBR_SEM_OWNER [n] = owner then (s.wr HBR_SEM_OWNER [n] 0).setHbr { s.hbr with semAt := SMap.erase s.hbr.semAt n } else s) s

/-- The rings stop: every EN is cleared and the frame that IQ0 writes is dropped. -/
def State.ringsOff (s : State) : State :=
  let s := (List.range 16).foldl (fun s p => (s.wr HBR_RP_CTRL_TX_EN (pairIx p) 0).wr HBR_RP_CTRL_RX_EN (pairIx p) 0) s
  match s.hbr.rx with
  | some j =>
    let s := (s.bump HBR_RP_RX_DROP_CNT (pairIx j.pair)).bump HBR_CNT_RX_DISCARD_CNT []
    (s.setHbr { s.hbr with rx := none }).release j.item.frame (.reader 64)
  | none => s

/-- The reset of the host bridge unit under R556. -/
def State.linkReset (s : State) : State :=
  let s := s.ringsOff
  let s := (List.range 64).foldl (fun s v => s.wr HBR_MSIX_CTRL_MASK [v] 1) s
  ((((s.freeSems 1).endReads).bump HBR_CNT_LINK_RESET_CNT []).irq pgHBR 0).viewHbr

/-- Messages that wait go out while the host can be reached and their vector is not masked. -/
def State.msixPending (s : State) : State :=
  if !s.hostReachable then s
  else
    (List.range 64).foldl (fun s v =>
      if bitOf (s.rd HBR_MSIX_PBA_PEND [v / 32]) (v % 32) = 1 && !s.on HBR_MSIX_CTRL_MASK [v] then
        (s.wr HBR_MSIX_PBA_PEND [v / 32] (clearBitOf (s.rd HBR_MSIX_PBA_PEND [v / 32]) (v % 32))).out (.msix v)
      else s) s

/-- The host is within reach again: messages and completions that waited go out. -/
def State.hostBack (s : State) : State := (List.range 16).foldl (fun s p => s.drainCq 66 p) s.msixPending

end Sys2Proof.Machine
end

