-- ==== Sys2Proof/Machine/Hbr.lean ====
section
/-! DEFINITION. The commands of the host bridge's link, semaphores and rings (chapter 16). -/

namespace Sys2Proof.Machine

/-! ### The link (R556, R557) -/

/-- PCIE_LINK_UP: the link trains at a generation and a width. -/
def execPcieLinkUp (speed width : Nat) (s : State) : Result :=
  onLogicIf s (decide (1 ≤ speed ∧ speed ≤ 4 ∧ (width = 1 ∨ width = 2 ∨ width = 4))) fun s =>
    ((((s.wr HBR_STATUS_LINK_UP [] 1).wr HBR_STATUS_SPEED [] speed).wr HBR_STATUS_WIDTH [] width).viewHbr).hostBack

/-- PCIE_LINK_DOWN: the function's configuration goes with the link. -/
def execPcieLinkDown (s : State) : Result :=
  onLogicIf s (s.on HBR_STATUS_LINK_UP []) fun s =>
    let s := ((s.wr HBR_STATUS_LINK_UP [] 0).wr HBR_STATUS_SPEED [] 0).wr HBR_STATUS_WIDTH [] 0
    ((s.wr HBR_STATUS_BME [] 0).wr HBR_STATUS_D3 [] 0).linkReset

/-- HOT_RESET. -/
def execHotReset (s : State) : Result :=
  onLogicIf s (s.on HBR_STATUS_LINK_UP []) fun s => ((s.wr HBR_STATUS_BME [] 0).wr HBR_STATUS_D3 [] 0).linkReset

/-- FUNCTION_LEVEL_RESET. -/
def execFunctionLevelReset (s : State) : Result :=
  onLogicIf s (s.on HBR_STATUS_LINK_UP []) fun s => ((s.wr HBR_STATUS_BME [] 0).wr HBR_STATUS_D3 [] 0).linkReset

/-- BUS_MASTER_DISABLE. -/
def execBusMasterDisable (s : State) : Result :=
  onLogicIf s (s.on HBR_STATUS_LINK_UP []) fun s => (s.wr HBR_STATUS_BME [] 0).linkReset

/-- D3HOT_ENTRY. -/
def execD3hotEntry (s : State) : Result := onLogicIf s (s.on HBR_STATUS_LINK_UP []) fun s => s.wr HBR_STATUS_D3 [] 1

/-- D0_RETURN. -/
def execD0Return (s : State) : Result := onLogicIf s (s.on HBR_STATUS_D3 []) fun s => (s.wr HBR_STATUS_D3 [] 0).hostBack

/-- LOCKED_READ: Unsupported Request (R560). -/
def execLockedRead (tag : Nat) (s : State) : Result :=
  onLogicIf s (s.on HBR_STATUS_LINK_UP []) fun s => (s.bump HBR_CNT_LOCKED_UR_CNT []).out (.completion tag 0 false)

/-- HOST_READ_TIMEOUT: a target has not answered within 40 µs (R558). -/
def execHostReadTimeout (tag : Nat) (s : State) : Result :=
  onLogicIf s (s.on HBR_STATUS_LINK_UP []) fun s =>
    ((s.bump HBR_CNT_READ_TIMEOUT_CNT []).errU pgHBR 0x03 1).out (.completion tag 0xFFFFFFFF true)

/-- D2D_LINK_FAILURE: a flit fails on four consecutive sends, the last three of them replays, or lane lock is lost (R584). -/
def execD2dLinkFailure (lockLost : Bool) (s : State) : Result :=
  onLogic s fun s =>
    let s := if lockLost then s else (List.range 3).foldl (fun s _ => (s.corrected pgHBR).bump HBR_CNT_D2D_REPLAY_CNT []) s
    s.errU pgHBR 0x05 4

/-! ### Semaphores (R564–R566) -/

/-- OWNER code of a master. -/
def Master.owner : Master → Nat
  | .host => 1
  | .mgp => 2

/-- The other master. -/
def Master.other : Master → Master
  | .host => .mgp
  | .mgp => .host

/-- A master takes a semaphore. -/
def State.semTake (s : State) (n : Nat) (m : Master) : State :=
  (s.wr HBR_SEM_OWNER [n] (Master.owner m)).setHbr { s.hbr with semAt := SMap.insert s.hbr.semAt n s.now }

/-- SEM_ACQUIRE by one master, or by both in the same clock: the loser of the previous tie wins (R565). -/
def execSemAcquire (n : Nat) (m : Option Master) (s : State) : Result :=
  onLogicIf s (decide (n < 32) && s.rd HBR_SEM_OWNER [n] == 0) fun s =>
    match m with
    | some m => s.semTake n m
    | none => (s.semTake n s.hbr.tie).setHbr { (s.semTake n s.hbr.tie).hbr with tie := Master.other s.hbr.tie }

/-- SEM_RELEASE. -/
def execSemRelease (n : Nat) (m : Master) (s : State) : Result :=
  onLogicIf s (decide (n < 32)) fun s =>
    let o := s.rd HBR_SEM_OWNER [n]
    if o = Master.owner m then (s.wr HBR_SEM_OWNER [n] 0).setHbr { s.hbr with semAt := SMap.erase s.hbr.semAt n }
    else if o = 0 then s
    else s.bump HBR_CNT_SEM_BAD_REL_CNT []

/-- SEM_TIMEOUT: a semaphore held longer than MS ms is freed. -/
def execSemTimeout (n : Nat) (s : State) : Result :=
  let ms := s.rd HBR_SEM_TMO_MS []
  onLogicIf s (ms != 0 && (match SMap.find? s.hbr.semAt n with | some t => decide (t + 1000000 * ms < s.now) | none => false)) fun s =>
    let s := (s.wr HBR_SEM_OWNER [n] 0).setHbr { s.hbr with semAt := SMap.erase s.hbr.semAt n }
    ((s.wr HBR_SEM_TIMED_OUT [n] 1).irq pgHBR 5).bump HBR_CNT_SEM_TIMEOUT_CNT []

/-! ### Rings -/

/-- IQ0_RX_FRAME: IQ0 starts its next frame, or goes on with the one it writes. `descs` are the receive descriptors that host memory holds
from HEAD on, `none` for one whose fetch fails. -/
def execIq0RxFrame (descs : List (Option (List Nat))) (s : State) : Result :=
  onLogic s fun s =>
    match s.hbr.rx with
    | some j => s.rxGo j descs
    | none => match s.rxNext with | some it => s.rxStart it descs | none => s

/-- RX_AUTH_ZERO: the frame that IQ0 writes has failed its tag check (R574). -/
def execRxAuthZero (s : State) : Result :=
  onLogic s fun s =>
    match s.hbr.rx with
    | none => s
    | some j =>
      if (match s.frame? j.item.frame with | some o => o.zeroed | none => false) then
        let s := j.bufs.foldl (fun s b => s.out (.hostWrite b.addr (zeroBytes b.used))) s
        ((s.rxEnd j 2).bump HBR_CNT_RX_ZEROED_CNT []).irq pgHBR 4
      else s

/-- TX_DESCRIPTOR_FETCH: the pair whose turn it is has its descriptor fetched; an admissible one has its frame read. -/
def execTxDescriptorFetch (p : Nat) (desc : List Nat) (s : State) : Result :=
  onLogicIf s (s.txTurn == some p && desc.length == 16) fun s =>
    let j : TxJob := { desc := desc, idx := s.rd HBR_TX_HEAD_IDX (pairIx p), at_ := s.now }
    let s := (s.setPair p { s.pair p with tx := some j }).setHbr { (s.setPair p { s.pair p with tx := some j }).hbr with rr := (p + 1) % 16 }
    if j.len = 0 ∨ 16383 < j.len ∨ 3 < j.medium ∨ (j.medium = 3 ∧ j.len < 14) then s.txFail p j 5 0
    else s.out (.hostRead p j.addr j.len)

/-- DMA_READ_COMPLETION: the data of a device-issued read, or an error. The data of a FETCH and of a host job reach their requesters through
FETCH_DONE and HOST_JOB_COMPLETE. -/
def execDmaReadCompletion (r : ReadReq) (data : Option (List Nat)) (s : State) : Result :=
  onLogic s fun s =>
    match data with
    | none => s.readFails r
    | some bs =>
      match r with
      | .ring p => (match (s.pair p).tx with
        | some j => if j.result.isNone && bs.length == j.len then s.txLand p j (bs.map (· % 256)) else s
        | none => s)
      | _ => s

/-- DMA_READ_TIMEOUT: no completion within 10 ms (R563). -/
def execDmaReadTimeout (r : ReadReq) (s : State) : Result :=
  onLogicIf s (match r with
    | .ring p => (match (s.pair p).tx with | some j => j.result.isNone && decide (j.at_ + 10000000 ≤ s.now) | none => false)
    | _ => true) fun s => s.readFails r

/-- TX_COMPLETION: HEAD advances and the completion is written (R578). -/
def execTxCompletion (p : Nat) (s : State) : Result :=
  onLogic s fun s =>
    match (s.pair p).tx with
    | some j =>
      match j.result with
      | some e =>
        let s := (s.setPair p { s.pair p with tx := none }).wr HBR_TX_HEAD_IDX (pairIx p) ((j.idx + 1) % 65536)
        if j.noCq && e.status == 0 then s else s.complete p e
      | none => s
    | none => s

/-- TX_TAIL_WRITE. -/
def execTxTailWrite (p v : Nat) (s : State) : Result := onLogicIf s (decide (p < 16)) fun s => s.wr HBR_TX_TAIL_IDX (pairIx p) v

/-- RX_TAIL_WRITE. -/
def execRxTailWrite (p v : Nat) (s : State) : Result := onLogicIf s (decide (p < 16)) fun s => s.wr HBR_RX_TAIL_IDX (pairIx p) v

/-- A write of CQ_RP: a further message follows while entries remain (R581). -/
def State.cqRpWrite (s : State) (p v : Nat) : State :=
  let s := s.wr HBR_CQ_RP_IDX (pairIx p) v
  if s.on HBR_RP_CTRL_VEC_EN (pairIx p) && s.rd HBR_CQ_RP_IDX (pairIx p) != s.rd HBR_CQ_WP_IDX (pairIx p) then s.pairMessage p else s

/-- CQ_RP_WRITE. -/
def execCqRpWrite (p v : Nat) (s : State) : Result := onLogicIf s (decide (p < 16)) fun s => s.cqRpWrite p v

/-- Both enables of a pair, as one write gives them: each sees the other as it stood before. -/
def State.ringEnables (s : State) (p : Nat) (tx rx : Bool) : State :=
  let both := tx && rx && !s.on HBR_RP_CTRL_TX_EN (pairIx p) && !s.on HBR_RP_CTRL_RX_EN (pairIx p)
  if both then (s.ringEnable p false true).ringEnable p true true
  else if !tx && s.on HBR_RP_CTRL_TX_EN (pairIx p) && rx && !s.on HBR_RP_CTRL_RX_EN (pairIx p) then (s.ringEnable p true true).ringEnable p false false
  else if !rx && s.on HBR_RP_CTRL_RX_EN (pairIx p) && tx && !s.on HBR_RP_CTRL_TX_EN (pairIx p) then (s.ringEnable p false true).ringEnable p true false
  else (s.ringEnable p false tx).ringEnable p true rx

/-- RING_ENABLE_WRITE. -/
def execRingEnableWrite (p : Nat) (tx rx : Bool) (s : State) : Result := onLogicIf s (decide (p < 16)) fun s => s.ringEnables p tx rx

/-- RING_HALT: a descriptor fetch of a direction fails (R579). -/
def execRingHalt (p : Nat) (rx : Bool) (s : State) : Result :=
  onLogicIf s (decide (p < 16) && s.on (if rx then HBR_RP_CTRL_RX_EN else HBR_RP_CTRL_TX_EN) (pairIx p)) fun s =>
    let s := s.wr (if rx then HBR_RP_STAT_RX_HALT else HBR_RP_STAT_TX_HALT) (pairIx p) 1
    s.dmaReadErr.viewHbr

/-- RING_COAL_TIMEOUT: COAL.US µs after the first entry not yet announced (R581). -/
def execRingCoalTimeout (p : Nat) (s : State) : Result :=
  onLogicIf s (decide (p < 16) && s.on HBR_RP_CTRL_VEC_EN (pairIx p) && (s.pair p).fresh != 0
    && (match (s.pair p).freshAt with | some t => decide (t + 1000 * s.rd HBR_RP_COAL_US (pairIx p) ≤ s.now) | none => false)) fun s => s.pairMessage p

end Sys2Proof.Machine
end

