-- ==== Sys2Proof/Machine/HckOps.lean ====
section
/-! DEFINITION. The harbour clock's operations: stamps and their paths, the step, the servo, domains and CAN time (chapter 12). -/

namespace Sys2Proof.Machine

/-! ### Stamps (R433–R436) -/

/-- A signed trim of ps in units of 2⁻¹⁶ ns. -/
def psUnits (v : Nat) : Int := signedOf 16 v * 8192 / 125

/-- Correct the pin-referred time of a receive event (R434). -/
def State.rxCorrect (s : State) (q t : Nat) : Nat := stampAdd t (psUnits (s.rd HCK_QASYM_ASYM [q]) - psUnits (s.rd HCK_QCAL_RX_TRIM [q]))

/-- Correct the pin-referred time of a transmit event (R434). -/
def State.txCorrect (s : State) (q t : Nat) : Nat := stampAdd t (psUnits (s.rd HCK_QCAL_TX_TRIM [q]))

/-- A quay event is sampled with 250 ps, a pin event with 125 ps (Table 12-1). -/
def sampled (unit t : Nat) : Nat := t / unit * unit

/-- The cross-check of a frame whose main and fall-back stamps are given (R436). -/
def State.crossCheck (s : State) (q : Nat) (main fallback : Nat) : State :=
  if !s.on HCK_QCFG_XCHK_EN [q] || s.on HCK_QSTAT_FB_ACTIVE [q] then s
  else
    let d : Int := (main : Int) - fallback
    let s := s.wr HCK_QSTAT_XCHK_DIFF [q] (unsignedOf 16 (d / ps125))
    let bad := decide (s.rd HCK_QCFG_XCHK_TOL [q] * 65536 < d.natAbs) || s.hck.xforce.contains q
    if !bad then s.setHck { s.hck with xrun := SMap.erase s.hck.xrun q }
    else
      let n := SMap.getD s.hck.xrun q 0 + 1
      let s := (s.bump HCK_CNT_XCHK_FAIL_CNT []).setHck { s.hck with xrun := SMap.insert s.hck.xrun q n }
      if s.rd HCK_QCFG_XCHK_N [q] ≤ n ∧ !s.on HCK_QSTAT_PCS_FAULT [q] then (s.wr HCK_QSTAT_PCS_FAULT [q] 1).err pgHCK 0x03 1 q else s

/-- Whether a quay is to use fall-back stamps (R435). -/
def State.wantsFb (s : State) (q : Nat) : Bool := s.on HCK_QCFG_FB_FORCE [q] || s.on HCK_QSTAT_PCS_FAULT [q]

/-- A quay changes its stamp path at a boundary (R435). -/
def State.switchPath (s : State) (q : Nat) : State :=
  let b := s.wantsFb q
  let s := (s.setB HCK_QSTAT_FB_ACTIVE [q] b).setHck { s.hck with fbSince := SMap.insert s.hck.fbSince q (stampOf s.bnd.time) }
  let s := s.setB HCK_STATUS_FB_ANY [] ((List.range 64).any fun x => s.on HCK_QSTAT_FB_ACTIVE [x])
  ((s.bump HCK_CNT_FB_SWITCH_CNT []).irq pgHCK 8).log (.event 0x03 q (if b then 1 else 0) 0 0 0 (stampOf s.bnd.time))

/-! ### The servo (R428–R431, Table 12-3) -/

/-- FREE. -/
def svFree : Nat := 0
/-- LOCKING. -/
def svLocking : Nat := 1
/-- LOCKED. -/
def svLocked : Nat := 2
/-- HOLDOVER. -/
def svHoldover : Nat := 3
/-- DEGRADED. -/
def svDegraded : Nat := 4

/-- The state of the servo. -/
def State.servo (s : State) : Nat := s.rd HCK_STATUS_SERVO []

/-- Give the servo a state: FREE clears FORCED_HOLD, FREE and HOLDOVER run at the estimate and restart the count of measurements. -/
def State.servoTo (s : State) (x : Nat) : State :=
  let old := s.servo
  let s := if x = svFree then s.wr HCK_STATUS_FORCED_HOLD [] 0 else s
  let s := if x = svFree ∨ x = svHoldover then s.wr HCK_RATE_APPLIED_RATE [] (s.rd HCK_RATE_RATE []) else s
  if x = old then s
  else
    let s := if x = svFree ∨ x = svHoldover then s.setHck { s.hck with run := 0 } else s
    (((s.wr HCK_STATUS_SERVO [] x).irq pgHCK 2).cond pgHCK 3 (x == svHoldover)).cond pgHCK 4 (x == svDegraded)

/-- Division rounded to the nearest whole, a half upwards. -/
def roundDiv (n d : Int) : Int := (2 * n + d) / (2 * d)

/-- Saturate to a signed range of `w` bits. -/
def satSigned (w : Nat) (v : Int) : Int := max (-(2 ^ (w - 1) : Int)) (min ((2 ^ (w - 1) : Int) - 1) v)

/-- The rate update of R429 for an offset `e` and an interval `t`, both in units of 2⁻¹⁶ ns. Rates are in units of 2⁻⁴⁰. -/
def State.steer (s : State) (e : Int) (t : Nat) : State :=
  let kp := s.rd HCK_SERVO_KP []
  let ki := s.rd HCK_SERVO_KI []
  let lim := s.rd HCK_SERVO_RATE_LIM []
  let i := signedOf 32 (s.rd HCK_RATE_RATE [])
  let slews := lim * t * 2 ^ kp < e.natAbs * 1000000
  let pn : Int := if slews then (if e < 0 then 1 else -1) * (lim * 2 ^ 40 : Nat) else -e * 2 ^ 40
  let pd : Int := if slews then 1000000 else (t : Int) * 2 ^ kp
  let fn : Int := if slews then i else i * (t * 2 ^ ki : Nat) - e * 2 ^ 40
  let fd : Int := if slews then 1 else (t : Int) * 2 ^ ki
  let s := s.wr HCK_RATE_RATE [] (unsignedOf 32 (satSigned 32 (roundDiv fn fd)))
  s.wr HCK_RATE_APPLIED_RATE [] (unsignedOf 32 (satSigned 32 (roundDiv (fn * pd + pn * fd) (fd * pd))))

/-- Count a measurement to which R429 is applied (R431). -/
def State.countMeas (s : State) (e : Int) : State :=
  s.setHck { s.hck with run := if e.natAbs ≤ s.rd HCK_SERVO_LOCK_NS [] * 65536 then s.hck.run + 1 else 0 }

/-- GM_CHANGE: its event, its counter, and the end of a forced hold (Table 12-3). -/
def State.gmChange (s : State) : State := ((s.irq pgHCK 5).bump HCK_CNT_GM_CHANGE_CNT []).wr HCK_STATUS_FORCED_HOLD [] 0

/-- What a measurement does in set (Table 12-3). -/
def State.servoMeas (s : State) (e : Int) (t : Nat) (gm : Bool) : State :=
  let x := s.servo
  if gm && x != svFree then (((s.gmChange).countMeas e).steer e t).servoTo svDegraded
  else if s.on HCK_STATUS_FORCED_HOLD [] then s
  else
    let s := (s.countMeas e).steer e t
    if x = svFree then s.servoTo svLocking
    else if x = svHoldover then s.servoTo svDegraded
    else if x = svLocked then (if 4 * s.rd HCK_SERVO_LOCK_NS [] * 65536 < e.natAbs then s.servoTo svDegraded else s)
    else if 4 ≤ s.hck.run then s.servoTo svLocked
    else s

/-- Start a pending step. -/
def State.pendStep (s : State) (r : StepReq) : State := (s.setHck { s.hck with step := some r }).wr HCK_STATUS_STEP_PENDING [] 1

/-- A measurement with offset `e` and interval `t` (R428): HCK_OFFSET, the automatic step while unset, the servo while set. -/
def State.measure (s : State) (e : Int) (t : Nat) (gm : Bool) : State :=
  let s := s.wr HCK_OFFSET_NS [] (unsignedOf 32 (satSigned 32 (Int.tdiv e 65536)))
  let s := s.setHck { s.hck with lastMeas := some (s.now, t) }
  if s.on HCK_STATUS_SET [] then s.servoMeas e t gm
  else
    let s := s.servoTo svFree
    if s.rd HCK_CTRL_SRC [] = 1 ∧ s.on HCK_CTRL_AUTO_STEP [] ∧ s.hck.autoArmed ∧ s.hck.step.isNone then
      (s.setHck { s.hck with autoArmed := false }).pendStep { kind := 2, delta := -e, due := some s.now }
    else s

/-! ### Step and epoch (R425–R427) -/

/-- The offset that the step registers hold (R425), in units of 2⁻¹⁶ ns. -/
def State.stepDelta (s : State) : Int :=
  let sec := signedOf 48 (s.rd HCK_STEP_HI_S [] * 2 ^ 32 + s.rd HCK_STEP_S_LO_S [])
  (sec * nsPerS + s.rd HCK_STEP_NS_NS []) * 65536 + s.rd HCK_STEP_HI_FR []

/-- A time or an offset as R425 codes it: floor of its seconds, nanoseconds and fraction, none of the latter negative. -/
def codeTime (d : Int) : Int × Nat × Nat :=
  let ns := d / 65536
  (ns / nsPerS, (ns % nsPerS).toNat, (d % 65536).toNat)

/-- The end of harbour time's range, 2⁴⁸ s. -/
def timeEnd : Nat := 2 ^ 48 * nsPerS * nsUnit

/-- Times still to come that the machine holds as harbour times move with a step, so that what waits for an elapsed time still does. -/
def State.shiftTimes (s : State) (d : Int) : State :=
  let move (t : Nat) : Nat := ((t : Int) + d).toNat
  let s := s.setSgw { s.sgw with packing := s.sgw.packing.map fun p => (p.1, p.2.1, move p.2.2) }
  let s := s.setTid { s.tid with windows := s.tid.windows.map fun w => { w with fin := move w.fin, from_ := move w.from_ } }
  s.setHck { s.hck with
    edges := s.hck.edges.map fun e => { e with at_ := move e.at_, pin := e.pin + d }
    doms := s.hck.doms.map fun p => (p.1, { p.2 with lastRx := none, sent := none }) }

/-- A pending step reaches its boundary (R425, Table 12-2): the counter, and the boundary with it, moves by Δ. A result outside the range of
harbour time is a free value. -/
def State.applyStep (s : State) (r : StepReq) : State :=
  let was := s.running
  let s := if was then s.leaveRunning exWait else s
  let code := codeTime r.delta
  let d := r.delta * 2 ^ 24
  let target := (s.count : Int) + d
  let inRange := decide (0 ≤ target ∧ target < timeEnd)
  let new := if inRange then target.toNat else s.fresh % timeEnd
  let s := if inRange then s else s.useFresh
  let s := (s.ppsLow).shiftTimes ((new : Int) - s.count)
  let s := ({ s with count := new } : State).setHck { s.hck with step := none }
  let s := { s with bnd := { s.bnd with time := if inRange then ((s.bnd.time : Int) + d).toNat else new, step := true } }
  let s := ((s.wr HCK_STATUS_STEP_PENDING [] 0).wr HCK_STATUS_SET [] 1).bump HCK_CNT_STEP_CNT []
  let t := stampOf s.bnd.time
  let s := (s.irq pgHCK 0).log (.event 0x01 0xFF (unsignedOf 32 code.1) code.2.1 (code.2.2 * 65536 + unsignedOf 48 code.1 / 2 ^ 32) r.kind t)
  if was then s.markAt 0xFFFF0003 s.bnd.time else s

/-- An epoch restart reaches its boundary (R427). -/
def State.applyEpoch (s : State) : State :=
  let t := s.bnd.time
  let s := if s.running then (s.leaveRunning exWait).markAt 0xFFFF0002 t else s
  let s := (s.wr HCK_STATUS_SET [] 0).wr HCK_EPOCH_CNT [] (s.rd HCK_EPOCH_CNT [] + 1)
  let s := (s.irq pgHCK 1).servoTo svFree
  let s := ({ s with bnd := { s.bnd with epoch := true } } : State).setHck { s.hck with epochAt := none, autoArmed := true }
  (s.log (.event 0x02 0xFF (s.rd HCK_EPOCH_CNT []) 0 0 0 (stampOf t))).ppsUpdate

/-! ### Domains (R442–R447) -/

/-- A signed rate register of 2⁻⁴⁰. -/
def State.rate (s : State) (f : Fld) (ix : List Nat) : Int := signedOf 32 (s.rd f ix)

/-- 2^k s for a signed exponent, in units of 2⁻¹⁶ ns. -/
def logSeconds (k : Int) : Nat := (nsPerS * 2 ^ (16 + k).toNat) / 2 ^ (-16 - k).toNat

/-- rateRatio on a port for a received cumulativeScaledRateOffset, in units of 2⁻⁴¹ above 1 (IEEE 802.1AS-2020). -/
def State.rateRatio (s : State) (q : Nat) (csro : Int) : Int := csro + 2 * s.rate HCK_PORT_NRR_RATE [q]

/-- meanLinkDelay of a port in units of 2⁻¹⁶ ns, in the peer's time divided by neighborRateRatio and multiplied by rateRatio: the time by
which a Sync's transmission preceded its receipt, in grandmaster time. -/
def State.linkDelayGm (s : State) (q : Nat) (csro : Int) : Int :=
  signedOf 32 (s.rd HCK_PORT_MLD_DELAY [q]) * 4096 * (2 ^ 41 + s.rateRatio q csro) / (2 * (2 ^ 40 + s.rate HCK_PORT_NRR_RATE [q]))

/-- e of R428: the receive stamp less syncReceiptTime. -/
def State.syncOffset (s : State) (q : Nat) (rx origin : Nat) (corr csro : Int) : Int :=
  (rx : Int) - (origin + corr + s.linkDelayGm q csro)

/-- What the time engine keeps of a domain. -/
def State.dom (s : State) (d : Nat) : DomSt := SMap.getD s.hck.doms d {}

/-- Change what the time engine keeps of a domain. -/
def State.setDom (s : State) (d : Nat) (x : DomSt) : State := s.setHck { s.hck with doms := SMap.setD s.hck.doms {} d x }

/-- The slave port of a domain. -/
def State.slave (s : State) (d : Nat) : Nat := s.rd HCK_DOM_CFG_SLAVE [d]

/-- A slave of an enabled domain with GM = 0. -/
def State.isSlave (s : State) (d : Nat) : Bool := s.on HCK_DOM_CFG_EN [d] && !s.on HCK_DOM_CFG_GM [d]

/-- The asCapable master ports of a domain (R444, R445). -/
def State.masters (s : State) (d : Nat) : List Nat :=
  ((List.range 32).map fun i => 32 + i).filter fun q => bitOf (s.rd HCK_DOM_MASTERS_MASK [d]) (q - 32) == 1 && s.capable q

/-- LINK_NS of a T1S port in units of 2⁻¹⁶ ns, converted to grandmaster time (R447). -/
def State.t1sLink (s : State) (q : Nat) (rr : Int) : Int :=
  if isT1sQ q then (s.rd HCK_PORT_T1S_LINK_NS [q] * 65536 : Nat) * (2 ^ 41 + rr) / 2 ^ 41 else 0

/-- The transmit stamp the outside gives for a port; an unstated one is a free value. -/
def State.sentAt (s : State) (sent : List (Nat × Nat)) (q : Nat) : State × Nat :=
  match sent.find? fun p => p.1 == q with
  | some (_, t) => (s, t)
  | none => (s.useFresh, s.fresh)

/-- Give a domain's grandmasterIdentity as an Announce shows it. -/
def State.setGmId (s : State) (d id : Nat) : State := (s.wr HCK_DOM_GM_LO_ID [d] (id % 2 ^ 32)).wr HCK_DOM_GM_HI_ID [d] (id / 2 ^ 32)

/-- Whether values seen on the working domain differ from those kept, and the state that keeps them (R431). A first value is no change. -/
def State.gmSeen (s : State) (tbi port id : Option Nat) : State × Bool :=
  let differs (old new : Option Nat) : Bool := old.isSome && new.isSome && old != new
  let h := s.hck
  (s.setHck { h with gmTbi := tbi <|> h.gmTbi, gmPort := port <|> h.gmPort, gmId := id <|> h.gmId },
    differs h.gmTbi tbi || differs h.gmPort port || differs h.gmId id)

/-! ### CAN time (R448–R451) -/

/-- The berths of an entry. -/
def State.cantBerths (s : State) (e : Nat) : Nat × Nat := (s.rd HCK_CANT_CFG_SYNC_BERTH [e], s.rd HCK_CANT_CFG_FUP_BERTH [e])

/-- A berth fit for CAN time (R448). -/
def State.cantBerthOk (s : State) (b : Nat) : Bool :=
  let c := s.berth b
  s.berthValid b && c.mkind == 2 && c.sched && c.bq && !c.authRx && !c.authTx && c.idLo == c.idHi && (c.fmtSet == 1 || c.fmtSet == 2)

/-- Whether an entry may send (R448). -/
def State.cantRuns (s : State) (e : Nat) : Bool :=
  let p := s.cantBerths e
  s.on HCK_CANT_CFG_EN [e] && s.cantBerthOk p.1 && s.cantBerthOk p.2
    && !((List.range 16).any fun x => x != e && s.on HCK_CANT_CFG_EN [x] &&
      (let o := s.cantBerths x
       [o.1, o.2].any fun b => b == p.1 || b == p.2))

/-- Bring SUSPENDED in line: 1 while an enabled entry sends nothing. -/
def State.viewHck (s : State) : State :=
  (List.range 16).foldl (fun s e => s.setB HCK_CANT_STAT_SUSPENDED [e] (s.on HCK_CANT_CFG_EN [e] && !s.cantRuns e)) s

/-- The time of an entry's timebase at a harbour stamp (R449). -/
def State.timebase (s : State) (e t : Nat) : Nat :=
  match s.rd HCK_CANT_CFG2_TIMEBASE [e] with
  | 0 => t
  | k + 1 => stampAdd t (if s.on HCK_DOM_CFG_GM [k] then 0 else (s.dom k).ofs)

/-- STATUS of Table 12-7. -/
def State.cantStatus (s : State) (e : Nat) : Nat :=
  let lock := match s.rd HCK_CANT_CFG2_TIMEBASE [e] with
    | 0 => s.servo == svLocked
    | k + 1 => s.on HCK_DOM_STAT_VALID [k]
  (if s.on HCK_STATUS_SET [] then 1 else 0) + (if lock then 2 else 0) + (if s.servo = svHoldover then 4 else 0)

/-- The CAN frame of a berth with 8 data bytes. -/
def State.cantFrame (s : State) (b : Nat) (data : List Nat) : CanFrame :=
  let c := s.berth b
  { ident := c.idLo % 2 ^ 29, ide := bitOf c.idLo 29 == 1, format := if c.fmtSet = 1 then fmtCC else fmtFD, dataLen := 8, data := data }

/-- Write a frame of an entry into its berth's queue; none where no cell of IQ2's reservation is free (R450). -/
def State.cantWrite (s : State) (e b : Nat) (data : List Nat) : Option State :=
  let f := s.cantFrame b data
  let bytes := canStore f
  let w := s.writePduFrame (8192 + e) bytes (.berthQueue b) false
  match w.2 with
  | none => none
  | some n =>
    let c := s.berth b
    let d : Desc := { cell := n, len := bytes.length, src := 66, medium := f.format, stamp := s.stamp, hdr := hdrCan f }
    let r : Rec := { d := d, berthValid := true, berth := b, sched := true, vbr := c.vbr, tagOp := c.tag % 4, newVid := c.newVid % 4096, newPcp := c.tag / 4 % 8 }
    some (w.1.putBerthQ b (w.1.berthQ b ++ [{ frame := n, r := r, since := s.now }]))

end Sys2Proof.Machine
end

