-- ==== Sys2Proof/Machine/Hck.lean ====
section
/-! DEFINITION. The commands of the harbour clock (chapter 12), and the trigger and capture actions of the tide table. -/

namespace Sys2Proof.Machine

/-- Reject a command of the harbour clock. -/
def State.hckReject (s : State) : State := s.wr HCK_STATUS_CMD_REJECT [] 1

/-! ### Stamps -/

/-- EVENT_STAMP of quay q: the pin-referred times that the main and the fall-back path give, in units of 2⁻¹⁶ ns (R421, R434, R436). The
corrected stamp of the path in use is returned. -/
def execEventStamp (q : Nat) (rx : Bool) (main fallback : Nat) (s : State) : Result :=
  onLogicIf s (decide (q < 64)) fun s =>
    let a := sampled (2 * ps125) main
    let b := sampled (2 * ps125) fallback
    let t := if s.on HCK_QSTAT_FB_ACTIVE [q] then b else a
    let s := s.crossCheck q a b
    s.setHck { s.hck with stamps := SMap.insert s.hck.stamps (2 * q + if rx then 1 else 0) (if rx then s.rxCorrect q t else s.txCorrect q t) }

/-- STAMP_PATH_SWITCH of quay q, at a boundary (R435). -/
def execStampPathSwitch (q : Nat) (s : State) : Result :=
  onLogicIf s (decide (q < 64) && !s.bnd.none && s.bnd.arrived == s.now && s.wantsFb q != s.on HCK_QSTAT_FB_ACTIVE [q]) fun s => s.switchPath q

/-- PCS_FAULT cleared by its W1C write (R436). -/
def execPcsFaultClear (q : Nat) (s : State) : Result :=
  onLogicIf s (decide (q < 64)) fun s => (s.wr HCK_QSTAT_PCS_FAULT [q] 0).setHck { s.hck with xrun := SMap.erase s.hck.xrun q }

/-! ### The step and the epoch (Table 12-2) -/

/-- A step command: refused while set, rejected with a step pending or with nanoseconds of 10⁹ or more. -/
def State.stepCmd (s : State) (r : State → StepReq) : State :=
  if s.on HCK_STATUS_SET [] then s.hckReject.bump HCK_CNT_STEP_REFUSED_CNT []
  else if s.hck.step.isSome || decide (nsPerS ≤ s.rd HCK_STEP_NS_NS []) then s.hckReject
  else s.pendStep (r s)

/-- STEP. -/
def execStep (s : State) : Result := onLogic s fun s => s.stepCmd fun s => { kind := 0, delta := s.stepDelta, due := some s.now }

/-- STEP_PPS: falls due at its PPS_IN edge. -/
def execStepPps (s : State) : Result :=
  onLogic s fun s => s.stepCmd fun s => { kind := 1, target := s.rd HCK_STEP_HI_S [] * 2 ^ 32 + s.rd HCK_STEP_S_LO_S [] }

/-- CANCEL_STEP. -/
def execCancelStep (s : State) : Result :=
  onLogic s fun s =>
    if s.on HCK_STATUS_SET [] then s.hckReject.bump HCK_CNT_STEP_REFUSED_CNT []
    else (s.setHck { s.hck with step := none }).wr HCK_STATUS_STEP_PENDING [] 0

/-- EPOCH_RESTART. -/
def execEpochRestart (s : State) : Result :=
  onLogic s fun s =>
    if !s.on HCK_STATUS_SET [] then s.hckReject
    else if s.hck.epochAt.isSome then s
    else s.setHck { s.hck with epochAt := some s.now }

/-- Whether something accepted or due at `at_` is served by the latest boundary. -/
def State.servedAt (s : State) (at_ : Option Nat) : Bool := match at_ with | some t => s.leadHeld t | none => false

/-- STEP_APPLY, at the first boundary at least 256 ns after the step fell due (R425). -/
def execStepApply (s : State) : Result :=
  onLogic s fun s =>
    match s.hck.step with
    | some r => if s.bndDue Boundary.step && s.servedAt r.due && !s.on HCK_STATUS_SET [] then s.applyStep r else s
    | none => s

/-- EPOCH_APPLY (R427). -/
def execEpochApply (s : State) : Result :=
  onLogicIf s (s.bndDue Boundary.epoch && s.servedAt s.hck.epochAt) fun s => s.applyEpoch

/-- SNAPSHOT. -/
def execHckSnapshot (s : State) : Result :=
  onLogic s fun s =>
    let t := s.stamp
    (((s.wr HCK_SNAP_NS_NS [] (stampNs t)).wr HCK_SNAP_S_LO_S [] (stampS t % 2 ^ 32)).wr HCK_SNAP_HI_FR [] (stampFr t)).wr HCK_SNAP_HI_S []
      (stampS t / 2 ^ 32)

/-! ### The servo -/

/-- HOLD (R431). -/
def execHold (s : State) : Result :=
  onLogic s fun s =>
    if s.servo = svFree then s.hckReject
    else (s.wr HCK_STATUS_FORCED_HOLD [] 1).servoTo svHoldover

/-- RELEASE (R431). -/
def execRelease (s : State) : Result := onLogic s fun s => s.wr HCK_STATUS_FORCED_HOLD [] 0

/-- A write to HCK_RATE (R430). -/
def execHckRateWrite (v : Word) (s : State) : Result :=
  onLogic s fun s =>
    if s.rd HCK_CTRL_SRC [] = 0 then (s.wr HCK_RATE_RATE [] v.toNat).wr HCK_RATE_APPLIED_RATE [] v.toNat else s.hckReject

/-- A message read from time-engine message memory, an injection site (Table 12-16): with an uncorrected error it is dropped and its measurement is
lost (Table 12-15, code 0x04). Answers whether it is good. -/
def State.messageRead (s : State) : State × Bool :=
  let p := s.passSite pgHCK 3
  if p.2 || s.hck.msgBad then ((p.1.setHck { p.1.hck with msgBad := false }).errU pgHCK 0x04 1, false) else (p.1, true)

/-- What a message is read for happens unless it is dropped. -/
def State.readMessage (s : State) (f : State → State) : State :=
  let p := s.messageRead
  if p.2 then f p.1 else p.1

/-- A Sync with its Follow_Up on the working slave port (R428): its receive stamp, preciseOriginTimestamp, correctionField (2⁻¹⁶ ns),
logMessageInterval, cumulativeScaledRateOffset, gmTimeBaseIndicator and sourcePortIdentity. -/
def execSyncMeasurement (rx origin : Nat) (corr logInterval csro : Int) (tbi port : Nat) (s : State) : Result :=
  onLogic s fun s =>
    let d := s.rd HCK_CTRL_WORK_DOM []
    if s.rd HCK_CTRL_SRC [] = 1 ∧ s.isSlave d ∧ s.capable (s.slave d) then s.readMessage fun s =>
      let g := s.gmSeen (some tbi) (some port) none
      g.1.measure (g.1.syncOffset (s.slave d) rx origin corr csro) (logSeconds logInterval) g.2
    else s

/-- A PPS_IN edge at a pin time in units of 2⁻¹⁶ ns (R455): its stamp, a waiting STEP_PPS, and with SRC = 10 a measurement. -/
def execPpsInEdge (fall : Bool) (time : Nat) (s : State) : Result :=
  onLogicIf s (s.on HCK_PPS_IN_EN [] && s.on HCK_PPS_IN_FALL [] == fall) fun s =>
    let t := stampAdd (sampled ps125 time) (s.ofs125 HCK_PPS_OFS_IN_OFS [])
    let s := ((s.wr HCK_PPS_IN_NS_NS [] (stampNs t)).wr HCK_PPS_IN_S_S [] (stampS t)).irq pgHCK 14
    let s :=
      match s.hck.step with
      | some r =>
        if r.kind = 1 ∧ r.due.isNone then
          s.setHck { s.hck with step := some { r with delta := ((r.target * nsPerS * 65536 : Nat) : Int) - t, due := some s.now } }
        else s
      | none => s
    if s.rd HCK_CTRL_SRC [] = 2 then
      let sub := t % (nsPerS * 65536)
      s.measure (if sub < 500000000 * 65536 then sub else (sub : Int) - (nsPerS * 65536 : Nat)) (nsPerS * 65536) false
    else s

/-- SYNC_LOSS: three source intervals without a measurement (R431). -/
def execSyncLoss (s : State) : Result :=
  onLogicIf s ((s.servo == svLocking || s.servo == svLocked || s.servo == svDegraded) &&
      (match s.hck.lastMeas with | some (at_, t) => decide (at_ * 65536 + 3 * t ≤ s.now * 65536) | none => false)) fun s =>
    (s.bump HCK_CNT_SYNC_LOSS_CNT []).servoTo svHoldover

/-- GM_CHANGE: what a Sync, Follow_Up or Announce of domain d shows, each part if it carries it (R431). -/
def execGmChange (d : Nat) (tbi port ident : Option Nat) (s : State) : Result :=
  onLogicIf s (decide (d < 4) && s.isSlave d) fun s => s.readMessage fun s =>
    let s := match ident with | some i => s.setGmId d i | none => s
    let s := match tbi with | some t => s.wr HCK_DOM_STAT_GM_TBI [d] t | none => s
    let g := s.gmSeen tbi port ident
    if s.rd HCK_CTRL_SRC [] == 1 && s.rd HCK_CTRL_WORK_DOM [] == d then
      (if g.2 && g.1.servo != svFree then g.1.gmChange.servoTo svDegraded else g.1)
    else s

/-! ### IEEE 802.1AS (R439–R447) -/

/-- PDELAY_INITIATE on port q (R442). -/
def execPdelayInitiate (q : Nat) (s : State) : Result :=
  onLogicIf s ((isT1Q q || isSerialQ q) && s.on HCK_PORT_CFG_AS_EN [q] &&
      (match SMap.find? s.hck.pdelayAt q with
       | some t => decide (t * 65536 + logSeconds (signedOf 4 (s.rd HCK_PORT_CFG_PDELAY_LOG [q])) ≤ s.now * 65536)
       | none => true)) fun s =>
    (s.setHck { s.hck with
      pdelayAt := SMap.insert s.hck.pdelayAt q s.now, pdelay := q :: s.hck.pdelay.filter fun x => x != q }).out (.timeMessage q 0 [])

/-- PDELAY_REQ_RECEIVED on port q with the request's receive stamp t2 and the response's transmit stamp t3 (R442). -/
def execPdelayReqReceived (q t2 t3 : Nat) (s : State) : Result :=
  onLogicIf s ((isT1Q q || isSerialQ q) && s.on HCK_PORT_CFG_AS_EN [q]) fun s =>
    s.readMessage fun s => s.out (.timeMessage q 1 [(t2 : Int), t3])

/-- A Pdelay exchange has failed (R442). -/
def State.pdelayFail (s : State) (q : Nat) : State :=
  let n := SMap.getD s.hck.lost q 0 + 1
  let s := (s.setHck { s.hck with lost := SMap.insert s.hck.lost q n }).bump HCK_CNT_PDELAY_LOST_CNT []
  if s.rd HCK_PORT_CFG_ALLOWED_LOST [q] ≤ n then s.setCapable q false else s

/-- A Pdelay exchange has given its four stamps: neighborRateRatio from successive pairs (t3, t4), and meanLinkDelay
((t4 − t1) × neighborRateRatio − (t3 − t2)) / 2 (IEEE 802.1AS-2020). -/
def State.pdelayDone (s : State) (q t1 t2 t3 t4 : Nat) : State :=
  let s :=
    match SMap.find? s.hck.pdelayLast q with
    | some (o3, o4) =>
      if t4 = o4 then s
      else
        let dd : Int := (t4 : Int) - o4
        s.wr HCK_PORT_NRR_RATE [q] (unsignedOf 32 (satSigned 32 ((((t3 : Int) - o3) - dd) * 2 ^ 40 / dd)))
    | none => s
  let s := s.setHck { s.hck with pdelayLast := SMap.insert s.hck.pdelayLast q (t3, t4), lost := SMap.erase s.hck.lost q }
  let nrr := 2 ^ 40 + s.rate HCK_PORT_NRR_RATE [q]
  let delay : Int := ((((t4 : Int) - t1) * nrr / 2 ^ 40) - ((t3 : Int) - t2)) / 2
  let s := s.wr HCK_PORT_MLD_DELAY [q] (unsignedOf 32 (delay / 4096))
  s.setCapable q (decide (delay ≤ s.rd HCK_PORT_CFG_THRESH_NS [q] * 65536))

/-- PDELAY_EXCHANGE_END on port q: with its four stamps, or failed. -/
def execPdelayExchangeEnd (q : Nat) (stamps : Option (Nat × Nat × Nat × Nat)) (s : State) : Result :=
  onLogicIf s ((isT1Q q || isSerialQ q) && s.on HCK_PORT_CFG_AS_EN [q] && s.hck.pdelay.contains q) fun s =>
    let s := s.setHck { s.hck with pdelay := s.hck.pdelay.filter fun x => x != q }
    match stamps with
    | some (t1, t2, t3, t4) =>
      let p := s.messageRead
      if p.2 then p.1.pdelayDone q t1 t2 t3 t4 else p.1.pdelayFail q
    | none => s.pdelayFail q

/-- A Sync sent by a domain on a port: its Follow_Up's preciseOriginTimestamp, correctionField, cumulativeScaledRateOffset,
gmTimeBaseIndicator and grandmasterIdentity. -/
def State.sendSync (s : State) (q d origin : Nat) (corr csro : Int) (tbi ident : Nat) : State :=
  (s.bump HCK_CNT_SYNC_TX_CNT []).out
    (.timeMessage q 2 [(s.rd HCK_DOM_CFG_DOMAIN_NUM [d] : Int), origin, corr, csro, tbi, ident])

/-- SYNC_RELAY: a Sync with its Follow_Up on the slave port of domain d (R444, R446). `sent` gives the transmit stamps of the relayed Syncs. -/
def execSyncRelay (d rx origin : Nat) (corr logInterval csro : Int) (tbi : Nat) (sent : List (Nat × Nat)) (s : State) : Result :=
  onLogicIf s (decide (d < 4) && s.isSlave d && s.capable (s.slave d)) fun s => s.readMessage fun s =>
    let q := s.slave d
    let e := s.syncOffset q rx origin corr csro
    let old := s.dom d
    let s := s.bump HCK_CNT_SYNC_RX_CNT []
    let s :=
      match old.lastRx with
      | some t => if t < rx then s.wr HCK_DOM_RR_RATE [d] (unsignedOf 32 (satSigned 32 ((-e - old.ofs) * 2 ^ 40 / ((rx : Int) - t)))) else s
      | none => s
    let s := s.setDom d { old with ofs := -e, lastRx := some rx, interval := logSeconds logInterval, seenAt := s.now }
    let code := codeTime (-e)
    let s := (s.wr HCK_DOM_OFS_S_S [d] (unsignedOf 32 code.1)).wr HCK_DOM_OFS_NS_NS [d] code.2.1
    let s := ((s.wr HCK_DOM_STAT_VALID [d] 1).wr HCK_DOM_STAT_LOST [d] 0).wr HCK_DOM_STAT_GM_TBI [d] tbi
    let rr := s.rateRatio q csro
    (s.masters d).foldl (fun s p =>
      let t := s.sentAt sent p
      let stay : Int := ((t.2 : Int) - rx) * (2 ^ 41 + rr) / 2 ^ 41
      t.1.sendSync p d origin (corr + s.linkDelayGm q csro + stay + s.t1sLink p rr) rr tbi
        (s.rd HCK_DOM_GM_HI_ID [d] * 2 ^ 32 + s.rd HCK_DOM_GM_LO_ID [d])) s

/-- The interval of a grandmaster domain, in harbour units. -/
def State.syncPeriod (s : State) (d : Nat) : Nat := logSeconds (signedOf 4 (s.rd HCK_DOM_CFG_SYNC_LOG [d])) * 2 ^ 24

/-- GM_SYNC_SEND of domain d, once at each whole multiple of its interval while the clock is set (R445). -/
def execGmSyncSend (d : Nat) (sent : List (Nat × Nat)) (s : State) : Result :=
  onLogicIf s (decide (d < 4) && s.on HCK_DOM_CFG_EN [d] && s.on HCK_DOM_CFG_GM [d] && s.on HCK_STATUS_SET [] &&
      s.count % s.syncPeriod d < s.tickInc && (s.dom d).sent != some (s.count / s.syncPeriod d)) fun s =>
    let s := s.setDom d { s.dom d with sent := some (s.count / s.syncPeriod d) }
    (s.masters d).foldl (fun s p =>
      let t := s.sentAt sent p
      t.1.sendSync p d t.2 (s.t1sLink p 0) 0 (s.rd HCK_EPOCH_CNT []) Config.packageId) s

/-- DOMAIN_LOST of domain d: three intervals without a Sync (R446). -/
def execDomainLost (d : Nat) (s : State) : Result :=
  onLogicIf s (decide (d < 4) && s.isSlave d && !s.on HCK_DOM_STAT_LOST [d] && (s.dom d).interval != 0 &&
      decide ((s.dom d).seenAt * 65536 + 3 * (s.dom d).interval ≤ s.now * 65536)) fun s =>
    ((s.wr HCK_DOM_STAT_LOST [d] 1).wr HCK_DOM_STAT_VALID [d] 0).irq pgHCK 6

/-- AS_MESSAGE_IGNORED on port q: an unsupported message, or a Sync on a port that is no slave (R439, R444). -/
def execAsMessageIgnored (q : Nat) (s : State) : Result :=
  onLogicIf s (isEthQ q && s.on HCK_PORT_CFG_AS_EN [q]) fun s => s.bump HCK_CNT_AS_IGNORED_CNT []

/-! ### CAN time (R448–R451) -/

/-- What the time engine keeps of an entry. -/
def State.cant (s : State) (e : Nat) : CantSt := SMap.getD s.hck.cant e {}

/-- Change what the time engine keeps of an entry. -/
def State.setCant (s : State) (e : Nat) (c : CantSt) : State := s.setHck { s.hck with cant := SMap.setD s.hck.cant {} e c }

/-- CANT_SYNC_WRITE of entry e (R450). After a write that found no free cell the next one waits for a boundary. -/
def execCantSyncWrite (e : Nat) (s : State) : Result :=
  onLogicIf s (decide (e < 16) && s.cantRuns e && (s.berthQ (s.cantBerths e).1).isEmpty && (s.cant e).retryFrom != some s.bnd.arrived) fun s =>
    let seq := (s.rd HCK_CANT_STAT_SEQ [e] + 1) % 16
    let sec := stampS (s.timebase e s.stamp)
    let data := [0x20, s.rd HCK_CANT_CFG2_DOMAIN [e] * 16 + seq, 0, s.cantStatus e] ++ beBytes 4 sec
    match s.cantWrite e (s.cantBerths e).1 data with
    | none => s.setCant e { s.cant e with retryFrom := some s.bnd.arrived }
    | some s => (s.wr HCK_CANT_STAT_SEQ [e] seq).setCant e { sec := sec, seq := seq, waits := true }

/-- CANT_FUP_WRITE of entry e: the oldest stamp of its quay's synchronisation queue is the SYNC's (R451). Stamps of other frames are
dropped; without a free cell the stamp stays. -/
def execCantFupWrite (e : Nat) (s : State) : Result :=
  onLogicIf s (decide (e < 16) && s.on HCK_CANT_CFG_EN [e]) fun s =>
    let q := s.rd HCK_CANT_CFG2_QUAY [e]
    let p := (s.quay q).syncStamps.pop
    let taken (s : State) : State := (s.setQuay q { s.quay q with syncStamps := p.2 }).tsqCond
    match p.1 with
    | .empty => s
    | .marker _ => taken s
    | .item x =>
      let owner (k : Nat) : Bool :=
        s.on HCK_CANT_CFG_EN [k] && s.rd HCK_CANT_CFG2_QUAY [k] == q && (s.berth (s.cantBerths k).1).idLo % 2 ^ 29 == x.ref
      if !owner e then (if (List.range 16).any owner then s else taken s)
      else if !(s.cant e).waits || !s.cantRuns e then (taken s).bump HCK_CNT_CANT_SYNC_CNT []
      else if !(s.berthQ (s.cantBerths e).2).isEmpty then
        ((((taken s).setCant e { s.cant e with waits := false }).bump HCK_CNT_CANT_SYNC_CNT []).bump HCK_CNT_CANT_SKIP_CNT []).irq pgHCK 15
      else
        let t := s.timebase e x.stamp
        let c := s.cant e
        let data := [0x28, s.rd HCK_CANT_CFG2_DOMAIN [e] * 16 + c.seq, (stampS t + 256 - c.sec % 256) % 256, s.cantStatus e] ++ beBytes 4 (stampNs t)
        match s.cantWrite e (s.cantBerths e).2 data with
        | none => s
        | some s => ((taken s).setCant e { c with waits := false }).bump HCK_CNT_CANT_SYNC_CNT []

/-! ### Capture, trigger and PPS (R452–R457) -/

/-- CAPTURE_EDGE of input c: pin time in units of 2⁻¹⁶ ns, and for how many ns the new level lasted (R452, R453). -/
def execCaptureEdge (c : Nat) (rise : Bool) (time hold : Nat) (s : State) : Result :=
  let wanted (s : State) : Bool := bitOf (s.rd HCK_CAP_CFG_EDGE [c]) (if rise then 0 else 1) == 1
  onLogicIf s (decide (c < 16) && s.on HCK_CAP_CFG_EN [c] && wanted s && decide (max 2 (s.rd HCK_CAP_CFG_FILT_NS [c]) ≤ hold) &&
      (!s.on HCK_CAP_CFG_WIN_ONLY [c] || s.inCapture c time)) fun s =>
    let s := s.setHck { s.hck with stamped := c :: s.hck.stamped.filter fun x => x != c }
    s.pushCap c { stamp := stampAdd (sampled ps125 time) (s.ofs125 HCK_CAP_CFG_OFS [c]), rise := rise }

/-- CAPW (R88, R453). -/
def execCapw (s : State) : Result :=
  actionRow 4 s fun a t s => if !s.hasAct then s else if a.level = 1 then s.openCapture a.line (stampOf t) else s.closeCapture a.line (stampOf t)

/-- The image whose TRIG actions are issued next. -/
def State.trigImage (s : State) : Mem := if s.tid.trigShadow then s.tid.shadow else s.tid.active

/-- The TRIG actions not yet issued of the stroke whose turn it is: place within the stroke, action and time. -/
def State.trigsLeft (s : State) : List (Nat × ActionWord × Nat) :=
  let e := imgStroke s.trigImage (if s.tid.trigShadow then 0 else s.tideIndex s.tid.trigStroke)
  ((List.range e.2.1).filter fun k => s.tid.trigIdx ≤ k && (imgAction s.trigImage (e.1 + k)).ty == tyTrig).map fun k =>
    let a := imgAction s.trigImage (e.1 + k)
    (k, a, s.strokeStart s.tid.trigStroke + (a.slot * 8 + a.operand % 8) * nsUnit)

/-- Whether the armed image is to be active in the stroke after the present one (R103), as it stands now. -/
def State.swapExpected (s : State) : Bool :=
  s.shadow == shArmed && s.swapBoundaryNext && s.tid.trigStroke == s.tid.curStroke

/-- The issue moves on to the next stroke. -/
def State.trigNextStroke (s : State) : State :=
  s.setTid { s.tid with trigStroke := s.tid.trigStroke + 1, trigIdx := 0, trigFirst := false, trigShadow := s.swapExpected }

/-- TRIG: the next TRIG action is issued one stroke before its time, or at the start of the first stroke executed (R456). When the actions of
a stroke are all issued, the next stroke's follow, at most one stroke ahead. -/
def execTrig (s : State) : Result :=
  onLogicIf s (s.running && s.tideLen != 0 && s.hasAct) fun s =>
    let s := if s.trigsLeft.isEmpty && decide (s.tid.trigStroke ≤ s.tid.curStroke) then s.trigNextStroke else s
    match s.trigsLeft with
    | [] => s
    | (k, a, t) :: _ =>
      if s.tid.trigFirst || decide (t ≤ s.count + strokeUnits) then
        let pin : Int := (t : Int) - s.ofs125 HCK_TRG_OFS [a.line] * 2 ^ 24
        let e := imgStroke s.trigImage (if s.tid.trigShadow then 0 else s.tideIndex s.tid.trigStroke)
        let s := s.compareAction s.tid.trigShadow (e.1 + k) a
        (s.setTid { s.tid with trigIdx := k + 1 }).setHck
          { s.hck with edges := s.hck.edges ++ [{ output := a.line, level := a.level, at_ := t, pin := pin }] }
      else s

/-- The earliest of a list of trigger edges. -/
def firstEdge : List TrigEdge → Option TrigEdge
  | [] => none
  | e :: es => match firstEdge es with
    | some x => if x.pin < e.pin then some x else some e
    | none => some e

/-- TRIGGER_EDGE: the earliest issued edge whose pin time has come is driven (R456). -/
def execTriggerEdge (s : State) : Result :=
  onLogic s fun s =>
    match firstEdge s.hck.edges with
    | some e =>
      if e.pin ≤ s.count then (s.setHck { s.hck with edges := s.hck.edges.erase e }).trigLevel e.output e.level (max e.pin.toNat s.bnd.time)
      else s
    | none => s

/-- OUT_OFS in harbour units. -/
def State.ppsOfs (s : State) : Int := s.ofs125 HCK_PPS_OFS_OUT_OFS [] * 2 ^ 24

/-- PPS_OUT_PULSE at a whole second less OUT_OFS (R457). -/
def execPpsOutPulse (s : State) : Result :=
  onLogicIf s (s.ppsAllowed && s.hck.ppsFrom.isNone && decide (((s.count : Int) + s.ppsOfs) % (nsPerS * nsUnit : Nat) < s.tickInc)) fun s =>
    let t := (((s.count : Int) - ((s.count : Int) + s.ppsOfs) % (nsPerS * nsUnit : Nat))).toNat
    (s.setHck { s.hck with ppsFrom := some t }).out (.pps 1 t)

/-- PPS_OUT_FALL after OUT_WIDTH_MS (R457). -/
def execPpsOutFall (s : State) : Result :=
  onLogic s fun s =>
    match s.hck.ppsFrom with
    | some t =>
      let until_ := t + s.rd HCK_PPS_OUT_WIDTH_MS [] * 1000000 * nsUnit
      if until_ ≤ s.count then s.ppsLowAt until_ else s
    | none => s

/-! ### Pops -/

/-- Put a stamp queue entry into the result registers (Table 12-6). -/
def State.showStamp (s : State) (e : StampEntry) : State :=
  let w := 2 ^ 31 + (if e.fb then 2 ^ 27 else 0) + (if e.rx then 2 ^ 26 else 0) + (if e.mb then 2 ^ 25 else 0) + e.index % 32 * 2 ^ 20
    + e.queue % 8 * 2 ^ 17 + stampFr e.stamp
  ((((s.wr HCK_TSQ_RES [0] w).wr HCK_TSQ_RES [1] (stampNs e.stamp)).wr HCK_TSQ_RES [2] (stampS e.stamp % 2 ^ 32)).wr HCK_TSQ_RES [3]
    (stampS e.stamp / 2 ^ 32 % 65536)).wr HCK_TSQ_RES [4] e.ref

/-- Put a gap marker of a stamp queue into the result registers: the fields that describe a stamp are free values. -/
def State.showStampGap (s : State) (g : Gap) : State :=
  let t := g.time
  let w := 2 ^ 31 + 2 ^ 30 + (if g.split then 2 ^ 29 else 0) + (if g.sat then 2 ^ 28 else 0) + s.fresh % 2 ^ 11 * 2 ^ 17 + g.count
  ((((s.useFresh.wr HCK_TSQ_RES [0] w).wr HCK_TSQ_RES [1] (stampNs t)).wr HCK_TSQ_RES [2] (stampS t % 2 ^ 32)).wr HCK_TSQ_RES [3]
    (stampS t / 2 ^ 32 % 65536)).wrFree HCK_TSQ_RES [4]

/-- A pop of a quay's egress or synchronisation queue into the result registers; a queue that the time engine consumes answers VALID = 0
(R439). -/
def State.popStamp (s : State) (q : Nat) (sync : Bool) : State :=
  let empty (s : State) : State := s.wr HCK_TSQ_RES [0] (s.rd HCK_TSQ_RES [0] % 2 ^ 31)
  if 64 ≤ q ∨ (sync ∧ s.engineQueue q) then empty s
  else
    let x := s.quay q
    let p := if sync then x.syncStamps.pop else x.txStamps.pop
    let s := (s.setQuay q (if sync then { x with syncStamps := p.2 } else { x with txStamps := p.2 })).tsqCond
    match p.1 with
    | .empty => empty s
    | .item e => s.showStamp e
    | .marker g => s.showStampGap g

/-- HCK_TSQ_POP. -/
def execHckTsqPop (q : Nat) (sync : Bool) (s : State) : Result := onLogicIf s (decide (q < 128)) fun s => s.popStamp q sync

/-- What a pop of a capture queue gives, in the result registers (R454). -/
def State.showCap (s : State) (p : Popped CapEntry) : State :=
  let show_ (s : State) (flags fr t : Nat) : State :=
    (((s.wr HCK_CAP_RES0_FLAGS [] flags).wr HCK_CAP_RES0_FR [] fr).wr HCK_CAP_RES1_NS [] (stampNs t)).wr HCK_CAP_RES2_S [] (stampS t)
  match p with
  | .empty => s.wr HCK_CAP_RES0_FLAGS [] (s.rd HCK_CAP_RES0_FLAGS [] % 32)
  | .item e => show_ s (32 + (if e.miss then 2 else 0) + (if e.rise then 1 else 0)) (stampFr e.stamp) e.stamp
  | .marker g => show_ s.useFresh (48 + (if g.split then 8 else 0) + (if g.sat then 4 else 0) + s.fresh % 4) g.count g.time

/-- HCK_CAP_POP (R454). -/
def execHckCapPop (c : Nat) (s : State) : Result :=
  onLogicIf s (decide (c < 16)) fun s =>
    let p := (s.capQ c).pop
    (s.putCapQ c p.2).showCap p.1

/-- A pop of a capture queue meets an uncorrected word (Table 12-15, code 0x02). -/
def State.popCapBad (s : State) (c : Nat) : State :=
  if (s.capQ c).items.isEmpty then s
  else
    let p := (s.capQ c).popBad s.stamp
    let s := s.putCapQ c p.2.1
    let s := if p.2.2 then (s.bump HCK_CNT_CAP_GAP_CNT []).irq pgHCK 13 else s
    (s.errU pgHCK 0x02 1).showCap p.1

end Sys2Proof.Machine
end

