-- ==== Sys2Proof/Machine/Kwl.lean ====
section
/-! DEFINITION. The commands of the key well (chapter 15). -/

namespace Sys2Proof.Machine

/-- A key-well command: ignored with CMD_REJECT while BUSY is 1 (R532). -/
def State.kwlCmd (s : State) (f : State → State) : State := if s.on KWL_STATUS_BUSY [] then s.kwlReject else f s

/-- A create command is accepted. -/
def State.kwlAccept (s : State) (derive_ : Bool) (slot parent : Nat) : State :=
  (s.wr KWL_STATUS_BUSY [] 1).setKwl { s.kwl with
    cmd := some { derive_ := derive_, slot := slot, parent := parent, cfg := s.newCfg (!derive_), at_ := s.now } }

/-- DERIVE of slot `slot` under `parent` (R530). -/
def execDerive (slot parent : Nat) (s : State) : Result :=
  onLogicIf s (decide (slot < 4096 ∧ parent < 4096)) fun s => s.kwlCmd fun s => s.kwlAccept true slot parent

/-- IMPORT (R531). -/
def execKwlImport (slot parent : Nat) (s : State) : Result :=
  onLogicIf s (decide (slot < 4096 ∧ parent < 4096)) fun s => s.kwlCmd fun s => s.kwlAccept false slot parent

/-- KWL_COMMAND_DONE: the DERIVE or IMPORT accepted last finishes. -/
def execKwlCommandDone (s : State) : Result :=
  onLogicIf s (!s.kwl.testing) fun s => match s.kwl.cmd with | some c => s.kwlCreate c | none => s

/-- INVALIDATE (R534, R536). -/
def execInvalidate (slot : Nat) (s : State) : Result :=
  onLogicIf s (decide (slot < 4096)) fun s => s.kwlCmd fun s =>
    let x := s.keySlot slot
    if x.use != 1 || x.state == 0 then s.kwlEnd 1
    else if x.gen = 2 ^ 32 - 1 then s.kwlEnd 6
    else
      let s := s.bump KWL_CNT_INVALIDATE_CNT []
      let s :=
        if slot = 0 then (s.wr KWL_ROOT_GEN_GEN [] (x.gen + 1)).putSlot 0 { SMap.getD s.kwl.slots 0 {} with dirty := true }
        else s.putSlot slot { x with gen := x.gen + 1, dirty := x.dirty || x.persist }
      (s.kwlEnd 0).kwlAutoCommit

/-- DESTROY (R535, R536). -/
def execDestroy (slot : Nat) (s : State) : Result :=
  onLogicIf s (decide (slot < 4096)) fun s => s.kwlCmd fun s =>
    if slot = 0 then s.kwlEnd 1
    else if (s.keySlot slot).gen = 2 ^ 32 - 1 then s.kwlEnd 6
    else (((s.bump KWL_CNT_DESTROY_CNT []).destroySlot slot).kwlEnd 0).kwlAutoCommit

/-- COMMIT (R546, R547). -/
def execKwlCommit (s : State) : Result :=
  onLogic s fun s => s.kwlCmd fun s =>
    if s.on KWL_STATUS_COMMIT_BUSY [] then s.kwlReject else (s.kwlCommit).kwlEnd 0

/-- RESTORE_CUSTODY (R543). -/
def execRestoreCustody (s : State) : Result :=
  onLogic s fun s => s.kwlCmd fun s => if s.on KWL_STATUS_ALARM [] then s.kwlEnd 7 else (s.restoreCustody).kwlEnd 0

/-- ORPHAN_SWEEP: one slot at each commit boundary (R538). "As by DESTROY" takes in the commit of R539 and the limit of R536 (DEDUCED, log 21). -/
def execOrphanSweep (s : State) : Result :=
  onLogicIf s (!s.bnd.none && s.kwl.sweptAt != some s.bnd.num) fun s =>
    let n := s.kwl.sweep
    let s := s.setKwl { s.kwl with sweep := (n + 1) % 4096, sweptAt := some s.bnd.num }
    if s.slotState n = 2 ∧ (s.keySlot n).gen ≠ 2 ^ 32 - 1 then
      (((s.destroySlot n).bump KWL_CNT_SWEPT_CNT []).irq pgKWL 3).kwlAutoCommit
    else s

/-- MASK_KEY_RENEW: every 64 commit boundaries a new mask key, with a re-masking pass; the pass before it is complete (R540). -/
def execMaskKeyRenew (s : State) : Result :=
  onLogicIf s (!s.bnd.none && (match s.kwl.maskAt with | some n => decide (n + 64 ≤ s.bnd.num) | none => true)) fun s =>
    let s := if s.kwl.maskAt.isSome then s.bump KWL_CNT_REMASK_CNT [] else s
    s.useFresh.setKwl { s.kwl with maskKey := s.fresh % 2 ^ 128, maskPass := s.kwl.maskPass + 1, maskAt := some s.bnd.num }

/-- RBG_STARTUP_DONE (R541). -/
def execRbgStartupDone (s : State) : Result :=
  onLogicIf s (s.rd KWL_STATUS_RBG [] == 0 || s.rd KWL_STATUS_RBG [] == 2) fun s =>
    ((s.setKwl { s.kwl with fails := 0 }).wr KWL_STATUS_RBG [] 1).kwlView

/-- RBG_HEALTH_FAIL: a continuous or start-up test fails; the third failure in a row fails the generator (R541). -/
def execRbgHealthFail (s : State) : Result :=
  onLogicIf s (s.rd KWL_STATUS_RBG [] != 3) fun s =>
    let n := s.kwl.fails + 1
    let s := ((s.setKwl { s.kwl with fails := n }).bump KWL_CNT_HEALTH_FAIL_CNT []).errU pgKWL 0x03 1
    if 3 ≤ n then ((s.wr KWL_STATUS_RBG [] 3).errU pgKWL 0x04 1).kwlView else (s.wr KWL_STATUS_RBG [] 2).kwlView

/-- ROOT_GENERATE: at first start, once the entropy source's tests have passed, the root is drawn and its first copy written (R520, R523). -/
def execRootGenerate (s : State) : Result :=
  onLogicIf s (!s.hasRoot && s.kwl.newRoot.isNone && s.rd KWL_STATUS_RBG [] == 1 && s.on DEV_STATUS_RESTORE_DONE []) fun s =>
    let p := s.random 32
    (((p.1.setKwl { p.1.kwl with newRoot := some p.2 }).wr KWL_STATUS_ROOT [] 1).kwlView).pushRoot

end Sys2Proof.Machine
end

