-- ==== Sys2Proof/Machine/Lines.lean ====
section
/-! DEFINITION. The commands of the line front ends (chapter 11). -/

namespace Sys2Proof.Machine

/-- Something happens at an enabled front end of a powered die: LFE00–LFE55 lie on the I/O die, LFE56–LFE63 on the logic die. -/
def onFront (s : State) (q : Nat) (c : Bool) (f : State → State) : Result :=
  if s.mode != .off && (q < 56 || (q < 64 && s.logicUp)) && s.on PG_STATE_ENABLED [pgLFE q] && c then .next (f s) else .next s

/-- Reject a command of LFE_CMD. -/
def State.lfeReject (s : State) (q : Nat) : State := s.wr LFE_STATUS_CMD_REJECT [q] 1

/-- Whether the front end has a measurement running or waiting (R404). -/
def State.measuring (s : State) (q : Nat) : Bool := s.on LFE_STATUS_MEAS_BUSY [q] || s.on LFE_STATUS_MEAS_WAIT [q]

/-! ### Line conditions -/

/-- LFE_STATUS.SQI follows LOW_SQI: 0 to 2 while the code is present, 3 to 7 when it has cleared (Table 11-2); which of them is free. -/
def State.sqiFollows (s : State) (q : Nat) (codes : List Nat) (low : Bool) : State :=
  if isT1Q q && codes.contains 0x10 then
    s.useFresh.wr LFE_STATUS_SQI [q] (if low then s.fresh % 3 else 3 + s.fresh % 5)
  else s

/-- LINE_CONDITION_SET: the conditions that one monitor sample reports (R393, R394). -/
def execLineConditionSet (q : Nat) (codes : List Nat) (s : State) : Result :=
  onFront s q true fun s => (s.addFaults q (codes.filter fun c => (monitoredCodes q).contains c)).sqiFollows q codes true

/-- LINE_CONDITION_CLEAR: conditions clear after their absence time or by their clearing event. -/
def execLineConditionClear (q : Nat) (codes : List Nat) (s : State) : Result :=
  onFront s q true fun s => (s.dropFaults q (codes.filter fun c => (clearedCodes q).contains c)).sqiFollows q codes false

/-- PAIR_SHORT_RETEST: the driver is re-enabled for one frame attempt (Table 11-2). -/
def execPairShortRetest (q : Nat) (s : State) : Result :=
  onFront s q (q < 32 && s.hasFault q 0x06) fun s => s.setFront q { s.front q with retest := true }

/-! ### Pair roles -/

/-- CAN_REVERSAL_FRAME: a frame of another node shows reversed polarity at its start-of-frame (R395–R397). -/
def execCanReversalFrame (q : Nat) (s : State) : Result :=
  onFront s q (q < 32) fun s =>
    let s := if s.logicUp then s.discardLanding q else s
    let n := (s.front q).reversals + 1
    if n < 3 then s.setFront q { s.front q with reversals := n }
    else
      let s := s.setFront q { s.front q with reversals := 0 }
      if s.on LFE_STATUS_SWAPPED [q] || s.on LFE_CTRL_SWAP_AUTO [q] then s.setFront q { s.front q with exchange := some true }
      else s.addFaults q [0x04]

/-- ROLE_EXCHANGE: ten recessive bits have passed (R396, R397). -/
def execRoleExchange (q : Nat) (s : State) : Result :=
  onFront s q (q < 32) fun s =>
    match (s.front q).exchange with
    | some true => s.exchangeRoles q
    | some false => s.straightRoles q
    | none => s

/-- SWAP_RESET (R397). -/
def execSwapReset (q : Nat) (s : State) : Result :=
  onFront s q true fun s => if q < 32 then s.setFront q { s.front q with exchange := some false } else s.lfeReject q

/-! ### Measurements -/

/-- MEASURE_TERM (R399, R404). -/
def execMeasureTerm (q : Nat) (s : State) : Result :=
  onFront s q true fun s =>
    if 32 ≤ q || s.measuring q then s.lfeReject q
    else (s.setFront q { s.front q with meas := some (1, s.now) }).wr LFE_STATUS_MEAS_BUSY [q] 1

/-- TERM_MEASURE_DONE: the measurement completes with a resistance in quarter-ohms (R400). -/
def execTermMeasureDone (q ohms : Nat) (s : State) : Result :=
  onFront s q (match (s.front q).meas with | some (k, _) => k == 1 | none => false) fun s => s.termResult q (termClass ohms) (some ohms)

/-- TERM_MEASURE_TIMEOUT: 50 ms have passed (R399). -/
def execTermMeasureTimeout (q : Nat) (s : State) : Result :=
  onFront s q (match (s.front q).meas with | some (k, t) => k == 1 && decide (t + 50 * msNs ≤ s.now) | none => false) fun s =>
    s.termResult q 6 none

/-- TDR (R401, R404). -/
def execTdr (q : Nat) (s : State) : Result :=
  onFront s q true fun s =>
    if q < 32 || 56 ≤ q || s.measuring q then s.lfeReject q
    else
      let off := !s.logicUp || !s.on PG_STATE_ENABLED [pgQ q] || (s.quay q).oldMode.getD (s.modeReg q) == 0
      if isT1sQ q then s.tdrStart q (!off && !s.tdrWindow q)
      else if off || !s.on QYE_STATUS_LINK [q] then s.tdrStart q false
      else s.lfeReject q

/-- DIST of an echo that returns after some ps, in units of 0.1 m, with the velocity factor of LFE_TDR_CFG (R403); the fraction is dropped (DESIGN
CHOICE, log 19). -/
def State.tdrDist (s : State) (q echo : Nat) : Nat := s.rd LFE_TDR_CFG_VF [q] * 299792458 * echo / (512 * 10 ^ 11)

/-- TDR_DONE: a TDR ends with its kind and the time of the first echo in ps; KIND 5 ends one that was aborted (R403). -/
def execTdrDone (q kind echo : Nat) (s : State) : Result :=
  onFront s q (s.on LFE_STATUS_MEAS_BUSY [q] && kind ≤ 5 && (match (s.front q).meas with | some (k, _) => k == 2 | none => false)) fun s =>
    s.tdrResult q kind (if kind = 5 then none else some (s.tdrDist q echo))

/-- MEAS_CANCEL (R404, Table 11-4). -/
def execMeasCancel (q : Nat) (s : State) : Result :=
  onFront s q true fun s => if 56 ≤ q then s.lfeReject q else s.measAbort q

/-! ### Wake detectors -/

/-- CAN_WAKE_PATTERN: a detector completes the wake-up pattern (R408, R411). -/
def execCanWakePattern (q : Nat) (s : State) : Result :=
  onFront s q (q < 32 && s.detects q && s.rd LFE_WAKE_MODE [q] == 1 && !s.on QYC_G1608_COMPAT [q]) fun s => s.frontWake q 0 none

/-- WAKE_PATTERN_ABANDON: a pattern does not complete within 1.0 ms: detection restarts, and nothing the block holds changes (R408). -/
def execWakePatternAbandon (_q : Nat) (s : State) : Result := .next s

/-- SELECTIVE_WAKE_FRAME: a selective wake decoder decodes a frame, with whether it has a stuff, form or CRC error (R409, R414). -/
def execSelectiveWakeFrame (q : Nat) (f : CanFrame) (err : Bool) (s : State) : Result :=
  onFront s q (q < 32 && s.detects q && s.rd LFE_WAKE_MODE [q] == 2 && !s.on QYC_G1608_COMPAT [q]) fun s =>
    if f.format = fmtFD ∧ s.on LFE_WAKE_FD_PASSIVE [q] then s
    else
      let bad := err || f.format != fmtCC
      let n := (s.front q).ferr
      let n := if bad then min 32 (n + 1) else n - 1
      let s := s.setFront q { s.front q with ferr := n }
      if !bad && s.wufMatches q f then s.frontWake q 1 (some f.ident)
      else if n = 32 then s.frontWake q 2 none
      else s

/-- G1608_WAKE: the front end of a sleeping COMPAT quay sees a dominant phase of some µs, or a frame (R348, R411). -/
def execG1608Wake (q dominantUs : Nat) (frame : Option CanFrame) (s : State) : Result :=
  onFront s q (q < 32 && s.detects q && s.on QYC_G1608_COMPAT [q]) fun s =>
    if s.on QYC_G1608_WAKE_FRAME [q] then
      match frame with
      | some f => if s.g1608Matches q f then s.frontWake q 4 (some f.ident) else s
      | none => s
    else if s.rd QYC_G1608_WAKE_FILT [q] ≤ dominantUs then s.frontWake q 3 none
    else s

/-- T1S_ENERGY_WAKE: activity above squelch has lasted some µs (R412). -/
def execT1sEnergyWake (q us : Nat) (s : State) : Result :=
  onFront s q (isT1sQ q && s.detects q && s.rd LFE_WAKE_MODE [q] == 1 && s.rd LFE_WAKE_FILT_ENERGY_US [q] ≤ us) fun s => s.frontWake q 5 none

/-- TC10_WAKE: a TC10 wake-up is received on the link, by an armed detector or while the segment drains (R412, R608). -/
def execTc10Wake (q : Nat) (s : State) : Result :=
  onFront s q (isT1Q q && s.rd LFE_WAKE_MODE [q] == 1 && (s.detects q || s.segment q == 1)) fun s => s.frontWake q 6 none

/-- DETECTOR_REARM: the wire has been quiet (R413). -/
def execDetectorRearm (q : Nat) (s : State) : Result :=
  onFront s q true fun s => s.setFront q { s.front q with quietWait := false }

end Sys2Proof.Machine
end

