-- ==== Sys2Proof/Machine/LkpCmd.lean ====
section
/-! DEFINITION. The lookup engine's work on both planes: preloads, the command queue and its results (R108, R297–R304). -/

namespace Sys2Proof.Machine

/-! ### One outcome in both planes (R302) -/

/-- Copy to `dst` every key at which two tables differ. -/
def copyDiff {α : Type} [DecidableEq α] (d : α) (pre post dst : SMap α) : SMap α :=
  ((SMap.keys pre ++ SMap.keys post).foldl (fun m k =>
    let v := SMap.getD post k d
    if SMap.getD pre k d = v then m else SMap.setD m d k v) dst)

/-- Copy the changes of a bank. -/
def copyBank (pre post dst : LkpBank) : LkpBank :=
  { vlan := copyDiff {} pre.vlan post.vlan dst.vlan, fwd := copyDiff {} pre.fwd post.fwd dst.fwd
    ovf := copyDiff {} pre.ovf post.ovf dst.ovf }

/-- Copy the changes of the lookup tables. -/
def copyImg (pre post dst : LkpImg) : LkpImg :=
  { active := copyBank pre.active post.active dst.active, idle := copyBank pre.idle post.idle dst.idle
    gen := if pre.gen = post.gen then dst.gen else post.gen, pend := if pre.pend = post.pend then dst.pend else post.pend }

/-- Copy the changes of the lookup tables into copied state. -/
def copyLkp (pre post : LkpImg) (i : PlaneImg) : PlaneImg := { i with lkp := copyImg pre post i.lkp }

/-- Run an operation of the lookup engine on the plane whose work stands, and place its changes in the other plane unless that is out of
service, and in the delta whose lines are yet to be read (R301). -/
def State.lkpBoth (s : State) (f : Nat → State → State) : State :=
  let x := s.actPlane
  let y := otherPlane x
  let pre := s.lkpOf x
  let s := f x s
  let p := s.plane y
  if s.role y = roleOut ∨ s.role y = roleFailed then s
  else
    let post := s.lkpOf x
    s.setPlane y { p with img := copyLkp pre post p.img, delta := p.delta.map fun d => { d with img := copyLkp pre post d.img } }

/-! ### Insertion (R281, R283, R294) -/

/-- How an insertion ended. -/
inductive Inserted where
  | placed (l : Loc) (e : FwdEntry)
  | pending (e : FwdEntry)
  | full
  deriving DecidableEq, Repr

/-- Give an entry the next generation. -/
def State.withGen (s : State) (x : Nat) (e : FwdEntry) : State × FwdEntry :=
  let i := s.lkpOf x
  (s.setLkpOf x i.nextGen [], { e with gen := i.gen })

/-- Insert an entry whose key is not present (R283). -/
def State.insertEntry (s : State) (x : Nat) (idle : Bool) (e : FwdEntry) : State × Inserted :=
  let i := s.lkpOf x
  match (i.bank idle).place (s.seedOf idle) e with
  | some _ =>
    let g := s.withGen x e
    let i := g.1.lkpOf x
    match (i.bank idle).place (s.seedOf idle) g.2 with
    | some p => ((g.1.setLkpAt x idle (i.setBank idle p.bank) (p.loc :: p.moved)).relocations p.moved.length,
        .placed p.loc g.2)
    | none => (g.1, .full)
  | none =>
    if i.pend.isSome then (s, .full)
    else
      let g := s.withGen x e
      (g.1.toPending x g.2, .pending g.2)

/-! ### Preloads (R108, R297, R308) -/

/-- The contents whose change takes a new generation (R281). -/
def sameContents (a b : FwdEntry) : Bool :=
  a.valid == b.valid && a.static == b.static && a.img == b.img && a.dest == b.dest && a.destIq0 == b.destIq0 && a.da == b.da
    && a.vid == b.vid

/-- A static entry of the incoming image takes over the entry that holds its key (R108). -/
def State.takeOver (s : State) (x : Nat) (l : Loc) (e : FwdEntry) : State :=
  let i := s.lkpOf x
  let old := i.active.at l
  let new := { old with static := true, img := true, dest := e.dest, destIq0 := e.destIq0, age := 0, stamp := 0 }
  if sameContents old new then s.setLkpOf x { i with active := i.active.put l new } [l]
  else
    let g := s.withGen x new
    g.1.setLkpOf x { g.1.lkpOf x with active := i.active.put l g.2 } [l]

/-- How a preload entry ended. -/
inductive Preloaded where
  | placed | pending | full
  deriving DecidableEq, Repr

/-- An insertion as a preload sees it. -/
def preloadedAs (p : State × Inserted) : State × Preloaded :=
  (p.1, match p.2 with | .placed _ _ => .placed | .pending _ => .pending | .full => .full)

/-- Put one preload entry into the active bank. -/
def State.preloadOne (s : State) (x : Nat) (e : FwdEntry) : State × Preloaded :=
  let i := s.lkpOf x
  match i.active.find s.seedActive e.da e.vid with
  | some l => (s.takeOver x l e, .placed)
  | none =>
    match i.pend with
    | some p =>
      if p.da = e.da ∧ p.vid = e.vid then
        let new := { p with static := true, img := true, dest := e.dest, destIq0 := e.destIq0, age := 0, stamp := 0 }
        if sameContents p new then (s, .pending)
        else
          let g := s.withGen x new
          (g.1.setLkpOf x { g.1.lkpOf x with pend := some g.2 } [], .pending)
      else preloadedAs (s.insertEntry x false e)
    | none => preloadedAs (s.insertEntry x false e)

/-- Insert the remaining preload entries until one goes to the pending register, or finds another entry there (R297). -/
def State.preloadList (x : Nat) : List FwdEntry → State → State
  | [], s => { s with lkp := { s.lkp with preload := [] } }
  | e :: es, s =>
    let p := s.preloadOne x e
    match p.2 with
    | .placed => State.preloadList x es p.1
    | .pending => { p.1 with lkp := { p.1.lkp with preload := es } }
    | .full => { p.1 with lkp := { p.1.lkp with preload := e :: es } }

/-- Whether an entry of the image waits in the pending register. -/
def LkpImg.imgPends (i : LkpImg) : Bool := match i.pend with | some e => e.img | none => false

/-- Continue a preload that no entry of its own holds up in the pending register, and raise PRELOAD_DONE at its end (R297). -/
def State.preloadRun (s : State) (x : Nat) : State :=
  if !s.lkp.preloading then s
  else
    let s := if (s.lkpOf x).imgPends then s else State.preloadList x s.lkp.preload s
    let s := s.wr LKP_PRELOAD_LEFT_CNT [] s.lkp.preload.length
    if s.lkp.preload.isEmpty && !(s.lkpOf x).imgPends then ({ s with lkp := { s.lkp with preloading := false } } : State).irq pgLKP 7
    else s

/-- The static entry of a LOOKUP_PRELOAD record (Table 8-6). -/
def preloadEntry (r : List Nat) : FwdEntry :=
  let dest := ofLe ((r.drop 10).take 5)
  { da := ofLe ((r.drop 4).take 6), vid := ofLe ((r.drop 2).take 2), valid := true, static := true, img := true,
    dest := dest % 2 ^ 32, destIq0 := bitOf dest 32 == 1 }

/-- The VLAN entry of a LOOKUP_PRELOAD record. -/
def preloadVlan (r : List Nat) : VlanEntry :=
  let m := ofLe ((r.drop 10).take 5)
  let b := (r.drop 1).headD 0
  { member := m % 2 ^ 32, memberIq0 := bitOf m 32 == 1, valid := true, learnEn := bitOf b 0 == 1, floodUc := bitOf b 1 == 1,
    floodMc := bitOf b 2 == 1 }

/-- Where the static entries of an outgoing image stand in the active bank. -/
def LkpBank.imgKeys (b : LkpBank) : List (Nat × Nat) :=
  ((b.fwd ++ b.ovf).filter fun p => p.2.valid && p.2.img).map fun p => (p.2.da, p.2.vid)

/-- Activate the lookup contents of an image in one plane: VLAN entries, removal of outgoing static entries, preload (R108, R308). -/
def State.preloadStart (s : State) (x : Nat) (m : Mem) : State :=
  let recs := imgPreload m
  let vlans := (recs.filter fun r => r.headD 0 == 2).foldl
    (fun (v : SMap VlanEntry) r => SMap.setD v {} (ofLe ((r.drop 2).take 2)) (preloadVlan r)) []
  let entries := (recs.filter fun r => r.headD 0 == 1).map preloadEntry
  let i := s.lkpOf x
  let s := s.setLkpOf x { i with active := { i.active with vlan := vlans } } []
  let keep (k : Nat × Nat) : Bool := entries.any fun e => e.da == k.1 && e.vid == k.2
  let s := match (s.lkpOf x).pend with
    | some p => if p.img && !keep (p.da, p.vid) then s.setLkpOf x { s.lkpOf x with pend := none } [] else s
    | none => s
  let s := (s.lkpOf x).active.imgKeys.foldl (fun s k =>
    if keep k then s
    else match (s.lkpOf x).active.find s.seedActive k.1 k.2 with
      | some l => s.removeAt x false l
      | none => s) s
  ({ s with lkp := { s.lkp with preload := entries, preloading := true } } : State).preloadRun x

/-! ### The command queue (R300, R301) -/

/-- Bring the lookup registers that show the tables in line (Tables 8-7 and 8-8). -/
def State.viewLkp (s : State) : State :=
  let i := s.lkpOf s.actPlane
  let s := s.setB LKP_STATUS_PENDING [] i.pend.isSome
  let s := ((entWords (i.pend.getD {})).zipIdx).foldl (fun s p => s.wr LKP_PEND_ENT [p.2] p.1) s
  let s := s.wr LKP_GEN_NEXT_GEN [] i.gen
  let s := s.setB LKP_STATUS_WALK_PARTIAL [] (decide (16 * s.rd CST_SHADOW_CELLS [] < 66048))
  let busy := !s.lkp.cmds.isEmpty
  (s.setB LKP_CMD_STAT_BUSY [] busy).wr LKP_CMD_STAT_QFREE [] (64 - s.lkp.cmds.length)

/-- A write to LKP_CMD_GO (R300). -/
def State.lkpGo (s : State) (w : Nat) : State :=
  if 64 ≤ s.lkp.cmds.length then s.wr LKP_CMD_STAT_CMD_REJECT [] 1
  else
    let c : LkpCmd := {
      op := w % 16, table := bitOf w 6, bank := bitOf w 7, cond := bitOf w 8 == 1, tag := w / 2 ^ 24 % 256
      keyLo := s.rd LKP_CMD_KEY_LO_KEY [], keyHi := s.rd LKP_CMD_KEY_HI_DA [], vid := s.rd LKP_CMD_KEY_HI_VID []
      data := (List.range 4).map fun i => s.rd LKP_CMD_DATA_DATA [i], gen := s.rd LKP_CMD_GEN_GEN [] }
    { s with lkp := { s.lkp with cmds := s.lkp.cmds ++ [c] } }

/-- Whether the result queue has a free slot (R301). -/
def State.resultRoom (s : State) : Bool := decide (s.lkp.results.depth < 64)

/-- The head command is done: it leaves the queue and its result is pushed. -/
def State.lkpResult (s : State) (r : LkpRes) : State :=
  let q := (s.lkp.results.push 64 r s.stamp).1
  ({ s with lkp := { s.lkp with cmds := s.lkp.cmds.drop 1, due := s.lkp.due - 1, results := q } } : State).lkpConds

/-- A result that names no entry. -/
def plainResult (c : LkpCmd) (status : Nat) : LkpRes := { tag := c.tag, status := status, ovf := false, loc := 0, data := [] }

/-- A result with an entry and its location. -/
def entryResult (c : LkpCmd) (status : Nat) (l : Loc) (e : FwdEntry) : LkpRes :=
  { tag := c.tag, status := status, ovf := l.ovf, loc := l.idx, data := entWords e }

/-- Commands with an undefined OP end with BAD_ARG as they come to the head (R303). -/
def State.dropBadOps : Nat → State → State
  | 0, s => s
  | n + 1, s =>
    match s.lkp.cmds with
    | c :: _ =>
      if (c.op = 0 ∨ 0xA < c.op) ∧ 0 < s.lkp.due ∧ s.lkp.long.isNone ∧ s.resultRoom then
        State.dropBadOps n (s.lkpResult (plainResult c 6))
      else s
    | [] => s

/-- The command that a row executes: at the head, due, with no long command before it and room for its result. -/
def State.lkpHead (s : State) (op : Nat) : Option LkpCmd :=
  match s.lkp.cmds with
  | c :: _ => if c.op = op ∧ 0 < s.lkp.due ∧ s.lkp.long.isNone ∧ s.resultRoom then some c else none
  | [] => none

/-- Execute the head command if it has an operation code. -/
def lkpRow (op : Nat) (s : State) (f : LkpCmd → State → State) : Result :=
  onLogic s fun s => match s.lkpHead op with | some c => State.dropBadOps 64 (f c s) | none => s

/-- DA of a command's key. -/
def LkpCmd.da (c : LkpCmd) : Nat := c.keyHi * 2 ^ 32 + c.keyLo

/-- The entry that INSERT and WRITE make of a command (R303). -/
def LkpCmd.entry (c : LkpCmd) : FwdEntry :=
  let d1 := c.data.getD 1 0
  let d3 := c.data.getD 3 0
  let st := bitOf d1 2 == 1
  { da := c.da, vid := c.vid, valid := true, static := st, img := false, destIq0 := bitOf d1 0 == 1, dest := c.data.getD 2 0
    age := if st then 0 else d3 / 2 ^ 28 % 16, stamp := if st then 0 else d3 / 2 ^ 20 % 256 }

end Sys2Proof.Machine
end

