-- ==== Sys2Proof/Machine/Lookup.lean ====
section
/-! DEFINITION. The commands of the lookup tables: learning, sweeps, the command interface and the walker (chapter 8). -/

namespace Sys2Proof.Machine

/-! ### Learning and aging (R290–R296) -/

/-- The DEST bit of an Ethernet quay. -/
def quayBit (q : Nat) : Nat := 2 ^ (q - 32)

/-- The quay of a DEST with one bit: the port that keeps an entry (Table 8-7). -/
def destQuay (dest : Nat) : Option Nat := (List.range 32).findSome? fun i => if dest = 2 ^ i then some (32 + i) else none

/-- LEARN_CONFLICT (Table 8-3, Table 8-7). A held entry with several destinations, or none, gives HELD a free value. -/
def State.learnConflict (s : State) (r : LearnReq) (e : FwdEntry) : State :=
  let s := (s.bump LKP_CNT_LEARN_CONFLICT_CNT []).irq pgLKP 1
  if s.on LKP_CONFLICT_VALID [] then s
  else
    let s := ((s.wr LKP_CONFLICT_VALID [] 1).wr LKP_CONFLICT_VID [] r.vid).wr LKP_CONFLICT_REFUSED [] r.quay
    let s := (s.wr LKP_CONFLICT_DA_LO_DA [] (r.da % 2 ^ 32)).wr LKP_CONFLICT_DA_HI_DA [] (r.da / 2 ^ 32)
    match destQuay e.dest with
    | some q => s.wr LKP_CONFLICT_HELD [] q
    | none => s.wrFree LKP_CONFLICT_HELD []

/-- What Table 8-3 does with a dynamic entry: unchanged, refreshed or moved. -/
def State.learnDynamic (s : State) (x : Nat) (r : LearnReq) (e : FwdEntry) : State × Option FwdEntry :=
  let now := s.halfMs
  let age := (now + 256 - e.stamp) % 256
  if e.dest = quayBit r.quay then (s, some { e with age := 15, stamp := now })
  else if age < 2 * s.rd LKP_HOLD_HOLD_MS [] then (s.learnConflict r e, none)
  else
    let g := s.withGen x { e with dest := quayBit r.quay, destIq0 := false, age := 15, stamp := now }
    (g.1.bump LKP_CNT_MOVE_CNT [], some g.2)

/-- A learning request against the entry that holds its key (Table 8-3). -/
def State.learnHeld (s : State) (x : Nat) (r : LearnReq) (e : FwdEntry) : State × Option FwdEntry :=
  if e.static then (if e.dest = quayBit r.quay then s else s.bump LKP_CNT_LEARN_STATIC_CNT [], none) else s.learnDynamic x r e

/-- A learning request for a key that is not held: it is inserted, or dropped while the pending register is taken (R283, R295). -/
def State.learnNew (s : State) (x : Nat) (r : LearnReq) : State :=
  let e : FwdEntry := { da := r.da, vid := r.vid, valid := true, dest := quayBit r.quay, age := 15, stamp := s.halfMs }
  let p := s.insertEntry x false e
  match p.2 with
  | .placed _ e => (p.1.bump LKP_CNT_LEARN_CNT []).mirror x e
  | .pending e => (p.1.bump LKP_CNT_LEARN_CNT []).mirror x e
  | .full => p.1.bump LKP_CNT_LEARN_DROP_CNT []

/-- The learning engine of a plane handles one request (R290, R294). -/
def State.learn (s : State) (x : Nat) (r : LearnReq) : State :=
  let i := s.lkpOf x
  match i.active.find s.seedActive r.da r.vid with
  | some l =>
    let p := s.learnHeld x r (i.active.at l)
    match p.2 with
    | some e =>
      let i := p.1.lkpOf x
      (p.1.setLkpOf x { i with active := i.active.put l e } [l]).mirror x e
    | none => p.1
  | none =>
    match i.pend with
    | some pe =>
      if pe.da = r.da ∧ pe.vid = r.vid then
        let p := s.learnHeld x r pe
        match p.2 with
        | some e => (p.1.setLkpOf x { p.1.lkpOf x with pend := some e } []).mirror x e
        | none => p.1
      else s.learnNew x r
    | none => s.learnNew x r

/-- The oldest learning request is taken; a gap marker is passed over. -/
def State.takeLearn (s : State) : State :=
  let p := s.lkp.learn.pop
  let s := { s with lkp := { s.lkp with learn := p.2 } }
  match p.1 with
  | .item r => (s.learn s.actPlane r).lkpConds
  | _ => s

/-- LEARNING_REQUEST: the engine of the active plane takes one request; a gap marker is passed over. -/
def execLearningRequest (s : State) : Result := onLogicIf s s.hasAct State.takeLearn

/-- STAMP_SWEEP visits a location of the active bank (R291). -/
def execStampSweep (ovf : Bool) (idx : Nat) (s : State) : Result :=
  onLogicIf s s.hasAct fun s =>
    let x := s.actPlane
    let i := s.lkpOf x
    let l : Loc := ⟨ovf, idx⟩
    let e := i.active.at l
    let now := s.halfMs
    if e.valid && !e.static && 132 ≤ (now + 256 - e.stamp) % 256 then
      s.setLkpOf x { i with active := i.active.put l { e with stamp := (now + 256 - 132) % 256 } } [l]
    else s

/-- The locations of a bank's dynamic entries. -/
def LkpBank.dynamics (b : LkpBank) : List (Loc × FwdEntry) :=
  ((b.fwd.map fun p => ((⟨false, p.1⟩ : Loc), p.2)) ++ (b.ovf.map fun p => ((⟨true, p.1⟩ : Loc), p.2))).filter
    fun p => p.2.valid && !p.2.static

/-- Remove an aged-out entry (R292, R298). -/
def State.ageOut (s : State) (x : Nat) (e : FwdEntry) : State :=
  match (s.lkpOf x).active.find s.seedActive e.da e.vid with
  | some l => (((s.removeAt x false l).bump LKP_CNT_AGE_OUT_CNT []).mirrorRemove x e.da e.vid)
  | none => s

/-- AGING_SWEEP: one pass over every dynamic entry of the active bank (R292). -/
def execAgingSweep (s : State) : Result :=
  onLogicIf s (s.hasAct && s.rd LKP_AGE_TICK_MS [] != 0) fun s =>
    let x := s.actPlane
    let all := (s.lkpOf x).active.dynamics
    let s := all.foldl (fun s p =>
      if p.2.age = 0 then s
      else
        let i := s.lkpOf x
        s.setLkpOf x { i with active := i.active.put p.1 { p.2 with age := p.2.age - 1 } } [p.1]) s
    let s := (all.filter fun p => p.2.age == 0).foldl (fun s p => s.ageOut x p.2) s
    (s.preloadRun x).lkpConds

/-! ### The command interface (R300–R304) -/

/-- SEARCH. -/
def execSearch (s : State) : Result :=
  lkpRow 1 s fun c s =>
    if c.table = 1 then s.lkpResult (plainResult c 6)
    else
      let b := (s.lkpOf s.actPlane).bank (c.bank == 1)
      match b.find (s.seedOf (c.bank == 1)) c.da c.vid with
      | some l => s.lkpResult (entryResult c 0 l (b.at l))
      | none => s.lkpResult (plainResult c 1)

/-- READ. -/
def execRead (s : State) : Result :=
  lkpRow 2 s fun c s =>
    let b := (s.lkpOf s.actPlane).bank (c.bank == 1)
    if c.table = 1 then
      s.lkpResult { tag := c.tag, status := 0, ovf := false, loc := c.vid, data := vlanWords (SMap.getD b.vlan c.vid {}) }
    else
      let ovf := bitOf c.keyLo 16 == 1
      let idx := c.keyLo % 2 ^ 16
      if c.keyLo / 2 ^ 17 ≠ 0 ∨ (ovf ∧ ovfCount ≤ idx) then s.lkpResult (plainResult c 6)
      else s.lkpResult (entryResult c 0 ⟨ovf, idx⟩ (b.at ⟨ovf, idx⟩))

/-- Whether the pending register holds a key. -/
def LkpImg.pends (i : LkpImg) (da vid : Nat) : Bool := match i.pend with | some p => p.da == da && p.vid == vid | none => false

/-- INSERT. A key held in the pending register is present (R283). -/
def execInsert (s : State) : Result :=
  lkpRow 3 s fun c s =>
    if c.table = 1 then s.lkpResult (plainResult c 6)
    else
      let idle := c.bank == 1
      let i := s.lkpOf s.actPlane
      match (i.bank idle).find (s.seedOf idle) c.da c.vid with
      | some l => s.lkpResult (entryResult c 2 l ((i.bank idle).at l))
      | none =>
        if !idle && i.pends c.da c.vid then s.lkpResult (plainResult c 2)
        else
          let p := s.insertEntry s.actPlane idle c.entry
          let t := s.lkpBoth fun _ _ => p.1
          match p.2 with
          | .placed l e => t.lkpResult (entryResult c 0 l e)
          | .pending e => t.lkpResult { plainResult c 4 with data := entWords e }
          | .full => t.lkpResult (plainResult c 3)

/-- WRITE of a VLAN entry: into the addressed bank, and into both while a rebuild is open (R298). -/
def State.writeVlan (s : State) (c : LkpCmd) : State :=
  let v := vlanOfWords (c.data.getD 0 0) (c.data.getD 1 0)
  let put (b : LkpBank) : LkpBank := { b with vlan := SMap.setD b.vlan {} c.vid v }
  let s := s.lkpBoth fun x s =>
    let i := s.lkpOf x
    s.setLkpOf x {
      i with
      active := if c.bank = 0 ∨ s.rebuildOpen then put i.active else i.active
      idle := if c.bank = 1 ∨ s.rebuildOpen then put i.idle else i.idle } []
  s.lkpResult { tag := c.tag, status := 0, ovf := false, loc := c.vid, data := vlanWords v }

/-- WRITE. -/
def execWrite (s : State) : Result :=
  lkpRow 4 s fun c s =>
    if c.table = 1 then s.writeVlan c
    else
      let idle := c.bank == 1
      let i := s.lkpOf s.actPlane
      match (i.bank idle).find (s.seedOf idle) c.da c.vid with
      | none => s.lkpResult (plainResult c 1)
      | some l =>
        let old := (i.bank idle).at l
        if old.img then s.lkpResult (entryResult c 8 l old)
        else if c.cond && old.gen != c.gen then s.lkpResult (entryResult c 5 l old)
        else
          let new := c.entry
          let p := if sameContents old new then (s, { new with gen := old.gen }) else s.withGen s.actPlane new
          let t := s.lkpBoth fun x _ =>
            let i := p.1.lkpOf x
            p.1.setLkpAt x idle (i.setBank idle ((i.bank idle).put l p.2)) [l]
          t.lkpResult (entryResult c 0 l p.2)

/-- DELETE: the entry is invalidated with a new generation, then the pending entry is retried and the overflow drained (R281, R284, R296). -/
def execDelete (s : State) : Result :=
  lkpRow 5 s fun c s =>
    if c.table = 1 then s.lkpResult (plainResult c 6)
    else
      let idle := c.bank == 1
      let i := s.lkpOf s.actPlane
      match (i.bank idle).find (s.seedOf idle) c.da c.vid with
      | none => s.lkpResult (plainResult c 1)
      | some l =>
        let old := (i.bank idle).at l
        if old.img then s.lkpResult (entryResult c 8 l old)
        else if c.cond && old.gen != c.gen then s.lkpResult (entryResult c 5 l old)
        else
          let t := s.lkpBoth fun x s => (s.removeAt x idle l).preloadRun x
          t.lkpResult (entryResult c 0 l { inval old with gen := i.gen })

/-- Remove by command the dynamic entries of a bank whose destinations meet a mask. Answers how many. -/
def State.flush (s : State) (x : Nat) (idle : Bool) (mask : Nat) (iq0 : Bool) : State × Nat :=
  let hit := ((s.lkpOf x).bank idle).dynamics.filter fun p => (p.2.dest &&& mask) != 0 || (iq0 && p.2.destIq0)
  (hit.foldl (fun s p =>
    match ((s.lkpOf x).bank idle).find (s.seedOf idle) p.2.da p.2.vid with
    | some l => s.removeAt x idle l
    | none => s) s, hit.length)

/-- FLUSH_DYNAMIC of the bank that BANK names (R303): its result follows at its completion, and the commands behind it wait for a boundary
after that (R301). -/
def execFlushDynamic (s : State) : Result :=
  lkpRow 6 s fun c s =>
    if c.table = 1 then s.lkpResult (plainResult c 6)
    else
      let mask := c.data.getD 2 0
      let iq0 := bitOf (c.data.getD 1 0) 0 == 1
      let idle := c.bank == 1
      let n := (s.flush s.actPlane idle mask iq0).2
      let t := s.lkpBoth fun x s => (s.flush x idle mask iq0).1.preloadRun x
      { t with lkp := { t.lkp with
        due := 1
        long := some { tag := c.tag, status := 0, ovf := bitOf n 16 == 1, loc := n % 2 ^ 16, data := [] } } }

/-- OPEN_REBUILD (R298). -/
def execOpenRebuild (s : State) : Result :=
  lkpRow 7 s fun c s =>
    let t := s.lkpBoth fun x s =>
      let i := s.lkpOf x
      s.setLkpOf x { i with idle := { vlan := i.active.vlan } } []
    let t := (t.wr LKP_SEED_IDLE_SEED [] c.keyLo).wr LKP_STATUS_REBUILD_OPEN [] 1
    { t with lkp := { t.lkp with long := some (plainResult c 0), due := 1 } }

/-- A delta line with the roles of the two banks exchanged. -/
def flipLine (l : Nat) : Nat :=
  if lineBucket 0 ≤ l ∧ l < lineLkp then lineIdle l
  else if lineIdle (lineBucket 0) ≤ l ∧ l < lineIdle lineLkp then l - lineIdle 0
  else l

/-- Copied state with the two banks exchanged. -/
def flipImg (i : PlaneImg) : PlaneImg := { i with lkp := { i.lkp with active := i.lkp.idle, idle := i.lkp.active } }

/-- Exchange the roles of the two banks in a plane (R298), and with it what its changed lines and its delta name. -/
def State.flipBanks (s : State) (x : Nat) : State :=
  let p := s.plane x
  s.setPlane x { p with
    img := flipImg p.img, changed := p.changed.map flipLine
    delta := p.delta.map fun d => { d with img := flipImg d.img, lines := d.lines.map flipLine } }

/-- The pending entry is retried in the new active bank (R298). An entry that the driver has put there under the same key settles it. -/
def State.swapPending (s : State) (x : Nat) : State :=
  let i := s.lkpOf x
  match i.pend with
  | none => s
  | some e =>
    match i.active.find s.seedActive e.da e.vid with
    | some l => s.settlePending x e l
    | none => s.retryPending x

/-- SWAP_BANKS (R298, R299). -/
def execSwapBanks (s : State) : Result :=
  lkpRow 8 s fun c s =>
    if !s.rebuildOpen || s.on LKP_STATUS_MIRROR_FAIL [] then s.lkpResult (plainResult c 7)
    else
      let a := s.seedActive
      let b := s.seedIdle
      let s := (s.wr LKP_SEED_ACTIVE_SEED [] b).wr LKP_SEED_IDLE_SEED [] a
      let s := (s.wr LKP_STATUS_ACTIVE_BANK [] (1 - s.rd LKP_STATUS_ACTIVE_BANK [])).wr LKP_STATUS_REBUILD_OPEN [] 0
      let s := s.wrBoth LKP_CTRL_WALK_PAUSE [] 1
      let s := (s.flipBanks 0).flipBanks 1
      (s.lkpBoth fun x s => (s.swapPending x).preloadRun x).lkpResult (plainResult c 0)

/-- CLOSE_REBUILD (R299). -/
def execCloseRebuild (s : State) : Result :=
  lkpRow 9 s fun c s =>
    ((s.wr LKP_STATUS_REBUILD_OPEN [] 0).wr LKP_STATUS_MIRROR_FAIL [] 0).lkpResult (plainResult c 0)

/-- DROP_PENDING. -/
def execDropPending (s : State) : Result :=
  lkpRow 10 s fun c s =>
    match (s.lkpOf s.actPlane).pend with
    | none => s.lkpResult (plainResult c 1)
    | some _ =>
      let t := s.lkpBoth fun x s => (s.setLkpOf x { s.lkpOf x with pend := none } []).preloadRun x
      t.lkpResult (plainResult c 0)

/-- LKP_LONG_CMD_DONE: FLUSH_DYNAMIC or OPEN_REBUILD completes and the commands behind it go on (R301). -/
def execLkpLongCmdDone (s : State) : Result :=
  onLogic s fun s =>
    match s.lkp.long with
    | none => s
    | some r => State.dropBadOps 64 (({ s with lkp := { s.lkp with long := none } } : State).lkpResult r)

/-- What a pop of the result queue gives, in the result registers (R304); what a marker or a result states no value for is free. -/
def State.showLkpRes (s : State) (p : Popped LkpRes) : State :=
  let freeData (s : State) : State := (List.range 4).foldl (fun s i => s.wrFree LKP_RES_DATA_DATA [i]) s
  match p with
  | .empty => s.wr LKP_RES_HEAD_VALID [] 0
  | .marker g =>
    let s := ((s.wr LKP_RES_HEAD_VALID [] 1).wr LKP_RES_HEAD_GAP [] 1).wr LKP_RES_LOC_LOC [] g.count
    freeData (((s.wrFree LKP_RES_HEAD_TAG []).wrFree LKP_RES_HEAD_STATUS []).wrFree LKP_RES_LOC_OVF [])
  | .item r =>
    let s := (((s.wr LKP_RES_HEAD_VALID [] 1).wr LKP_RES_HEAD_GAP [] 0).wr LKP_RES_HEAD_TAG [] r.tag).wr LKP_RES_HEAD_STATUS [] r.status
    let s := (s.wr LKP_RES_LOC_OVF [] (if r.ovf then 1 else 0)).wr LKP_RES_LOC_LOC [] r.loc
    if r.data.isEmpty then freeData s
    else (r.data.zipIdx).foldl (fun s p => s.wr LKP_RES_DATA_DATA [p.2] p.1) s

/-- LKP_RES_POP (R55). A command that found the result queue full waits for a later boundary (R301). Fields that a result or a gap marker does not define are free values. -/
def execLkpResPop (s : State) : Result :=
  onLogic s fun s =>
    let p := s.lkp.results.pop
    let due := if s.resultRoom then s.lkp.due else 0
    (({ s with lkp := { s.lkp with results := p.2, due := due } } : State).lkpConds).showLkpRes p.1

/-! ### The walker (R305, R306) -/

/-- Locations that the shadow region covers. -/
def State.walkCover (s : State) : Nat := min 66048 (16 * s.rd CST_SHADOW_CELLS [])

/-- The location at a walker position. -/
def walkLoc (p : Nat) : Loc := if p < 65536 then ⟨false, p⟩ else ⟨true, p - 65536⟩

/-- The four words of a location's shadow. -/
def State.shadowWords (s : State) (p : Nat) : List Nat :=
  (List.range 4).map fun i => ofLe ((List.range 4).map fun k => s.cellByte (256 * s.shadowFirst + 16 * p + 4 * i + k))

/-- The words compared by the walker: every bit but ENT3 [31:20]. -/
def walkMasked (ws : List Nat) : List Nat := ws.take 3 ++ [ws.getD 3 0 % 2 ^ 20]

/-- A copy that is valid and static. -/
def walkStatic (ws : List Nat) : Bool := bitOf (ws.getD 1 0) 3 == 1 && bitOf (ws.getD 1 0) 2 == 1

/-- WALKER_VISIT: the walker compares its next location (R306). -/
def execWalkerVisit (s : State) : Result :=
  onLogicIf s (s.on LKP_CTRL_WALK_EN [] && !s.on LKP_CTRL_WALK_PAUSE [] && s.walkCover != 0) fun s =>
    let n := s.walkCover
    let p := s.lkp.walkPos % n
    let l := walkLoc p
    let own := entWords ((s.lkpOf s.actPlane).active.at l)
    let sh := s.shadowWords p
    let s :=
      if (walkStatic own || walkStatic sh) && walkMasked own != walkMasked sh then
        let s := (s.bump LKP_CNT_WALK_MISMATCH_CNT []).irq pgLKP 2
        if s.on LKP_WALK_MISS_VALID [] then s
        else ((s.wr LKP_WALK_MISS_VALID [] 1).wr LKP_WALK_MISS_OVF [] (if l.ovf then 1 else 0)).wr LKP_WALK_MISS_LOC [] l.idx
      else s
    let s := { s with lkp := { s.lkp with walkPos := (p + 1) % n } }
    if p + 1 = n then s.bump LKP_CNT_WALK_PASS_CNT [] else s

end Sys2Proof.Machine
end

