-- ==== Sys2Proof/Machine/Ethernet.lean ====
section
/-! DEFINITION. The commands of the Ethernet quays (chapter 10). -/

namespace Sys2Proof.Machine

/-- The FEC codewords of a frame that were corrected and that were not (R358). -/
def State.fecCount (s : State) (q corr uncorr : Nat) : State :=
  if isSerialQ q && s.rd QYE_CTRL_FEC [q] != 0 then
    let s := s.bumpBy QYE_CNT_FEC_CORR_CNT [q] corr
    if uncorr = 0 then s else (s.bumpBy QYE_CNT_FEC_UNCORR_CNT [q] uncorr).irq (pgQ q) 8
  else s

/-- ETH_FRAME_RECEIVED: a frame ends, with its bytes before the FCS, whether the FCS held, whether a symbol error occurred, the FEC codewords
corrected and not corrected in it, and its stamp (R358, R361–R367, R440, R608, R659). -/
def execEthFrameReceived (q : Nat) (bytes : List Nat) (fcsOk symbolErr : Bool) (corr uncorr stamp : Nat) (s : State) : Result :=
  onLogicIf s (isEthQ q && s.hears q && s.on QYE_STATUS_LINK [q]) fun s =>
    let s := s.fecCount q corr uncorr
    let symbolErr := symbolErr || (isSerialQ q && s.rd QYE_CTRL_FEC [q] != 0 && uncorr != 0)
    if (s.quay q).testing then (s.bump SUP_CNT_ST_LOST_CNT []).discardLanding q
    else
      let v := s.ethCheck q bytes fcsOk symbolErr
      if v.row = 6 then
        let s := s.ethRxStamp q stamp bytes
        if s.toTimeEngine q bytes then s.discardLanding q
        else
          let p := s.takeLanded q bytes stamp
          match p.2 with
          | none => p.1
          | some f =>
            let s := p.1
            let hit := s.rxMeets q 2
            let s := hit.1
            if hit.2.isSome then (((s.dropFrame f).errU (pgQ q) 0x03 1).rxOverflow q).logRxDrop q 8 bytes.length 3 false
            else
              let r := s.ethLand q f false
              if r.2 then
                let s := (r.1.bump QYE_CNT_RX_OK_CNT [q]).bump64 QYE_CNT_RX_OCTETS_HI_CNT QYE_CNT_RX_OCTETS_LO_CNT [q] bytes.length
                (s.segmentUsed q).drainWake q (if isT1sQ q ∧ s.rd LFE_WAKE_MODE [q] = 1 then some 5 else none) none
              else r.1
      else
        let s := s.bump (ethRowCounter v.row) [q]
        if v.keep then
          let p := s.takeLanded q v.bytes stamp
          match p.2 with
          | none => p.1
          | some f =>
            let r := p.1.ethLand q f true
            if r.2 then r.1.bump QYE_CNT_RX_BAD_DELIVERED_CNT [q] else r.1
        else (s.discardLanding q).logRxDrop q v.row bytes.length 3 v.bad

/-- ETH_TX_START: the quay may start a frame: the highest eligible queue, after the tag edit and the length check (R265, R368–R371, R378,
R383, R390). -/
def execEthTxStart (q : Nat) (s : State) : Result :=
  onLogicIf s (isEthQ q && s.on LFE_CTRL_TX_EN [q] && s.quayAwake q) fun s =>
    if !s.on QYE_STATUS_LINK [q] then s.linkDrop q
    else if s.quayMode q != 3 || s.segment q != 0 || (s.quay q).tx.isSome || s.safeLine q || s.on LFE_STATUS_MEAS_BUSY [q] then s
    else
      let s := s.advanceCredit q
      let s := (List.range 8).foldl (fun s i => s.longDrop q i (s.egress q i).length) s
      match s.ethSelect q with
      | some i => s.ethStart q i
      | none => s

/-- ETH_TX_END: the frame in transmission ends on the line, with its transmit stamp (R372, R373). -/
def execEthTxEnd (q stamp : Nat) (s : State) : Result := onLogicIf s (isEthQ q) fun s => s.ethEnd q stamp

/-- ETH_CUT_TOO_LONG: MAX_LEN + 1 bytes of a frame started under cut-through have been sent (R371). -/
def execEthCutTooLong (q : Nat) (s : State) : Result :=
  onLogicIf s (isEthQ q && (match (s.quay q).tx with | some t => t.cut | none => false)) fun s =>
    match (s.quay q).tx with
    | some t =>
      match t.item with
      | some it =>
        let bytes := (s.ethEdit q it.r (s.frameBytes it.frame)).1
        if bytes.length ≤ s.rd QYE_FRAME_MAX_LEN [q] then s
        else
          let s := s.out (.line q (bytes.take (s.rd QYE_FRAME_MAX_LEN [q] + 1)) false)
          ((s.bump QYE_CNT_TX_LONG_CNT [q]).irq (pgQ q) 3).ethAbort q 6 3
      | none => s
    | none => s

/-- ETH_LINK_DOWN: the PHY reports the link down (R368); on T1 a fall starts a TDR with AUTO_TDR = 1 (R402). -/
def execEthLinkDown (q : Nat) (s : State) : Result :=
  onLogicIf s (isEthQ q) fun s =>
    let fell := s.on QYE_STATUS_LINK [q]
    let s := (s.setQuay q { s.quay q with phyUp := false }).linkUpdate q
    let s := if s.on LFE_CTRL_TX_EN [q] then s.linkDrop q else s
    if isT1Q q && fell && s.on LFE_CTRL_AUTO_TDR [q] && s.on PG_STATE_ENABLED [pgLFE q] && (s.front q).meas.isNone then
      s.tdrStart q false
    else s

/-- ETH_LINK_UP: the PHY reports the link up (R368); codes NO_LINK and OPEN clear (Table 11-2). On T1 where the PHY also reports whether training found
the receive pair reversed (R398), and the signal quality. -/
def execEthLinkUp (q : Nat) (reversed : Bool) (sqi : Nat) (s : State) : Result :=
  onLogicIf s (isEthQ q) fun s =>
    let s := if isT1Q q then (s.setB LFE_STATUS_POL_INV [q] reversed).wr LFE_STATUS_SQI [q] sqi else s
    let s := (s.setQuay q { s.quay q with phyUp := true }).linkUpdate q
    if s.hasFault q 0x11 || s.hasFault q 0x12 then s.dropFaults q [0x11, 0x12] else s

/-- USX_CODE_WORD: the external PHY reports a rate code and whether its link is up (R357). -/
def execUsxCodeWord (q code : Nat) (up : Bool) (s : State) : Result :=
  onLogicIf s (isSerialQ q && code ≤ 4 && (usxCode (s.rd QYE_CTRL_SPEED [q])).isSome) fun s =>
    ((s.wr QYE_STATUS_USX_SPEED [q] code).setQuay q { s.quay q with phyUp := up }).linkUpdate q

/-- Whether a T1S quay works by CSMA/CD (R376, R377). -/
def State.csma (s : State) (q : Nat) : Bool := isT1sQ q && !(s.on QYE_PLCA_EN [q] && s.on QYE_STATUS_PLCA_ACTIVE [q])

/-- COLLISION: a collision of the frame in transmission, late when it follows the first 64 bytes (R376). -/
def execCollision (q : Nat) (late : Bool) (s : State) : Result :=
  onLogicIf s (s.csma q && (match (s.quay q).tx with | some t => t.item.isSome | none => false)) fun s =>
    match (s.quay q).tx with
    | some t =>
      match t.item with
      | some it =>
        let s := ((s.advanceCredit q).setQuay q { s.quay q with tx := none }).bump QYE_CNT_COLLISION_CNT [q]
        let it := { it with attempts := it.attempts + 1 }
        let i := t.queue
        if late then ((s.bump QYE_CNT_LATE_COLL_CNT [q]).irq (pgQ q) 6).collisionDrop q t it
        else if s.rd QYE_CSMA_ATTEMPT_LIMIT [q] ≤ it.attempts then ((s.bump QYE_CNT_EXCESS_COLL_CNT [q]).irq (pgQ q) 5).collisionDrop q t it
        else if bitOf (s.gate q).schedMask i = 1 ∧ bitOf (s.gate q).openMask i = 0 then (s.release it.frame (.reader q)).flushItem q i it 1
        else if (it.emit.map fun e => decide (e < s.stroke)) = some true then (s.release it.frame (.reader q)).flushItem q i it 2
        else (s.putEgress q i (it :: s.egress q i)).release it.frame (.reader q)
      | none => s
    | none => s

/-- ETH_MODE_APPLIED: no frame is in progress and the pending MODE takes effect (R360). -/
def execEthModeApplied (q : Nat) (s : State) : Result :=
  onLogicIf s (isEthQ q && (s.quay q).oldMode.isSome && (s.quay q).tx.isNone && !s.receiving q) fun s =>
    (((s.setQuay q { s.quay q with oldMode := none }).wr QYE_STATUS_MODE_PENDING [q] 0).irq (pgQ q) 10).linkUpdate q

/-- QYE_FLUSH of queue i (Table 10-6). -/
def execQyeFlush (q i : Nat) (s : State) : Result := onLogicIf s (isEthQ q && i < 8) fun s => s.ethFlushQueue q i

/-- PLCA_INACTIVE, while EN = 1 and PLCA_ACTIVE is 0 (Table 10-9). -/
def State.plcaCond (s : State) (q : Nat) : State := s.cond (pgQ q) 11 (s.on QYE_PLCA_EN [q] && !s.on QYE_STATUS_PLCA_ACTIVE [q])

/-- QYE_PLCA has been committed: without EN the quay does not take part in PLCA (R376, R377). -/
def State.plcaAfter (s : State) (q : Nat) : State :=
  (if s.on QYE_PLCA_EN [q] then s else s.wr QYE_STATUS_PLCA_ACTIVE [q] 0).plcaCond q

/-- PLCA_STATUS_CHANGE: Clause 148 reports the PLCA status (R377). -/
def execPlcaStatusChange (q : Nat) (active : Bool) (s : State) : Result :=
  onLogicIf s (isT1sQ q && s.on QYE_PLCA_EN [q]) fun s => (s.setB QYE_STATUS_PLCA_ACTIVE [q] active).plcaCond q

end Sys2Proof.Machine
end

