-- ==== Sys2Proof/Machine/Planes.lean ====
section
/-! DEFINITION. The commands of the pump planes: intake, decision, acceptance, faults, takeover, rejoin (chapter 4). -/

namespace Sys2Proof.Machine

/-! ### Intake (R130–R132) -/

/-- The writers' FIFOs in the order of the round-robin from a position. -/
def fifoOrder (from_ : Nat) : List Nat := (List.range 68).map fun i => (from_ + i) % 68

/-- Whether the head of a writer's FIFO carries a priority mark (R132). -/
def State.headMark (s : State) (w : Nat) : Option Bool :=
  match (s.ingr w).fifo.items with
  | (_, m) :: _ => some m
  | [] => match (s.ingr w).fifo.gap with
    | some _ => some false
    | none => (s.ingr w).fifo.after.head?.map fun p => p.2

/-- The FIFO served next: the first marked head in round-robin order, otherwise the first head (R132). DESIGN CHOICE (log 7): one round-robin
pointer serves marked and unmarked heads, and a mark counts only at the head of its FIFO; the rule says neither. -/
def State.nextFifo (s : State) : Option Nat :=
  let o := fifoOrder s.cst.rr
  (o.find? fun w => s.headMark w == some true).or (o.find? fun w => (s.headMark w).isSome)

/-- The intake sequencer gives a descriptor its DESC_SEQ and delivers it to every plane in service (R130). -/
def State.intake (s : State) (d : Desc) : State :=
  let seq := s.cst.descSeq
  let s := match s.frame? d.cell with
    | some o => s.putFrame d.cell { o with seq := some seq }
    | none => s
  s.setCst { s.cst with
    descSeq := (seq + 1) % 2 ^ 32, inbox := s.cst.inbox ++ [(d, seq, [0, 1].filter fun x => s.inService x)] }

/-- The FIFO whose turn it is is popped. A gap marker at its head is taken and delivers nothing. -/
def State.popFifo (s : State) (w : Nat) : State :=
  let i := s.ingr w
  let p := i.fifo.pop
  let s := s.putIngr w { i with fifo := p.2 }
  let s := s.setCst { s.cst with rr := (w + 1) % 68 }
  match p.1 with
  | .item (d, _) => s.intake d
  | _ => s

/-- DESCRIPTOR_INTAKE. -/
def execDescriptorIntake (s : State) : Result := onLogic s fun s => match s.nextFifo with | none => s | some w => s.popFifo w

/-- FORWARDING_DECISION: the planes in service decide the oldest descriptor in the same clock (R130, R133). -/
def execForwardingDecision (s : State) : Result :=
  onLogic s fun s =>
    match s.cst.inbox with
    | [] => s
    | (d, seq, planes) :: rest =>
      let s := s.setCst { s.cst with inbox := rest }
      let xs := planes.filter fun x => s.inService x
      let idle := xs.filter fun x => s.role x == roleStandby
      let act := xs.filter fun x => s.role x != roleStandby
      let after := idle.foldl (fun t x => t.setPlane x (((s.asPlane x).decideStandby x d seq).plane x)) s
      let after := idle.foldl (fun t x => t.countDecision x) after
      act.foldl (fun t x => t.decideActing x d seq) after

/-- RECORD_ACCEPT: consumer `port` receives its oldest record, as carried or as `got`. Ports 0–63 are the quays, 64–67 IQ0–IQ3, 68 the
berth queues. -/
def execRecordAccept (port : Nat) (got : Option Rec) (s : State) : Result := onLogic s fun s => s.receiveRecord port got

/-- CHECK_WORD_QUERY by consumer `port`. -/
def execCheckWordQuery (port : Nat) (s : State) : Result := onLogic s fun s => s.queryOther port

/-- CLAIM_REFRESH_TIMEOUT of plane x (R145): the claim counts as 0 and error 0x06 takes the plane out. -/
def execClaimRefreshTimeout (x : Nat) (s : State) : Result :=
  onLogicIf s (decide (x < 2) && s.inService x) fun s => s.useFresh.planeFault x false 0x06 s.fresh

/-- The fault codes that the detectors of Table 4-4 report: PMx codes 0x02–0x05, 0x07, and TID codes 0x02 and 0x04. -/
def faultCode (tid : Bool) (code : Nat) : Bool :=
  if tid then code == 0x02 || code == 0x04 else (0x02 ≤ code && code ≤ 0x05) || code == 0x07

/-- An uncorrected tide memory error of a plane; in both planes within one stroke it halts execution (Table 3-9, error 0x03). -/
def State.tideMemError (s : State) (x detail : Nat) : State :=
  let both := s.tid.memErr.contains (otherPlane x)
  let s := { s with tid := { s.tid with memErr := x :: s.tid.memErr.filter (fun y => y != x) } }
  if both && s.running then ((s.err pgTID 0x03 4 detail).bump TID_CNT_HALT_CNT []).wr TID_STATUS_EXEC [] exHalted |>.cond pgTID 11 true
  else s

/-- PLANE_FAULT: a detector finds a fault of plane x (R147). `tid` says that the code is a code of the TID pages. -/
def execPlaneFault (x : Nat) (tid : Bool) (code detail : Nat) (s : State) : Result :=
  onLogicIf s (decide (x < 2) && faultCode tid code) fun s =>
    let s := s.planeFault x tid code detail
    if tid && code == 0x02 then s.tideMemError x detail else s

/-- TAKEOVER: at the first stroke boundary after D the plane taking over claims 0x8000 + g + 1 (R146, R154). -/
def execTakeover (s : State) : Result :=
  onLogicIf s (s.bndDue (fun b => b.takeover)) fun s =>
    match [0, 1].find? (fun x => s.role x == roleTakingOver && (s.plane (otherPlane x)).outAt < s.bnd.arrived) with
    | none => s
    | some x =>
      let s := { s with bnd := { s.bnd with takeover := true } }
      if 0x7FFF ≤ s.switchGen then s.errU (pgPM x) 0x0E 5
      else
        let g := s.switchGen + 1
        let s := (({ s with switchGen := g } : State).setClaim x (0x8000 + g)).setRole x roleActive
        let t := s.bnd.time / nsUnit
        let s := (s.wr PM_TAKEOVER_NS_NS [x] (t % nsPerS)).wr PM_TAKEOVER_S_S [x] (t / nsPerS)
        let s := (s.bump PM_CNT_TAKEOVER_CNT [x]).irq (pgPM x) 1
        s.markAt 0xFFFF0004 s.bnd.time

/-- The plane that holds a delta received and not committed. -/
def State.deltaPlane (s : State) : Option Nat := [0, 1].find? fun x => (s.plane x).delta.isSome

/-- DELTA_SEAL_ARRIVE: the seal of the delta arrives, its CRC correct or not (R149). -/
def execDeltaSealArrive (crcOk : Bool) (s : State) : Result :=
  onLogic s fun s =>
    match s.deltaPlane with
    | none => s
    | some y =>
      let p := s.plane y
      match p.delta with
      | none => s
      | some d => s.setPlane y { p with delta := some { d with arrived := true, crcOk := crcOk } }

/-- DELTA_COMMIT at slot position 500 (R150). -/
def execDeltaCommit (s : State) : Result :=
  onLogicIf s (!s.bnd.none && s.bnd.time + 500 * slotUnits ≤ s.count) fun s =>
    match s.deltaPlane with
    | none => s
    | some y =>
      let p := s.plane y
      match p.delta with
      | none => s
      | some d =>
        if d.arrived && d.crcOk && d.claim != 0 && s.claim (otherPlane y) == d.claim then
          s.setPlane y { p with delta := none, img := s.commitDelta d p.img }
        else s.dropDelta y

/-- COPY_LINK_ERROR: an uncorrected copy-link error reaches the standby or the rejoining plane (R152, Table 4-6). -/
def execCopyLinkError (s : State) : Result :=
  onLogic s fun s =>
    match [0, 1].find? (fun y => s.role y == roleStandby || (s.role y == roleRejoining && (s.plane y).copying)) with
    | none => s
    | some y =>
      if s.role y = roleStandby then s.goStale y 0x08
      else
        let s := (s.errU (pgPM y) 0x08 1).dropDelta y
        let tries := s.rd PM_STATUS_REJOIN_TRIES [y]
        if tries < 3 then
          let s := s.wr PM_STATUS_REJOIN_TRIES [y] (tries + 1)
          s.setPlane y { s.plane y with rejoinDue := true, rejoinAt := s.now, copying := false }
        else
          let s := (s.setRole y roleFailed).errU (pgPM y) 0x0B 1
          (s.setPlane y { s.plane y with copying := false }).irq (pgPM y) 3

/-- TAKE_OUT of plane x by a master (Table 4-6). -/
def execTakeOut (x : Nat) (m : Master) (s : State) : Result :=
  onLogicIf s (decide (x < 2)) fun s =>
    let c : OutCause := { src := match m with | .host => 2 | .mgp => 3 }
    if s.role x = roleActive ∧ s.role (otherPlane x) = roleStandby then s.leaveActive x c
    else if s.role x = roleStandby then s.enterOut x c
    else s.pmReject x

/-- The self-test of a plane has passed: the plane goes on to rejoin, if asked to (Table 4-6). -/
def State.startRejoin (s : State) (x : Nat) : State :=
  let s := (s.setRole x roleRejoining).wr PM_STATUS_REJOIN_TRIES [x] 1
  s.setPlane x { s.plane x with rejoinDue := true, rejoinAt := s.now, rejoinAsked := false }

/-- REJOIN of plane x (Table 4-6). A REJOIN given while the self-test runs acts when the test passes. -/
def execRejoin (x : Nat) (s : State) : Result :=
  onLogicIf s (decide (x < 2)) fun s =>
    let p := s.plane x
    if s.role x = roleOut then (if p.testing || p.pllLost then s.setPlane x { p with rejoinAsked := true } else s.startRejoin x)
    else if s.role x = roleFailed then
      let s := (s.setRole x roleOut).setPlane x { p with testing := true, outAt := s.now }
      (s.bump PM_CNT_TAKEN_OUT_CNT [x]).irq (pgPM x) 0
    else s.pmReject x

/-- A self-test fails (error 0x0A). -/
def State.selfTestFail (s : State) (x site : Nat) : State :=
  let s := ((s.setRole x roleFailed).wr PM_SELFTEST_RESULT [x] 2).wr PM_SELFTEST_SITE [x] site
  let s := s.setPlane x { s.plane x with testing := false, pllLost := false, rejoinAsked := false }
  (s.errU (pgPM x) 0x0A 1).irq (pgPM x) 4

/-- A start-up self-test fails: PMx_OUT_CAUSE takes SRC 4 with the error's CODE and DETAIL (Tables 4-6 and 4-8). -/
def State.startTestFail (s : State) (x site : Nat) : State :=
  let s := (s.wr PM_OUT_CAUSE_SRC [x] 4).wr PM_OUT_CAUSE_CODE [x] 0x0A
  let detail := s.fresh
  (s.wr PM_OUT_CAUSE_DETAIL [x] (detail % 2 ^ 20)).selfTestFail x site

/-- PLL_RELOCK of plane x (R160): the test starts, or fails with a site that Table 4-13 does not give (a free value). -/
def execPllRelock (x : Nat) (ok : Bool) (s : State) : Result :=
  onLogicIf s (decide (x < 2) && s.role x == roleOut && (s.plane x).pllLost) fun s =>
    if ok && s.now ≤ (s.plane x).outAt + 200000 then s.setPlane x { s.plane x with pllLost := false, testing := true }
    else s.useFresh.selfTestFail x s.fresh

/-- PLANE_SELFTEST_DONE of plane x (R160, Table 4-6). -/
def execPlaneSelftestDone (x : Nat) (pass : Bool) (site : Nat) (s : State) : Result :=
  onLogicIf s (decide (x < 2) && s.role x == roleOut && (s.plane x).testing) fun s =>
    if pass then
      let s := (s.wr PM_SELFTEST_RESULT [x] 1).wr PM_SELFTEST_SITE [x] 0
      let asked := (s.plane x).rejoinAsked
      let s := s.setPlane x { s.plane x with testing := false }
      if s.on PM_CTRL_REJOIN_AUTO [x] || asked then s.startRejoin x else s
    else s.selfTestFail x site

/-- REJOIN_START: at a stroke boundary the full copy starts over K strokes (R162). -/
def execRejoinStart (s : State) : Result :=
  onLogicIf s (s.bndDue (fun b => b.rejoin)) fun s =>
    match [0, 1].find? (fun x => s.role x == roleRejoining && (s.plane x).rejoinDue && decide ((s.plane x).rejoinAt < s.bnd.arrived) && s.role (otherPlane x) == roleActive) with
    | none => s
    | some x =>
      let k := s.copyStrokes
      let s := ((s.wr PM_REJOIN_LEN_K [x] k).wr PM_REJOIN_LEFT_STROKES [x] k).wr PM_REJOIN_SLICE_LINES [x] ((planeImageLines + k - 1) / k)
      let s := s.setPlane x { s.plane x with rejoinDue := false, copying := true, copyFrom := s.bnd.time }
      { s with bnd := { s.bnd with rejoin := true } }

/-- REJOIN_COMPLETE: the copy is complete and its final seal correct (Table 4-6). The delta of the last stroke of the copy is still to be
committed (R150, R162). -/
def execRejoinComplete (s : State) : Result :=
  onLogic s fun s =>
    match [0, 1].find? (fun x => s.role x == roleRejoining && (s.plane x).copying && s.rd PM_REJOIN_LEFT_STROKES [x] == 0) with
    | none => s
    | some x =>
      let s := s.setPlane x { s.plane x with copying := false, skipped := none, changed := [], mismatches := 0 }
      let s := s.ownDone x
      let s := ((s.setClaim x 0).setRole x roleStandby).markAt 0xFFFF0005 s.count
      (s.bump PM_CNT_REJOIN_CNT [x]).irq (pgPM x) 2

end Sys2Proof.Machine
end

