-- ==== Sys2Proof/Machine/InstallOps.lean ====
section
/-! DEFINITION. Verification of an image by the block, and an image's coming into force in every block that holds image contents: at a swap
and at restore (R96, R104, R107, R184, R245, R273, R297, R308, R715). -/

namespace Sys2Proof.Machine

/-! ### Verification -/

/-- What the checks of Table 3-6 compare an image of `loaded` bytes with, where its key had generation `gen` at the hand-over (R537). -/
def State.verifyCtx (s : State) (m : Mem) (loaded gen : Nat) : VerifyCtx :=
  let k := imgKeySlot m
  let x := s.keySlot k
  { loaded := loaded, minSeq := s.rd TID_MIN_SEQ_SEQ [], revLogic := s.rd DEV_REV_LOGIC [], revIo := s.rd DEV_REV_IO []
    pkgId := Config.packageId % 2 ^ 64, keyOk := s.usable k && x.use == 2 && x.gen == gen, cmac := aesCmac x.key (imgCmacBytes m)
    shadowCells := s.rd CST_SHADOW_CELLS [], profiles := (List.range 16).map fun p => s.rd CPH_PROF_A_KIND [p] }

/-- The first failing check of an image, with the offset it names. -/
def State.verifyMem (s : State) (m : Mem) (loaded gen : Nat) : VFail := verifyImage (s.verifyCtx m loaded gen) m

/-- Show the header of the shadow image. -/
def State.showShadow (s : State) (m : Mem) : State :=
  (((s.wr TID_SHD_LEN_L [] (imgTideLen m)).wr TID_SHD_SEQ_SEQ [] (imgSeq m)).wr TID_SHD_CRC_CRC [] (imgCrc m)).wr TID_SHD_ACTIONS_CNT []
    (imgActions m)

/-- Show the header of the active image. -/
def State.showActive (s : State) (m : Mem) : State :=
  let s := (((s.wr TID_ACT_LEN_L [] (imgTideLen m)).wr TID_ACT_SEQ_SEQ [] (imgSeq m)).wr TID_ACT_CRC_CRC [] (imgCrc m)).wr
    TID_ACT_ACTIONS_CNT [] (imgActions m)
  (List.range 4).foldl (fun s i => s.wr TID_ACT_VTAG_TAG [i] (Mem.le m (0x18 + 4 * i) 4)) s

/-! ### Berths (R107, R245) -/

/-- The runtime state that a block of an image gives its berth, activated in a stroke. -/
def runtimeOfBlock (blk : List Nat) (stroke : Nat) : BerthRt :=
  { tokens := ofLe ((blk.drop 0x28).take 4), meterStroke := stroke % 2 ^ 24, fresh := ofLe ((blk.drop 0x30).take 8) }

/-- The runtime state of a plane's berths under an incoming image: carried where CARRY is set and the berth was valid, else as in the
incoming block. -/
def carryRuntime (blocks : List (Nat × List Nat)) (old : List Nat) (stroke : Nat) (now_ : SMap BerthRt) : SMap BerthRt :=
  blocks.foldl (fun m p =>
    let c := berthOfBytes (p.2.take 40)
    if c.carry && old.contains p.1 then SMap.setD m {} p.1 (SMap.getD now_ p.1 {}) else SMap.setD m {} p.1 (runtimeOfBlock p.2 stroke)) []

/-- Put the berths of an image in force, in both planes. -/
def State.installBerths (s : State) (m : Mem) (stroke : Nat) : State :=
  let blocks := (imgBerths m).zipIdx.map fun p => (p.1, imgBerthBlock m p.2)
  let old := s.bth.valid
  let carried := (blocks.filter fun p => (berthOfBytes (p.2.take 40)).carry && old.contains p.1).map fun p => p.1
  let cfg := blocks.foldl (fun c p => Mem.puts c (64 * p.1) (p.2.take 40)) ([] : Mem)
  let valid := blocks.map fun p => p.1
  let s := (s.setBth { s.bth with cfg := cfg, valid := valid }).mapOwn fun m => { m with cfg := cfg, valid := valid }
  let s := s.setTid { s.tid with arrived := s.tid.arrived.filter fun b => carried.contains b }
  (s.mapImgs fun i => { i with bth := carryRuntime blocks old stroke i.bth }).wr BTH_ACT_VALID_CNT [] blocks.length

/-- The staging slots are freed unapplied at a swap (R273). -/
def State.swapDiscard (s : State) : State :=
  if s.bth.slots.isEmpty then s else ((s.freeSlots).wr BTH_STATUS_SWAP_DISCARD [] 1).irq pgBTH 4

/-! ### The signal gateway (R184, R715) -/

/-- Jobs of the outgoing image are dropped: those queued, those joined and not yet taken, and the one under way. -/
def State.dropJobs (s : State) : State :=
  let drop (s : State) (it : QItem) : State := (s.jobDrop).release it.frame (.inner 2)
  let s := (s.inner 2).foldl drop s
  let s := s.putInner 2 []
  let s := s.sgw.jobs.all.foldl drop s
  let s := match s.sgw.cur with | some j => drop s j.item | none => s
  s.setSgw { s.sgw with jobs := {}, cur := none }

/-- Records of the outgoing image that are still on their way to IQ2 start no job; their other destinations stand (R715). -/
def State.dropJobRecords (s : State) : State :=
  let n := (s.cst.flow.filter FlowRec.forIq2).length
  let s := s.setCst { s.cst with flow := s.cst.flow.map fun f =>
    { f with todo := clearBitOf f.todo 66, query := clearBitOf f.query 66, taken := clearBitOf f.taken 66 } }
  (List.range n).foldl (fun s _ => s.jobDrop) s

/-- The gateway takes the maps, layouts and tunnels of an image: closed PDUs of the outgoing image are discarded, build areas initialised. -/
def State.installGateway (s : State) (m : Mem) : State :=
  let s := s.dropJobs.dropJobRecords
  let s := s.sgw.closed.foldl (fun s p => s.discardPdu p.1 p.2) s
  let s := s.sgw.packing.foldl (fun s p => s.release p.2.1.frame (.pdu p.1)) s
  let s := s.setSgw { s.sgw with packing := [], packed := [], sweep := 0 }
  let pdu := s.pduInit m
  (s.mapImgs fun i => { i with pdu := pdu }).viewSgw

/-! ### Lookup (R108, R299, R308) -/

/-- An open rebuild is closed by a swap (R299). -/
def State.abortRebuild (s : State) : State :=
  if s.rebuildOpen then ((s.wr LKP_STATUS_REBUILD_OPEN [] 0).wr LKP_STATUS_MIRROR_FAIL [] 0).irq pgLKP 6 else s

/-- The lookup engine takes the VLAN and static entries of an image. -/
def State.installLookup (s : State) (m : Mem) : State := (((s.abortRebuild).lkpBoth fun x s => s.preloadStart x m).viewLkp).lkpConds

/-! ### Gates (R91) -/

/-- The masks of a quay in an image: INIT_MASK and SCHED_MASK. -/
def imgMasks (m : Mem) (q : Nat) : Nat × Nat :=
  match (imgGates m).find? fun g => g.1 == q with
  | some (_, init, sched, _) => (init, sched)
  | none => (0xFF, 0)

/-- The masks at a start of stroke 0: INIT_MASK and SCHED_MASK of each quay, closing queues flushed (Table 3-8). -/
def State.initGates (s : State) (m : Mem) : State :=
  (List.range 64).foldl (fun s q => s.applyGate q (imgMasks m q).1 (imgMasks m q).2 s.count) s

/-- The masks where execution joins a tide: scheduled-class queues closed, the others open (R113). -/
def State.joinGates (s : State) (m : Mem) : State :=
  (List.range 64).foldl (fun s q => let g := imgMasks m q; s.applyGate q (255 ^^^ (g.2 % 256)) g.2 s.count) s

/-- The image of the active tide memory comes into force in every block that holds image contents; `stroke` is the activation stroke. -/
def State.installImage (s : State) (stroke : Nat) : State :=
  let m := s.tid.active
  let s := s.installBerths m stroke
  let s := (s.installGateway m).installLookup m
  (((s.showActive m).trigActivate).viewHck).hwm

end Sys2Proof.Machine
end

