-- ==== Sys2Proof/Machine/RetOps.lean ====
section
/-! DEFINITION. The retained store: its slots, the hold-up check, slot commits and loads, and the error history's and the repair map's
writes (R520–R524, R545–R549, R622–R635, R664, R665, R670, R671). -/

namespace Sys2Proof.Machine

/-- Change the retained store and its writers. -/
def State.setRet (s : State) (r : RetSt) : State := { s with ret := r }

/-- Change the supervisor. -/
def State.setSup (s : State) (x : SupSt) : State := { s with sup := x }

/-! ### Slots (R623, Tables 17-5 and 17-6) -/

/-- Offset of image slot k. -/
def slotBase (k : Nat) : Nat := 0x0BC000 + 0x3A0000 * k

/-- Bytes of an image slot. -/
def slotSize : Nat := 0x3A0000

/-- The fields of a slot header, from its offset. -/
def State.slotLe (s : State) (k ofs n : Nat) : Nat := Mem.le s.ret.store (slotBase k + ofs) n

/-- KEPT_LEN of a slot. -/
def State.slotKept (s : State) (k : Nat) : Nat := s.slotLe k 0x0C 4

/-- IMAGE_LEN of a slot. -/
def State.slotImage (s : State) (k : Nat) : Nat := s.slotLe k 0x18 4

/-- SEQ of a slot. -/
def State.slotSeq (s : State) (k : Nat) : Nat := s.slotLe k 0x08 4

/-- Whether a slot has a header. -/
def State.slotHas (s : State) (k : Nat) : Bool := Mem.bytes s.ret.store (slotBase k) 4 == [0x47, 0x36, 0x53, 0x4C] && s.slotLe k 4 2 == 1

/-- Whether a header's CRC fits its 48 bytes, the kept block and the image. -/
def State.slotCrcOk (s : State) (k : Nat) (header : List Nat) : Bool :=
  let kept := ofLe ((header.drop 0x0C).take 4)
  let img := ofLe ((header.drop 0x18).take 4)
  decide (kept ≤ 0x1F000 ∧ kept % 8 = 0 ∧ img ≤ 0x380000)
    && crc32c (header.take 0x30 ++ Mem.bytes s.ret.store (slotBase k + 0x1000) kept ++ Mem.bytes s.ret.store (slotBase k + 0x20000) img)
      == ofLe ((header.drop 0x30).take 4)

/-- Whether a slot is valid: header and CRC. -/
def State.slotValid (s : State) (k : Nat) : Bool := s.slotHas k && s.slotCrcOk k (Mem.bytes s.ret.store (slotBase k) 0x34)

/-- The image that a slot holds, as a tide memory. -/
def State.slotMem (s : State) (k : Nat) : Mem := Mem.puts [] 0 (Mem.bytes s.ret.store (slotBase k + 0x20000) (s.slotImage k))

/-- Whether a slot is bound to another identity (R628). -/
def State.slotForeign (s : State) (k : Nat) : Bool :=
  s.slotLe k 0x10 8 != Config.packageId % 2 ^ 64 || (s.slotImage k != 0 && Mem.le (s.slotMem k) 0x10 8 != Config.packageId % 2 ^ 64)

/-- Show the state of a slot (Table 17-8); `code` is the code of a failed check. -/
def State.showSlot (s : State) (k : Nat) (code : Option Nat) : State :=
  let st := if !s.slotHas k then 0 else if !s.slotValid k then 2 else if s.slotForeign k then 3 else if code.isSome then 4 else 1
  ((s.wr RET_SLOT_STATE_STATE [k] st).wr RET_SLOT_STATE_VERIFY_CODE [k] (if st = 4 then code.getD 0 else 0)).wr RET_SLOT_SEQ_SEQ [k]
    (if st = 0 then 0 else s.slotSeq k)

/-- The slot that a commit or a load writes (R624). -/
def State.slotTarget (s : State) : Nat :=
  match [0, 1].find? (fun k => !s.slotValid k) with
  | some k => k
  | none =>
    match [0, 1].find? (fun k => s.slotForeign k) with
    | some k => k
    | none => if s.slotSeq 1 < s.slotSeq 0 then 1 else 0

/-- The SEQ of the next slot (R624). -/
def State.slotNextSeq (s : State) : Nat := ([0, 1].filter fun k => s.slotValid k).foldl (fun n k => max n (s.slotSeq k)) 0 + 1

/-! ### The kept block (R66, R67, R623) -/

/-- Every list of indices of a field. -/
def allIndices : List Dim → List (List Nat)
  | [] => [[]]
  | d :: ds => (List.range d.count).flatMap fun j => (allIndices ds).map fun ix => (d.first + j) :: ix

/-- The register fields of the block, each listed once. -/
def everyField : List Fld :=
  regsPage ++ regsSup ++ regsHbr ++ regsHck ++ regsLog ++ regsCph ++ regsKwl ++ regsPm ++ regsTid ++ regsSgw ++ regsLkp ++ regsBth ++ regsCst
    ++ regsQyc ++ regsQye ++ regsLfe ++ regsRet

/-- Whether an occurrence of a field is kept: PG_CTRL.ENABLE only on a page that has an enable. -/
def isKept (f : Fld) (ix : List Nat) : Bool :=
  f.restore == .kept && pageExists (f.page ix) && (f.base != PG_CTRL_ENABLE.base || f.lo != PG_CTRL_ENABLE.lo || pageHasEnable (f.page ix))

/-- Drop repeats that stand next to each other. -/
def dropRepeats : List Nat → List Nat
  | a :: b :: l => if a = b then dropRepeats (b :: l) else a :: dropRepeats (b :: l)
  | l => l

/-- BAR0 offsets of the registers that hold a kept field, ascending. -/
def keptRegisters : List Nat :=
  dropRepeats (List.mergeSort ((everyField.filter fun f => f.restore == .kept).flatMap fun f =>
    ((allIndices f.dims).filter fun ix => isKept f ix).map fun ix => f.addr ix / 32 * 4))

/-- The active value of a register: 0 in its write-only fields. -/
def State.activeWord (s : State) (a : Nat) : Nat :=
  (fieldsAt a).foldl (fun w p =>
    match p.1.acc with
    | .wo => w
    | _ => w + s.rd p.1 p.2 * 2 ^ (p.1.key p.2 % 32)) 0 % 2 ^ 32

/-- The kept block of the registers as they stand. -/
def State.keptBlock (s : State) : List Nat := keptRegisters.flatMap fun a => leBytes 4 a ++ leBytes 4 (s.activeWord a)

/-- Take the kept fields of one record of a kept block into the active and the staging copy, on pages for which `here` holds (R69). -/
def State.loadKept1 (s : State) (here : Nat → Bool) (a w : Nat) : State :=
  (fieldsAt (a / 4 * 4)).foldl (fun s p =>
    if isKept p.1 p.2 && here (p.1.page p.2) then s.wrBoth p.1 p.2 (fieldBitsOf p.1 (p.1.key p.2) w) else s) s

/-- Take the kept fields of the records from an offset of the retained store. -/
def State.loadKeptFrom (here : Nat → Bool) (ofs : Nat) : Nat → State → State
  | 0, s => s
  | n + 1, s => State.loadKeptFrom here (ofs + 8) n (s.loadKept1 here (Mem.le s.ret.store ofs 4) (Mem.le s.ret.store (ofs + 4) 4))

/-- Take the kept block of a slot. -/
def State.loadKept (s : State) (k : Nat) (here : Nat → Bool) : State :=
  State.loadKeptFrom here (slotBase k + 0x1000) (s.slotKept k / 8) s

/-! ### The hold-up check (R632) -/

/-- Take a measurement of HOLDUP_SNS, in µV, or none where it is at a rail or fails its self-check; answers whether a write that needs
`need` µJ may start: none may before a valid measurement (Table 17-14). -/
def State.holdup (s : State) (sns : Option Nat) (need : Nat) : State × Bool :=
  let sns := if s.pwk.snsBad then none else sns
  let s : State := { s with pwk := { s.pwk with snsBad := false } }
  match sns with
  | none => (s.errU pgPWK 0x03 1, false)
  | some v =>
    let vb := v * s.rd PWK_HOLDUP_RATIO_RATIO []
    let vm := s.rd PWK_HOLDUP_CFG_VMIN_MV [] * 16000
    let e := if vb ≤ vm then 0 else s.rd PWK_HOLDUP_CFG_CAP_UF [] * (vb * vb - vm * vm)
    let unit := 512 * 10 ^ 12
    let s := s.wr PWK_HOLDUP_MEAS_VB_MV [] (min 0xFFFF (vb / 16000))
    (s.wr PWK_HOLDUP_E_UJ [] (min 0xFFFFFFFF (e / unit)), decide (3 * need * unit ≤ 2 * e))

/-- A write is refused by the check. -/
def State.holdupRefused (s : State) : State := (s.bump PWK_CNT_HOLDUP_REFUSE_CNT []).irq pgPWK 5

/-! ### Slot commits (R624–R626) -/

/-- COMMIT_BUSY in both pages. -/
def State.commitBusy (s : State) (b : Bool) : State := (s.setB RET_STATUS_COMMIT_BUSY [] b).setB TID_STATUS_COMMIT_BUSY [] b

/-- A slot commit ends: 1 committed, 2 HOLDUP, 3 failed, with its cause. What it still had queued is given up. -/
def State.slotEnd (s : State) (result cause : Nat) : State :=
  let s := s.setRet { s.ret with
    commit := none, queue := s.ret.queue.filter fun w => w.owner != .commit, refused := s.ret.refused.filter fun w => w.1.owner != .commit }
  let s := (((s.commitBusy false).wr RET_STATUS_COMMIT_RESULT [] result).wr RET_STATUS_CAUSE [] cause).wr TID_STATUS_COMMIT_RESULT [] result
  let s := s.bump (if result = 1 then RET_CNT_COMMIT_CNT else RET_CNT_COMMIT_FAIL_CNT) []
  ((s.irq pgRET 0).irq pgTID 4)

/-- COMMIT is accepted (R624, R626). -/
def State.slotCommit (s : State) : State :=
  if s.tid.hasActive && decide (0x380000 < imgLen s.tid.active) then s.slotEnd 3 2
  else
    let k := s.slotTarget
    let s := (s.commitBusy true).wr RET_STATUS_TARGET [] k
    s.setRet { s.ret with commit := some { target := k, seq := s.slotNextSeq, at_ := s.now } }

/-- Whether a COMMIT is rejected: one is busy, or a load is open. -/
def State.commitRefused (s : State) : Bool := s.on RET_STATUS_COMMIT_BUSY [] || s.on RET_STATUS_LOAD_OPEN []

/-- Bytes cut into the pieces of one owner, from an address. -/
def pieces (o : RetOwner) : Nat → Nat → List Nat → List RetWrite
  | 0, _, _ => []
  | n + 1, a, bs => if bs.isEmpty then [] else { owner := o, addr := a, data := bs.take 65536, need := 2600 } :: pieces o n (a + 65536) (bs.drop 65536)

/-- The header of a slot (Table 17-6). -/
def State.slotHeader (s : State) (seq : Nat) (kept image : List Nat) : List Nat :=
  let t := s.stamp
  let h := [0x47, 0x36, 0x53, 0x4C] ++ leBytes 2 1 ++ leBytes 2 0 ++ leBytes 4 seq ++ leBytes 4 kept.length ++ leBytes 8 Config.packageId
    ++ leBytes 4 image.length ++ leBytes 4 (if image.isEmpty then 0 else imgCrc s.tid.active) ++ beBytes 6 (stampS t) ++ beBytes 4 (stampNs t)
    ++ beBytes 2 (stampFr t) ++ [if s.on HCK_STATUS_SET [] then 1 else 0, 0, 0, 0]
  h ++ leBytes 4 (crc32c (h ++ kept ++ image))

/-- The snapshot of a slot commit at its boundary: the kept fields and the active image, and the first of its writes (R625). -/
def State.slotSnapshot (s : State) : State :=
  match s.ret.commit with
  | none => s
  | some c =>
    if c.snapped || decide (s.bnd.arrived ≤ c.at_) then s
    else
      let kept := s.keptBlock
      let image := if s.tid.hasActive then Mem.bytes s.tid.active 0 (imgLen s.tid.active) else []
      let b := slotBase c.target
      let header : RetWrite := { owner := .commit, addr := b, data := padTo 64 (s.slotHeader c.seq kept image), need := 200 }
      let left := pieces .commit 2 (b + 0x1000) kept ++ pieces .commit 56 (b + 0x20000) image ++ [header]
      (s.setRet { s.ret with commit := some { c with snapped := true, left := left } }).retPush
        { owner := .commit, addr := b, data := zeroBytes 64, need := 200 }

/-- A tide swap while a commit copies the image ends it (R626): between the snapshot and the write of the header. -/
def State.slotSwapped (s : State) : State :=
  match s.ret.commit with
  | some c => if c.snapped && !c.left.isEmpty then s.slotEnd 3 3 else s
  | none => s

/-! ### Loads (R630) -/

/-- A load ends with a cause. -/
def State.loadEnd (s : State) (cause : Nat) : State :=
  let s := s.setRet { s.ret with
    load := none, queue := s.ret.queue.filter fun w => w.owner != .load, refused := s.ret.refused.filter fun w => w.1.owner != .load }
  ((s.wr RET_STATUS_LOAD_OPEN [] 0).wr RET_STATUS_CAUSE [] cause).irq pgRET 1

/-- Whether a write of the load is still to come. -/
def State.loadWrites (s : State) : Bool :=
  let mine (o : RetOwner) : Bool := o == .load
  (s.ret.queue.any fun w => mine w.owner) || (s.ret.refused.any fun w => mine w.1.owner) || (match s.ret.active with | some w => mine w.owner | none => false)

/-- The collected piece of a load goes to the retained store: from its first byte to its last, bytes between that were not loaded as they
stand. The header's bytes are kept back. -/
def State.loadPush (s : State) (l : LoadSt) : State :=
  let bs := l.piece.filter fun p => 64 ≤ p.1
  let s := s.setRet { s.ret with load := some { l with piece := [] } }
  match bs with
  | [] => s
  | p :: _ =>
    let lo := bs.foldl (fun m x => min m x.1) p.1
    let hi := bs.foldl (fun m x => max m x.1) p.1
    let b := slotBase l.target
    s.retPush { owner := .load, addr := b + lo, need := 2600, data := (List.range (hi + 1 - lo)).map fun i =>
      match bs.find? (fun x => x.1 == lo + i) with
      | some x => x.2
      | none => Mem.byte s.ret.store (b + lo + i) }

/-- A sealed load whose pieces are written: the header CRC decides. -/
def State.loadSeal (s : State) : State :=
  match s.ret.load with
  | none => s
  | some l =>
    if l.sealing = 1 && !s.loadWrites then
      let h := padTo 64 l.header
      if s.slotCrcOk l.target h then
        (s.setRet { s.ret with load := some { l with sealing := 2 } }).retPush { owner := .load, addr := slotBase l.target, data := h, need := 200 }
      else s.loadEnd 5
    else if l.sealing = 2 && !s.loadWrites then s.loadEnd 0
    else s

/-! ### The error history (R670, R671) -/

/-- Bring the history's registers in line (Table 18-8). -/
def State.viewHistory (s : State) : State :=
  let s := ((s.wr SUP_HIST_HDR_COUNT [] s.sup.histCount).wr SUP_HIST_HDR_WIDX [] s.sup.histIdx).wr SUP_HIST_PEND_CNT []
    (s.sup.history.filter fun h => h.2.2.isSome).length
  (List.range 16).foldl (fun s k => s.wr SUP_HIST_DATA [k] (Mem.le s.ret.store (0xC040 + 64 * s.rd SUP_HIST_SEL_IDX [] + 4 * k) 4)) s

/-- A record is to be written to the error history: the bytes of SUP_REC0–SUP_REC5, and EVENT. -/
def State.histAdd (s : State) (rec : List Nat) (event : Nat) : State :=
  s.setSup { s.sup with history := s.sup.history ++ [(rec, event, none)] }

/-- An event of R670, with its DETAIL in SUP_REC2. -/
def State.histEvent (s : State) (event detail : Nat) : State := s.histAdd (zeroBytes 8 ++ leBytes 4 (detail % 2 ^ 20) ++ zeroBytes 12) event

/-- The 64 bytes of a history record. -/
def State.histBytes (s : State) (rec : List Nat) (event : Nat) : List Nat :=
  let b := padTo 24 rec ++ leBytes 4 s.sup.hseq ++ leBytes 4 s.sup.startCount ++ leBytes 4 event ++ zeroBytes 24
  b ++ leBytes 4 (crc32c b)

/-- A history record has been written: the ring and its header move on. -/
def State.histWritten (s : State) : State :=
  let x := s.sup
  let s := s.setSup { x with histIdx := (x.histIdx + 1) % 1023, histCount := min 1023 (x.histCount + 1), hseq := (x.hseq + 1) % 2 ^ 32 }
  let h := padTo 64 (Config.historyHeader s.sup.histIdx s.sup.histCount s.sup.hseq)
  (s.setRet { s.ret with store := Mem.puts s.ret.store 0xC000 (h.map (· % 256)) }).viewHistory

/-- A history record starts its write, if its hold-up check lets it; else it waits among at most 16 (R671). -/
def State.histTry (s : State) (h : List Nat × Nat × Option Nat) (sns : Option Nat) : State :=
  let s := s.setSup { s.sup with history := s.sup.history.erase h }
  let c := s.holdup sns 100
  let s := c.1
  if c.2 then
    (s.setRet { s.ret with active := some { owner := .history, addr := 0xC040 + 64 * s.sup.histIdx, data := s.histBytes h.1 h.2.1, need := 100 } }).viewHistory
  else
    let s := s.holdupRefused
    if 16 ≤ (s.sup.history.filter fun x => x.2.2.isSome).length then (s.bump SUP_CNT_HIST_DROP_CNT []).errU pgSUP 0x05 1
    else (s.setSup { s.sup with history := s.sup.history ++ [(h.1, h.2.1, some s.now)] }).viewHistory

/-! ### The repair map (R664, R665) -/

/-- The bytes of the repair map. -/
def State.repairBytes (s : State) : List Nat :=
  let es := s.sup.repair.flatMap fun e => [1, 0] ++ leBytes 3 e.cell ++ leBytes 2 e.bit ++ [min 255 e.bits]
  (padTo 64 (Config.repairHeader s.sup.repairSeq s.sup.repair.length (crc32c es))).map (· % 256) ++ es

/-- The repair map is written, if its hold-up check lets it. -/
def State.repairTry (s : State) (sns : Option Nat) : State :=
  let c := s.holdup sns 1400
  if c.2 then
    let s := c.1.setSup { c.1.sup with repairSeq := c.1.sup.repairSeq + 1, repairDirty := false }
    s.setRet { s.ret with active := some { owner := .repair, addr := 0x4000, data := s.repairBytes, need := 1400 } }
  else c.1.holdupRefused

/-! ### A write's end (R625, R703) -/

/-- What a completed write leaves in the retained store. -/
def State.retStore (s : State) (w : RetWrite) : State :=
  match w.owner with
  | .journal | .slotTable | .root => s
  | .repair => (s.setRet { s.ret with store := Mem.puts s.ret.store w.addr w.data }).setSup { s.sup with repairKept := s.sup.repair, repairBad := false }
  | _ => s.setRet { s.ret with store := Mem.puts s.ret.store w.addr w.data }

/-- What a write cut short by the loss of VBAT leaves: unstated bytes, a broken journal, a root copy that fails its check (R549). -/
def State.retBroken (s : State) (w : RetWrite) : State :=
  match w.owner with
  | .journal =>
    match s.kwl.commit with
    | some c =>
      let r := s.kwl.ret
      s.setKwl { s.kwl with ret := if c.journal = 0 then { r with j0 := { r.j0 with valid := false, broken := true } }
        else { r with j1 := { r.j1 with valid := false, broken := true } } }
    | none => s
  | .slotTable => s
  | .root =>
    let r := s.kwl.ret
    s.setKwl { s.kwl with ret := if r.rootTurn then { r with rootA := none } else { r with rootB := none } }
  | .repair => s.setSup { s.sup with repairBad := true }
  | _ =>
    let p := s.random w.data.length
    p.1.setRet { p.1.ret with store := Mem.puts p.1.ret.store w.addr p.2 }

/-- A slot commit goes on to its next write. -/
def State.commitNext (s : State) : State :=
  match s.ret.commit with
  | none => s
  | some c =>
    let s := s.showSlot c.target none
    match c.left with
    | w :: rest => (s.setRet { s.ret with commit := some { c with left := rest } }).retPush w
    | [] => s

/-- The owner of a completed write proceeds. -/
def State.retProceed (s : State) (w : RetWrite) : State :=
  match w.owner with
  | .commit => s.commitNext
  | .load =>
    let s := match s.ret.load with | some l => s.showSlot l.target none | none => s
    s.loadSeal
  | .journal => s.journalWritten
  | .slotTable => s.pieceWritten
  | .root => s.rootWritten
  | .repair => s
  | .history => s.histWritten

/-- A write fails its check: error 0x03 (Table 17-11). A root copy, the repair map or a history record is written again. -/
def State.retFailed (s : State) (w : RetWrite) : State :=
  let s := s.errU pgRET 0x03 1
  match w.owner with
  | .commit => if s.ret.commit.isSome then s.slotEnd 3 4 else s
  | .load => if s.ret.load.isSome then s.loadEnd 4 else s
  | .journal => s.kwlCommitEnd 3
  | .slotTable => s.kwlCommitEnd 3
  | .root => s.retPush w
  | .repair => s.setSup { s.sup with repairDirty := true }
  | .history => s

/-- A write refused 65 times, where its owner has a limit (R110, R546). -/
def State.retLimit (s : State) (w : RetWrite) : State :=
  match w.owner with
  | .commit => s.slotEnd 2 1
  | .load => s.loadEnd 1
  | .journal => s.kwlCommitEnd 2
  | .slotTable => s.kwlCommitEnd 2
  | _ => s

/-- Whether an owner's retries end after 64. -/
def RetOwner.limited : RetOwner → Bool
  | .commit | .load | .journal | .slotTable => true
  | .root | .repair | .history => false

end Sys2Proof.Machine
end

