-- ==== Sys2Proof/Machine/PowerOps.lean ====
section
/-! DEFINITION. Power, the loss of the logic die's state, and the start-up restore (R29, R66–R69, R423, R548, R599–R603, R627–R629,
R683–R690). -/

namespace Sys2Proof.Machine

/-! ### Loss of state -/

/-- The retained write that runs completes: it needs only VBAT and VDDP_M (R703). -/
def State.landActive (s : State) : State :=
  match s.ret.active with
  | none => s
  | some w => ((s.setRet { s.ret with active := none }).retStore w).retProceed w

/-- Whether a retained write is the key well's. -/
def kwlOwner : RetOwner → Bool
  | .journal => true
  | .slotTable => true
  | .root => true
  | _ => false

/-- The key well's writes with the logic die's state lost: the one that runs completes, those that wait are given up. -/
def State.kwlWritesEnd (s : State) : State :=
  let s := match s.ret.active with | some w => if kwlOwner w.owner then s.landActive else s | none => s
  s.setRet { s.ret with
    queue := s.ret.queue.filter fun w => !kwlOwner w.owner, refused := s.ret.refused.filter fun w => !kwlOwner w.1.owner }

/-- A slot commit whose source, the logic die, loses its state ends failed; no rule states its CAUSE. -/
def State.slotLost (s : State) : State := if s.ret.commit.isSome then s.useFresh.slotEnd 3 s.fresh else s

/-- A load whose collected bytes are lost ends aborted. -/
def State.loadLost (s : State) : State := if s.ret.load.isSome then s.loadEnd 6 else s

/-- Whether a page keeps its registers when the logic die's are cleared: the I/O die's pages, and in sleep the RET pages, which lie in the VDDP_M
domain (R633). A reset of the die clears those too (R29, Table 1-1). -/
def stays (ret : Bool) (pg : Nat) : Bool := if ret then pageServedAsleep pg else pageOnIoDie pg

/-- Bring DEV_IRQ_SUM in line with every page. -/
def State.irqSums (s : State) : State :=
  let s := blockRanges.foldl (fun s r => s.irqSum r.first) s
  (List.range 64).foldl (fun s q => s.irqSum (pgQ q)) s

/-- The logic die's registers and everything its blocks hold are cleared (R29, R37); `ret` says whether the RET pages keep theirs. The I/O die, the
retained store and the levels outside the package stay; harbour time is 0 and unset (R423), and the cistern's contents are undefined (R233). -/
def State.logicClear (s : State) (ret : Bool) : State :=
  let s := s.slotLost.kwlWritesEnd
  let keep (r : RegFile) : RegFile := r.filter fun p => stays ret (keyPage p.1)
  let t : State := { ({} : State) with
    regs := keep s.regs, staged := keep s.staged, commits := s.commits.filter fun p => stays ret p.1
    discards := s.discards.filter (stays ret), now := s.now, mode := s.mode, errLines := s.errLines, outs := s.outs
    freeCtr := s.freeCtr, bnd := { num := s.bnd.num }
    quays := (s.quays.filter fun p => p.2.phyUp).map fun p => (p.1, { ({} : QuaySt) with phyUp := true })
    fronts := s.fronts.filter fun p => decide (p.1 < 56), pwk := s.pwk, sup := s.sup, ret := s.ret, kwl := { ret := s.kwl.ret }
    pending := s.pending }
  t.irqSums.loseCells 0 cellCount

/-! ### OFF and START -/

/-- The package goes to OFF: only the retained store keeps its contents (R601). -/
def State.powerOff (s : State) : State :=
  let x := s.sup
  { ({} : State) with
    now := s.now, freeCtr := s.freeCtr, outs := s.outs, pending := s.pending, ret := { store := s.ret.store }, kwl := { ret := s.kwl.ret }
    sup := { repairKept := x.repairKept, repairBad := x.repairBad, repairSeq := x.repairSeq, histIdx := x.histIdx, histCount := x.histCount
             hseq := x.hseq, startCount := x.startCount }
    pwk := { vbat := s.pwk.vbat, rstLow := s.pwk.rstLow, startCause := s.pwk.startCause } }

/-- The package leaves OFF for START. -/
def State.powerStart (s : State) (cause : Nat) : State :=
  let s := ({ s with mode := PkgMode.start } : State).setPwk { s.pwk with startCause := cause }
  s.setSup { s.sup with startCount := (s.sup.startCount + 1) % 2 ^ 32 }

/-- A package reset by the supervisor: through OFF to START, with INH high throughout (R652). -/
def State.packageReset (s : State) (cause : Nat) : State :=
  let s := (s.landActive.powerOff).powerStart cause
  (s.setPwk { s.pwk with powered := true }).wr PWK_STATUS_INH [] 1

/-! ### Restore: repair map and key well (R548, R664) -/

/-- The repair map is loaded at a start-up of the package, before the free lists are built without its cells (R233, R664). -/
def State.repairLoad (s : State) : State :=
  let s :=
    if s.mode = .start && !s.pwk.fromSleep then
      if s.sup.repairBad then (s.setSup { s.sup with repair := [] }).errU pgSUP 0x06 1
      else s.setSup { s.sup with repair := s.sup.repairKept }
    else s
  (s.wr SUP_REPAIR_CNT_CNT [] s.sup.repair.length).setCst { s.cst with excluded := (s.sup.repair.map fun e => e.cell).eraseDups }

/-- The root that a copy's shares give. -/
def RootCopy.root (c : RootCopy) : List Nat := xorBytes c.share0 c.share1

/-- The root copy of a restore: the valid one with the higher sequence (R521). -/
def KwlRet.root (r : KwlRet) : Option (List Nat) :=
  match r.rootA, r.rootB with
  | some a, some b => some (if a.seq < b.seq then b.root else a.root)
  | some a, none => some a.root
  | none, some b => some b.root
  | none, none => none

/-- The valid journals, lower sequence first. -/
def KwlRet.journals (r : KwlRet) : List Journal :=
  let l := [r.j0, r.j1].filter fun j => j.valid
  if r.j1.seq < r.j0.seq then l.reverse else l

/-- The key well without a root: its records are discarded, and a new root is drawn as at first start (R523, R524). -/
def State.kwlNoRoot (s : State) : State :=
  let r := s.kwl.ret
  let s := if r.used then s.errU pgKWL 0x07 1 else s
  (s.setKwl { s.kwl with
    ret := { r with table := [], j0 := { r.j0 with valid := false, recs := [] }, j1 := { r.j1 with valid := false, recs := [] } } }).wr
    KWL_STATUS_ROOT [] 1

/-- The key well's restore (R548): root, slot table, journals, records. `tagFails` are the slots whose record fails its tag. -/
def State.kwlRestore (s : State) (tagFails : List Nat) : State :=
  let r := s.kwl.ret
  let s := [r.j0, r.j1].foldl (fun s j => if j.broken then (s.useFresh.histEvent 0x23 s.fresh).errU pgKWL 0x08 1 else s) s
  match r.root with
  | none => s.kwlNoRoot.kwlView
  | some key =>
    let js := r.journals
    let table := js.foldl (fun t j => putRecs t j.recs) r.table
    let bad := (table.filter fun p => tagFails.contains p.1).map fun p => p.1
    let slots := table.filter fun p => p.1 != 0 && !bad.contains p.1
    let s := s.setKwl { s.kwl with ret := { r with table := table }, slots := SMap.insert slots 0 { ({} : KwlSlot) with key := key } }
    let s := bad.foldl (fun s n => s.err pgKWL 0x05 1 n) s
    let s := s.wr KWL_ROOT_GEN_GEN [] (SMap.getD table 0 {}).gen
    ((s.wr KWL_STATUS_ROOT [] rootPresent).wr KWL_JSEQ_SEQ [] (js.foldl (fun n j => max n j.seq) 0)).kwlView

/-! ### Restore: slots (R627–R629) -/

/-- Pages whose kept fields a restore loads: every page at a start-up of the package, a wake from SLEEP included (R66, R627), and the logic die's at
a reset of that die (R29). -/
def State.restores (s : State) (pg : Nat) : Bool := s.mode == .start || !pageOnIoDie pg

/-- Every kept field of the pages restored takes its factory value (R68). -/
def State.loadFactory (s : State) : State :=
  let kept (k : Nat) : Bool := s.restores (keyPage k) && (fieldsAt (keyWord k)).any fun p => p.1.key p.2 == k && isKept p.1 p.2
  let s : State := { s with regs := s.regs.filter fun p => !kept p.1 }
  { s with staged := s.staged.filter fun p => !kept p.1 }

/-- The code of the check that the image of a slot fails, with the slot's kept fields in force (R98); none where it passes or holds none. -/
def State.slotCheck (s : State) (k : Nat) : Option Nat :=
  if s.slotImage k = 0 then none
  else
    let m := s.slotMem k
    ((s.loadKept k s.restores).verifyMem m (s.slotImage k) (s.keySlot (imgKeySlot m)).gen).map fun f => f.1

/-- The candidates of R628, newest first. -/
def State.candidates (s : State) : List Nat :=
  let c := [0, 1].filter fun k => s.slotValid k && !s.slotForeign k
  if s.slotSeq 0 < s.slotSeq 1 then c.reverse else c

/-- Try the candidates in turn: a slot with an uncorrected read or an image that fails a check gives way to the next. -/
def State.tryCandidates (badSlots : List Nat) : List Nat → State → State × Option Nat
  | [], s => (s, none)
  | k :: rest, s =>
    if badSlots.contains k || s.ret.readBad then
      let s : State := { s with ret := { s.ret with readBad := false } }
      State.tryCandidates badSlots rest ((s.errU pgRET 0x02 1).wrFree RET_SLOT_STATE_STATE [k])
    else
      match s.slotCheck k with
      | some code => State.tryCandidates badSlots rest ((s.errU pgTID 0x06 1).showSlot k (some code))
      | none => (s, some k)

/-- A slot is restored: its kept fields, and its image in the active tide memories (R627). -/
def State.restoreSlot (s : State) (k : Nat) : State :=
  let s := (s.loadKept k s.restores).wr DEV_STATUS_RESTORE_SRC [] k
  if s.slotImage k = 0 then s else s.setTid { s.tid with active := s.slotMem k, hasActive := true }

/-- No candidate passes: the kept fields take their factory values (R68, R629). -/
def State.restoreNone (s : State) : State :=
  let foreign := [0, 1].any fun k => s.slotValid k && s.slotForeign k
  let s := (s.loadFactory.wr DEV_STATUS_RESTORE_SRC [] (if foreign then 3 else 2)).errU pgRET (if foreign then 0x04 else 0x05) 1
  s.useFresh.histEvent 0x24 s.fresh

/-- Slots are checked and one is selected and loaded; IDENTITY_REFUSED and FALLBACK follow (R635). -/
def State.restoreSlots (s : State) (badSlots : List Nat) : State :=
  let s := (s.showSlot 0 none).showSlot 1 none
  let cs := s.candidates
  let p := State.tryCandidates badSlots cs s
  match p.2 with
  | some k =>
    let older := cs.head? != some k
    let s := if older then p.1.bump RET_CNT_FALLBACK_CNT [] else p.1
    ((s.restoreSlot k).cond pgRET 2 false).cond pgRET 3 older
  | none =>
    let s := p.1.restoreNone
    (s.cond pgRET 2 (s.rd DEV_STATUS_RESTORE_SRC [] == 3)).cond pgRET 3 (s.rd DEV_STATUS_RESTORE_SRC [] == 2)

/-! ### Restore: the blocks -/

/-- Pages with an enable. -/
def enablePages : List Nat :=
  [0x010, 0x050, 0x061, 0x062, 0x063, 0x064, 0x0A0] ++ (List.range 64).map pgQ ++ (List.range 64).map pgLFE

/-- Every enable follows its restored PG_CTRL.ENABLE, and nothing is staged (R69). -/
def State.restorePages (s : State) : State :=
  let here := s.restores
  let s := enablePages.foldl (fun s pg => if here pg then s.wr PG_STATE_ENABLED [pg] (s.rd PG_CTRL_ENABLE [pg]) else s) s
  let s := (s.commits.filter fun p => here p.1).foldl (fun s p => s.wr PG_STATE_STAGED_PENDING [p.1] 0) s
  let s := { s with staged := s.staged.filter fun p => !here (keyPage p.1) }
  let s := { s with commits := s.commits.filter fun p => !here p.1 }
  let s := { s with discards := s.discards.filter fun pg => !here pg }
  { s with spoiled := s.spoiled.filter fun pg => !here pg }

/-- The planes leave START: Plane A, or B where A fails its start-up self-test, claims 0x8000 (Table 4-6). -/
def State.planesStart (s : State) (failed : List Nat) : State :=
  let s := [0, 1].foldl (fun s x =>
    if failed.contains x then s.useFresh.startTestFail x s.fresh else (s.wr PM_SELFTEST_RESULT [x] 1).wr PM_SELFTEST_SITE [x] 0) s
  match [0, 1].find? fun x => !failed.contains x with
  | none => s.noPlane 0
  | some x =>
    let s := (s.setClaim x 0x8000).setRole x roleActive
    if failed.contains (otherPlane x) then s else (s.setClaim (otherPlane x) 0).setRole (otherPlane x) roleStandby

/-- The image of the active memories comes into force: execution is HALTED until RUN starts it (Table 3-9). -/
def State.restoreImage (s : State) : State :=
  if !s.tid.hasActive then s
  else
    let s := (s.installImage (s.strokeAt s.count)).setExec exHalted
    let s := { s with tid := { s.tid with runDue := true } }
    [0, 1].foldl (fun s x => s.setPlane x { s.plane x with changed := [] }) s

/-- A quay after a restore: it resumes its MODE at the next commit boundary; that of a sleeping segment stays in low power. -/
def State.restoreQuay (s : State) (q : Nat) : State :=
  let s := s.setQuay q { s.quay q with resume := true }
  let asleep := q < 56 && (s.segment q == 2 || s.segment q == 3)
  let s := if q < 32 then s.setB QYC_STATUS_SLEEPING [q] asleep else s.setB QYE_STATUS_LOWPOWER [q] asleep
  let s := if q < 32 then s.canConds q else (s.linkUpdate q).plcaCond q
  s.lineUpdate q

/-- Wakes of quays that waited for the logic die are recorded in their pages. -/
def State.restoreWakes (s : State) : State :=
  let ws := s.pwk.quayWakes
  ws.foldl (fun s w => s.quayWake w.1 w.2.1 w.2.2) (s.setPwk { s.pwk with quayWakes := [] })

/-- The start-up restore (R627). `failed` are the planes whose start-up self-test fails. -/
def State.restore (s : State) (badSlots tagFails failed : List Nat) : State :=
  let s := ((s.repairLoad).kwlRestore tagFails).restoreSlots badSlots
  let s := s.restorePages
  let s := s.wr HCK_RATE_APPLIED_RATE [] (s.rd HCK_RATE_RATE [])
  let s := (s.restoreImage).planesStart failed
  let s := (s.wr KWL_STATUS_ALARM [] (if s.rd SUP_ALARM_ACTIVE [] = 0 then 0 else 1)).kwlView
  let s := (s.wr DEV_STATUS_RESTORE_DONE [] 1).histEvent 0x20 (s.rd DEV_STATUS_RESTORE_SRC [])
  let s := allQuays.foldl (fun s q => s.restoreQuay q) s
  let s := ((((s.viewSgw).viewLkp).viewCph).viewHbr).viewHck
  let s := s.viewLog.viewHistory
  let s := if s.mode = .start then
      ({ s.wr SUP_RESET_CAUSE_START [] s.pwk.startCause with mode := PkgMode.run } : State).wr DEV_STATUS_MODE [] 1
    else s
  (s.setPwk { s.pwk with fromSleep := false }).restoreWakes

end Sys2Proof.Machine
end

