-- ==== Sys2Proof/Machine/Power.lean ====
section
/-! DEFINITION. The commands of power: supplies, RST_N, the logic die, and the end of the restore (R601, R683, R686, R688, R703). -/

namespace Sys2Proof.Machine

/-- POWER_ON: VBAT rises above its power-on threshold; with RST_N high the package leaves OFF (R601, R686). -/
def execPowerOn (s : State) : Result :=
  if s.pwk.vbat then .next s
  else
    let s := s.setPwk { s.pwk with vbat := true, startCause := 0 }
    .next (if s.pwk.rstLow then s else s.powerStart 0)

/-- VBAT_STABLE: VBAT has held 4.5 V for 100 µs: INH is high and the logic die is to be powered (R686). -/
def execVbatStable (s : State) : Result :=
  if s.mode = .start ∧ s.pwk.vbat ∧ !s.pwk.powered then .next ((s.setPwk { s.pwk with powered := true }).wr PWK_STATUS_INH [] 1) else .next s

/-- SWITCHED_RAILS_IN_RANGE: every switched rail is in range, and CORE_EN goes high while a power-up of the logic die is due (R683). -/
def execSwitchedRailsInRange (s : State) : Result :=
  if s.mode = .start ∧ s.pwk.powered then .next (s.setPwk { s.pwk with coreEn := true }) else .next s

/-- LOGIC_DIE_UP: VDDP_C is in range and the logic die leaves reset (R688), with its registers at their reset values and harbour time 0,
unset (R423). -/
def execLogicDieUp (s : State) : Result :=
  if s.mode = .start ∧ s.pwk.coreEn ∧ !s.logicUp then .next ((s.logicClear true).wr DEV_STATUS_LOGIC_UP [] 1) else .next s

/-- RST_N_LOW: a package reset, and OFF (R601). -/
def execRstNLow (s : State) : Result :=
  let s := s.setPwk { s.pwk with rstLow := true }
  if s.mode = .off then .next s else .next ((s.setPwk { s.pwk with startCause := 1 }).landActive.powerOff)

/-- RST_N_RELEASE: RST_N rises with VBAT above its threshold, and the package leaves OFF (R601). -/
def execRstNRelease (s : State) : Result :=
  let s := s.setPwk { s.pwk with rstLow := false }
  if s.mode = .off ∧ s.pwk.vbat then .next (s.powerStart s.pwk.startCause) else .next s

/-- VBAT_LOSS: VBAT falls below its falling threshold: the package goes to OFF, and a retained write that runs is cut short (R549, R686). -/
def execVbatLoss (s : State) : Result :=
  if !s.pwk.vbat then .next s
  else
    let s := match s.ret.active with | some w => s.retBroken w | none => s
    .next ((s.setPwk { s.pwk with vbat := false, startCause := 0 }).powerOff)

/-- RESTORE_COMPLETE: the restore of the logic die's blocks ends (R627). `badSlots` are image slots with an uncorrected retained read, `tagFails`
key-well records that fail their tag, `failed` planes whose start-up self-test fails. -/
def execRestoreComplete (badSlots tagFails failed : List Nat) (s : State) : Result :=
  onLogicIf s (!s.on DEV_STATUS_RESTORE_DONE []) fun s => s.restore badSlots tagFails failed

end Sys2Proof.Machine
end

