-- ==== Sys2Proof/Machine/Ret.lean ====
section
/-! DEFINITION. The commands of the retained store: its writes, slot commits and the LOAD port (R110, R546, R622–R632, R665, R671, R703). -/

namespace Sys2Proof.Machine

/-! ### Retained writes (R622, R632, R703) -/

/-- RETAINED_WRITE: the oldest waiting write meets its hold-up check, with HOLDUP_SNS at `sns` µV (none at a rail): it starts, or is refused
and, after its owner's 64 retries, given up. -/
def execRetainedWrite (sns : Option Nat) (s : State) : Result :=
  onPwk s s.ret.active.isNone fun s =>
    match s.ret.queue with
    | [] => s
    | w :: rest =>
      let c := (s.setRet { s.ret with queue := rest }).holdup sns w.need
      if c.2 then c.1.setRet { c.1.ret with active := some w }
      else
        let s := c.1.holdupRefused
        if w.owner.limited && 64 ≤ w.tries then s.retLimit w else s.setRet { s.ret with refused := s.ret.refused ++ [(w, s.now)] }

/-- RETAINED_WRITE_DONE: the write that runs completes; `ok` says whether its check found it written. -/
def execRetainedWriteDone (ok : Bool) (s : State) : Result :=
  onPwk s true fun s =>
    match s.ret.active with
    | none => s
    | some w =>
      let s := s.setRet { s.ret with active := none }
      if ok then (s.retStore w).retProceed w else s.retFailed w

/-- RETAINED_WRITE_RETRY: 1 ms after its refusal a write is tried again (R110, R523, R546). -/
def execRetainedWriteRetry (s : State) : Result :=
  onPwk s true fun s =>
    match s.ret.refused.find? fun w => w.2 + msNs ≤ s.now with
    | none => s
    | some (w, t) =>
      let s := s.setRet { s.ret with refused := s.ret.refused.erase (w, t) }
      let s := match w.owner with
        | .commit => s.bump RET_CNT_HOLDUP_RETRY_CNT []
        | .load => s.bump RET_CNT_HOLDUP_RETRY_CNT []
        | _ => s
      s.retPush { w with tries := w.tries + 1 }

/-- HISTORY_WRITE: the oldest record that has met no refusal starts its write (R670, R671). -/
def execHistoryWrite (sns : Option Nat) (s : State) : Result :=
  onPwk s s.ret.active.isNone fun s =>
    match s.sup.history.find? fun h => h.2.2.isNone with
    | none => s
    | some h => s.histTry h sns

/-- HISTORY_WRITE_RETRY: 1 ms after its refusal a record is tried again (R671). -/
def execHistoryWriteRetry (sns : Option Nat) (s : State) : Result :=
  onPwk s s.ret.active.isNone fun s =>
    match s.sup.history.find? fun h => match h.2.2 with | some t => decide (t + msNs ≤ s.now) | none => false with
    | none => s
    | some h => s.histTry h sns

/-- REPAIR_MAP_WRITE: a repair map that differs from its copy is written; a refused write leaves it to be tried again (R665). -/
def execRepairMapWrite (sns : Option Nat) (s : State) : Result :=
  onPwk s (s.ret.active.isNone && s.sup.repairDirty && s.rd CST_STATUS_BANK_TEST [] == 0) fun s => s.repairTry sns

/-! ### Slot commits (R624–R626) -/

/-- A RET command is rejected. -/
def State.retReject (s : State) : State := s.wr RET_STATUS_CMD_REJECT [] 1

/-- RET_COMMIT: RET_CMD COMMIT (R624). -/
def execRetCommit (s : State) : Result :=
  onPwk s true fun s => if s.commitRefused || !s.logicUp then s.retReject else s.slotCommit

/-- Whether a write of a slot commit is still to come. -/
def State.commitWrites (s : State) : Bool :=
  let mine (o : RetOwner) : Bool := o == .commit
  (s.ret.queue.any fun w => mine w.owner) || (s.ret.refused.any fun w => mine w.1.owner)
    || (match s.ret.active with | some w => mine w.owner | none => false)

/-- SLOT_COMMIT_END: the header is written, and the commit ends with result 01 (R625). -/
def execSlotCommitEnd (s : State) : Result :=
  onPwk s true fun s =>
    match s.ret.commit with
    | none => s
    | some c => if c.snapped && c.left.isEmpty && !s.commitWrites then (s.showSlot c.target none).slotEnd 1 0 else s

/-! ### Loads (R630) -/

/-- LOAD_OPEN: the header of the slot that R624 would choose is zeroed. -/
def execLoadOpen (s : State) : Result :=
  onPwk s true fun s =>
    if s.commitRefused then s.retReject
    else
      let k := s.slotTarget
      let s := (s.wr RET_STATUS_LOAD_OPEN [] 1).wr RET_STATUS_TARGET [] k
      (s.setRet { s.ret with load := some { target := k } }).retPush { owner := .load, addr := slotBase k, data := zeroBytes 64, need := 200 }

/-- The load that takes data: open and not yet sealed. -/
def State.openLoad (s : State) : Option LoadSt := match s.ret.load with | some l => if l.sealing = 0 then some l else none | none => none

/-- LOAD_SEAL: the last piece is written, and then the header if its CRC is valid. -/
def execLoadSeal (s : State) : Result :=
  onPwk s true fun s =>
    match s.openLoad with
    | none => s.retReject
    | some l => (s.loadPush { l with sealing := 1 }).loadSeal

/-- LOAD_ABORT: the slot is left without a header. -/
def execLoadAbort (s : State) : Result := onPwk s true fun s => if s.ret.load.isSome then s.loadEnd 6 else s.retReject

/-- The bytes of a load at which a word lies in another 64 KiB piece than the bytes collected. -/
def otherPiece (l : LoadSt) (a : Nat) : Bool :=
  match l.piece with
  | p :: _ => p.1 / 65536 != a / 65536
  | [] => false

/-- A word of a load is collected at a slot offset; a complete 64 KiB piece, or one that the data has left, is written. -/
def State.loadWord (s : State) (l : LoadSt) (a : Nat) (bytes : List Nat) : State :=
  let s := if otherPiece l a then s.loadPush l else s
  let piece := if otherPiece l a then [] else l.piece
  let header := if a < 64 then (padTo 64 l.header).take a ++ bytes ++ (padTo 64 l.header).drop (a + 4) else l.header
  let new := bytes.zipIdx.map fun p => (a + p.2, p.1)
  let piece := (piece.filter fun p => !(a ≤ p.1 && p.1 < a + 4)) ++ new
  let l := { l with header := header, piece := piece }
  let s := s.setRet { s.ret with load := some l }
  if (a + 4) % 65536 = 0 then s.loadPush l else s

/-- RET_LOAD_DATA_WRITE: a word at RET_LOAD_ADDR, which advances by 4; ignored unless LOAD_OPEN = 1 (R630, Table 17-9). -/
def execRetLoadDataWrite (v : Word) (s : State) : Result :=
  onPwk s true fun s =>
    match s.openLoad with
    | none => s
    | some l =>
      let a := 4 * s.rd RET_LOAD_ADDR_ADDR []
      let s := if a + 4 ≤ slotSize then s.loadWord l a (leBytes 4 v.toNat) else s
      s.wr RET_LOAD_ADDR_ADDR [] (a / 4 + 1)

end Sys2Proof.Machine
end

