-- ==== Sys2Proof/Machine/Resets.lean ====
section
/-! DEFINITION. Resets of units, clusters, regions, the logic die and the package, with the end of the safe states that they bring (R24,
R28–R31, R645, R655, R656). -/

namespace Sys2Proof.Machine

/-! ### The safe states' registers (R654, R656) -/

/-- SAFE, while a safe state holds (Table 18-13). -/
def State.safeCond (s : State) : State :=
  s.cond pgSUP 2 (s.on SUP_STATUS_SAFE_NORTH [] || s.on SUP_STATUS_SAFE_SOUTH [] || s.on SUP_STATUS_DIE_SAFE [])

/-- DEV_STATUS.MODE outside die safe state (R601). -/
def modeCode : PkgMode → Nat
  | .off => 0
  | .start => 0
  | .run => 1
  | .entering => 1
  | .sleep => 2

/-- Whether a region is in safe state. -/
def State.inRegionSafe (s : State) (r : Nat) : Bool := if r = 0 then s.on SUP_STATUS_SAFE_NORTH [] else s.on SUP_STATUS_SAFE_SOUTH []

/-- A region safe state begins or ends. -/
def State.setRegionSafe (s : State) (r : Nat) (b : Bool) : State :=
  (if r = 0 then s.setB SUP_STATUS_SAFE_NORTH [] b else s.setB SUP_STATUS_SAFE_SOUTH [] b).safeCond

/-- A region safe state ends (R655). -/
def State.regionSafeEnd (s : State) (r : Nat) : State :=
  if s.inRegionSafe r then
    let s := s.setRegionSafe r false
    let s := s.setSup (if r = 0 then { s.sup with northRetried := false, northAlarm := false }
      else { s.sup with southRetried := false, southAlarm := false })
    s.linesUpdate (regionQuays r)
  else s

/-! ### Unit resets (R28, R673) -/

/-- Clear the counters of every page of a block. -/
def State.clearBlock (s : State) (r : BlockRange) : State :=
  (List.range (r.insts * r.pages)).foldl (fun s i => s.clearCounters (r.first + i)) s

/-- A lane's state is cleared and the lane is in service again (R518). -/
def State.laneReset (s : State) (l : Nat) : State :=
  let s := match (s.lane l).job with
    | some (.traffic j _ _ _ out) => s.jobNoOut j out false
    | _ => s
  (((s.setLane l {}).clearCounters (pgLane l)).wr CPH_LSTAT_OUT [l] 0).viewCph

/-- The queues of cipher page 0 are cleared. -/
def State.cphReset (s : State) : State :=
  let s := s.cph.jobs.all.foldl (fun s j => s.jobGone j) s
  ((s.setCph { s.cph with jobs := {}, done := [], wordBad := false }).clearCounters pgCPH).viewCph

/-- The key well's command engine is cleared; slots and a retained commit stay. -/
def State.kwlReset (s : State) : State :=
  let s := if s.kwl.cmd.isSome then s.wr KWL_STATUS_BUSY [] 0 else s
  ((s.setKwl { s.kwl with cmd := none, engineBad := false, testing := false }).clearCounters (pgKWL + 2)).kwlView

/-- The log recorder's buffers are cleared. -/
def State.logReset (s : State) : State := ((s.setLog {}).clearCounters (pgLOG + 2)).viewLog

/-- The host bridge unit: rings disabled, semaphores freed, completion queues cleared (R565, Table 16-14). -/
def State.hbrReset (s : State) : State :=
  let s := s.ringsOff.endReads
  let s := (List.range 32).foldl (fun s n => s.wr HBR_SEM_OWNER [n] 0) s
  let s := (s.setHbr {}).irq pgHBR 6
  (((s.clearCounters 0x011).clearCounters 0x012).clearCounters 0x013).viewHbr

/-- The gateway's queues are cleared; the PDU buffer store is the planes'. -/
def State.sgwReset (s : State) : State :=
  let s := s.dropJobs
  let s := s.sgw.closed.foldl (fun s p => s.release p.2.frame (.pdu p.1)) s
  let s := s.sgw.packing.foldl (fun s p => s.release p.2.1.frame (.pdu p.1)) s
  (s.setSgw {}).viewSgw

/-- The lookup block's queues are cleared; the tables are the planes'. -/
def State.lkpReset (s : State) : State := ({ s.abortRebuild with lkp := { preload := s.lkp.preload, preloading := s.lkp.preloading } } : State).viewLkp

/-- The berth block's staging slots and command are cleared; the berth stores are the planes'. -/
def State.bthReset (s : State) : State :=
  ((s.setBth { s.bth with slots := [], cmd := none, clrAllAt := none }).wr BTH_STATUS_CMD_BUSY [] 0).showStaged

/-- The clock's queues and engines are cleared; harbour time and whether it is set stay (R424). -/
def State.hckReset (s : State) : State :=
  let s := (s.ppsLow.setHck { autoArmed := s.hck.autoArmed, xforce := s.hck.xforce, wins := s.hck.wins, fbSince := s.hck.fbSince }).wr HCK_STATUS_STEP_PENDING [] 0
  ((s.servoTo svFree).cond pgHCK 11 false).viewHck

/-- The cistern's frames and queues are cleared; retired cells stay (R230). -/
def State.cstReset (s : State) : State :=
  let s := s.cst.frames.foldl (fun s p => s.dropFrame p.1) s
  s.setCst { s.cst with
    ingress := [], inbox := [], flow := [], innerIn := [], queues := [], bq := [], notices := [], rebuilds := []
    crcFaults := [], unserved := false }

/-- The supervisor as the unit of its own page: self-tests and an armed scan are ended, and the record queue is cleared. The records themselves, the
resets and the retained writes have their own rules (DESIGN CHOICE, log 28). -/
def State.supReset (s : State) : State :=
  let s := s.setSup { s.sup with
    unread := {}, tests := s.sup.tests.map fun p => (p.1, { p.2 with active := false, running := false, next := 0 }), scanArm := none }
  s.cond pgSUP 0 false

/-- The wake and power block: its record queue is cleared. The sleep states of segments, regions and package are not the block's to give up
(DESIGN CHOICE, log 28). -/
def State.pwkReset (s : State) : State := (s.setPwk { s.pwk with wakes := {}, snsBad := false }).wakeCond

/-- The retained-store block: a slot commit or a load under way ends. -/
def State.retReset (s : State) : State := (s.slotLost.loadLost).setRet { s.slotLost.loadLost.ret with readBad := false }

/-- The management port: its frame buffer is cleared. -/
def State.mgpReset (s : State) : State := s.setHbr { s.hbr with frameBad := false }

/-- A front end as a unit: an error of it that holds the line stays until its quay's reset (R392, R418). -/
def State.frontReset (s : State) (q : Nat) : State :=
  let held := (s.front q).fault
  let s := s.lfeReset q
  (s.setFront q { s.front q with fault := held }).lineUpdate q

/-- A reset of the unit that a page belongs to. -/
def State.unitReset (s : State) (pg : Nat) : State :=
  match blockOf pg with
  | none => s
  | some r =>
    let p := (pg - r.first) % r.pages
    let q := pageInstance pg
    match r.name with
    | "QYC" => s.quayReset q
    | "QYE" => s.quayReset q
    | "LFE" => s.frontReset q
    | "CPH" => if p = 0 then s.cphReset else s.laneReset (p - 1)
    | "KWL" => s.kwlReset
    | "LOG" => s.logReset
    | "HBR" => s.hbrReset
    | "SGW" => s.sgwReset.clearBlock r
    | "LKP" => s.lkpReset.clearBlock r
    | "BTH" => s.bthReset.clearBlock r
    | "HCK" => s.hckReset.clearBlock r
    | "CST" => s.cstReset.clearBlock r
    | "SUP" => s.supReset.clearBlock r
    | "PWK" => s.pwkReset.clearBlock r
    | "RET" => s.retReset.clearBlock r
    | "MGP" => s.mgpReset.clearBlock r
    | _ => s.clearBlock r

/-- A target may pass its self-test again after a unit reset (R662). -/
def State.testsReset (s : State) (pg : Nat) : State :=
  let mine (k : Nat) : Bool :=
    match k / 256 with
    | 1 => decide (k % 256 < 64) && (pg == pgQ (k % 256))
    | 3 => pg == pgLane (k % 256)
    | 4 => pg == pgKWL
    | 5 => pg == pgLFE (k % 256) || pg == pgQ (k % 256)
    | _ => false
  s.setSup { s.sup with tests := s.sup.tests.map fun p => if mine p.1 then (p.1, { p.2 with failed := false }) else p }

/-- The units that UNIT_RESET accepts, by their page (R673). -/
def unitTarget (pg : Nat) : Bool :=
  match blockOf pg with
  | none => false
  | some r =>
    let p := (pg - r.first) % r.pages
    match r.name with
    | "QYC" => p == 0
    | "QYE" => p == 0
    | "LFE" => true
    | "CPH" => p != 0
    | "KWL" => p == 0
    | "LOG" => p == 0
    | "MGP" => p == 0
    | "HBR" => p == 0
    | _ => false

/-- PG_ID of a page (Table 2-2). -/
def pageId (pg : Nat) : Nat := pageBlockType pg * 2 ^ 20 + pageInstance pg * 2 ^ 8 + pageOfBlock pg

/-- The page with a PG_ID, among the units that UNIT_RESET accepts. -/
def pageOfId (id : Nat) : Option Nat :=
  let all := blockRanges.flatMap fun r => (List.range (r.insts * r.pages)).map fun i => r.first + i
  all.find? fun pg => pageId pg == id && unitTarget pg

/-! ### Die and package resets (R29, R656) -/

/-- The die safe state ends (R656). -/
def State.dieSafeEnd (s : State) : State :=
  if s.on SUP_STATUS_DIE_SAFE [] then
    let s := (s.wr SUP_STATUS_DIE_SAFE [] 0).wr DEV_STATUS_MODE [] (modeCode s.mode)
    (s.setSup { s.sup with dieResetEnd := some s.now }).safeCond
  else s

/-- A die reset of the logic die: its registers and state are cleared, the safe states end, and its restore is to follow (R29). -/
def State.dieReset (s : State) (cause : Nat) : State :=
  let s := if s.logicUp then ((s.loadLost).logicClear false).wr DEV_STATUS_RESTORE_DONE [] 0 else s
  let s := s.wr SUP_RESET_CAUSE_DIE [] cause
  let s := s.setSup { s.sup with tests := s.sup.tests.map fun p => (p.1, { p.2 with running := false, failed := false }), scanning := false }
  (((s.dieSafeEnd).regionSafeEnd 0).regionSafeEnd 1).linesUpdate allQuays

/-! ### Requests (R30, R31) -/

/-- The cluster of a unit's page, for quays and front ends. -/
def clusterOfPage (pg : Nat) : Option Nat :=
  match blockOf pg with
  | some r => if r.showInst then some (pageInstance pg / 8) else none
  | none => none

/-- Whether a scope lies inside another, or is the same. DESIGN CHOICE (log 28): a reset of the logic die contains a cluster or region reset, although the
front ends LFE00–LFE55 of its scope lie on the I/O die; R30 does not say. -/
def scopeIn (a b : Scope) : Bool :=
  a == b || match b, a with
  | .package, _ => true
  | .die, .unit pg => !pageOnIoDie pg
  | .die, .cluster _ => true
  | .die, .region _ => true
  | .region r, .cluster k => k / 4 == r
  | .region r, .unit pg => (match clusterOfPage pg with | some k => k / 4 == r | none => false)
  | .cluster k, .unit pg => clusterOfPage pg == some k
  | _, _ => false

/-- The size of a scope (R31). -/
def scopeRank : Scope → Nat
  | .unit _ => 0
  | .cluster _ => 1
  | .region _ => 2
  | .die => 3
  | .package => 4

/-- Add a master to those that asked for a reset. -/
def askedToo (l : List Master) (m : List Master) : List Master := l ++ m.filter fun x => !l.contains x

/-- Whether a request of the other master, made in the same supervisor clock, is one with a request of scope `c` (R31): the larger scope counts. Of two
scopes of one size that differ, both are carried out (DESIGN CHOICE, log 28). -/
def State.sameClock (s : State) (c : Scope) (m : Option Master) (x : ResetReq) : Bool :=
  match m with
  | some m => x.clock == s.aonClock && x.asked == [if m = .host then .mgp else .host] && scopeRank x.scope != scopeRank c
  | none => false

/-- A master's write of SUP_CMD asks for a reset: the reset command is in that master's name (R30, R31). -/
def State.calledBy (s : State) (m : Master) : State := s.setSup { s.sup with caller := m }

/-- A reset is asked for. One that lies inside a reset in progress is merged into it, and one that contains resets in progress absorbs them (R30). Requests
of both masters in the same clock are one, with the larger of the two scopes (R31). -/
def State.askReset (s : State) (c : Scope) (cause : Nat) (m : Option Master) : State :=
  let into (x : ResetReq) : Bool := scopeIn c x.scope || (s.sameClock c m x && decide (scopeRank c < scopeRank x.scope))
  let gone (x : ResetReq) : Bool := scopeIn x.scope c || s.sameClock c m x
  if s.sup.resets.any into then
    s.setSup { s.sup with resets := s.sup.resets.map fun x => if into x then { x with asked := askedToo x.asked m.toList } else x }
  else
    let asked := (s.sup.resets.filter gone).foldl (fun l x => askedToo l x.asked) []
    let r : ResetReq := { scope := c, cause := cause, asked := askedToo asked m.toList, clock := s.aonClock }
    (s.setSup { s.sup with resets := (s.sup.resets.filter fun x => !gone x) ++ [r] }).wr SUP_STATUS_RESET_BUSY [] 1

/-- A reset is carried out. -/
def State.runReset (s : State) (x : ResetReq) : State :=
  match x.scope with
  | .unit pg => (if s.logicUp || pageOnIoDie pg then s.unitReset pg else s).testsReset pg
  | .cluster k =>
    let s := if s.logicUp then s.clusterReset k else s
    (List.range 8).foldl (fun s j => (s.testsReset (pgQ (8 * k + j))).testsReset (pgLFE (8 * k + j))) s
  | .region r =>
    let s := if s.logicUp then s.regionClear r else s
    let s := (regionQuays r).foldl (fun s q => (s.testsReset (pgQ q)).testsReset (pgLFE q)) s
    s.regionSafeEnd r
  | .die => s.dieReset x.cause
  | .package => s.packageReset x.cause

end Sys2Proof.Machine
end

