-- ==== Sys2Proof/Machine/SupOps.lean ====
section
/-! DEFINITION. The supervisor: error records, the escalation ladder and its actions (R639–R652), self-test targets and slices (R657–R663),
alarms and scan entry. -/

namespace Sys2Proof.Machine

/-! ### Records (R640–R647) -/

/-- SUB of an error (R640). -/
def errSub (e : ErrReport) : Nat :=
  if e.page / 8 = pgCST / 8 then
    match e.code with
    | 3 => srcOfCell e.detail
    | 5 => srcOfCell e.detail
    | 4 => e.detail % 256
    | 6 => 8
    | _ => 0
  else 0

/-- A 32-bit register word of a record (Table 18-1). -/
def SupRec.words (r : SupRec) (id : Nat) : List Nat :=
  let b (c : Bool) : Nat := if c then 1 else 0
  [2 ^ 31 + b r.opened * 2 ^ 27 + r.level % 8 * 2 ^ 24 + r.code % 256 * 2 ^ 16 + r.repeats % 256 * 2 ^ 8 + b r.noTime * 2 ^ 7 + b r.clockSet * 2 ^ 6
      + id % 64,
    pageId r.page, r.sub % 256 * 2 ^ 24 + r.detail % 2 ^ 20, stampNs r.stamp, stampS r.stamp % 2 ^ 32,
    r.lastCode % 256 * 2 ^ 24 + r.lastUs % 2 ^ 24]

/-- The bytes of a record as the error history stores them. -/
def SupRec.bytes (r : SupRec) (id : Nat) : List Nat := (r.words id).flatMap (leBytes 4)

/-- Show words in SUP_REC0–SUP_REC5. -/
def State.showRec (s : State) (ws : List Nat) : State := ws.zipIdx.foldl (fun s p => s.wr SUP_REC [p.2] p.1) s

/-- No record: VALID is 0, and the rest of the registers is unstated. -/
def State.showNoRec (s : State) : State :=
  let s := (s.useFresh).wr SUP_REC [0] (s.fresh % 2 ^ 31)
  [1, 2, 3, 4, 5].foldl (fun s k => s.wrFree SUP_REC [k]) s

/-- A gap marker (Table 18-1); what its layout leaves out is unstated. -/
def State.showGap (s : State) (g : Gap) : State :=
  let s := s.showNoRec
  let s := s.wr SUP_REC [0] (2 ^ 31 + 2 ^ 30 + (if g.split then 2 ^ 29 else 0) + (if g.sat then 2 ^ 28 else 0) + s.rd SUP_REC [0] % 2 ^ 28)
  let s := s.wr SUP_REC [2] (s.rd SUP_REC [2] / 2 ^ 16 * 2 ^ 16 + g.count % 2 ^ 16)
  s.wr SUP_REC [3] (stampNs g.time)

/-- Bring RECORD and SUP_REC_STAT in line. -/
def State.recView (s : State) : State :=
  let s := s.wr SUP_REC_STAT_OPEN [] (s.sup.recs.filter fun p => p.2.opened).length
  s.cond pgSUP 0 (s.sup.unread.depth != 0 || s.sup.unread.gap.isSome)

/-- Store a record. -/
def State.putRec (s : State) (id : Nat) (r : SupRec) : State := s.setSup { s.sup with recs := SMap.insert s.sup.recs id r }

/-- The OPEN record of a unit. -/
def State.openRec (s : State) (page sub : Nat) : Option (Nat × SupRec) :=
  List.find? (fun p : Nat × SupRec => p.2.opened && p.2.page == page && p.2.sub == sub) s.sup.recs

/-- IDs of no OPEN record. -/
def State.freeIds (s : State) : List Nat := (List.range 64).filter fun id => !(s.sup.recs.any fun p => p.1 == id && p.2.opened)

/-- A record closes: it is written to the error history if its LEVEL is at least HIST_MIN, or `always` (R652, R670). -/
def State.closeRec (s : State) (id : Nat) (always : Bool) : State :=
  match SMap.find? s.sup.recs id with
  | none => s
  | some r =>
    if !r.opened then s
    else
      let r := { r with opened := false }
      let s := s.putRec id r
      (if always || s.rd SUP_ESC_HIST_MIN [] ≤ r.level then s.histAdd (r.bytes id) 0 else s).recView

/-- ERR_FIRST.LEVEL of the record's page follows its LEVEL while the page holds the capture of its first error (R643). -/
def State.followLevel (s : State) (r : SupRec) : State :=
  let p := r.page
  if r.captured && s.on ERR_FIRST_VALID [p] && s.rd ERR_FIRST_CODE [p] == r.code && s.rd ERR_FIRST_DETAIL [p] == r.detail then
    s.wr ERR_FIRST_LEVEL [p] r.level
  else s

/-- A unit's record has its LEVEL raised by the ladder itself. -/
def State.setRecLevel (s : State) (id level : Nat) : State :=
  match SMap.find? s.sup.recs id with
  | some r => (s.putRec id { r with level := level }).followLevel { r with level := level }
  | none => s

/-- The record of an ID in the result registers (R647). -/
def State.showId (s : State) (id : Nat) : State :=
  match SMap.find? s.sup.recs id with
  | some r => s.showRec (r.words id)
  | none => s.showNoRec

/-- A pop of the record queue (R647). -/
def State.popRec (s : State) : State :=
  let p := s.sup.unread.pop
  let s := (s.setSup { s.sup with unread := p.2 }).recView
  match p.1 with
  | .empty => s.showNoRec
  | .marker g => s.showGap g
  | .item id => s.showId id

/-! ### Actions (Table 18-2) -/

/-- Level 5 (R652): every OPEN record closes, the history is written, and the package is reset. -/
def State.levelFive (s : State) (cause : Nat) (m : Option Master) : State :=
  if s.sup.resets.any fun x => x.scope == .package then s.askReset .package cause m
  else
    let s := s.sup.recs.foldl (fun s p => s.closeRec p.1 true) s
    (s.histEvent 0x22 cause).askReset .package cause m

/-- The die safe state (R27, R653, R656). -/
def State.dieSafe (s : State) : State :=
  if s.on SUP_STATUS_DIE_SAFE [] then s
  else
    let s := ((s.wr SUP_STATUS_DIE_SAFE [] 1).wr DEV_STATUS_MODE [] 3).safeCond
    let s := s.setSup { s.sup with dieAt := s.now }
    let s := if s.logicUp then (s.setClaim 0 0).setClaim 1 0 else s
    ((s.linesUpdate allQuays).trigSafeLow).ppsUpdate

/-- A region safe state (R26, R654); `alarm` where an alarm causes it. -/
def State.regionSafeBegin (s : State) (r : Nat) (alarm : Bool) : State :=
  if s.on SUP_STATUS_DIE_SAFE [] || s.inRegionSafe r then s
  else
    let s := s.setRegionSafe r true
    let s := s.setSup (if r = 0 then { s.sup with northAt := s.now, northRetried := false, northAlarm := alarm }
      else { s.sup with southAt := s.now, southRetried := false, southAlarm := alarm })
    (s.linesUpdate (regionQuays r)).trigSafeLow

/-- The kinds of unit that Table 18-2 tells apart. -/
inductive UnitKind where
  | plane (x : Option Nat)
  | quay (q : Nat)
  | bank (k : Nat)
  | lane (l : Nat)
  | other
  deriving DecidableEq, Repr

/-- The kind of the unit of an error: a bank for CST codes 0x03–0x05 of a bank (R640). -/
def unitKind (page code sub : Nat) : UnitKind :=
  match blockOf page with
  | none => .other
  | some r =>
    match r.name with
    | "PMA" => .plane (some 0)
    | "PMB" => .plane (some 1)
    | "TID" => .plane none
    | "QYC" => .quay (pageInstance page)
    | "QYE" => .quay (pageInstance page)
    | "LFE" => .quay (pageInstance page)
    | "CST" => if 3 ≤ code && code ≤ 5 && sub < 8 then .bank sub else .other
    | "CPH" => if pgCPH < page then .lane (page - pgCPH - 1) else .other
    | _ => .other

/-- A plane is taken out by the ladder: a switchover for the ACTIVE plane (R148, R155, R166). -/
def State.planeOut (s : State) (x : Nat) (c : OutCause) : State :=
  let r := s.role x
  if r = roleActive then s.leaveActive x c
  else if r = roleTakingOver then (s.enterOut x c).noPlane x
  else if r = roleStandby ∨ r = roleRejoining then s.enterOut x c
  else s

/-- A lane goes out of service and its running job ends as late (R518, Tables 14-7 and 18-2). -/
def State.laneOut (s : State) (l : Nat) : State :=
  let s := s.wr CPH_LSTAT_OUT [l] 1
  match (s.lane l).job with
  | some (.traffic j _ _ _ out) => ((s.laneFree l).jobLate j out).viewCph
  | some (.host j _ _ _) => (s.hostEnd l j 5).viewCph
  | none => s.viewCph

/-- Whether an action on a page's unit lies inside a safe state or reset in force (R649). -/
def State.absorbed (s : State) (page : Nat) : Bool :=
  s.on SUP_STATUS_DIE_SAFE [] || (match clusterOfPage page with | some k => s.inRegionSafe (k / 4) | none => false)
    || s.sup.resets.any fun x => scopeIn (.unit page) x.scope

/-- The action of level 2. -/
def State.levelTwo (s : State) (page code sub detail : Nat) : State :=
  if s.absorbed page then s
  else
    match unitKind page code sub with
    | .plane (some x) => s.planeOut x { src := 0, code := code, detail := detail % 2 ^ 20 }
    | .plane none => s.planeOut s.actPlane { src := 1, code := code, detail := detail % 2 ^ 20 }
    | .quay q => s.isolate q
    | .bank k => if s.bankFailed k then s else s.failBank k
    | .lane l => if s.on CPH_LSTAT_OUT [l] then s else s.laneOut l
    | .other => s.askReset (.unit page) 0 none

/-- The region that level 3 acts on: that of a quay, a front end or a bank, and the one that VOLT_NORTH and VOLT_SOUTH name (Table 18-4). -/
def levelRegion (page code sub : Nat) : Option Nat :=
  match unitKind page code sub with
  | .quay q => some (regionOf q)
  | .bank k => some (k / 4)
  | _ => if page = pgSUP ∧ code = 0x10 then some 0 else if page = pgSUP ∧ code = 0x11 then some 1 else none

/-- Level 4, or level 5 within 1 s of the end of a die reset that followed a die safe state (R651); a reset of the logic die in force absorbs the die
safe state (R649). -/
def State.levelFour (s : State) (id : Option Nat) : State :=
  let soon := match s.sup.dieResetEnd with | some t => decide (s.now < t + 1000000000) | none => false
  if soon then
    let s := match id with | some i => s.setRecLevel i 5 | none => s
    s.levelFive 2 none
  else if s.sup.resets.any fun x => scopeIn .die x.scope then s
  else s.dieSafe

/-- The action of a level on a unit (Table 18-2); `id` is the record's. -/
def State.actAt (s : State) (level page code sub detail : Nat) (id : Option Nat) : State :=
  if level ≤ 1 then s
  else if level = 2 then s.levelTwo page code sub detail
  else if level = 3 then
    match levelRegion page code sub with
    | some r => if s.sup.resets.any fun x => scopeIn (.region r) x.scope then s else s.regionSafeBegin r (page = pgSUP)
    | none => s.levelFour id
  else if level = 4 then s.levelFour id
  else s.levelFive 2 none

/-- Whether an error acts by its own level through the supervisor: levels 1 and 2 act by their page's table, but for a failed self-test slice
(R662). -/
def actsItself (e : ErrReport) : Bool := 3 ≤ e.level || e.code == 0xF0

/-- A record that reaches level 3 or higher is written to the history at that moment (R670). -/
def State.highRec (s : State) (id old : Nat) : State :=
  match SMap.find? s.sup.recs id with
  | some r => if old < 3 && 3 ≤ r.level then s.histAdd (r.bytes id) 0 else s
  | none => s

/-- An error of a unit with an OPEN record (R642). -/
def State.repeatErr (s : State) (e : ErrReport) (id : Nat) (r : SupRec) : State :=
  let ceil := s.rd SUP_ESC_CEIL []
  let level := max (if r.level < ceil then r.level + 1 else r.level) e.level
  let new := { r with
    level := level, repeats := min 255 (r.repeats + 1), lastCode := e.code, lastUs := min (2 ^ 24 - 1) ((s.now - r.firstAt) / 1000), lastAt := s.now }
  let s := ((s.putRec id new).bump SUP_CNT_REPEAT_CNT []).followLevel new
  let s := if r.level < level then ((s.bump SUP_CNT_ESCALATE_CNT []).irq pgSUP 1).highRec id r.level else s
  if r.level < level && e.level < level then s.actAt level e.page e.code r.sub e.detail (some id)
  else if actsItself e then s.actAt e.level e.page e.code r.sub e.detail (some id)
  else s

/-- An error that finds every ID in use (R646). -/
def State.recGap (s : State) : State :=
  let q := s.sup.unread
  let made := q.gap.isNone
  let g : Gap := match q.gap with
    | none => { count := 1, time := s.stamp }
    | some g => if q.after.isEmpty then gapMore g else { gapMore g with split := true }
  let s := (s.setSup { s.sup with unread := { q with gap := some g } }).bump SUP_CNT_GAP_CNT []
  (if made then s.irq pgSUP 8 else s).recView

/-- A new record (R641). Which free ID it takes is unstated: a free value picks it. -/
def State.newRec (s : State) (e : ErrReport) (sub id : Nat) : State :=
  let p := e.page
  let captured := s.on ERR_FIRST_VALID [p] && s.rd ERR_FIRST_CODE [p] == e.code && s.rd ERR_FIRST_DETAIL [p] == e.detail
  let r : SupRec := {
    level := e.level, code := e.code, noTime := !s.logicUp, clockSet := s.on HCK_STATUS_SET [], page := p, sub := sub, detail := e.detail
    stamp := if s.logicUp then s.stamp else s.fresh, firstAt := s.now, lastAt := s.now, captured := captured }
  let s := (s.useFresh).putRec id r
  let q := s.sup.unread
  let drop (l : List Nat) : List Nat := l.filter fun x => x != id
  let q : CQueue Nat := { q with items := drop q.items, after := drop q.after }
  let s := s.setSup { s.sup with unread := (q.push 64 id s.stamp).1 }
  ((s.bump SUP_CNT_RECORDS_CNT []).recView).highRec id 0

/-- ERROR_REPORT's effect: the oldest report reaches the supervisor. -/
def State.takeError (s : State) : State :=
  match s.errLines with
  | [] => s
  | e :: rest =>
    let s := { s with errLines := rest }
    let sub := errSub e
    match s.openRec e.page sub with
    | some (id, r) => s.repeatErr e id r
    | none =>
      let ids := s.freeIds
      if ids.isEmpty then
        let s := s.recGap
        if actsItself e then s.actAt e.level e.page e.code sub e.detail none else s
      else
        let id := ids.getD (s.fresh % ids.length) 0
        let s := s.useFresh.newRec e sub id
        if actsItself e then s.actAt e.level e.page e.code sub e.detail (some id) else s

/-! ### Self-test (R657–R663) -/

/-- Slices of a complete test, and slot positions of a slice, by KIND (Table 18-3). -/
def testSlices (kind : Nat) : Nat × Nat :=
  match kind with
  | 1 => (64, 2500)
  | 2 => (8, 5120)
  | 3 => (32, 1250)
  | 4 => (16, 1250)
  | 5 => (1, 6250)
  | _ => (0, 0)

/-- Targets of a KIND (R94). -/
def testTargets (kind : Nat) : Nat :=
  match kind with
  | 1 => 68
  | 2 => 8
  | 3 => 4
  | 4 => 1
  | 5 => 64
  | _ => 0

/-- The page of a target. -/
def testPage (kind target : Nat) : Nat :=
  match kind with
  | 1 =>
    match target with
    | 64 => pgHBR
    | 65 => pgLOG
    | 66 => pgSGW
    | 67 => pgCPH
    | q => pgQ q
  | 2 => pgCST
  | 3 => pgLane target
  | 4 => pgKWL
  | _ => pgLFE target

/-- A target's test. -/
def State.test (s : State) (kind target : Nat) : TestSt := SMap.getD s.sup.tests (256 * kind + target) {}

/-- Bring OVERDUE and SUP_ST_RES in line with the tests; the age of a target that never passed is unstated. -/
def State.viewTests (s : State) : State :=
  let t := s.test (s.rd SUP_ST_SEL_KIND []) (s.rd SUP_ST_SEL_TARGET [])
  let s := ((s.wr SUP_ST_RES_RESULT [] t.result).setB SUP_ST_RES_OVERDUE [] t.overdue).wr SUP_ST_RES_SLICE [] t.next
  let s := match t.passedAt with
    | some at_ => s.wr SUP_ST_RES_AGE_S [] (min 0xFFFF ((s.now - at_) / 1000000000))
    | none => s.wrFree SUP_ST_RES_AGE_S []
  s.cond pgSUP 6 (s.sup.tests.any fun p => p.2.overdue)

/-- Change a target's test. -/
def State.setTest (s : State) (kind target : Nat) (t : TestSt) : State :=
  (s.setSup { s.sup with tests := SMap.setD s.sup.tests {} (256 * kind + target) t }).viewTests

/-- A slice takes its target, or gives it back (R659). -/
def State.takeTarget (s : State) (kind target : Nat) (b : Bool) : State :=
  match kind with
  | 1 => if target < 64 then (s.setQuay target { s.quay target with testing := b }).lineUpdate target else s
  | 3 => s.setLane target { s.lane target with testing := b }
  | 4 => s.setKwl { s.kwl with testing := b }
  | 5 => (s.setQuay target { s.quay target with testing := b }).lineUpdate target
  | _ => s

/-- A complete test starts from slice 0 (R661); a slice of it that runs is given up. -/
def State.startTest (s : State) (kind target : Nat) : State :=
  let t := s.test kind target
  let s := if t.running then s.takeTarget kind target false else s
  s.setTest kind target { t with active := true, next := 0, running := false }

/-- Whether SUP_ST_EN enables a target (Table 18-9). -/
def State.testEnabled (s : State) (kind target : Nat) : Bool :=
  match kind with
  | 1 => decide (target < 64) && s.quayMaskBit SUP_ST_EN_Q_LO_MASK SUP_ST_EN_Q_HI_MASK target
  | 2 => decide (target < 8) && bitOf (s.rd SUP_ST_EN_ENG_MASK []) target == 1
  | 3 => decide (target < 4) && bitOf (s.rd SUP_ST_EN_ENG_MASK []) (8 + target) == 1
  | 4 => target == 0 && bitOf (s.rd SUP_ST_EN_ENG_MASK []) 12 == 1
  | 5 => decide (target < 56) && s.quayMaskBit SUP_ST_EN_LFE_LO_MASK SUP_ST_EN_LFE_HI_MASK target
  | _ => false

/-- The window that a slice of a target may start in: a granted one at its start (within its first slot position), long enough, and not yet taken
(R658). -/
def State.sliceWindow (s : State) (kind target : Nat) : Option Window :=
  s.tid.windows.find? fun w =>
    w.kind == kind && w.target == target && !w.served && w.from_ ≤ s.count && s.count < w.from_ + slotUnits
      && w.from_ + (testSlices kind).2 * slotUnits ≤ w.fin

/-- A window has been taken by a slice. -/
def State.serveWindow (s : State) (w : Window) : State :=
  s.setTid { s.tid with windows := s.tid.windows.map fun x => if x = w then { x with served := true } else x }

/-- A logic slice ends. -/
def State.logicSliceEnd (s : State) (kind target : Nat) (pass : Bool) : State :=
  let t := { s.test kind target with running := false }
  let s := s.takeTarget kind target false
  if pass then
    if t.next + 1 = (testSlices kind).1 then
      s.setTest kind target (if t.failed then { t with active := false, next := 0, result := 2, overdue := false }
        else { t with active := false, next := 0, result := 1, passedAt := some s.now, overdue := false })
    else s.setTest kind target { t with next := t.next + 1 }
  else
    let s := s.setTest kind target { t with active := false, next := 0, result := 2, failed := true, overdue := false }
    (s.bump SUP_CNT_ST_FAIL_CNT []).errU (testPage kind target) 0xF0 2

/-- A failing cell enters the repair map, which holds up to 4,088 entries (R663, R664). -/
def State.repairAdd (s : State) (e : RepairEntry) : State :=
  if s.sup.repair.any fun x => x.cell == e.cell then s
  else if 4088 ≤ s.sup.repair.length then s
  else
    let s := s.setSup { s.sup with repair := s.sup.repair ++ [e], repairDirty := true }
    (s.wr SUP_REPAIR_CNT_CNT [] s.sup.repair.length).setCst { s.cst with excluded := (s.cst.excluded.filter fun c => c != e.cell) ++ [e.cell] }

/-- A bank slice ends: its failing cells enter the repair map, and its other cells return to the free list unless the map lists them
(R231, R663). -/
def State.bankSliceEnd (s : State) (k : Nat) (fails : List RepairEntry) : State :=
  let t := { s.test 2 k with running := false }
  let lo := 4096 * k + 512 * t.next
  let inSlice (c : Nat) : Bool := lo ≤ c && c < lo + 512
  let fails := fails.filter fun e => inSlice e.cell
  let s := fails.foldl (fun s e => s.repairAdd e) s
  let listed := s.sup.repair.map fun e => e.cell
  let bad := fails.map fun e => e.cell
  let s := s.setCst { s.cst with
    retired := s.cst.retired.filter fun c => !inSlice c || bad.contains c
    excluded := s.cst.excluded.filter fun c => !inSlice c || listed.contains c }
  match fails with
  | [] =>
    if t.next + 1 = 8 then
      let s := (s.wr CST_STATUS_FAILED [] (clearBitOf (s.rd CST_STATUS_FAILED []) k)).bankCond.hwm
      s.setTest 2 k { t with active := false, next := 0, result := 1, passedAt := some s.now, overdue := false }
    else s.setTest 2 k { t with next := t.next + 1 }
  | e :: _ =>
    let s := ((s.wr SUP_ST_FAIL_CELL [] e.cell).wr SUP_ST_FAIL_BIT_BIT [] e.bit).wr SUP_ST_FAIL_BIT_COUNT [] fails.length
    let s := ((s.bump SUP_CNT_ST_FAIL_CNT []).irq pgSUP 5).retireLimit e.cell
    s.setTest 2 k { t with active := false, next := 0, result := 2, overdue := false }

/-- Every frame held in a bank is dropped at the start of its window (R660), a frame still landing there is refused, and the bank's contents are
undefined from then on (R33, R233). -/
def State.bankEmpty (s : State) (k : Nat) : State :=
  let hit := (s.cst.frames.filter fun p => p.2.cells.any fun c => srcOfCell c.1 == k).map fun p => p.1
  let s := hit.foldl (fun s f => (((s.endLanding f).unqueue f).freeCells f).bump CST_CNT_BANK_DROP_CNT []) s
  s.loseCells (4096 * k) (4096 * k + 4096)

/-! ### Alarms (R666, R667) -/

/-- Level of an alarm (Table 18-4). -/
def alarmLevel (a : Nat) : Nat := if a ≤ 1 then 3 else if a ≤ 4 then 4 else 1

/-- Bring ALARM in line, in the supervisor and in the key well. -/
def State.alarmCond (s : State) : State :=
  let any := s.rd SUP_ALARM_ACTIVE [] != 0
  let s := s.cond pgSUP 3 any
  if s.logicUp then (s.setB KWL_STATUS_ALARM [] any).kwlView else s

/-- A verification under way ends with KEY_ABSENT when custody keys are erased (R542). -/
def State.verifyErased (s : State) : State :=
  if s.shadow = shVerifying then
    ((((s.wr TID_STATUS_VERIFY_CODE [] 0x07).wr TID_VERIFY_OFS_OFS [] 0x34).irq pgTID 1).wr TID_STATUS_SHADOW [] shFailed)
  else s

/-- Custody keys are erased everywhere (R483, R510, R542). -/
def State.custodyErase (s : State) : State := if s.logicUp then (((s.kwlErase).cphErase).sealErase).verifyErased else s

end Sys2Proof.Machine
end

