-- ==== Sys2Proof/Machine/Sup.lean ====
section
/-! DEFINITION. The commands of the supervisor (chapter 18). -/

namespace Sys2Proof.Machine

/-- Something happens at the supervisor, which is served in every mode but OFF (R76). -/
def onSup (s : State) (c : Bool) (f : State → State) : Result := if s.mode != .off && c then .next (f s) else .next s

/-- A SUP command is rejected. -/
def State.supReject (s : State) : State := s.wr SUP_STATUS_CMD_REJECT [] 1

/-! ### Records -/

/-- SUP_REC_ACK written with an ID (R645). -/
def execSupRecAck (id : Nat) (s : State) : Result := onSup s true fun s => s.closeRec (id % 64) false

/-- AUTO_ACK_TIMEOUT: no repeat for AUTO_ACK_MS (R645). -/
def execAutoAckTimeout (s : State) : Result :=
  onSup s (s.rd SUP_ESC_AUTO_ACK_MS [] != 0) fun s =>
    match List.find? (fun p : Nat × SupRec => p.2.opened && decide (p.2.lastAt + s.rd SUP_ESC_AUTO_ACK_MS [] * msNs ≤ s.now)) s.sup.recs with
    | some p => s.closeRec p.1 false
    | none => s

/-- SUP_REC_POP (R647). -/
def execSupRecPop (s : State) : Result := onSup s true State.popRec

/-- SUP_REC_SEL written with an ID (R647). -/
def execSupRecSel (id : Nat) (s : State) : Result :=
  onSup s true fun s => s.showId (id % 64)

/-! ### Resets -/

/-- UNIT_RESET of the unit whose PG_ID SUP_CMD_ARG holds (R673). -/
def execUnitReset (s : State) : Result :=
  onSup s true fun s =>
    match pageOfId (s.rd SUP_CMD_ARG_TARGET []) with
    | some pg => s.askReset (.unit pg) 0 (some s.sup.caller)
    | none => s.supReject

/-- CLUSTER_RESET of the cluster in SUP_CMD_ARG. -/
def execClusterReset (s : State) : Result :=
  onSup s true fun s => if s.rd SUP_CMD_ARG_TARGET [] < 8 then s.askReset (.cluster (s.rd SUP_CMD_ARG_TARGET [])) 0 (some s.sup.caller) else s.supReject

/-- REGION_RESET of the region in SUP_CMD_ARG (R655). -/
def execRegionReset (s : State) : Result :=
  onSup s true fun s => if s.rd SUP_CMD_ARG_TARGET [] < 2 then s.askReset (.region (s.rd SUP_CMD_ARG_TARGET [])) 0 (some s.sup.caller) else s.supReject

/-- DIE_RESET of the logic die (R656). -/
def execDieReset (s : State) : Result := onSup s true fun s => s.askReset .die 1 (some s.sup.caller)

/-- PACKAGE_RESET acts as level 5 (R652, R673). -/
def execPackageReset (s : State) : Result := onSup s true fun s => s.levelFive 3 (some s.sup.caller)

/-- RESET_DONE: the oldest reset completes (R30); a package reset waits for its records to be written, as far as the hold-up check permits. -/
def execResetDone (s : State) : Result :=
  onSup s true fun s =>
    match s.sup.resets with
    | [] => s
    | x :: rest =>
      if x.scope == .package && s.sup.history.any fun h => h.2.2.isNone then s
      else
        let s := (s.setSup { s.sup with resets := rest, lastReset := some (x.scope, x.asked) }).setB SUP_STATUS_RESET_BUSY [] (!rest.isEmpty)
        (s.runReset x).irq pgSUP 7

/-- REGION_RETRY_TIMEOUT: the supervisor resets a region in safe state once (R655). -/
def execRegionRetryTimeout (s : State) : Result :=
  onSup s (s.rd SUP_CTRL_REGION_RETRY_MS [] != 0) fun s =>
    let ms := s.rd SUP_CTRL_REGION_RETRY_MS [] * msNs
    if s.inRegionSafe 0 && !s.sup.northRetried && decide (s.sup.northAt + ms ≤ s.now) then
      (s.setSup { s.sup with northRetried := true }).askReset (.region 0) 0 none
    else if s.inRegionSafe 1 && !s.sup.southRetried && decide (s.sup.southAt + ms ≤ s.now) then
      (s.setSup { s.sup with southRetried := true }).askReset (.region 1) 0 none
    else s

/-- SAFE_RESET_TIMEOUT: the supervisor resets the logic die in die safe state (R656). -/
def execSafeResetTimeout (s : State) : Result :=
  onSup s (s.rd SUP_CTRL_SAFE_RESET_MS [] != 0 && s.on SUP_STATUS_DIE_SAFE [] && !s.sup.scanning
      && decide (s.sup.dieAt + s.rd SUP_CTRL_SAFE_RESET_MS [] * msNs ≤ s.now)) fun s => s.askReset .die 2 none

/-- REPAIR_CLEAR empties the repair map (R665). -/
def execRepairClear (s : State) : Result :=
  onSup s true fun s => (s.setSup { s.sup with repair := [], repairDirty := true }).wr SUP_REPAIR_CNT_CNT [] 0

/-! ### Self-test -/

/-- SUP_ST_REQ: one complete test of one target starts (R661). A target that no KIND has starts nothing. -/
def execSupStReq (kind target : Nat) (s : State) : Result :=
  onSup s true fun s => if target < testTargets kind then s.startTest kind target else s

/-- SELFTEST_PERIOD_DUE of an enabled target: its test starts, or is OVERDUE (R661). -/
def execSelftestPeriodDue (kind target : Nat) (s : State) : Result :=
  onSup s (s.testEnabled kind target && decide ((s.test kind target).dueAt ≤ s.now)) fun s =>
    let t := { s.test kind target with dueAt := s.now + s.rd SUP_ST_PERIOD_S [] * 1000000000 }
    if t.active then s.setTest kind target { t with overdue := true } else (s.setTest kind target t).startTest kind target

/-- BANK_WINDOW_START: a bank enters its test window (R660). -/
def execBankWindowStart (s : State) : Result :=
  onLogic s fun s =>
    match s.tid.windows.find? fun w => w.kind == 2 && !s.bankInTest w.target && w.from_ ≤ s.count && s.count < w.fin with
    | none => s
    | some w => (s.wr CST_STATUS_BANK_TEST [] (setBitOf (s.rd CST_STATUS_BANK_TEST []) w.target)).bankEmpty w.target

/-- SELFTEST_SLICE: a waiting test runs its next slice in a window (R657–R659). -/
def execSelftestSlice (kind target : Nat) (s : State) : Result :=
  onLogicIf s ((s.test kind target).active && !(s.test kind target).running && (kind != 2 || s.bankInTest target)) fun s =>
    match s.sliceWindow kind target with
    | none => s
    | some w =>
      let s := (s.serveWindow w).takeTarget kind target true
      (s.setTest kind target { s.test kind target with running := true }).bump SUP_CNT_ST_SLICE_CNT []

/-- SELFTEST_SLICE_END: a slice ends; `pass` is the outcome of a logic slice, `fails` the failing cells of a bank slice (R662, R663). -/
def execSelftestSliceEnd (kind target : Nat) (pass : Bool) (fails : List CellFail) (s : State) : Result :=
  onLogicIf s (s.test kind target).running fun s =>
    if kind = 2 then s.bankSliceEnd target (fails.map fun f => { cell := f.cell, bit := f.bit, bits := f.bits }) else s.logicSliceEnd kind target pass

/-! ### Alarms -/

/-- ALARM_RISE of alarm `a` of Table 18-4. VOLT_CORE is armed at t0 of a power-on (R686). -/
def execAlarmRise (a : Nat) (s : State) : Result :=
  onSup s (a < 7 && bitOf (s.rd SUP_ALARM_ACTIVE []) a == 0 && !(a == 2 && s.mode == .start && !s.pwk.powered)) fun s =>
    let s := (s.wr SUP_ALARM_ACTIVE [] (setBitOf (s.rd SUP_ALARM_ACTIVE []) a)).wr SUP_ALARM_LATCH_SEEN [] (setBitOf (s.rd SUP_ALARM_LATCH_SEEN []) a)
    let s := (s.bump SUP_CNT_ALARM_CNT []).alarmCond
    s.custodyErase.errU pgSUP (0x10 + a) (alarmLevel a)

/-- ALARM_CLEAR of alarm `a`, whose condition has been absent for 10 ms (R667). -/
def execAlarmClear (a : Nat) (s : State) : Result :=
  onSup s (a < 7 && bitOf (s.rd SUP_ALARM_ACTIVE []) a == 1) fun s =>
    let s := (s.wr SUP_ALARM_ACTIVE [] (clearBitOf (s.rd SUP_ALARM_ACTIVE []) a)).alarmCond
    let s := if s.logicUp && s.rd SUP_ALARM_ACTIVE [] == 0 && s.on KWL_CTRL_AUTO_RESTORE [] then s.restoreCustody else s
    if a = 0 ∧ s.sup.northAlarm then s.askReset (.region 0) 0 none
    else if a = 1 ∧ s.sup.southAlarm then s.askReset (.region 1) 0 none
    else s

/-- TEMP_WARN: the junctions of the logic die and the I/O die are at these temperatures, in °C (R667). -/
def execTempWarn (logic io : Int) (s : State) : Result :=
  onSup s true fun s =>
    let s := (s.wr SUP_TEMP_LOGIC_C [] (unsignedOf 16 logic)).wr SUP_TEMP_IO_C [] (unsignedOf 16 io)
    s.cond pgSUP 4 (decide ((s.rd SUP_TEMP_CFG_WARN_C [] : Int) < logic) || decide ((s.rd SUP_TEMP_CFG_WARN_C [] : Int) < io))

/-! ### Scan entry (R668, R669) -/

/-- SCAN_ARM: SUP_SCAN.ARM written by a master. -/
def execScanArm (v : Nat) (m : Master) (s : State) : Result :=
  onSup s true fun s =>
    if v = 0x5C then s.setSup { s.sup with scanArm := some (m, s.now) } else (s.setSup { s.sup with scanArm := none }).supReject

/-- Whether a GO of a master may start a scan (R669). -/
def State.scanAllowed (s : State) (m : Master) : Bool :=
  (match s.sup.scanArm with | some (w, t) => w == m && decide (s.now ≤ t + msNs) | none => false)
    && s.logicUp && !s.sup.scanning && !s.on RET_STATUS_COMMIT_BUSY [] && !s.on KWL_STATUS_COMMIT_BUSY []

/-- Every key outside the retained store is zeroed (R544, Table 18-5 step 2). -/
def State.scanErase (s : State) : State :=
  let s := s.kwlScan
  let zero (j : LaneJob) : LaneJob := match j with
    | .traffic j key attr gen out => .traffic j (key.map fun _ => 0) attr gen out
    | .host j key custody gen => .host j (key.map fun _ => 0) custody gen
  let s := (List.range 4).foldl (fun s l => s.setLane l { s.lane l with keyReg := none, intake := none, job := (s.lane l).job.map zero }) s
  s.setSeal {}

/-- SCAN_GO by a master. `zeroed` says whether every key store reads its zero signature (Table 18-5). -/
def execScanGo (m : Master) (zeroed : Bool) (s : State) : Result :=
  onSup s true fun s =>
    if !s.scanAllowed m then s.supReject
    else
      let s := (s.dieSafe.scanErase).setSup { s.dieSafe.scanErase.sup with scanArm := none }
      if zeroed then
        let s := s.useFresh.histEvent 0x21 s.fresh
        s.setSup { s.sup with scanning := true }
      else (s.wr SUP_SCAN_RESULT [] 3).askReset .die 3 none

/-- SCAN_COMPLETE: the scan passes, or fails with its first failing chain (Table 18-5). -/
def execScanComplete (pass : Bool) (chain : Nat) (s : State) : Result :=
  onSup s s.sup.scanning fun s =>
    let s := s.wr SUP_SCAN_RESULT [] (if pass then 1 else 2)
    let s := if pass then s else s.wr SUP_SCAN_CHAIN [] chain
    (s.setSup { s.sup with scanning := false }).askReset .die 3 none

end Sys2Proof.Machine
end

