-- ==== Sys2Proof/Machine/TideLate.lean ====
section
/-! DEFINITION. The end of a verification, retained commits by TID_CMD, and what happens at stroke boundaries: the clean stroke, swaps and
the start of execution (R96, R102–R106, R110–R115, R124, Tables 3-7 to 3-9). -/

namespace Sys2Proof.Machine

/-! ### Verification and commit -/

/-- The lowest address below IMAGE_LEN at which the shadow memories of the two planes differ (check 1 of Table 3-6). -/
def State.shadowDiff (s : State) : Option Nat :=
  let a := (s.planeMem 0).shadow
  let b := (s.planeMem 1).shadow
  if a = b then none
  else ((SMap.keys a ++ SMap.keys b).filter fun k => decide (k < imgLen s.tid.shadow) && Mem.byte a k != Mem.byte b k).foldl
    (fun best k => match best with | some m => some (min m k) | none => some k) none

/-- The first failure of a verification: a difference between the memories of the planes in service (R161), found in their contents or met as an
error of a read, an uncorrected error, or a check of Table 3-6. -/
def State.verdict (s : State) (mismatch memErr : Option Nat) : VFail :=
  match (if s.inService 0 && s.inService 1 then s.shadowDiff.or mismatch else none), memErr with
  | some a, _ => some (0x13, a)
  | none, some a => some (0x12, a)
  | none, none => s.verifyMem s.tid.shadow s.tid.loadedLen s.tid.verGen

/-- The action word index, modulo 2²⁰, that DETAIL holds for an error at a byte offset of the shadow image (R129): the offset within ACTIONS in
words of 8 bytes. An offset outside that section has none: 0 is then a DESIGN CHOICE (log 7). -/
def State.actionWordIndex (s : State) (ofs : Nat) : Nat :=
  let d := imgSection s.tid.shadow 2
  if d.ofs ≤ ofs then (ofs - d.ofs) / 8 % 2 ^ 20 else 0

/-- VERIFY_COMPLETE. `mismatch` is the offset of a difference between the two planes' shadow memories, `memErr` that of an uncorrected error met in
the checks. -/
def execVerifyComplete (mismatch memErr : Option Nat) (s : State) : Result :=
  onLogicIf s (s.shadow == shVerifying) fun s =>
    match s.verdict mismatch memErr with
    | none => ((((s.wr TID_STATUS_VERIFY_CODE [] 0).showShadow s.tid.shadow).setShadow shVerified).irq pgTID 0)
    | some (code, ofs) =>
      let s := if code = 0x12 then s.err pgTID 0x05 1 (s.actionWordIndex ofs) else s
      (((s.wr TID_STATUS_VERIFY_CODE [] code).wr TID_VERIFY_OFS_OFS [] ofs).setShadow shFailed).irq pgTID 1

/-- COMMIT of the active image by the tide pages: rejected while another is busy (R110, R111, R624). -/
def State.tidCommit (s : State) : State := if s.commitRefused then s.tidReject else s.slotCommit

/-- TID_COMMIT. -/
def execTidCommit (s : State) : Result := onLogic s fun s => if s.on PG_STATE_ENABLED [pgTID] then s.tidCommit else s.tidReject

/-! ### Swap (R103–R107, R222) -/

/-- Whether the incoming image's reservations are free in every bank and in the pool (R222). -/
def State.reservesFree (s : State) : Bool :=
  let floor (src : Nat) : Nat := imgFloor s.tid.shadow src
  let pool := floor 8 + ((List.range 8).map fun k => if s.bankFailed k then floor k else 0).foldl (· + ·) 0
  (List.range 9).all fun src =>
    (src < 8 && s.bankFailed src)
      || decide ((if src = 8 then pool else floor src) + s.retiredOf src + marginOf src + s.ueOf src ≤ s.capOf src)

/-- Whether a rejoin copy is in progress. -/
def State.copying (s : State) : Bool := (s.plane 0).copying || (s.plane 1).copying

/-- Whether the latest boundary is one at which a swap may take place: a tide boundary, or any boundary while not RUNNING. DESIGN CHOICE (log 7):
that holds too of a commit boundary before the anchor, where R79 numbers no strokes; TID_BASE then takes stroke 0. -/
def State.swapBoundary (s : State) : Bool := !s.running || s.tideIndex (s.strokeAt s.bnd.time) == 0

/-- The conditions of R103 beside the boundary. -/
def State.swapReady (s : State) : Bool := !s.copying && s.reservesFree

/-- Whether the armed image is swapped in at the latest boundary. -/
def State.swapDue (s : State) : Bool :=
  s.bndDue (fun b => b.swap) && s.bnd.stroke && s.shadow == shArmed && decide (s.tid.armedAt < s.bnd.arrived) && s.swapBoundary && s.swapReady

/-- The trigger program at a swap: edges issued for the incoming image's stroke 0 stand, those of the outgoing image from B on are
withdrawn (R456). -/
def State.swapTrig (s : State) (n : Nat) : State :=
  if s.tid.trigShadow && s.tid.trigStroke == n then s.setTid { s.tid with trigShadow := false }
  else
    let s := s.setHck { s.hck with edges := s.hck.edges.filter fun e => decide (e.at_ < s.bnd.time) }
    s.setTid { s.tid with trigStroke := n, trigIdx := 0, trigFirst := true, trigShadow := false }

/-- Staging writes held for the new shadow land in it (Table 3-7). -/
def State.landHeld (s : State) : State :=
  match s.tid.held with
  | [] => s
  | h =>
    let s := s.setTid { s.tid with held := [] }
    (h.foldl (fun s p => s.shadowPut p.1 [p.2]) s).setShadow shLoaded

/-- Staging writes held for an armed swap that does not take place cancel it as they land. -/
def State.landHeldNoSwap (s : State) : State :=
  if s.tid.held.isEmpty then s
  else if s.shadow = shArmed then (s.landHeld).swapCancel shLoaded
  else s.landHeld

/-- The active and the shadow tide memory change places in global stroke n (Table 3-8). -/
def State.swapMems (s : State) (n : Nat) : State :=
  let s := s.setTid { s.tid with
    active := s.tid.shadow, shadow := s.tid.active, hasActive := true, loadedLen := if s.tid.hasActive then imgLen s.tid.active else 0
    waited := 0, tides := 0, curStroke := n, nextAction := 0, swapAt := some s.bnd.time }
  s.mapOwn fun m => { m with active := m.shadow, shadow := m.active }

/-- RUN = 1 that is in force acts at the first commit boundary after an image has been activated (Table 3-9). -/
def State.dueRun (s : State) : State := s.setTid { s.tid with runDue := true }

/-- The swap at the latest boundary (Table 3-8, steps 2 and 3). -/
def State.swapIn (s : State) : State :=
  let n := s.strokeAt s.bnd.time
  let s := { s with bnd := { s.bnd with swap := true } }
  let s := ((s.closeCaptures).slotSwapped).swapDiscard
  let had := s.tid.hasActive
  let old := s.tid.active
  let s := s.swapMems n
  let s := s.setShadow (if had then shVerified else shEmpty)
  let s := (s.installImage n).showShadow (if had then old else [])
  let s := ((s.wr TID_BASE_HI_N [] (n / 2 ^ 32)).wr TID_BASE_LO_N [] (n % 2 ^ 32)).initGates s.tid.active
  let s := s.swapTrig n
  let s := if s.rd TID_STATUS_EXEC [] = exIdle then (s.setExec exHalted).dueRun else s
  s.landHeld

/-- SWAP. -/
def execSwap (s : State) : Result := onLogicIf s s.swapDue State.swapIn

/-- SWAP_DONE: 8 µs after the swap (Table 3-8, step 5); AUTO_COMMIT starts COMMIT (R111). -/
def execSwapDone (s : State) : Result :=
  onLogic s fun s =>
    match s.tid.swapAt with
    | none => s
    | some t =>
      if s.count < t + strokeUnits then s
      else
        let s := s.setTid { s.tid with swapAt := none }
        let s := ((s.irq pgTID 2).bump TID_CNT_SWAP_CNT []).markAt 0xFFFF0001 (t + strokeUnits)
        if s.on TID_CTRL_AUTO_COMMIT [] then s.tidCommit else s

/-- SWAP_TIMEOUT: MAX_WAIT tide boundaries have passed without the conditions (Table 3-7). -/
def execSwapTimeout (s : State) : Result :=
  onLogicIf s (s.shadow == shArmed && decide (s.rd TID_SWAP_CFG_MAX_WAIT [] ≤ s.tid.waited)) fun s =>
    let s := s.swapCancel shVerified
    s.setTid { s.tid with waited := 0 }

/-! ### The stroke boundary (R81, R124, R149, R301, R456, R481) -/

/-- A new stroke of the executing tide table begins. -/
def State.nextStroke (s : State) (n : Nat) : State :=
  let s := s.cleanStroke (n - 1)
  let t := s.tid
  let keep := t.trigStroke == n
  s.setTid { s.tid with
    curStroke := n, nextAction := 0, tides := if s.tideIndex n = 0 then t.tides + 1 else t.tides
    trigStroke := if keep then t.trigStroke else n, trigIdx := if keep then t.trigIdx else 0, trigFirst := !keep || t.trigFirst
    trigShadow := keep && t.trigShadow }

/-- A full copy that began before this boundary has sent the slice of the stroke that ends and has one stroke less to run (R162). -/
def State.copyStroke (s : State) : State :=
  [0, 1].foldl (fun s x =>
    if (s.plane x).copying && decide ((s.plane x).copyFrom < s.bnd.time) then
      let left := s.rd PM_REJOIN_LEFT_STROKES [x]
      let n := s.rd PM_REJOIN_SLICE_LINES [x]
      let k := s.rd PM_REJOIN_LEN_K [x] - left
      (s.copySlice x (n * k) (min planeImageLines (n * (k + 1)))).wr PM_REJOIN_LEFT_STROKES [x] (left - 1)
    else s) s

/-- Counts that run over one stroke begin again: check-word mismatches (R140), memory errors (Table 3-9), comparison failures (R506). -/
def State.strokeCounts (s : State) : State :=
  let s := [0, 1].foldl (fun s x => s.setPlane x { s.plane x with mismatches := 0 }) s
  let s := s.setTid { s.tid with memErr := [] }
  (List.range 4).foldl (fun s l => if (s.lane l).cmpFails = 0 then s else s.setLane l { s.lane l with cmpFails := 0 }) s

/-- Lookup commands queued before the boundary are due (R301). -/
def State.lkpStroke (s : State) : State :=
  State.dropBadOps 64 ({ s with lkp := { s.lkp with due := if s.lkp.long.isSome then s.lkp.due else min 64 s.lkp.cmds.length } } : State)

/-- Whether the latest boundary is a tide boundary of the active image (R80), executing or not. -/
def State.tideBoundary (s : State) : Bool :=
  s.tideLen != 0 && decide (s.anchor ≤ s.bnd.time) && s.tideIndex (s.strokeAt s.bnd.time) == 0

/-- An armed swap whose conditions do not hold at a tide boundary has waited one more (Table 3-7). -/
def State.swapWait (s : State) : State :=
  if s.shadow = shArmed && s.tideBoundary && !s.swapReady then s.setTid { s.tid with waited := s.tid.waited + 1 } else s

/-- STROKE_BOUNDARY. -/
def execStrokeBoundary (s : State) : Result :=
  onLogicIf s (s.bndDue (fun b => b.stroke)) fun s =>
    let s := { s with bnd := { s.bnd with stroke := true } }
    let s := if s.running then s.nextStroke (s.strokeAt s.bnd.time) else s
    ((((((s.sealDelta).copyStroke).strokeCounts).lkpStroke).bthBoundary).foldReports).swapWait

/-! ### The start of execution (R112, R113) -/

/-- Whether the start condition holds at the latest boundary. -/
def State.startHolds (s : State) : Bool :=
  s.on TID_CTRL_RUN [] && s.tid.hasActive && decide (s.anchor ≤ s.bnd.time) && (s.bnd.time - s.anchor) % strokeUnits == 0
    && (s.on HCK_STATUS_SET [] || s.on TID_CTRL_FREE_RUN [])

/-- Execution starts in global stroke n: base, masks, RUNNING (Table 3-9). -/
def State.startAt (s : State) (n : Nat) : State :=
  let l := s.tideLen
  let base := l * (n / l)
  let s := (s.wr TID_BASE_HI_N [] (base / 2 ^ 32)).wr TID_BASE_LO_N [] (base % 2 ^ 32)
  let s := if n % l = 0 then s.initGates s.tid.active else s.joinGates s.tid.active
  let s := s.setTid { s.tid with curStroke := n, nextAction := 0, trigStroke := n, trigIdx := 0, trigFirst := true, trigShadow := false }
  { s.setExec exRunning with bnd := { s.bnd with start := true } }

/-- EXEC_START. -/
def execExecStart (s : State) : Result :=
  onLogicIf s (s.bndDue (fun b => b.start) && !s.bnd.step && !s.bnd.epoch && s.rd TID_STATUS_EXEC [] == exWait && s.startHolds) fun s =>
    s.startAt (s.strokeAt s.bnd.time)

end Sys2Proof.Machine
end

