-- ==== Sys2Proof/Machine/BusOps.lean ====
section
/-! DEFINITION. Where a write or a read of a register or a window goes: the command that a write of a command register gives, plain
registers, BAR2 windows, and what a read returns (R51–R56, R60, R77, R78, R340, R564, R580, R592). -/

namespace Sys2Proof.Machine

/-- The state after a meaning that goes on. -/
def after (r : Result) (s : State) : State := match r with | .next t => t | _ => s

/-- A register word. -/
def wordOf (w : Nat) : Word := BitVec.ofNat 32 w

/-! ### The page header (Table 2-2) -/

/-- PG_COMMIT written with a key. -/
def keyWrite (pg w : Nat) (s : State) : Result :=
  if w % 256 = 0xC0 then execPgCommit pg s else if w % 256 = 0xD5 then execPgDiscard pg s else execPgCommitBadKey pg s

/-- A write in the header of a page. -/
def headerWrite (pg ofs w : Nat) (s : State) : Result :=
  match ofs with
  | 0x10 => .next ((if bitOf w 8 = 1 then after (execPgCntClr pg s) s else s).writeWord (4096 * pg + ofs) w)
  | 0x14 => keyWrite pg w s
  | 0x24 => execIrqEnWrite pg (wordOf w) s
  | 0x28 => execIrqPendClear pg (wordOf w) s
  | 0x2C => execIrqForce pg (wordOf w) s
  | 0x40 => if bitOf w 31 = 1 then execErrFirstClear pg s else .next s
  | _ => .next (s.writeWord (4096 * pg + ofs) w)

/-! ### Command registers -/

/-- TID_CMD. -/
def tidWrite (op : Nat) (s : State) : Result :=
  match op with
  | 1 => execVerify s
  | 2 => execArm s
  | 3 => execDisarm s
  | 4 => execTidCommit s
  | 5 => execTidSnapshot s
  | 6 => execFetch s
  | 7 => execClearShadow s
  | _ => .next s.tidReject

/-- PMx_CMD of plane x. -/
def pmWrite (x op : Nat) (m : Master) (s : State) : Result :=
  match op with
  | 1 => execTakeOut x m s
  | 2 => execRejoin x s
  | _ => .next (s.pmReject x)

/-- BTH_CMD. -/
def bthWrite (op b : Nat) (s : State) : Result :=
  match op with
  | 1 => execClrStats b s
  | 2 => execRefill b s
  | 3 => execUnblock b s
  | 4 => execClrAllStats s
  | _ => .next (s.wr BTH_STATUS_CMD_REJECT [] 1)

/-- QYC_CMD of quay q. -/
def qycWrite (q op : Nat) (m : Master) (s : State) : Result :=
  match op with
  | 1 => execRecover q s
  | 2 => execQycSleep q s
  | 3 => execQycWake q m s
  | 4 => execClrLec q s
  | op => if 8 ≤ op ∧ op ≤ 11 then execQycFlush q (op - 8) s else .next (s.canReject q)

/-- QYE_CMD of quay q. -/
def qyeWrite (q op : Nat) (s : State) : Result :=
  if 8 ≤ op ∧ op ≤ 15 then execQyeFlush q (op - 8) s else .next (s.wr QYE_STATUS_CMD_REJECT [q] 1)

/-- LFE_CMD of front end q. -/
def lfeWrite (q op : Nat) (s : State) : Result :=
  match op with
  | 1 => execMeasureTerm q s
  | 2 => execTdr q s
  | 3 => execSwapReset q s
  | 4 => execMeasCancel q s
  | _ => .next (s.lfeReject q)

/-- HCK_CMD. -/
def hckWrite (op : Nat) (s : State) : Result :=
  match op with
  | 1 => execStep s
  | 2 => execStepPps s
  | 3 => execCancelStep s
  | 4 => execEpochRestart s
  | 5 => execHckSnapshot s
  | 6 => execHold s
  | 7 => execRelease s
  | _ => .next s.hckReject

/-- LOG_CMD. -/
def logWrite (op : Nat) (s : State) : Result :=
  match op with
  | 1 => execLogFlush s
  | 2 => execSealNow s
  | 3 => execReseal s
  | _ => .next (s.wr LOG_STATUS_CMD_REJECT [] 1)

/-- A command register of a cipher lane. -/
def laneWrite (l ofs w : Nat) (s : State) : Result :=
  match ofs with
  | 0xBC => .next (if bitOf w 0 = 1 then s.cphGo l (bitsOf w 15 8) else s)
  | 0xE0 =>
    let s := if bitOf w 31 = 1 then after (execKeyLoad l (bitOf w 1 == 1) (bitOf w 0 == 1) s) s else s
    if bitOf w 30 = 1 then execKeyClear l s else .next s
  | 0x100 => if bitOf w 0 = 1 then execCphResPop l s else .next s
  | _ => .next (s.wr CPH_KEY_IN [l, (ofs - 0xC0) / 4] w)

/-- KWL_CMD. -/
def kwlWrite (op slot parent : Nat) (s : State) : Result :=
  match op with
  | 1 => execDerive slot parent s
  | 2 => execKwlImport slot parent s
  | 3 => execInvalidate slot s
  | 4 => execDestroy slot s
  | 5 => execKwlCommit s
  | 6 => execRestoreCustody s
  | _ => .next s.kwlReject

/-- A semaphore register of the bridge (R564): ACQ, REL and the W1C of TIMED_OUT. -/
def semWrite (n w : Nat) (m : Master) (s : State) : Result :=
  let s := if bitOf w 8 = 1 then s.wr HBR_SEM_TIMED_OUT [n] 0 else s
  let s := if bitOf w 0 = 1 then after (execSemAcquire n (some m) s) s else s
  if bitOf w 1 = 1 then execSemRelease n m s else .next s

/-- Whether the enables of a ring pair hold a locked ring field (R580): its direction's EN, and either EN for the completion ring. -/
def State.ringHolds (s : State) (p ofs : Nat) (cq : Bool) : Bool :=
  let tx := s.on HBR_RP_CTRL_TX_EN (pairIx p)
  let rx := s.on HBR_RP_CTRL_RX_EN (pairIx p)
  match ofs with
  | 0x04 => tx
  | 0x08 => tx
  | 0x18 => rx
  | 0x1C => rx
  | 0x28 => tx || rx
  | 0x2C => tx || rx
  | _ => if cq then tx || rx else false

/-- A write to a locked field of a ring pair: at once, or ignored with LOCKED_WRITE_SEEN. -/
def State.ringField (s : State) (p : Nat) (held : Bool) (f : Fld) (v : Nat) : State :=
  let pg := f.page (pairIx p)
  if held then (s.setB PG_STATE_LOCKED_WRITE_SEEN [pg] true).lockedWrite pg else s.wr f (pairIx p) v

/-- A register of ring pair p, at an offset from r of Table 16-12. -/
def ringWrite (p ofs w : Nat) (s : State) : Result :=
  let held := s.ringHolds p ofs false
  match ofs with
  | 0x00 =>
    let s := ((s.wr HBR_RP_CTRL_VEC_EN (pairIx p) (bitOf w 29)).wr HBR_RP_CTRL_VECTOR (pairIx p) (bitsOf w 21 16))
    execRingEnableWrite p (bitOf w 31 == 1) (bitOf w 30 == 1) s
  | 0x04 => .next (s.ringField p held HBR_TX_BASE_LO_ADDR (w / 2 ^ 12))
  | 0x08 => .next (s.ringField p held HBR_TX_BASE_HI_ADDR w)
  | 0x0C =>
    let tx := s.on HBR_RP_CTRL_TX_EN (pairIx p)
    let rx := s.on HBR_RP_CTRL_RX_EN (pairIx p)
    .next (((s.ringField p tx HBR_RP_SIZE_TX (bitsOf w 4 0)).ringField p rx HBR_RP_SIZE_RX (bitsOf w 12 8)).ringField p (tx || rx)
      HBR_RP_SIZE_CQ (bitsOf w 20 16))
  | 0x10 => execTxTailWrite p (w % 65536) s
  | 0x18 => .next (s.ringField p held HBR_RX_BASE_LO_ADDR (w / 2 ^ 12))
  | 0x1C => .next (s.ringField p held HBR_RX_BASE_HI_ADDR w)
  | 0x20 => execRxTailWrite p (w % 65536) s
  | 0x28 => .next (s.ringField p held HBR_CQ_BASE_LO_ADDR (w / 2 ^ 12))
  | 0x2C => .next (s.ringField p held HBR_CQ_BASE_HI_ADDR w)
  | 0x30 => execCqRpWrite p (w % 2 ^ 17) s
  | 0x38 => .next ((s.wr HBR_RP_COAL_RECS (pairIx p) (w / 65536)).wr HBR_RP_COAL_US (pairIx p) (w % 65536))
  | _ => .next s

/-- RET_CMD. -/
def retWrite (op : Nat) (s : State) : Result :=
  match op with
  | 1 => execRetCommit s
  | 2 => execLoadOpen s
  | 3 => execLoadSeal s
  | 4 => execLoadAbort s
  | _ => .next s.retReject

/-- PWK_CMD. -/
def pwkWrite (op : Nat) (m : Master) (s : State) : Result :=
  match op with
  | 1 => execPwkSleep s
  | 2 => execPwkWake m s
  | 3 => execSleepNorth s
  | 4 => execSleepSouth s
  | 5 => execWakeNorth m s
  | 6 => execWakeSouth m s
  | _ => .next s.pwkReject

/-- PWK_SEG_CMD. -/
def segWrite (op q : Nat) (m : Master) (s : State) : Result :=
  match op with
  | 1 => execSegSleep q s
  | 2 => execSegWake q m s
  | _ => .next s.pwkReject

/-- SUP_CMD. -/
def supWrite (op : Nat) (m : Master) (s : State) : Result :=
  match op with
  | 1 => execUnitReset (s.calledBy m)
  | 2 => execClusterReset (s.calledBy m)
  | 3 => execRegionReset (s.calledBy m)
  | 4 => execDieReset (s.calledBy m)
  | 5 => execPackageReset (s.calledBy m)
  | 6 => execRepairClear s
  | _ => .next s.supReject

/-- SUP_SCAN. Whether the key stores then read zero is not the writer's to say: a free value. -/
def scanWrite (w : Nat) (m : Master) (s : State) : Result :=
  if bitOf w 16 = 1 then execScanGo m (decide (s.fresh % 2 = 0)) s.useFresh else execScanArm (bitsOf w 31 24) m s

/-- A write of the fields that the driver sets in message buffer b of quay q: ignored unless the buffer is at rest (R339). -/
def mbWrite (q b a w : Nat) (s : State) : Result :=
  if mbBusy (s.mb q b) then .next (s.wr QYC_STATUS_MB_WR_IGNORED [q] 1) else .next (s.writeWord a w)

/-- Offset of the CNT_CLR register of a page. -/
def cntClrOfs (pg : Nat) : Nat :=
  if 0x100 ≤ pg ∧ pg < 0x180 then 0xD0 else if 0x180 ≤ pg ∧ pg < 0x200 then 0x100 else if 0x200 ≤ pg ∧ pg < 0x240 then 0xF0
  else if 0x060 ≤ pg ∧ pg ≤ 0x064 then 0x1C0 else if pg = 0x305 then 0xE0 else 0xC0

/-- A write of a register that gives a command, by block, page of the block and offset; `none` for a plain register. -/
def commandWrite (m : Master) (pg ofs w : Nat) : Option (State → Result) :=
  let q := pageInstance pg
  let op := w % 16
  let top := w / 2 ^ 28
  let one (f : State → Result) : Option (State → Result) := some fun s => if bitOf w 0 = 1 then f s else .next s
  if hasCntClr pg && ofs == cntClrOfs pg then one (execCntClrAll pg)
  else
    match blockOf pg with
    | none => none
    | some r =>
      match r.name, pageOfBlock pg, ofs with
      | "TID", 0, 0x84 => some (tidWrite op)
      | "TID", 1, 0x84 => some (execTidLoadDataWrite (wordOf w))
      | "PMA", 0, 0x84 => some (pmWrite 0 op m)
      | "PMB", 0, 0x84 => some (pmWrite 1 op m)
      | "BTH", 0, 0x80 => some (bthWrite op (bitsOf w 29 16))
      | "LKP", 1, 0x9C => some fun s => .next (s.lkpGo w)
      | "LKP", 1, 0xA4 => one execLkpResPop
      | "QYC", 0, 0x84 => some (qycWrite q op m)
      | "QYC", 2, o =>
        if 0x80 ≤ o ∧ o < 0x80 + 32 * 0x60 then some (mbWrite q ((o - 0x80) / 0x60) (4096 * pg + o) w) else none
      | "QYC", 3, 0x100 => some (execMbReq q (wordOf w))
      | "QYC", 3, 0x104 => some (execMbCancel q (wordOf w))
      | "QYC", 3, 0x10C => some fun s => .next ((s.writeWord (4096 * pg + 0x10C) w).mbDoneCond q)
      | "QYE", 0, 0x84 => some (qyeWrite q op)
      | "LFE", 0, 0x84 => some (lfeWrite q op)
      | "HCK", 0, 0x84 => some (hckWrite op)
      | "HCK", 0, 0xA4 => some (execHckRateWrite (wordOf w))
      | "HCK", 1, o =>
        if o % 16 = 0xC ∧ 0x8C ≤ o ∧ o < 0x8C + 64 * 16 then
          some fun s => if bitOf w 30 = 1 then execPcsFaultClear ((o - 0x8C) / 16) s else .next s
        else none
      | "HCK", 3, 0x180 => some (execHckCapPop op)
      | "HCK", 4, 0x80 => some (execHckTsqPop (w % 128) (bitOf w 8 == 1))
      | "LOG", 0, 0x84 => some (logWrite op)
      | "LOG", 0, 0xA4 => some (execLogRingRpWrite w)
      | "CPH", 0, _ => none
      | "CPH", l + 1, o =>
        if o = 0xBC ∨ o = 0xE0 ∨ o = 0x100 ∨ (0xC0 ≤ o ∧ o < 0xE0) then some (laneWrite l o w) else none
      | "KWL", 0, 0x84 => some (kwlWrite top (bitsOf w 11 0) (bitsOf w 27 16))
      | "KWL", 1, o => if 0xC0 ≤ o ∧ o < 0xE0 then some fun s => .next (s.wr KWL_KEY_IN [(o - 0xC0) / 4] w) else none
      | "HBR", 0, o => if 0x100 ≤ o ∧ o < 0x180 then some (semWrite ((o - 0x100) / 4) w m) else none
      | "HBR", 2, o => if 0x80 ≤ o ∧ o < 0x480 then some (ringWrite ((o - 0x80) / 128) ((o - 0x80) % 128) w) else none
      | "HBR", 3, o => if 0x80 ≤ o ∧ o < 0x480 then some (ringWrite (8 + (o - 0x80) / 128) ((o - 0x80) % 128) w) else none
      | "HBR", 4, o => some fun s => .next (s.writeWord (4096 * pg + o) w).msixPending
      | "RET", 0, 0x80 => some (retWrite op)
      | "RET", 1, 0x84 => some (execRetLoadDataWrite (wordOf w))
      | "PWK", 0, 0x84 => some (pwkWrite op m)
      | "PWK", 0, 0x88 => some (segWrite top (w % 64) m)
      | "PWK", 1, 0x80 => one execPwkWakePop
      | "SUP", 0, 0x84 => some (supWrite top m)
      | "SUP", 1, 0x80 => one execSupRecPop
      | "SUP", 1, 0x84 => some (execSupRecSel (w % 64))
      | "SUP", 1, 0x88 => some (execSupRecAck (w % 64))
      | "SUP", 3, 0x98 => some (execSupStReq (bitsOf w 31 24) (w % 256))
      | "SUP", 5, 0x90 => some (scanWrite w m)
      | _, _, _ => none

/-- A page answers a master: it is served (R76), and its kept values have been restored (R69). At a start-up no page does before the restore is complete;
a reset of the logic die restores its own pages alone. -/
def State.answers (s : State) (pg : Nat) : Bool :=
  s.pageServed pg && (s.on DEV_STATUS_RESTORE_DONE [] || s.mode == .sleep || (s.mode != .start && pageOnIoDie pg))

/-- A 32-bit write by a master at an aligned byte address of BAR0. -/
def State.busWrite (s : State) (m : Master) (a w : Nat) : State :=
  let pg := a / 4096
  let ofs := a % 4096
  if !s.answers pg then s
  else if ofs < 0x80 then after (headerWrite pg ofs w s) s
  else
    match commandWrite m pg ofs w with
    | some f => after (f s) s
    | none => s.writeWord a w

/-! ### Reads -/

/-- The state with the registers of a page's block showing what they stand for. -/
def State.viewed (s : State) (pg : Nat) : State :=
  match blockOf pg with
  | none => s
  | some r =>
    match r.name with
    | "SUP" => s.viewTests.viewHistory
    | "HBR" => s.viewHbr
    | "HCK" => s.viewHck
    | "LOG" => s.viewLog
    | "CPH" => s.viewCph
    | "KWL" => s.viewKwl
    | "SGW" => s.viewSgw
    | "LKP" => s.viewLkp
    | "CST" => s.viewCst
    | "BTH" => s.showStaged
    | _ => s

/-- The retained word that RET_RD_DATA returns: 0 within the root copies and the key-well areas (R631). -/
def State.retWord (s : State) : Nat :=
  let a := 4 * s.rd RET_RD_ADDR_ADDR []
  if a < 0x1000 ∨ (0x1C000 ≤ a ∧ a < 0xBC000) then 0 else Mem.le s.ret.store a 4

/-- The word that a read returns at an aligned byte address of BAR0, and the state it leaves: the state as it was, but for the lock of a
message buffer (R54, R340). -/
def State.busRead (s : State) (a : Nat) : Nat × State :=
  let pg := a / 4096
  let ofs := a % 4096
  if 0x100 ≤ pg ∧ pg < 0x180 ∧ pg % 4 = 2 ∧ 0x80 ≤ ofs ∧ ofs < 0x80 + 32 * 0x60 then
    let q := pageInstance pg
    let b := (ofs - 0x80) / 0x60
    match (ofs - 0x80) % 0x60 with
    | 0 => let t := after (execMbLockRead q b s) s; (t.readWord a, t)
    | 0x5C => (s.readWord a, after (execMbUnlockRead q b s) s)
    | _ => (s.readWord a, s)
  else if a = 0xA1084 then (s.loadData, s)
  else if a = 0x30009C then (s.retWord, s)
  else ((s.viewed pg).readWord a, s)

end Sys2Proof.Machine
end

