-- ==== Sys2Proof/Machine/Bus.lean ====
section
/-! DEFINITION. The accesses of the two masters: a register write, the host's TLPs and the frames of the management port (R51–R56, R77, R78,
R558–R560, R586–R592). -/

namespace Sys2Proof.Machine

/-! ### Register writes (R51, R56) -/

/-- Count a narrow write of the host (R560). -/
def State.narrowWrite (s : State) (m : Master) : State :=
  match m with
  | .host => s.bump HBR_CNT_NARROW_WR_CNT []
  | .mgp => s

/-- Whether a master reaches the register pages (Table 16-9). -/
def State.reaches (s : State) (m : Master) : Bool :=
  match m with
  | .host => s.logicUp && s.on HBR_STATUS_LINK_UP []
  | .mgp => s.mode != .off

/-- REGISTER_WRITE: a master writes a word at an aligned byte address of BAR0; `narrow` is a write of fewer than 32 bits, which is ignored
(R51). -/
def execRegisterWrite (m : Master) (a : Nat) (v : Word) (narrow : Bool) (s : State) : Result :=
  if s.reaches m && a % 4 == 0 then .next (if narrow then s.narrowWrite m else s.busWrite m a v.toNat) else .next s

/-! ### Host accesses (R558–R560, R592) -/

/-- A TLP's bytes from its first register word on, each `none` where its byte enable is 0. -/
def padded (a : Nat) (bs : List (Option Nat)) : List (Option Nat) := List.replicate (a % 4) none ++ bs

/-- The words of a TLP: byte address and four bytes, lower address first (R51). -/
def words4 : Nat → Nat → List (Option Nat) → List (Nat × List (Option Nat))
  | 0, _, _ => []
  | n + 1, a, bs => if bs.isEmpty then [] else (a, bs.take 4) :: words4 n (a + 4) (bs.drop 4)

/-- The words of a TLP at a byte address. -/
def tlpWords (a : Nat) (bs : List (Option Nat)) : List (Nat × List (Option Nat)) := words4 (bs.length + 4) (a / 4 * 4) (padded a bs)

/-- A word whose four bytes are enabled. -/
def fullWord (bs : List (Option Nat)) : Option Nat :=
  match bs with
  | [some a, some b, some c, some d] => some (ofLe [a, b, c, d])
  | _ => none

/-- One word of a BAR0 write: ignored and counted where some of its bytes are not enabled (R51, R560). -/
def State.bar0Word (s : State) (a : Nat) (bs : List (Option Nat)) : State :=
  match fullWord bs with
  | some w => s.busWrite .host a w
  | none => if bs.any fun b => b.isSome then s.narrowWrite .host else s

/-- The runs of enabled bytes in a TLP, with their addresses. -/
def runs : Nat → List (Option Nat) → List (Nat × List Nat)
  | _, [] => []
  | a, none :: bs => runs (a + 1) bs
  | a, some b :: bs =>
    match runs (a + 1) bs with
    | (c, r) :: rest => if c = a + 1 then (a, b % 256 :: r) :: rest else (a, [b % 256]) :: (c, r) :: rest
    | [] => [(a, [b % 256])]

/-- One word of a write to the berth window (R269). -/
def State.berthWord (s : State) (a : Nat) (bs : List (Option Nat)) : State :=
  match fullWord bs with
  | some w => after (execBerthWindowWrite a (wordOf w) false s) s
  | none => if bs.any fun b => b.isSome then after (execBerthWindowWrite a 0 true s) s else s

/-- A byte of a write to the shadow table window; bytes beyond the configured region are ignored (Table 2-7). -/
def State.shadowByte (s : State) (ofs b : Nat) : State :=
  if ofs < 256 * s.rd CST_SHADOW_CELLS [] then
    s.putCells (256 * s.shadowFirst + ofs) [b % 256]
  else s

/-- A BAR2 write of the host (R77, R78): tide staging, berth window or shadow table; every other range ignores it. -/
def State.bar2Write (s : State) (a : Nat) (bs : List (Option Nat)) : State :=
  if a < 0x400000 then
    (runs a (bs.take (0x400000 - a))).foldl (fun s r => after (execTideStagingWrite r.1 r.2 s) s) s
  else if a < 0x500000 then
    (tlpWords a bs).foldl (fun s p => if p.1 < 0x500000 then s.berthWord (p.1 - 0x400000) p.2 else s) s
  else if 0x800000 ≤ a ∧ a < 0xC00000 then
    (runs a (bs.take (0xC00000 - a))).foldl (fun s r => r.2.zipIdx.foldl (fun s p => s.shadowByte (r.1 - 0x800000 + p.2) p.1) s) s
  else s

/-- A configuration write of the host: Bus Master Enable, bit 2 of the Command register at offset 4. PRESUMED: the layout of PCI
configuration space. -/
def State.configWrite (s : State) (a : Nat) (bs : List (Option Nat)) : State :=
  if 4 < a then s
  else
    match bs[4 - a]? with
    | some (some b) =>
      if bitOf b 2 = 1 then (if s.on HBR_STATUS_BME [] then s else (s.wr HBR_STATUS_BME [] 1).hostBack)
      else if s.on HBR_STATUS_BME [] then after (execBusMasterDisable s) s
      else s
    | _ => s

/-- HOST_WRITE: a posted write TLP is delivered; one with poisoned data is discarded (R559, R560). -/
def execHostWrite (space : HostSpace) (a : Nat) (bs : List (Option Nat)) (poisoned : Bool) (s : State) : Result :=
  onLogicIf s (s.on HBR_STATUS_LINK_UP []) fun s =>
    if poisoned then s.bump HBR_CNT_POISON_CNT []
    else
      match space with
      | .bar0 => (tlpWords a bs).foldl (fun s p => s.bar0Word p.1 p.2) s
      | .bar2 => s.bar2Write a bs
      | .config => s.configWrite a bs

/-- A byte that a BAR2 read returns (Table 2-7). -/
def State.bar2Byte (s : State) (a : Nat) : Nat :=
  if a < 0x400000 then Mem.byte s.tid.shadow a
  else if a < 0x500000 then (s.windowBytes ((a - 0x400000) / 64)).getD (a % 64) 0
  else if 0x800000 ≤ a ∧ a < 0xC00000 then
    if a - 0x800000 < 256 * s.rd CST_SHADOW_CELLS [] then s.cellByte (256 * s.shadowFirst + (a - 0x800000)) else 0
  else if 0x2000000 ≤ a ∧ a < 0x3800000 then s.cellByte (a - 0x2000000)
  else 0

/-- A byte of the function's configuration space (Table 16-1); what the spec gives no value for is free. PRESUMED: the layout of PCI
configuration space. -/
def State.configByte (s : State) (a : Nat) : Nat :=
  match a with
  | 0 => 0x5C
  | 1 => 0x1F
  | 2 => 0x12
  | 3 => 0x64
  | 4 => let f := Config.freeValue (s.freeCtr + a) % 256; if s.on HBR_STATUS_BME [] then setBitOf f 2 else clearBitOf f 2
  | 8 => s.rd DEV_REV_LOGIC [] % 256
  | 9 => 0x00
  | 10 => 0x80
  | 11 => 0x02
  | _ => Config.freeValue (s.freeCtr + a) % 256

/-- Read `n` words of BAR0 from an aligned address, lower address first. -/
def State.readMany : Nat → Nat → State → List Nat × State
  | 0, _, s => ([], s)
  | n + 1, a, s =>
    let r := if s.answers (a / 4096) then s.busRead a else (0, s)
    let t := State.readMany n (a + 4) r.2
    (r.1 :: t.1, t.2)

/-- The words that a read of `len` bytes at a byte address touches. -/
def touched (a len : Nat) : Nat := (a % 4 + len + 3) / 4

/-- Whether a page holds a read until its restore is complete (R69); a page that no block occupies reads 0 at once (R53). -/
def State.holdsRead (s : State) (pg : Nat) : Bool := pageExists pg && !s.answers pg

/-- HOST_READ: the completion with the value read, little-endian (R51, R558). A read that a page holds is not completed here:
HOST_READ_TIMEOUT follows. -/
def execHostRead (space : HostSpace) (a len tag : Nat) (s : State) : Result :=
  onLogicIf s (s.on HBR_STATUS_LINK_UP []) fun s =>
    match space with
    | .bar0 =>
      if s.holdsRead (a / 4096) then s
      else
        let r := State.readMany (touched a len) (a / 4 * 4) s
        r.2.out (.completion tag (ofLe (((r.1.flatMap (leBytes 4)).drop (a % 4)).take len)) true)
    | .bar2 => s.out (.completion tag (ofLe ((List.range len).map fun i => s.bar2Byte (a + i))) true)
    | .config =>
      { s.out (.completion tag (ofLe ((List.range len).map fun i => s.configByte (a + i))) true) with freeCtr := s.freeCtr + a + len }

/-! ### Fearlek (R586–R590) -/

/-- One bit step of the CRC-16 with polynomial 0x1021 (R587). -/
def fearlekBit (c : Nat) : Nat := if 0x8000 ≤ c then ((c * 2) % 0x10000) ^^^ 0x1021 else c * 2

/-- One byte of the CRC-16 of R587. -/
def fearlekByte (c b : Nat) : Nat :=
  fearlekBit (fearlekBit (fearlekBit (fearlekBit (fearlekBit (fearlekBit (fearlekBit (fearlekBit (c ^^^ (b % 256 * 256)))))))))

/-- The CRC-16 of R587: initial value 0xFFFF, no reflection, no final XOR. -/
def fearlekCrc (bs : List Nat) : Nat := bs.foldl fearlekByte 0xFFFF

/-- A request as its bytes spell it (Table 16-7). -/
structure Request where
  cmd : Nat
  addr : Nat
  len : Nat
  payload : List Nat
  crcOk : Bool
  deriving DecidableEq, Repr

/-- Bytes of a request before its CRC: only WRITE and WRITE_FIXED carry a payload. -/
def requestLen (bs : List Nat) : Nat :=
  let cmd := bs.headD 0
  7 + if cmd = 2 ∨ cmd = 4 then 4 * ofBe ((bs.drop 5).take 2) else 0

/-- The request that the bytes of a low period of MG_CS_N hold; `none` where the request CRC is not complete (R590). Bytes after the CRC
are ignored (R588). -/
def parseRequest (bs : List Nat) : Option Request :=
  let n := requestLen bs
  if bs.length < 9 ∨ bs.length < n + 2 then none
  else
    some {
      cmd := bs.headD 0, addr := ofBe ((bs.drop 1).take 4), len := ofBe ((bs.drop 5).take 2), payload := (bs.take n).drop 7
      crcOk := fearlekCrc (bs.take n) == ofBe ((bs.drop n).take 2) }

/-- A FIXED command addresses every word at ADDR. -/
def Request.fixed (r : Request) : Bool := r.cmd == 3 || r.cmd == 4

/-- A command that reads. -/
def Request.reads (r : Request) : Bool := r.cmd == 1 || r.cmd == 3

/-- Address of word i of a request. -/
def Request.at_ (r : Request) (i : Nat) : Nat := if r.fixed then r.addr else r.addr + 4 * i

/-- Word i of a request's payload, sent from bit 31 down. -/
def Request.word (r : Request) (i : Nat) : Nat := ofBe ((r.payload.drop (4 * i)).take 4)

/-- The STATUS of a request before any word is served, in the order of Table 16-8 (R589). -/
def State.requestStatus (s : State) (r : Request) : Nat :=
  let pg := r.addr / 4096
  if !r.crcOk then 1
  else if r.cmd = 0 ∨ 4 < r.cmd then 2
  else if r.addr % 4 ≠ 0 ∨ r.len = 0 ∨ 256 < r.len ∨ (!r.fixed ∧ 4096 < r.addr % 4096 + 4 * r.len) then 3
  else if pageExists pg && !pageServedAsleep pg && !s.logicUp then 4
  else 0

/-- Serve the words of a request from word i on: the data read and the state. -/
def State.serve (r : Request) : Nat → Nat → State → List Nat × State
  | 0, _, s => ([], s)
  | n + 1, i, s =>
    if r.reads then
      let x := if s.answers (r.at_ i / 4096) then s.busRead (r.at_ i) else (0, s)
      let t := State.serve r n (i + 1) x.2
      (x.1 :: t.1, t.2)
    else State.serve r n (i + 1) (s.busWrite .mgp (r.at_ i) (r.word i))

/-- The counter of a STATUS (Table 16-8), and the event of Table 16-17. -/
def State.countStatus (s : State) (st : Nat) : State :=
  match st with
  | 0 => s.bump MGP_CNT_FRAMES_CNT []
  | 1 => (s.bump MGP_CNT_CRC_ERR_CNT []).irq pgMGP 0
  | 2 => s.bump MGP_CNT_BAD_CMD_CNT []
  | 3 => s.bump MGP_CNT_BAD_CMD_CNT []
  | 4 => s.bump MGP_CNT_ASLEEP_CNT []
  | _ => (s.bump MGP_CNT_TIMEOUT_CNT []).irq pgMGP 2

/-- A response: START, STATUS, the data words, and the CRC over them (R588). -/
def responseBytes (st : Nat) (ws : List Nat) : List Nat :=
  let body := [0x5A, st] ++ ws.flatMap (beBytes 4)
  body ++ beBytes 2 (fearlekCrc body)

/-- Show the last frame whose request CRC completed. -/
def State.showRequest (s : State) (r : Request) (st : Nat) : State :=
  ((s.wr MGP_LAST_STATUS [] st).wr MGP_LAST_CMD [] r.cmd).wr MGP_LAST_ADDR_ADDR [] r.addr

/-- An abort of a frame (R590). -/
def State.frameAbort (s : State) : State := (s.bump MGP_CNT_ABORT_CNT []).irq pgMGP 1

/-- A frame whose request CRC is complete. `cut` is the word that times out, if any; `lost` says that the response is lost. -/
def State.frame (s : State) (r : Request) (cut : Option Nat) (lost : Bool) : State :=
  let p := s.passSite pgMGP 1
  let s := p.1
  let bad := p.2 || s.hbr.frameBad
  let s := if bad then (s.setHbr { s.hbr with frameBad := false }).errU pgMGP 0x02 1 else s
  let st := if bad then 1 else s.requestStatus r
  if st ≠ 0 then
    let s := (s.countStatus st).showRequest r st
    if lost then s else s.out (.fearlek (responseBytes st []))
  else
    let n := match cut with | some k => min k r.len | none => r.len
    let t := State.serve r n 0 s
    let st := if n = r.len then 0 else 5
    let s := (t.2.countStatus st).showRequest r st
    let ws := if r.reads then t.1 ++ List.replicate (r.len - n) 0xFFFFFFFF else []
    if lost then s else s.out (.fearlek (responseBytes st ws))

/-- Whether a page that a request addresses holds it until the restore is complete (R69). -/
def State.holdsFrame (s : State) (r : Request) : Bool := s.requestStatus r == 0 && s.holdsRead (r.addr / 4096)

/-- The low period of MG_CS_N ends, with its bytes, for a row of command `cmd`; a frame with an undefined CMD takes the same course. -/
def fearlekRow (cmd : Nat) (bs : List Nat) (s : State) : Result :=
  if s.mode = .off then .next s
  else
    match parseRequest bs with
    | none => .next s.frameAbort
    | some r => if (r.cmd = cmd ∨ r.cmd = 0 ∨ 4 < r.cmd) ∧ !s.holdsFrame r then .next (s.frame r none false) else .next s

/-- FEARLEK_READ. -/
def execFearlekRead (bytes : List Nat) (s : State) : Result := fearlekRow 1 bytes s

/-- FEARLEK_WRITE. -/
def execFearlekWrite (bytes : List Nat) (s : State) : Result := fearlekRow 2 bytes s

/-- READ_FIXED. -/
def execReadFixed (bytes : List Nat) (s : State) : Result := fearlekRow 3 bytes s

/-- WRITE_FIXED. -/
def execWriteFixed (bytes : List Nat) (s : State) : Result := fearlekRow 4 bytes s

/-- FEARLEK_ABORT: MG_CS_N rises before the end: a frame without its whole request CRC is discarded, another is carried out and its response
lost (R590). -/
def execFearlekAbort (bytes : List Nat) (s : State) : Result :=
  if s.mode = .off then .next s
  else
    match parseRequest bytes with
    | none => .next s.frameAbort
    | some r => .next ((if s.holdsFrame r then s else s.frame r none true).frameAbort)

/-- FEARLEK_WORD_TIMEOUT: word `k` of a request is not served within 40 µs (R589). -/
def execFearlekWordTimeout (bytes : List Nat) (k : Nat) (s : State) : Result :=
  if s.mode = .off then .next s
  else
    match parseRequest bytes with
    | none => .next s.frameAbort
    | some r => .next (s.frame r (some k) false)

end Sys2Proof.Machine
end

