-- ==== Sys2Proof/Machine/Legal.lean ====
section
/-! DEFINITION. The legal encodings and combinations that a commit boundary checks (R62, R65). Each check reads the state as the commit
would leave it. -/

namespace Sys2Proof.Machine

/-- Whether a value lies in a range. -/
def inRange (lo hi v : Nat) : Bool := lo ≤ v && v ≤ hi

/-- Whether a page's enable is 1 in PG_CTRL. -/
def State.enableSet (s : State) (pg : Nat) : Bool := s.on PG_CTRL_ENABLE [pg]

/-- TID page 0 (Table 3-10). -/
def State.tidLegal (t : State) : Bool :=
  decide (t.rd TID_ANCHOR_NS_NS [] < nsPerS) && t.rd TID_ANCHOR_NS_NS [] % 8 == 0 && t.rd TID_SWAP_CFG_MAX_WAIT [] != 0

/-- A size of the shadow region may be committed (Table 6-6, R210): `s` is the state before the commit. -/
def State.shadowLegal (t s : State) : Bool :=
  let new := t.rd CST_SHADOW_CELLS []
  let old := s.rd CST_SHADOW_CELLS []
  decide (new ≤ 16384) && new % 256 == 0 && decide (t.floorOf 8 ≤ 65536 - new)
    && (decide (new ≤ old) || s.heldCells.all fun c => !(98304 - new ≤ c && c < 98304 - old))

/-- CST page 0 (Table 6-6). -/
def State.cstLegal (t s : State) : Bool :=
  t.shadowLegal s && (List.range 8).all fun i => t.rd CST_ALPHA_CODE [] / 16 ^ i % 16 ≤ 8

/-- CST page 2 (Table 6-8). -/
def State.cutLegal (t : State) : Bool :=
  ((List.range 32).map fun i => 32 + i).all fun q =>
    let b := t.rd CST_CUT_BYTES [q]
    b == 0 || (inRange 64 16320 b && b % 64 == 0)

/-- A staged berth keeps Table 7-2 and its image-only fields (R271, Table 7-1). -/
def State.berthLegal (s : State) (b : Nat) (bytes : List Byte) : Bool :=
  let new := bytes.map fun x => x.toNat
  let old := (s.cfgBytes b).map fun x => x.toNat
  let c := berthOfBytes new
  let keep := s.berth b
  let only (x y : BerthCfg) : Bool :=
    x.mkind == y.mkind && (x.flags &&& 0xB7) == (y.flags &&& 0xB7) && x.cph == y.cph && x.keyRef == y.keyRef && x.lead == y.lead
  only c keep && new.length == old.length
    && berthFieldsOk new c && berthRulesOk c && berthScheduleOk s.tid.active b c
    && berthProfileOk ((List.range 16).map fun p => s.rd CPH_PROF_A_KIND [p]) c

/-- BTH page 0: every staging slot (R271). -/
def State.slotsLegal (s : State) : Bool := s.bth.slots.all fun p => s.berthLegal p.1 p.2

/-- BTH page 2 (Table 7-7): slopes of the shaped queues of each quay within its line rate, in units of 10 kb/s. -/
def State.cbsLegal (t : State) : Bool :=
  ((List.range 32).map fun i => 32 + i).all fun q =>
    let en := (List.range 8).filter fun i => t.on BTH_CBS_CBS_EN [q, i]
    en.all (fun i => t.rd BTH_CBS_IDLE_SLOPE [q, i] != 0)
      && decide ((en.map fun i => t.rd BTH_CBS_IDLE_SLOPE [q, i]).foldl (· + ·) 0 ≤ t.lineRate q * 100)

/-- LKP page 0 (Table 8-7). -/
def State.lkpLegal (t : State) : Bool :=
  decide (t.rd LKP_HOLD_HOLD_MS [] ≤ 65) && (t.rd LKP_AGE_TICK_MS [] == 0 || decide (100 ≤ t.rd LKP_AGE_TICK_MS []))
    && decide (10 ≤ t.rd LKP_WALK_PERIOD_MS [])

/-! ### CAN quays (R314, Tables 9-1, 9-6, 9-7) -/

/-- One phase of bit timing: prescaler, TSEG1, TSEG2 and SJW as their fields hold them, and the limits of its row of Table 9-1. -/
def phaseOk (brp seg1 seg2 sjw min1 minTq minClocks : Nat) : Bool :=
  decide (min1 ≤ seg1 + 1) && decide (sjw ≤ seg2) && decide (minTq ≤ 3 + seg1 + seg2)
    && decide (minClocks ≤ (brp + 1) * (3 + seg1 + seg2))

/-- The gang rule of R314: another enabled quay of the same gang has the same nominal bit. -/
def State.canGangOk (t : State) (q : Nat) : Bool :=
  let g := t.rd QYC_GANG_GROUP [q]
  g == 0 || (List.range 32).all fun o =>
    o == q || !t.on PG_STATE_ENABLED [pgQ o] || t.rd QYC_GANG_GROUP [o] != g || t.nomBit o == t.nomBit q

/-- R314 for a quay that the commit leaves enabled. -/
def State.canTimingOk (t : State) (q : Nat) : Bool :=
  let xl := t.on QYC_CTRL_XL_EN [q]
  let tms := t.on QYC_XL_CFG_TMS [q]
  let pwms := t.rd QYC_XL_CFG_PWMS [q]
  let pwml := t.rd QYC_XL_CFG_PWML [q]
  phaseOk (t.rd QYC_NBT_NBRP [q]) (t.rd QYC_NBT_NTSEG1 [q]) (t.rd QYC_NBT_NTSEG2 [q]) (t.rd QYC_NBT_NSJW [q]) 2 8 160
    && phaseOk (t.rd QYC_FDBT_DBRP [q]) (t.rd QYC_FDBT_DTSEG1 [q]) (t.rd QYC_FDBT_DTSEG2 [q]) (t.rd QYC_FDBT_DSJW [q]) 1 5 16
    && phaseOk (t.rd QYC_XLBT_DBRP [q]) (t.rd QYC_XLBT_DTSEG1 [q]) (t.rd QYC_XLBT_DTSEG2 [q]) (t.rd QYC_XLBT_DSJW [q]) 1 5 8
    && (!xl || t.on QYC_CTRL_FD_EN [q])
    && (!(xl && !tms) || decide (16 ≤ t.xlBit q))
    && (!tms || (t.on QYC_XL_CFG_ES_DIS [q] && xl && pwms + pwml == t.xlBit q && pwms != 0 && pwml != 0
          && t.on LFE_CTRL_CAN_CLASS [q]))
    && t.canGangOk q

/-- Selective wake decoders in use (R348, R410). -/
def State.wakeDecoders (t : State) : Nat :=
  ((List.range 32).map fun q =>
    (if t.rd LFE_WAKE_MODE [q] = 2 then 1 else 0) + (if t.on QYC_G1608_WAKE_FRAME [q] then 1 else 0)).foldl (· + ·) 0

/-- A commit may not need a ninth decoder (R410). -/
def State.decodersOk (t : State) : Bool := t.wakeDecoders ≤ 8

/-- QYC page 0. -/
def State.qycLegal (t : State) (q : Nat) : Bool :=
  (!t.enableSet (pgQ q) || t.canTimingOk q)
    && !(t.on QYC_G1608_COMPAT [q] && t.rd QYC_G1608_WAKE_FILT [q] == 0) && t.decodersOk

/-- QYC page 1 (Table 9-7). -/
def State.qycFltLegal (t : State) (q : Nat) : Bool := t.rd QYC_RX_CFG_DEFAULT [q] != 0 && decide (t.rd QYC_RX_CFG_RXQ1_RSV [q] ≤ 32)

/-! ### Ethernet quays (R355, R382, Tables 10-1, 10-6, 10-7) -/

/-- Whether SPEED is legal for a quay, and FEC for SPEED (Table 10-1). -/
def speedOk (q speed fec : Nat) : Bool :=
  match speed with
  | 0 => isT1sQ q && fec == 0
  | 1 => isT1Q q && fec == 0
  | 2 => isT1Q q && fec == 0
  | 3 => isSerialQ q && decide (fec ≤ 1)
  | 4 => isSerialQ q && decide (fec ≤ 2)
  | 5 => isSerialQ q && fec == 0
  | 6 => isSerialQ q && fec == 0
  | 7 => isSerialQ q && fec == 0
  | _ => false

/-- The ranges of the locked fields of page 1 (Table 10-7). -/
def State.plcaOk (t : State) (q : Nat) : Bool :=
  !isT1sQ q || (!(t.on QYE_PLCA_EN [q] && t.rd QYE_PLCA_NODE_ID [q] == 255) && t.rd QYE_PLCA_NODE_CNT [q] != 0
    && t.rd QYE_PLCA_TMR_TO_TIMER [q] != 0 && inRange 1 16 (t.rd QYE_CSMA_ATTEMPT_LIMIT [q]))

/-- The medium class of an Ethernet quay. -/
def mediumClass (q : Nat) : Nat := if isT1sQ q then 0 else if isT1Q q then 1 else 2

/-- The gang of a quay is in none of the states of R382. -/
def State.ethGangOk (t : State) (q : Nat) : Bool :=
  let g := t.rd QYE_GANG_GROUP [q]
  g == 0 || ((List.range 32).map fun i => 32 + i).all fun o =>
    t.rd QYE_GANG_GROUP [o] != g
      || (mediumClass o == mediumClass q && t.rd QYE_GANG_DELAY_NS [o] == t.rd QYE_GANG_DELAY_NS [q] && !t.on QYE_PLCA_EN [o])

/-- QYE page 0 (Table 10-6). -/
def State.qyeLegal (t : State) (q : Nat) : Bool :=
  (!t.enableSet (pgQ q) || (speedOk q (t.rd QYE_CTRL_SPEED [q]) (t.rd QYE_CTRL_FEC [q])
      && !(t.on QYE_PLCA_EN [q] && t.rd QYE_CTRL_SPEED [q] != 0) && t.plcaOk q))
    && t.rd QYE_CTRL_MODE [q] != 2 && inRange 64 16379 (t.rd QYE_FRAME_MAX_LEN [q])
    && decide (0x0600 ≤ t.rd QYE_RX_CFG_TPID2 [q]) && t.rd QYE_RX_CFG_TPID2 [q] != 0x8100
    && t.rd QYE_RX_TAG_PVID [q] != 0 && t.rd QYE_RX_TAG_PVID [q] != 4095 && decide (0x0600 ≤ t.rd QYE_TX_TAG_TPID [q])
    && t.ethGangOk q

/-- QYE page 1 (Table 10-7). -/
def State.qyeGangLegal (t : State) (q : Nat) : Bool :=
  (t.rd QYE_GANG_GROUP [q] == 0 || inRange 256 8000 (t.rd QYE_GANG_DELAY_NS [q])) && t.ethGangOk q

/-! ### Front ends (Table 11-7, R410, R412) -/

/-- The LFE page of a front end. -/
def State.lfeLegal (t : State) (q : Nat) : Bool :=
  inRange 10 1000 (t.rd LFE_FAULT_FILT_FILT_US [q])
    && (fieldAbsent LFE_TDR_CFG_VF [q] || inRange 128 230 (t.rd LFE_TDR_CFG_VF [q]))
    && decide (t.rd LFE_WAKE_MODE [q] ≤ (if q < 32 then 2 else 1))
    && !(t.on LFE_WAKE_DLC_EN [q] && decide (8 < t.rd LFE_WAKE_DLC [q]))
    && (fieldAbsent LFE_WAKE_FILT_ENERGY_US [q] || inRange 10 1000 (t.rd LFE_WAKE_FILT_ENERGY_US [q]))
    && (!t.enableSet (pgLFE q)
      || decide (t.rd LFE_SERDES_TX_PRE [q] + t.rd LFE_SERDES_TX_MAIN [q] + t.rd LFE_SERDES_TX_POST [q] ≤ 63))
    && (decide (32 ≤ q) || t.decodersOk)

/-! ### Harbour clock (Tables 12-8 to 12-12, R428, R443) -/

/-- HCK page 0. -/
def State.hckLegal (t : State) : Bool :=
  let src := t.rd HCK_CTRL_SRC []
  src != 3 && (src != 1 || t.isSlave (t.rd HCK_CTRL_WORK_DOM []))
    && t.rd HCK_SERVO_RATE_LIM [] != 0 && t.rd HCK_SERVO_LOCK_NS [] != 0 && inRange 1 999 (t.rd HCK_PPS_OUT_WIDTH_MS [])

/-- HCK page 1. -/
def State.hckQuayLegal (t : State) : Bool :=
  (List.range 64).all fun q => t.rd HCK_QCFG_XCHK_N [q] != 0 && t.rd HCK_QCFG_XCHK_TOL [q] != 0

/-- Whether the cases of R443 leave a domain legal. -/
def State.domLegal (t : State) (d : Nat) : Bool :=
  let log := signedOf 4 (t.rd HCK_DOM_CFG_SYNC_LOG [d])
  (!t.isSlave d || isT1Q (t.slave d) || isSerialQ (t.slave d))
    && !(decide (32 ≤ t.slave d) && decide (t.slave d < 64) && bitOf (t.rd HCK_DOM_MASTERS_MASK [d]) (t.slave d - 32) == 1)
    && (!t.on HCK_DOM_CFG_EN [d] || (List.range 4).all fun e =>
          e == d || !t.on HCK_DOM_CFG_EN [e] || t.rd HCK_DOM_CFG_DOMAIN_NUM [e] != t.rd HCK_DOM_CFG_DOMAIN_NUM [d])
    && decide (-5 ≤ log) && decide (log ≤ 3)

/-- HCK page 2 (R443, Table 12-10). -/
def State.hckDomLegal (t : State) : Bool :=
  (List.range 4).all (fun d => t.domLegal d) && ((List.range 32).map fun i => 32 + i).all fun q =>
    let log := signedOf 4 (t.rd HCK_PORT_CFG_PDELAY_LOG [q])
    decide (-3 ≤ log) && decide (log ≤ 3) && t.rd HCK_PORT_CFG_ALLOWED_LOST [q] != 0

/-- HCK page 3 (Table 12-11). -/
def State.capLegal (t : State) : Bool := (List.range 16).all fun c => !(t.on HCK_CAP_CFG_EN [c] && t.rd HCK_CAP_CFG_EDGE [c] == 0)

/-- HCK page 4 (Table 12-12). -/
def State.cantLegal (t : State) : Bool := (List.range 16).all fun e => decide (t.rd HCK_CANT_CFG2_TIMEBASE [e] ≤ 4)

/-! ### Log recorder, cipher engine, wake and power, supervisor -/

/-- LOG page 0 (Table 13-6, R473). -/
def State.logLegal (t : State) : Bool :=
  t.rd LOG_CTRL_OUT [] != 3 && decide (t.rd LOG_WM_HIGH_KIB [] ≤ 960) && decide (t.rd LOG_WM_LOW_KIB [] < t.rd LOG_WM_HIGH_KIB [])
    && t.rd LOG_IRQ_COAL_RECS [] != 0 && t.rd LOG_IRQ_COAL_US [] != 0 && inRange 56 63 (t.rd LOG_OUT_Q_QUAY [])
    && t.rd LOG_OUT_FLUSH_US_US [] != 0 && t.rd LOG_SEAL_RECS [] != 0 && t.rd LOG_SEAL_MS_MS [] != 0
    && (!t.enableSet pgLOG || inRange 16 30 (t.rd LOG_RING_SIZE_SIZE []))

/-- The encodings of one cipher profile (Tables 14-2 and 14-4). -/
def State.profLegal (t : State) (p : Nat) : Bool :=
  let kind := t.rd CPH_PROF_A_KIND [p]
  decide (kind ≤ 4) && !(kind == 4 && t.on CPH_PROF_A_CONF [p])
    && (!(kind == 3 || kind == 4) || inRange 4 16 (t.rd CPH_PROF_A_TAG_BYTES [p]))
    && (!(kind == 4) || decide (t.rd CPH_PROF_A_FV_BITS [p] ≤ 60))

/-- The profile fields that may not change while a valid AUTH berth names the profile (R497). -/
def profFixed : List Fld :=
  [CPH_PROF_A_KIND, CPH_PROF_A_KEY256, CPH_PROF_A_CONF, CPH_PROF_A_SC, CPH_PROF_A_TAG_BYTES, CPH_PROF_A_FV_BITS]

/-- Whether a valid AUTH berth of the active image names a profile. -/
def State.profNamed (s : State) (p : Nat) : Bool :=
  s.bth.valid.any fun b => ((s.berth b).authRx || (s.berth b).authTx) && (s.berth b).cph % 16 == p

/-- CPH page 0 (R497, Table 14-4). -/
def State.cphLegal (t s : State) : Bool :=
  t.rd CPH_BUDGET_UNSCHED [] != 0 && t.rd CPH_BUDGET_SCHED [] != 0 && (List.range 16).all fun p =>
    t.profLegal p && (profFixed.all (fun f => t.rd f [p] == s.rd f [p]) || !s.profNamed p)

/-- PWK page 0 (Table 17-12). -/
def State.pwkLegal (t : State) : Bool :=
  t.rd PWK_DWELL_MS [] != 0 && t.rd PWK_TC10_TMO_MS [] != 0 && decide (16 ≤ t.rd PWK_HOLDUP_RATIO_RATIO [])
    && (List.range 4).all fun n => !(t.on PWK_PIN_CFG_EN [n] && (t.rd PWK_PIN_CFG_EDGE [n] == 0 || t.rd PWK_PIN_CFG_FILT [n] == 0))

/-- SUP page 0 (Table 18-6). -/
def State.supLegal (t : State) : Bool := inRange 1 5 (t.rd SUP_ESC_HIST_MIN []) && inRange 2 4 (t.rd SUP_ESC_CEIL [])

/-! ### Every page -/

/-- Whether the state `t` that a commit of a page would leave is legal for that page; `s` is the state before it (R62, R65). -/
def State.pageLegal (t s : State) (pg : Nat) : Bool :=
  let q := pageInstance pg
  match blockOf pg with
  | none => true
  | some r =>
    match r.name, pageOfBlock pg with
    | "TID", 0 => t.tidLegal
    | "PMA", 0 => t.rd PM_TX_FRESH_SKIP_SKIP [0] != 0
    | "PMB", 0 => t.rd PM_TX_FRESH_SKIP_SKIP [1] != 0
    | "SGW", 0 => decide (0x0600 ≤ t.rd SGW_DARAST_ETYPE_ETYPE [])
    | "CST", 0 => t.cstLegal s
    | "CST", 2 => t.cutLegal
    | "BTH", 0 => s.slotsLegal
    | "BTH", 2 => t.cbsLegal
    | "LKP", 0 => t.lkpLegal
    | "QYC", 0 => t.qycLegal q
    | "QYC", 1 => t.qycFltLegal q
    | "QYE", 0 => t.qyeLegal q
    | "QYE", 1 => t.qyeGangLegal q
    | "LFE", 0 => t.lfeLegal q
    | "HCK", 0 => t.hckLegal
    | "HCK", 1 => t.hckQuayLegal
    | "HCK", 2 => t.hckDomLegal
    | "HCK", 3 => t.capLegal
    | "HCK", 4 => t.cantLegal
    | "LOG", 0 => t.logLegal
    | "CPH", 0 => t.cphLegal s
    | "PWK", 0 => t.pwkLegal
    | "SUP", 0 => t.supLegal
    | "SUP", 3 => t.rd SUP_ST_PERIOD_S [] != 0
    | "SUP", 5 => inRange 60 140 (t.rd SUP_TEMP_CFG_WARN_C [])
    | _, _ => true

end Sys2Proof.Machine
end

