-- ==== Sys2Proof/Machine/Commit.lean ====
section
/-! DEFINITION. The commit boundary: what a page's accepted commit does, and what else happens at a boundary of R57 (R58–R65, R112, R115,
R271, R272, R317, R318, R349, R359, R360, R381, R416, R431, R515, R593, R625, R655, R714). -/

namespace Sys2Proof.Machine

/-! ### What a commit changes beside its fields -/

/-- The staged fields of a page applied. -/
def State.withStaged (s : State) (pg : Nat) : State := (s.stagedOf pg).foldl (fun s p => s.wr p.1 p.2.1 p.2.2) s

/-- Execution before a commit of TID page 0 that leaves the state `t`: RUN = 0 or ENABLE = 0 halts it (Table 3-9, R126), and a new anchor
takes it through WAIT_TIME until the next stroke boundary (R115). -/
def State.tidBefore (s t : State) : State :=
  if !s.running then s
  else if !t.on TID_CTRL_RUN [] || !t.enableSet pgTID then s.leaveRunning exHalted
  else if t.anchor = s.anchor then s
  else { s.leaveRunning exWait with bnd := { s.bnd with start := true } }

/-- Execution after a commit of TID page 0 (Table 3-9). -/
def State.tidAfter (s : State) : State :=
  let run := s.on TID_CTRL_RUN [] && s.on PG_STATE_ENABLED [pgTID]
  let x := s.rd TID_STATUS_EXEC []
  if x = exHalted ∧ run then { s.setExec exWait with bnd := { s.bnd with start := true } }
  else if x = exWait ∧ !run then s.setExec exHalted
  else s

/-- At the first commit boundary after an image has been activated, RUN = 1 that is in force already takes execution to WAIT_TIME (Table 3-9). -/
def State.runActivated (s : State) : State :=
  if s.tid.runDue then ({ s with tid := { s.tid with runDue := false } } : State).tidAfter else s

/-- The shadow region changes its size (R210): cells that join it are no longer retired, the contents of cells that leave it are lost. -/
def State.shadowAfter (s : State) (old : Nat) : State :=
  let new := s.rd CST_SHADOW_CELLS []
  let s := s.setCst { s.cst with retired := s.cst.retired.filter fun c => !(98304 - new ≤ c && c < 98304 - old) }
  (if new < old then s.loseCells (98304 - old) (98304 - new) else s).viewLkp

/-- A staged berth takes effect in both planes (R271, R272). -/
def State.applySlot (s : State) (b : Nat) (bytes : List Byte) : State :=
  let put (m : PlaneMem) : PlaneMem := { m with cfg := Mem.puts m.cfg (64 * b) (bytes.map fun x => x.toNat) }
  let s := s.mapMem put
  s.mapRt b fun r => { r with tokens := min r.tokens (256 * (s.berth b).burst) }

/-- Every staging slot takes effect and is freed (R271). -/
def State.applySlots (s : State) : State :=
  let s := s.bth.slots.foldl (fun s p => s.applySlot p.1 p.2) s
  (s.setBth { s.bth with slots := [] }).showStaged

/-- The Ethernet quays. -/
def ethQuays : List Nat := (List.range 32).map fun i => 32 + i

/-- A shaper that is switched off holds no credit, and credits count from now on (R266). -/
def State.cbsAfter (s : State) : State :=
  s.setBth { s.bth with
    credit := s.bth.credit.filter fun p => s.on BTH_CBS_CBS_EN [p.1 / 8, p.1 % 8]
    creditAt := ethQuays.foldl (fun m q => SMap.setD m 0 q s.now) s.bth.creditAt }

/-- Whether a quay has a frame in progress in either direction. -/
def State.lineBusy (s : State) (q : Nat) : Bool := (s.quay q).tx.isSome || s.receiving q

/-- MODE_APPLIED of a quay (Tables 9-12 and 10-9). -/
def State.modeApplied (s : State) (q : Nat) : State :=
  let s := s.setQuay q { s.quay q with oldMode := none }
  if q < 32 then (s.wr QYC_STATUS_MODE_PENDING [q] 0).irq (pgQ q) 12 else (s.wr QYE_STATUS_MODE_PENDING [q] 0).irq (pgQ q) 10

/-- Whether the line of a quay is busy at a commit boundary of its page. A frame of another node that has not handed a bank over yet is nothing the
block is told of, so for an enabled quay that is not known to be busy the answer is a free value (log 17). -/
def State.busyAtBoundary (s : State) (q : Nat) : State × Bool :=
  if s.lineBusy q then (s, true)
  else if s.on PG_STATE_ENABLED [pgQ q] then (s.useFresh, s.fresh % 2 == 1)
  else (s, false)

/-- MODE has been committed with a new value: it takes effect at once on an idle line, and otherwise waits (R318, R360). -/
def State.modeChange (s : State) (q old : Nat) : State :=
  let p := s.busyAtBoundary q
  let s := p.1
  if p.2 then
    let s := s.setQuay q { s.quay q with oldMode := some ((s.quay q).oldMode.getD old) }
    if q < 32 then s.wr QYC_STATUS_MODE_PENDING [q] 1 else s.wr QYE_STATUS_MODE_PENDING [q] 1
  else s.modeApplied q

/-- A quay after a commit of its page 0: `was` is whether it was enabled, `old` its MODE before (R317, R318, R359, R360, R368). -/
def State.quayAfter (s : State) (q : Nat) (was : Bool) (old : Nat) : State :=
  let en := s.on PG_STATE_ENABLED [pgQ q]
  let s := if was && !en then (if q < 32 then s.canDisable q else s.ethDisable q) else s
  let s := if !was && en && decide (q < 32) then s.wr QYC_STATUS_LEC [q] 0 else s
  let s :=
    if s.modeReg q != old then s.modeChange q old
    else if !en && (s.quay q).oldMode.isSome then s.modeApplied q
    else s
  if q < 32 then (s.canConds q).loneNode q else s.linkUpdate q

/-- A front end after a commit of its page (R390, R396, R416). -/
def State.frontAfter (s : State) (q : Nat) (was : Bool) (auto : Bool) : State :=
  let en := s.on PG_STATE_ENABLED [pgLFE q]
  let s := if was && !en then s.lfeDisable q else if !was && en then s.lfeEnable q else s
  let s := if !auto && s.on LFE_CTRL_SWAP_AUTO [q] && s.hasFault q 0x04 then s.setFront q { s.front q with exchange := some true } else s
  s.lineUpdate q

/-- The harbour clock after a commit of HCK page 0: SRC = 00 enters FREE (Table 12-3), PPS_OUT follows its enables (R457). -/
def State.hckAfter (s : State) : State := (if s.rd HCK_CTRL_SRC [] = 0 then s.servoTo svFree else s).ppsUpdate

/-- The domains after a commit of HCK page 2: asCapable follows AS_EN, a domain with GM = 1 reports 0 (R446), and the driver's stamp queues change
(R439). -/
def State.domsAfter (s : State) : State :=
  let s := ethQuays.foldl (fun s q => s.asUpdate q) s
  let s := (List.range 4).foldl (fun s d =>
    if s.on HCK_DOM_CFG_GM [d] then
      (((s.wr HCK_DOM_OFS_S_S [d] 0).wr HCK_DOM_OFS_NS_NS [d] 0).wr HCK_DOM_RR_RATE [d] 0).setDom d { s.dom d with ofs := 0, lastRx := none }
    else s) s
  s.tsqCond

/-- The log recorder after a commit of its page 0: a change of ENABLE or SEAL_EN begins a new chain (R482). -/
def State.logAfter (s : State) (was : Bool) : State :=
  let now_ := s.on PG_STATE_ENABLED [pgLOG] && s.on LOG_CTRL_SEAL_EN []
  (if was == now_ then s else s.setSeal {}).viewLog

/-- What an applied commit of a page does beside writing its fields; `o` is the state before it. -/
def State.afterCommit (s o : State) (pg : Nat) : State :=
  let q := pageInstance pg
  let was := o.enabled pg
  match blockOf pg with
  | none => s
  | some r =>
    match r.name, pageOfBlock pg with
    | "TID", 0 => s.tidAfter
    | "CST", 0 => s.shadowAfter (o.rd CST_SHADOW_CELLS [])
    | "BTH", 0 => s.applySlots
    | "BTH", 2 => s.cbsAfter
    | "LKP", 0 => s.viewLkp
    | "QYC", 0 => s.quayAfter q was (o.modeReg q)
    | "QYE", 0 => s.quayAfter q was (o.modeReg q)
    | "QYE", 1 => if isT1sQ q then s.plcaAfter q else s
    | "LFE", 0 => s.frontAfter q was (o.on LFE_CTRL_SWAP_AUTO [q])
    | "HCK", 0 => s.hckAfter
    | "HCK", 2 => s.domsAfter
    | "HCK", 4 => s.viewHck.tsqCond
    | "LOG", 0 => s.logAfter (o.on PG_STATE_ENABLED [pgLOG] && o.on LOG_CTRL_SEAL_EN [])
    | "CPH", _ => s.viewCph
    | "HBR", 0 => (if !was && s.on PG_STATE_ENABLED [pgHBR] then s.hostBack else s).viewHbr
    | _, _ => s

/-- What has to be settled with the old values before a commit that leaves `t`. -/
def State.beforeCommit (s t : State) (pg : Nat) : State :=
  if pg = pgTID then s.tidBefore t
  else if pg = pgBTH + 2 || ethQuays.any fun q => pg == pgQ q then ethQuays.foldl (fun s q => s.advanceCredit q) s
  else s

/-! ### One page at its boundary -/

/-- The commit of a page ends: STAGED_PENDING clears and COMMIT_DONE is raised (R62). -/
def State.commitEnd (s : State) (pg : Nat) : State :=
  let s := { s with commits := SMap.erase s.commits pg }
  let s := { s with spoiled := s.spoiled.filter fun p => p != pg }
  (s.setB PG_STATE_STAGED_PENDING [pg] false).irq pg 29

/-- The staged fields of a page take effect together (R58). -/
def State.commitApply (s t : State) (pg : Nat) : State :=
  let o := s
  let s := ((s.beforeCommit t pg).withStaged pg).reloadStaging pg
  let s := if pageHasEnable pg then s.wr PG_STATE_ENABLED [pg] (s.rd PG_CTRL_ENABLE [pg]) else s
  let s := (s.afterCommit o pg).wr PG_COMMIT_STAT_APPLIED_CNT [pg] (s.rd PG_COMMIT_STAT_APPLIED_CNT [pg] + 1)
  s.commitEnd pg

/-- The commit of a page is refused: no field takes effect and the staging copy is kept (R62). -/
def State.commitRefuse (s : State) (pg : Nat) : State := (s.wr PG_COMMIT_STAT_REFUSED [pg] 1).commitEnd pg

/-- A page with a due commit applies it or refuses it (R62, R65). -/
def State.commitPage (s : State) (pg : Nat) : State :=
  let t := s.withStaged pg
  if s.spoiled.contains pg || !t.pageLegal s pg then s.commitRefuse pg else s.commitApply t pg

/-- The pages whose commit takes effect at the latest boundary: accepted early enough, on a die that is up (R58, R64, R600, R714). -/
def State.commitsDue (s : State) : List Nat :=
  (s.commits.filter fun p => s.leadHeld p.2 && (s.logicUp || pageServedAsleep p.1)).map fun p => p.1

/-- A discard accepted too late for the boundary takes effect after it (R63). -/
def State.lateDiscards (s : State) (due : List Nat) : State :=
  let now_ := s.discards.filter fun pg => due.contains pg
  let s := now_.foldl (fun s pg => s.discard pg) s
  { s with discards := s.discards.filter fun pg => !due.contains pg }

/-! ### The boundary -/

/-- Quays whose region runs again resume their MODE (R349, R381, R655). -/
def State.resumeQuays (s : State) : State :=
  allQuays.foldl (fun s q =>
    if (s.quay q).resume && s.quayAwake q && s.regionState (regionOf q) != 2 && !s.regionSafe q then
      let s := s.setQuay q { s.quay q with resume := false }
      if 32 ≤ q then s.linkUpdate q else s
    else s) s

/-- Filter and configuration stores are reloaded after an uncorrected error (Tables 9-13 and 11-9). -/
def State.reloadStores (s : State) : State :=
  let s := if s.logicUp then (List.range 32).foldl (fun s q =>
    if (s.quay q).filterBad then s.setQuay q { s.quay q with filterBad := false } else s) s else s
  allQuays.foldl (fun s q =>
    if (s.front q).cfgBad && (s.logicUp || decide (q < 56)) then s.setFront q { s.front q with cfgBad := false } else s) s

/-- Edges issued for an armed image that was not swapped in are withdrawn, and the stroke's own are issued (R456). -/
def State.trigNoSwap (s : State) : State :=
  if s.tid.trigShadow && s.tid.trigStroke == s.tid.curStroke then
    let s := s.setHck { s.hck with edges := s.hck.edges.filter fun e => decide (e.at_ < s.bnd.time) }
    s.setTid { s.tid with trigIdx := 0, trigShadow := false }
  else s

/-- What happens on the logic die at every boundary. -/
def State.boundaryLogic (s : State) : State :=
  if s.logicUp then (((s.landHeldNoSwap).trigNoSwap).resumeQuays) else s

/-- Whether the boundary's earlier events leave the turn to its commits: the stroke has begun and a swap that is due has been made, for
fields due at a swap boundary apply after the exchange (R273, Table 3-8). -/
def State.commitTurn (s : State) : Bool := s.bndDue (fun b => b.commit) && (!s.logicUp || (s.bnd.stroke && !s.swapDue))

/-- COMMIT_BOUNDARY. -/
def execCommitBoundary (s : State) : Result :=
  if s.mode != .off && s.commitTurn then
    let s := { s with bnd := { s.bnd with commit := true } }
    let due := s.commitsDue
    let s := due.foldl (fun s pg => s.commitPage pg) s.boundaryLogic
    let s := if s.logicUp then s.runActivated else s
    .next (((s.lateDiscards due).reloadStores).slotSnapshot)
  else .next s

end Sys2Proof.Machine
end

