-- ==== Sys2Proof/Machine/CqCmds.lean ====
section
/-! DEFINITION. Pushes into and pops from the control queues of Table 6-3 (R234–R238). -/

namespace Sys2Proof.Machine

/-- An item is pushed by its queue's push side; a full queue takes it into its gap marker. -/
def State.cqPush (s : State) (x : CqItem) : State :=
  match x with
  | .desc w d mark => (s.pushDesc w d mark).1
  | .record r => s.pushJob { frame := r.d.cell, r := r, since := s.now }
  | .stamp q false e => s.pushTxStamp q e
  | .stamp q true e => s.pushSyncStamp q e
  | .completion p e => s.complete p e
  | .learn r => s.pushLearn r
  | .error e => { s with errLines := s.errLines ++ [e] }

/-- Whether the die of a queue is up: the error record queue is the supervisor's. -/
def State.cqServed (s : State) (sup : Bool) : Bool := if sup then s.mode != .off else s.logicUp

/-- CONTROL_QUEUE_PUSH. -/
def execControlQueuePush (item : CqItem) (s : State) : Result :=
  if s.cqServed (match item with | .error _ => true | _ => false) then .next (s.cqPush item) else .next s

/-- A pop by the queue's pop side. -/
def State.cqPop (s : State) (q : ControlQueue) : State :=
  match q with
  | .ingress w => if s.nextFifo == some w then s.popFifo w else s
  | .jobs => s.takeJob
  | .stamps q sync => s.popStamp q sync
  | .completions p => s.drainCq 1 p
  | .learning => if s.hasAct then s.takeLearn else s
  | .errors => s.popRec

/-- A pop that meets an uncorrected word (R234): a gap marker takes its place, and error 0x02 of the owning page, 0x04 for the learning queue,
is raised. Nothing happens where no word is held. -/
def State.cqPopBad (s : State) (q : ControlQueue) : State :=
  match q with
  | .ingress w =>
    let i := s.ingr w
    match i.fifo.items with
    | [] => s
    | (d, _) :: _ =>
      let p := i.fifo.popBad s.stamp
      let s := (s.putIngr w { i with fifo := p.2.1 }).cstGap p.2.2
      (s.errU pgCST 0x02 1).dropFrame d.cell
  | .jobs =>
    match s.sgw.jobs.items with
    | [] => s
    | it :: _ =>
      let p := s.sgw.jobs.popBad s.stamp
      let s := (s.setSgw { s.sgw with jobs := p.2.1 }).jobDrop
      (s.errU pgSGW 0x02 1).release it.frame (.inner 2)
  | .stamps n sync =>
    let x := s.quay n
    let c := if sync then x.syncStamps else x.txStamps
    if c.items.isEmpty then s
    else
      let p := c.popBad s.stamp
      let s := (s.setQuay n (if sync then { x with syncStamps := p.2.1 } else { x with txStamps := p.2.1 })).tsqGap p.2.2
      let s := (s.tsqCond).errU pgHCK 0x02 1
      match p.1 with
      | .marker g => s.showStampGap g
      | _ => s
  | .completions p => if (s.pair p).cq.items.isEmpty then s else (s.setHbr { s.hbr with cqBad := true }).drainCq 1 p
  | .learning =>
    if s.lkp.learn.items.isEmpty then s
    else
      let p := s.lkp.learn.popBad s.stamp
      let s := { s with lkp := { s.lkp with learn := p.2.1 } }
      ((s.bump LKP_CNT_LEARN_GAP_CNT []).irq pgLKP 5).errU pgLKP 0x04 1
  | .errors =>
    if s.sup.unread.items.isEmpty then s
    else
      let p := s.sup.unread.popBad s.stamp
      let s := (s.setSup { s.sup with unread := p.2.1 }).recView
      let s := (if p.2.2 then s.irq pgSUP 8 else s).errU pgSUP 0x02 1
      match p.1 with
      | .marker g => s.showGap g
      | _ => s

/-- CONTROL_QUEUE_POP; `bad` says that the word popped is uncorrected. -/
def execControlQueuePop (q : ControlQueue) (bad : Bool) (s : State) : Result :=
  if s.cqServed (q == .errors) then .next (if bad then s.cqPopBad q else s.cqPop q) else .next s

end Sys2Proof.Machine
end

