-- ==== Sys2Proof/Machine/Errors.lean ====
section
/-! DEFINITION. The errors that the units detect in themselves, with the outcomes that the error tables of the chapters give them, and the
injection of such errors (R49, R639). An error that another command of the opcode table stands for has its outcome there. -/

namespace Sys2Proof.Machine

/-! ### The outcome of each error, by block -/

/-- CST (Table 6-11): `sel` is the writer for codes 0x02 and 0x07, the cell whose stored CRC no longer fits for code 0x03, the bank for code 0x04,
and for code 0x06 the pool (8) or else the intake sequencer, of which the spec gives no DETAIL. -/
def State.errCst (s : State) (code sel : Nat) : State :=
  match code with
  | 0x02 => s.cqPopBad (.ingress sel)
  | 0x03 => if sel < cellCount then s.spoilCell sel else s
  | 0x04 => after (execBankFailure (sel % 8) s) s
  | 0x06 => if sel = 8 then after (execBankFailure 8 s) s else s.errU pgCST 0x06 4
  | 0x07 => after (execIngressOverrun sel s) s
  | _ => s

/-- BTH (Table 7-9, code 0x02): every staging slot is freed and a pending commit is refused. -/
def State.errBth (s : State) (code : Nat) : State :=
  if code = 0x02 ∧ !s.bth.slots.isEmpty then
    let s := (s.errU pgBTH 0x02 1).freeSlots
    if s.on PG_STATE_STAGED_PENDING [pgBTH] then { s with spoiled := pgBTH :: s.spoiled.filter fun p => p != pgBTH } else s
  else s

/-- LKP (Table 8-11): an uncorrected word in a queue of the lookup block. A command's result carries its TAG. -/
def State.errLkp (s : State) (code : Nat) : State :=
  match code with
  | 0x02 =>
    let k := if s.lkp.long.isSome then 1 else 0
    match s.lkp.cmds[k]? with
    | some c =>
      let s := s.errU pgLKP 0x02 1
      State.dropBadOps 64 ({ s with lkp := { s.lkp with cmds := s.lkp.cmds.set k { c with op := 0 } } } : State)
    | none => s
  | 0x03 =>
    if s.lkp.results.items.isEmpty then s
    else
      let p := s.lkp.results.popBad s.stamp
      let s : State := { s with lkp := { s.lkp with results := p.2.1 } }
      ((s.errU pgLKP 0x03 1).lkpConds).showLkpRes p.1
  | 0x04 => s.cqPopBad .learning
  | _ => s

/-- SGW (Table 5-14). -/
def State.errSgw (s : State) (code : Nat) : State := if code = 0x02 then s.cqPopBad .jobs else s

/-- A message buffer of a CAN quay ends FAILED with RESULT BUS_ERROR and its contents are zero; an attempt of it is over. -/
def State.mbSpoil (s : State) (q b : Nat) : State :=
  let s := match (s.quay q).tx with
    | some t => if t.mb = some b then s.txClear q else s
    | none => s
  let s := s.clearFields [(QYC_MB_ID_IDE, [q, b]), (QYC_MB_ID_RTR_RRS, [q, b]), (QYC_MB_ID_BRS, [q, b]), (QYC_MB_ID_ID, [q, b]),
    (QYC_MB_FMT_FORMAT, [q, b]), (QYC_MB_FMT_ONE_SHOT, [q, b]), (QYC_MB_FMT_DATA_LEN, [q, b])]
  let s := s.clearFields ((List.range 16).map fun k => (QYC_MB_DATA_D, [q, b, k]))
  (s.endMb q b { state := 5, result := 5 }).loneNode q

/-- QYC (Table 9-13): `sel` is the index that DETAIL holds: the message buffer for code 0x02, the filter for code 0x03, the assembly buffer for
code 0x04. -/
def State.errQyc (s : State) (q code sel : Nat) : State :=
  match code with
  | 0x02 => (s.err (pgQ q) 0x02 1 (sel % 32)).mbSpoil q (sel % 32)
  | 0x03 => (s.setQuay q { s.quay q with filterBad := true }).err (pgQ q) 0x03 1 (sel % 128)
  | 0x04 => s.setQuay q { s.quay q with rxFault := some sel }
  | 0x05 => (s.errU (pgQ q) 0x05 1).isolate q
  | 0x06 => (s.errU (pgQ q) 0x06 1).isolate q
  | 0x07 => (s.errU (pgQ q) 0x07 1).isolate q
  | _ => s

/-- QYE (Table 10-10). -/
def State.errQye (s : State) (q code : Nat) : State :=
  match code with
  | 0x02 => s.setQuay q { s.quay q with txFault := true }
  | 0x03 => s.setQuay q { s.quay q with rxFault := some 0 }
  | 0x04 => (s.errU (pgQ q) 0x04 1).isolate q
  | 0x05 => (s.errU (pgQ q) 0x05 1).isolate q
  | 0x06 => (s.errU (pgQ q) 0x06 1).isolate q
  | _ => s

/-- A front end under an error holds the safe line state and isolates its quay (R392, R418). -/
def State.frontFault (s : State) (q : Nat) (cfg : Bool) : State :=
  let f := s.front q
  (s.setFront q { f with fault := true, cfgBad := f.cfgBad || cfg }).isolate q

/-- LFE (Table 11-9). -/
def State.errLfe (s : State) (q code : Nat) : State :=
  match code with
  | 0x02 => (s.errU (pgLFE q) 0x02 1).frontFault q true
  | 0x03 => (s.errU (pgLFE q) 0x03 1).frontFault q false
  | 0x04 => (s.errU (pgLFE q) 0x04 1).frontFault q false
  | 0x05 => (s.errU (pgLFE q) 0x05 1).measAbort q
  | _ => s

/-- HCK (Table 12-15): for code 0x02, `sel` is a quay, 64 plus a quay for its synchronisation stamp queue, or 128 plus a capture input. -/
def State.errHck (s : State) (code sel : Nat) : State :=
  match code with
  | 0x02 =>
    if sel < 64 then s.cqPopBad (.stamps sel false)
    else if sel < 128 then s.cqPopBad (.stamps (sel - 64) true)
    else s.popCapBad (sel - 128)
  | 0x04 => s.setHck { s.hck with msgBad := true }
  | 0x05 => s.errU pgHCK 0x05 4
  | _ => s

/-- LOG (Table 13-10). -/
def State.errLog (s : State) (code : Nat) : State :=
  match code with
  | 0x02 =>
    match s.lgr.buf with
    | [] => s
    | _ :: rest => (((s.setLog { s.lgr with buf := rest }).bump LOG_CNT_LOST_CNT []).errU pgLOG 0x02 1).viewLog
  | 0x03 => if s.sealOn then s.sealFail 3 else s.errU pgLOG 0x03 1
  | _ => s

/-- CPH page 0 (Table 14-7). A job lost with its word leaves a gap marker behind, and its frame goes (R234). -/
def State.errCph (s : State) (code : Nat) : State :=
  match code with
  | 0x02 =>
    match s.cph.jobs.items with
    | [] => s
    | j :: rest =>
      let q : CQueue CphJob := if rest.isEmpty then { items := s.cph.jobs.after } else { s.cph.jobs with items := rest }
      (((s.setCph { s.cph with jobs := q }).errU pgCPH 0x02 1).jobGone j).cphProceed
  | 0x03 => s.setCph { s.cph with wordBad := true }
  | _ => s

/-- A CPH lane page (Table 14-7). -/
def State.errLane (s : State) (l code : Nat) : State :=
  match code with
  | 0x02 => s.compareFail l
  | 0x04 => (s.errU (pgLane l) 0x04 1).laneOut l
  | _ => s

/-- KWL (Table 15-9); the next load or command meets the error of codes 0x02 and 0x06. -/
def State.errKwl (s : State) (code : Nat) : State :=
  match code with
  | 0x02 => s.setKwl { s.kwl with slotBad := true }
  | 0x03 => after (execRbgHealthFail s) s
  | 0x06 => if s.kwl.cmd.isSome then s.setKwl { s.kwl with engineBad := true } else s.errU pgKWL 0x06 1
  | _ => s

/-- HBR (Table 16-15): `sel` is the ring pair for code 0x02. -/
def State.errHbr (s : State) (code sel : Nat) : State :=
  match code with
  | 0x02 => s.cqPopBad (.completions (sel % 16))
  | 0x04 => (s.errU pgHBR 0x04 1).hbrReset
  | _ => s

/-- MGP (Table 16-18). -/
def State.errMgp (s : State) (code : Nat) : State :=
  match code with
  | 0x02 => s.setHbr { s.hbr with frameBad := true }
  | 0x03 => (s.errU pgMGP 0x03 1).unitReset pgMGP
  | _ => s

/-- PWK (Table 17-14); the next measurement of HOLDUP_SNS meets the error of code 0x03. -/
def State.errPwk (s : State) (code : Nat) : State :=
  match code with
  | 0x02 => s.popWakeBad
  | 0x03 => { s with pwk := { s.pwk with snsBad := true } }
  | _ => s

/-- SUP (Table 18-14). -/
def State.errSup (s : State) (code : Nat) : State :=
  match code with
  | 0x02 => s.cqPopBad .errors
  | 0x03 => s.errU pgSUP 0x03 4
  | 0x04 => s.errU pgSUP 0x04 4
  | _ => s

/-- A plane (Table 4-12). -/
def State.errPm (s : State) (x code : Nat) : State :=
  if faultCode false code then s.useFresh.planeFault x false code s.fresh
  else
    match code with
    | 0x06 => after (execClaimRefreshTimeout x s) s
    | 0x08 => after (execCopyLinkError s) s
    | _ => s

/-- A unit's checks detect an error of its page (R13, R49, R639): code 0x01 of every table is a corrected single-bit error. -/
def State.unitError (s : State) (e : UnitErr) : State :=
  if !s.pageServed e.page then s
  else
    match blockOf e.page with
    | none => s
    | some r =>
      let p := (e.page - r.first) % r.pages
      let q := pageInstance e.page
      if e.code = 0x01 ∧ r.name != "DEV" then s.corrected e.page
      else
        match r.name with
        | "SUP" => s.errSup e.code
        | "HBR" => s.errHbr e.code e.sel
        | "MGP" => s.errMgp e.code
        | "HCK" => s.errHck e.code e.sel
        | "LOG" => s.errLog e.code
        | "CPH" => if p = 0 then s.errCph e.code else s.errLane (p - 1) e.code
        | "KWL" => s.errKwl e.code
        | "PMA" => s.errPm 0 e.code
        | "PMB" => s.errPm 1 e.code
        | "SGW" => s.errSgw e.code
        | "LKP" => s.errLkp e.code
        | "BTH" => s.errBth e.code
        | "CST" => s.errCst e.code e.sel
        | "QYC" => s.errQyc q e.code e.sel
        | "QYE" => s.errQye q e.code
        | "LFE" => s.errLfe q e.code
        | "PWK" => s.errPwk e.code
        | _ => s

/-- ERROR_REPORT (R639–R646): a unit detects an error, if one is given, and the oldest error on its way reaches the supervisor. -/
def execErrorReport (e : Option UnitErr) (s : State) : Result :=
  onSup s true fun s => (match e with | some e => s.unitError e | none => s).takeError

/-! ### Injection (R49) -/

/-- The effect of an injection. -/
inductive Inject where
  /-- A corrected error of the page: the next read of a word held at the site. -/
  | corrected
  /-- An error of the page's table. -/
  | error (code : Nat)
  /-- An alarm rises. -/
  | alarm (a : Nat)
  /-- The next flit fails four times. -/
  | flit
  /-- The main stamp path of a quay fails its cross-check for every frame. -/
  | crossCheck (q : Nat)
  /-- The next job's comparison in a lane fails. -/
  | compare (l : Nat)
  /-- The next REASON 5 record carries a wrong check word. -/
  | checkWord
  /-- The next cell written in a source carries a CRC fault. -/
  | cellCrc (src : Nat)
  /-- The next hand-over of an ingress bank is left unserved. -/
  | unserved
  /-- The next retained read of a restore fails. -/
  | retained
  deriving DecidableEq, Repr

/-- A memory site, which takes types 00 and 01. -/
def memSite (ty code : Nat) : Option Inject := if ty = 0 then some .corrected else if ty = 1 then some (.error code) else none

/-- A logic site, which takes type 10. -/
def logicSite (ty code : Nat) : Option Inject := if ty = 2 then some (.error code) else none

/-- The sites of SUP, HBR, MGP, RET and PWK (R677, R596, R598, R635, R637). -/
def siteIo (name : String) (site ty : Nat) : Option Inject :=
  match name with
  | "SUP" =>
    if site = 1 then memSite ty 0x02
    else if site = 2 then logicSite ty 0x03
    else if ty = 2 ∧ 0x100 ≤ site ∧ site < 0x140 then some (.error 0x04)
    else if ty = 2 ∧ 0x200 ≤ site ∧ site < 0x207 then some (.alarm (site - 0x200))
    else none
  | "HBR" =>
    match site with
    | 1 => memSite ty 0x02
    | 2 => if ty = 1 then some .flit else none
    | 3 => logicSite ty 0x04
    | _ => none
  | "MGP" =>
    match site with
    | 1 => memSite ty 0x02
    | 2 => logicSite ty 0x03
    | _ => none
  | "RET" => if site = 1 then (if ty = 0 then some .corrected else if ty = 1 then some .retained else none) else none
  | "PWK" =>
    match site with
    | 1 => memSite ty 0x02
    | 2 => logicSite ty 0x03
    | _ => none
  | _ => none

/-- The sites of the clock, the log recorder, the cipher engine and the key well (R463, R487, R519, R554). -/
def siteShared (name : String) (p site ty : Nat) : Option Inject :=
  match name with
  | "HCK" =>
    match site with
    | 1 => memSite ty 0x02
    | 2 => memSite ty 0x02
    | 3 => memSite ty 0x04
    | n => if ty = 2 ∧ 0x100 ≤ n ∧ n < 0x140 then some (.crossCheck (n - 0x100)) else none
  | "LOG" =>
    match site with
    | 1 => memSite ty 0x02
    | 2 => logicSite ty 0x03
    | _ => none
  | "CPH" =>
    if p = 0 then
      match site with
      | 1 => memSite ty 0x02
      | 2 => logicSite ty 0x03
      | _ => none
    else
      match site with
      | 1 => if ty = 0 then some .corrected else if ty = 1 then some (.compare (p - 1)) else none
      | 2 => if ty = 2 then some (.compare (p - 1)) else none
      | _ => none
  | "KWL" =>
    match site with
    | 1 => memSite ty 0x02
    | 2 => logicSite ty 0x03
    | 3 => logicSite ty 0x06
    | _ => none
  | _ => none

/-- The sites of a plane (Table 4-13). -/
def sitePm (site ty : Nat) : Option Inject :=
  if 1 ≤ site ∧ site ≤ 7 then (if ty ≤ 2 then some (.error 0x03) else none)
  else if 0x10 ≤ site ∧ site ≤ 0x14 then memSite ty 0x02
  else if site = 0x15 then memSite ty 0x08
  else if site = 0x16 then logicSite ty 0x06
  else none

/-- The sites of the gateway, the cistern, the berths and the lookup block (R208, Table 6-12, R278, R312). -/
def siteForward (name : String) (site ty : Nat) : Option Inject :=
  match name with
  | "SGW" => if site = 1 then memSite ty 0x02 else if site = 2 ∧ ty = 2 then some .checkWord else none
  | "CST" =>
    if site = 1 then memSite ty 0x02
    else if 0x100 ≤ site ∧ site < 0x108 then memSite ty 0x04
    else if site = 0x108 then memSite ty 0x06
    else if ty = 3 ∧ 0x200 ≤ site ∧ site < 0x209 then some (.cellCrc (site - 0x200))
    else if site = 0x300 ∧ ty = 2 then some .unserved
    else none
  | "BTH" => if site = 1 then memSite ty 0x02 else none
  | "LKP" =>
    match site with
    | 1 => memSite ty 0x02
    | 2 => memSite ty 0x03
    | 3 => memSite ty 0x04
    | _ => none
  | _ => none

/-- The sites of quays and front ends (Tables 9-14 and 10-11, R419). -/
def siteQuay (name : String) (site ty : Nat) : Option Inject :=
  match name with
  | "QYC" =>
    match site with
    | 1 => memSite ty 0x03
    | 2 => memSite ty 0x02
    | 3 => memSite ty 0x04
    | 4 => logicSite ty 0x05
    | _ => none
  | "QYE" =>
    match site with
    | 1 => memSite ty 0x02
    | 2 => memSite ty 0x03
    | 3 => logicSite ty 0x04
    | _ => none
  | "LFE" =>
    match site with
    | 1 => memSite ty 0x02
    | 2 => logicSite ty 0x03
    | 3 => logicSite ty 0x05
    | _ => none
  | _ => none

/-- What an injection armed in a page with a site and a type does; none for a pair that the block's chapter does not define. -/
def siteOf (pg site ty : Nat) : Option Inject :=
  match blockOf pg with
  | none => none
  | some r =>
    let p := (pg - r.first) % r.pages
    if r.name == "PMA" || r.name == "PMB" then sitePm site ty
    else
      ([siteIo r.name site ty, siteShared r.name p site ty, siteForward r.name site ty, siteQuay r.name site ty].findSome? id)

/-- The `sel` of an injected error: the source that a CST site names, else the word that is read. -/
def siteSel (pg site sel : Nat) : Nat :=
  if blockOf pg = blockOf pgCST ∧ site ≠ 1 then site % 0x100
  else if blockOf pg = blockOf pgHCK ∧ site = 2 then 128 + sel % 16
  else if blockOf pg = blockOf pgHCK then sel % 128
  else sel

/-- Whether a memory of plane x holds a word at a site of Table 4-13. -/
def State.planeHolds (s : State) (x site : Nat) : Bool :=
  let p := s.plane x
  match site with
  | 0x10 => !(s.asPlane x).bth.valid.isEmpty
  | 0x11 => p.img.lkp.active != {}
  | 0x12 => !p.img.pdu.isEmpty
  | 0x13 => !p.history.isEmpty
  | 0x14 => s.cst.queues != [] || s.cst.bq != [] || s.cst.innerIn != []
  | _ => true

/-- Whether the access that the injection waits for is there: for a queue, buffer or memory, a word is held at the site. The words that pass
through the frame buffer of the management port, the assemblies of a quay and the message memory of the time engine are read within another command,
which takes the injection (`State.passSite`). -/
def State.siteHeld (s : State) (pg site sel : Nat) : Bool :=
  match blockOf pg with
  | none => false
  | some r =>
    match r.name with
    | "SUP" => site != 1 || !s.sup.unread.items.isEmpty
    | "MGP" => site != 1
    | "QYC" => site != 3
    | "QYE" => site != 1 && site != 2
    | "PMA" => s.planeHolds 0 site
    | "PMB" => s.planeHolds 1 site
    | "KWL" => site != 1 || s.kwl.slots.any fun p => !p.2.key.isEmpty
    | "RET" => !s.ret.store.isEmpty
    | "HBR" => site != 1 || !(s.pair (sel % 16)).cq.items.isEmpty
    | "HCK" =>
      let k := siteSel pg site sel
      if site = 1 then
        !(if k < 64 then (s.quay k).txStamps else (s.quay (k - 64)).syncStamps).items.isEmpty
      else if site = 2 then !(s.capQ (sel % 16)).items.isEmpty
      else site != 3
    | "LOG" => site != 1 || !s.lgr.buf.isEmpty
    | "CPH" =>
      let p := (pg - r.first) % r.pages
      site != 1 || (if p = 0 then !s.cph.jobs.items.isEmpty else (s.lane (p - 1)).job.isSome)
    | "SGW" => site != 1 || !s.sgw.jobs.items.isEmpty
    | "CST" => site != 1 || !(s.ingr sel).fifo.items.isEmpty
    | "BTH" => !s.bth.slots.isEmpty
    | "LKP" =>
      if site = 1 then !s.lkp.cmds.isEmpty else if site = 2 then !s.lkp.results.items.isEmpty else !s.lkp.learn.items.isEmpty
    | "PWK" => site != 1 || !s.pwk.wakes.items.isEmpty
    | "LFE" => site != 3 || (s.front (pageInstance pg)).meas.isSome
    | _ => true

/-- The injection takes place. -/
def State.inject (s : State) (pg : Nat) (i : Inject) (sel : Nat) : State :=
  match i with
  | .corrected => s.corrected pg
  | .error code => s.unitError { page := pg, code := code, sel := sel }
  | .alarm a => after (execAlarmRise a s) s
  | .flit => after (execD2dLinkFailure false s) s
  | .crossCheck q => s.setHck { s.hck with xforce := q :: s.hck.xforce.filter fun x => x != q }
  | .compare l => s.setLane l { s.lane l with cmpBad := true }
  | .checkWord => s.setSgw { s.sgw with badCheck := true }
  | .cellCrc src => s.setCst { s.cst with crcFaults := src :: s.cst.crcFaults.filter fun x => x != src }
  | .unserved => s.setCst { s.cst with unserved := true }
  | .retained => s.setRet { s.ret with readBad := true }

/-- ERROR_INJECTION: the injection armed in a page takes place at the next access to its site (R49); `sel` says which word of the site is
read: the queue, ring pair, message buffer or writer. ARM clears, for SGW site 0x0002 too, where the fault waits for the next REASON 5 record (DESIGN
CHOICE, log 30). An injection whose site and type no chapter defines stays armed. -/
def execErrorInjection (pg sel : Nat) (s : State) : Result :=
  if s.pageServed pg && s.on ERR_INJECT_ARM [pg] then
    let site := s.rd ERR_INJECT_SITE [pg]
    match siteOf pg site (s.rd ERR_INJECT_TYPE [pg]) with
    | none => .next s
    | some i => if s.siteHeld pg site sel then .next ((s.wr ERR_INJECT_ARM [pg] 0).inject pg i (siteSel pg site sel)) else .next s
  else .next s

end Sys2Proof.Machine
end

