-- ==== Sys2Proof/Machine/Dispatch.lean ====
section
/-! DEFINITION. The effect of a command on everything but the queue of waiting commands: one arm for each constructor. -/

namespace Sys2Proof.Machine

def exec (i : Instr) (s : State) : Host.Outcome State Fault Refusal :=
  match i with
  | .registerWrite m a v narrow => Sys2Proof.Machine.execRegisterWrite m a v narrow s
  | .pgCommit pg => Sys2Proof.Machine.execPgCommit pg s
  | .pgDiscard pg => Sys2Proof.Machine.execPgDiscard pg s
  | .pgCommitBadKey pg => Sys2Proof.Machine.execPgCommitBadKey pg s
  | .commitBoundary => Sys2Proof.Machine.execCommitBoundary s
  | .pgCntClr pg => Sys2Proof.Machine.execPgCntClr pg s
  | .cntClrAll pg => Sys2Proof.Machine.execCntClrAll pg s
  | .irqEnWrite pg v => Sys2Proof.Machine.execIrqEnWrite pg v s
  | .irqPendClear pg v => Sys2Proof.Machine.execIrqPendClear pg v s
  | .irqForce pg v => Sys2Proof.Machine.execIrqForce pg v s
  | .errFirstClear pg => Sys2Proof.Machine.execErrFirstClear pg s
  | .errInjectArm pg ty site => Sys2Proof.Machine.execErrInjectArm pg ty site s
  | .errorInjection pg sel => Sys2Proof.Machine.execErrorInjection pg sel s
  | .mbLockRead q b => Sys2Proof.Machine.execMbLockRead q b s
  | .mbUnlockRead q b => Sys2Proof.Machine.execMbUnlockRead q b s
  | .mbLockTimeout q b => Sys2Proof.Machine.execMbLockTimeout q b s
  | .tideStagingWrite a bytes => Sys2Proof.Machine.execTideStagingWrite a bytes s
  | .tidLoadDataWrite v => Sys2Proof.Machine.execTidLoadDataWrite v s
  | .verify => Sys2Proof.Machine.execVerify s
  | .verifyComplete mismatch memErr => Sys2Proof.Machine.execVerifyComplete mismatch memErr s
  | .arm => Sys2Proof.Machine.execArm s
  | .disarm => Sys2Proof.Machine.execDisarm s
  | .tidCommit => Sys2Proof.Machine.execTidCommit s
  | .tidSnapshot => Sys2Proof.Machine.execTidSnapshot s
  | .fetch => Sys2Proof.Machine.execFetch s
  | .fetchDone bytes => Sys2Proof.Machine.execFetchDone bytes s
  | .fetchErr n => Sys2Proof.Machine.execFetchErr n s
  | .clearShadow => Sys2Proof.Machine.execClearShadow s
  | .swap => Sys2Proof.Machine.execSwap s
  | .swapDone => Sys2Proof.Machine.execSwapDone s
  | .swapTimeout => Sys2Proof.Machine.execSwapTimeout s
  | .strokeBoundary => Sys2Proof.Machine.execStrokeBoundary s
  | .execStart => Sys2Proof.Machine.execExecStart s
  | .emit => Sys2Proof.Machine.execEmit s
  | .gate => Sys2Proof.Machine.execGate s
  | .trig => Sys2Proof.Machine.execTrig s
  | .triggerEdge => Sys2Proof.Machine.execTriggerEdge s
  | .capw => Sys2Proof.Machine.execCapw s
  | .pack => Sys2Proof.Machine.execPack s
  | .packComplete => Sys2Proof.Machine.execPackComplete s
  | .check => Sys2Proof.Machine.execCheck s
  | .test => Sys2Proof.Machine.execTest s
  | .mark => Sys2Proof.Machine.execMark s
  | .lowTideWindowEnd => Sys2Proof.Machine.execLowTideWindowEnd s
  | .descriptorIntake => Sys2Proof.Machine.execDescriptorIntake s
  | .forwardingDecision => Sys2Proof.Machine.execForwardingDecision s
  | .recordAccept port got => Sys2Proof.Machine.execRecordAccept port got s
  | .checkWordQuery port => Sys2Proof.Machine.execCheckWordQuery port s
  | .lengthNotice => Sys2Proof.Machine.execLengthNotice s
  | .claimRefreshTimeout x => Sys2Proof.Machine.execClaimRefreshTimeout x s
  | .planeFault x tid code detail => Sys2Proof.Machine.execPlaneFault x tid code detail s
  | .occupancyReloadDone => Sys2Proof.Machine.execOccupancyReloadDone s
  | .takeover => Sys2Proof.Machine.execTakeover s
  | .deltaSealArrive crcOk => Sys2Proof.Machine.execDeltaSealArrive crcOk s
  | .deltaCommit => Sys2Proof.Machine.execDeltaCommit s
  | .copyLinkError => Sys2Proof.Machine.execCopyLinkError s
  | .takeOut x m => Sys2Proof.Machine.execTakeOut x m s
  | .rejoin x => Sys2Proof.Machine.execRejoin x s
  | .pllRelock x ok => Sys2Proof.Machine.execPllRelock x ok s
  | .planeSelftestDone x pass site => Sys2Proof.Machine.execPlaneSelftestDone x pass site s
  | .rejoinStart => Sys2Proof.Machine.execRejoinStart s
  | .rejoinComplete => Sys2Proof.Machine.execRejoinComplete s
  | .iq2JobEnqueue => Sys2Proof.Machine.execIq2JobEnqueue s
  | .signalExtraction => Sys2Proof.Machine.execSignalExtraction s
  | .mapTimeoutSweep => Sys2Proof.Machine.execMapTimeoutSweep s
  | .encap1722 => Sys2Proof.Machine.execEncap1722 s
  | .decap1722 => Sys2Proof.Machine.execDecap1722 s
  | .encapDarast => Sys2Proof.Machine.execEncapDarast s
  | .decapDarast => Sys2Proof.Machine.execDecapDarast s
  | .rewrite => Sys2Proof.Machine.execRewrite s
  | .rebuild => Sys2Proof.Machine.execRebuild s
  | .bankHandover w data last stamp deadline => Sys2Proof.Machine.execBankHandover w data last stamp deadline s
  | .cellWrite => Sys2Proof.Machine.execCellWrite s
  | .cellLanding w => Sys2Proof.Machine.execCellLanding w s
  | .ingressOverrun w => Sys2Proof.Machine.execIngressOverrun w s
  | .classification => Sys2Proof.Machine.execClassification s
  | .frameRelease f h => Sys2Proof.Machine.execFrameRelease f h s
  | .cellCrcFailure port f c => Sys2Proof.Machine.execCellCrcFailure port f c s
  | .bankFailure src => Sys2Proof.Machine.execBankFailure src s
  | .controlQueuePush item => Sys2Proof.Machine.execControlQueuePush item s
  | .controlQueuePop q bad => Sys2Proof.Machine.execControlQueuePop q bad s
  | .berthWindowWrite a v narrow => Sys2Proof.Machine.execBerthWindowWrite a v narrow s
  | .meterSweep b => Sys2Proof.Machine.execMeterSweep b s
  | .clrStats b => Sys2Proof.Machine.execClrStats b s
  | .refill b => Sys2Proof.Machine.execRefill b s
  | .unblock b => Sys2Proof.Machine.execUnblock b s
  | .clrAllStats => Sys2Proof.Machine.execClrAllStats s
  | .clrAllStatsDone => Sys2Proof.Machine.execClrAllStatsDone s
  | .learningRequest => Sys2Proof.Machine.execLearningRequest s
  | .stampSweep ovf idx => Sys2Proof.Machine.execStampSweep ovf idx s
  | .agingSweep => Sys2Proof.Machine.execAgingSweep s
  | .search => Sys2Proof.Machine.execSearch s
  | .read => Sys2Proof.Machine.execRead s
  | .insert => Sys2Proof.Machine.execInsert s
  | .write => Sys2Proof.Machine.execWrite s
  | .delete => Sys2Proof.Machine.execDelete s
  | .flushDynamic => Sys2Proof.Machine.execFlushDynamic s
  | .openRebuild => Sys2Proof.Machine.execOpenRebuild s
  | .swapBanks => Sys2Proof.Machine.execSwapBanks s
  | .closeRebuild => Sys2Proof.Machine.execCloseRebuild s
  | .dropPending => Sys2Proof.Machine.execDropPending s
  | .lkpLongCmdDone => Sys2Proof.Machine.execLkpLongCmdDone s
  | .lkpResPop => Sys2Proof.Machine.execLkpResPop s
  | .walkerVisit => Sys2Proof.Machine.execWalkerVisit s
  | .canFrameReceived q f stamp => Sys2Proof.Machine.execCanFrameReceived q f stamp s
  | .canBusError q lec tx sub bitpos ident stamp => Sys2Proof.Machine.execCanBusError q lec tx sub bitpos ident stamp s
  | .protocolException q => Sys2Proof.Machine.execProtocolException q s
  | .canTxAttemptStart q stamp joined loop => Sys2Proof.Machine.execCanTxAttemptStart q stamp joined loop s
  | .canTxSuccess q => Sys2Proof.Machine.execCanTxSuccess q s
  | .canTxAttemptFail q lost => Sys2Proof.Machine.execCanTxAttemptFail q lost s
  | .txLifeExpired q k => Sys2Proof.Machine.execTxLifeExpired q k s
  | .busOffRecovered q => Sys2Proof.Machine.execBusOffRecovered q s
  | .canModeApplied q => Sys2Proof.Machine.execCanModeApplied q s
  | .recover q => Sys2Proof.Machine.execRecover q s
  | .qycSleep q => Sys2Proof.Machine.execQycSleep q s
  | .qycWake q m => Sys2Proof.Machine.execQycWake q m s
  | .clrLec q => Sys2Proof.Machine.execClrLec q s
  | .qycFlush q k => Sys2Proof.Machine.execQycFlush q k s
  | .mbReq q v => Sys2Proof.Machine.execMbReq q v s
  | .mbCancel q v => Sys2Proof.Machine.execMbCancel q v s
  | .ethFrameReceived q bytes fcsOk symbolErr corr uncorr stamp => Sys2Proof.Machine.execEthFrameReceived q bytes fcsOk symbolErr corr uncorr stamp s
  | .ethTxStart q => Sys2Proof.Machine.execEthTxStart q s
  | .ethTxEnd q stamp => Sys2Proof.Machine.execEthTxEnd q stamp s
  | .ethCutTooLong q => Sys2Proof.Machine.execEthCutTooLong q s
  | .ethLinkDown q => Sys2Proof.Machine.execEthLinkDown q s
  | .ethLinkUp q reversed sqi => Sys2Proof.Machine.execEthLinkUp q reversed sqi s
  | .usxCodeWord q code up => Sys2Proof.Machine.execUsxCodeWord q code up s
  | .collision q late => Sys2Proof.Machine.execCollision q late s
  | .ethModeApplied q => Sys2Proof.Machine.execEthModeApplied q s
  | .qyeFlush q k => Sys2Proof.Machine.execQyeFlush q k s
  | .lineConditionSet q codes => Sys2Proof.Machine.execLineConditionSet q codes s
  | .lineConditionClear q codes => Sys2Proof.Machine.execLineConditionClear q codes s
  | .canReversalFrame q => Sys2Proof.Machine.execCanReversalFrame q s
  | .roleExchange q => Sys2Proof.Machine.execRoleExchange q s
  | .measureTerm q => Sys2Proof.Machine.execMeasureTerm q s
  | .termMeasureDone q ohms => Sys2Proof.Machine.execTermMeasureDone q ohms s
  | .termMeasureTimeout q => Sys2Proof.Machine.execTermMeasureTimeout q s
  | .tdr q => Sys2Proof.Machine.execTdr q s
  | .tdrDone q kind echo => Sys2Proof.Machine.execTdrDone q kind echo s
  | .swapReset q => Sys2Proof.Machine.execSwapReset q s
  | .measCancel q => Sys2Proof.Machine.execMeasCancel q s
  | .canWakePattern q => Sys2Proof.Machine.execCanWakePattern q s
  | .wakePatternAbandon q => Sys2Proof.Machine.execWakePatternAbandon q s
  | .selectiveWakeFrame q f err => Sys2Proof.Machine.execSelectiveWakeFrame q f err s
  | .g1608Wake q dominantUs frame => Sys2Proof.Machine.execG1608Wake q dominantUs frame s
  | .t1sEnergyWake q us => Sys2Proof.Machine.execT1sEnergyWake q us s
  | .tc10Wake q => Sys2Proof.Machine.execTc10Wake q s
  | .detectorRearm q => Sys2Proof.Machine.execDetectorRearm q s
  | .eventStamp q rx main fallback => Sys2Proof.Machine.execEventStamp q rx main fallback s
  | .step => Sys2Proof.Machine.execStep s
  | .stepPps => Sys2Proof.Machine.execStepPps s
  | .cancelStep => Sys2Proof.Machine.execCancelStep s
  | .epochRestart => Sys2Proof.Machine.execEpochRestart s
  | .epochApply => Sys2Proof.Machine.execEpochApply s
  | .hckSnapshot => Sys2Proof.Machine.execHckSnapshot s
  | .hold => Sys2Proof.Machine.execHold s
  | .release => Sys2Proof.Machine.execRelease s
  | .stepApply => Sys2Proof.Machine.execStepApply s
  | .hckRateWrite v => Sys2Proof.Machine.execHckRateWrite v s
  | .syncMeasurement rx origin corr logInterval csro tbi port => Sys2Proof.Machine.execSyncMeasurement rx origin corr logInterval csro tbi port s
  | .ppsInEdge fall time => Sys2Proof.Machine.execPpsInEdge fall time s
  | .syncLoss => Sys2Proof.Machine.execSyncLoss s
  | .gmChange d tbi port ident => Sys2Proof.Machine.execGmChange d tbi port ident s
  | .stampPathSwitch q => Sys2Proof.Machine.execStampPathSwitch q s
  | .pcsFaultClear q => Sys2Proof.Machine.execPcsFaultClear q s
  | .pdelayInitiate q => Sys2Proof.Machine.execPdelayInitiate q s
  | .pdelayReqReceived q t2 t3 => Sys2Proof.Machine.execPdelayReqReceived q t2 t3 s
  | .pdelayExchangeEnd q stamps => Sys2Proof.Machine.execPdelayExchangeEnd q stamps s
  | .syncRelay d rx origin corr logInterval csro tbi sent => Sys2Proof.Machine.execSyncRelay d rx origin corr logInterval csro tbi sent s
  | .gmSyncSend d sent => Sys2Proof.Machine.execGmSyncSend d sent s
  | .domainLost d => Sys2Proof.Machine.execDomainLost d s
  | .asMessageIgnored q => Sys2Proof.Machine.execAsMessageIgnored q s
  | .cantSyncWrite e => Sys2Proof.Machine.execCantSyncWrite e s
  | .cantFupWrite e => Sys2Proof.Machine.execCantFupWrite e s
  | .captureEdge c rise time hold => Sys2Proof.Machine.execCaptureEdge c rise time hold s
  | .ppsOutPulse => Sys2Proof.Machine.execPpsOutPulse s
  | .ppsOutFall => Sys2Proof.Machine.execPpsOutFall s
  | .hckTsqPop q sync => Sys2Proof.Machine.execHckTsqPop q sync s
  | .hckCapPop c => Sys2Proof.Machine.execHckCapPop c s
  | .logRecordReport => Sys2Proof.Machine.execLogRecordReport s
  | .logRecordOutput => Sys2Proof.Machine.execLogRecordOutput s
  | .logDataIrq => Sys2Proof.Machine.execLogDataIrq s
  | .logFrameSend => Sys2Proof.Machine.execLogFrameSend s
  | .summaryWrite => Sys2Proof.Machine.execSummaryWrite s
  | .logFlush => Sys2Proof.Machine.execLogFlush s
  | .sealNow => Sys2Proof.Machine.execSealNow s
  | .reseal => Sys2Proof.Machine.execReseal s
  | .sealClose => Sys2Proof.Machine.execSealClose s
  | .sealStop => Sys2Proof.Machine.execSealStop s
  | .logRingRpWrite rp => Sys2Proof.Machine.execLogRingRpWrite rp s
  | .iq3JobEnqueue => Sys2Proof.Machine.execIq3JobEnqueue s
  | .cipherJobStart l => Sys2Proof.Machine.execCipherJobStart l s
  | .provisionalContinuation l => Sys2Proof.Machine.execProvisionalContinuation l s
  | .cipherJobFinish l => Sys2Proof.Machine.execCipherJobFinish l s
  | .compareFail l => Sys2Proof.Machine.execCompareFail l s
  | .cipherReleaseSlot l => Sys2Proof.Machine.execCipherReleaseSlot l s
  | .enc l tag => Sys2Proof.Machine.execEnc l tag s
  | .dec l tag => Sys2Proof.Machine.execDec l tag s
  | .mac l tag => Sys2Proof.Machine.execMac l tag s
  | .cmacVerify l tag => Sys2Proof.Machine.execCmacVerify l tag s
  | .hostJobComplete l data => Sys2Proof.Machine.execHostJobComplete l data s
  | .keyLoad l key256 custody => Sys2Proof.Machine.execKeyLoad l key256 custody s
  | .keyClear l => Sys2Proof.Machine.execKeyClear l s
  | .cphResPop l => Sys2Proof.Machine.execCphResPop l s
  | .derive slot parent => Sys2Proof.Machine.execDerive slot parent s
  | .kwlImport slot parent => Sys2Proof.Machine.execKwlImport slot parent s
  | .invalidate slot => Sys2Proof.Machine.execInvalidate slot s
  | .destroy slot => Sys2Proof.Machine.execDestroy slot s
  | .kwlCommit => Sys2Proof.Machine.execKwlCommit s
  | .restoreCustody => Sys2Proof.Machine.execRestoreCustody s
  | .orphanSweep => Sys2Proof.Machine.execOrphanSweep s
  | .maskKeyRenew => Sys2Proof.Machine.execMaskKeyRenew s
  | .rbgStartupDone => Sys2Proof.Machine.execRbgStartupDone s
  | .rbgHealthFail => Sys2Proof.Machine.execRbgHealthFail s
  | .rootGenerate => Sys2Proof.Machine.execRootGenerate s
  | .retainedWrite sns => Sys2Proof.Machine.execRetainedWrite sns s
  | .retainedWriteDone ok => Sys2Proof.Machine.execRetainedWriteDone ok s
  | .retainedWriteRetry => Sys2Proof.Machine.execRetainedWriteRetry s
  | .hostRead space a len tag => Sys2Proof.Machine.execHostRead space a len tag s
  | .hostReadTimeout tag => Sys2Proof.Machine.execHostReadTimeout tag s
  | .hostWrite space a bs poisoned => Sys2Proof.Machine.execHostWrite space a bs poisoned s
  | .lockedRead tag => Sys2Proof.Machine.execLockedRead tag s
  | .hotReset => Sys2Proof.Machine.execHotReset s
  | .pcieLinkDown => Sys2Proof.Machine.execPcieLinkDown s
  | .functionLevelReset => Sys2Proof.Machine.execFunctionLevelReset s
  | .busMasterDisable => Sys2Proof.Machine.execBusMasterDisable s
  | .d3hotEntry => Sys2Proof.Machine.execD3hotEntry s
  | .d0Return => Sys2Proof.Machine.execD0Return s
  | .dmaReadCompletion r data => Sys2Proof.Machine.execDmaReadCompletion r data s
  | .dmaReadTimeout r => Sys2Proof.Machine.execDmaReadTimeout r s
  | .semAcquire n m => Sys2Proof.Machine.execSemAcquire n m s
  | .semRelease n m => Sys2Proof.Machine.execSemRelease n m s
  | .semTimeout n => Sys2Proof.Machine.execSemTimeout n s
  | .iq0RxFrame descs => Sys2Proof.Machine.execIq0RxFrame descs s
  | .rxAuthZero => Sys2Proof.Machine.execRxAuthZero s
  | .txDescriptorFetch p desc => Sys2Proof.Machine.execTxDescriptorFetch p desc s
  | .txCompletion p => Sys2Proof.Machine.execTxCompletion p s
  | .txTailWrite p v => Sys2Proof.Machine.execTxTailWrite p v s
  | .rxTailWrite p v => Sys2Proof.Machine.execRxTailWrite p v s
  | .cqRpWrite p v => Sys2Proof.Machine.execCqRpWrite p v s
  | .ringEnableWrite p tx rx => Sys2Proof.Machine.execRingEnableWrite p tx rx s
  | .ringHalt p rx => Sys2Proof.Machine.execRingHalt p rx s
  | .ringCoalTimeout p => Sys2Proof.Machine.execRingCoalTimeout p s
  | .d2dLinkFailure lockLost => Sys2Proof.Machine.execD2dLinkFailure lockLost s
  | .fearlekRead bytes => Sys2Proof.Machine.execFearlekRead bytes s
  | .fearlekWrite bytes => Sys2Proof.Machine.execFearlekWrite bytes s
  | .readFixed bytes => Sys2Proof.Machine.execReadFixed bytes s
  | .writeFixed bytes => Sys2Proof.Machine.execWriteFixed bytes s
  | .fearlekAbort bytes => Sys2Proof.Machine.execFearlekAbort bytes s
  | .fearlekWordTimeout bytes k => Sys2Proof.Machine.execFearlekWordTimeout bytes k s
  | .pwkSleep => Sys2Proof.Machine.execPwkSleep s
  | .pwkWake m => Sys2Proof.Machine.execPwkWake m s
  | .sleepNorth => Sys2Proof.Machine.execSleepNorth s
  | .sleepSouth => Sys2Proof.Machine.execSleepSouth s
  | .wakeNorth m => Sys2Proof.Machine.execWakeNorth m s
  | .wakeSouth m => Sys2Proof.Machine.execWakeSouth m s
  | .segSleep q => Sys2Proof.Machine.execSegSleep q s
  | .segWake q m => Sys2Proof.Machine.execSegWake q m s
  | .tc10SleepRequest q => Sys2Proof.Machine.execTc10SleepRequest q s
  | .tc10SleepAck q accepted => Sys2Proof.Machine.execTc10SleepAck q accepted s
  | .tc10SleepTimeout q => Sys2Proof.Machine.execTc10SleepTimeout q s
  | .segmentCommitPoint q => Sys2Proof.Machine.execSegmentCommitPoint q s
  | .dwellEnd q => Sys2Proof.Machine.execDwellEnd q s
  | .segmentAwake q => Sys2Proof.Machine.execSegmentAwake q s
  | .sleepAbort q lfeKind ident => Sys2Proof.Machine.execSleepAbort q lfeKind ident s
  | .falseWakeTimeout q => Sys2Proof.Machine.execFalseWakeTimeout q s
  | .regionCommitPoint r => Sys2Proof.Machine.execRegionCommitPoint r s
  | .packageCommitPoint => Sys2Proof.Machine.execPackageCommitPoint s
  | .packageDwellEnd => Sys2Proof.Machine.execPackageDwellEnd s
  | .wakePinEvent n level => Sys2Proof.Machine.execWakePinEvent n level s
  | .sleepTimerExpiry => Sys2Proof.Machine.execSleepTimerExpiry s
  | .pwkWakePop => Sys2Proof.Machine.execPwkWakePop s
  | .powerOn => Sys2Proof.Machine.execPowerOn s
  | .vbatStable => Sys2Proof.Machine.execVbatStable s
  | .logicDieUp => Sys2Proof.Machine.execLogicDieUp s
  | .rstNLow => Sys2Proof.Machine.execRstNLow s
  | .vbatLoss => Sys2Proof.Machine.execVbatLoss s
  | .restoreComplete badSlots tagFails failed => Sys2Proof.Machine.execRestoreComplete badSlots tagFails failed s
  | .retCommit => Sys2Proof.Machine.execRetCommit s
  | .slotCommitEnd => Sys2Proof.Machine.execSlotCommitEnd s
  | .loadOpen => Sys2Proof.Machine.execLoadOpen s
  | .loadSeal => Sys2Proof.Machine.execLoadSeal s
  | .loadAbort => Sys2Proof.Machine.execLoadAbort s
  | .retLoadDataWrite v => Sys2Proof.Machine.execRetLoadDataWrite v s
  | .errorReport e => Sys2Proof.Machine.execErrorReport e s
  | .supRecAck id => Sys2Proof.Machine.execSupRecAck id s
  | .autoAckTimeout => Sys2Proof.Machine.execAutoAckTimeout s
  | .supRecPop => Sys2Proof.Machine.execSupRecPop s
  | .supRecSel id => Sys2Proof.Machine.execSupRecSel id s
  | .unitReset => Sys2Proof.Machine.execUnitReset s
  | .clusterReset => Sys2Proof.Machine.execClusterReset s
  | .regionReset => Sys2Proof.Machine.execRegionReset s
  | .dieReset => Sys2Proof.Machine.execDieReset s
  | .packageReset => Sys2Proof.Machine.execPackageReset s
  | .repairClear => Sys2Proof.Machine.execRepairClear s
  | .resetDone => Sys2Proof.Machine.execResetDone s
  | .regionRetryTimeout => Sys2Proof.Machine.execRegionRetryTimeout s
  | .safeResetTimeout => Sys2Proof.Machine.execSafeResetTimeout s
  | .selftestSlice kind target => Sys2Proof.Machine.execSelftestSlice kind target s
  | .selftestSliceEnd kind target pass fails => Sys2Proof.Machine.execSelftestSliceEnd kind target pass fails s
  | .selftestPeriodDue kind target => Sys2Proof.Machine.execSelftestPeriodDue kind target s
  | .supStReq kind target => Sys2Proof.Machine.execSupStReq kind target s
  | .bankWindowStart => Sys2Proof.Machine.execBankWindowStart s
  | .alarmRise a => Sys2Proof.Machine.execAlarmRise a s
  | .alarmClear a => Sys2Proof.Machine.execAlarmClear a s
  | .tempWarn logic io => Sys2Proof.Machine.execTempWarn logic io s
  | .scanArm v m => Sys2Proof.Machine.execScanArm v m s
  | .scanGo m zeroed => Sys2Proof.Machine.execScanGo m zeroed s
  | .scanComplete pass chain => Sys2Proof.Machine.execScanComplete pass chain s
  | .historyWrite sns => Sys2Proof.Machine.execHistoryWrite sns s
  | .historyWriteRetry sns => Sys2Proof.Machine.execHistoryWriteRetry sns s
  | .repairMapWrite sns => Sys2Proof.Machine.execRepairMapWrite sns s
  | .pcieLinkUp speed width => Sys2Proof.Machine.execPcieLinkUp speed width s
  | .plcaStatusChange q active => Sys2Proof.Machine.execPlcaStatusChange q active s
  | .rstNRelease => Sys2Proof.Machine.execRstNRelease s
  | .switchedRailsInRange => Sys2Proof.Machine.execSwitchedRailsInRange s
  | .kwlCommandDone => Sys2Proof.Machine.execKwlCommandDone s
  | .pairShortRetest q => Sys2Proof.Machine.execPairShortRetest q s

end Sys2Proof.Machine
end

