-- ==== Sys2Proof/Machine/Tick.lean ====
section
/-! DEFINITION. The passing of time: what the block does while no command waits (R9, R57, R420, R426, R600). -/

namespace Sys2Proof.Machine

/-- A commit boundary arrives, at a harbour time and an elapsed time: its events are all still to be taken. -/
def State.reachBoundary (s : State) (time at_ : Nat) : State := { s with bnd := { time := time, arrived := at_, none := false, num := s.bnd.num + 1 } }

/-- One nanosecond passes. The harbour counter advances by 1 ns × (1 + r) while the logic die is up, and the commit boundary it crosses
arrives; while the logic die is down, boundaries fall every 8 µs of elapsed time (R600). -/
def State.tick (s : State) : State :=
  let at_ := s.now + 1
  if s.logicUp then
    let b := s.nextBoundary s.count
    let c := s.count + s.tickInc
    let s := { s with now := at_, count := c }
    if b ≤ c then s.reachBoundary b at_ else s
  else
    let s := { s with now := at_ }
    if at_ % strokeNs = 0 then s.reachBoundary (at_ * nsUnit) at_ else s

end Sys2Proof.Machine
end

