-- ==== Sys2Proof/Safety.lean ====
section
/-! DEFINITION. The terms in which statements about the block speak: the parts of its state, what a command may change, and the
forms that every step keeps. -/

namespace Sys2Proof.Machine

/-- The parts of the register file: the registers of the pages of one block (Table 2-6). The common headers of the quay, front-end, RET
and PWK pages are a part of their own; the headers of the other pages belong to their block. -/
inductive Home where
  | dev | sup | hbr | mgp | hck | log | cph | kwl | pm | tid | sgw | lkp | bth | cst | quay | lfe | ret | pwk | head
  deriving DecidableEq, Repr

/-- The number of a part of the register file, as `Fld.home` gives it. -/
def Home.num : Home → Nat
  | .dev => 3 | .sup => 0 | .hbr => 1 | .mgp => 2 | .hck => 4 | .log => 5 | .cph => 6 | .kwl => 7 | .pm => 8 | .tid => 10 | .sgw => 11
  | .lkp => 12 | .bth => 13 | .cst => 14 | .quay => 16 | .lfe => 17 | .ret => 18 | .pwk => 19 | .head => 20

/-- The parts of the state. -/
inductive Part where
  | regs (h : Home) | staged | commits | discards | spoiled | now | count | bnd | mode | errLines | logLines | outs | freeCtr | cst | planes
  | switchGen | tid | gates | bth | sgw | lkp | quays | fronts | pwk | hck | lgr | cph | kwl | hbr | sup | ret | pending
  deriving DecidableEq, Repr

/-- Two states agree in a part. For a part of the register file: every field there reads the same in both. -/
def Part.same : Part → State → State → Prop
  | .regs h, a, b => ∀ f ix, f.home ix = h.num → b.rd f ix = a.rd f ix
  | .staged, a, b => b.staged = a.staged
  | .commits, a, b => b.commits = a.commits
  | .discards, a, b => b.discards = a.discards
  | .spoiled, a, b => b.spoiled = a.spoiled
  | .now, a, b => b.now = a.now
  | .count, a, b => b.count = a.count
  | .bnd, a, b => b.bnd = a.bnd
  | .mode, a, b => b.mode = a.mode
  | .errLines, a, b => b.errLines = a.errLines
  | .logLines, a, b => b.logLines = a.logLines
  | .outs, a, b => b.outs = a.outs
  | .freeCtr, a, b => b.freeCtr = a.freeCtr
  | .cst, a, b => b.cst = a.cst
  | .planes, a, b => b.planes = a.planes
  | .switchGen, a, b => b.switchGen = a.switchGen
  | .tid, a, b => b.tid = a.tid
  | .gates, a, b => b.gates = a.gates
  | .bth, a, b => b.bth = a.bth
  | .sgw, a, b => b.sgw = a.sgw
  | .lkp, a, b => b.lkp = a.lkp
  | .quays, a, b => b.quays = a.quays
  | .fronts, a, b => b.fronts = a.fronts
  | .pwk, a, b => b.pwk = a.pwk
  | .hck, a, b => b.hck = a.hck
  | .lgr, a, b => b.lgr = a.lgr
  | .cph, a, b => b.cph = a.cph
  | .kwl, a, b => b.kwl = a.kwl
  | .hbr, a, b => b.hbr = a.hbr
  | .sup, a, b => b.sup = a.sup
  | .ret, a, b => b.ret = a.ret
  | .pending, a, b => b.pending = a.pending

/-- From `a` to `b` nothing changes outside the parts of a list. -/
def ChangesOnly (l : List Part) (a b : State) : Prop := ∀ p, p ∉ l → p.same a b

/-- Every part of the state. -/
def allParts : List Part :=
  [.regs .sup, .regs .hbr, .regs .mgp, .regs .dev, .regs .hck, .regs .log, .regs .cph, .regs .kwl, .regs .pm, .regs .tid, .regs .sgw,
   .regs .lkp, .regs .bth, .regs .cst, .regs .quay, .regs .lfe, .regs .ret, .regs .pwk, .regs .head, .staged, .commits, .discards, .spoiled,
   .now, .count, .bnd, .mode, .errLines, .logLines, .outs, .freeCtr, .cst, .planes, .switchGen, .tid, .gates, .bth, .sgw, .lkp, .quays,
   .fronts, .pwk, .hck, .lgr, .cph, .kwl, .hbr, .sup, .ret, .pending]

/-- Every part of the register file. -/
def allRegs : List Part := allParts.filter fun p => match p with | .regs _ => true | _ => false

/-- Every part of the state but those of a list. -/
def allBut (l : List Part) : List Part := allParts.filter fun p => !l.contains p

/-- The parts of the state that a command of the table may change (each block's registers are a part, `Home`); it leaves every other part
as it was. A command that can raise an interrupt, count an error or show
it on a page also touches those registers of the page, and the messages to the host. -/
def touches : Instr → List Part
  | .registerWrite _ _ _ _ | .hostWrite _ _ _ _ | .fearlekRead _ | .fearlekWrite _ | .readFixed _ | .writeFixed _ | .fearlekAbort _
  | .fearlekWordTimeout _ _ =>
    allBut [.spoiled, .now, .count, .bnd, .switchGen, .gates, .pending]
  | .pgCommit _ =>
    allRegs ++ [.commits]
  | .pgDiscard _ =>
    allRegs ++ [.staged, .commits, .discards, .bth]
  | .pgCommitBadKey _ | .pgCntClr _ | .cntClrAll _ | .errFirstClear _ | .errInjectArm _ _ _ =>
    allRegs
  | .commitBoundary =>
    allBut [.now, .count, .mode, .switchGen, .gates, .lkp, .pwk, .kwl, .sup, .pending]
  | .irqEnWrite _ _ | .irqPendClear _ _ | .irqForce _ _ | .ringHalt _ _ =>
    allRegs ++ [.outs]
  | .errorInjection _ _ | .errorReport _ =>
    allBut [.staged, .commits, .discards, .now, .count, .bnd, .mode, .switchGen, .gates, .pending]
  | .mbLockRead _ _ | .mbUnlockRead _ _ =>
    [.regs .quay, .quays]
  | .mbLockTimeout _ _ | .canModeApplied _ =>
    [.regs .hbr, .regs .dev, .regs .quay, .regs .head, .outs, .quays]
  | .tideStagingWrite _ _ | .tidLoadDataWrite _ =>
    [.regs .hbr, .regs .dev, .regs .tid, .regs .cst, .outs, .planes, .tid]
  | .verify | .arm =>
    [.regs .tid, .tid]
  | .verifyComplete _ _ =>
    [.regs .hbr, .regs .dev, .regs .tid, .errLines, .outs]
  | .disarm =>
    [.regs .tid, .regs .cst]
  | .tidCommit | .retCommit | .slotCommitEnd =>
    allRegs ++ [.outs, .ret]
  | .tidSnapshot =>
    [.regs .tid]
  | .fetch =>
    [.regs .tid, .outs, .tid]
  | .fetchDone _ =>
    [.regs .hbr, .regs .dev, .regs .tid, .outs, .planes, .tid]
  | .fetchErr _ =>
    [.regs .hbr, .regs .dev, .regs .tid, .outs, .freeCtr, .planes, .tid]
  | .clearShadow =>
    [.regs .tid, .planes, .tid]
  | .swap =>
    allBut [.staged, .commits, .discards, .spoiled, .now, .count, .mode, .freeCtr, .switchGen, .fronts, .pwk, .lgr, .kwl, .hbr, .sup, .pending]
  | .swapDone =>
    allRegs ++ [.logLines, .outs, .tid, .ret]
  | .swapTimeout =>
    [.regs .hbr, .regs .dev, .regs .tid, .regs .cst, .outs, .tid]
  | .strokeBoundary =>
    [.regs .hbr, .regs .dev, .regs .log, .regs .cph, .regs .pm, .regs .tid, .regs .lkp, .regs .bth, .regs .cst, .regs .quay, .regs .head, .bnd,
     .errLines, .logLines, .outs, .freeCtr, .cst, .planes, .tid, .bth, .sgw, .lkp, .lgr, .cph]
  | .execStart =>
    [.regs .hbr, .regs .dev, .regs .tid, .regs .cst, .regs .quay, .regs .head, .bnd, .errLines, .logLines, .outs, .cst, .planes, .tid, .gates,
     .bth, .sgw, .quays, .cph]
  | .emit | .occupancyReloadDone =>
    [.regs .hbr, .regs .dev, .regs .pm, .regs .tid, .regs .bth, .regs .cst, .errLines, .logLines, .outs, .cst, .planes, .tid, .sgw, .cph]
  | .gate =>
    [.regs .hbr, .regs .dev, .regs .pm, .regs .tid, .regs .cst, .regs .quay, .regs .head, .errLines, .logLines, .outs, .cst, .planes, .tid,
     .gates, .bth, .sgw, .quays, .cph]
  | .trig =>
    [.regs .hbr, .regs .dev, .regs .pm, .outs, .tid, .hck]
  | .triggerEdge =>
    [.regs .hck, .outs, .hck]
  | .capw =>
    [.regs .hbr, .regs .dev, .regs .hck, .regs .pm, .outs, .tid, .hck]
  | .pack =>
    [.regs .hbr, .regs .dev, .regs .pm, .regs .sgw, .regs .cst, .errLines, .outs, .freeCtr, .cst, .planes, .tid, .sgw]
  | .packComplete | .iq2JobEnqueue =>
    [.regs .hbr, .regs .dev, .regs .sgw, .regs .cst, .errLines, .logLines, .outs, .cst, .planes, .sgw, .cph]
  | .check =>
    [.regs .hbr, .regs .dev, .regs .pm, .regs .tid, .regs .bth, .outs, .planes, .tid]
  | .test =>
    [.regs .hbr, .regs .dev, .regs .pm, .regs .tid, .regs .lfe, .outs, .tid]
  | .mark =>
    [.regs .hbr, .regs .dev, .regs .pm, .logLines, .outs, .tid]
  | .lowTideWindowEnd =>
    [.regs .cst, .tid]
  | .descriptorIntake | .bankHandover _ _ _ _ _ =>
    [.cst]
  | .forwardingDecision =>
    allRegs ++ [.outs, .cst, .planes, .tid, .bth, .lkp]
  | .recordAccept _ _ =>
    allRegs ++ [.errLines, .logLines, .outs, .freeCtr, .cst, .planes, .tid, .bth, .lkp]
  | .checkWordQuery _ =>
    [.regs .sup, .regs .hbr, .regs .dev, .regs .pm, .regs .quay, .regs .pwk, .logLines, .outs, .cst]
  | .lengthNotice =>
    [.regs .hbr, .regs .dev, .regs .bth, .regs .cst, .errLines, .logLines, .outs, .cst, .planes, .sgw, .cph]
  | .claimRefreshTimeout _ | .planeFault _ _ _ _ =>
    allRegs ++ [.errLines, .outs, .freeCtr, .planes, .tid, .bth, .lkp]
  | .takeover =>
    [.regs .hbr, .regs .dev, .regs .pm, .bnd, .errLines, .logLines, .outs, .freeCtr, .planes, .switchGen]
  | .deltaSealArrive _ | .meterSweep _ | .stampSweep _ _ =>
    [.planes]
  | .deltaCommit =>
    [.regs .pm, .planes]
  | .copyLinkError | .pllRelock _ _ | .planeSelftestDone _ _ _ =>
    [.regs .hbr, .regs .dev, .regs .pm, .errLines, .outs, .freeCtr, .planes]
  | .takeOut _ _ =>
    [.regs .hbr, .regs .dev, .regs .pm, .regs .lkp, .errLines, .outs, .freeCtr, .planes, .tid, .bth, .lkp]
  | .rejoin _ =>
    [.regs .hbr, .regs .dev, .regs .pm, .outs, .planes]
  | .rejoinStart =>
    [.regs .pm, .bnd, .planes]
  | .rejoinComplete =>
    [.regs .hbr, .regs .dev, .regs .pm, .logLines, .outs, .planes]
  | .signalExtraction | .encap1722 | .decap1722 | .encapDarast | .decapDarast | .rewrite =>
    [.regs .hbr, .regs .dev, .regs .sgw, .regs .cst, .errLines, .logLines, .outs, .freeCtr, .cst, .planes, .sgw, .cph]
  | .mapTimeoutSweep =>
    [.regs .hbr, .regs .dev, .regs .sgw, .outs, .planes, .sgw]
  | .rebuild =>
    [.regs .hbr, .regs .dev, .regs .sgw, .regs .cst, .errLines, .logLines, .outs, .freeCtr, .cst, .planes, .bth, .sgw, .cph]
  | .cellWrite | .protocolException _ =>
    [.regs .hbr, .regs .dev, .regs .cst, .regs .quay, .regs .head, .errLines, .logLines, .outs, .cst, .planes, .sgw, .cph]
  | .cellLanding _ | .frameRelease _ _ | .bankFailure _ =>
    [.regs .hbr, .regs .dev, .regs .cst, .errLines, .logLines, .outs, .cst, .planes, .sgw, .cph]
  | .ingressOverrun _ =>
    [.regs .hbr, .regs .dev, .regs .cst, .regs .quay, .regs .head, .errLines, .logLines, .outs, .freeCtr, .cst, .planes, .sgw, .cph]
  | .classification =>
    [.regs .hbr, .regs .dev, .regs .pm, .regs .tid, .regs .cst, .errLines, .logLines, .outs, .cst, .planes, .bth, .sgw, .cph]
  | .cellCrcFailure _ _ _ =>
    [.regs .hbr, .regs .dev, .regs .sgw, .regs .cst, .regs .quay, .regs .head, .errLines, .logLines, .outs, .freeCtr, .cst, .planes, .sgw,
     .quays, .cph]
  | .controlQueuePush _ =>
    [.regs .hbr, .regs .dev, .regs .hck, .regs .sgw, .regs .lkp, .regs .cst, .errLines, .logLines, .outs, .freeCtr, .cst, .planes, .sgw, .lkp,
     .quays, .cph, .hbr]
  | .controlQueuePop _ _ =>
    [.regs .sup, .regs .hbr, .regs .dev, .regs .hck, .regs .sgw, .regs .lkp, .regs .cst, .errLines, .logLines, .outs, .freeCtr, .cst, .planes,
     .sgw, .lkp, .quays, .cph, .hbr, .sup]
  | .berthWindowWrite _ _ _ =>
    allRegs ++ [.outs, .bth]
  | .clrStats _ | .refill _ | .unblock _ | .clrAllStats =>
    [.regs .bth, .bth]
  | .clrAllStatsDone =>
    [.regs .hbr, .regs .dev, .regs .bth, .outs, .planes, .bth]
  | .learningRequest =>
    [.regs .hbr, .regs .dev, .regs .lkp, .outs, .freeCtr, .planes, .lkp]
  | .agingSweep | .insert | .write | .delete | .flushDynamic | .openRebuild | .dropPending =>
    [.regs .hbr, .regs .dev, .regs .lkp, .outs, .planes, .lkp]
  | .search | .read | .closeRebuild | .lkpLongCmdDone | .walkerVisit =>
    [.regs .hbr, .regs .dev, .regs .lkp, .outs, .lkp]
  | .swapBanks =>
    allRegs ++ [.staged, .outs, .planes, .lkp]
  | .lkpResPop =>
    [.regs .hbr, .regs .dev, .regs .lkp, .outs, .freeCtr, .lkp]
  | .canFrameReceived _ _ _ | .ethFrameReceived _ _ _ _ _ _ _ | .canWakePattern _ | .selectiveWakeFrame _ _ _ | .g1608Wake _ _ _ | .t1sEnergyWake _ _
  | .tc10Wake _ | .sleepAbort _ _ _ =>
    allBut [.staged, .commits, .discards, .spoiled, .now, .count, .bnd, .switchGen, .tid, .gates, .lkp, .hck, .lgr, .kwl, .hbr, .ret, .pending]
  | .canBusError _ _ _ _ _ _ _ | .canTxAttemptFail _ _ =>
    [.regs .hbr, .regs .dev, .regs .tid, .regs .cst, .regs .quay, .regs .head, .errLines, .logLines, .outs, .cst, .planes, .sgw, .quays, .cph]
  | .canTxAttemptStart _ _ _ _ =>
    [.regs .hbr, .regs .dev, .regs .tid, .regs .cst, .regs .quay, .regs .head, .errLines, .logLines, .outs, .cst, .planes, .sgw, .quays, .fronts,
     .cph]
  | .canTxSuccess _ =>
    [.regs .hbr, .regs .dev, .regs .hck, .regs .tid, .regs .cst, .regs .quay, .regs .head, .errLines, .logLines, .outs, .cst, .planes, .sgw,
     .quays, .pwk, .cph]
  | .txLifeExpired _ _ | .qycFlush _ _ =>
    [.regs .hbr, .regs .dev, .regs .cst, .regs .quay, .regs .head, .errLines, .logLines, .outs, .cst, .planes, .sgw, .quays, .cph]
  | .busOffRecovered _ | .recover _ | .plcaStatusChange _ _ =>
    [.regs .hbr, .regs .dev, .regs .quay, .regs .head, .outs]
  | .qycSleep _ | .segSleep _ | .tc10SleepRequest _ | .falseWakeTimeout _ =>
    [.regs .hbr, .regs .dev, .regs .cst, .regs .quay, .regs .pwk, .regs .head, .errLines, .logLines, .outs, .cst, .planes, .bth, .sgw, .quays,
     .pwk, .cph]
  | .qycWake _ _ | .pwkWake _ | .wakeNorth _ | .wakeSouth _ | .segWake _ _ | .wakePinEvent _ _ | .sleepTimerExpiry =>
    allBut [.staged, .commits, .discards, .spoiled, .now, .count, .bnd, .switchGen, .tid, .gates, .lkp, .fronts, .hck, .lgr, .kwl, .hbr, .ret,
     .pending]
  | .clrLec _ =>
    [.regs .quay]
  | .mbReq _ _ | .mbCancel _ _ =>
    [.regs .hbr, .regs .dev, .regs .quay, .regs .head, .logLines, .outs, .quays]
  | .ethTxStart _ | .ethCutTooLong _ =>
    [.regs .hbr, .regs .dev, .regs .cst, .regs .quay, .regs .head, .errLines, .logLines, .outs, .cst, .planes, .bth, .sgw, .quays, .cph]
  | .ethTxEnd _ _ =>
    allBut [.staged, .commits, .discards, .spoiled, .now, .count, .bnd, .mode, .switchGen, .tid, .gates, .lkp, .fronts, .hck, .lgr, .kwl, .hbr,
     .sup, .ret, .pending]
  | .ethLinkDown _ =>
    allBut [.staged, .commits, .discards, .spoiled, .now, .count, .bnd, .mode, .freeCtr, .switchGen, .tid, .gates, .lkp, .pwk, .hck, .lgr, .kwl,
     .hbr, .sup, .ret, .pending]
  | .ethLinkUp _ _ _ | .usxCodeWord _ _ _ | .ethModeApplied _ =>
    allRegs ++ [.errLines, .logLines, .outs, .cst, .planes, .bth, .sgw, .quays, .cph]
  | .collision _ _ =>
    [.regs .hbr, .regs .dev, .regs .tid, .regs .cst, .regs .quay, .regs .head, .errLines, .logLines, .outs, .freeCtr, .cst, .planes, .bth, .sgw,
     .quays, .cph]
  | .qyeFlush _ _ =>
    [.regs .hbr, .regs .dev, .regs .cst, .regs .quay, .errLines, .logLines, .outs, .cst, .planes, .bth, .sgw, .cph]
  | .lineConditionSet _ _ | .lineConditionClear _ _ =>
    [.regs .hbr, .regs .dev, .regs .tid, .regs .cst, .regs .quay, .regs .lfe, .regs .head, .errLines, .logLines, .outs, .freeCtr, .cst, .planes,
     .bth, .sgw, .quays, .cph]
  | .canReversalFrame _ | .roleExchange _ | .termMeasureDone _ _ | .termMeasureTimeout _ | .tdrDone _ _ _ | .measCancel _ =>
    [.regs .hbr, .regs .dev, .regs .tid, .regs .cst, .regs .quay, .regs .lfe, .regs .head, .errLines, .logLines, .outs, .cst, .planes, .bth,
     .sgw, .quays, .fronts, .cph]
  | .measureTerm _ | .tdr _ | .swapReset _ =>
    [.regs .lfe, .fronts]
  | .wakePatternAbandon _ =>
    []
  | .detectorRearm _ | .pairShortRetest _ =>
    [.fronts]
  | .eventStamp _ _ _ _ =>
    [.regs .hbr, .regs .dev, .regs .hck, .errLines, .outs, .hck]
  | .step | .stepPps | .cancelStep | .epochRestart | .pcsFaultClear _ =>
    [.regs .hck, .hck]
  | .epochApply =>
    [.regs .hbr, .regs .dev, .regs .hck, .regs .tid, .regs .cst, .regs .quay, .regs .head, .bnd, .errLines, .logLines, .outs, .cst, .planes,
     .tid, .sgw, .hck, .cph]
  | .hckSnapshot | .release | .hckRateWrite _ | .asMessageIgnored _ =>
    [.regs .hck]
  | .hold | .ppsInEdge _ _ | .syncLoss | .captureEdge _ _ _ _ =>
    [.regs .hbr, .regs .dev, .regs .hck, .outs, .hck]
  | .stepApply =>
    [.regs .hbr, .regs .dev, .regs .hck, .regs .tid, .regs .cst, .regs .quay, .regs .head, .count, .bnd, .errLines, .logLines, .outs, .freeCtr,
     .cst, .planes, .tid, .sgw, .hck, .cph]
  | .syncMeasurement _ _ _ _ _ _ _ | .gmChange _ _ _ _ | .pdelayReqReceived _ _ _ | .pdelayExchangeEnd _ _ | .syncRelay _ _ _ _ _ _ _ _ =>
    allRegs ++ [.errLines, .outs, .freeCtr, .hck]
  | .stampPathSwitch _ =>
    [.regs .hbr, .regs .dev, .regs .hck, .logLines, .outs, .hck]
  | .pdelayInitiate _ | .ppsOutPulse | .ppsOutFall =>
    [.outs, .hck]
  | .gmSyncSend _ _ =>
    [.regs .hck, .outs, .freeCtr, .hck]
  | .domainLost _ =>
    [.regs .hbr, .regs .dev, .regs .hck, .outs]
  | .cantSyncWrite _ =>
    [.regs .hck, .regs .cst, .cst, .planes, .hck]
  | .cantFupWrite _ =>
    [.regs .hbr, .regs .dev, .regs .hck, .regs .cst, .outs, .cst, .planes, .quays, .hck]
  | .hckTsqPop _ _ =>
    [.regs .hbr, .regs .dev, .regs .hck, .outs, .freeCtr, .quays]
  | .hckCapPop _ =>
    [.regs .hbr, .regs .dev, .regs .hck, .outs, .freeCtr, .hck]
  | .logRecordReport =>
    [.regs .hbr, .regs .dev, .regs .log, .regs .cst, .errLines, .logLines, .outs, .cst, .planes, .sgw, .pwk, .lgr, .cph]
  | .logRecordOutput =>
    [.regs .hbr, .regs .dev, .regs .log, .regs .kwl, .errLines, .outs, .freeCtr, .cst, .planes, .bth, .lgr, .kwl]
  | .logDataIrq | .summaryWrite | .logFlush =>
    [.regs .hbr, .regs .dev, .regs .log, .outs, .lgr]
  | .logFrameSend =>
    [.regs .hbr, .regs .dev, .regs .log, .outs, .cst, .planes, .bth, .lgr]
  | .sealNow | .sealClose =>
    [.regs .hbr, .regs .dev, .regs .log, .errLines, .outs, .freeCtr, .cst, .planes, .bth, .lgr]
  | .reseal =>
    [.regs .hbr, .regs .dev, .regs .log, .regs .kwl, .errLines, .outs, .freeCtr, .lgr, .kwl]
  | .sealStop =>
    [.regs .hbr, .regs .dev, .regs .log, .errLines, .outs, .freeCtr, .lgr]
  | .logRingRpWrite _ =>
    [.regs .hbr, .regs .dev, .regs .log, .outs]
  | .iq3JobEnqueue =>
    [.regs .hbr, .regs .dev, .regs .cph, .regs .cst, .errLines, .logLines, .outs, .freeCtr, .cst, .planes, .sgw, .cph]
  | .cipherJobStart _ =>
    [.regs .hbr, .regs .dev, .regs .cph, .regs .kwl, .regs .bth, .regs .cst, .errLines, .logLines, .outs, .cst, .planes, .sgw, .cph, .kwl]
  | .provisionalContinuation _ =>
    [.regs .hbr, .regs .dev, .regs .cph, .regs .cst, .errLines, .logLines, .outs, .cst, .planes, .sgw, .cph]
  | .cipherJobFinish _ =>
    allRegs ++ [.errLines, .logLines, .outs, .freeCtr, .cst, .planes, .sgw, .cph]
  | .compareFail _ | .hostJobComplete _ _ =>
    [.regs .hbr, .regs .dev, .regs .cph, .regs .bth, .regs .cst, .errLines, .logLines, .outs, .freeCtr, .cst, .planes, .sgw, .cph]
  | .cipherReleaseSlot _ =>
    [.regs .hbr, .regs .dev, .regs .cph, .regs .bth, .regs .cst, .errLines, .logLines, .outs, .cst, .planes, .sgw, .cph]
  | .enc _ _ | .dec _ _ | .mac _ _ | .cmacVerify _ _ | .keyLoad _ _ _ | .keyClear _ =>
    [.regs .hbr, .regs .dev, .regs .cph, .outs, .cph]
  | .cphResPop _ =>
    allRegs ++ [.outs, .freeCtr, .cph]
  | .derive _ _ | .kwlImport _ _ =>
    [.regs .kwl, .kwl]
  | .invalidate _ | .destroy _ | .kwlCommit | .orphanSweep =>
    [.regs .hbr, .regs .dev, .regs .kwl, .outs, .kwl, .ret]
  | .restoreCustody | .rbgStartupDone =>
    [.regs .hbr, .regs .dev, .regs .kwl, .outs, .kwl]
  | .maskKeyRenew =>
    [.regs .kwl, .freeCtr, .kwl]
  | .rbgHealthFail =>
    [.regs .hbr, .regs .dev, .regs .kwl, .errLines, .outs, .freeCtr, .kwl]
  | .rootGenerate =>
    [.regs .hbr, .regs .dev, .regs .kwl, .outs, .freeCtr, .kwl, .ret]
  | .retainedWrite _ =>
    allRegs ++ [.errLines, .outs, .freeCtr, .pwk, .kwl, .ret]
  | .retainedWriteDone _ =>
    allRegs ++ [.errLines, .outs, .freeCtr, .kwl, .sup, .ret]
  | .retainedWriteRetry | .loadOpen | .retLoadDataWrite _ =>
    [.regs .ret, .ret]
  | .hostRead _ _ _ _ =>
    [.regs .quay, .outs, .freeCtr, .quays]
  | .hostReadTimeout _ | .d2dLinkFailure _ =>
    [.regs .hbr, .regs .dev, .errLines, .outs, .freeCtr]
  | .lockedRead _ =>
    [.regs .hbr, .outs]
  | .hotReset | .pcieLinkDown | .functionLevelReset | .busMasterDisable | .dmaReadCompletion _ _ =>
    [.regs .hbr, .regs .dev, .regs .cph, .regs .tid, .regs .cst, .errLines, .logLines, .outs, .freeCtr, .cst, .planes, .tid, .sgw, .cph, .hbr]
  | .d3hotEntry | .txTailWrite _ _ | .rxTailWrite _ _ =>
    [.regs .hbr]
  | .d0Return | .txCompletion _ | .pcieLinkUp _ _ =>
    [.regs .hbr, .regs .dev, .errLines, .outs, .freeCtr, .hbr]
  | .dmaReadTimeout _ =>
    [.regs .hbr, .regs .dev, .regs .cph, .regs .tid, .outs, .freeCtr, .planes, .tid, .cph, .hbr]
  | .semAcquire _ _ | .semRelease _ _ =>
    [.regs .hbr, .hbr]
  | .semTimeout _ =>
    [.regs .hbr, .regs .dev, .outs, .hbr]
  | .iq0RxFrame _ | .rxAuthZero =>
    [.regs .hbr, .regs .dev, .regs .cst, .errLines, .logLines, .outs, .freeCtr, .cst, .planes, .sgw, .cph, .hbr]
  | .txDescriptorFetch _ _ =>
    [.outs, .freeCtr, .hbr]
  | .cqRpWrite _ _ | .ringCoalTimeout _ =>
    [.regs .hbr, .outs, .hbr]
  | .ringEnableWrite _ _ _ =>
    allRegs ++ [.outs, .hbr]
  | .pwkSleep | .tc10SleepAck _ _ | .tc10SleepTimeout _ | .segmentAwake _ =>
    allBut [.staged, .commits, .discards, .spoiled, .now, .count, .bnd, .freeCtr, .switchGen, .tid, .gates, .lkp, .fronts, .hck, .lgr, .kwl,
     .hbr, .sup, .ret, .pending]
  | .sleepNorth | .sleepSouth =>
    allBut [.staged, .commits, .discards, .spoiled, .now, .count, .bnd, .mode, .freeCtr, .switchGen, .tid, .gates, .lkp, .fronts, .hck, .lgr,
     .kwl, .hbr, .sup, .ret, .pending]
  | .segmentCommitPoint _ =>
    allBut [.staged, .commits, .discards, .spoiled, .now, .count, .bnd, .mode, .freeCtr, .switchGen, .tid, .gates, .lkp, .hck, .lgr, .kwl, .hbr,
     .sup, .ret, .pending]
  | .dwellEnd _ | .packageDwellEnd =>
    allBut [.staged, .commits, .discards, .spoiled, .now, .count, .bnd, .freeCtr, .switchGen, .tid, .gates, .lkp, .fronts, .hck, .lgr, .kwl,
     .hbr, .ret, .pending]
  | .regionCommitPoint _ =>
    allBut [.staged, .commits, .discards, .spoiled, .now, .count, .bnd, .mode, .switchGen, .tid, .gates, .lkp, .hck, .lgr, .kwl, .hbr, .sup,
     .ret, .pending]
  | .packageCommitPoint =>
    [.regs .hbr, .regs .dev, .regs .pwk, .mode, .pwk, .hbr]
  | .pwkWakePop =>
    [.regs .hbr, .regs .dev, .regs .pwk, .regs .head, .outs, .freeCtr, .pwk]
  | .powerOn | .rstNRelease =>
    [.mode, .pwk, .sup]
  | .vbatStable =>
    [.regs .pwk, .pwk]
  | .logicDieUp =>
    allBut [.now, .mode, .errLines, .pwk, .pending]
  | .rstNLow | .resetDone =>
    allBut [.now, .pending]
  | .vbatLoss =>
    allBut [.now, .outs, .pending]
  | .restoreComplete _ _ _ =>
    allBut [.now, .count, .bnd, .switchGen, .gates, .fronts, .hck, .lgr, .hbr, .pending]
  | .loadSeal | .loadAbort =>
    [.regs .hbr, .regs .dev, .regs .ret, .regs .head, .outs, .ret]
  | .supRecAck _ | .autoAckTimeout | .packageReset =>
    [.regs .sup, .regs .hbr, .regs .dev, .outs, .sup]
  | .supRecPop =>
    [.regs .sup, .regs .hbr, .regs .dev, .outs, .freeCtr, .sup]
  | .supRecSel _ =>
    [.regs .sup, .freeCtr]
  | .unitReset | .clusterReset | .regionReset | .dieReset | .repairClear | .regionRetryTimeout | .safeResetTimeout | .scanArm _ _
  | .scanComplete _ _ =>
    [.regs .sup, .sup]
  | .selftestSlice _ _ =>
    [.regs .sup, .regs .hbr, .regs .dev, .regs .cph, .regs .tid, .regs .cst, .regs .quay, .regs .lfe, .regs .head, .errLines, .logLines, .outs,
     .freeCtr, .cst, .planes, .tid, .bth, .sgw, .quays, .cph, .kwl, .sup]
  | .selftestSliceEnd _ _ _ _ =>
    allBut [.staged, .commits, .discards, .spoiled, .now, .count, .bnd, .mode, .switchGen, .tid, .gates, .lkp, .fronts, .pwk, .hck, .lgr, .hbr,
     .ret, .pending]
  | .selftestPeriodDue _ _ | .supStReq _ _ =>
    [.regs .sup, .regs .hbr, .regs .dev, .regs .cph, .regs .tid, .regs .cst, .regs .quay, .regs .lfe, .regs .head, .errLines, .logLines, .outs,
     .freeCtr, .cst, .planes, .bth, .sgw, .quays, .cph, .kwl, .sup]
  | .bankWindowStart =>
    [.regs .hbr, .regs .dev, .regs .cst, .outs, .freeCtr, .cst, .planes, .sgw, .cph]
  | .alarmRise _ =>
    [.regs .sup, .regs .hbr, .regs .dev, .regs .log, .regs .cph, .regs .kwl, .regs .tid, .errLines, .outs, .freeCtr, .lgr, .cph, .kwl]
  | .alarmClear _ =>
    [.regs .sup, .regs .hbr, .regs .dev, .regs .kwl, .outs, .kwl, .sup]
  | .tempWarn _ _ =>
    [.regs .sup, .regs .hbr, .regs .dev, .outs]
  | .scanGo _ _ =>
    [.regs .sup, .regs .hbr, .regs .dev, .regs .hck, .regs .cph, .regs .kwl, .regs .pm, .regs .tid, .regs .cst, .regs .quay, .regs .lfe,
     .regs .head, .errLines, .logLines, .outs, .freeCtr, .cst, .planes, .bth, .sgw, .quays, .hck, .lgr, .cph, .kwl, .sup]
  | .historyWrite _ | .historyWriteRetry _ =>
    [.regs .sup, .regs .hbr, .regs .dev, .regs .pwk, .regs .head, .errLines, .outs, .freeCtr, .pwk, .sup, .ret]
  | .repairMapWrite _ =>
    [.regs .hbr, .regs .dev, .regs .pwk, .regs .head, .errLines, .outs, .freeCtr, .pwk, .sup, .ret]
  | .switchedRailsInRange =>
    [.pwk]
  | .kwlCommandDone =>
    allRegs ++ [.errLines, .outs, .freeCtr, .kwl]

/-- The tide memories and the berth store of a plane are in canonical form. -/
def PlaneMem.memWf (m : PlaneMem) : Prop := Memory.wf m.active = true ∧ Memory.wf m.shadow = true ∧ Memory.wf m.cfg = true

/-- The memories a plane holds are in canonical form: its own PDU store, that of a delta on its way to it, and the tide memories and berth
store of its own, if they differ from the acting plane's. -/
def PlaneSt.memWf (p : PlaneSt) : Prop :=
  Memory.wf p.img.pdu = true ∧ (∀ d, p.delta = some d → Memory.wf d.img.pdu = true) ∧ ∀ m, p.own = some m → m.memWf

/-- The canonical forms: the register file and the staging copy list rising keys, and every memory of the block lists rising addresses
and no byte equal to what an unlisted address reads as. -/
structure Canonical (s : State) : Prop where
  regs : SMap.rising s.regs = true
  staged : SMap.rising s.staged = true
  tideActive : Memory.wf s.tid.active = true
  tideShadow : Memory.wf s.tid.shadow = true
  berths : Memory.wf s.bth.cfg = true
  cells : Memory.wf s.cst.mem = true
  retained : Memory.wf s.ret.store = true
  pdu : ∀ x, (s.plane x).memWf

/-- A command answers a next state of which `p` holds. -/
def Gives (c : Instr) (s : State) (p : State → Prop) : Prop := ∃ t, exec c s = .next t ∧ p t

/-- A field counts one more, up to its largest value. -/
def Counted (f : Fld) (ix : List Nat) (s t : State) : Prop := t.rd f ix = min (s.rd f ix + 1) (2 ^ f.width - 1)

/-- An interrupt source has been raised: its IRQ_PEND bit is 1 if its enable is (R70). -/
def Raised (pg b : Nat) (s t : State) : Prop := bitOf (s.rd IRQ_EN_EN [pg]) b = 1 → bitOf (t.rd IRQ_PEND_PEND [pg]) b = 1

/-- Every field that is not in a list reads as before. -/
def FieldsKept (l : List (Fld × List Nat)) (s t : State) : Prop := ∀ f ix, (∀ p ∈ l, f.key ix ≠ p.1.key p.2) → t.rd f ix = s.rd f ix

end Sys2Proof.Machine
end

