-- ==== Sys2Proof/Certificates/Slice0/Obligations.lean ====
section
/-! DEFINITION. The statements about the block, for the provers: what the rules of each chapter say that every command of its rows does, the frame of
every command, and what every step keeps. -/

open Sys2Proof Sys2Proof.Machine

/-- A step with a command waiting: the front command's effect, on the state with the queue's rest. -/
def Obligations.StepRunsFrontCommand : Prop :=
  ∀ (s : State) (c : Instr) (rest : List Instr), s.pending = c :: rest → step s = exec c { s with pending := rest }

/-- A step on an empty queue is one nanosecond (the model's choice, log entry 1): it answers a next state in which the elapsed time is one more,
no command waits, and the block's own state is as before but for harbour time and the boundary reached. With the logic die up, harbour time
moves on by the counter's increment, and a boundary it crosses is the one whose commands act next. -/
def Obligations.IdleStepIsOneTick : Prop :=
  ∀ s : State, s.pending = [] → ∃ t, step s = .next t ∧ t.now = s.now + 1 ∧ ChangesOnly [.now, .count, .bnd] s t ∧
    (s.logicUp = true → t.count = s.count + s.tickInc) ∧ (s.logicUp = false → t.count = s.count) ∧
    (s.logicUp = true → s.nextBoundary s.count ≤ s.count + s.tickInc → t.bnd.none = false ∧ t.bnd.time = s.nextBoundary s.count ∧
      t.bnd.arrived = s.now + 1 ∧ t.bnd.num = s.bnd.num + 1) ∧
    (s.logicUp = true → s.count + s.tickInc < s.nextBoundary s.count → t.bnd = s.bnd)

/-- Every step keeps the canonical forms: the register file and the staging copy list rising keys, and the tide memories, the berth store, the
cells, the retained store and the PDU stores list rising addresses and no byte that an unlisted address reads as. -/
def Obligations.EveryStepKeepsCanonicalForms : Prop :=
  ∀ s t : State, Canonical s → step s = .next t → Canonical t

/-- The state right after reset has the canonical forms, and no command waits in it. -/
def Obligations.ResetIsCanonical : Prop :=
  Canonical State.reset ∧ State.reset.pending = []

/-- Every command of the table answers a next state, in every state. -/
def Obligations.EveryCommandAnswersANextState : Prop :=
  ∀ (c : Instr) (s : State), ∃ t, exec c s = .next t

/-- The frame of every command of the table: outside the parts that `touches` lists for it, nothing of the state changes. -/
def Obligations.FramesOfEveryCommand : Prop :=
  ∀ (c : Instr) (s t : State), exec c s = .next t → ChangesOnly (touches c) s t

/-- No command changes the queue of waiting commands or the time elapsed, and harbour time changes only by a tick, by a step of harbour time that is
applied, and by the die's or the package's start or end. -/
def Obligations.CommandsKeepTheQueueAndElapsedTime : Prop :=
  ∀ (c : Instr) (s t : State), exec c s = .next t → t.pending = s.pending ∧ t.now = s.now ∧
    (t.count ≠ s.count → c = .logicDieUp ∨ c = .rstNLow ∨ c = .vbatLoss ∨ c = .resetDone ∨ c = .stepApply)

/-- Right after reset (Tables 2-2, 3-10, 4-8, 9-6, 9-7, 10-5, 11-5): the package is OFF, every memory is empty, and registers of the tide unit, the planes,
the quays and the clock show the reset or factory values of their tables. -/
def Obligations.ResetState : Prop :=
  State.reset.mode = .off ∧ State.reset.outs = [] ∧ State.reset.errLines = [] ∧ State.reset.cst.mem = [] ∧ State.reset.tid.active = [] ∧
  State.reset.tid.shadow = [] ∧ State.reset.ret.store = [] ∧ State.reset.bth.cfg = [] ∧ State.reset.cst.frames = [] ∧
  State.reset.rd TID_STATUS_EXEC [] = exIdle ∧ State.reset.shadow = shEmpty ∧ State.reset.rd TID_SWAP_CFG_MAX_WAIT [] = 4 ∧
  State.reset.on HCK_STATUS_SET [] = false ∧ State.reset.servo = svFree ∧ State.reset.rd LKP_AGE_TICK_MS [] = 20000 ∧
  (∀ x, x < 2 → State.reset.role x = roleStart ∧ State.reset.claim x = 0 ∧ State.reset.rd PM_TX_FRESH_SKIP_SKIP [x] = 4096) ∧
  (∀ q, q < 32 → State.reset.rd QYC_NBT_NTSEG1 [q] = 126 ∧ State.reset.rd QYC_NBT_NTSEG2 [q] = 31 ∧ State.reset.rd QYC_NBT_NSJW [q] = 31 ∧
    State.reset.rd QYC_NBT_NBRP [q] = 1 ∧ State.reset.rd QYC_ERRCNT_TEC [q] = 0 ∧ State.reset.rd QYC_ERRCNT_REC [q] = 0) ∧
  (∀ q, 32 ≤ q → q < 64 → State.reset.rd QYE_FRAME_MAX_LEN [q] = 1518 ∧ State.reset.on QYE_STATUS_LINK [q] = false) ∧
  (∀ pg, State.reset.rd IRQ_PEND_PEND [pg] = 0 ∧ State.reset.rd IRQ_EN_EN [pg] = 0 ∧ State.reset.on ERR_FIRST_VALID [pg] = false)

/-- PG_COMMIT, PG_DISCARD and a write of PG_COMMIT with another key, on a page that is served (R58, R61, R63). A commit with none pending sets
STAGED_PENDING, keeps the moment of its acceptance and the staging copy, and changes no other field; a commit while one is pending changes nothing.
A discard with no commit pending shows DISCARDED and empties the page's staging copy; one in time for the pending commit also ends that commit; one
too late is remembered and changes no field, no commit and nothing staged. A bad key shows BAD_KEY and changes no other field, no commit and nothing staged.
COMMIT_BOUNDARY when the boundary's turn to commit has come (R62, R65, R600). With no page due, the turn is marked taken, and the pending commits
and the staging copy stay. With one page due, the turn is marked taken, the commit of that page is no longer pending, its STAGED_PENDING reads 0,
and every other page's pending commit stays. What a due page does there (`commitPage`): with a bad staged word or an illegal staged value it shows REFUSED,
ends its commit, raises COMMIT_DONE, keeps the staging copy, and changes no field outside its REFUSED, STAGED_PENDING and IRQ_PEND but the interrupt summary and the message's
pending bit; otherwise it ends its commit, shows no STAGED_PENDING, and on the pages of the planes, the gateway, PWK and SUP each staged field reads its staged value. -/
def Obligations.PageCommits : Prop :=
  (∀ (s : State) (pg : Nat), s.pageServed pg = true → s.on PG_STATE_STAGED_PENDING [pg] = false →
    Gives (.pgCommit pg) s fun t => t.on PG_STATE_STAGED_PENDING [pg] = true ∧ SMap.find? t.commits pg = some s.now ∧
      t.staged = s.staged ∧ FieldsKept [(PG_STATE_STAGED_PENDING, [pg])] s t) ∧
  (∀ (s : State) (pg : Nat), s.pageServed pg = true → s.on PG_STATE_STAGED_PENDING [pg] = true → Gives (.pgCommit pg) s fun t => t = s) ∧
  (∀ (s : State) (pg : Nat), s.pageServed pg = true → SMap.find? s.commits pg = none →
    Gives (.pgDiscard pg) s fun t => t.on PG_COMMIT_STAT_DISCARDED [pg] = true ∧ t.commits = s.commits ∧ ∀ p ∈ t.staged, keyPage p.1 ≠ pg) ∧
  (∀ (s : State) (pg n : Nat), s.pageServed pg = true → SMap.find? s.commits pg = some n → s.discardInTime n = true →
    Gives (.pgDiscard pg) s fun t => t.on PG_COMMIT_STAT_DISCARDED [pg] = true ∧ t.on PG_STATE_STAGED_PENDING [pg] = false ∧
      SMap.find? t.commits pg = none ∧ ∀ p ∈ t.staged, keyPage p.1 ≠ pg) ∧
  (∀ (s : State) (pg n : Nat), s.pageServed pg = true → SMap.find? s.commits pg = some n → s.discardInTime n = false →
    Gives (.pgDiscard pg) s fun t => pg ∈ t.discards ∧ t.commits = s.commits ∧ t.staged = s.staged ∧ FieldsKept [] s t) ∧
  (∀ (s : State) (pg : Nat), s.pageServed pg = true →
    Gives (.pgCommitBadKey pg) s fun t => t.on PG_COMMIT_STAT_BAD_KEY [pg] = true ∧ t.commits = s.commits ∧ t.staged = s.staged ∧
      FieldsKept [(PG_COMMIT_STAT_BAD_KEY, [pg])] s t) ∧
  (∀ s : State, s.mode ≠ .off → s.commitTurn = true → ({ s with bnd := { s.bnd with commit := true } } : State).commitsDue = [] →
    Gives .commitBoundary s fun t => t.bnd.commit = true ∧ t.commits = s.commits ∧ t.staged = s.staged) ∧
  (∀ (s : State) (pg : Nat), s.mode ≠ .off → s.commitTurn = true → ({ s with bnd := { s.bnd with commit := true } } : State).commitsDue = [pg] →
    Gives .commitBoundary s fun t => t.bnd.commit = true ∧ SMap.find? t.commits pg = none ∧ t.on PG_STATE_STAGED_PENDING [pg] = false ∧
      ∀ p n, p ≠ pg → SMap.find? s.commits p = some n → SMap.find? t.commits p = some n) ∧
  (∀ (s : State) (pg : Nat), (s.spoiled.contains pg = true ∨ (s.withStaged pg).pageLegal s pg = false) →
    (s.commitPage pg).on PG_COMMIT_STAT_REFUSED [pg] = true ∧ (s.commitPage pg).on PG_STATE_STAGED_PENDING [pg] = false ∧
    SMap.find? (s.commitPage pg).commits pg = none ∧ (s.commitPage pg).staged = s.staged ∧ Raised pg 29 s (s.commitPage pg) ∧
    FieldsKept [(PG_COMMIT_STAT_REFUSED, [pg]), (PG_STATE_STAGED_PENDING, [pg]), (IRQ_PEND_PEND, [pg]), (DEV_IRQ_SUM_Q0_Q, []),
      (DEV_IRQ_SUM_Q1_Q, []), (DEV_IRQ_SUM_BLK_BLK, []), (HBR_MSIX_PBA_PEND, [s.rd IRQ_ROUTE_VECTOR [pg] / 32])] s (s.commitPage pg)) ∧
  (∀ (s : State) (pg : Nat), s.spoiled.contains pg = false → (s.withStaged pg).pageLegal s pg = true →
    (s.commitPage pg).on PG_STATE_STAGED_PENDING [pg] = false ∧ SMap.find? (s.commitPage pg).commits pg = none) ∧
  (∀ (s : State) (pg : Nat) (f : Fld) (ix : List Nat) (v : Nat), s.spoiled.contains pg = false → (s.withStaged pg).pageLegal s pg = true →
    pg ∈ [pgPM 0, pgPM 1, pgSGW, pgPWK, pgSUP] → f.whn = .staged → s.stagedOf pg = [(f, ix, v)] → v < 2 ^ f.width → (s.commitPage pg).rd f ix = v)

/-- On a page that is served (Table 2-2, R49, R50): PG_CNT_CLR clears ERR_CNT and CORR_CNT and changes no other field; CNT_CLR_ALL
leaves no counter field of the page listed with a value other than 0, and changes no field of another page (pages 0x011, 0x081, 0x091 and 0x0E3, whose
tables clear more, apart); ERR_FIRST_CLEAR clears VALID and changes no other field; ERR_INJECT_ARM sets ARM, TYPE and SITE and changes no other
field; and an armed injection at a site that holds what it strikes clears ARM and does what the site's row says (`inject`).
The interrupt registers of a page (R70, R72): IRQ_EN takes what is written and a source that is 1 enters IRQ_PEND; IRQ_PEND loses the
bits written 1 and no other; IRQ_FORCE sets the enabled bits written 1. -/
def Obligations.PageCountersErrorsAndInterrupts : Prop :=
  (∀ (s : State) (pg : Nat), s.pageServed pg = true →
    Gives (.pgCntClr pg) s fun t => t.rd ERR_CNT_CNT [pg] = 0 ∧ t.rd CORR_CNT_CNT [pg] = 0 ∧
      FieldsKept [(ERR_CNT_CNT, [pg]), (CORR_CNT_CNT, [pg])] s t) ∧
  (∀ (s : State) (pg : Nat), s.pageServed pg = true → hasCntClr pg = true →
    Gives (.cntClrAll pg) s fun t => ∀ p ∈ t.regs, keyPage p.1 = pg → ∀ q ∈ fieldsAt (keyWord p.1), q.1.counter = true → q.1.key q.2 ≠ p.1) ∧
  (∀ (s : State) (pg : Nat) (f : Fld) (ix : List Nat), s.pageServed pg = true → hasCntClr pg = true →
    pg ∉ [0x011, 0x081, 0x091, 0x0E3] → keyPage (f.key ix) ≠ pg → Gives (.cntClrAll pg) s fun t => t.rd f ix = s.rd f ix) ∧
  (∀ (s : State) (pg : Nat), s.pageServed pg = true →
    Gives (.errFirstClear pg) s fun t => t.on ERR_FIRST_VALID [pg] = false ∧ FieldsKept [(ERR_FIRST_VALID, [pg])] s t) ∧
  (∀ (s : State) (pg ty site : Nat), s.pageServed pg = true → ty < 2 ^ ERR_INJECT_TYPE.width → site < 2 ^ ERR_INJECT_SITE.width →
    Gives (.errInjectArm pg ty site) s fun t => t.on ERR_INJECT_ARM [pg] = true ∧ t.rd ERR_INJECT_TYPE [pg] = ty ∧
      t.rd ERR_INJECT_SITE [pg] = site ∧ FieldsKept [(ERR_INJECT_ARM, [pg]), (ERR_INJECT_TYPE, [pg]), (ERR_INJECT_SITE, [pg])] s t) ∧
  (∀ (s : State) (pg sel : Nat) (i : Inject), s.pageServed pg = true → s.on ERR_INJECT_ARM [pg] = true →
    siteOf pg (s.rd ERR_INJECT_SITE [pg]) (s.rd ERR_INJECT_TYPE [pg]) = some i → s.siteHeld pg (s.rd ERR_INJECT_SITE [pg]) sel = true →
    Gives (.errorInjection pg sel) s fun t => t = (s.wr ERR_INJECT_ARM [pg] 0).inject pg i (siteSel pg (s.rd ERR_INJECT_SITE [pg]) sel)) ∧
  (∀ (s : State) (pg : Nat) (v : Word), s.pageServed pg = true →
    Gives (.irqEnWrite pg v) s fun t => t.rd IRQ_EN_EN [pg] = v.toNat ∧
      t.rd IRQ_PEND_PEND [pg] = (s.rd IRQ_PEND_PEND [pg] ||| (v.toNat &&& s.rd IRQ_RAW_BLOCK [pg])) ∧
      t.rd IRQ_RAW_BLOCK [pg] = s.rd IRQ_RAW_BLOCK [pg]) ∧
  (∀ (s : State) (pg : Nat) (v : Word), s.pageServed pg = true →
    Gives (.irqPendClear pg v) s fun t => t.rd IRQ_PEND_PEND [pg] = clearMask (s.rd IRQ_PEND_PEND [pg]) v.toNat 32 ∧
      t.rd IRQ_EN_EN [pg] = s.rd IRQ_EN_EN [pg]) ∧
  (∀ (s : State) (pg : Nat) (v : Word), s.pageServed pg = true →
    Gives (.irqForce pg v) s fun t => t.rd IRQ_PEND_PEND [pg] = (s.rd IRQ_PEND_PEND [pg] ||| (v.toNat &&& s.rd IRQ_EN_EN [pg])) ∧
      t.rd IRQ_EN_EN [pg] = s.rd IRQ_EN_EN [pg])

/-- Accesses of the masters (R51, R558–R560, Table 16-9). A register write of a whole aligned word by a master that reaches the pages is one write
of that word on the bus (`busWrite`); the host's narrower one changes no field but the count HBR_CNT_NARROW_WR; one at the byte offset 0x14 of an
answering page is a PG_COMMIT write with its key (`keyWrite`). With the host's link up, a poisoned write TLP changes no field but the count
HBR_CNT_POISON; a write TLP of one whole aligned word of BAR0 is one write of that word, little-endian; a read of an aligned word of an answering
page of BAR0 returns a completion with the value that a read on the bus gives; a read of one byte of BAR2's first 4 MiB returns that byte of the
shadow tide memory and changes no field. -/
def Obligations.MasterAccessesReachTheRegisters : Prop :=
  (∀ (s : State) (m : Master) (a : Nat) (v : Word), s.reaches m = true → a % 4 = 0 →
    Gives (.registerWrite m a v false) s fun t => t = s.busWrite m a v.toNat) ∧
  (∀ (s : State) (a : Nat) (v : Word), s.reaches .host = true → a % 4 = 0 →
    Gives (.registerWrite .host a v true) s fun t => Counted HBR_CNT_NARROW_WR_CNT [] s t ∧ FieldsKept [(HBR_CNT_NARROW_WR_CNT, [])] s t) ∧
  (∀ (s : State) (m : Master) (pg : Nat) (v : Word), s.reaches m = true → s.answers pg = true → pg < 0x400 →
    Gives (.registerWrite m (4096 * pg + 0x14) v false) s fun t => keyWrite pg v.toNat s = .next t) ∧
  (∀ (s : State) (sp : HostSpace) (a : Nat) (bs : List (Option Nat)), s.logicUp = true → s.on HBR_STATUS_LINK_UP [] = true →
    Gives (.hostWrite sp a bs true) s fun t => Counted HBR_CNT_POISON_CNT [] s t ∧ FieldsKept [(HBR_CNT_POISON_CNT, [])] s t) ∧
  (∀ (s : State) (a b0 b1 b2 b3 : Nat), s.logicUp = true → s.on HBR_STATUS_LINK_UP [] = true → a % 4 = 0 →
    Gives (.hostWrite .bar0 a [some b0, some b1, some b2, some b3] false) s fun t => t = s.busWrite .host a (ofLe [b0, b1, b2, b3])) ∧
  (∀ (s : State) (a tag : Nat), s.logicUp = true → s.on HBR_STATUS_LINK_UP [] = true → a % 4 = 0 → s.answers (a / 4096) = true →
    Gives (.hostRead .bar0 a 4 tag) s fun t => t = (s.busRead a).2.out (.completion tag (ofLe (leBytes 4 (s.busRead a).1)) true)) ∧
  (∀ (s : State) (a tag : Nat), s.logicUp = true → s.on HBR_STATUS_LINK_UP [] = true → a < 0x400000 →
    Gives (.hostRead .bar2 a 1 tag) s fun t => t.outs = s.outs ++ [.completion tag (ofLe [Mem.byte s.tid.shadow a]) true] ∧ FieldsKept [] s t)

/-- The Fearlek commands (Table 16-8, R588–R590): a request that stops with no STATUS is served word by word and answered with status 0 and the
words read, and its frame is counted and shown; a word not served in time ends the service there with status 5; a frame whose request
CRC is incomplete is an abort, counted and raised. -/
def Obligations.FearlekRequestsAreServed : Prop :=
  (∀ (s : State) (bs : List Nat) (r : Request) (c : Instr),
    (r.cmd, c) ∈ [(1, Instr.fearlekRead bs), (2, .fearlekWrite bs), (3, .readFixed bs), (4, .writeFixed bs)] →
    s.mode ≠ .off → s.hbr.frameBad = false → parseRequest bs = some r → s.requestStatus r = 0 → s.holdsRead (r.addr / 4096) = false →
    Gives c s fun t => t.outs = (State.serve r r.len 0 s).2.outs ++
        [.fearlek (responseBytes 0 (if r.reads then (State.serve r r.len 0 s).1 else []))] ∧
      Counted MGP_CNT_FRAMES_CNT [] (State.serve r r.len 0 s).2 t ∧ t.rd MGP_LAST_STATUS [] = 0 ∧ t.rd MGP_LAST_CMD [] = r.cmd) ∧
  (∀ (s : State) (bs : List Nat) (r : Request) (k : Nat), s.mode ≠ .off → s.hbr.frameBad = false → parseRequest bs = some r →
    s.requestStatus r = 0 → k < r.len →
    Gives (.fearlekWordTimeout bs k) s fun t => t.rd MGP_LAST_STATUS [] = 5 ∧ Counted MGP_CNT_TIMEOUT_CNT [] (State.serve r k 0 s).2 t ∧
      Raised pgMGP 2 (State.serve r k 0 s).2 t) ∧
  (∀ (s : State) (bs : List Nat), s.mode ≠ .off → parseRequest bs = none →
    Gives (.fearlekAbort bs) s fun t => Counted MGP_CNT_ABORT_CNT [] s t ∧ Raised pgMGP 1 s t)

/-- The lock of a message buffer, with the logic die up (R340, R341). Reading word 0 takes the lock at the present time, shows HELD, advances SEQ
by one in both copies and changes no other field. Reading word 23 releases the lock, clears HELD, advances SEQ by one for each deferred update, and
leaves the state of the last deferred update in STATE. A lock held for 4 µs or more is released, its time-out counted and source 10 raised.
MB_REQ and MB_CANCEL (Table 9-8). With the logic die up each works on the buffers whose bits are 1, lowest first: MB_REQ requests each
(`mbRequest`), MB_CANCEL cancels each (`mbCancelReq`) and then judges LONE_NODE. A request for an unlocked buffer that is not busy makes it PENDING
(1) with result 0, no attempts and its BUSY bit set where its frame is legal, and FAILED (5) with result 8 and its DONE bit set where it is not; a
request for a busy buffer changes nothing. A cancel of an unlocked PENDING buffer makes it CANCELLED (6) with result 3, its DONE bit set and the
cancel counted; one of an ACTIVE (2) buffer makes it CANCEL_PENDING (3). -/
def Obligations.MessageBuffers : Prop :=
  (∀ (s : State) (q b : Nat), s.logicUp = true → q < 32 → b < 32 →
    Gives (.mbLockRead q b) s fun t => SMap.find? (t.quay q).locks b = some s.now ∧ t.rd QYC_MB_END_HELD [q, b] = 1 ∧
      t.rd QYC_MB_CTL_SEQ [q, b] = (s.rd QYC_MB_CTL_SEQ [q, b] + 1) % 256 ∧ t.rd QYC_MB_END_SEQ [q, b] = (s.rd QYC_MB_CTL_SEQ [q, b] + 1) % 256 ∧
      FieldsKept [(QYC_MB_END_HELD, [q, b]), (QYC_MB_CTL_SEQ, [q, b]), (QYC_MB_END_SEQ, [q, b])] s t) ∧
  (∀ (s : State) (q b : Nat), s.logicUp = true → q < 32 → b < 32 →
    Gives (.mbUnlockRead q b) s fun t => SMap.find? (t.quay q).locks b = none ∧ t.rd QYC_MB_END_HELD [q, b] = 0 ∧
      t.rd QYC_MB_CTL_SEQ [q, b] = (s.rd QYC_MB_CTL_SEQ [q, b] + (SMap.getD (s.quay q).deferred b []).length) % 256 ∧
      ∀ v, (SMap.getD (s.quay q).deferred b []).getLast? = some v → t.rd QYC_MB_CTL_STATE [q, b] = v.state % 16) ∧
  (∀ (s : State) (q b n : Nat), s.logicUp = true → SMap.find? (s.quay q).locks b = some n → n + 4000 ≤ s.now →
    Gives (.mbLockTimeout q b) s fun t => SMap.find? (t.quay q).locks b = none ∧ t.rd QYC_MB_END_HELD [q, b] = 0 ∧
      Counted QYC_CNT_LOCK_TIMEOUT_CNT [q] s t ∧ Raised (pgQ q) 10 s t) ∧
  (∀ (s : State) (q : Nat) (v : Word), s.logicUp = true → q < 32 →
    Gives (.mbReq q v) s fun t =>
      t = ((List.range 32).filter fun b => bitOf v.toNat b == 1).foldl (fun s b => s.mbRequest q b) s) ∧
  (∀ (s : State) (q : Nat) (v : Word), s.logicUp = true → q < 32 →
    Gives (.mbCancel q v) s fun t =>
      t = (((List.range 32).filter fun b => bitOf v.toNat b == 1).foldl (fun s b => s.mbCancelReq q b) s).loneNode q) ∧
  (∀ (s : State) (q b : Nat), q < 32 → b < 32 → SMap.find? (s.quay q).locks b = none → mbBusy (s.mb q b) = false → s.mbFmtOk q b = true →
    (s.mbRequest q b).rd QYC_MB_CTL_STATE [q, b] = 1 ∧ (s.mbRequest q b).rd QYC_MB_CTL_RESULT [q, b] = 0 ∧
      (s.mbRequest q b).rd QYC_MB_CTL_ATTEMPTS [q, b] = 0 ∧ bitOf ((s.mbRequest q b).rd QYC_MB_PENDING_BUSY [q]) b = 1) ∧
  (∀ (s : State) (q b : Nat), q < 32 → b < 32 → SMap.find? (s.quay q).locks b = none → mbBusy (s.mb q b) = false → s.mbFmtOk q b = false →
    (s.mbRequest q b).rd QYC_MB_CTL_STATE [q, b] = 5 ∧ (s.mbRequest q b).rd QYC_MB_CTL_RESULT [q, b] = 8 ∧
      bitOf ((s.mbRequest q b).rd QYC_MB_DONE_DONE [q]) b = 1) ∧
  (∀ (s : State) (q b : Nat), mbBusy (s.mb q b) = true → s.mbRequest q b = s) ∧
  (∀ (s : State) (q b : Nat), q < 32 → b < 32 → SMap.find? (s.quay q).locks b = none → (s.mb q b).state = 1 →
    (s.mbCancelReq q b).rd QYC_MB_CTL_STATE [q, b] = 6 ∧ (s.mbCancelReq q b).rd QYC_MB_CTL_RESULT [q, b] = 3 ∧
      bitOf ((s.mbCancelReq q b).rd QYC_MB_DONE_DONE [q]) b = 1 ∧ Counted QYC_CNT_CANCELLED_CNT [q] s (s.mbCancelReq q b)) ∧
  (∀ (s : State) (q b : Nat), q < 32 → b < 32 → SMap.find? (s.quay q).locks b = none → (s.mb q b).state = 2 →
    (s.mbCancelReq q b).rd QYC_MB_CTL_STATE [q, b] = 3)

/-- Loading the shadow tide memory (Table 3-7, R100, R101, R161). With a plane that takes writes: bytes staged through the window while the shadow
is EMPTY, LOADED, VERIFIED or FAILED stand there in the shadow memory, every other byte of it and the active memory stay, the shadow is LOADED, and
no other field changes; a plane that holds memories of its own and takes writes gets the same bytes; staged while VERIFYING the bytes stand there
too, and the verification ends with code 0x14, the write's offset and source 1; a word through TID_LOAD_DATA in the four states stands
little-endian at four times TID_LOAD_ADDR, which advances by one, and no other field changes. CLEAR_SHADOW, on the enabled page, empties the shadow
memory and the state of the shadow.
FETCH (R99). On the enabled page, in the four states that take it and with a legal offset and length, it enters FETCHING with DONE 0, asks the
host once for the bytes and keeps the offset and length it runs on. Its end with as many bytes as it asked for leaves them in the shadow memory
(with a plane that takes writes), every other byte as it was, the shadow LOADED, TID_LOAD_ADDR past them, their number in DONE, and raises source
5. Its failure after some bytes leaves the shadow LOADED, ERR 1 and their number in DONE, no byte outside the fetched range changed, and raises
source 6. -/
def Obligations.TideLoading : Prop :=
  (∀ (s : State) (a : Nat) (bs : List Nat), s.logicUp = true → (s.takesWrites 0 = true ∨ s.takesWrites 1 = true) →
    a + bs.length ≤ tideBytes → bs ≠ [] → [shEmpty, shLoaded, shVerified, shFailed].contains s.shadow = true →
    Gives (.tideStagingWrite a bs) s fun t => t.shadow = shLoaded ∧ t.tid.active = s.tid.active ∧
      (∀ i, i < bs.length → Mem.byte t.tid.shadow (a + i) = bs.getD i 0 % 256) ∧
      (∀ c, c < a ∨ a + bs.length ≤ c → Mem.byte t.tid.shadow c = Mem.byte s.tid.shadow c) ∧ FieldsKept [(TID_STATUS_SHADOW, [])] s t) ∧
  (∀ (s : State) (a : Nat) (bs : List Nat) (x : Nat) (m : PlaneMem), s.logicUp = true → a + bs.length ≤ tideBytes → bs ≠ [] →
    [shEmpty, shLoaded, shVerified, shFailed].contains s.shadow = true → x < 2 → s.takesWrites x = true → (s.plane x).own = some m →
    Gives (.tideStagingWrite a bs) s fun t => (t.plane x).own = some { m with shadow := Mem.puts m.shadow a (bs.map (· % 256)) }) ∧
  (∀ (s : State) (a : Nat) (bs : List Nat), s.logicUp = true → (s.takesWrites 0 = true ∨ s.takesWrites 1 = true) →
    a + bs.length ≤ tideBytes → bs ≠ [] → s.shadow = shVerifying →
    Gives (.tideStagingWrite a bs) s fun t => t.shadow = shLoaded ∧ t.rd TID_STATUS_VERIFY_CODE [] = 0x14 ∧
      t.rd TID_VERIFY_OFS_OFS [] = a % 2 ^ TID_VERIFY_OFS_OFS.width ∧ Raised pgTID 1 s t ∧
      ∀ i, i < bs.length → Mem.byte t.tid.shadow (a + i) = bs.getD i 0 % 256) ∧
  (∀ (s : State) (v : Word), s.logicUp = true → (s.takesWrites 0 = true ∨ s.takesWrites 1 = true) → [shEmpty, shLoaded, shVerified, shFailed].contains s.shadow = true →
    Gives (.tidLoadDataWrite v) s fun t => t.shadow = shLoaded ∧ t.tid.active = s.tid.active ∧
      (∀ i, i < 4 → Mem.byte t.tid.shadow (4 * s.rd TID_LOAD_ADDR_ADDR [] + i) = v.toNat / 256 ^ i % 256) ∧
      t.rd TID_LOAD_ADDR_ADDR [] = (s.rd TID_LOAD_ADDR_ADDR [] + 1) % 2 ^ TID_LOAD_ADDR_ADDR.width ∧
      FieldsKept [(TID_STATUS_SHADOW, []), (TID_LOAD_ADDR_ADDR, [])] s t) ∧
  (∀ (s : State), s.logicUp = true → s.on PG_STATE_ENABLED [pgTID] = true →
    [shEmpty, shLoaded, shFailed, shVerified].contains s.shadow = true →
    Gives .clearShadow s fun t => t.shadow = shEmpty ∧ t.tid.shadow = [] ∧ t.tid.active = s.tid.active ∧ FieldsKept [(TID_STATUS_SHADOW, [])] s t) ∧
  (∀ (s : State), s.logicUp = true → s.on PG_STATE_ENABLED [pgTID] = true →
    [shEmpty, shLoaded, shFailed, shVerified].contains s.shadow = true → s.fetchLegal = true →
    Gives .fetch s fun t => t.shadow = shFetching ∧ t.rd TID_FETCH_STAT_DONE [] = 0 ∧
      t.outs = s.outs ++ [.hostRead 0 (s.rd TID_FETCH_ADDR_HI_ADDR [] * 2 ^ 32 + s.rd TID_FETCH_ADDR_LO_ADDR [] * 64) s.fetchLen] ∧
      t.tid = { s.tid with fetch := (s.fetchOfs, s.fetchLen) }) ∧
  (∀ (s : State) (bs : List Nat), s.logicUp = true → (s.takesWrites 0 = true ∨ s.takesWrites 1 = true) → s.shadow = shFetching →
    bs.length = s.tid.fetch.2 →
    Gives (.fetchDone bs) s fun t => t.shadow = shLoaded ∧
      (∀ i, i < bs.length → Mem.byte t.tid.shadow (s.tid.fetch.1 + i) = bs.getD i 0 % 256) ∧
      (∀ c, c < s.tid.fetch.1 ∨ s.tid.fetch.1 + bs.length ≤ c → Mem.byte t.tid.shadow c = Mem.byte s.tid.shadow c) ∧
      t.rd TID_LOAD_ADDR_ADDR [] = (s.tid.fetch.1 + bs.length) / 4 % 2 ^ TID_LOAD_ADDR_ADDR.width ∧ t.rd TID_FETCH_STAT_DONE [] = bs.length % 2 ^ TID_FETCH_STAT_DONE.width ∧ Raised pgTID 5 s t) ∧
  (∀ (s : State) (n : Nat), s.logicUp = true → s.shadow = shFetching → n ≤ s.tid.fetch.2 →
    Gives (.fetchErr n) s fun t => t.shadow = shLoaded ∧ t.rd TID_FETCH_STAT_ERR [] = 1 ∧
      t.rd TID_FETCH_STAT_DONE [] = n % 2 ^ TID_FETCH_STAT_DONE.width ∧
      (∀ c, c < s.tid.fetch.1 ∨ s.tid.fetch.1 + s.tid.fetch.2 ≤ c → Mem.byte t.tid.shadow c = Mem.byte s.tid.shadow c) ∧ Raised pgTID 6 s t)

/-- VERIFY and its end (Table 3-7, R102). On the enabled page, with the shadow LOADED, FAILED or VERIFIED, VERIFY makes it VERIFYING, notes the
generation of the image's key slot and changes no other field. The end of the verification with no failure (`verdict`) makes it VERIFIED with code
0, shows the image's CRC and raises source 0; with a first failure it makes it FAILED and shows that failure's code and offset; the memories stay.
ARM, DISARM, SWAP_TIMEOUT, COMMIT and SNAPSHOT of the tide unit (Table 3-7, R106, R126). On the enabled page ARM makes a VERIFIED shadow ARMED,
with no boundary waited for and the present time noted, and DISARM makes an ARMED one VERIFIED and changes no field beside but CST_SRC_HWM. SWAP_TIMEOUT of an ARMED one that has waited
MAX_WAIT boundaries makes it VERIFIED, counts the failed swap and raises source 3. COMMIT, where none of its refusals holds and the active image is
not too long, begins a slot commit to the slot and with the sequence number it is due, and shows COMMIT_BUSY. SNAPSHOT writes the stroke number,
the tide index and the tide count into the snapshot registers and changes no other field. -/
def Obligations.TideVerifyAndCommands : Prop :=
  (∀ (s : State), s.logicUp = true → s.on PG_STATE_ENABLED [pgTID] = true → [shLoaded, shFailed, shVerified].contains s.shadow = true →
    Gives .verify s fun t => t.shadow = shVerifying ∧ t.tid = { s.tid with verGen := (s.keySlot (imgKeySlot s.tid.shadow)).gen } ∧
      FieldsKept [(TID_STATUS_SHADOW, [])] s t) ∧
  (∀ (s : State) (mm me : Option Nat), s.logicUp = true → s.shadow = shVerifying →
    (∀ code ofs, s.verdict mm me = some (code, ofs) → code < 256) →
    Gives (.verifyComplete mm me) s fun t => t.tid = s.tid ∧
      (s.verdict mm me = none → t.shadow = shVerified ∧ t.rd TID_STATUS_VERIFY_CODE [] = 0 ∧
        t.rd TID_SHD_CRC_CRC [] = imgCrc s.tid.shadow % 2 ^ 32 ∧ Raised pgTID 0 s t) ∧
      ∀ code ofs, s.verdict mm me = some (code, ofs) → t.shadow = shFailed ∧ t.rd TID_STATUS_VERIFY_CODE [] = code ∧
        t.rd TID_VERIFY_OFS_OFS [] = ofs % 2 ^ TID_VERIFY_OFS_OFS.width) ∧
  (∀ (s : State), s.logicUp = true → s.on PG_STATE_ENABLED [pgTID] = true → s.shadow = shVerified →
    Gives .arm s fun t => t.shadow = shArmed ∧ t.tid = { s.tid with waited := 0, armedAt := s.now } ∧ FieldsKept [(TID_STATUS_SHADOW, [])] s t) ∧
  (∀ (s : State), s.logicUp = true → s.on PG_STATE_ENABLED [pgTID] = true → s.shadow = shArmed →
    Gives .disarm s fun t => t.shadow = shVerified ∧ t.tid = s.tid ∧
      FieldsKept ((TID_STATUS_SHADOW, []) :: (List.range 9).map fun w => (CST_SRC_HWM_CELLS, [w])) s t) ∧
  (∀ (s : State), s.logicUp = true → s.shadow = shArmed → s.rd TID_SWAP_CFG_MAX_WAIT [] ≤ s.tid.waited →
    Gives .swapTimeout s fun t => t.shadow = shVerified ∧ t.tid = { s.tid with waited := 0 } ∧ Counted TID_CNT_SWAP_FAIL_CNT [] s t ∧
      Raised pgTID 3 s t) ∧
  (∀ (s : State), s.logicUp = true → s.on PG_STATE_ENABLED [pgTID] = true → s.commitRefused = false →
    (s.tid.hasActive = true → imgLen s.tid.active ≤ 0x380000) →
    Gives .tidCommit s fun t => t.ret.commit = some { target := s.slotTarget, seq := s.slotNextSeq, at_ := s.now } ∧
      t.on RET_STATUS_COMMIT_BUSY [] = true) ∧
  (∀ (s : State), s.logicUp = true →
    Gives .tidSnapshot s fun t => t.rd TID_SNAP_STROKE_LO_N [] = s.stroke % 2 ^ 32 ∧ t.rd TID_SNAP_STROKE_HI_N [] = s.stroke / 2 ^ 32 % 2 ^ TID_SNAP_STROKE_HI_N.width ∧
      t.rd TID_SNAP_INDEX_S [] = s.tideIndex s.stroke % 2 ^ TID_SNAP_INDEX_S.width ∧ t.rd TID_SNAP_TIDES_CNT [] = s.tid.tides % 2 ^ 32 ∧
      FieldsKept [(TID_SNAP_STROKE_LO_N, []), (TID_SNAP_STROKE_HI_N, []), (TID_SNAP_INDEX_S, []), (TID_SNAP_TIDES_CNT, [])] s t)

/-- SWAP and SWAP_DONE (R103, Table 3-8). A due swap is taken once for its boundary: what `swapIn` does there makes the shadow memory the active
one and TID_BASE the stroke at the boundary's time. The exchange itself (`swapMems`) makes the shadow memory active and the active one shadow, with
stroke n begun at its first action and no tide counted. SWAP_DONE, 8 µs or more after the swap and with AUTO_COMMIT 0, ends the wait, counts the
swap and raises source 2.
STROKE_BOUNDARY and EXEC_START (R81, R112, Table 3-9). A boundary is taken once. While execution is RUNNING the stroke that begins is the one
at the boundary's time, its action list starts at the first action, and the mode stays; while it is not, the current stroke and the next action
stay. EXEC_START in WAIT_TIME, at a boundary at which neither a step of harbour time nor a new epoch acts and whose conditions hold (`startHolds`),
makes execution RUNNING, in the stroke at the boundary's time, at its first action, with the active memory as it was. -/
def Obligations.SwapsAndStrokes : Prop :=
  (∀ (s : State), s.logicUp = true → s.swapDue = true → Gives .swap s fun t => t = s.swapIn ∧ t.bnd = { s.bnd with swap := true } ∧
    t.tid.active = s.tid.shadow ∧ t.tid.hasActive = true ∧ t.rd TID_BASE_LO_N [] = s.strokeAt s.bnd.time % 2 ^ 32) ∧
  (∀ (s : State) (n : Nat), (s.swapMems n).tid.active = s.tid.shadow ∧ (s.swapMems n).tid.shadow = s.tid.active ∧
    (s.swapMems n).tid.curStroke = n ∧ (s.swapMems n).tid.nextAction = 0 ∧ (s.swapMems n).tid.tides = 0) ∧
  (∀ (s : State) (n : Nat), s.logicUp = true → s.tid.swapAt = some n → n + strokeUnits ≤ s.count → s.on TID_CTRL_AUTO_COMMIT [] = false →
    Gives .swapDone s fun t => t.tid = { s.tid with swapAt := none } ∧ Counted TID_CNT_SWAP_CNT [] s t ∧ Raised pgTID 2 s t) ∧
  (∀ (s : State), s.logicUp = true → s.bndDue (fun b => b.stroke) = true → s.running = true →
    Gives .strokeBoundary s fun t => t.bnd = { s.bnd with stroke := true } ∧
      t.tid.curStroke = s.strokeAt s.bnd.time ∧ t.tid.nextAction = 0 ∧ t.mode = s.mode) ∧
  (∀ (s : State), s.logicUp = true → s.bndDue (fun b => b.stroke) = true → s.running = false →
    Gives .strokeBoundary s fun t => t.bnd = { s.bnd with stroke := true } ∧ t.tid.curStroke = s.tid.curStroke ∧
      t.tid.nextAction = s.tid.nextAction) ∧
  (∀ (s : State), s.logicUp = true → s.bndDue (fun b => b.start) = true → s.bnd.step = false → s.bnd.epoch = false →
    s.rd TID_STATUS_EXEC [] = exWait → s.startHolds = true →
    Gives .execStart s fun t => t.rd TID_STATUS_EXEC [] = exRunning ∧ t.bnd.start = true ∧
      t.tid.curStroke = s.strokeAt s.bnd.time ∧ t.tid.nextAction = 0 ∧ t.tid.active = s.tid.active)

/-- EMIT and GATE when the next action of the list is theirs and its time has come (R89, R121, R156): the list moves past it. An EMIT of a line
that stands in the acting plane, with no waiting one to issue, that finds nothing ready is counted as late and leaves the records on their way as
they are; one whose line is still being reloaded joins those that wait, with its slot and stroke, and changes no field; a waiting one whose line
has arrived is issued with its own slot and stroke; one that finds an item releases it where a plane is accepted for its port and binds it where it
waits otherwise. A GATE gives its quay the open mask of its operand and keeps its scheduled mask and every other quay's gates.
TRIG, TRIGGER_EDGE and CAPW (R88, R92, R453, R456). While execution is RUNNING with a plane accepted, and the standby issues the same word, the
next TRIG action that is due is issued as one edge of its output and level, with its pin time moved by the output's offset, and no field changes.
The first issued edge whose pin time has come leaves the edges and drives its output to its level, to low where the output is held safe or has no
record, and changes no other field. A CAPW of level 1, the standby issuing the same word, opens the window of its input from its time and changes
no other field; one of another level closes an open window at its time.
PACK and PACK_COMPLETE (R186, R187, R206). A PACK whose turn has come, of a PDU of the active image that no map writes, leaves in the packed
area every byte of the PDU's lines of the build area; of any such PDU it moves the action list past it and leaves the rest of the tide unit.
PACK_COMPLETE makes the oldest PACK whose time has come the closed PDU from now on, and counts it; with no PDU closed before it counts one job and
changes no other field; a PDU closed before is replaced, and counted as replaced. -/
def Obligations.TideActions : Prop :=
  (∀ (s : State) (k : Nat) (a : ActionWord) (s1 : State), s.logicUp = true → s.nextAction = some (k, a) → a.ty = 1 →
    s1 = s.setTid { s.tid with nextAction := k + 1 } → s1.emitItem a = none →
    s.tid.late.find? (fun p => s.lineArrived ⟨1, p.2.1, p.1⟩) = none → s.lineArrived a = true →
    Gives .emit s fun t => t.tid = s1.tid ∧ Counted TID_CNT_LATE_EMIT_CNT [] s t ∧ t.cst.flow = s.cst.flow) ∧
  (∀ (s : State) (k : Nat) (a : ActionWord), s.logicUp = true → s.nextAction = some (k, a) → a.ty = 1 →
    s.tid.late.find? (fun p => s.lineArrived ⟨1, p.2.1, p.1⟩) = none → s.lineArrived a = false →
    Gives .emit s fun t => t.tid = { s.tid with nextAction := k + 1, late := s.tid.late ++ [(a.operand, a.slot, s.tid.curStroke)] } ∧
      FieldsKept [] s t) ∧
  (∀ (s : State) (p : Nat × Nat × Nat), s.logicUp = true → s.tid.late.find? (fun p => s.lineArrived ⟨1, p.2.1, p.1⟩) = some p →
    Gives .emit s fun t => t = (s.setTid { s.tid with late := s.tid.late.erase p }).emit ⟨1, p.2.1, p.1⟩ p.2.2) ∧
  (∀ (s : State) (k : Nat) (a : ActionWord) (s1 u : State) (it : QItem) (h : Holder), s.logicUp = true → s.nextAction = some (k, a) →
    a.ty = 1 → s1 = s.setTid { s.tid with nextAction := k + 1 } → s1.emitItem a = some (it, h, u) →
    s.tid.late.find? (fun p => s.lineArrived ⟨1, p.2.1, p.1⟩) = none → s.lineArrived a = true →
    Gives .emit s fun t => t = if (s1.accepts a.port).isSome then u.releaseItem a s.tid.curStroke it h else s1.bindItem a s.tid.curStroke) ∧
  (∀ (s : State) (k : Nat) (a : ActionWord), s.logicUp = true → s.nextAction = some (k, a) → a.ty = 2 → s.hasAct = true →
    Gives .gate s fun t => t.tid.nextAction = k + 1 ∧ (t.gate a.port).openMask = a.operand % 256 ∧
      (t.gate a.port).schedMask = (s.gate a.port).schedMask ∧
      ∀ q, q ≠ a.port → t.gate q = s.gate q) ∧
  (∀ (s : State) (k tm : Nat) (a : ActionWord) (l : List (Nat × ActionWord × Nat)), s.logicUp = true → s.running = true → s.tideLen ≠ 0 →
    s.hasAct = true → s.trigsLeft = (k, a, tm) :: l →
    s.compareAction s.tid.trigShadow ((imgStroke s.trigImage (if s.tid.trigShadow then 0 else s.tideIndex s.tid.trigStroke)).1 + k) a = s →
    (s.tid.trigFirst = true ∨ tm ≤ s.count + strokeUnits) →
    Gives .trig s fun t => t.tid = { s.tid with trigIdx := k + 1 } ∧
      t.hck.edges = s.hck.edges ++ [{ output := a.line, level := a.level, at_ := tm, pin := (tm : Int) - s.ofs125 HCK_TRG_OFS [a.line] * 2 ^ 24 }] ∧
      FieldsKept [] s t) ∧
  (∀ (s : State) (e : TrigEdge), s.logicUp = true → firstEdge s.hck.edges = some e → e.pin ≤ s.count →
    Gives .triggerEdge s fun t => t.hck.edges = s.hck.edges.erase e ∧
      t.rd HCK_TRG_LEVEL [e.output] = (if s.trigSafe e.output || !s.trigProgram e.output then 0 else e.level) % 2 ^ HCK_TRG_LEVEL.width ∧
      FieldsKept [(HCK_TRG_LEVEL, [e.output])] s t) ∧
  (∀ (s : State) (k : Nat) (a : ActionWord), s.logicUp = true → s.nextAction = some (k, a) → a.ty = 4 → s.hasAct = true → a.level = 1 →
    s.compareAction false k a = s →
    Gives .capw s fun t => t.rd HCK_CAP_STAT_WIN_OPEN [a.line] = 1 ∧ t.capWin a.line = { from_ := stampOf (s.actionTime a) } ∧
      t.tid.nextAction = k + 1 ∧ FieldsKept [(HCK_CAP_STAT_WIN_OPEN, [a.line])] s t) ∧
  (∀ (s : State) (k : Nat) (a : ActionWord), s.logicUp = true → s.nextAction = some (k, a) → a.ty = 4 → s.hasAct = true → a.level ≠ 1 →
    s.on HCK_CAP_STAT_WIN_OPEN [a.line] = true →
    Gives .capw s fun t => t.rd HCK_CAP_STAT_WIN_OPEN [a.line] = 0 ∧ (t.capWin a.line).closed = some (stampOf (s.actionTime a)) ∧
      t.tid.nextAction = k + 1) ∧
  (∀ (s : State) (k : Nat) (a : ActionWord) (l : PduLayout), s.logicUp = true → s.nextAction = some (k, a) → a.ty = 5 → s.hasAct = true →
    imgLayout s.tid.active (a.operand % 2 ^ 13) = some l → ((imgMaps s.tid.active).filter fun m => m.2.dstPdu == a.operand % 2 ^ 13) = [] →
    Gives .pack s fun t => t.tid = { s.tid with nextAction := k + 1 } ∧
      ∀ i, i < 64 * l.lines → Mem.byte t.pdu (l.packed + i) = Mem.byte s.pdu (l.build + i)) ∧
  (∀ (s : State) (k : Nat) (a : ActionWord) (l : PduLayout), s.logicUp = true → s.nextAction = some (k, a) → a.ty = 5 → s.hasAct = true →
    imgLayout s.tid.active (a.operand % 2 ^ 13) = some l → Gives .pack s fun t => t.tid = { s.tid with nextAction := k + 1 }) ∧
  (∀ (s : State) (k tm : Nat) (it : QItem), s.logicUp = true →
    List.find? (fun p : Nat × QItem × Nat => p.2.2 ≤ s.count) s.sgw.packing = some (k, it, tm) → SMap.find? s.sgw.closed k = none →
    Gives .packComplete s fun t => SMap.find? t.sgw.closed k = some { it with since := s.now } ∧ t.sgw.packing = s.sgw.packing.erase (k, it, tm) ∧
      Counted SGW_CNT_PACK_CNT [] s t ∧ Counted SGW_CNT_JOBS_CNT [] s t ∧
      FieldsKept [(SGW_CNT_PACK_CNT, []), (SGW_CNT_JOBS_CNT, [])] s t) ∧
  (∀ (s : State) (k tm : Nat) (it o : QItem), s.logicUp = true →
    List.find? (fun p : Nat × QItem × Nat => p.2.2 ≤ s.count) s.sgw.packing = some (k, it, tm) → SMap.find? s.sgw.closed k = some o →
    Gives .packComplete s fun t => SMap.find? t.sgw.closed k = some { it with since := s.now } ∧
      Counted SGW_CNT_PACK_CNT [] s t ∧ Counted SGW_CNT_PACK_REPLACE_CNT [] s t)

/-- CHECK, TEST and MARK when the next action of the list is theirs and its time has come (R88, R116, R119, R125): the list moves past it. A CHECK
of a valid berth that has had its frame takes its arrival flag and changes no field; of one that has not, it counts a miss. A TEST grants its
window, from the action's time for the window's length, when no granted window of the same kind and target is still open then; else it is skipped,
counted, and raises source 9. A MARK, with the log recorder enabled and the standby issuing the same word, goes to the log line with its code, the
tide index, the table's sequence number and its time, and changes no field.
LOW_TIDE_WINDOW_END and OCCUPANCY_RELOAD_DONE (R116, R156, R233). The first granted window whose end has come is a window no more; one of
another kind than a bank's changes no register, a bank's one shows the bank in test no more. While the acting plane reloads its occupancy, the
reload's end leaves it reloading no more; with no EMIT waiting nothing else of the tide unit changes and no field; and the EMITs that wait are
issued in order, each with its own slot and stroke. -/
def Obligations.TestWindowsChecksAndMarks : Prop :=
  (∀ (s : State) (k : Nat) (a : ActionWord), s.logicUp = true → s.nextAction = some (k, a) → a.ty = 6 → s.hasAct = true →
    s.berthValid a.index = true → s.tid.arrived.contains a.index = true →
    Gives .check s fun t => t.tid = { s.tid with nextAction := k + 1, arrived := s.tid.arrived.filter fun x => x != a.index } ∧ FieldsKept [] s t) ∧
  (∀ (s : State) (k : Nat) (a : ActionWord), s.logicUp = true → s.nextAction = some (k, a) → a.ty = 6 → s.hasAct = true →
    s.berthValid a.index = true → s.tid.arrived.contains a.index = false →
    Gives .check s fun t => t.tid = { s.tid with nextAction := k + 1 } ∧ Counted TID_CNT_CHECK_MISS_CNT [] s t) ∧
  (∀ (s : State) (k : Nat) (a : ActionWord) (w : WinRec), s.logicUp = true → s.nextAction = some (k, a) → a.ty = 7 →
    imgWindow s.tid.active (a.operand % 2 ^ 12) = w →
    (s.tid.windows.any fun g => g.kind == w.kind && g.target == w.target && s.actionTime a < g.fin) = false →
    Gives .test s fun t => t.tid.nextAction = k + 1 ∧ t.tid.windows = s.tid.windows ++ [{
      kind := w.kind, target := w.target, fin := s.actionTime a + w.len * slotUnits, from_ := s.actionTime a
      served := w.kind == 5 && decide (12500 ≤ w.len) && s.on LFE_STATUS_MEAS_WAIT [w.target] }]) ∧
  (∀ (s : State) (k : Nat) (a : ActionWord) (w : WinRec), s.logicUp = true → s.nextAction = some (k, a) → a.ty = 7 →
    imgWindow s.tid.active (a.operand % 2 ^ 12) = w →
    (s.tid.windows.any fun g => g.kind == w.kind && g.target == w.target && s.actionTime a < g.fin) = true →
    Gives .test s fun t => t.tid = { s.tid with nextAction := k + 1 } ∧ Counted TID_CNT_WINDOW_SKIP_CNT [] s t ∧ Raised pgTID 9 s t) ∧
  (∀ (s : State) (k : Nat) (a : ActionWord), s.logicUp = true → s.nextAction = some (k, a) → a.ty = 8 → s.hasAct = true →
    s.on PG_STATE_ENABLED [pgLOG] = true → s.compareAction false k a = s →
    Gives .mark s fun t => t.tid = { s.tid with nextAction := k + 1 } ∧ FieldsKept [] s t ∧
      t.logLines = s.logLines ++ [.mark (a.operand % 2 ^ 32) (s.tideIndex (s.strokeAt (s.actionTime a))) (s.rd TID_ACT_SEQ_SEQ [])
        (stampOf (s.actionTime a))]) ∧
  (∀ (s : State) (w : Window), s.logicUp = true → (s.tid.windows.find? fun w => w.fin ≤ s.count) = some w →
    Gives .lowTideWindowEnd s fun t => t.tid = { s.tid with windows := s.tid.windows.erase w } ∧
      (w.kind ≠ 2 → t.regs = s.regs) ∧ (w.kind = 2 → w.target < 8 → bitOf (t.rd CST_STATUS_BANK_TEST []) w.target = 0)) ∧
  (∀ (s : State), s.logicUp = true → s.hasAct = true → (s.plane s.actPlane).reloading = true → s.tid.late = [] →
    Gives .occupancyReloadDone s fun t => (t.plane s.actPlane).reloading = false ∧ t.tid = s.tid ∧ FieldsKept [] s t) ∧
  (∀ (s : State), s.logicUp = true → s.hasAct = true → (s.plane s.actPlane).reloading = true →
    Gives .occupancyReloadDone s fun t => t = s.tid.late.foldl (fun s p => s.emit ⟨1, p.2.1, p.1⟩ p.2.2)
      ((s.setPlane s.actPlane { s.plane s.actPlane with reloading := false }).setTid { s.tid with late := [] }))

/-- DESCRIPTOR_INTAKE and FORWARDING_DECISION (R130–R133, R138). The descriptor at the head of the FIFO whose turn it is leaves the FIFO, takes
DESC_SEQ, which advances by one, and goes to every plane in service; the round-robin moves past its writer, and no field changes. The oldest
descriptor that went to one plane, in service and not the standby, leaves the inbox and is decided by it (`decideActing`). One that went to both is
decided by the active plane, after the standby has decided it in the same clock, of which only the standby plane's own state and its count are
kept.
RECORD_ACCEPT, CHECK_WORD_QUERY and LENGTH_NOTICE (R137, R138, R142, R226). A record that the accepted plane sends to a consumer, no plane that
takes over sending it in its stead and the standby's not differing, with that plane's current claim and a good check word, no claims clashing, is
delivered to it. A record of a plane that is not accepted, or with another claim, is not delivered: the consumer waits for it no more, and a
consumer that is not of class T marks it interrupted. A queried record that the other plane, in service, holds with the same DESC_SEQ, a good check
word, the same cell and length and, but for consumer 68, the same bit of the consumer, is counted as rescued and delivered. The first length notice
whose frame's descriptor has been decided leaves the list, and every queued record of the frame with that DESC_SEQ takes the final length. -/
def Obligations.DecisionsAndTheirConsumers : Prop :=
  (∀ (s : State) (w : Nat) (d : Desc) (m : Bool) (q : CQueue (Desc × Bool)), s.logicUp = true → s.nextFifo = some w →
    (s.ingr w).fifo.pop = (.item (d, m), q) →
    Gives .descriptorIntake s fun t => t.cst.descSeq = (s.cst.descSeq + 1) % 2 ^ 32 ∧
      t.cst.inbox = s.cst.inbox ++ [(d, s.cst.descSeq, [0, 1].filter fun x => s.inService x)] ∧ t.cst.rr = (w + 1) % 68 ∧
      (t.ingr w).fifo = q ∧ FieldsKept [] s t) ∧
  (∀ (s u : State) (d : Desc) (seq x : Nat) (l : List (Desc × Nat × List Nat)), s.logicUp = true → s.cst.inbox = (d, seq, [x]) :: l →
    u = s.setCst { s.cst with inbox := l } → s.inService x = true → s.role x ≠ roleStandby →
    Gives .forwardingDecision s fun t => t = u.decideActing x d seq) ∧
  (∀ (s u v : State) (d : Desc) (seq x : Nat) (l : List (Desc × Nat × List Nat)), s.logicUp = true →
    s.cst.inbox = (d, seq, [0, 1]) :: l → x < 2 → s.role x = roleActive → s.role (otherPlane x) = roleStandby →
    u = s.setCst { s.cst with inbox := l } →
    v = (u.setPlane (otherPlane x) (((u.asPlane (otherPlane x)).decideStandby (otherPlane x) d seq).plane (otherPlane x))).countDecision (otherPlane x) →
    Gives .forwardingDecision s fun t => t = v.decideActing x d seq) ∧
  (∀ (s : State) (port n : Nat) (got : Option Rec) (f : FlowRec) (r : Rec), s.logicUp = true → s.flowFor port = some (n, f) →
    s.takeoverRec port f = none → s.compareStandby port { f with todo := clearBitOf f.todo port } = s → r = got.getD (f.recFor port) → s.claimsClash = false → s.takesFrom port f.plane r.claim = true →
    checkWord r = r.check →
    Gives (.recordAccept port got) s fun t => t = s.deliver n { f with todo := clearBitOf f.todo port } port r) ∧
  (∀ (s : State) (port n : Nat) (got : Option Rec) (f : FlowRec) (r : Rec), s.logicUp = true → s.flowFor port = some (n, f) →
    s.takeoverRec port f = none → r = got.getD (f.recFor port) → s.claimsClash = false → s.takesFrom port f.plane r.claim = false →
    Gives (.recordAccept port got) s fun t =>
      t = s.putFlow n { f with todo := clearBitOf f.todo port, interrupted := f.interrupted || !isClassT port }) ∧
  (∀ (s : State) (port n : Nat) (f g : FlowRec) (r : Rec), s.logicUp = true →
    s.cst.flow.findIdx? (fun f => bitOf f.query port == 1) = some n → s.cst.flow[n]? = some f → s.inService (otherPlane f.plane) = true →
    (s.plane (otherPlane f.plane)).history.find? (fun r => r.seq == (f.recFor port).seq) = some r → checkWord r = r.check →
    r.d.cell = (f.recFor port).d.cell → r.d.len = (f.recFor port).d.len →
    (port ≠ 68 → Rec.has r port = Rec.has (f.recFor port) port) →
    g = { f with query := clearBitOf f.query port, alt := f.alt.filter (fun p => p.1 != port) } →
    Gives (.checkWordQuery port) s fun t => t = (s.bump PM_CNT_CHECK_RESCUE_CNT [otherPlane f.plane]).deliver n g port r) ∧
  (∀ (s : State) (n : Notice) (seq : Nat) (o : FrameObj), s.logicUp = true → s.cst.notices.find? s.noticeReady = some n →
    s.noticeFrame n = some o → o.seq = some seq → s.hasAct = false →
    Gives .lengthNotice s fun t => t.cst.notices = s.cst.notices.erase n ∧
      t.cst.queues = s.cst.queues.map fun p => (p.1, p.2.map fun it => it.noticed n seq))

/-- A plane leaves service (R145, R147, R148, R160, Table 4-6). A fault of the standby plane with a code of its page takes it OUT with claim 0 and
the code as its cause, counted, its self-test running, or its PLL lost at code 0x05; a fault of any plane, but for code 0x02 of the TID pages, does
what `planeFault` says. A standby whose claim was not refreshed goes OUT with claim 0 and code 0x06, counted; one a master takes out likewise, the
master as source. The active plane taken out, with a standby, is OUT with claim 0, and the standby TAKING_OVER.
TAKEOVER, REJOIN and its course (R146, R154, R160, R162, Table 4-6). At the first boundary after a plane's start of taking over, with the
generation g below 0x7FFF, the generation is g + 1, the plane claims 0x8000 + g + 1 and is ACTIVE, counted. REJOIN of a plane that is OUT, its test
passed and its PLL in lock, makes it REJOINING at its first try, waiting for a boundary; one whose test runs or whose PLL is lost is only noted. A
PLL that relocks within 200 µs starts the test. A passed test with no rejoining asked for leaves it OUT with result 1 and site 0; a failed one
FAILED with result 2 and its site. At the next boundary its full copy starts over K strokes, shown in K and LEFT. With no stroke left it is STANDBY
with claim 0 and the state it has by then, counted, source 2 raised.
The delta between the planes (R149, R150, R152). The seal that arrives marks the delta arrived and changes no field. At slot position 500 or
later, one that arrived with a correct CRC and the other plane's claim, not 0, is committed: the plane's copied state takes its lines
(`commitDelta`), with none left and no field changed; one not arrived or with an incorrect CRC is discarded and counted, no other field changing. A
copy-link error at a standby makes it REJOINING at its first try, waiting for a boundary, with no delta; at a plane copying, with fewer than three
tries made, one more try, waiting for a boundary and no longer copying. -/
def Obligations.PlaneRolesAndDeltas : Prop :=
  (∀ (s : State) (x code detail : Nat), s.logicUp = true → x < 2 → faultCode false code = true → s.role x = roleStandby →
    Gives (.planeFault x false code detail) s fun t => t.role x = roleOut ∧ t.claim x = 0 ∧ t.rd PM_OUT_CAUSE_CODE [x] = code ∧
      t.rd PM_OUT_CAUSE_SRC [x] = 0 ∧ Counted PM_CNT_TAKEN_OUT_CNT [x] s t ∧ (t.plane x).testing = !(code == 0x05) ∧
      (t.plane x).pllLost = (code == 0x05)) ∧
  (∀ (s : State) (x : Nat) (tid : Bool) (code detail : Nat), s.logicUp = true → x < 2 → faultCode tid code = true →
    (tid && code == 0x02) = false → Gives (.planeFault x tid code detail) s fun t => t = s.planeFault x tid code detail) ∧
  (∀ (s : State) (x : Nat), s.logicUp = true → x < 2 → s.role x = roleStandby →
    Gives (.claimRefreshTimeout x) s fun t => t.role x = roleOut ∧ t.claim x = 0 ∧ t.rd PM_OUT_CAUSE_CODE [x] = 0x06 ∧
      Counted PM_CNT_TAKEN_OUT_CNT [x] s t) ∧
  (∀ (s : State) (x : Nat) (m : Master), s.logicUp = true → x < 2 → s.role x = roleStandby →
    Gives (.takeOut x m) s fun t => t.role x = roleOut ∧ t.claim x = 0 ∧
      t.rd PM_OUT_CAUSE_SRC [x] = (match m with | .host => 2 | .mgp => 3) ∧ Counted PM_CNT_TAKEN_OUT_CNT [x] s t) ∧
  (∀ (s : State) (x : Nat) (m : Master), s.logicUp = true → x < 2 → s.role x = roleActive → s.role (otherPlane x) = roleStandby →
    Gives (.takeOut x m) s fun t => t.role x = roleOut ∧ t.claim x = 0 ∧ t.role (otherPlane x) = roleTakingOver) ∧
  (∀ (s : State) (x : Nat), s.logicUp = true → s.bndDue (fun b => b.takeover) = true → s.switchGen < 0x7FFF →
    [0, 1].find? (fun x => s.role x == roleTakingOver && (s.plane (otherPlane x)).outAt < s.bnd.arrived) = some x →
    Gives .takeover s fun t => t.switchGen = s.switchGen + 1 ∧ t.claim x = 0x8000 + (s.switchGen + 1) ∧ t.role x = roleActive ∧
      t.bnd = { s.bnd with takeover := true } ∧ Counted PM_CNT_TAKEOVER_CNT [x] s t) ∧
  (∀ (s : State) (x : Nat), s.logicUp = true → x < 2 → s.role x = roleOut → (s.plane x).testing = false → (s.plane x).pllLost = false →
    Gives (.rejoin x) s fun t => t.role x = roleRejoining ∧ t.rd PM_STATUS_REJOIN_TRIES [x] = 1 ∧ (t.plane x).rejoinDue = true ∧
      (t.plane x).rejoinAt = s.now) ∧
  (∀ (s : State) (x : Nat), s.logicUp = true → x < 2 → s.role x = roleOut → ((s.plane x).testing || (s.plane x).pllLost) = true →
    Gives (.rejoin x) s fun t => t.role x = roleOut ∧ (t.plane x).rejoinAsked = true ∧ FieldsKept [] s t) ∧
  (∀ (s : State) (x : Nat), s.logicUp = true → x < 2 → s.role x = roleOut → (s.plane x).pllLost = true →
    s.now ≤ (s.plane x).outAt + 200000 →
    Gives (.pllRelock x true) s fun t => (t.plane x).pllLost = false ∧ (t.plane x).testing = true ∧ FieldsKept [] s t) ∧
  (∀ (s : State) (x site : Nat), s.logicUp = true → x < 2 → s.role x = roleOut → (s.plane x).testing = true →
    s.on PM_CTRL_REJOIN_AUTO [x] = false → (s.plane x).rejoinAsked = false →
    Gives (.planeSelftestDone x true site) s fun t => t.role x = roleOut ∧ t.rd PM_SELFTEST_RESULT [x] = 1 ∧
      t.rd PM_SELFTEST_SITE [x] = 0 ∧ (t.plane x).testing = false) ∧
  (∀ (s : State) (x site : Nat), s.logicUp = true → x < 2 → s.role x = roleOut → (s.plane x).testing = true →
    Gives (.planeSelftestDone x false site) s fun t => t.role x = roleFailed ∧ t.rd PM_SELFTEST_RESULT [x] = 2 ∧
      t.rd PM_SELFTEST_SITE [x] = site % 2 ^ PM_SELFTEST_SITE.width ∧ (t.plane x).testing = false) ∧
  (∀ (s : State) (x : Nat), s.logicUp = true → s.bndDue (fun b => b.rejoin) = true →
    [0, 1].find? (fun x => s.role x == roleRejoining && (s.plane x).rejoinDue && decide ((s.plane x).rejoinAt < s.bnd.arrived) &&
      s.role (otherPlane x) == roleActive) = some x →
    Gives .rejoinStart s fun t => t.rd PM_REJOIN_LEN_K [x] = s.copyStrokes % 2 ^ PM_REJOIN_LEN_K.width ∧
      t.rd PM_REJOIN_LEFT_STROKES [x] = s.copyStrokes % 2 ^ PM_REJOIN_LEFT_STROKES.width ∧ (t.plane x).copying = true ∧
      (t.plane x).rejoinDue = false ∧ t.bnd = { s.bnd with rejoin := true }) ∧
  (∀ (s : State) (x : Nat), s.logicUp = true →
    [0, 1].find? (fun x => s.role x == roleRejoining && (s.plane x).copying && s.rd PM_REJOIN_LEFT_STROKES [x] == 0) = some x →
    Gives .rejoinComplete s fun t => t.role x = roleStandby ∧ t.claim x = 0 ∧ (t.plane x).img = (s.plane x).img ∧
      (t.plane x).copying = false ∧ (t.plane x).changed = [] ∧ (t.plane x).mismatches = 0 ∧ Counted PM_CNT_REJOIN_CNT [x] s t ∧ Raised (pgPM x) 2 s t) ∧
  (∀ (s : State) (y : Nat) (d : Delta) (ok : Bool), s.logicUp = true → s.deltaPlane = some y → (s.plane y).delta = some d →
    Gives (.deltaSealArrive ok) s fun t => t.plane y = { s.plane y with delta := some { d with arrived := true, crcOk := ok } } ∧
      FieldsKept [] s t) ∧
  (∀ (s : State) (y : Nat) (d : Delta), s.logicUp = true → s.bnd.none = false → s.bnd.time + 500 * slotUnits ≤ s.count →
    s.deltaPlane = some y → (s.plane y).delta = some d → d.arrived = true → d.crcOk = true → d.claim ≠ 0 →
    s.claim (otherPlane y) = d.claim →
    Gives .deltaCommit s fun t => t.plane y = { s.plane y with delta := none, img := s.commitDelta d (s.plane y).img } ∧ FieldsKept [] s t) ∧
  (∀ (s : State) (y : Nat) (d : Delta), s.logicUp = true → s.bnd.none = false → s.bnd.time + 500 * slotUnits ≤ s.count →
    s.deltaPlane = some y → (s.plane y).delta = some d → (d.arrived = false ∨ d.crcOk = false) →
    Gives .deltaCommit s fun t => t.plane y = { s.plane y with delta := none } ∧ Counted PM_CNT_DELTA_DISCARD_CNT [y] s t ∧
      FieldsKept [(PM_CNT_DELTA_DISCARD_CNT, [y])] s t) ∧
  (∀ (s : State) (y : Nat), s.logicUp = true →
    [0, 1].find? (fun y => s.role y == roleStandby || (s.role y == roleRejoining && (s.plane y).copying)) = some y →
    s.role y = roleStandby →
    Gives .copyLinkError s fun t => t.role y = roleRejoining ∧ t.rd PM_STATUS_REJOIN_TRIES [y] = 1 ∧ (t.plane y).rejoinDue = true ∧
      (t.plane y).delta = none) ∧
  (∀ (s : State) (y : Nat), s.logicUp = true →
    [0, 1].find? (fun y => s.role y == roleStandby || (s.role y == roleRejoining && (s.plane y).copying)) = some y →
    s.role y ≠ roleStandby → s.rd PM_STATUS_REJOIN_TRIES [y] < 3 →
    Gives .copyLinkError s fun t => t.rd PM_STATUS_REJOIN_TRIES [y] = s.rd PM_STATUS_REJOIN_TRIES [y] + 1 ∧
      (t.plane y).rejoinDue = true ∧ (t.plane y).copying = false)

/-- The gateway's jobs (R171, R181–R183). The oldest record of IQ2 leaves it and enters the job queue, and no field changes; where the queue is
full the drop is counted and source 3 raised. The job in hand of a valid berth applies each signal map of its berth to its payload, in record order
(`applyMap`), and has no maps left; one of no valid berth and with no tunnel left is complete and counted. The sweep moves to the next map of the
active image, and a map that has not just expired leaves the registers and the planes as they are; an expiring map of a PDU with a layout is
counted, its number shown, and source 0 raised.
REBUILD of the oldest request (R190, R191). One whose PDU is no longer packed in its frame is counted as failed, and the request's hold on the
frame is released. One whose PDU can be written afresh into a frame of its own, with a good check word and no bad cell, joins its consumer with the
new frame under the active plane's claim, is counted as a rebuild and as a job, and the old frame is released. -/
def Obligations.GatewayJobsAndRebuilds : Prop :=
  (∀ (s : State) (it : QItem) (l : List QItem), s.logicUp = true → s.inner 2 = it :: l → (s.sgw.jobs.push jobDepth it s.stamp).2.1 = true →
    Gives .iq2JobEnqueue s fun t => t.inner 2 = l ∧ t.sgw = { s.sgw with jobs := (s.sgw.jobs.push jobDepth it s.stamp).1 } ∧
      FieldsKept [] s t) ∧
  (∀ (s : State) (it : QItem) (l : List QItem), s.logicUp = true → s.inner 2 = it :: l → (s.sgw.jobs.push jobDepth it s.stamp).2.1 = false →
    Gives .iq2JobEnqueue s fun t => Counted SGW_CNT_JOB_DROP_CNT [] s t ∧ Raised pgSGW 3 s t) ∧
  (∀ (s : State) (j : SgwJob), s.logicUp = true → s.hasAct = true → s.sgw.cur = some j → j.maps = true → j.item.r.berthValid = true →
    Gives .signalExtraction s fun t => t = ((s.mapsOf j.item.r.berth).foldl (fun s m => s.applyMap (s.jobPayload j.item) m.1 m.2) s).jobPart
      { j with maps := false }) ∧
  (∀ (s : State) (j : SgwJob), s.logicUp = true → s.hasAct = true → s.sgw.cur = some j → j.maps = true → j.item.r.berthValid = false →
    j.tunnels = [] → Gives .signalExtraction s fun t => t.sgw.cur = none ∧ Counted SGW_CNT_JOBS_CNT [] s t) ∧
  (∀ (s : State) (n : Nat), s.logicUp = true → s.hasAct = true → s.tid.hasActive = true → (imgSection s.tid.active 4).count = n → n ≠ 0 →
    Gives .mapTimeoutSweep s fun t => t.sgw.sweep = (s.sgw.sweep % n + 1) % n ∧
      (s.mapExpires (s.sgw.sweep % n) (imgMap s.tid.active (s.sgw.sweep % n)) = false → t.regs = s.regs ∧ t.planes = s.planes)) ∧
  (∀ (s : State) (i : Nat) (m : SigMap) (l : PduLayout), imgLayout s.tid.active m.dstPdu = some l →
    Counted SGW_CNT_TIMEOUT_CNT [] s (s.expireMap i m) ∧ (s.expireMap i m).rd SGW_LAST_TIMEOUT_MAP [] = i % 2 ^ SGW_LAST_TIMEOUT_MAP.width ∧
      Raised pgSGW 0 s (s.expireMap i m)) ∧
  (∀ (s u : State) (port : Nat) (it : QItem) (l : List (Nat × QItem)), s.logicUp = true → s.hasAct = true →
    s.cst.rebuilds = (port, it) :: l → u = s.setCst { s.cst with rebuilds := l } → u.rebuildPdu it = none →
    Gives .rebuild s fun t => t = (u.rebuildFail port it).release it.frame (.rebuild port) ∧ Counted SGW_CNT_REBUILD_FAIL_CNT [] s t) ∧
  (∀ (s u v w : State) (port k f : Nat) (it : QItem) (l : List (Nat × QItem)) (lay : PduLayout) (r : Rec) (fl : FlowRec), s.logicUp = true →
    s.hasAct = true → s.cst.rebuilds = (port, it) :: l → u = s.setCst { s.cst with rebuilds := l } → u.rebuildPdu it = some k →
    imgLayout u.tid.active k = some lay → u.writePduFrame k (u.pduFrame lay).1 (.rebuild port) true = (v, some f) →
    (v.setSgw { v.sgw with packed := SMap.insert v.sgw.packed k f }).sealPdu { it.r with
      d := { it.r.d with cell := f, len := (u.pduFrame lay).1.length, hdr := (u.pduFrame lay).2 }, claim := v.claim v.actPlane } = (w, r) →
    checkWord r = r.check → w.badCellsOf f = [] →
    fl = { plane := w.actPlane, r := r, todo := 0, taken := 2 ^ port, emit := it.emit, due := it.due } →
    Gives .rebuild s fun t =>
      t = ((((w.join f fl port).release f (.rebuild port)).bump SGW_CNT_REBUILD_OK_CNT []).bump SGW_CNT_JOBS_CNT []).release it.frame
        (.rebuild port))

/-- The tunnels of the gateway (R193–R204), for a job in hand that has a record of the row's kind still to run; the job goes on without it. KIND 1
encapsulates the job's CAN frame as IEEE 1722 with the row's next sequence number and sends it, and drops a CAN XL frame as a conversion failure;
KIND 3 encapsulates its Darast body with the DARAST EtherType and sends it; KIND 5 rewrites the frame, where it can be, and issues it on CAN. The
KIND 2 records take an AVTPDU of their stream together: its sequence number is checked for each, then its messages are issued. The first KIND 4
record of the Darast stream checks the sequence number and issues the CAN frame, which is counted where it was issued. -/
def Obligations.GatewayTunnelsRunTheirRecords : Prop :=
  (∀ (s u : State) (j k : SgwJob) (n : Nat) (x : Tunnel) (f : CanFrame), s.logicUp = true → s.hasAct = true → s.sgw.cur = some j →
    j.tunnels.find? (fun n => (imgTunnel s.tid.active n).kind == 1) = some n → x = imgTunnel s.tid.active n →
    k = { j with tunnels := j.tunnels.filter fun m => m != n } → f = canParse (s.frameBytes j.item.frame) →
    u = (if f.format = fmtXL then s.convertDrop
      else s.sendEncap j.item n x 256 (encap1722 x (s.txSeq n) f (j.item.r.d.stamp / 2 ^ 16))) →
    Gives .encap1722 s fun t => t = u.jobPart k) ∧
  (∀ (s u : State) (j k : SgwJob) (n : Nat) (x : Tunnel) (body : List Nat), s.logicUp = true → s.hasAct = true → s.sgw.cur = some j →
    j.tunnels.find? (fun n => (imgTunnel s.tid.active n).kind == 3) = some n → x = imgTunnel s.tid.active n →
    k = { j with tunnels := j.tunnels.filter fun m => m != n } → body = darastBody (canParse (s.frameBytes j.item.frame)) →
    u = s.sendEncap j.item n x 65536 (tunHeader x (s.rd SGW_DARAST_ETYPE_ETYPE []) ++ darastHeader 1 x.stream (s.txSeq n) body.length
      j.item.r.d.stamp (s.stampOnFb (if j.item.r.d.src < 64 then j.item.r.d.src else 64) j.item.r.d.stamp) ++ body) →
    Gives .encapDarast s fun t => t = u.jobPart k) ∧
  (∀ (s : State) (j k : SgwJob) (n : Nat) (x : Tunnel) (f : CanFrame), s.logicUp = true → s.hasAct = true → s.sgw.cur = some j →
    j.tunnels.find? (fun n => (imgTunnel s.tid.active n).kind == 5) = some n → x = imgTunnel s.tid.active n →
    k = { j with tunnels := j.tunnels.filter fun m => m != n } → rewriteCan x (canParse (s.frameBytes j.item.frame)) = some f →
    Gives .rewrite s fun t => t = (s.reissueCan j.item.r (x.target % 2 ^ 14) f j.item.r.d.stamp).1.jobPart k) ∧
  (∀ (s : State) (j k : SgwJob) (mine recs : List (Nat × Tunnel)) (stream msgs : List Nat) (seq : Nat), s.logicUp = true → s.hasAct = true →
    s.sgw.cur = some j → mine = ((j.tunnels.map fun n => (n, imgTunnel s.tid.active n)).filter fun r => r.2.kind == 2) →
    avtpdu (s.jobPayload j.item) = some (stream, seq, msgs) → recs = mine.filter (fun r => r.2.streamId == stream) → recs ≠ [] →
    k = { j with tunnels := j.tunnels.filter fun n => (imgTunnel s.tid.active n).kind != 2 } →
    Gives .decap1722 s fun t => t = (State.acfMessages recs j.item (msgs.length + 1) msgs
      (recs.foldl (fun s r => s.seqCheck r.1 r.2 8 seq) s)).jobPart k) ∧
  (∀ (s u v : State) (ok : Bool) (j k : SgwJob) (mine : List (Nat × Tunnel)) (r : Nat × Tunnel) (f : CanFrame) (pay : List Nat), s.logicUp = true →
    s.hasAct = true → s.sgw.cur = some j →
    mine = ((j.tunnels.map fun n => (n, imgTunnel s.tid.active n)).filter fun r => r.2.kind == 4) → pay = s.jobPayload j.item →
    mine.find? (fun r => r.2.stream == be pay 2 2) = some r → darastCan pay (s.frameBytes j.item.frame).length = some f →
    u = s.seqCheck r.1 r.2 16 (be pay 4 2) →
    k = { j with tunnels := j.tunnels.filter fun n => (imgTunnel s.tid.active n).kind != 4 } →
    u.reissueCan j.item.r (r.2.target % 2 ^ 14) f (stampMk (be pay 8 6) (be pay 14 4) (be pay 18 2)) = (v, ok) →
    Gives .decapDarast s fun t => t = (if ok then v.bump SGW_CNT_DECAP_CNT [] else v).jobPart k)

/-- Hand-over and landing (R211–R218). A bank of a writer other than 65, full or the frame's last, handed over while fewer than two wait and the
frame is not refused, waits with a deadline of the time its other bank takes to fill; the first of a frame takes its stamp; no field changes. The
last bank of a refused frame ends the refusal and notes a frame lost. The frame at the head takes the next cell it may take; one whose first cell
no source gives is given up, counted and raised. The write port, at a last bank that holds its cell, writes the bank's bytes into the cell, zeros
beyond, changes no other byte and no field, and the frame has landed; with no bank to serve it changes nothing. An overrun while both banks wait
drops them where they are the frame's own and it has no cell; where the first is the last of an earlier frame, that one still waits; the rest of
the frame is refused and the overrun counted.
FRAME_RELEASE, CELL_CRC_FAILURE and BANK_FAILURE (R212, R229–R232). A holder's release takes it out of the frame's holders and changes no byte
and no field; the last holder's release of a frame with no failed cell frees it and leaves every other frame. A cell of a frame that fails its CRC
at a quay, or at an inner quay whose queue holds the frame, is counted and raises source 2, and the inner quay's queue loses the frame; at the log
recorder it is noted as failed for the read to come. A failed pool, source 8, is shown and reported at level 4; a bank that fails is reported at
level 1 with its number and fails as `failBank` says, and one that has failed before is only reported again. -/
def Obligations.CellsAndFrames : Prop :=
  (∀ (s : State) (w stamp : Nat) (bs : List Nat) (last : Bool), s.logicUp = true → w < 68 → w ≠ 65 → 1 ≤ bs.length → bs.length ≤ 256 →
    (last = true ∨ bs.length = 256) → (s.ingr w).refused = false → (s.ingr w).waiting.length < 2 →
    Gives (.bankHandover w bs last stamp (s.now + s.bankTime w)) s fun t => (t.ingr w).waiting = (s.ingr w).waiting ++
        [{ data := bs, last := last, deadline := s.now + s.bankTime w, stuck := s.cst.unserved }] ∧
      ((s.ingr w).current = none → (s.ingr w).waiting = [] → (t.ingr w).stamp = stamp) ∧ FieldsKept [] s t) ∧
  (∀ (s : State) (w stamp due : Nat) (bs : List Nat), s.logicUp = true → w < 68 → w ≠ 65 → 1 ≤ bs.length → bs.length ≤ 256 →
    (s.ingr w).refused = true →
    Gives (.bankHandover w bs true stamp due) s fun t =>
      t.ingr w = { s.ingr w with refused := false, landed := (s.ingr w).landed ++ [none] } ∧ FieldsKept [] s t) ∧
  (∀ (s : State) (w c : Nat), s.logicUp = true → (s.ingr w).waiting ≠ [] → (s.ingr w).next = none →
    s.takeCell w (s.ingr w).current = some c →
    Gives (.cellLanding w) s fun t => t.ingr w = { s.ingr w with next := some c } ∧ FieldsKept [] s t) ∧
  (∀ (s : State) (w : Nat), s.logicUp = true → (s.ingr w).waiting ≠ [] → (s.ingr w).next = none → (s.ingr w).current = none →
    s.takeCell w none = none →
    Gives (.cellLanding w) s fun t => t.ingr w = (s.ingr w).giveUp ∧ Counted CST_CNT_LAND_REFUSE_CNT [] s t ∧ Raised pgCST 0 s t) ∧
  (∀ (s : State) (w c : Nat) (b : Bank) (l : List Bank), s.logicUp = true → s.nextWriter = some w → (s.ingr w).waiting = b :: l →
    (s.ingr w).next = some c → b.last = true → b.data.length ≤ 256 →
    Gives .cellWrite s fun t => (t.ingr w).waiting = l ∧ (t.ingr w).current = none ∧ (t.ingr w).next = none ∧
      (∀ i, i < 256 → Mem.byte t.cst.mem (256 * c + i) = b.data.getD i 0 % 256) ∧
      (∀ a, a < 256 * c ∨ 256 * c + 256 ≤ a → Mem.byte t.cst.mem a = Mem.byte s.cst.mem a) ∧ FieldsKept [] s t) ∧
  (∀ (s : State), s.logicUp = true → s.nextWriter = none → Gives .cellWrite s fun t => t = s) ∧
  (∀ (s : State) (w : Nat), s.logicUp = true → w < 64 → 2 ≤ (s.ingr w).waiting.length → (s.ingr w).waiting.all (fun b => !b.last) = true →
    (s.ingr w).current = none →
    Gives (.ingressOverrun w) s fun t => (t.ingr w).waiting = [] ∧ (t.ingr w).next = none ∧ (t.ingr w).refused = true ∧
      Counted CST_CNT_OVERRUN_CNT [] s t ∧ Raised pgCST 4 s t) ∧
  (∀ (s : State) (w : Nat) (a b : Bank), s.logicUp = true → w < 64 → (s.ingr w).waiting = [a, b] → a.last = true → b.last = false →
    a.void = false →
    Gives (.ingressOverrun w) s fun t => (t.ingr w).waiting = [{ a with stuck := false }] ∧ (t.ingr w).current = (s.ingr w).current ∧
      (t.ingr w).refused = true ∧ Counted CST_CNT_OVERRUN_CNT [] s t) ∧
  (∀ (s : State) (f : Nat) (h : Holder) (o : FrameObj), s.logicUp = true → s.frame? f = some o → o.holders.contains h = true →
    o.holders.erase h ≠ [] →
    Gives (.frameRelease f h) s fun t => t.frame? f = some { o with holders := o.holders.erase h } ∧ t.cst.mem = s.cst.mem ∧
      FieldsKept [] s t) ∧
  (∀ (s : State) (f : Nat) (h : Holder) (o : FrameObj), s.logicUp = true → s.frame? f = some o → o.holders = [h] → o.failed = [] →
    Gives (.frameRelease f h) s fun t => t.frame? f = none ∧ t.cst.mem = s.cst.mem ∧
      ∀ g, g ≠ f → t.frame? g = s.frame? g) ∧
  (∀ (s : State) (port f c : Nat) (o : FrameObj), s.logicUp = true → port < 64 → s.frame? f = some o →
    (o.cells.any fun x => x.1 == c) = true →
    Gives (.cellCrcFailure port f c) s fun t => Counted CST_CNT_CELL_CRC_CNT [] s t ∧ Raised pgCST 2 s t) ∧
  (∀ (s : State) (k f c : Nat) (o : FrameObj) (it : QItem), s.logicUp = true → k < 4 → k ≠ 1 → s.frame? f = some o →
    (o.cells.any fun x => x.1 == c) = true → (s.inner k).find? (fun x => x.frame == f) = some it →
    Gives (.cellCrcFailure (64 + k) f c) s fun t => Counted CST_CNT_CELL_CRC_CNT [] s t ∧ Raised pgCST 2 s t ∧
      t.inner k = (s.inner k).filter fun x => x.frame != f) ∧
  (∀ (s : State) (f c : Nat) (o : FrameObj), s.logicUp = true → s.frame? f = some o → (o.cells.any fun x => x.1 == c) = true →
    Gives (.cellCrcFailure 65 f c) s fun t => t.cst = { s.cst with badCells := c :: s.cst.badCells.filter fun x => x != c } ∧ FieldsKept [] s t) ∧
  (∀ (s : State), s.logicUp = true →
    Gives (.bankFailure 8) s fun t => bitOf (t.rd CST_STATUS_FAILED []) 8 = 1 ∧
      t.errLines = s.errLines ++ [{ page := pgCST, code := 0x06, detail := 8, level := 4 }]) ∧
  (∀ (s : State) (src : Nat), s.logicUp = true → src < 8 → s.bankFailed src = false →
    Gives (.bankFailure src) s fun t => t = (s.err pgCST 0x04 1 src).failBank src) ∧
  (∀ (s : State) (src : Nat), s.logicUp = true → src < 8 → s.bankFailed src = true →
    Gives (.bankFailure src) s fun t => t = s.err pgCST 0x04 1 src)

/-- CLASSIFICATION (R171, R219, R220). The record that reaches the enqueue next leaves the flow list. A first record counts its interruption and is
dropped where its REASON is 7, else classified as scheduled (`classifySched`) or unscheduled (`classifyUnsched`); the record of a release is
enqueued without a test (`enqueueEmit`). An unscheduled frame with destinations that fails the source test is counted as dropped; a scheduled one
whose berth queue holds its 16 frames is counted as BQ_FULL. -/
def Obligations.ClassificationOfRecords : Prop :=
  (∀ (s u : State) (n : Nat) (fl : FlowRec) (o : FrameObj), s.logicUp = true →
    s.nextSettled = some n → s.cst.flow[n]? = some fl →
    u = s.setCst { s.cst with flow := s.cst.flow.eraseIdx n } → s.frame? fl.r.d.cell = some o → fl.source = none →
    Gives .classification s fun t => t =
      if fl.r.reason = 7 then (u.countInterrupt fl).dropClass fl.r.d.cell
      else if fl.r.sched then (u.countInterrupt fl).classifySched fl.r.d.cell fl o
      else (u.countInterrupt fl).classifyUnsched fl.r.d.cell fl o) ∧
  (∀ (s u : State) (n : Nat) (fl : FlowRec) (o : FrameObj), s.logicUp = true →
    s.nextSettled = some n → s.cst.flow[n]? = some fl →
    u = s.setCst { s.cst with flow := s.cst.flow.eraseIdx n } → s.frame? fl.r.d.cell = some o → fl.source ≠ none →
    Gives .classification s fun t => t = u.enqueueEmit fl.r.d.cell fl) ∧
  (∀ (s : State) (f : Nat) (fl : FlowRec) (o : FrameObj), fl.dests ≠ [] → s.sourceTest o = false →
    Counted CST_CNT_UNSCHED_DROP_CNT [] s (s.classifyUnsched f fl o)) ∧
  (∀ (s : State) (f : Nat) (fl : FlowRec) (o : FrameObj), bitOf fl.taken 68 = 1 → berthQueueMax ≤ ((s.charge f .scheduled).berthQ fl.r.berth).length →
    Counted CST_CNT_BQ_FULL_CNT [] s (s.classifySched f fl o))

/-- CONTROL_QUEUE_PUSH and CONTROL_QUEUE_POP (Table 6-3, R234). A report pushed to the error queue goes to the supervisor's error lines and changes
no field. With the logic die up, any item is pushed by its queue's push side (`cqPush`), a good word is popped by the pop side (`cqPop`), and a pop
that meets an uncorrected word does what `cqPopBad` says: the IQ2 intake queue takes it as a bad pop and counts a dropped job, the learning queue
takes it as a bad pop and counts a gap. -/
def Obligations.ControlQueuesPushAndPop : Prop :=
  (∀ (s : State) (e : ErrReport), s.mode ≠ .off →
    Gives (.controlQueuePush (.error e)) s fun t => t.errLines = s.errLines ++ [e] ∧ FieldsKept [] s t) ∧
  (∀ (s : State) (x : CqItem), s.logicUp = true → s.mode ≠ .off → Gives (.controlQueuePush x) s fun t => t = s.cqPush x) ∧
  (∀ (s : State) (q : ControlQueue), s.logicUp = true → s.mode ≠ .off → Gives (.controlQueuePop q false) s fun t => t = s.cqPop q) ∧
  (∀ (s : State) (it : QItem) (l : List QItem), s.logicUp = true → s.sgw.jobs.items = it :: l →
    Gives (.controlQueuePop .jobs true) s fun t => t.sgw.jobs = (s.sgw.jobs.popBad s.stamp).2.1 ∧ Counted SGW_CNT_JOB_DROP_CNT [] s t) ∧
  (∀ (s : State), s.logicUp = true → s.lkp.learn.items ≠ [] →
    Gives (.controlQueuePop .learning true) s fun t => t.lkp.learn = (s.lkp.learn.popBad s.stamp).2.1 ∧
      Counted LKP_CNT_LEARN_GAP_CNT [] s t) ∧
  (∀ (s : State) (q : ControlQueue), s.logicUp = true → s.mode ≠ .off → Gives (.controlQueuePop q true) s fun t => t = s.cqPopBad q)

/-- The berth window and the meter sweep (R255, R256, R269). With no commit of BTH page 0 pending, a word written to the configuration bytes of a
valid berth is staged: in a new slot, which starts from the active bytes, or in the slot that the berth has, and then no field changes. While a
commit is pending it sets STAGED_REJECT and stages nothing. A narrow write is ignored, shown, counted and raised, and stages nothing. The sweep
fills the meter of a valid metered berth up to the present stroke and changes no field.
BTH_CMD (R274). CLR_STATS, REFILL, UNBLOCK and CLR_ALL_STATS given while none is held are held with their berth and show CMD_BUSY; given while
one is held they show CMD_REJECT and change nothing else. At the boundary's turn (`bthBoundary`) the first three act on the berth's runtime state
in both planes: the statistics clear, the tokens filled, the block lifted; CMD_BUSY clears and source 6 is raised. The end of CLR_ALL_STATS clears
every berth's pass, drop, late and miss counts in both planes, keeps the tokens, and clears CMD_BUSY. -/
def Obligations.BerthWindowMetersAndCommands : Prop :=
  (∀ (s : State) (b ofs : Nat) (v : Word), s.logicUp = true → b < 16384 → ofs < 40 → ofs % 4 = 0 → s.on PG_STATE_STAGED_PENDING [pgBTH] = false →
    s.berthValid b = true → s.slot b = none → s.bth.slots.length < stagingSlots →
    Gives (.berthWindowWrite (64 * b + ofs) v false) s fun t =>
      t.bth = { s.bth with slots := s.bth.slots ++ [(b, putWord4 (s.cfgBytes b) ofs v)] }) ∧
  (∀ (s : State) (b ofs : Nat) (v : Word) (bs : List Byte), s.logicUp = true → b < 16384 → ofs < 40 → ofs % 4 = 0 →
    s.on PG_STATE_STAGED_PENDING [pgBTH] = false → s.berthValid b = true → s.slot b = some bs →
    Gives (.berthWindowWrite (64 * b + ofs) v false) s fun t =>
      t.bth = { s.bth with slots := s.bth.slots.map fun p => if p.1 = b then (b, putWord4 bs ofs v) else p } ∧ FieldsKept [] s t) ∧
  (∀ (s : State) (b ofs : Nat) (v : Word), s.logicUp = true → b < 16384 → ofs < 40 → ofs % 4 = 0 → s.on PG_STATE_STAGED_PENDING [pgBTH] = true →
    s.berthValid b = true →
    Gives (.berthWindowWrite (64 * b + ofs) v false) s fun t => t.on PG_STATE_STAGED_REJECT [pgBTH] = true ∧ t.bth = s.bth) ∧
  (∀ (s : State) (a : Nat) (v : Word), s.logicUp = true → a < 0x100000 →
    Gives (.berthWindowWrite a v true) s fun t => t.on BTH_STATUS_WRITE_IGNORED [] = true ∧ Counted BTH_CNT_WRITE_IGNORED_CNT [] s t ∧
      Raised pgBTH 5 s t ∧ t.bth = s.bth) ∧
  (∀ (s : State) (b : Nat), s.logicUp = true → s.hasAct = true → s.berthValid b = true → (s.berth b).burst ≠ 0 →
    Gives (.meterSweep b) s fun t => t.rt b = { s.rt b with tokens := meterFill (s.berth b) (s.rt b) s.stroke, meterStroke := s.stroke % 2 ^ 24 } ∧
      FieldsKept [] s t) ∧
  (∀ (s : State) (c : Instr) (op b : Nat), (c, op, b) ∈ [(Instr.clrStats b, 1, b), (.refill b, 2, b), (.unblock b, 3, b), (.clrAllStats, 4, 0)] →
    s.logicUp = true → s.on BTH_STATUS_CMD_BUSY [] = false →
    Gives c s fun t => t.on BTH_STATUS_CMD_BUSY [] = true ∧ t.bth = { s.bth with cmd := some (op, b % 16384), clrAllAt := none } ∧
      FieldsKept [(BTH_STATUS_CMD_BUSY, [])] s t) ∧
  (∀ (s : State) (c : Instr) (op b : Nat), (c, op, b) ∈ [(Instr.clrStats b, 1, b), (.refill b, 2, b), (.unblock b, 3, b), (.clrAllStats, 4, 0)] →
    s.logicUp = true → s.on BTH_STATUS_CMD_BUSY [] = true →
    Gives c s fun t => t.on BTH_STATUS_CMD_REJECT [] = true ∧ t.bth = s.bth ∧ FieldsKept [(BTH_STATUS_CMD_REJECT, [])] s t) ∧
  (∀ (s : State) (op b x : Nat) (r : BerthRt → BerthRt), (op = 1 ∧ r = clearStats (s.berth b) ∨
      op = 2 ∧ r = (fun r => { r with tokens := 256 * (s.berth b).burst }) ∨ op = 3 ∧ r = (fun r => { r with blocked := false })) →
    s.bth.cmd = some (op, b) → x < 2 → s.bthBoundary.rtOf x b = r (s.rtOf x b) ∧ s.bthBoundary.on BTH_STATUS_CMD_BUSY [] = false ∧
      Raised pgBTH 6 s s.bthBoundary) ∧
  (∀ (s : State) (n x b : Nat), s.logicUp = true → s.bth.clrAllAt = some n → x < 2 →
    Gives .clrAllStatsDone s fun t => t.on BTH_STATUS_CMD_BUSY [] = false ∧ t.bth.cmd = none ∧ (t.rtOf x b).passFrames = 0 ∧
      (t.rtOf x b).drop = 0 ∧ (t.rtOf x b).late = 0 ∧ (t.rtOf x b).miss = 0 ∧ (t.rtOf x b).tokens = (s.rtOf x b).tokens)

/-- Learning and aging (R283, R289–R292). The oldest learning request leaves its queue and is learned by the acting plane (`learn`). A key neither
held nor pending, with a free way in its bucket and no rebuild open, is placed there with its quay as destination, full age, the present stamp and
the next generation, and counted; a static entry of another destination stays, all planes as they were, and the attempt is counted. The stamp sweep
brings the stamp of a dynamic entry that is 132 or more behind to 132 behind and changes no field, and any other entry leaves the state as it is.
The aging sweep takes one from the age of every dynamic entry of the active bank that has some, and ages out those that had none (`ageOut`).
The lookup commands that read and change one entry (R281, R300–R303, Table 8-9), each at the head, due and with room for its result; each gives
one result, after which commands of no operation are dropped. SEARCH gives the location and entry of a key, or NOT_FOUND. READ gives the entry at a
location, or the VLAN entry of a VID. INSERT of an absent key that finds a place puts it there in both planes and gives its location and entry.
WRITE of a key held, not the image's, its condition met, replaces the entry there in both planes, keeping its generation only if the contents stay.
DELETE of an entry of the image gives IMAGE_OWNED; of another, its condition met, it removes it from its bank in both planes (`removeAt`) and gives
the removed entry with the next generation. -/
def Obligations.LearningAndEntryCommands : Prop :=
  (∀ (s : State) (r : LearnReq) (q : CQueue LearnReq), s.logicUp = true → s.hasAct = true → s.lkp.learn.pop = (.item r, q) →
    Gives .learningRequest s fun t => t = (({ s with lkp := { s.lkp with learn := q } } : State).learn s.actPlane r).lkpConds) ∧
  (∀ (s : State) (x : Nat) (r : LearnReq) (l : Loc), (s.lkpOf x).active.find s.seedActive r.da r.vid = none → (s.lkpOf x).pend = none →
    s.rebuildOpen = false → (s.lkpOf x).active.freeWay (bucketOf s.seedActive r.da r.vid) = some l →
    ((s.learn x r).lkpOf x).active = (s.lkpOf x).active.put l {
      da := r.da, vid := r.vid, valid := true, dest := quayBit r.quay, age := 15,
      stamp := s.halfMs, gen := (s.lkpOf x).gen } ∧ ((s.learn x r).lkpOf x).gen = ((s.lkpOf x).gen + 1) % 2 ^ 16 ∧
      Counted LKP_CNT_LEARN_CNT [] s (s.learn x r)) ∧
  (∀ (s : State) (x : Nat) (r : LearnReq) (l : Loc), (s.lkpOf x).active.find s.seedActive r.da r.vid = some l →
    ((s.lkpOf x).active.at l).static = true → ((s.lkpOf x).active.at l).dest ≠ quayBit r.quay →
    (s.learn x r).planes = s.planes ∧ Counted LKP_CNT_LEARN_STATIC_CNT [] s (s.learn x r)) ∧
  (∀ (s : State) (ovf : Bool) (i : Nat) (e : FwdEntry), s.logicUp = true → s.hasAct = true → (s.lkpOf s.actPlane).active.at ⟨ovf, i⟩ = e →
    e.valid = true → e.static = false → 132 ≤ (s.halfMs + 256 - e.stamp) % 256 →
    Gives (.stampSweep ovf i) s fun t => (t.lkpOf s.actPlane).active.at ⟨ovf, i⟩ = { e with stamp := (s.halfMs + 256 - 132) % 256 } ∧
      FieldsKept [] s t) ∧
  (∀ (s : State) (ovf : Bool) (i : Nat) (e : FwdEntry), s.logicUp = true → s.hasAct = true → (s.lkpOf s.actPlane).active.at ⟨ovf, i⟩ = e →
    (e.valid = false ∨ e.static = true ∨ (s.halfMs + 256 - e.stamp) % 256 < 132) → Gives (.stampSweep ovf i) s fun t => t = s) ∧
  (∀ (s u : State) (x : Nat), s.logicUp = true → s.hasAct = true → s.rd LKP_AGE_TICK_MS [] ≠ 0 → x = s.actPlane →
    u = ((s.lkpOf x).active.dynamics.filter fun p => p.2.age != 0).foldl (fun s p => s.setLkpOf x { s.lkpOf x with
      active := (s.lkpOf x).active.put p.1 { p.2 with age := p.2.age - 1 } } [p.1]) s →
    Gives .agingSweep s fun t =>
      t = ((((s.lkpOf x).active.dynamics.filter fun p => p.2.age == 0).foldl (fun s p => s.ageOut x p.2) u).preloadRun x).lkpConds) ∧
  (∀ (s : State) (c : LkpCmd) (l : Loc) (b : LkpBank), s.logicUp = true → s.lkpHead 1 = some c → c.table ≠ 1 →
    b = (s.lkpOf s.actPlane).bank (c.bank == 1) → b.find (s.seedOf (c.bank == 1)) c.da c.vid = some l →
    Gives .search s fun t => t = State.dropBadOps 64 (s.lkpResult (entryResult c 0 l (b.at l)))) ∧
  (∀ (s : State) (c : LkpCmd), s.logicUp = true → s.lkpHead 1 = some c → c.table ≠ 1 →
    ((s.lkpOf s.actPlane).bank (c.bank == 1)).find (s.seedOf (c.bank == 1)) c.da c.vid = none →
    Gives .search s fun t => t = State.dropBadOps 64 (s.lkpResult (plainResult c 1))) ∧
  (∀ (s : State) (c : LkpCmd), s.logicUp = true → s.lkpHead 2 = some c → c.table ≠ 1 → c.keyLo / 2 ^ 17 = 0 →
    (bitOf c.keyLo 16 = 1 → c.keyLo % 2 ^ 16 < ovfCount) →
    Gives .read s fun t => t = State.dropBadOps 64 (s.lkpResult (entryResult c 0 ⟨bitOf c.keyLo 16 == 1, c.keyLo % 2 ^ 16⟩
      (((s.lkpOf s.actPlane).bank (c.bank == 1)).at ⟨bitOf c.keyLo 16 == 1, c.keyLo % 2 ^ 16⟩)))) ∧
  (∀ (s : State) (c : LkpCmd), s.logicUp = true → s.lkpHead 2 = some c → c.table = 1 →
    Gives .read s fun t => t = State.dropBadOps 64 (s.lkpResult {
      tag := c.tag, status := 0, ovf := false, loc := c.vid
      data := vlanWords (SMap.getD ((s.lkpOf s.actPlane).bank (c.bank == 1)).vlan c.vid {}) })) ∧
  (∀ (s u : State) (c : LkpCmd) (l : Loc) (e : FwdEntry) (idle : Bool), s.logicUp = true → s.lkpHead 3 = some c → c.table ≠ 1 →
    idle = (c.bank == 1) → ((s.lkpOf s.actPlane).bank idle).find (s.seedOf idle) c.da c.vid = none →
    (idle = false → (s.lkpOf s.actPlane).pends c.da c.vid = false) → s.insertEntry s.actPlane idle c.entry = (u, .placed l e) →
    Gives .insert s fun t => t = State.dropBadOps 64 ((s.lkpBoth fun _ _ => u).lkpResult (entryResult c 0 l e))) ∧
  (∀ (s u : State) (c : LkpCmd) (l : Loc) (old new : FwdEntry) (idle : Bool), s.logicUp = true → s.lkpHead 4 = some c → c.table ≠ 1 →
    idle = (c.bank == 1) → ((s.lkpOf s.actPlane).bank idle).find (s.seedOf idle) c.da c.vid = some l →
    old = ((s.lkpOf s.actPlane).bank idle).at l → old.img = false → (c.cond = false ∨ old.gen = c.gen) →
    (u, new) = (if sameContents old c.entry then (s, { c.entry with gen := old.gen }) else s.withGen s.actPlane c.entry) →
    Gives .write s fun t => t = State.dropBadOps 64 ((s.lkpBoth fun x _ => u.setLkpAt x idle ((u.lkpOf x).setBank idle
      (((u.lkpOf x).bank idle).put l new)) [l]).lkpResult (entryResult c 0 l new))) ∧
  (∀ (s : State) (c : LkpCmd) (l : Loc) (idle : Bool), s.logicUp = true → s.lkpHead 5 = some c → c.table ≠ 1 → idle = (c.bank == 1) →
    ((s.lkpOf s.actPlane).bank idle).find (s.seedOf idle) c.da c.vid = some l → (((s.lkpOf s.actPlane).bank idle).at l).img = true →
    Gives .delete s fun t => t = State.dropBadOps 64 (s.lkpResult (entryResult c 8 l (((s.lkpOf s.actPlane).bank idle).at l)))) ∧
  (∀ (s : State) (c : LkpCmd) (l : Loc) (i : LkpImg) (e : FwdEntry) (idle : Bool), s.logicUp = true → s.lkpHead 5 = some c → c.table ≠ 1 →
    idle = (c.bank == 1) → i = s.lkpOf s.actPlane → (i.bank idle).find (s.seedOf idle) c.da c.vid = some l → e = (i.bank idle).at l →
    e.img = false → (c.cond = false ∨ e.gen = c.gen) →
    Gives .delete s fun t => t = State.dropBadOps 64 ((s.lkpBoth fun x s => (s.removeAt x idle l).preloadRun x).lkpResult
      (entryResult c 0 l { inval e with gen := i.gen })))

/-- The lookup commands that act on whole banks, and DROP_PENDING (R298, R299, R301, R303), each at the head, due and with room for its result.
FLUSH_DYNAMIC removes from the bank it names the dynamic entries that meet its mask, in both planes, and holds a result with their number.
OPEN_REBUILD holds its result, takes the idle seed from its key, shows REBUILD_OPEN and leaves in the idle bank the active bank's VLAN entries
alone, the active bank as it was. SWAP_BANKS with a rebuild open, no mirror failure, nothing pending and no preload exchanges the seeds and the
banks, the other bank's number is active, and the rebuild ends; with no rebuild open or a mirror failure it gives REFUSED. CLOSE_REBUILD ends the
rebuild and clears MIRROR_FAIL, the planes as they were. DROP_PENDING leaves no entry pending, the active bank as it was; with none pending it
gives NOT_FOUND.
LKP_LONG_CMD_DONE, LKP_RES_POP and WALKER_VISIT (R301, R304–R306, Table 8-8). The end of a long command gives its held result, after which
commands of no operation are dropped. A pop of a result shows it in the result registers, valid and no gap, and takes it from the queue, and
commands that found the result queue full wait for a later boundary; a pop of an empty queue shows no valid head. The walker, enabled and not
paused, with locations to cover, moves to the next location, counts a pass at the last, leaves its mismatch count where the entry and its shadow
agree under the mask, and counts and captures a mismatch where a static one differs. -/
def Obligations.BankCommandsResultsAndWalker : Prop :=
  (∀ (s u : State) (c : LkpCmd) (n : Nat) (idle : Bool), s.logicUp = true → s.lkpHead 6 = some c → c.table ≠ 1 →
    idle = (c.bank == 1) → n = (s.flush s.actPlane idle (c.data.getD 2 0) (bitOf (c.data.getD 1 0) 0 == 1)).2 →
    u = s.lkpBoth (fun x s => (s.flush x idle (c.data.getD 2 0) (bitOf (c.data.getD 1 0) 0 == 1)).1.preloadRun x) →
    Gives .flushDynamic s fun t => t = State.dropBadOps 64 { u with lkp := { u.lkp with
      due := 1, long := some { tag := c.tag, status := 0, ovf := bitOf n 16 == 1, loc := n % 2 ^ 16, data := [] } } }) ∧
  (∀ (s : State) (c : LkpCmd), s.logicUp = true → s.lkpHead 7 = some c → s.actPlane < 2 →
    Gives .openRebuild s fun t => t.lkp.long = some (plainResult c 0) ∧ t.rd LKP_SEED_IDLE_SEED [] = c.keyLo % 2 ^ 32 ∧
      t.rebuildOpen = true ∧ (t.lkpOf s.actPlane).idle = { vlan := (s.lkpOf s.actPlane).active.vlan } ∧
      (t.lkpOf s.actPlane).active = (s.lkpOf s.actPlane).active) ∧
  (∀ (s : State) (c : LkpCmd), s.logicUp = true → s.lkpHead 8 = some c → s.rebuildOpen = true → s.on LKP_STATUS_MIRROR_FAIL [] = false →
    (s.lkpOf s.actPlane).pend = none → s.lkp.preloading = false → s.actPlane < 2 →
    Gives .swapBanks s fun t => t.rd LKP_SEED_ACTIVE_SEED [] = s.rd LKP_SEED_IDLE_SEED [] ∧
      t.rd LKP_SEED_IDLE_SEED [] = s.rd LKP_SEED_ACTIVE_SEED [] ∧ t.rebuildOpen = false ∧
      t.rd LKP_STATUS_ACTIVE_BANK [] = 1 - s.rd LKP_STATUS_ACTIVE_BANK [] ∧
      (t.lkpOf s.actPlane).active = (s.lkpOf s.actPlane).idle ∧ (t.lkpOf s.actPlane).idle = (s.lkpOf s.actPlane).active) ∧
  (∀ (s : State) (c : LkpCmd), s.logicUp = true → s.lkpHead 8 = some c → (s.rebuildOpen = false ∨ s.on LKP_STATUS_MIRROR_FAIL [] = true) →
    Gives .swapBanks s fun t => t = State.dropBadOps 64 (s.lkpResult (plainResult c 7))) ∧
  (∀ (s : State) (c : LkpCmd), s.logicUp = true → s.lkpHead 9 = some c →
    Gives .closeRebuild s fun t => t.rebuildOpen = false ∧ t.on LKP_STATUS_MIRROR_FAIL [] = false ∧ t.planes = s.planes) ∧
  (∀ (s : State) (c : LkpCmd) (e : FwdEntry), s.logicUp = true → s.lkpHead 10 = some c → (s.lkpOf s.actPlane).pend = some e →
    s.lkp.preloading = false → s.actPlane < 2 →
    Gives .dropPending s fun t => (t.lkpOf s.actPlane).pend = none ∧ (t.lkpOf s.actPlane).active = (s.lkpOf s.actPlane).active) ∧
  (∀ (s : State) (c : LkpCmd), s.logicUp = true → s.lkpHead 10 = some c → (s.lkpOf s.actPlane).pend = none →
    Gives .dropPending s fun t => t = State.dropBadOps 64 (s.lkpResult (plainResult c 1))) ∧
  (∀ (s : State) (r : LkpRes), s.logicUp = true → s.lkp.long = some r →
    Gives .lkpLongCmdDone s fun t => t = State.dropBadOps 64 (({ s with lkp := { s.lkp with long := none } } : State).lkpResult r)) ∧
  (∀ (s : State) (r : LkpRes) (q : CQueue LkpRes), s.logicUp = true → s.lkp.results.pop = (.item r, q) → r.data.length = 4 →
    r.tag < 2 ^ LKP_RES_HEAD_TAG.width → r.status < 2 ^ LKP_RES_HEAD_STATUS.width → r.loc < 2 ^ LKP_RES_LOC_LOC.width →
    Gives .lkpResPop s fun t => t.lkp = { s.lkp with results := q, due := if s.resultRoom then s.lkp.due else 0 } ∧ t.on LKP_RES_HEAD_VALID [] = true ∧ t.on LKP_RES_HEAD_GAP [] = false ∧
      t.rd LKP_RES_HEAD_TAG [] = r.tag ∧ t.rd LKP_RES_HEAD_STATUS [] = r.status ∧ t.rd LKP_RES_LOC_LOC [] = r.loc ∧
      ∀ i, i < 4 → t.rd LKP_RES_DATA_DATA [i] = r.data.getD i 0 % 2 ^ 32) ∧
  (∀ (s : State) (q : CQueue LkpRes), s.logicUp = true → s.lkp.results.pop = (.empty, q) →
    Gives .lkpResPop s fun t => t.on LKP_RES_HEAD_VALID [] = false) ∧
  (∀ (s : State) (n p : Nat), s.logicUp = true → s.on LKP_CTRL_WALK_EN [] = true → s.on LKP_CTRL_WALK_PAUSE [] = false → s.walkCover = n →
    n ≠ 0 → p = s.lkp.walkPos % n →
    Gives .walkerVisit s fun t => t.lkp = { s.lkp with walkPos := (p + 1) % n } ∧ (p + 1 = n → Counted LKP_CNT_WALK_PASS_CNT [] s t) ∧
      (walkMasked (entWords ((s.lkpOf s.actPlane).active.at (walkLoc p))) = walkMasked (s.shadowWords p) →
        t.rd LKP_CNT_WALK_MISMATCH_CNT [] = s.rd LKP_CNT_WALK_MISMATCH_CNT []) ∧
      (walkStatic (s.shadowWords p) = true → walkMasked (entWords ((s.lkpOf s.actPlane).active.at (walkLoc p))) ≠ walkMasked (s.shadowWords p) →
        Counted LKP_CNT_WALK_MISMATCH_CNT [] s t ∧ t.on LKP_WALK_MISS_VALID [] = true))

/-- Frames and errors on a CAN bus (R319–R324, R333, R336, R338). A frame heard from another node, of a format that is admitted and with a legal
length, lands as the filters choose, by filter action 1 or 2 (`canLand`), and is counted and discarded where they reject it; one of a quay under
self-test is counted as lost. In normal mode with error signalling and no bus-off, a bus error of another node's frame, with REC at most 126, is
counted, shows its LEC, adds 1 to REC and leaves TEC and the error-active state; one of the quay's own frame, other than an ACK error, adds 8 to
TEC, up to 127, and leaves REC. A frame of a format that is disabled gives LEC 8 and raises source 14.
Bus-off recovery, CLR_LEC and a pending mode (R318, R335, Tables 9-5 and 9-6). RECOVER of a quay in bus-off starts its recovery and keeps TEC;
elsewhere it shows CMD_REJECT and changes no other field. The end of a recovery leaves the quay error-active with both counters 0 and raises source
13. CLR_LEC clears LEC and changes no other field. A pending mode takes effect once the quay neither sends nor receives: nothing is pending any
more, and source 12 is raised. -/
def Obligations.CanFramesErrorsAndModes : Prop :=
  (∀ (s u : State) (q stamp : Nat) (f g : CanFrame), s.logicUp = true → q < 32 → s.hears q = true → g = canHeard f → s.canAdmits q g = true →
    canLenLegal g = true → (s.quay q).testing = false → u = ((s.normalPolarity q).ackSeen q).recDown q →
    Gives (.canFrameReceived q f stamp) s fun t =>
      (u.canFilter q g = 1 → t = u.canLand q g false stamp) ∧ (u.canFilter q g = 2 → t = u.canLand q g true stamp) ∧
      (u.canFilter q g = 3 → t = (u.bump QYC_CNT_RX_REJECT_CNT [q]).discardLanding q)) ∧
  (∀ (s : State) (q stamp : Nat) (f g : CanFrame), s.logicUp = true → q < 32 → s.hears q = true → g = canHeard f → s.canAdmits q g = true →
    canLenLegal g = true → (s.quay q).testing = true → Gives (.canFrameReceived q f stamp) s fun t => Counted SUP_CNT_ST_LOST_CNT [] s t) ∧
  (∀ (s : State) (q lec bitpos ident stamp : Nat), s.logicUp = true → q < 32 → s.quayMode q = 3 → s.on QYC_XL_CFG_ES_DIS [q] = false →
    s.rd QYC_STATUS_FC_STATE [q] ≤ 1 → 1 ≤ lec → lec ≤ 7 → s.rd QYC_ERRCNT_TEC [q] ≤ 127 → s.rd QYC_ERRCNT_REC [q] ≤ 126 →
    Gives (.canBusError q lec false 0 bitpos ident stamp) s fun t => t.rd QYC_STATUS_LEC [q] = lec ∧ Counted QYC_CNT_BUS_ERR_CNT [q] s t ∧
      t.rd QYC_ERRCNT_REC [q] = s.rd QYC_ERRCNT_REC [q] + 1 ∧ t.rd QYC_ERRCNT_TEC [q] = s.rd QYC_ERRCNT_TEC [q] ∧
      t.rd QYC_STATUS_FC_STATE [q] = 0) ∧
  (∀ (s : State) (q lec bitpos ident stamp : Nat), s.logicUp = true → q < 32 → s.quayMode q = 3 → s.on QYC_XL_CFG_ES_DIS [q] = false →
    s.rd QYC_STATUS_FC_STATE [q] ≤ 1 → 1 ≤ lec → lec ≤ 7 → lec ≠ 3 → s.rd QYC_ERRCNT_TEC [q] + 8 ≤ 127 → s.rd QYC_ERRCNT_REC [q] ≤ 127 →
    Gives (.canBusError q lec true 0 bitpos ident stamp) s fun t => t.rd QYC_STATUS_LEC [q] = lec ∧ Counted QYC_CNT_BUS_ERR_CNT [q] s t ∧
      t.rd QYC_ERRCNT_TEC [q] = s.rd QYC_ERRCNT_TEC [q] + 8 ∧ t.rd QYC_ERRCNT_REC [q] = s.rd QYC_ERRCNT_REC [q]) ∧
  (∀ (s : State) (q : Nat), s.logicUp = true → q < 32 → s.hears q = true →
    (s.on QYC_CTRL_FD_EN [q] && s.on QYC_CTRL_XL_EN [q]) = false →
    Gives (.protocolException q) s fun t => t.rd QYC_STATUS_LEC [q] = 8 ∧ Raised (pgQ q) 14 s t) ∧
  (∀ (s : State) (q : Nat), s.logicUp = true → q < 32 → s.rd QYC_STATUS_FC_STATE [q] = 2 →
    Gives (.recover q) s fun t => t.rd QYC_STATUS_FC_STATE [q] = 3 ∧ t.rd QYC_ERRCNT_TEC [q] = s.rd QYC_ERRCNT_TEC [q] ∧ t.quays = s.quays) ∧
  (∀ (s : State) (q : Nat), s.logicUp = true → q < 32 → s.rd QYC_STATUS_FC_STATE [q] ≠ 2 →
    Gives (.recover q) s fun t => t.on QYC_STATUS_CMD_REJECT [q] = true ∧ FieldsKept [(QYC_STATUS_CMD_REJECT, [q])] s t) ∧
  (∀ (s : State) (q : Nat), s.logicUp = true → q < 32 → s.rd QYC_STATUS_FC_STATE [q] = 3 →
    Gives (.busOffRecovered q) s fun t => t.rd QYC_STATUS_FC_STATE [q] = 0 ∧ t.rd QYC_ERRCNT_TEC [q] = 0 ∧ t.rd QYC_ERRCNT_REC [q] = 0 ∧
      Raised (pgQ q) 13 s t) ∧
  (∀ (s : State) (q : Nat), s.logicUp = true → q < 32 →
    Gives (.clrLec q) s fun t => t.rd QYC_STATUS_LEC [q] = 0 ∧ FieldsKept [(QYC_STATUS_LEC, [q])] s t ∧ t.quays = s.quays) ∧
  (∀ (s : State) (q m : Nat), s.logicUp = true → q < 32 → (s.quay q).oldMode = some m → (s.quay q).tx = none → s.receiving q = false →
    Gives (.canModeApplied q) s fun t => (t.quay q).oldMode = none ∧ t.rd QYC_STATUS_MODE_PENDING [q] = 0 ∧ Raised (pgQ q) 12 s t)

/-- Transmission on a CAN bus (R326–R332, R336, R342). A quay that may start, of no gang and with its transmitter on, drops illegal frames at its
heads, then starts an attempt with the candidate it selects (`canStart`): the message buffer's frame, or the head of the queue with one attempt
more; with no candidate it only judges LONE_NODE. A successful attempt is over, clears ACK_RUN, and is counted as TX_OK; an unlocked ACTIVE message
buffer is then SENT (4) with result 1 and its DONE bit set. A failed attempt is over, and counted as lost arbitration only if that is what it was.
TX_LIFE_EXPIRED, FLUSH, SLEEP and WAKE of a CAN quay (R331, R342, R347–R349, Table 9-6). The oldest frame of an unscheduled queue past its
lifetime, with no attempt under way, leaves the queue, is counted and raises source 9. FLUSH empties its queue and counts its frames as cancelled.
SLEEP of a COMPAT quay that is awake asks for its sleep (`sleepRequest`) and its segment drains; elsewhere it is rejected, changing no other field.
WAKE of a COMPAT quay ends a drain, counted as an aborted sleep; is held for a segment past its commit point; and, with the package not in SLEEP,
makes a sleeping segment WAKING. -/
def Obligations.CanTransmission : Prop :=
  (∀ (s u : State) (q stamp : Nat) (loop : Option Nat) (c : CanCand), s.logicUp = true → q < 32 → s.canMayStart q = true →
    u = (List.range 4).foldl (fun s i => s.canFmtDrop q i (s.egress q i).length) s →
    u.rd QYC_GANG_GROUP [q] = 0 → u.on LFE_CTRL_TX_EN [q] = true → u.canSelect q = some c →
    Gives (.canTxAttemptStart q stamp false loop) s fun t =>
      t = ((u.canStart q c stamp).setFront q { (u.canStart q c stamp).front q with retest := false }).loopDelay q c.frame loop ∧
      (∀ b, c.queue = none → c.mb = some b → (t.quay q).tx = some { mb := some b, can := c.frame, sof := stamp }) ∧
      (∀ k it l, c.queue = some k → u.egress q k = it :: l → (t.quay q).tx = some {
        queue := k, item := some { it with attempts := it.attempts + 1 }, can := c.frame, sof := stamp })) ∧
  (∀ (s u : State) (q stamp : Nat) (loop : Option Nat), s.logicUp = true → q < 32 → s.canMayStart q = true →
    u = (List.range 4).foldl (fun s i => s.canFmtDrop q i (s.egress q i).length) s →
    u.rd QYC_GANG_GROUP [q] = 0 → u.canSelect q = none →
    Gives (.canTxAttemptStart q stamp false loop) s fun t => t = u.loneNode q) ∧
  (∀ (s : State) (q : Nat) (x : TxSt), s.logicUp = true → q < 32 → (s.quay q).tx = some x →
    Gives (.canTxSuccess q) s fun t => (t.quay q).tx = none ∧ t.rd QYC_STATUS_ACK_RUN [q] = 0 ∧
      ((x.mb ≠ none ∨ x.item ≠ none) → Counted QYC_CNT_TX_OK_CNT [q] s t)) ∧
  (∀ (s : State) (q b : Nat) (x : TxSt), s.logicUp = true → q < 32 → b < 32 → (s.quay q).tx = some x → x.mb = some b →
    SMap.find? (s.quay q).locks b = none → (s.mb q b).state = 2 →
    Gives (.canTxSuccess q) s fun t => t.rd QYC_MB_CTL_STATE [q, b] = 4 ∧ t.rd QYC_MB_CTL_RESULT [q, b] = 1 ∧
      bitOf (t.rd QYC_MB_DONE_DONE [q]) b = 1) ∧
  (∀ (s : State) (q : Nat) (x : TxSt) (lost : Bool), s.logicUp = true → q < 32 → (s.quay q).tx = some x →
    Gives (.canTxAttemptFail q lost) s fun t => (t.quay q).tx = none ∧
      (if lost then Counted QYC_CNT_ARB_LOST_CNT [q] s t else t.rd QYC_CNT_ARB_LOST_CNT [q] = s.rd QYC_CNT_ARB_LOST_CNT [q])) ∧
  (∀ (s : State) (q k : Nat) (it : QItem) (l : List QItem), s.logicUp = true → q < 32 → k < 4 → bitOf (s.gate q).schedMask k = 0 →
    (s.quay q).tx = none → s.egress q k = it :: l → s.lifeOver q it = true →
    Gives (.txLifeExpired q k) s fun t => t.egress q k = l ∧ Counted QYC_CNT_LIFE_EXPIRED_CNT [q] s t ∧ Raised (pgQ q) 9 s t) ∧
  (∀ (s : State) (q k : Nat), s.logicUp = true → q < 32 → k < 4 →
    Gives (.qycFlush q k) s fun t => t.egress q k = [] ∧ t.rd QYC_CNT_CANCELLED_CNT [q] =
      min (s.rd QYC_CNT_CANCELLED_CNT [q] + (s.egress q k).length) (2 ^ QYC_CNT_CANCELLED_CNT.width - 1)) ∧
  (∀ (s : State) (q : Nat), s.logicUp = true → q < 32 → s.on QYC_G1608_COMPAT [q] = true → s.segment q = 0 →
    Gives (.qycSleep q) s fun t => t = s.sleepRequest q ∧ t.segment q = 1) ∧
  (∀ (s : State) (q : Nat), s.logicUp = true → q < 32 → (s.on QYC_G1608_COMPAT [q] = false ∨ s.segment q ≠ 0) →
    Gives (.qycSleep q) s fun t => t.on QYC_STATUS_CMD_REJECT [q] = true ∧ FieldsKept [(QYC_STATUS_CMD_REJECT, [q])] s t) ∧
  (∀ (s : State) (q : Nat) (m : Master), s.logicUp = true → q < 32 → s.on QYC_G1608_COMPAT [q] = true → s.segment q = 1 →
    Gives (.qycWake q m) s fun t => t.segment q = 0 ∧ Counted PWK_CNT_SLEEP_ABORT_CNT [] s t) ∧
  (∀ (s : State) (q : Nat) (m : Master), s.logicUp = true → q < 32 → s.on QYC_G1608_COMPAT [q] = true → s.segment q = 2 →
    Gives (.qycWake q m) s fun t => t.segment q = 2 ∧ (t.seg q).held = true) ∧
  (∀ (s : State) (q : Nat) (m : Master), s.logicUp = true → q < 32 → s.on QYC_G1608_COMPAT [q] = true → s.segment q = 3 → s.mode ≠ .sleep →
    Gives (.qycWake q m) s fun t => t.segment q = 4 ∧ (t.seg q).held = false ∧ t.rd QYC_STATUS_SLEEPING [q] = 0)

/-- Ethernet frames (R265, R358, R361–R366, R368–R372, R376, R378, R379, R383, R390). With its line heard and its link on, a frame of a quay under
self-test is counted as lost and discarded. On a line that is not serial, a frame that the checks pass, that is not the time engine's, that its
banks have landed and whose stored words are good is counted as RX_OK with its bytes; one that a check stops and that is not delivered is counted
in that check's row, discarded and logged. A quay that may send starts the head of the queue it selects (`ethSelect`), with its bytes as edited,
under cut-through where it is not complete. The end of a good frame ends the transmission, counts TX_OK and puts it on the line with a good FCS;
that of a bad one counts TX_ABORT and puts it there with a bad one. A frame sent past MAX_LEN under cut-through is cut there and counted twice, as
too long and as aborted. A collision is counted, and below the attempt limit, with the gate not closed on a scheduled queue and no EMIT overdue,
the frame goes back to the head of its queue; a late one is counted as such and raises source 6. FLUSH empties a queue and counts its frames. -/
def Obligations.EthernetFrames : Prop :=
  (∀ (s u : State) (q corr uncorr stamp : Nat) (bytes : List Nat) (fcs sym : Bool), s.logicUp = true → isEthQ q = true → s.hears q = true →
    s.on QYE_STATUS_LINK [q] = true → u = s.fecCount q corr uncorr → (u.quay q).testing = true →
    Gives (.ethFrameReceived q bytes fcs sym corr uncorr stamp) s fun t => t = (u.bump SUP_CNT_ST_LOST_CNT []).discardLanding q) ∧
  (∀ (s u w v x : State) (q f corr uncorr stamp : Nat) (bytes : List Nat), s.logicUp = true → isEthQ q = true → s.hears q = true →
    s.on QYE_STATUS_LINK [q] = true → isSerialQ q = false → ((s.fecCount q corr uncorr).quay q).testing = false →
    ((s.fecCount q corr uncorr).ethCheck q bytes true false).row = 6 → u = (s.fecCount q corr uncorr).ethRxStamp q stamp bytes →
    u.toTimeEngine q bytes = false → u.takeLanded q bytes stamp = (w, some f) → w.rxMeets q 2 = (v, none) → v.ethLand q f false = (x, true) →
    Gives (.ethFrameReceived q bytes true false corr uncorr stamp) s fun t =>
      t = (((x.bump QYE_CNT_RX_OK_CNT [q]).bump64 QYE_CNT_RX_OCTETS_HI_CNT QYE_CNT_RX_OCTETS_LO_CNT [q] bytes.length).segmentUsed q).drainWake q
        (if isT1sQ q ∧ s.rd LFE_WAKE_MODE [q] = 1 then some 5 else none) none) ∧
  (∀ (s u : State) (q corr uncorr stamp : Nat) (bytes : List Nat) (fcs sym : Bool), s.logicUp = true → isEthQ q = true → s.hears q = true →
    s.on QYE_STATUS_LINK [q] = true → isSerialQ q = false → u = s.fecCount q corr uncorr → (u.quay q).testing = false →
    (u.ethCheck q bytes fcs sym).row ≠ 6 → (u.ethCheck q bytes fcs sym).keep = false →
    Gives (.ethFrameReceived q bytes fcs sym corr uncorr stamp) s fun t =>
      t = ((u.bump (ethRowCounter (u.ethCheck q bytes fcs sym).row) [q]).discardLanding q).logRxDrop q (u.ethCheck q bytes fcs sym).row
        bytes.length 3 (u.ethCheck q bytes fcs sym).bad) ∧
  (∀ (s u : State) (q i : Nat) (it : QItem) (l : List QItem), s.logicUp = true → isEthQ q = true → s.on LFE_CTRL_TX_EN [q] = true →
    s.quayAwake q = true → s.on QYE_STATUS_LINK [q] = true → s.quayMode q = 3 → s.segment q = 0 → (s.quay q).tx = none →
    s.safeLine q = false → s.on LFE_STATUS_MEAS_BUSY [q] = false →
    u = (List.range 8).foldl (fun s i => s.longDrop q i (s.egress q i).length) (s.advanceCredit q) → u.ethSelect q = some i →
    u.egress q i = it :: l →
    Gives (.ethTxStart q) s fun t => t = u.ethStart q i ∧ ∃ x, (t.quay q).tx = some x ∧ x.queue = i ∧ x.item = some it ∧
      x.bytes = (u.ethEdit q it.r (u.frameBytes it.frame)).1 ∧ x.cut = !u.frameComplete it.frame) ∧
  (∀ (s : State) (q stamp : Nat) (x : TxSt) (it : QItem) (f : FrameObj), s.logicUp = true → isEthQ q = true → (s.quay q).tx = some x →
    x.item = some it → s.frame? it.frame = some f → f.bad = false → f.zeroed = false → (s.quay q).txFault = false →
    s.passSite (pgQ q) 1 = (s, false) →
    Gives (.ethTxEnd q stamp) s fun t => t = s.ethEnd q stamp ∧ (t.quay q).tx = none ∧ Counted QYE_CNT_TX_OK_CNT [q] s t ∧
      OutEvent.line q (s.ethSent q x it) true ∈ t.outs) ∧
  (∀ (s : State) (q stamp : Nat) (x : TxSt) (it : QItem) (f : FrameObj), s.logicUp = true → isEthQ q = true → (s.quay q).tx = some x →
    x.item = some it → s.frame? it.frame = some f → f.bad = true →
    Gives (.ethTxEnd q stamp) s fun t => (t.quay q).tx = none ∧ Counted QYE_CNT_TX_ABORT_CNT [q] s t ∧
      OutEvent.line q (s.ethSent q x it) false ∈ t.outs) ∧
  (∀ (s : State) (q : Nat) (x : TxSt) (it : QItem), s.logicUp = true → isEthQ q = true → (s.quay q).tx = some x → x.cut = true →
    x.item = some it → s.rd QYE_FRAME_MAX_LEN [q] < (s.ethEdit q it.r (s.frameBytes it.frame)).1.length →
    Gives (.ethCutTooLong q) s fun t => (t.quay q).tx = none ∧ Counted QYE_CNT_TX_LONG_CNT [q] s t ∧ Counted QYE_CNT_TX_ABORT_CNT [q] s t ∧
      OutEvent.line q ((s.ethEdit q it.r (s.frameBytes it.frame)).1.take (s.rd QYE_FRAME_MAX_LEN [q] + 1)) false ∈ t.outs) ∧
  (∀ (s u : State) (q : Nat) (x : TxSt) (it : QItem), s.logicUp = true → s.csma q = true → (s.quay q).tx = some x → x.item = some it →
    u = ((s.advanceCredit q).setQuay q { s.quay q with tx := none }).bump QYE_CNT_COLLISION_CNT [q] →
    it.attempts + 1 < u.rd QYE_CSMA_ATTEMPT_LIMIT [q] → ¬ (bitOf (u.gate q).schedMask x.queue = 1 ∧ bitOf (u.gate q).openMask x.queue = 0) →
    (it.emit.map fun e => decide (e < u.stroke)) ≠ some true →
    Gives (.collision q false) s fun t => (t.quay q).tx = none ∧ Counted QYE_CNT_COLLISION_CNT [q] s t ∧
      t = (u.putEgress q x.queue ({ it with attempts := it.attempts + 1 } :: u.egress q x.queue)).release it.frame (.reader q)) ∧
  (∀ (s : State) (q : Nat) (x : TxSt) (it : QItem), s.logicUp = true → s.csma q = true → (s.quay q).tx = some x → x.item = some it →
    Gives (.collision q true) s fun t => (t.quay q).tx = none ∧ Counted QYE_CNT_COLLISION_CNT [q] s t ∧ Counted QYE_CNT_LATE_COLL_CNT [q] s t ∧
      Raised (pgQ q) 6 s t) ∧
  (∀ (s : State) (q i : Nat), s.logicUp = true → isEthQ q = true → i < 8 →
    Gives (.qyeFlush q i) s fun t => t.egress q i = [] ∧
      t.rd QYE_CNT_FLUSHED_CNT [q] = min (s.rd QYE_CNT_FLUSHED_CNT [q] + (s.egress q i).length) (2 ^ QYE_CNT_FLUSHED_CNT.width - 1))

/-- Link and mode of an Ethernet quay, with the logic die up (R357, R360, R368, R377, R402, Table 10-6). A reported link-down leaves LINK 0, and on
100BASE-T1 with AUTO_TDR, its front end enabled and no measurement, a fall of LINK starts a TDR. A link-up reported on an enabled quay that is
awake and, with a USXGMII speed, was told that speed's code, leaves LINK 1; on 100BASE-T1 it shows the reversal and the signal quality reported. A
USXGMII code word shows its code, and SPEED_MISMATCH where the link is up with another code than SPEED's and only there. A waiting MODE takes
effect once the quay neither sends nor receives, and source 10 is raised. With PLCA enabled, PLCA_ACTIVE takes the status reported, and condition
11 is its absence. -/
def Obligations.EthernetLinkAndMode : Prop :=
  (∀ (s : State) (q : Nat), s.logicUp = true → isEthQ q = true →
    Gives (.ethLinkDown q) s fun t => t.on QYE_STATUS_LINK [q] = false ∧ (t.quay q).phyUp = false ∧
      (isT1Q q = true → s.on QYE_STATUS_LINK [q] = true → s.on LFE_CTRL_AUTO_TDR [q] = true → s.on PG_STATE_ENABLED [pgLFE q] = true →
        (s.front q).meas = none → (t.front q).meas = some (2, s.now) ∧ t.on LFE_STATUS_MEAS_BUSY [q] = true)) ∧
  (∀ (s : State) (q sqi : Nat) (rev : Bool), s.logicUp = true → isEthQ q = true → s.on PG_STATE_ENABLED [pgQ q] = true →
    (usxCode (s.rd QYE_CTRL_SPEED [q])).all (fun c => s.rd QYE_STATUS_USX_SPEED [q] == c) = true → s.quayAwake q = true →
    Gives (.ethLinkUp q rev sqi) s fun t => t.on QYE_STATUS_LINK [q] = true ∧ (t.quay q).phyUp = true ∧
      (isT1Q q = true → t.on LFE_STATUS_POL_INV [q] = rev ∧ t.rd LFE_STATUS_SQI [q] = sqi % 2 ^ LFE_STATUS_SQI.width)) ∧
  (∀ (s : State) (q code : Nat) (up : Bool), s.logicUp = true → isSerialQ q = true → code ≤ 4 →
    (usxCode (s.rd QYE_CTRL_SPEED [q])).isSome = true →
    Gives (.usxCodeWord q code up) s fun t => t.rd QYE_STATUS_USX_SPEED [q] = code ∧ (t.quay q).phyUp = up ∧
      (t.on QYE_STATUS_SPEED_MISMATCH [q] = true ↔ up = true ∧ usxCode (s.rd QYE_CTRL_SPEED [q]) ≠ some code)) ∧
  (∀ (s : State) (q m : Nat), s.logicUp = true → isEthQ q = true → (s.quay q).oldMode = some m → (s.quay q).tx = none → s.receiving q = false →
    Gives (.ethModeApplied q) s fun t => (t.quay q).oldMode = none ∧ t.rd QYE_STATUS_MODE_PENDING [q] = 0 ∧ Raised (pgQ q) 10 s t) ∧
  (∀ (s : State) (q : Nat) (a : Bool), s.logicUp = true → isT1sQ q = true → s.on QYE_PLCA_EN [q] = true →
    Gives (.plcaStatusChange q a) s fun t => t.on QYE_STATUS_PLCA_ACTIVE [q] = a ∧
      bitOf (t.rd IRQ_RAW_BLOCK [pgQ q]) 11 = (if a then 0 else 1))

/-- Line conditions and CAN polarity of an enabled front end (R393–R397, Table 11-2). Of the reported conditions, those that the medium monitors
are set in FAULT_SET, and latched where they were 0; of those reported absent, those whose absence the monitor reports are cleared; every other bit
stays. The first two reversed start-of-frames in succession are only counted (the quay's die being off); the third asks for an exchange of roles
where SWAPPED or SWAP_AUTO is 1, and else sets condition 0x04. The exchange turns SWAPPED, is counted, raises source 2, and sets condition 1 to
SWAPPED, a first exchange clearing 0x04; SWAP_RESET asks for the straight roles, which return with condition 1 cleared, and is rejected on other
media. PAIR_SHORT_RETEST with condition 6 set enables one more try. -/
def Obligations.LineConditionsAndPolarity : Prop :=
  (∀ (s : State) (q : Nat) (l : List Nat), s.mode ≠ .off → q < 64 → (q < 56 ∨ s.logicUp = true) → s.on PG_STATE_ENABLED [pgLFE q] = true →
    Gives (.lineConditionSet q l) s fun t => ∀ c, c < 32 →
      bitOf (t.rd LFE_FAULT_SET_SET [q]) c = (if c ∈ l ∧ c ∈ monitoredCodes q then 1 else bitOf (s.rd LFE_FAULT_SET_SET [q]) c) ∧
      (c ∈ l → c ∈ monitoredCodes q → bitOf (s.rd LFE_FAULT_SET_SET [q]) c = 0 → bitOf (t.rd LFE_FAULT_LATCH_LATCH [q]) c = 1)) ∧
  (∀ (s : State) (q : Nat) (l : List Nat), s.mode ≠ .off → q < 64 → (q < 56 ∨ s.logicUp = true) → s.on PG_STATE_ENABLED [pgLFE q] = true →
    Gives (.lineConditionClear q l) s fun t => ∀ c, c < 32 →
      bitOf (t.rd LFE_FAULT_SET_SET [q]) c = (if c ∈ l ∧ c ∈ clearedCodes q then 0 else bitOf (s.rd LFE_FAULT_SET_SET [q]) c)) ∧
  (∀ (s : State) (q : Nat), s.mode ≠ .off → q < 32 → s.on PG_STATE_ENABLED [pgLFE q] = true → s.logicUp = false → (s.front q).reversals < 2 →
    Gives (.canReversalFrame q) s fun t => t = s.setFront q { s.front q with reversals := (s.front q).reversals + 1 }) ∧
  (∀ (s : State) (q : Nat), s.mode ≠ .off → q < 32 → s.on PG_STATE_ENABLED [pgLFE q] = true → (s.front q).reversals = 2 →
    Gives (.canReversalFrame q) s fun t => (t.front q).reversals = 0 ∧
      (if s.on LFE_STATUS_SWAPPED [q] = true ∨ s.on LFE_CTRL_SWAP_AUTO [q] = true then (t.front q).exchange = some true
        else bitOf (t.rd LFE_FAULT_SET_SET [q]) 4 = 1)) ∧
  (∀ (s : State) (q : Nat), s.mode ≠ .off → q < 32 → s.on PG_STATE_ENABLED [pgLFE q] = true → (s.front q).exchange = some true →
    Gives (.roleExchange q) s fun t => t.on LFE_STATUS_SWAPPED [q] = !s.on LFE_STATUS_SWAPPED [q] ∧ (t.front q).exchange = none ∧
      (t.front q).reversals = 0 ∧ Counted LFE_CNT_SWAP_CNT [q] s t ∧ Raised (pgLFE q) 2 s t ∧
      bitOf (t.rd LFE_FAULT_SET_SET [q]) 1 = (if s.on LFE_STATUS_SWAPPED [q] then 0 else 1) ∧
      (s.on LFE_STATUS_SWAPPED [q] = false → bitOf (t.rd LFE_FAULT_SET_SET [q]) 4 = 0)) ∧
  (∀ (s : State) (q : Nat), s.mode ≠ .off → q < 32 → s.on PG_STATE_ENABLED [pgLFE q] = true → (s.front q).exchange = some false →
    Gives (.roleExchange q) s fun t => t.on LFE_STATUS_SWAPPED [q] = false ∧ (t.front q).exchange = none ∧
      bitOf (t.rd LFE_FAULT_SET_SET [q]) 1 = 0) ∧
  (∀ (s : State) (q : Nat), s.mode ≠ .off → q < 32 → s.on PG_STATE_ENABLED [pgLFE q] = true →
    Gives (.swapReset q) s fun t => t = s.setFront q { s.front q with exchange := some false }) ∧
  (∀ (s : State) (q : Nat), s.mode ≠ .off → 32 ≤ q → q < 64 → (q < 56 ∨ s.logicUp = true) → s.on PG_STATE_ENABLED [pgLFE q] = true →
    Gives (.swapReset q) s fun t => t.on LFE_STATUS_CMD_REJECT [q] = true ∧ FieldsKept [(LFE_STATUS_CMD_REJECT, [q])] s t) ∧
  (∀ (s : State) (q : Nat), s.mode ≠ .off → q < 32 → s.on PG_STATE_ENABLED [pgLFE q] = true → s.hasFault q 6 = true →
    Gives (.pairShortRetest q) s fun t => t = s.setFront q { s.front q with retest := true })

/-- Line measurements of an enabled front end (R399–R404, Tables 11-3 and 11-4). MEASURE_TERM on CAN starts and shows MEAS_BUSY; on the Ethernet
pairs, or while a measurement runs or waits, it is rejected, changing no other field. Its end shows the class of its resistance and the resistance,
at most 0xFFF, and sets condition 2 above 4000 quarter-ohms and clears it else; after 50 ms it ends in class 6. TDR on 100BASE-T1 with the quay off
or LINK 0 starts; on 10BASE-T1S it starts with the quay off or a window long enough, and waits else; on CAN, on a serial line or while one runs it
is rejected. Its end shows its kind and, unless aborted, its distance, at most 600, and sets or clears the conditions 0x12 and 0x13 by kind and
sets 0x14 with kind 3. MEAS_CANCEL ends the one that runs in class 6 or kind 5, and is rejected on a serial line. -/
def Obligations.LineMeasurements : Prop :=
  (∀ (s : State) (q : Nat), s.mode ≠ .off → q < 32 → s.on PG_STATE_ENABLED [pgLFE q] = true → s.measuring q = false →
    Gives (.measureTerm q) s fun t => (t.front q).meas = some (1, s.now) ∧ t.on LFE_STATUS_MEAS_BUSY [q] = true ∧
      FieldsKept [(LFE_STATUS_MEAS_BUSY, [q])] s t) ∧
  (∀ (s : State) (q : Nat), s.mode ≠ .off → q < 56 → s.on PG_STATE_ENABLED [pgLFE q] = true → (32 ≤ q ∨ s.measuring q = true) →
    Gives (.measureTerm q) s fun t => t.on LFE_STATUS_CMD_REJECT [q] = true ∧ FieldsKept [(LFE_STATUS_CMD_REJECT, [q])] s t) ∧
  (∀ (s : State) (q ohms : Nat) (since : Nat), s.mode ≠ .off → q < 56 → s.on PG_STATE_ENABLED [pgLFE q] = true → (s.front q).meas = some (1, since) →
    Gives (.termMeasureDone q ohms) s fun t => t.on LFE_TERM_VALID [q] = true ∧ t.rd LFE_TERM_CLASS [q] = termClass ohms ∧
      t.rd LFE_TERM_OHMS [q] = min ohms 0xFFF ∧ (t.front q).meas = none ∧ t.on LFE_STATUS_MEAS_BUSY [q] = false ∧
      bitOf (t.rd LFE_FAULT_SET_SET [q]) 2 = (if 4000 < ohms then 1 else 0)) ∧
  (∀ (s : State) (q since : Nat), s.mode ≠ .off → q < 56 → s.on PG_STATE_ENABLED [pgLFE q] = true → (s.front q).meas = some (1, since) →
    since + 50 * msNs ≤ s.now →
    Gives (.termMeasureTimeout q) s fun t => t.rd LFE_TERM_CLASS [q] = 6 ∧ t.rd LFE_TERM_OHMS [q] = s.rd LFE_TERM_OHMS [q] ∧
      (t.front q).meas = none) ∧
  (∀ (s : State) (q : Nat), s.mode ≠ .off → 48 ≤ q → q < 56 → isT1sQ q = false → s.on PG_STATE_ENABLED [pgLFE q] = true → s.measuring q = false →
    (s.quayMode q = 0 ∨ s.on QYE_STATUS_LINK [q] = false) →
    Gives (.tdr q) s fun t => (t.front q).meas = some (2, s.now) ∧ t.on LFE_STATUS_MEAS_BUSY [q] = true) ∧
  (∀ (s : State) (q : Nat), s.mode ≠ .off → isT1sQ q = true → s.on PG_STATE_ENABLED [pgLFE q] = true → s.measuring q = false →
    Gives (.tdr q) s fun t => (t.front q).meas = some (2, s.now) ∧
      (if s.quayMode q = 0 ∨ s.tdrWindow q = true then t.on LFE_STATUS_MEAS_BUSY [q] = true else t.on LFE_STATUS_MEAS_WAIT [q] = true)) ∧
  (∀ (s : State) (q : Nat), s.mode ≠ .off → q < 64 → (q < 56 ∨ s.logicUp = true) → s.on PG_STATE_ENABLED [pgLFE q] = true →
    (q < 32 ∨ 56 ≤ q ∨ s.measuring q = true) →
    Gives (.tdr q) s fun t => t.on LFE_STATUS_CMD_REJECT [q] = true ∧ FieldsKept [(LFE_STATUS_CMD_REJECT, [q])] s t) ∧
  (∀ (s : State) (q kind echo since : Nat), s.mode ≠ .off → q < 56 → s.on PG_STATE_ENABLED [pgLFE q] = true →
    s.on LFE_STATUS_MEAS_BUSY [q] = true → (s.front q).meas = some (2, since) → kind ≤ 5 →
    Gives (.tdrDone q kind echo) s fun t => t.on LFE_TDR_RES_VALID [q] = true ∧ t.rd LFE_TDR_RES_KIND [q] = kind ∧
      t.rd LFE_TDR_RES_DIST [q] = (if kind = 5 then s.rd LFE_TDR_RES_DIST [q] else min (s.tdrDist q echo) 600) ∧ (t.front q).meas = none ∧
      bitOf (t.rd LFE_FAULT_SET_SET [q]) 0x12 = (if kind = 1 then 1 else 0) ∧ bitOf (t.rd LFE_FAULT_SET_SET [q]) 0x13 = (if kind = 2 then 1 else 0) ∧
      (kind = 3 → bitOf (t.rd LFE_FAULT_SET_SET [q]) 0x14 = 1)) ∧
  (∀ (s : State) (q kind since : Nat), s.mode ≠ .off → q < 56 → s.on PG_STATE_ENABLED [pgLFE q] = true → (s.front q).meas = some (kind, since) →
    Gives (.measCancel q) s fun t => (t.front q).meas = none ∧
      (if kind = 1 then t.rd LFE_TERM_CLASS [q] = 6 else t.rd LFE_TDR_RES_KIND [q] = 5)) ∧
  (∀ (s : State) (q : Nat), s.mode ≠ .off → 56 ≤ q → q < 64 → s.logicUp = true → s.on PG_STATE_ENABLED [pgLFE q] = true →
    Gives (.measCancel q) s fun t => t.on LFE_STATUS_CMD_REJECT [q] = true ∧ FieldsKept [(LFE_STATUS_CMD_REJECT, [q])] s t)

/-- Wake detection at the front ends (R348, R408, R409, R411–R414, R608). An armed detector in wake mode 1 of a CAN line that is not COMPAT
recognises its pattern as kind 0; an abandoned pattern changes nothing. In wake mode 2 an FD frame with FD_PASSIVE changes nothing; a matching
classical frame is kind 1 and takes one from the frame error count; an erroneous one adds one, and is kind 2 when it makes 32. A COMPAT quay
recognises a dominant phase of at least its filter time as kind 3, or with WAKE_FRAME a matching frame as kind 4, and else nothing changes. Energy
above squelch for its filter time on 10BASE-T1S in mode 1 is kind 5; a TC10 wake on 100BASE-T1 in mode 1, by an armed detector or while the segment
drains, is kind 6. A recognised wake shows its kind in WAKE_STAT (`frontWake`), and those of kinds 0, 1, 5 and 6 are shown here to wait for quiet;
a quiet wire ends that wait and changes nothing else. -/
def Obligations.FrontEndsDetectWakes : Prop :=
  (∀ (s : State) (q : Nat), s.mode ≠ .off → q < 32 → s.detects q = true → s.rd LFE_WAKE_MODE [q] = 1 → s.on QYC_G1608_COMPAT [q] = false →
    Gives (.canWakePattern q) s fun t => t = s.frontWake q 0 none ∧ t.on LFE_WAKE_STAT_VALID [q] = true ∧ t.rd LFE_WAKE_STAT_KIND [q] = 0 ∧
      (t.front q).quietWait = true) ∧
  (∀ (s : State) (q : Nat), Gives (.wakePatternAbandon q) s fun t => t = s) ∧
  (∀ (s : State) (q : Nat) (f : CanFrame) (err : Bool), s.mode ≠ .off → q < 32 → s.detects q = true → s.rd LFE_WAKE_MODE [q] = 2 →
    s.on QYC_G1608_COMPAT [q] = false → f.format = fmtFD → s.on LFE_WAKE_FD_PASSIVE [q] = true →
    Gives (.selectiveWakeFrame q f err) s fun t => t = s) ∧
  (∀ (s : State) (q : Nat) (f : CanFrame), s.mode ≠ .off → q < 32 → s.detects q = true → s.rd LFE_WAKE_MODE [q] = 2 →
    s.on QYC_G1608_COMPAT [q] = false → f.format = fmtCC → s.wufMatches q f = true →
    Gives (.selectiveWakeFrame q f false) s fun t => t.on LFE_WAKE_STAT_VALID [q] = true ∧ t.rd LFE_WAKE_STAT_KIND [q] = 1 ∧
      (t.front q).ferr = (s.front q).ferr - 1 ∧ (t.front q).quietWait = true) ∧
  (∀ (s : State) (q : Nat) (f : CanFrame), s.mode ≠ .off → q < 32 → s.detects q = true → s.rd LFE_WAKE_MODE [q] = 2 →
    s.on QYC_G1608_COMPAT [q] = false → f.format = fmtCC → 31 ≤ (s.front q).ferr →
    Gives (.selectiveWakeFrame q f true) s fun t => t.rd LFE_WAKE_STAT_KIND [q] = 2 ∧ (t.front q).ferr = 32) ∧
  (∀ (s : State) (q : Nat) (f : CanFrame), s.mode ≠ .off → q < 32 → s.detects q = true → s.rd LFE_WAKE_MODE [q] = 2 →
    s.on QYC_G1608_COMPAT [q] = false → f.format = fmtCC → (s.front q).ferr < 31 →
    Gives (.selectiveWakeFrame q f true) s fun t => t = s.setFront q { s.front q with ferr := (s.front q).ferr + 1 }) ∧
  (∀ (s : State) (q us : Nat), s.mode ≠ .off → q < 32 → s.detects q = true → s.on QYC_G1608_COMPAT [q] = true →
    s.on QYC_G1608_WAKE_FRAME [q] = false →
    Gives (.g1608Wake q us none) s fun t =>
      t = if s.rd QYC_G1608_WAKE_FILT [q] ≤ us then s.frontWake q 3 none else s) ∧
  (∀ (s : State) (q us : Nat) (f : CanFrame), s.mode ≠ .off → q < 32 → s.detects q = true → s.on QYC_G1608_COMPAT [q] = true →
    s.on QYC_G1608_WAKE_FRAME [q] = true →
    Gives (.g1608Wake q us (some f)) s fun t => t = if s.g1608Matches q f then s.frontWake q 4 (some f.ident) else s) ∧
  (∀ (s : State) (q us : Nat), s.mode ≠ .off → isT1sQ q = true → s.detects q = true → s.rd LFE_WAKE_MODE [q] = 1 →
    s.rd LFE_WAKE_FILT_ENERGY_US [q] ≤ us →
    Gives (.t1sEnergyWake q us) s fun t => t.on LFE_WAKE_STAT_VALID [q] = true ∧ t.rd LFE_WAKE_STAT_KIND [q] = 5 ∧ (t.front q).quietWait = true) ∧
  (∀ (s : State) (q : Nat), s.mode ≠ .off → isT1Q q = true → s.on PG_STATE_ENABLED [pgLFE q] = true → s.rd LFE_WAKE_MODE [q] = 1 →
    (s.detects q = true ∨ s.segment q = 1) →
    Gives (.tc10Wake q) s fun t => t.on LFE_WAKE_STAT_VALID [q] = true ∧ t.rd LFE_WAKE_STAT_KIND [q] = 6 ∧ (t.front q).quietWait = true) ∧
  (∀ (s : State) (q : Nat), s.mode ≠ .off → q < 64 → (q < 56 ∨ s.logicUp = true) → s.on PG_STATE_ENABLED [pgLFE q] = true →
    Gives (.detectorRearm q) s fun t => t = s.setFront q { s.front q with quietWait := false })

/-- Setting and steering harbour time (R424–R427, R430, R431, Table 12-2). With time not set, no step pending and nanoseconds below 10⁹, STEP
leaves a step by its Δ pending that is due now, and STEP_PPS one for its target second; with time set, both and CANCEL_STEP are rejected and
counted; with a step pending or more nanoseconds the first two are rejected; CANCEL_STEP leaves none pending. The step, at the boundary that serves
it, moves the counter by its Δ within the range of time, is pending no more, sets SET, is counted and raises source 0. EPOCH_RESTART with time set
waits for its boundary, and is rejected else; there SET returns to 0, EPOCH counts and the servo is FREE, the counter as it was. SNAPSHOT stores
the present time. HOLD is rejected in FREE and else enters HOLDOVER with FORCED_HOLD 1, and RATE applied; RELEASE clears FORCED_HOLD. HCK_RATE is
written and applied with SRC 0 and rejected else. The commands that change only the fields named here change no other: the steps' requests and
rejections, SNAPSHOT, RELEASE and HCK_RATE. -/
def Obligations.HarbourTimeIsSetAndSteered : Prop :=
  (∀ (s : State), s.logicUp = true → s.on HCK_STATUS_SET [] = false → s.hck.step = none → s.rd HCK_STEP_NS_NS [] < 1000000000 →
    Gives .step s fun t => t.hck.step = some { kind := 0, delta := s.stepDelta, due := some s.now } ∧ t.on HCK_STATUS_STEP_PENDING [] = true ∧
      FieldsKept [(HCK_STATUS_STEP_PENDING, [])] s t) ∧
  (∀ (s : State), s.logicUp = true → s.on HCK_STATUS_SET [] = false → s.hck.step = none → s.rd HCK_STEP_NS_NS [] < 1000000000 →
    Gives .stepPps s fun t => t.hck.step = some {
        kind := 1, target := s.rd HCK_STEP_HI_S [] * 2 ^ 32 + s.rd HCK_STEP_S_LO_S [] } ∧
      t.on HCK_STATUS_STEP_PENDING [] = true ∧ FieldsKept [(HCK_STATUS_STEP_PENDING, [])] s t) ∧
  (∀ (s : State) (c : Instr), s.logicUp = true → s.on HCK_STATUS_SET [] = true → c ∈ [Instr.step, .stepPps, .cancelStep] →
    Gives c s fun t => t.on HCK_STATUS_CMD_REJECT [] = true ∧ Counted HCK_CNT_STEP_REFUSED_CNT [] s t ∧ t.hck = s.hck ∧
      FieldsKept [(HCK_STATUS_CMD_REJECT, []), (HCK_CNT_STEP_REFUSED_CNT, [])] s t) ∧
  (∀ (s : State) (c : Instr), s.logicUp = true → s.on HCK_STATUS_SET [] = false → (s.hck.step ≠ none ∨ 1000000000 ≤ s.rd HCK_STEP_NS_NS []) →
    c ∈ [Instr.step, .stepPps] →
    Gives c s fun t => t.on HCK_STATUS_CMD_REJECT [] = true ∧ t.hck = s.hck ∧ FieldsKept [(HCK_STATUS_CMD_REJECT, [])] s t) ∧
  (∀ (s : State), s.logicUp = true → s.on HCK_STATUS_SET [] = false →
    Gives .cancelStep s fun t => t.hck = { s.hck with step := none } ∧ t.on HCK_STATUS_STEP_PENDING [] = false ∧
      FieldsKept [(HCK_STATUS_STEP_PENDING, [])] s t) ∧
  (∀ (s : State) (r : StepReq), s.logicUp = true → s.hck.step = some r → s.bndDue Boundary.step = true → s.servedAt r.due = true →
    s.on HCK_STATUS_SET [] = false → 0 ≤ (s.count : Int) + r.delta * 2 ^ 24 → (s.count : Int) + r.delta * 2 ^ 24 < timeEnd →
    Gives .stepApply s fun t => (t.count : Int) = s.count + r.delta * 2 ^ 24 ∧ t.hck.step = none ∧ t.on HCK_STATUS_STEP_PENDING [] = false ∧
      t.on HCK_STATUS_SET [] = true ∧ Counted HCK_CNT_STEP_CNT [] s t ∧ Raised pgHCK 0 s t) ∧
  (∀ (s : State), s.logicUp = true → s.on HCK_STATUS_SET [] = true → s.hck.epochAt = none →
    Gives .epochRestart s fun t => t = s.setHck { s.hck with epochAt := some s.now }) ∧
  (∀ (s : State), s.logicUp = true → s.on HCK_STATUS_SET [] = false →
    Gives .epochRestart s fun t => t.on HCK_STATUS_CMD_REJECT [] = true ∧ t.hck = s.hck ∧ FieldsKept [(HCK_STATUS_CMD_REJECT, [])] s t) ∧
  (∀ (s : State), s.logicUp = true → s.bndDue Boundary.epoch = true → s.servedAt s.hck.epochAt = true →
    Gives .epochApply s fun t => t.on HCK_STATUS_SET [] = false ∧ t.rd HCK_EPOCH_CNT [] = (s.rd HCK_EPOCH_CNT [] + 1) % 2 ^ HCK_EPOCH_CNT.width ∧
      t.servo = svFree ∧ t.hck.epochAt = none ∧ t.count = s.count) ∧
  (∀ (s : State), s.logicUp = true →
    Gives .hckSnapshot s fun t => t.rd HCK_SNAP_NS_NS [] = stampNs s.stamp % 2 ^ HCK_SNAP_NS_NS.width ∧
      t.rd HCK_SNAP_S_LO_S [] = stampS s.stamp % 2 ^ 32 ∧ t.rd HCK_SNAP_HI_FR [] = stampFr s.stamp % 2 ^ HCK_SNAP_HI_FR.width ∧
      t.rd HCK_SNAP_HI_S [] = stampS s.stamp / 2 ^ 32 % 2 ^ HCK_SNAP_HI_S.width ∧
      FieldsKept [(HCK_SNAP_NS_NS, []), (HCK_SNAP_S_LO_S, []), (HCK_SNAP_HI_FR, []), (HCK_SNAP_HI_S, [])] s t) ∧
  (∀ (s : State), s.logicUp = true → s.servo ≠ svFree →
    Gives .hold s fun t => t.on HCK_STATUS_FORCED_HOLD [] = true ∧ t.servo = svHoldover ∧
      t.rd HCK_RATE_APPLIED_RATE [] = s.rd HCK_RATE_RATE [] % 2 ^ HCK_RATE_APPLIED_RATE.width) ∧
  (∀ (s : State), s.logicUp = true → s.servo = svFree →
    Gives .hold s fun t => t.on HCK_STATUS_CMD_REJECT [] = true ∧ FieldsKept [(HCK_STATUS_CMD_REJECT, [])] s t) ∧
  (∀ (s : State), s.logicUp = true →
    Gives .release s fun t => t.on HCK_STATUS_FORCED_HOLD [] = false ∧ FieldsKept [(HCK_STATUS_FORCED_HOLD, [])] s t) ∧
  (∀ (s : State) (v : Word), s.logicUp = true → s.rd HCK_CTRL_SRC [] = 0 →
    Gives (.hckRateWrite v) s fun t => t.rd HCK_RATE_RATE [] = v.toNat ∧ t.rd HCK_RATE_APPLIED_RATE [] = v.toNat ∧
      FieldsKept [(HCK_RATE_RATE, []), (HCK_RATE_APPLIED_RATE, [])] s t) ∧
  (∀ (s : State) (v : Word), s.logicUp = true → s.rd HCK_CTRL_SRC [] ≠ 0 →
    Gives (.hckRateWrite v) s fun t => t.on HCK_STATUS_CMD_REJECT [] = true ∧ FieldsKept [(HCK_STATUS_CMD_REJECT, [])] s t)

/-- Stamps, captures and PPS_OUT, with the logic die up (R421, R434–R436, R439, R452–R454, R457). An event's two stamps are sampled and
cross-checked, and the one of the path in use, corrected, is kept as the quay's last of its direction; the registers and error lines are those of
the cross-check. At its boundary a quay whose wanted stamp path differs takes it, is counted, and source 8 is raised. PCS_FAULT is cleared and no
other field changes. A wanted edge held for its filter time, in an open window where one is asked for, enters its queue with its corrected stamp, a
gap being counted and raising source 13; one held for less changes nothing. PPS_OUT, allowed and low, rises at the second it has passed within the
last tick and falls after its width, and no field changes. A pop of an empty egress stamp queue shows an entry not valid; otherwise it takes the
oldest entry and shows its index, queue, stamp and reference; a pop of a synchronisation queue that is the engine's, or of a quay beyond 63, shows
none. A pop of the capture queue shows the oldest entry, or none. -/
def Obligations.StampsCapturesAndPulses : Prop :=
  (∀ (s u : State) (q a b : Nat) (rx : Bool), s.logicUp = true → q < 64 → u = s.crossCheck q (sampled (2 * ps125) a) (sampled (2 * ps125) b) →
    Gives (.eventStamp q rx a b) s fun t =>
      SMap.find? t.hck.stamps (2 * q + if rx then 1 else 0) = some (if rx
        then s.rxCorrect q (sampled (2 * ps125) (if s.on HCK_QSTAT_FB_ACTIVE [q] then b else a))
        else s.txCorrect q (sampled (2 * ps125) (if s.on HCK_QSTAT_FB_ACTIVE [q] then b else a))) ∧
      t.regs = u.regs ∧ t.errLines = u.errLines) ∧
  (∀ (s : State) (q : Nat), s.logicUp = true → q < 64 → s.bnd.none = false → s.bnd.arrived = s.now →
    s.wantsFb q ≠ s.on HCK_QSTAT_FB_ACTIVE [q] →
    Gives (.stampPathSwitch q) s fun t => t.on HCK_QSTAT_FB_ACTIVE [q] = s.wantsFb q ∧ Counted HCK_CNT_FB_SWITCH_CNT [] s t ∧
      Raised pgHCK 8 s t) ∧
  (∀ (s : State) (q : Nat), s.logicUp = true → q < 64 →
    Gives (.pcsFaultClear q) s fun t => t.on HCK_QSTAT_PCS_FAULT [q] = false ∧ FieldsKept [(HCK_QSTAT_PCS_FAULT, [q])] s t) ∧
  (∀ (s : State) (c time hold : Nat) (rise : Bool), s.logicUp = true → c < 16 → s.on HCK_CAP_CFG_EN [c] = true →
    bitOf (s.rd HCK_CAP_CFG_EDGE [c]) (if rise then 0 else 1) = 1 → 2 ≤ hold → s.rd HCK_CAP_CFG_FILT_NS [c] ≤ hold →
    (s.on HCK_CAP_CFG_WIN_ONLY [c] = true → s.inCapture c time = true) →
    Gives (.captureEdge c rise time hold) s fun t => t.capQ c = ((s.capQ c).push 32 {
        stamp := stampAdd (sampled ps125 time) (s.ofs125 HCK_CAP_CFG_OFS [c]), rise := rise } s.stamp).1 ∧
      (((s.capQ c).push 32 {
        stamp := stampAdd (sampled ps125 time) (s.ofs125 HCK_CAP_CFG_OFS [c]), rise := rise } s.stamp).2.2 = true →
        Counted HCK_CNT_CAP_GAP_CNT [] s t ∧ Raised pgHCK 13 s t)) ∧
  (∀ (s : State) (c time hold : Nat) (rise : Bool), s.logicUp = true → c < 16 → hold < max 2 (s.rd HCK_CAP_CFG_FILT_NS [c]) →
    Gives (.captureEdge c rise time hold) s fun t => t = s) ∧
  (∀ (s : State) (n : Nat), s.logicUp = true → s.ppsAllowed = true → s.hck.ppsFrom = none →
    n = (((s.count : Int) - ((s.count : Int) + s.ppsOfs) % (nsPerS * nsUnit : Nat))).toNat → ((s.count : Int) + s.ppsOfs) % (nsPerS * nsUnit : Nat) < s.tickInc →
    Gives .ppsOutPulse s fun t => t.hck.ppsFrom = some n ∧ t.outs = s.outs ++ [.pps 1 n] ∧ FieldsKept [] s t) ∧
  (∀ (s : State) (n : Nat), s.logicUp = true → s.hck.ppsFrom = some n →
    n + s.rd HCK_PPS_OUT_WIDTH_MS [] * 1000000 * nsUnit ≤ s.count →
    Gives .ppsOutFall s fun t => t.hck.ppsFrom = none ∧
      t.outs = s.outs ++ [.pps 0 (n + s.rd HCK_PPS_OUT_WIDTH_MS [] * 1000000 * nsUnit)] ∧ FieldsKept [] s t) ∧
  (∀ (s : State) (q : Nat), s.logicUp = true → q < 64 → (s.quay q).txStamps = {} →
    Gives (.hckTsqPop q false) s fun t => t.rd HCK_TSQ_RES [0] < 2 ^ 31 ∧ (t.quay q).txStamps = {}) ∧
  (∀ (s : State) (q : Nat) (e : StampEntry) (l : List StampEntry), s.logicUp = true → q < 64 → (s.quay q).txStamps.items = e :: l →
    Gives (.hckTsqPop q false) s fun t => (t.quay q).txStamps = { (s.quay q).txStamps with items := l } ∧
      2 ^ 31 ≤ t.rd HCK_TSQ_RES [0] ∧ t.rd HCK_TSQ_RES [0] / 2 ^ 20 % 32 = e.index % 32 ∧ t.rd HCK_TSQ_RES [0] / 2 ^ 17 % 8 = e.queue % 8 ∧
      t.rd HCK_TSQ_RES [1] = stampNs e.stamp % 2 ^ 32 ∧ t.rd HCK_TSQ_RES [2] = stampS e.stamp % 2 ^ 32 ∧ t.rd HCK_TSQ_RES [4] = e.ref % 2 ^ 32) ∧
  (∀ (s : State) (q : Nat), s.logicUp = true → q < 128 → (64 ≤ q ∨ s.engineQueue q = true) →
    Gives (.hckTsqPop q true) s fun t => t.rd HCK_TSQ_RES [0] = s.rd HCK_TSQ_RES [0] % 2 ^ 31 ∧ t.quays = s.quays) ∧
  (∀ (s : State) (c : Nat) (e : CapEntry) (l : List CapEntry), s.logicUp = true → c < 16 → (s.capQ c).items = e :: l →
    Gives (.hckCapPop c) s fun t => t.capQ c = { s.capQ c with items := l } ∧ t.rd HCK_CAP_RES1_NS [] = stampNs e.stamp % 2 ^ HCK_CAP_RES1_NS.width ∧
      t.rd HCK_CAP_RES2_S [] = stampS e.stamp % 2 ^ HCK_CAP_RES2_S.width ∧ t.rd HCK_CAP_RES0_FR [] = stampFr e.stamp % 2 ^ HCK_CAP_RES0_FR.width ∧
      t.rd HCK_CAP_RES0_FLAGS [] = 32 + (if e.miss then 2 else 0) + (if e.rise then 1 else 0)) ∧
  (∀ (s : State) (c : Nat), s.logicUp = true → c < 16 → s.capQ c = {} →
    Gives (.hckCapPop c) s fun t => t.capQ c = {} ∧ t.rd HCK_CAP_RES0_FLAGS [] = s.rd HCK_CAP_RES0_FLAGS [] % 32)

/-- The servo and its sources, with the logic die up (R425, R428, R431, R455, Tables 12-3 and 12-15). A Sync read well on the working domain's
capable slave port with SRC 1 and time not set shows its offset in whole ns, keeps the time and interval of the measurement and the grandmaster it
shows, the servo staying FREE, and, with AUTO_STEP 1 and armed and no step pending, leaves the automatic step pending; one whose message is not
read well is lost. With time set and no hold, from FREE with the same grandmaster, it makes the servo LOCKING. A PPS_IN edge of the chosen
direction stores its stamp, raises source 14, with SRC 2 is a measurement of one second, and makes a waiting STEP_PPS due with its Δ. Three
intervals without a measurement are counted and hold over at RATE. A grandmaster shown on another domain changes only that domain's time base; one
that differs on the working domain, not in FREE, degrades the servo, is counted, ends the forced hold and raises source 5. -/
def Obligations.ServoAndItsSources : Prop :=
  (∀ (s : State) (rx origin tbi port : Nat) (corr li csro e : Int), s.logicUp = true → s.rd HCK_CTRL_SRC [] = 1 →
    s.isSlave (s.rd HCK_CTRL_WORK_DOM []) = true → s.capable (s.slave (s.rd HCK_CTRL_WORK_DOM [])) = true → s.messageRead = (s, true) →
    s.on HCK_STATUS_SET [] = false → e = s.syncOffset (s.slave (s.rd HCK_CTRL_WORK_DOM [])) rx origin corr csro →
    Gives (.syncMeasurement rx origin corr li csro tbi port) s fun t =>
      t.rd HCK_OFFSET_NS [] = unsignedOf 32 (satSigned 32 (Int.tdiv e 65536)) % 2 ^ 32 ∧ t.hck.lastMeas = some (s.now, logSeconds li) ∧
      t.servo = svFree ∧ t.hck.gmTbi = some tbi ∧ t.hck.gmPort = some port ∧
      (s.on HCK_CTRL_AUTO_STEP [] = true → s.hck.autoArmed = true → s.hck.step = none →
        t.hck.step = some { kind := 2, delta := -e, due := some s.now } ∧ t.on HCK_STATUS_STEP_PENDING [] = true ∧ t.hck.autoArmed = false)) ∧
  (∀ (s u : State) (rx origin tbi port : Nat) (corr li csro : Int), s.logicUp = true → s.rd HCK_CTRL_SRC [] = 1 →
    s.isSlave (s.rd HCK_CTRL_WORK_DOM []) = true → s.capable (s.slave (s.rd HCK_CTRL_WORK_DOM [])) = true → s.messageRead = (u, false) →
    Gives (.syncMeasurement rx origin corr li csro tbi port) s fun t => t = u) ∧
  (∀ (s : State) (rx origin tbi port : Nat) (corr li csro : Int), s.logicUp = true → s.rd HCK_CTRL_SRC [] = 1 →
    s.isSlave (s.rd HCK_CTRL_WORK_DOM []) = true → s.capable (s.slave (s.rd HCK_CTRL_WORK_DOM [])) = true → s.messageRead = (s, true) →
    s.on HCK_STATUS_SET [] = true → s.on HCK_STATUS_FORCED_HOLD [] = false → s.hck.gmTbi = some tbi → s.hck.gmPort = some port → s.servo = svFree →
    Gives (.syncMeasurement rx origin corr li csro tbi port) s fun t => t.servo = svLocking) ∧
  (∀ (s : State) (fall : Bool) (time n : Nat), s.logicUp = true → s.on HCK_PPS_IN_EN [] = true → s.on HCK_PPS_IN_FALL [] = fall →
    n = stampAdd (sampled ps125 time) (s.ofs125 HCK_PPS_OFS_IN_OFS []) →
    Gives (.ppsInEdge fall time) s fun t =>
      t.rd HCK_PPS_IN_NS_NS [] = stampNs n % 2 ^ HCK_PPS_IN_NS_NS.width ∧ t.rd HCK_PPS_IN_S_S [] = stampS n % 2 ^ HCK_PPS_IN_S_S.width ∧
      Raised pgHCK 14 s t ∧ (s.rd HCK_CTRL_SRC [] = 2 → t.hck.lastMeas = some (s.now, nsPerS * 65536))) ∧
  (∀ (s : State) (fall : Bool) (time : Nat) (r : StepReq), s.logicUp = true → s.on HCK_PPS_IN_EN [] = true → s.on HCK_PPS_IN_FALL [] = fall →
    s.hck.step = some r → r.kind = 1 → r.due = none →
    Gives (.ppsInEdge fall time) s fun t => t.hck.step = some { r with
      delta := ((r.target * nsPerS * 65536 : Nat) : Int) - stampAdd (sampled ps125 time) (s.ofs125 HCK_PPS_OFS_IN_OFS [])
      due := some s.now }) ∧
  (∀ (s : State) (a n : Nat), s.logicUp = true → (s.servo = svLocking ∨ s.servo = svLocked ∨ s.servo = svDegraded) →
    s.hck.lastMeas = some (a, n) → a * 65536 + 3 * n ≤ s.now * 65536 →
    Gives .syncLoss s fun t => Counted HCK_CNT_SYNC_LOSS_CNT [] s t ∧ t.servo = svHoldover ∧
      t.rd HCK_RATE_APPLIED_RATE [] = s.rd HCK_RATE_RATE [] % 2 ^ 32) ∧
  (∀ (s : State) (d : Nat) (tbi port : Nat), s.logicUp = true → d < 4 → s.isSlave d = true → s.messageRead = (s, true) →
    (s.rd HCK_CTRL_SRC [] ≠ 1 ∨ s.rd HCK_CTRL_WORK_DOM [] ≠ d) →
    Gives (.gmChange d (some tbi) (some port) none) s fun t => t.rd HCK_DOM_STAT_GM_TBI [d] = tbi % 2 ^ HCK_DOM_STAT_GM_TBI.width ∧
      FieldsKept [(HCK_DOM_STAT_GM_TBI, [d])] s t) ∧
  (∀ (s : State) (tbi old : Nat) (port ident : Option Nat), s.logicUp = true → s.rd HCK_CTRL_WORK_DOM [] < 4 →
    s.isSlave (s.rd HCK_CTRL_WORK_DOM []) = true → s.messageRead = (s, true) → s.rd HCK_CTRL_SRC [] = 1 → s.hck.gmTbi = some old → old ≠ tbi →
    s.servo ≠ svFree →
    Gives (.gmChange (s.rd HCK_CTRL_WORK_DOM []) (some tbi) port ident) s fun t => t.servo = svDegraded ∧ Counted HCK_CNT_GM_CHANGE_CNT [] s t ∧
      Raised pgHCK 5 s t ∧ t.on HCK_STATUS_FORCED_HOLD [] = false ∧ t.hck.gmTbi = some tbi)

/-- 802.1AS and CAN time (R439, R442, R444–R446, R448–R451). A Pdelay exchange starts on an enabled port and sends its request, or, within its
interval, changes nothing; a request read well is answered with its two stamps; an exchange that ends with its stamps, read well, gives the link
delay and asCapable by the threshold, and one that fails is counted and takes asCapable at its limit. A Sync read well on a capable slave port
updates its domain's offset, interval, time base and status, and as many Syncs are counted sent as the domain has masters; so a grandmaster does
once at its interval. A domain silent for three intervals is LOST and source 6 is raised. A message that no port takes is counted. A CAN time entry
whose berth is free writes its SYNC (`cantWrite`) and takes its sequence number, or waits for a boundary where no cell is free; its FUP changes
nothing with no stamp waiting, is skipped and counted where its berth is not free, and is written with the oldest stamp otherwise. The formulas of
the link delay and of the offset are the model's reading (log entry 20). -/
def Obligations.TimeMessages : Prop :=
  (∀ (s : State) (q : Nat), s.logicUp = true → (isT1Q q || isSerialQ q) = true → s.on HCK_PORT_CFG_AS_EN [q] = true →
    SMap.find? s.hck.pdelayAt q = none →
    Gives (.pdelayInitiate q) s fun t => SMap.find? t.hck.pdelayAt q = some s.now ∧ q ∈ t.hck.pdelay ∧
      t.outs = s.outs ++ [.timeMessage q 0 []] ∧ FieldsKept [] s t) ∧
  (∀ (s : State) (q n : Nat), s.logicUp = true → (isT1Q q || isSerialQ q) = true → s.on HCK_PORT_CFG_AS_EN [q] = true →
    SMap.find? s.hck.pdelayAt q = some n → s.now * 65536 < n * 65536 + logSeconds (signedOf 4 (s.rd HCK_PORT_CFG_PDELAY_LOG [q])) →
    Gives (.pdelayInitiate q) s fun t => t = s) ∧
  (∀ (s : State) (q a b : Nat), s.logicUp = true → (isT1Q q || isSerialQ q) = true → s.on HCK_PORT_CFG_AS_EN [q] = true → s.messageRead = (s, true) →
    Gives (.pdelayReqReceived q a b) s fun t => t.outs = s.outs ++ [.timeMessage q 1 [(a : Int), b]] ∧ FieldsKept [] s t) ∧
  (∀ (s : State) (q a b c d : Nat), s.logicUp = true → (isT1Q q || isSerialQ q) = true → s.on HCK_PORT_CFG_AS_EN [q] = true → q ∈ s.hck.pdelay →
    s.messageRead = (s, true) →
    Gives (.pdelayExchangeEnd q (some (a, b, c, d))) s fun t => q ∉ t.hck.pdelay ∧ SMap.find? t.hck.pdelayLast q = some (c, d) ∧
      SMap.find? t.hck.lost q = none ∧ (∃ delay : Int,
        delay = ((((d : Int) - a) * (2 ^ 40 + t.rate HCK_PORT_NRR_RATE [q]) / 2 ^ 40) - ((c : Int) - b)) / 2 ∧
        t.rd HCK_PORT_MLD_DELAY [q] = unsignedOf 32 (delay / 4096) % 2 ^ 32 ∧
        t.capable q = decide (delay ≤ s.rd HCK_PORT_CFG_THRESH_NS [q] * 65536))) ∧
  (∀ (s : State) (q : Nat), s.logicUp = true → (isT1Q q || isSerialQ q) = true → s.on HCK_PORT_CFG_AS_EN [q] = true → q ∈ s.hck.pdelay →
    Gives (.pdelayExchangeEnd q none) s fun t => q ∉ t.hck.pdelay ∧ Counted HCK_CNT_PDELAY_LOST_CNT [] s t ∧
      SMap.find? t.hck.lost q = some (SMap.getD s.hck.lost q 0 + 1) ∧
      (s.rd HCK_PORT_CFG_ALLOWED_LOST [q] ≤ SMap.getD s.hck.lost q 0 + 1 → t.capable q = false)) ∧
  (∀ (s : State) (d rx origin tbi : Nat) (corr li csro : Int) (sent : List (Nat × Nat)), s.logicUp = true → d < 4 → s.isSlave d = true →
    s.capable (s.slave d) = true → s.messageRead = (s, true) →
    Gives (.syncRelay d rx origin corr li csro tbi sent) s fun t => Counted HCK_CNT_SYNC_RX_CNT [] s t ∧ (t.dom d).lastRx = some rx ∧
      (t.dom d).ofs = -(s.syncOffset (s.slave d) rx origin corr csro) ∧ (t.dom d).seenAt = s.now ∧ (t.dom d).interval = logSeconds li ∧
      t.on HCK_DOM_STAT_VALID [d] = true ∧ t.on HCK_DOM_STAT_LOST [d] = false ∧
      t.rd HCK_DOM_STAT_GM_TBI [d] = tbi % 2 ^ HCK_DOM_STAT_GM_TBI.width ∧
      t.rd HCK_CNT_SYNC_TX_CNT [] = min (s.rd HCK_CNT_SYNC_TX_CNT [] + (s.masters d).length) (2 ^ HCK_CNT_SYNC_TX_CNT.width - 1)) ∧
  (∀ (s : State) (d : Nat) (sent : List (Nat × Nat)), s.logicUp = true → d < 4 → s.on HCK_DOM_CFG_EN [d] = true → s.on HCK_DOM_CFG_GM [d] = true →
    s.on HCK_STATUS_SET [] = true → s.count % s.syncPeriod d < s.tickInc → (s.dom d).sent ≠ some (s.count / s.syncPeriod d) →
    Gives (.gmSyncSend d sent) s fun t => (t.dom d).sent = some (s.count / s.syncPeriod d) ∧
      t.rd HCK_CNT_SYNC_TX_CNT [] = min (s.rd HCK_CNT_SYNC_TX_CNT [] + (s.masters d).length) (2 ^ HCK_CNT_SYNC_TX_CNT.width - 1)) ∧
  (∀ (s : State) (d : Nat), s.logicUp = true → d < 4 → s.isSlave d = true → s.on HCK_DOM_STAT_LOST [d] = false → (s.dom d).interval ≠ 0 →
    (s.dom d).seenAt * 65536 + 3 * (s.dom d).interval ≤ s.now * 65536 →
    Gives (.domainLost d) s fun t => t.on HCK_DOM_STAT_LOST [d] = true ∧ t.on HCK_DOM_STAT_VALID [d] = false ∧ Raised pgHCK 6 s t) ∧
  (∀ (s : State) (q : Nat), s.logicUp = true → isEthQ q = true → s.on HCK_PORT_CFG_AS_EN [q] = true →
    Gives (.asMessageIgnored q) s fun t => Counted HCK_CNT_AS_IGNORED_CNT [] s t ∧ FieldsKept [(HCK_CNT_AS_IGNORED_CNT, [])] s t) ∧
  (∀ (s : State) (e n sec : Nat), s.logicUp = true → e < 16 → s.cantRuns e = true → s.berthQ (s.cantBerths e).1 = [] →
    (s.cant e).retryFrom ≠ some s.bnd.arrived → n = (s.rd HCK_CANT_STAT_SEQ [e] + 1) % 16 → sec = stampS (s.timebase e s.stamp) →
    s.cantWrite e (s.cantBerths e).1 ([0x20, s.rd HCK_CANT_CFG2_DOMAIN [e] * 16 + n, 0, s.cantStatus e] ++ beBytes 4 sec) = none →
    Gives (.cantSyncWrite e) s fun t => t = s.setCant e { s.cant e with retryFrom := some s.bnd.arrived }) ∧
  (∀ (s u : State) (e n sec : Nat), s.logicUp = true → e < 16 → s.cantRuns e = true → s.berthQ (s.cantBerths e).1 = [] →
    (s.cant e).retryFrom ≠ some s.bnd.arrived → n = (s.rd HCK_CANT_STAT_SEQ [e] + 1) % 16 → sec = stampS (s.timebase e s.stamp) →
    s.cantWrite e (s.cantBerths e).1 ([0x20, s.rd HCK_CANT_CFG2_DOMAIN [e] * 16 + n, 0, s.cantStatus e] ++ beBytes 4 sec) = some u →
    Gives (.cantSyncWrite e) s fun t => t = (u.wr HCK_CANT_STAT_SEQ [e] n).setCant e { sec := sec, seq := n, waits := true }) ∧
  (∀ (s : State) (e : Nat), s.logicUp = true → e < 16 → s.on HCK_CANT_CFG_EN [e] = true →
    (s.quay (s.rd HCK_CANT_CFG2_QUAY [e])).syncStamps = {} → Gives (.cantFupWrite e) s fun t => t = s) ∧
  (∀ (s : State) (e : Nat) (x : StampEntry) (l : List StampEntry), s.logicUp = true → e < 16 → s.cantRuns e = true → (s.cant e).waits = true →
    (s.quay (s.rd HCK_CANT_CFG2_QUAY [e])).syncStamps.items = x :: l → (s.berth (s.cantBerths e).1).idLo % 2 ^ 29 = x.ref →
    s.berthQ (s.cantBerths e).2 ≠ [] →
    Gives (.cantFupWrite e) s fun t => (t.cant e).waits = false ∧ Counted HCK_CNT_CANT_SKIP_CNT [] s t ∧ Counted HCK_CNT_CANT_SYNC_CNT [] s t ∧
      Raised pgHCK 15 s t) ∧
  (∀ (s w : State) (e : Nat) (x : StampEntry) (l : List StampEntry), s.logicUp = true → e < 16 → s.cantRuns e = true → (s.cant e).waits = true →
    (s.quay (s.rd HCK_CANT_CFG2_QUAY [e])).syncStamps.items = x :: l → (s.berth (s.cantBerths e).1).idLo % 2 ^ 29 = x.ref →
    s.berthQ (s.cantBerths e).2 = [] →
    s.cantWrite e (s.cantBerths e).2 ([0x28, s.rd HCK_CANT_CFG2_DOMAIN [e] * 16 + (s.cant e).seq,
      (stampS (s.timebase e x.stamp) + 256 - (s.cant e).sec % 256) % 256, s.cantStatus e] ++ beBytes 4 (stampNs (s.timebase e x.stamp))) = some w →
    Gives (.cantFupWrite e) s fun t => (t.cant e).waits = false ∧ Counted HCK_CNT_CANT_SYNC_CNT [] s t ∧
      (t.quay (s.rd HCK_CANT_CFG2_QUAY [e])).syncStamps = { (s.quay (s.rd HCK_CANT_CFG2_QUAY [e])).syncStamps with items := l })

/-- The log recorder; in every part the block's logic is up, and "LOG enabled" is PG_STATE.ENABLED of page LOG (R468, R469, R473, R475–R477,
R480–R483). LOG_RECORD_REPORT takes the next ready report from the lines (LOG enabled: after its sleep and wake times are brought up to date) and
turns it into a record; with LOG off a report other than a log frame is dropped. LOG_RECORD_OUTPUT with LOG enabled, no seal due and a record at
the head: a record too long for a frame leaves the buffer, LOG_CNT_TOO_LONG and LOG_CNT_FOLDED count one, interrupt 5 rises; where the output takes
the record SEQ becomes SEQ + 1 modulo 65,536, LOG_CNT_RECORDS counts one, and the buffer is the rest while SEAL_EN = 0; where it does not take it
only the views change, not the buffer or SEQ. LOG_DATA_IRQ with at least RECS fresh records clears the fresh count and its time, closes the
transfer unit and raises interrupt 0; with none fresh, or fewer than RECS and no start time, nothing changes. LOG_FRAME_SEND of a frame whose first
record is FLUSH_US old empties it, counts LOG_CNT_OUT_FRAMES and appends one item of this time to the output quay's queue. With LOG enabled:
SUMMARY_WRITE below LOW, and LOG_FLUSH, write the summaries of the ports in summary mode; SEAL_NOW asks for and closes a seal that has records;
RESEAL with SEAL_EN = 1, a usable key of use 7 and a sound core clears SEAL_STOPPED, starts a new seal and loads its key, and else changes nothing.
SEAL_CLOSE of a due seal with its key in place: where the output takes the seal record, the next seal keeps the key and chains from its tag, SEQ
advances and LOG_CNT_SEAL counts; else nothing changes. SEAL_STOP with a cause ends the seal, sets SEAL_STOPPED and bit 4 of the raw interrupts.
LOG_RING_RP_WRITE sets RP to the value modulo 2^32, the recorder otherwise as it was. -/
def Obligations.LogRecorder : Prop :=
  (∀ (s u : State) (n : Nat) (e : LogEvent), s.logicUp = true → u = (if s.on PG_STATE_ENABLED [pgLOG] then s.logSleepWake else s) →
    u.nextReport u.logLines = some n → u.logLines[n]? = some e →
    Gives .logRecordReport s fun t => t = ({ u with logLines := u.logLines.eraseIdx n } : State).takeReport e false) ∧
  (∀ (s : State) (n : Nat) (f : LogEvent), s.logicUp = true → s.on PG_STATE_ENABLED [pgLOG] = false → s.nextReport s.logLines = some n →
    s.logLines[n]? = some f → (∀ x, f ≠ .frame x) →
    Gives .logRecordReport s fun t => t = { s with logLines := s.logLines.eraseIdx n }) ∧
  (∀ (s : State) (r : LogRec) (l : List LogRec), s.logicUp = true → s.on PG_STATE_ENABLED [pgLOG] = true → s.sealDue = false →
    s.lgr.buf = r :: l → s.tooLongRec r = true →
    Gives .logRecordOutput s fun t => t.lgr.buf = l ∧ Counted LOG_CNT_TOO_LONG_CNT [] s t ∧ Counted LOG_CNT_FOLDED_CNT [] s t ∧ Raised pgLOG 5 s t) ∧
  (∀ (s : State) (r : LogRec) (l : List LogRec), s.logicUp = true → s.on PG_STATE_ENABLED [pgLOG] = true → s.sealDue = false →
    s.lgr.buf = r :: l → s.tooLongRec r = false → s.outTakes r = true →
    Gives .logRecordOutput s fun t => t.rd LOG_SEQ_SEQ [] = (s.rd LOG_SEQ_SEQ [] + 1) % 65536 ∧ Counted LOG_CNT_RECORDS_CNT [] s t ∧
      (s.on LOG_CTRL_SEAL_EN [] = false → t.lgr.buf = l)) ∧
  (∀ (s : State) (r : LogRec) (l : List LogRec), s.logicUp = true → s.on PG_STATE_ENABLED [pgLOG] = true → s.sealDue = false →
    s.lgr.buf = r :: l → s.tooLongRec r = false → s.outTakes r = false →
    Gives .logRecordOutput s fun t => t = s.viewLog ∧ t.lgr = s.lgr ∧ t.rd LOG_SEQ_SEQ [] = s.rd LOG_SEQ_SEQ []) ∧
  (∀ (s : State), s.logicUp = true → s.lgr.fresh ≠ 0 → s.rd LOG_IRQ_COAL_RECS [] ≤ s.lgr.fresh →
    Gives .logDataIrq s fun t => t.lgr = { s.lgr with fresh := 0, freshAt := none, unitOpen := false } ∧ Raised pgLOG 0 s t) ∧
  (∀ (s : State), s.logicUp = true → (s.lgr.fresh = 0 ∨ s.lgr.freshAt = none ∧ s.lgr.fresh < s.rd LOG_IRQ_COAL_RECS []) →
    Gives .logDataIrq s fun t => t = s) ∧
  (∀ (s : State) (n : Nat), s.logicUp = true → s.lgr.frame ≠ [] → s.lgr.frameAt = some n → n + 1000 * s.rd LOG_OUT_FLUSH_US_US [] ≤ s.now →
    Gives .logFrameSend s fun t => t.lgr.frame = [] ∧ t.lgr.frameAt = none ∧ Counted LOG_CNT_OUT_FRAMES_CNT [] s t ∧
      ∃ it, t.egress (s.rd LOG_OUT_Q_QUAY []) (s.rd LOG_OUT_Q_QUEUE []) =
        s.egress (s.rd LOG_OUT_Q_QUAY []) (s.rd LOG_OUT_Q_QUEUE []) ++ [it] ∧ it.since = s.now) ∧
  (∀ (s : State), s.logicUp = true → s.on PG_STATE_ENABLED [pgLOG] = true → s.lgr.sums ≠ [] → s.logLevel < s.rd LOG_WM_LOW_KIB [] * 1024 →
    Gives .summaryWrite s fun t => t = s.summaries) ∧
  (∀ (s : State), s.logicUp = true → s.on PG_STATE_ENABLED [pgLOG] = true →
    Gives .logFlush s fun t => t = if s.lgr.sums = [] then s else s.summaries) ∧
  (∀ (s : State), s.logicUp = true → s.on PG_STATE_ENABLED [pgLOG] = true →
    Gives .sealNow s fun t => t = if s.sealOn = true ∧ s.lgr.sealing.recs ≠ 0
      then (s.setSeal { s.lgr.sealing with asked := true }).closeSeal else s) ∧
  (∀ (s : State) (k : Nat), s.logicUp = true → s.on PG_STATE_ENABLED [pgLOG] = true → k = s.rd LOG_SEAL_KEY_SLOT [] →
    Gives .reseal s fun t => t = if s.on LOG_CTRL_SEAL_EN [] = true ∧ s.usable k = true ∧ (s.keySlot k).use = 7 ∧ s.lgr.sealBad = false
      then (((s.wr LOG_STATUS_SEAL_STOPPED [] 0).setSeal {}).sealKey).viewLog else s) ∧
  (∀ (s : State), s.logicUp = true → s.sealDue = true → s.sealCause = none → s.outTakes s.sealRecord = true →
    Gives .sealClose s fun t => t.lgr.sealing = { key := s.lgr.sealing.key, chain := s.sealRecord.body.drop 24 } ∧
      t.rd LOG_SEQ_SEQ [] = (s.rd LOG_SEQ_SEQ [] + 1) % 65536 ∧ Counted LOG_CNT_SEAL_CNT [] s t) ∧
  (∀ (s : State), s.logicUp = true → s.sealDue = true → s.sealCause = none → s.outTakes s.sealRecord = false →
    Gives .sealClose s fun t => t = s) ∧
  (∀ (s : State) (c : Nat), s.logicUp = true → s.sealOn = true → s.sealCause = some c →
    Gives .sealStop s fun t => t.lgr.sealing = {} ∧ t.on LOG_STATUS_SEAL_STOPPED [] = true ∧ bitOf (t.rd IRQ_RAW_BLOCK [pgLOG]) 4 = 1) ∧
  (∀ (s : State) (rp : Nat), s.logicUp = true →
    Gives (.logRingRpWrite rp) s fun t => t.rd LOG_RING_RP_RP [] = rp % 2 ^ 32 ∧ t.lgr = s.lgr)

/-- Cipher traffic jobs; in every part the block's logic is up and the lane is below 4 (R491–R495, R501, R502, R506, R512, R518, R519).
IQ3_JOB_ENQUEUE takes the oldest record bound for IQ3: where its word is sound it enters the job queue, or, where that refuses it, JOB_DROP counts
it; with the word bad JOBWORD_DROP counts, interrupt 7 rises and the mark is cleared. CIPHER_JOB_START first lets finished jobs proceed. With no
lane up the oldest traffic job is discarded late (CPH_CNT_LATE, interrupt 2). An idle lane that picks a traffic job, no idle lower lane picking it
too: where its time with a key load still fits its release slot and a key is given, the job runs with that key, its start and its key register set;
where its time without a load does not fit, it is discarded late. A lane that picks a host job starts it; a bad argument takes it from the queue,
counts it and pushes status 6. PROVISIONAL_CONTINUATION of a running verification, cut through, with more than 256 bytes, no earlier or finished
job of its berth and its key standing: the first 256 bytes land in a cell of writer 67, cut, the continuation's descriptor is pushed and the lane's
job keeps its frame; with no cut-through or an earlier job waiting nothing changes. CIPHER_JOB_FINISH of a complete, good source in time, no
comparison failure, its key standing: the job is counted and its output queued: a protection's where it gives bytes; a verification's opened bytes,
or zeros with TAG_FAIL counted and interrupt 0. COMPARE_FAIL ends a job, counts it and the failure, raises the lane's interrupt 1, and takes the
lane out at the second failure. CIPHER_RELEASE_SLOT discards a job late whose slot has come. -/
def Obligations.CipherTrafficJobs : Prop :=
  (∀ (s : State) (it : QItem) (l : List QItem) (j : CphJob), s.logicUp = true → s.inner 3 = it :: l → s.cph.wordBad = false →
    j = { item := it, protect := (s.berth it.r.berth).authTx, fv := it.r.fv, admitted := s.count } →
    (s.cph.jobs.push cphDepth j s.stamp).2.1 = true →
    Gives .iq3JobEnqueue s fun t => t.inner 3 = l ∧ t.cph.jobs = (s.cph.jobs.push cphDepth j s.stamp).1) ∧
  (∀ (s : State) (it : QItem) (l : List QItem) (j : CphJob), s.logicUp = true → s.inner 3 = it :: l → s.cph.wordBad = false →
    j = { item := it, protect := (s.berth it.r.berth).authTx, fv := it.r.fv, admitted := s.count } →
    (s.cph.jobs.push cphDepth j s.stamp).2.1 = false →
    Gives .iq3JobEnqueue s fun t => t.inner 3 = l ∧ Counted CPH_CNT_JOB_DROP_CNT [] s t) ∧
  (∀ (s : State) (it : QItem) (l : List QItem), s.logicUp = true → s.inner 3 = it :: l → s.cph.wordBad = true →
    Gives .iq3JobEnqueue s fun t => t.inner 3 = l ∧ t.cph.wordBad = false ∧ Counted CPH_CNT_JOBWORD_DROP_CNT [] s t ∧ Raised pgCPH 7 s t) ∧
  (∀ (s v : State) (l : Nat) (j : CphJob), s.logicUp = true → l < 4 → v = s.cphProceed → (List.range 4).any (fun m => v.laneUp m) = false →
    v.cph.jobs.all.head? = some j →
    Gives (.cipherJobStart l) s fun t => t = (v.setCph { v.cph with jobs := takeCphJob v.cph.jobs j }).jobLate j none ∧
      Counted CPH_CNT_LATE_CNT [] s t ∧ Raised pgCPH 2 s t) ∧
  (∀ (s v w u : State) (l : Nat) (j : CphJob) (k : KwlSlot) (b : Bool), s.logicUp = true → l < 4 → v = s.cphProceed → v.laneIdle l = true →
    v.lanePick l = some (.inl j) → v.lowerLane l j = false → w = (v.setCph { v.cph with jobs := takeCphJob v.cph.jobs j }).viewCph →
    w.count + jobTime (jobBytes (w.berthProfile j.berth) j.protect j.item.r.d.len j.item.r.d.medium) true ≤ w.releaseSlot j →
    w.trafficKey l j = (u, some k, b) →
    Gives (.cipherJobStart l) s fun t => (t.lane l).job = some (.traffic j k.key k.attr k.gen none) ∧ (t.lane l).started = u.count ∧
      (t.lane l).keyReg = some (u.berthKey j.berth, k.gen) ∧ t.cph.jobs = u.cph.jobs) ∧
  (∀ (s v w : State) (l : Nat) (j : CphJob), s.logicUp = true → l < 4 → v = s.cphProceed → v.laneIdle l = true → v.lanePick l = some (.inl j) →
    v.lowerLane l j = false → w = (v.setCph { v.cph with jobs := takeCphJob v.cph.jobs j }).viewCph →
    w.releaseSlot j < w.count + jobTime (jobBytes (w.berthProfile j.berth) j.protect j.item.r.d.len j.item.r.d.medium) false →
    Gives (.cipherJobStart l) s fun t => t = w.jobLate j none ∧ Counted CPH_CNT_LATE_CNT [] s t ∧ Raised pgCPH 2 s t) ∧
  (∀ (s v : State) (l : Nat) (h : HostJob), s.logicUp = true → l < 4 → v = s.cphProceed → v.laneIdle l = true → v.lanePick l = some (.inr h) →
    Gives (.cipherJobStart l) s fun t => t = v.startHost l h ∧ (h.badArg = true → (t.lane l).queue = (v.lane l).queue.filter (fun k => k != h) ∧
      Counted CPH_LCNT_JOBS_CNT [l] v t ∧ (t.lane l).results = ((v.lane l).results.push 16 { status := 6, tag := h.tag } s.stamp).1)) ∧
  (∀ (s w x : State) (l f c gen : Nat) (j : CphJob) (key attr bs : List Nat) (o : FrameObj) (q : State × Bool), s.logicUp = true → l < 4 →
    (s.lane l).job = some (.traffic j key attr gen none) → bs = macsecPartial (s.berthProfile j.berth) key attr (s.frameBytes j.item.frame) j.fv →
    s.jobCut j = true → 256 < bs.length → s.earlierJob j = false → (s.cph.done.any fun e => e.job.berth == j.berth) = false →
    s.keyStands (s.berthKey j.berth) gen = true →
    s.takeCell 67 none = some c → s.appendCell 67 none c (bs.take 256) = (w, f) → w.frame? f = some o → x = w.putFrame f { o with cut := true } →
    q = x.pushDesc 67 (contDesc j f (j.item.r.d.len - 16 - secTagLen ((s.frameBytes j.item.frame).getD 14 0)) true true (x.outHdr j 3 bs)) j.item.r.sched →
    q.2 = true →
    Gives (.provisionalContinuation l) s fun t => t = q.1.setLane l { q.1.lane l with job := some (.traffic j key attr gen (some f)) }) ∧
  (∀ (s : State) (l gen : Nat) (j : CphJob) (key attr : List Nat) (o : Option Nat), s.logicUp = true → l < 4 →
    (s.lane l).job = some (.traffic j key attr gen o) → (s.jobCut j = false ∨ s.earlierJob j = true) →
    Gives (.provisionalContinuation l) s fun t => t = s) ∧
  (∀ (s : State) (l gen : Nat) (j : CphJob) (key attr bs : List Nat) (o : Option Nat) (f : FrameObj), s.logicUp = true → l < 4 →
    (s.lane l).job = some (.traffic j key attr gen o) → s.frame? j.item.frame = some f → f.bad = false → s.frameComplete j.item.frame = true → s.count ≤ s.releaseSlot j → (s.lane l).cmpBad = false →
    s.badCellsOf j.item.frame = [] → s.keyStands (s.berthKey j.berth) gen = true → j.protect = true →
    protectFrame (s.berthProfile j.berth) key attr (s.frameBytes j.item.frame) j.item.r.d.medium j.fv = some bs →
    Gives (.cipherJobFinish l) s fun t => t = (s.jobCounted l j).queueDone j bs false) ∧
  (∀ (s : State) (l gen : Nat) (j : CphJob) (key attr : List Nat) (f : FrameObj), s.logicUp = true → l < 4 →
    (s.lane l).job = some (.traffic j key attr gen none) → s.frame? j.item.frame = some f → f.bad = false → s.frameComplete j.item.frame = true → s.count ≤ s.releaseSlot j →
    (s.lane l).cmpBad = false → s.badCellsOf j.item.frame = [] → s.keyStands (s.berthKey j.berth) gen = true → j.protect = false →
    Gives (.cipherJobFinish l) s fun t =>
      match openFrame (s.berthProfile j.berth) key attr (s.frameBytes j.item.frame) j.item.r.d.medium j.fv with
      | some bs => t = (s.jobCounted l j).queueDone j bs true
      | none => t = (((s.jobCounted l j).bump CPH_CNT_TAG_FAIL_CNT []).irq pgCPH 0).queueDone j
          (zeroBytes (openLen (s.berthProfile j.berth) (s.frameBytes j.item.frame) j.item.r.d.medium)) false ∧
        Counted CPH_CNT_TAG_FAIL_CNT [] s t ∧ Raised pgCPH 0 s t) ∧
  (∀ (s : State) (l gen : Nat) (j : CphJob) (key attr : List Nat), s.logicUp = true → l < 4 →
    (s.lane l).job = some (.traffic j key attr gen none) →
    Gives (.compareFail l) s fun t => (t.lane l).job = none ∧ (t.lane l).cmpFails = (s.lane l).cmpFails + 1 ∧ (t.lane l).cmpBad = false ∧
      Counted CPH_LCNT_CMP_FAIL_CNT [l] s t ∧ Counted CPH_LCNT_JOBS_CNT [l] s t ∧ Raised (pgLane l) 1 s t ∧
      ((s.lane l).cmpFails = 1 → t.on CPH_LSTAT_OUT [l] = true)) ∧
  (∀ (s : State) (l gen : Nat) (j : CphJob) (key attr : List Nat), s.logicUp = true → l < 4 →
    (s.lane l).job = some (.traffic j key attr gen none) → s.releaseSlot j ≤ s.count →
    Gives (.cipherReleaseSlot l) s fun t => t = (s.laneFree l).jobLate j none ∧ (t.lane l).job = none ∧ Counted CPH_CNT_LATE_CNT [] s t ∧
      Raised pgCPH 2 s t)

/-- Host jobs of a cipher lane; in every part the block's logic is up and the lane is below 4 (R55, R496, R500–R503, Tables 14-4 to 14-7). ENC,
DEC, MAC and CMAC_VERIFY with the row's OP in CPH_JOB_CFG and a tag below 256 append a job to a lane queue that holds fewer than 16: the job's OP,
MODE, KEY_SRC, KEY_SLOT, LEN and AAD as the registers have them, its tag, this time, and JOBQ one more; with 16 waiting CMD_REJECT is set, the
cipher engine stands and of the listed fields only that one changes. HOST_JOB_COMPLETE of a running host job: without data the job ends, HOST_ERR
and JOBS count one, the lane's interrupt 2 rises and a result of status 7 with its tag is pushed; with as many bytes as AAD and LEN, no comparison
failure and its key standing (or from the intake) a MAC gives the first TAG_LEN bytes of the CMAC with status 0, a verification the same bytes with
status 0 where they equal the tag given and else 1; both free the lane and count one; any OP with the host reachable finishes as its OP says.
KEY_LOAD takes 32 or 16 bytes of KEY_IN into the intake buffer with its custody mark, sets INTAKE_VALID and INTAKE_CUSTODY and clears KEY_IN;
KEY_CLEAR empties the buffer and INTAKE_VALID. CPH_RES_POP of an empty result queue gives VALID 0, the lane as it was; with a result at the head
VALID 1, GAP 0, its status and tag, and the queue is the rest. -/
def Obligations.CipherHostJobs : Prop :=
  (∀ (s : State) (c : Instr) (l n : Nat), s.logicUp = true → l < 4 → n < 256 → (c = .enc l n ∧ s.rd CPH_JOB_CFG_OP [l] = 1 ∨
      c = .dec l n ∧ s.rd CPH_JOB_CFG_OP [l] = 2 ∨ c = .mac l n ∧ s.rd CPH_JOB_CFG_OP [l] = 3 ∨
      c = .cmacVerify l n ∧ s.rd CPH_JOB_CFG_OP [l] = 4) → (s.lane l).queue.length < 16 →
    Gives c s fun t => ∃ j : HostJob, t.lane l = { s.lane l with queue := (s.lane l).queue ++ [j] } ∧ j.op = s.rd CPH_JOB_CFG_OP [l] ∧ j.tag = n ∧
      j.at_ = s.now ∧ j.mode = s.rd CPH_JOB_CFG_MODE [l] ∧ j.intake = s.on CPH_JOB_CFG_KEY_SRC [l] ∧ j.slot = s.rd CPH_JOB_CFG_KEY_SLOT [l] ∧
      j.len = s.rd CPH_JOB_LEN_LEN [l] ∧ j.aad = s.rd CPH_JOB_AAD_AAD [l] ∧ t.rd CPH_LSTAT_JOBQ [l] = (s.lane l).queue.length + 1) ∧
  (∀ (s : State) (c : Instr) (l n : Nat), s.logicUp = true → l < 4 → n < 256 → (c = .enc l n ∧ s.rd CPH_JOB_CFG_OP [l] = 1 ∨
      c = .dec l n ∧ s.rd CPH_JOB_CFG_OP [l] = 2 ∨ c = .mac l n ∧ s.rd CPH_JOB_CFG_OP [l] = 3 ∨
      c = .cmacVerify l n ∧ s.rd CPH_JOB_CFG_OP [l] = 4) → 16 ≤ (s.lane l).queue.length →
    Gives c s fun t => t.on CPH_LSTAT_CMD_REJECT [l] = true ∧ t.cph = s.cph ∧ FieldsKept [(CPH_LSTAT_CMD_REJECT, [l])] s t) ∧
  (∀ (s : State) (l gen : Nat) (j : HostJob) (key : List Nat) (cu : Bool), s.logicUp = true → l < 4 →
    (s.lane l).job = some (.host j key cu gen) →
    Gives (.hostJobComplete l none) s fun t => (t.lane l).job = none ∧ Counted CPH_LCNT_HOST_ERR_CNT [l] s t ∧ Counted CPH_LCNT_JOBS_CNT [l] s t ∧
      Raised (pgLane l) 2 s t ∧ (t.lane l).results = ((s.lane l).results.push 16 { status := 7, tag := j.tag } s.stamp).1) ∧
  (∀ (s : State) (l gen : Nat) (j : HostJob) (key src : List Nat) (cu : Bool), s.logicUp = true → l < 4 →
    (s.lane l).job = some (.host j key cu gen) → src.length = j.aad + j.len → (s.lane l).cmpBad = false →
    (j.intake = true ∨ s.keyStands j.slot gen = true) → (j.op = 3 ∨ j.op = 4) →
    Gives (.hostJobComplete l (some src)) s fun t => (t.lane l).job = none ∧ Counted CPH_LCNT_JOBS_CNT [l] s t ∧
      (t.lane l).results = ((s.lane l).results.push 16 {
        status := if j.op = 3 ∨ (aesCmac key src).take j.tagLen = j.tagIn.take j.tagLen then 0 else 1
        tag := j.tag, iv := [], mac := (aesCmac key src).take j.tagLen } s.stamp).1) ∧
  (∀ (s : State) (l gen : Nat) (j : HostJob) (key src : List Nat) (cu : Bool), s.logicUp = true → l < 4 →
    (s.lane l).job = some (.host j key cu gen) → src.length = j.aad + j.len → (s.lane l).cmpBad = false →
    (j.intake = true ∨ s.keyStands j.slot gen = true) → s.hostReachable = true →
    Gives (.hostJobComplete l (some src)) s fun t => t = s.finishHost l j key src) ∧
  (∀ (s : State) (l : Nat) (w cu : Bool), s.logicUp = true → l < 4 →
    Gives (.keyLoad l w cu) s fun t => (t.lane l).intake = some (s.laneBytes CPH_KEY_IN l (if w then 8 else 4), cu) ∧
      t.on CPH_LSTAT_INTAKE_VALID [l] = true ∧ t.on CPH_LSTAT_INTAKE_CUSTODY [l] = cu ∧ ∀ i, i < 8 → t.rd CPH_KEY_IN [l, i] = 0) ∧
  (∀ (s : State) (l : Nat), s.logicUp = true → l < 4 →
    Gives (.keyClear l) s fun t => t.lane l = { s.lane l with intake := none } ∧ t.on CPH_LSTAT_INTAKE_VALID [l] = false) ∧
  (∀ (s : State) (l : Nat), s.logicUp = true → l < 4 → (s.lane l).results = {} →
    Gives (.cphResPop l) s fun t => t.on CPH_RES_HEAD_VALID [l] = false ∧ t.lane l = s.lane l) ∧
  (∀ (s : State) (l : Nat) (r : HostRes) (rs : List HostRes), s.logicUp = true → l < 4 → (s.lane l).results.items = r :: rs →
    Gives (.cphResPop l) s fun t => t.on CPH_RES_HEAD_VALID [l] = true ∧ t.rd CPH_RES_HEAD_GAP [l] = 0 ∧
      t.rd CPH_RES_HEAD_STATUS [l] = r.status % 2 ^ CPH_RES_HEAD_STATUS.width ∧ t.rd CPH_RES_HEAD_TAG [l] = r.tag % 2 ^ CPH_RES_HEAD_TAG.width ∧
      (t.lane l).results = { (s.lane l).results with items := rs })

/-- Commands of the key well; in every part the block's logic is up and slots are below 4096 (R530–R536, R538, R539, R543, R546, Tables 15-3 and
15-4). While BUSY is 1 each command sets CMD_REJECT and zeroes KEY_IN, the key well and the other fields as they were. Else DERIVE and IMPORT set
BUSY and are held with the staged configuration and their time. KWL_COMMAND_DONE, no test running, of a command whose result is 0 ends it with
RESULT 0, interrupt 0 and its counter; the slot has the configuration's STATE, USE and CLASS, its parent, a level above it, its own GEN, the
parent's GEN, and of an IMPORT the key given; other slots stand; another result is shown, the slots stand and KEY_IN is 0. INVALIDATE of a KDK not
EMPTY below the last GEN adds one to GEN, gives RESULT 0 and counts; of another use or EMPTY RESULT 1, of the last GEN 6, the slots as they were.
DESTROY empties a slot other than 0, adds one to GEN, gives RESULT 0 and counts; of the last GEN RESULT 6, of slot 0 RESULT 1, the slots as they
were. With a root both leave a commit running. COMMIT with none running starts one with a snapshot of the dirty slots and a root copy to write;
with no root, none drawn and nothing dirty it ends at once with COMMIT_RESULT 1 and interrupt 1; with one running CMD_REJECT is set.
RESTORE_CUSTODY under ALARM gives RESULT 7, the slots as they were; else 0, and an ERASED slot with a retained record is VALID with its key and the
greater GEN. ORPHAN_SWEEP, once a boundary, goes to the next slot; an orphaned one below the last GEN is emptied, counted and raises interrupt 3,
else the slots stand. -/
def Obligations.KeyWellCommands : Prop :=
  (∀ (s : State) (c : Instr) (n p : Nat), s.logicUp = true → n < 4096 → p < 4096 → s.on KWL_STATUS_BUSY [] = true →
    c ∈ [Instr.derive n p, .kwlImport n p, .invalidate n, .destroy n, .kwlCommit, .restoreCustody] →
    Gives c s fun t => t.on KWL_STATUS_CMD_REJECT [] = true ∧ t.kwl = s.kwl ∧ (∀ i, i < 8 → t.rd KWL_KEY_IN [i] = 0) ∧
      FieldsKept ((KWL_STATUS_CMD_REJECT, []) :: (List.range 8).map fun i => (KWL_KEY_IN, [i])) s t) ∧
  (∀ (s : State) (n p : Nat) (d : Bool), s.logicUp = true → n < 4096 → p < 4096 → s.on KWL_STATUS_BUSY [] = false →
    Gives (if d then .derive n p else .kwlImport n p) s fun t => t.on KWL_STATUS_BUSY [] = true ∧ t.kwl = { s.kwl with
      cmd := some { derive_ := d, slot := n, parent := p, cfg := s.newCfg (!d), at_ := s.now } } ∧ FieldsKept [(KWL_STATUS_BUSY, [])] s t) ∧
  (∀ (s : State) (c : KwlCmd), s.logicUp = true → s.kwl.testing = false → s.kwl.cmd = some c → s.createResult c = 0 →
    Gives .kwlCommandDone s fun t => t.kwl.cmd = none ∧ t.on KWL_STATUS_BUSY [] = false ∧ t.rd KWL_STATUS_RESULT [] = 0 ∧ Raised pgKWL 0 s t ∧
      (if c.derive_ then Counted KWL_CNT_DERIVE_CNT [] s t else Counted KWL_CNT_IMPORT_CNT [] s t) ∧
      (t.keySlot c.slot).state = c.cfg.state ∧ (t.keySlot c.slot).use = c.cfg.use ∧ (t.keySlot c.slot).cls = c.cfg.cls ∧
      (t.keySlot c.slot).parent = c.parent ∧ (t.keySlot c.slot).level = (s.keySlot c.parent).level + 1 ∧
      (t.keySlot c.slot).gen = (s.keySlot c.slot).gen ∧ (t.keySlot c.slot).pgen = (s.keySlot c.parent).gen ∧
      (c.derive_ = false → (t.keySlot c.slot).key = c.cfg.key) ∧
      (∀ n, n ≠ c.slot → t.keySlot n = s.keySlot n)) ∧
  (∀ (s : State) (c : KwlCmd), s.logicUp = true → s.kwl.testing = false → s.kwl.cmd = some c → s.createResult c ≠ 0 →
    Gives .kwlCommandDone s fun t => t.kwl.cmd = none ∧ t.on KWL_STATUS_BUSY [] = false ∧ t.rd KWL_STATUS_RESULT [] = s.createResult c ∧
      t.kwl.slots = s.kwl.slots ∧ Raised pgKWL 0 s t ∧ ∀ i, i < 8 → t.rd KWL_KEY_IN [i] = 0) ∧
  (∀ (s : State) (n : Nat), s.logicUp = true → n < 4096 → s.on KWL_STATUS_BUSY [] = false → (s.keySlot n).use = 1 →
    (s.keySlot n).state ≠ 0 → (s.keySlot n).gen < 2 ^ 32 - 1 →
    Gives (.invalidate n) s fun t => (t.keySlot n).gen = (s.keySlot n).gen + 1 ∧ t.rd KWL_STATUS_RESULT [] = 0 ∧
      Counted KWL_CNT_INVALIDATE_CNT [] s t ∧ (s.hasRoot = true → t.on KWL_STATUS_COMMIT_BUSY [] = true)) ∧
  (∀ (s : State) (n : Nat), s.logicUp = true → n < 4096 → s.on KWL_STATUS_BUSY [] = false →
    ((s.keySlot n).use ≠ 1 ∨ (s.keySlot n).state = 0 ∨ (s.keySlot n).gen = 2 ^ 32 - 1) →
    Gives (.invalidate n) s fun t => t.rd KWL_STATUS_RESULT [] = (if (s.keySlot n).use ≠ 1 ∨ (s.keySlot n).state = 0 then 1 else 6) ∧ t.kwl.slots = s.kwl.slots) ∧
  (∀ (s : State) (n : Nat), s.logicUp = true → 0 < n → n < 4096 → s.on KWL_STATUS_BUSY [] = false → (s.keySlot n).gen ≠ 2 ^ 32 - 1 →
    Gives (.destroy n) s fun t => (t.keySlot n).state = 0 ∧ (t.keySlot n).key = [] ∧ (t.keySlot n).gen = (s.keySlot n).gen + 1 ∧
      t.rd KWL_STATUS_RESULT [] = 0 ∧ Counted KWL_CNT_DESTROY_CNT [] s t ∧ (s.hasRoot = true → t.on KWL_STATUS_COMMIT_BUSY [] = true)) ∧
  (∀ (s : State) (n : Nat), s.logicUp = true → 0 < n → n < 4096 → s.on KWL_STATUS_BUSY [] = false → (s.keySlot n).gen = 2 ^ 32 - 1 →
    Gives (.destroy n) s fun t => t.rd KWL_STATUS_RESULT [] = 6 ∧ t.kwl.slots = s.kwl.slots) ∧
  (∀ (s : State), s.logicUp = true → s.on KWL_STATUS_BUSY [] = false →
    Gives (.destroy 0) s fun t => t.rd KWL_STATUS_RESULT [] = 1 ∧ t.kwl.slots = s.kwl.slots) ∧
  (∀ (s : State), s.logicUp = true → s.on KWL_STATUS_BUSY [] = false → s.on KWL_STATUS_COMMIT_BUSY [] = false →
    s.hasRoot = true →
    Gives .kwlCommit s fun t => t.on KWL_STATUS_COMMIT_BUSY [] = true ∧ t.rd KWL_STATUS_RESULT [] = 0 ∧
      t.kwl.commit = some { left := s.kwlSnapshot, recs := [], journal := 0, seq := 0 } ∧
      (∃ w, t.ret.queue = s.ret.queue ++ [w] ∧ w.owner = .root ∧ w.need = 200)) ∧
  (∀ (s : State), s.logicUp = true → s.on KWL_STATUS_BUSY [] = false → s.on KWL_STATUS_COMMIT_BUSY [] = false → s.hasRoot = false →
    s.kwl.newRoot = none → s.kwlSnapshot = [] →
    Gives .kwlCommit s fun t => t.on KWL_STATUS_COMMIT_BUSY [] = false ∧ t.rd KWL_STATUS_COMMIT_RESULT [] = 1 ∧ t.rd KWL_STATUS_RESULT [] = 0 ∧
      t.kwl.commit = none ∧ Raised pgKWL 1 s t) ∧
  (∀ (s : State), s.logicUp = true → s.on KWL_STATUS_BUSY [] = false → s.on KWL_STATUS_COMMIT_BUSY [] = true →
    Gives .kwlCommit s fun t => t.on KWL_STATUS_CMD_REJECT [] = true ∧ t.kwl = s.kwl) ∧
  (∀ (s : State), s.logicUp = true → s.on KWL_STATUS_BUSY [] = false → s.on KWL_STATUS_ALARM [] = true →
    Gives .restoreCustody s fun t => t.rd KWL_STATUS_RESULT [] = 7 ∧ t.kwl.slots = s.kwl.slots) ∧
  (∀ (s : State), s.logicUp = true → s.on KWL_STATUS_BUSY [] = false → s.on KWL_STATUS_ALARM [] = false →
    Gives .restoreCustody s fun t => t.rd KWL_STATUS_RESULT [] = 0 ∧ ∀ n r, 0 < n → (s.keySlot n).state = 3 → s.retSlot n = some r →
      (t.keySlot n).state = 1 ∧ (t.keySlot n).key = r.key ∧ (t.keySlot n).gen = max r.gen (s.keySlot n).gen) ∧
  (∀ (s : State), s.logicUp = true → s.bnd.none = false → s.kwl.sweptAt ≠ some s.bnd.num →
    Gives .orphanSweep s fun t => t.kwl.sweep = (s.kwl.sweep + 1) % 4096 ∧ t.kwl.sweptAt = some s.bnd.num ∧
      (if s.slotState s.kwl.sweep = 2 ∧ (s.keySlot s.kwl.sweep).gen ≠ 2 ^ 32 - 1 then (t.keySlot s.kwl.sweep).state = 0 ∧ (t.keySlot s.kwl.sweep).key = [] ∧
        Counted KWL_CNT_SWEPT_CNT [] s t ∧ Raised pgKWL 3 s t else t.kwl.slots = s.kwl.slots))

/-- The mask key, the random generator and the root; in every part the block's logic is up (R520, R523, R540, R541). MASK_KEY_RENEW at a boundary,
the first time or 64 after the last, notes the boundary and counts the pass; the first changes no field, a later one counts REMASK; before 64
boundaries nothing changes. RBG_STARTUP_DONE in state 0 or 2 gives RBG 1 and clears the failures. RBG_HEALTH_FAIL of a generator not failed counts
the failure, falls back to 2, or to 3 at the third in a row with bit 4 of the raw interrupts. ROOT_GENERATE with no root, none drawn, the generator
ready and the restore done draws 32 free bytes, sets ROOT 1 and queues the write of a copy. -/
def Obligations.KeyWellRandomness : Prop :=
  (∀ (s : State), s.logicUp = true → s.bnd.none = false → s.kwl.maskAt = none →
    Gives .maskKeyRenew s fun t => t.kwl.maskAt = some s.bnd.num ∧ t.kwl.maskPass = s.kwl.maskPass + 1 ∧ FieldsKept [] s t) ∧
  (∀ (s : State) (n : Nat), s.logicUp = true → s.bnd.none = false → s.kwl.maskAt = some n → n + 64 ≤ s.bnd.num →
    Gives .maskKeyRenew s fun t => t.kwl.maskAt = some s.bnd.num ∧ t.kwl.maskPass = s.kwl.maskPass + 1 ∧ Counted KWL_CNT_REMASK_CNT [] s t) ∧
  (∀ (s : State) (n : Nat), s.logicUp = true → s.kwl.maskAt = some n → s.bnd.num < n + 64 → Gives .maskKeyRenew s fun t => t = s) ∧
  (∀ (s : State), s.logicUp = true → (s.rd KWL_STATUS_RBG [] = 0 ∨ s.rd KWL_STATUS_RBG [] = 2) →
    Gives .rbgStartupDone s fun t => t.rd KWL_STATUS_RBG [] = 1 ∧ t.kwl = { s.kwl with fails := 0 }) ∧
  (∀ (s : State), s.logicUp = true → s.rd KWL_STATUS_RBG [] ≠ 3 →
    Gives .rbgHealthFail s fun t => t.rd KWL_STATUS_RBG [] = (if s.kwl.fails < 2 then 2 else 3) ∧ t.kwl.fails = s.kwl.fails + 1 ∧
      Counted KWL_CNT_HEALTH_FAIL_CNT [] s t ∧ (2 ≤ s.kwl.fails → bitOf (t.rd IRQ_RAW_BLOCK [pgKWL]) 4 = 1)) ∧
  (∀ (s : State), s.logicUp = true → s.hasRoot = false → s.kwl.newRoot = none → s.rd KWL_STATUS_RBG [] = 1 → s.on DEV_STATUS_RESTORE_DONE [] = true →
    Gives .rootGenerate s fun t => t.kwl.newRoot = some (s.freeBytes 32) ∧ t.rd KWL_STATUS_ROOT [] = 1 ∧
      ∃ w, t.ret.queue = s.ret.queue ++ [w] ∧ w.owner = .root ∧ w.need = 200)

/-- Retained writes, in every mode but OFF (R108, R110, R523, R546, R547, R665, R670, R671, Tables 17-11, 17-12). RETAINED_WRITE with none running
and a sound HOLDUP_SNS: the oldest write starts where the energy at the measured voltage is at least 1.5 times its need, MEAS.VB_MV and E.UJ
showing the measurement, the other fields as they were; at or below VMIN a write of an owner without a limit, or with fewer than 64 tries, waits as
refused with this time, E.UJ 0, HOLDUP_REFUSE counted and interrupt 5; with no measurement likewise, E.UJ as it was; at 64 tries of a limited owner
the error is reported, the refusal counted and the owner ends. RETAINED_WRITE_DONE with its check good stores the bytes and lets the owner proceed
(the repair map: kept, its bad mark cleared, no field changed); a root copy that fails its check reports error 0x03 of page RET and is queued
again, the store as it was. RETAINED_WRITE_RETRY, 1 ms after the refusal, queues the write with one more try; of a slot commit or load HOLDUP_RETRY
counts. HISTORY_WRITE, and HISTORY_WRITE_RETRY 1 ms after a refusal, with energy enough for 100 µJ start the write of the first record's 64 bytes
(HISTORY_WRITE: at the place of the next index); without a measurement HISTORY_WRITE puts the record back as refused where fewer than 16 are,
HOLDUP_REFUSE counting; a retry with 16 others refused drops it and counts HIST_DROP. REPAIR_MAP_WRITE of a changed map, no bank in test, with
energy for 1,400 µJ starts it at 0x4000 with one more sequence; without a measurement it stays to be written and HOLDUP_REFUSE counts. REPAIR_CLEAR
empties the map and its count, the other fields as they were. -/
def Obligations.RetainedWrites : Prop :=
  (∀ (s : State) (w : RetWrite) (l : List RetWrite) (v vb vm e : Nat), s.mode ≠ .off → s.ret.active = none → s.ret.queue = w :: l →
    s.pwk.snsBad = false → vb = v * s.rd PWK_HOLDUP_RATIO_RATIO [] → vm = s.rd PWK_HOLDUP_CFG_VMIN_MV [] * 16000 → vm < vb →
    e = s.rd PWK_HOLDUP_CFG_CAP_UF [] * (vb * vb - vm * vm) → 3 * w.need * (512 * 10 ^ 12) ≤ 2 * e →
    Gives (.retainedWrite (some v)) s fun t => t.ret = { s.ret with queue := l, active := some w } ∧
      t.rd PWK_HOLDUP_MEAS_VB_MV [] = min 0xFFFF (vb / 16000) ∧ t.rd PWK_HOLDUP_E_UJ [] = min 0xFFFFFFFF (e / (512 * 10 ^ 12)) ∧
      FieldsKept [(PWK_HOLDUP_MEAS_VB_MV, []), (PWK_HOLDUP_E_UJ, [])] s t) ∧
  (∀ (s : State) (w : RetWrite) (l : List RetWrite) (v : Nat), s.mode ≠ .off → s.ret.active = none → s.ret.queue = w :: l → s.pwk.snsBad = false →
    0 < w.need →
    v * s.rd PWK_HOLDUP_RATIO_RATIO [] ≤ s.rd PWK_HOLDUP_CFG_VMIN_MV [] * 16000 → (w.owner.limited = false ∨ w.tries < 64) →
    Gives (.retainedWrite (some v)) s fun t => t.ret = { s.ret with queue := l, refused := s.ret.refused ++ [(w, s.now)] } ∧
      t.rd PWK_HOLDUP_E_UJ [] = 0 ∧ Counted PWK_CNT_HOLDUP_REFUSE_CNT [] s t ∧ Raised pgPWK 5 s t) ∧
  (∀ (s : State) (w : RetWrite) (l : List RetWrite), s.mode ≠ .off → s.ret.active = none → s.ret.queue = w :: l →
    (w.owner.limited = false ∨ w.tries < 64) →
    Gives (.retainedWrite none) s fun t => t.ret = { s.ret with queue := l, refused := s.ret.refused ++ [(w, s.now)] } ∧
      Counted PWK_CNT_HOLDUP_REFUSE_CNT [] s t ∧ t.rd PWK_HOLDUP_E_UJ [] = s.rd PWK_HOLDUP_E_UJ []) ∧
  (∀ (s : State) (w : RetWrite) (l : List RetWrite), s.mode ≠ .off → s.ret.active = none → s.ret.queue = w :: l → s.pwk.snsBad = false →
    w.owner.limited = true → 64 ≤ w.tries →
    Gives (.retainedWrite none) s fun t => t = ((((s.setRet { s.ret with queue := l }).errU pgPWK 0x03 1).holdupRefused).retLimit w)) ∧
  (∀ (s : State) (w : RetWrite), s.mode ≠ .off → s.ret.active = some w → w.owner = .repair →
    Gives (.retainedWriteDone true) s fun t => t.ret = { s.ret with active := none, store := Mem.puts s.ret.store w.addr w.data } ∧
      t.sup = { s.sup with repairKept := s.sup.repair, repairBad := false } ∧ FieldsKept [] s t) ∧
  (∀ (s : State) (w : RetWrite), s.mode ≠ .off → s.ret.active = some w →
    Gives (.retainedWriteDone true) s fun t => t = ((s.setRet { s.ret with active := none }).retStore w).retProceed w) ∧
  (∀ (s : State) (w : RetWrite), s.mode ≠ .off → s.ret.active = some w → w.owner = .root →
    Gives (.retainedWriteDone false) s fun t => t = (((s.setRet { s.ret with active := none }).errU pgRET 0x03 1).retPush w) ∧
      t.ret.active = none ∧ t.ret.queue = s.ret.queue ++ [w] ∧ t.ret.store = s.ret.store) ∧
  (∀ (s : State) (w : RetWrite) (n : Nat) (l : List (RetWrite × Nat)), s.mode ≠ .off → s.ret.refused = (w, n) :: l → n + 1000000 ≤ s.now →
    Gives .retainedWriteRetry s fun t => t.ret = { s.ret with refused := l, queue := s.ret.queue ++ [{ w with tries := w.tries + 1 }] } ∧
      ((w.owner = .commit ∨ w.owner = .load) → Counted RET_CNT_HOLDUP_RETRY_CNT [] s t)) ∧
  (∀ (s : State) (b : List Nat) (g v vb vm e : Nat) (l : List (List Nat × Nat × Option Nat)), s.mode ≠ .off → s.ret.active = none →
    s.sup.history = (b, g, none) :: l → s.pwk.snsBad = false → vb = v * s.rd PWK_HOLDUP_RATIO_RATIO [] → vm = s.rd PWK_HOLDUP_CFG_VMIN_MV [] * 16000 → vm < vb →
    e = s.rd PWK_HOLDUP_CFG_CAP_UF [] * (vb * vb - vm * vm) → 3 * 100 * (512 * 10 ^ 12) ≤ 2 * e →
    Gives (.historyWrite (some v)) s fun t => t.sup.history = l ∧ ∃ w, t.ret.active = some w ∧ w.owner = .history ∧
      w.addr = 0xC040 + 64 * s.sup.histIdx ∧ w.data = s.histBytes b g ∧ w.need = 100) ∧
  (∀ (s : State) (b : List Nat) (g : Nat) (l : List (List Nat × Nat × Option Nat)), s.mode ≠ .off → s.ret.active = none →
    s.sup.history = (b, g, none) :: l → (l.filter fun x => x.2.2.isSome).length < 16 →
    Gives (.historyWrite none) s fun t => t.sup.history = l ++ [(b, g, some s.now)] ∧ t.ret = s.ret ∧ Counted PWK_CNT_HOLDUP_REFUSE_CNT [] s t) ∧
  (∀ (s : State) (b : List Nat) (g n : Nat) (l : List (List Nat × Nat × Option Nat)), s.mode ≠ .off → s.ret.active = none →
    s.sup.history = (b, g, some n) :: l → n + 1000000 ≤ s.now → 16 ≤ (l.filter fun x => x.2.2.isSome).length →
    Gives (.historyWriteRetry none) s fun t => t.sup.history = l ∧ t.ret = s.ret ∧ Counted SUP_CNT_HIST_DROP_CNT [] s t) ∧
  (∀ (s : State) (b : List Nat) (g n v vb vm e : Nat) (l : List (List Nat × Nat × Option Nat)), s.mode ≠ .off → s.ret.active = none →
    s.sup.history = (b, g, some n) :: l → n + 1000000 ≤ s.now → s.pwk.snsBad = false →
    vb = v * s.rd PWK_HOLDUP_RATIO_RATIO [] → vm = s.rd PWK_HOLDUP_CFG_VMIN_MV [] * 16000 → vm < vb →
    e = s.rd PWK_HOLDUP_CFG_CAP_UF [] * (vb * vb - vm * vm) → 3 * 100 * (512 * 10 ^ 12) ≤ 2 * e →
    Gives (.historyWriteRetry (some v)) s fun t => t.sup.history = l ∧ ∃ w, t.ret.active = some w ∧ w.owner = .history ∧
      w.data = s.histBytes b g) ∧
  (∀ (s : State) (v vb vm e : Nat), s.mode ≠ .off → s.ret.active = none → s.sup.repairDirty = true → s.rd CST_STATUS_BANK_TEST [] = 0 →
    s.pwk.snsBad = false → vb = v * s.rd PWK_HOLDUP_RATIO_RATIO [] → vm = s.rd PWK_HOLDUP_CFG_VMIN_MV [] * 16000 → vm < vb →
    e = s.rd PWK_HOLDUP_CFG_CAP_UF [] * (vb * vb - vm * vm) → 3 * 1400 * (512 * 10 ^ 12) ≤ 2 * e →
    Gives (.repairMapWrite (some v)) s fun t => t.sup = { s.sup with repairSeq := s.sup.repairSeq + 1, repairDirty := false } ∧
      ∃ w, t.ret = { s.ret with active := some w } ∧ w.owner = .repair ∧ w.addr = 0x4000 ∧ w.need = 1400) ∧
  (∀ (s : State), s.mode ≠ .off → s.ret.active = none → s.sup.repairDirty = true → s.rd CST_STATUS_BANK_TEST [] = 0 →
    Gives (.repairMapWrite none) s fun t => t.sup = s.sup ∧ t.ret = s.ret ∧ Counted PWK_CNT_HOLDUP_REFUSE_CNT [] s t) ∧
  (∀ (s : State), s.mode ≠ .off →
    Gives .repairClear s fun t => t.sup = { s.sup with repair := [], repairDirty := true } ∧ t.rd SUP_REPAIR_CNT_CNT [] = 0 ∧
      FieldsKept [(SUP_REPAIR_CNT_CNT, [])] s t)

/-- Link events and reads; in every part the block's logic is up (R556–R558, R560, R563, R584, Tables 16-5 and 16-6). With the link up:
HOST_READ_TIMEOUT counts, reports error 0x03 of page HBR and completes the read with all ones; LOCKED_READ counts and completes as an Unsupported
Request, the other fields as they were; HOT_RESET, PCIE_LINK_DOWN, FUNCTION_LEVEL_RESET and BUS_MASTER_DISABLE clear BME, all but the last also D3,
only PCIE_LINK_DOWN the link; every TX_EN and RX_EN is 0, every vector masked, the host's semaphores free and no others, no frame is written for
IQ0, LINK_RESET counts one and interrupt 0 rises; D3HOT_ENTRY sets D3 alone, the host out of reach. D0_RETURN from D3 clears it and lets out what
waited. D2D_LINK_FAILURE by lost lock reports error 0x05 at level 4; else it counts three replays and three corrected errors. PCIE_LINK_UP at a
generation 1 to 4 and width 1, 2 or 4 shows them and clears the LINK_DOWN condition. A failed or timed-out read of a FETCH that runs, and of a
lane's running host job, counts DMA_RD_ERR and raises interrupt 3; the host job ends with its host error, the lane free. A failed read of a ring's
transmit job, or one 10 ms old, counts and raises likewise, and the job has the result of status 4 with its index and tag; one with as many bytes
as asked for lands its frame. Data for the other requesters change nothing here: their own rows bring them. -/
def Obligations.LinkEventsAndHostReads : Prop :=
  (∀ (s : State) (n : Nat), s.logicUp = true → s.on HBR_STATUS_LINK_UP [] = true →
    Gives (.hostReadTimeout n) s fun t => Counted HBR_CNT_READ_TIMEOUT_CNT [] s t ∧ OutEvent.completion n 0xFFFFFFFF true ∈ t.outs ∧
      t = ((s.bump HBR_CNT_READ_TIMEOUT_CNT []).errU pgHBR 0x03 1).out (.completion n 0xFFFFFFFF true)) ∧
  (∀ (s : State) (n : Nat), s.logicUp = true → s.on HBR_STATUS_LINK_UP [] = true →
    Gives (.lockedRead n) s fun t => Counted HBR_CNT_LOCKED_UR_CNT [] s t ∧ t.outs = s.outs ++ [.completion n 0 false] ∧
      FieldsKept [(HBR_CNT_LOCKED_UR_CNT, [])] s t) ∧
  (∀ (s : State) (c : Instr), s.logicUp = true → s.on HBR_STATUS_LINK_UP [] = true →
    c ∈ [Instr.hotReset, .pcieLinkDown, .functionLevelReset, .busMasterDisable] →
    Gives c s fun t => t.on HBR_STATUS_BME [] = false ∧ (c ≠ .busMasterDisable → t.on HBR_STATUS_D3 [] = false) ∧
      t.on HBR_STATUS_LINK_UP [] = (if c = .pcieLinkDown then false else true) ∧
      (∀ p, p < 16 → t.on HBR_RP_CTRL_TX_EN (pairIx p) = false ∧ t.on HBR_RP_CTRL_RX_EN (pairIx p) = false) ∧
      (∀ v, v < 64 → t.on HBR_MSIX_CTRL_MASK [v] = true) ∧
      (∀ n, n < 32 → t.rd HBR_SEM_OWNER [n] = (if s.rd HBR_SEM_OWNER [n] = 1 then 0 else s.rd HBR_SEM_OWNER [n])) ∧
      t.hbr.rx = none ∧ Counted HBR_CNT_LINK_RESET_CNT [] s t ∧ Raised pgHBR 0 s t) ∧
  (∀ (s : State), s.logicUp = true → s.on HBR_STATUS_LINK_UP [] = true →
    Gives .d3hotEntry s fun t => t.on HBR_STATUS_D3 [] = true ∧ t.hbr = s.hbr ∧ t.hostReachable = false ∧ FieldsKept [(HBR_STATUS_D3, [])] s t) ∧
  (∀ (s : State), s.logicUp = true → s.on HBR_STATUS_D3 [] = true →
    Gives .d0Return s fun t => t.on HBR_STATUS_D3 [] = false ∧ t = (s.wr HBR_STATUS_D3 [] 0).hostBack) ∧
  (∀ (s : State), s.logicUp = true → Gives (.d2dLinkFailure true) s fun t => t = s.errU pgHBR 0x05 4) ∧
  (∀ (s : State), s.logicUp = true →
    Gives (.d2dLinkFailure false) s fun t =>
      t.rd HBR_CNT_D2D_REPLAY_CNT [] = min (s.rd HBR_CNT_D2D_REPLAY_CNT [] + 3) (2 ^ HBR_CNT_D2D_REPLAY_CNT.width - 1) ∧
      t.rd CORR_CNT_CNT [pgHBR] = min (s.rd CORR_CNT_CNT [pgHBR] + 3) (2 ^ CORR_CNT_CNT.width - 1)) ∧
  (∀ (s : State) (g w : Nat), s.logicUp = true → 1 ≤ g → g ≤ 4 → (w = 1 ∨ w = 2 ∨ w = 4) →
    Gives (.pcieLinkUp g w) s fun t => t.on HBR_STATUS_LINK_UP [] = true ∧ t.rd HBR_STATUS_SPEED [] = g ∧ t.rd HBR_STATUS_WIDTH [] = w ∧
      bitOf (t.rd IRQ_RAW_BLOCK [pgHBR]) 1 = 0) ∧
  (∀ (s : State) (c : Instr), s.logicUp = true → s.shadow = shFetching → c ∈ [Instr.dmaReadCompletion .fetch none, .dmaReadTimeout .fetch] →
    Gives c s fun t => Counted HBR_CNT_DMA_RD_ERR_CNT [] s t ∧ Raised pgHBR 3 s t ∧ t.hbr = s.hbr) ∧
  (∀ (s : State) (c : Instr) (l gen : Nat) (j : HostJob) (key : List Nat) (cu : Bool), s.logicUp = true →
    (s.lane l).job = some (.host j key cu gen) → c ∈ [Instr.dmaReadCompletion (.cipher l) none, .dmaReadTimeout (.cipher l)] →
    Gives c s fun t => t = s.dmaReadErr.hostErr l j ∧ (t.lane l).job = none ∧ Counted HBR_CNT_DMA_RD_ERR_CNT [] s t ∧ Raised pgHBR 3 s t) ∧
  (∀ (s : State) (r : ReadReq) (bs : List Nat), s.logicUp = true → (∀ p, r ≠ .ring p) →
    Gives (.dmaReadCompletion r (some bs)) s fun t => t = s) ∧
  (∀ (s : State) (c : Instr) (p : Nat) (j : TxJob), s.logicUp = true → (s.pair p).tx = some j → j.result = none →
    (c = .dmaReadCompletion (.ring p) none ∨ c = .dmaReadTimeout (.ring p) ∧ j.at_ + 10000000 ≤ s.now) →
    Gives c s fun t => Counted HBR_CNT_DMA_RD_ERR_CNT [] s t ∧ Raised pgHBR 3 s t ∧
      ∃ e, (t.pair p).tx = some { j with result := some e } ∧ e.status = 4 ∧ e.idx = j.idx ∧ e.tag = j.tag) ∧
  (∀ (s : State) (p : Nat) (j : TxJob) (bs : List Nat), s.logicUp = true → (s.pair p).tx = some j → j.result = none → bs.length = j.len →
    Gives (.dmaReadCompletion (.ring p) (some bs)) s fun t => t = s.txLand p j (bs.map (· % 256)))

/-- The bridge's rings; in every part the block's logic is up and a pair is below 16 (R55, R568, R569, R571, R573, R574, R576–R578, R580, R581,
Tables 16-7 to 16-10). IQ0_RX_FRAME goes on with the frame that IQ0 writes, or starts the next ready one, which leaves IQ0's queue; with RX_EN = 0
of its pair RX_NO_BUF and RX_DROP count one and the bridge stands; with none to start nothing changes. RX_AUTH_ZERO of a frame whose tag check
failed writes zeros to every buffer written, ends the frame, counts RX_ZEROED and raises interrupt 4. TX_DESCRIPTOR_FETCH of the pair whose turn it
is: an admissible descriptor (LEN 1 to 16,383, MEDIUM below 3, or 3 with 14 bytes at least) becomes the pair's job, the turn passes to the next
pair, and its frame is read; another gives the result of status 5, nothing read. TX_COMPLETION of a job with its result ends it, HEAD is its index
plus 1 modulo 65,536, and the completion is written unless it asked for none and its status is 0. TX_TAIL_WRITE and RX_TAIL_WRITE set TAIL alone,
modulo 65,536. CQ_RP_WRITE sets RP modulo 131,072: with VEC_EN a value other than WP sends the message, nothing unannounced left; without VEC_EN
nothing goes out. RING_ENABLE_WRITE sets both enables: a direction newly enabled has HEAD and TAIL 0 and no halt, and the first direction of a pair
enabled empties the completion ring. RING_COAL_TIMEOUT with VEC_EN and entries unannounced for COAL.US sends the message and leaves none
unannounced. -/
def Obligations.RingsOfTheBridge : Prop :=
  (∀ (s : State) (ds : List (Option (List Nat))), s.logicUp = true → s.hbr.rx = none → s.rxNext = none → Gives (.iq0RxFrame ds) s fun t => t = s) ∧
  (∀ (s : State) (j : RxJob) (ds : List (Option (List Nat))), s.logicUp = true → s.hbr.rx = some j →
    Gives (.iq0RxFrame ds) s fun t => t = s.rxGo j ds) ∧
  (∀ (s : State) (it : QItem) (ds : List (Option (List Nat))), s.logicUp = true → s.hbr.rx = none → s.rxNext = some it →
    Gives (.iq0RxFrame ds) s fun t => t = s.rxStart it ds ∧ it ∉ t.inner 0 ∧
      (s.on HBR_RP_CTRL_RX_EN (pairIx (s.rxPair it.r)) = false → Counted HBR_CNT_RX_NO_BUF_CNT [] s t ∧
        Counted HBR_RP_RX_DROP_CNT (pairIx (s.rxPair it.r)) s t ∧ t.hbr = s.hbr)) ∧
  (∀ (s : State) (j : RxJob) (o : FrameObj), s.logicUp = true → s.hbr.rx = some j → s.frame? j.item.frame = some o → o.zeroed = true →
    Gives .rxAuthZero s fun t => t.hbr.rx = none ∧ Counted HBR_CNT_RX_ZEROED_CNT [] s t ∧ Raised pgHBR 4 s t ∧
      ∀ b ∈ j.bufs, OutEvent.hostWrite b.addr (zeroBytes b.used) ∈ t.outs) ∧
  (∀ (s : State) (p : Nat) (desc : List Nat) (j : TxJob), s.logicUp = true → s.txTurn = some p → desc.length = 16 →
    j = { desc := desc, idx := s.rd HBR_TX_HEAD_IDX (pairIx p), at_ := s.now } → 0 < j.len → j.len ≤ 16383 →
    (j.medium < 3 ∨ j.medium = 3 ∧ 14 ≤ j.len) →
    Gives (.txDescriptorFetch p desc) s fun t => (t.pair p).tx = some j ∧ t.hbr.rr = (p + 1) % 16 ∧
      t.outs = s.outs ++ [.hostRead p j.addr j.len] ∧ FieldsKept [] s t) ∧
  (∀ (s : State) (p : Nat) (desc : List Nat) (j : TxJob), s.logicUp = true → s.txTurn = some p → desc.length = 16 →
    j = { desc := desc, idx := s.rd HBR_TX_HEAD_IDX (pairIx p), at_ := s.now } →
    (j.len = 0 ∨ 16383 < j.len ∨ 3 < j.medium ∨ j.medium = 3 ∧ j.len < 14) →
    Gives (.txDescriptorFetch p desc) s fun t => ∃ e, (t.pair p).tx = some { j with result := some e } ∧ e.status = 5 ∧ t.outs = s.outs) ∧
  (∀ (s : State) (p : Nat) (j : TxJob) (e : CqEntry), s.logicUp = true → p < 16 → (s.pair p).tx = some j → j.result = some e →
    Gives (.txCompletion p) s fun t => (t.pair p).tx = none ∧ t.rd HBR_TX_HEAD_IDX (pairIx p) = (j.idx + 1) % 65536 ∧
      (if j.noCq = true ∧ e.status = 0 then t.outs = s.outs else
        t = ((s.setPair p { s.pair p with tx := none }).wr HBR_TX_HEAD_IDX (pairIx p) ((j.idx + 1) % 65536)).complete p e)) ∧
  (∀ (s : State) (p v : Nat), s.logicUp = true → p < 16 →
    Gives (.txTailWrite p v) s fun t => t.rd HBR_TX_TAIL_IDX (pairIx p) = v % 65536 ∧ FieldsKept [(HBR_TX_TAIL_IDX, pairIx p)] s t) ∧
  (∀ (s : State) (p v : Nat), s.logicUp = true → p < 16 →
    Gives (.rxTailWrite p v) s fun t => t.rd HBR_RX_TAIL_IDX (pairIx p) = v % 65536 ∧ FieldsKept [(HBR_RX_TAIL_IDX, pairIx p)] s t) ∧
  (∀ (s : State) (p v : Nat), s.logicUp = true → p < 16 →
    Gives (.cqRpWrite p v) s fun t => t.rd HBR_CQ_RP_IDX (pairIx p) = v % 131072 ∧
      (s.on HBR_RP_CTRL_VEC_EN (pairIx p) = true → v % 131072 ≠ s.rd HBR_CQ_WP_IDX (pairIx p) → (t.pair p).fresh = 0 ∧ (t.pair p).freshAt = none) ∧
      (s.on HBR_RP_CTRL_VEC_EN (pairIx p) = false → t.outs = s.outs ∧ t.hbr = s.hbr)) ∧
  (∀ (s : State) (p : Nat) (tx rx : Bool), s.logicUp = true → p < 16 →
    Gives (.ringEnableWrite p tx rx) s fun t => t.on HBR_RP_CTRL_TX_EN (pairIx p) = tx ∧ t.on HBR_RP_CTRL_RX_EN (pairIx p) = rx ∧
      (tx = true → s.on HBR_RP_CTRL_TX_EN (pairIx p) = false → t.rd HBR_TX_HEAD_IDX (pairIx p) = 0 ∧ t.rd HBR_TX_TAIL_IDX (pairIx p) = 0 ∧
        t.on HBR_RP_STAT_TX_HALT (pairIx p) = false) ∧
      (rx = true → s.on HBR_RP_CTRL_RX_EN (pairIx p) = false → t.rd HBR_RX_HEAD_IDX (pairIx p) = 0 ∧ t.rd HBR_RX_TAIL_IDX (pairIx p) = 0 ∧
        t.on HBR_RP_STAT_RX_HALT (pairIx p) = false) ∧
      (s.on HBR_RP_CTRL_TX_EN (pairIx p) = false → s.on HBR_RP_CTRL_RX_EN (pairIx p) = false → (tx = true ∨ rx = true) →
        t.rd HBR_CQ_WP_IDX (pairIx p) = 0 ∧ t.rd HBR_CQ_RP_IDX (pairIx p) = 0 ∧ (t.pair p).cq = {})) ∧
  (∀ (s : State) (p n : Nat), s.logicUp = true → p < 16 → s.on HBR_RP_CTRL_VEC_EN (pairIx p) = true → (s.pair p).fresh ≠ 0 →
    (s.pair p).freshAt = some n → n + 1000 * s.rd HBR_RP_COAL_US (pairIx p) ≤ s.now →
    Gives (.ringCoalTimeout p) s fun t => t = s.pairMessage p ∧ (t.pair p).fresh = 0 ∧ (t.pair p).freshAt = none)

/-- R579, with the block's logic up: RING_HALT of a direction whose EN is 1 sets its TX_HALT or RX_HALT and the RING_HALT condition and stops that
direction (no transmit descriptor of the pair is fetched; a received frame of a halted pair is dropped with RX_NO_BUF counted and the bridge as it
was); a RING_ENABLE_WRITE of its EN to 0 and then one to 1 leave the halt 0. -/
def Obligations.FailedFetchHaltsItsDirection : Prop :=
  (∀ (s : State) (p : Nat), s.logicUp = true → p < 16 → s.on HBR_RP_CTRL_TX_EN (pairIx p) = true →
    Gives (.ringHalt p false) s fun t => t.on HBR_RP_STAT_TX_HALT (pairIx p) = true ∧ bitOf (t.rd IRQ_RAW_BLOCK [pgHBR]) 2 = 1 ∧
      t.txServes p = false) ∧
  (∀ (s : State) (p : Nat), s.logicUp = true → p < 16 → s.on HBR_RP_CTRL_RX_EN (pairIx p) = true →
    Gives (.ringHalt p true) s fun t => t.on HBR_RP_STAT_RX_HALT (pairIx p) = true ∧ bitOf (t.rd IRQ_RAW_BLOCK [pgHBR]) 2 = 1) ∧
  (∀ (s : State) (it : QItem) (ds : List (Option (List Nat))), s.logicUp = true → s.hbr.rx = none → s.rxNext = some it →
    s.on HBR_RP_STAT_RX_HALT (pairIx (s.rxPair it.r)) = true →
    Gives (.iq0RxFrame ds) s fun t => Counted HBR_CNT_RX_NO_BUF_CNT [] s t ∧ t.hbr = s.hbr) ∧
  (∀ (s : State) (p : Nat) (a b : Bool), s.logicUp = true → p < 16 →
    Gives (.ringEnableWrite p false a) s fun u => u.logicUp = true ∧
      Gives (.ringEnableWrite p true b) u fun t => t.on HBR_RP_STAT_TX_HALT (pairIx p) = false) ∧
  (∀ (s : State) (p : Nat) (a b : Bool), s.logicUp = true → p < 16 →
    Gives (.ringEnableWrite p a false) s fun u => u.logicUp = true ∧
      Gives (.ringEnableWrite p b true) u fun t => t.on HBR_RP_STAT_RX_HALT (pairIx p) = false)

/-- R564, with the block's logic up and the semaphore below 32: ACQ by one master to a free semaphore gives it to that master, which OWNER shows,
the other fields as they were; to a held one it changes nothing. REL by the owner frees it, the other fields as they were; by the other master of a
held one it is ignored and SEM_BAD_REL counts one, nothing else of the bridge or the fields changing; of a free one nothing changes. -/
def Obligations.SemaphoresAcquireAndRelease : Prop :=
  (∀ (s : State) (n : Nat) (m : Master), s.logicUp = true → n < 32 → s.rd HBR_SEM_OWNER [n] = 0 →
    Gives (.semAcquire n (some m)) s fun t => t.rd HBR_SEM_OWNER [n] = Master.owner m ∧ FieldsKept [(HBR_SEM_OWNER, [n])] s t) ∧
  (∀ (s : State) (n : Nat) (m : Option Master), s.logicUp = true → n < 32 → s.rd HBR_SEM_OWNER [n] ≠ 0 →
    Gives (.semAcquire n m) s fun t => t = s) ∧
  (∀ (s : State) (n : Nat) (m : Master), s.logicUp = true → n < 32 → s.rd HBR_SEM_OWNER [n] = Master.owner m →
    Gives (.semRelease n m) s fun t => t.rd HBR_SEM_OWNER [n] = 0 ∧ FieldsKept [(HBR_SEM_OWNER, [n])] s t) ∧
  (∀ (s : State) (n : Nat) (m : Master), s.logicUp = true → n < 32 → s.rd HBR_SEM_OWNER [n] = Master.owner (Master.other m) →
    Gives (.semRelease n m) s fun t => t.rd HBR_SEM_OWNER [n] = s.rd HBR_SEM_OWNER [n] ∧ t.hbr = s.hbr ∧
      Counted HBR_CNT_SEM_BAD_REL_CNT [] s t ∧ FieldsKept [(HBR_CNT_SEM_BAD_REL_CNT, [])] s t) ∧
  (∀ (s : State) (n : Nat) (m : Master), s.logicUp = true → n < 32 → s.rd HBR_SEM_OWNER [n] = 0 → Gives (.semRelease n m) s fun t => t = s)

/-- R565: of two ACQ writes to a free semaphore in the same clock, the one of the master that lost the previous tie wins, on any semaphore; after
reset, and after LOGIC_DIE_UP of a start with the core supply on and the logic die down, the host wins the first; an ACQ of one master alone leaves
the tie. -/
def Obligations.SemaphoreTiesAlternate : Prop :=
  State.reset.hbr.tie = Master.host ∧
  (∀ (s : State), s.mode = .start → s.pwk.coreEn = true → s.logicUp = false → Gives .logicDieUp s fun t => t.hbr.tie = Master.host) ∧
  (∀ (s : State) (n k : Nat), s.logicUp = true → n < 32 → k < 32 → s.rd HBR_SEM_OWNER [n] = 0 →
    Gives (.semAcquire n none) s fun t => t.rd HBR_SEM_OWNER [n] = Master.owner s.hbr.tie ∧ t.hbr.tie = Master.other s.hbr.tie ∧
      ∀ u, u.logicUp = true → u.hbr.tie = t.hbr.tie → u.rd HBR_SEM_OWNER [k] = 0 →
        Gives (.semAcquire k none) u fun v => v.rd HBR_SEM_OWNER [k] = Master.owner (Master.other s.hbr.tie)) ∧
  (∀ (s : State) (n : Nat) (m : Master), s.logicUp = true → n < 32 → Gives (.semAcquire n (some m)) s fun t => t.hbr.tie = s.hbr.tie)

/-- A semaphore held longer than its limit is freed (R566), with the block's logic up and the semaphore below 32: its hold ends, TIMED_OUT is set,
interrupt 5 rises and SEM_TIMEOUT counts one; before the limit, and with a limit of 0, nothing changes. -/
def Obligations.SemaphoresTimeOut : Prop :=
  (∀ (s : State) (n a : Nat), s.logicUp = true → n < 32 → s.rd HBR_SEM_TMO_MS [] ≠ 0 → SMap.find? s.hbr.semAt n = some a →
    a + 1000000 * s.rd HBR_SEM_TMO_MS [] < s.now →
    Gives (.semTimeout n) s fun t => t.rd HBR_SEM_OWNER [n] = 0 ∧ SMap.find? t.hbr.semAt n = none ∧ t.on HBR_SEM_TIMED_OUT [n] = true ∧
      Raised pgHBR 5 s t ∧ Counted HBR_CNT_SEM_TIMEOUT_CNT [] s t) ∧
  (∀ (s : State) (n a : Nat), SMap.find? s.hbr.semAt n = some a → s.now ≤ a + 1000000 * s.rd HBR_SEM_TMO_MS [] →
    Gives (.semTimeout n) s fun t => t = s) ∧
  (∀ (s : State) (n : Nat), s.rd HBR_SEM_TMO_MS [] = 0 → Gives (.semTimeout n) s fun t => t = s)

/-- Going to sleep (R604–R607, R611–R613, Tables 17-1, 17-2). In RUN or ENTERING, SLEEP makes the mode ENTERING, sets PWK_STATUS.ENTERING, and
every region not asleep is entering with its AWAKE segments draining, the other segments as they were; SLEEP_NORTH and SLEEP_SOUTH do so for their
region, the mode as it was; in START and SLEEP each sets CMD_REJECT, the mode and the other fields as they were. In every mode but OFF, SLEEP of an
AWAKE segment below 56 is a sleep request: it drains, without an acknowledgement, from this time, and a T1 quay's TC10 request goes out; of another
it sets CMD_REJECT, the other fields as they were. With the block's logic up, on a T1 quay: a TC10 request to an AWAKE segment whose ACCEPT bit is
1 makes it drain as acknowledged and the accept goes out; with the bit 0 the reject goes out, sleep state and fields as they were; an
acknowledgement to a DRAINING segment is kept, no field changing; a rejection, or none within TMO_MS, makes it AWAKE, counts SLEEP_FAIL, raises
interrupt 2 and ends its region's entry. In every mode but OFF, an AWAKE segment of FW_MASK with no valid frame for FW_MS after its wake drains,
FALSE_WAKE counts and interrupt 3 rises. A wake recognised at a DRAINING segment, the logic up, makes it AWAKE, counts SLEEP_ABORT and sets VALID
of its front end's WAKE_STAT. -/
def Obligations.SegmentsGoToSleep : Prop :=
  (∀ (s : State), (s.mode = .run ∨ s.mode = .entering) →
    Gives .pwkSleep s fun t => t.mode = .entering ∧ t.on PWK_STATUS_ENTERING [] = true ∧
      (∀ r, r < 2 → t.regionState r = if s.regionState r = 2 then 2 else 1) ∧
      (∀ q, q < 56 → t.segment q = if s.segment q = 0 ∧ s.regionState (regionOf q) ≠ 2 then 1 else s.segment q)) ∧
  (∀ (s : State) (r : Nat), (s.mode = .run ∨ s.mode = .entering) → r < 2 →
    Gives (if r = 0 then .sleepNorth else .sleepSouth) s fun t => t.mode = s.mode ∧ t.regionState r = (if s.regionState r = 2 then 2 else 1) ∧
      (∀ q, q < 56 → t.segment q = if s.segment q = 0 ∧ regionOf q = r ∧ s.regionState r ≠ 2 then 1 else s.segment q)) ∧
  (∀ (s : State) (c : Instr), (s.mode = .start ∨ s.mode = .sleep) → c ∈ [Instr.pwkSleep, .sleepNorth, .sleepSouth] →
    Gives c s fun t => t.on PWK_STATUS_CMD_REJECT [] = true ∧ t.mode = s.mode ∧ FieldsKept [(PWK_STATUS_CMD_REJECT, [])] s t) ∧
  (∀ (s : State) (q : Nat), s.mode ≠ .off → q < 56 → s.segment q = 0 →
    Gives (.segSleep q) s fun t => t = s.sleepRequest q ∧ t.segment q = 1 ∧ (t.seg q).tc10Ack = false ∧ (t.seg q).tc10At = s.now ∧
      (isT1Q q = true → OutEvent.segment q 2 ∈ t.outs)) ∧
  (∀ (s : State) (q : Nat), s.mode ≠ .off → (56 ≤ q ∨ s.segment q ≠ 0) →
    Gives (.segSleep q) s fun t => t.on PWK_STATUS_CMD_REJECT [] = true ∧ FieldsKept [(PWK_STATUS_CMD_REJECT, [])] s t) ∧
  (∀ (s : State) (q : Nat), s.logicUp = true → isT1Q q = true → s.segment q = 0 → bitOf (s.rd PWK_TC10_ACCEPT []) (q - 48) = 1 →
    Gives (.tc10SleepRequest q) s fun t => t.segment q = 1 ∧ (t.seg q).tc10Ack = true ∧ OutEvent.segment q 3 ∈ t.outs) ∧
  (∀ (s : State) (q : Nat), s.logicUp = true → isT1Q q = true → s.segment q = 0 → bitOf (s.rd PWK_TC10_ACCEPT []) (q - 48) = 0 →
    Gives (.tc10SleepRequest q) s fun t => t.outs = s.outs ++ [.segment q 4] ∧ t.pwk = s.pwk ∧ FieldsKept [] s t) ∧
  (∀ (s : State) (q : Nat), s.logicUp = true → isT1Q q = true → s.segment q = 1 →
    Gives (.tc10SleepAck q true) s fun t => (t.seg q).tc10Ack = true ∧ FieldsKept [] s t) ∧
  (∀ (s : State) (q : Nat) (c : Instr), s.logicUp = true → isT1Q q = true → s.segment q = 1 → (c = .tc10SleepAck q false ∨
      c = .tc10SleepTimeout q ∧ (s.seg q).tc10Ack = false ∧ (s.seg q).tc10At + s.rd PWK_TC10_TMO_MS [] * 1000000 ≤ s.now) →
    Gives c s fun t => t.segment q = 0 ∧ Counted PWK_CNT_SLEEP_FAIL_CNT [] s t ∧ Raised pgPWK 2 s t ∧
      (s.regionState (regionOf q) = 1 → t.regionState (regionOf q) = 0)) ∧
  (∀ (s : State) (q n : Nat), s.mode ≠ .off → q < 56 → s.segment q = 0 → s.rd PWK_FW_MS [] ≠ 0 →
    s.quayMaskBit PWK_FW_MASK_LO_MASK PWK_FW_MASK_HI_MASK q = true → (s.seg q).fwFrom = some n →
    n + s.rd PWK_FW_MS [] * 1000000 ≤ s.now →
    Gives (.falseWakeTimeout q) s fun t => t.segment q = 1 ∧ Counted PWK_CNT_FALSE_WAKE_CNT [] s t ∧ Raised pgPWK 3 s t) ∧
  (∀ (s : State) (q k : Nat) (i : Option Nat), s.logicUp = true → q < 56 → s.segment q = 1 →
    Gives (.sleepAbort q k i) s fun t => t.segment q = 0 ∧ Counted PWK_CNT_SLEEP_ABORT_CNT [] s t ∧ t.on LFE_WAKE_STAT_VALID [q] = true)

/-- Commit points and dwell, segments below 56 (R404, R406, R407, R601, R606, R611–R613, R620, Table 17-2). With the logic up: a drained DRAINING
segment passes its commit point into DWELL: slept from this time, no wake held, WAKE_ARMED as its front end's page is enabled, SLEEPING or LOWPOWER
of its quay 1; one not drained stays as it was. In every mode but OFF: after DWELL_MS a segment with no wake held is ASLEEP and interrupt 6 rises,
the sleep state otherwise as it was; with one held, out of SLEEP, it is WAKING, LATE_WAKE counts and the wake is no longer held; in SLEEP within
the package's dwell it is ASLEEP, LATE_WAKE counts and a package wake for it is held; before DWELL_MS nothing changes. A WAKING segment whose quay
waits for no resumption is AWAKE, its false-wake timer from this time if it is in FW_MASK and FW_MS is not 0; its region's entry ends where one
runs, else the other fields are as they were. A region that is entering, its segments in DWELL or ASLEEP, is asleep from this time. The package,
entering with both regions asleep and no retained write, is in SLEEP: MODE 2, ENTERING, logic and RESTORE_DONE 0, INH the inverse of INH_SLEEP,
core off, every semaphore free. After the package's dwell a held wake starts it: START, MODE 0, INH 1, start cause 4, one more start, both regions
up, no wake held. -/
def Obligations.CommitPointsAndDwell : Prop :=
  (∀ (s : State) (q : Nat), s.logicUp = true → q < 56 → s.segment q = 1 → s.drained q = true →
    Gives (.segmentCommitPoint q) s fun t => t.segment q = 2 ∧ (t.seg q).sleptAt = s.now ∧ (t.seg q).held = false ∧
      t.on LFE_STATUS_WAKE_ARMED [q] = s.on PG_STATE_ENABLED [pgLFE q] ∧
      (if q < 32 then t.on QYC_STATUS_SLEEPING [q] = true else t.on QYE_STATUS_LOWPOWER [q] = true)) ∧
  (∀ (s : State) (q : Nat), s.segment q = 1 → s.drained q = false → Gives (.segmentCommitPoint q) s fun t => t = s) ∧
  (∀ (s : State) (q : Nat), s.mode ≠ .off → q < 56 → s.segment q = 2 → (s.seg q).sleptAt + s.rd PWK_DWELL_MS [] * 1000000 ≤ s.now →
    (s.seg q).held = false →
    Gives (.dwellEnd q) s fun t => t.segment q = 3 ∧ Raised pgPWK 6 s t ∧ t.pwk = s.pwk) ∧
  (∀ (s : State) (q : Nat), s.mode ≠ .off → s.mode ≠ .sleep → q < 56 → s.segment q = 2 →
    (s.seg q).sleptAt + s.rd PWK_DWELL_MS [] * 1000000 ≤ s.now → (s.seg q).held = true →
    Gives (.dwellEnd q) s fun t => t.segment q = 4 ∧ Counted PWK_CNT_LATE_WAKE_CNT [] s t ∧ (t.seg q).held = false) ∧
  (∀ (s : State) (q : Nat), s.mode = .sleep → q < 56 → s.segment q = 2 → (s.seg q).sleptAt + s.rd PWK_DWELL_MS [] * 1000000 ≤ s.now →
    (s.seg q).held = true → s.now < s.pwk.pkgAt + s.rd PWK_DWELL_MS [] * 1000000 →
    Gives (.dwellEnd q) s fun t => t.segment q = 3 ∧ Counted PWK_CNT_LATE_WAKE_CNT [] s t ∧ t.pwk.pkgWake = true ∧
      t.pwk.pkgSegs = s.pwk.pkgSegs ++ [q]) ∧
  (∀ (s : State) (q : Nat), s.mode ≠ .off → s.segment q = 2 → s.now < (s.seg q).sleptAt + s.rd PWK_DWELL_MS [] * 1000000 →
    Gives (.dwellEnd q) s fun t => t = s) ∧
  (∀ (s : State) (q : Nat), s.logicUp = true → q < 56 → s.segment q = 4 → (s.quay q).resume = false →
    Gives (.segmentAwake q) s fun t => t.segment q = 0 ∧ (s.regionState (regionOf q) = 1 → t.regionState (regionOf q) = 0) ∧
      (s.regionState (regionOf q) ≠ 1 → FieldsKept [(PWK_SEG_STATE_STATE, [q / 8, q % 8])] s t) ∧
      (t.seg q).fwFrom = if s.quayMaskBit PWK_FW_MASK_LO_MASK PWK_FW_MASK_HI_MASK q = true ∧ s.rd PWK_FW_MS [] ≠ 0 then some s.now else none) ∧
  (∀ (s : State) (r : Nat), s.logicUp = true → r ≤ 1 → s.regionState r = 1 → (∀ q ∈ regionSegments r, s.segment q = 2 ∨ s.segment q = 3) →
    Gives (.regionCommitPoint r) s fun t => t.regionState r = 2 ∧ (if r = 0 then t.pwk.northAt = s.now else t.pwk.southAt = s.now)) ∧
  (∀ (s : State), s.logicUp = true → s.mode = .entering → s.regionState 0 = 2 → s.regionState 1 = 2 → s.retIdle = true →
    Gives .packageCommitPoint s fun t => t.mode = .sleep ∧ t.on PWK_STATUS_ENTERING [] = false ∧ t.rd DEV_STATUS_MODE [] = 2 ∧ t.logicUp = false ∧
      t.on DEV_STATUS_RESTORE_DONE [] = false ∧ t.on PWK_STATUS_INH [] = !s.on PWK_CTRL_INH_SLEEP [] ∧ t.pwk.pkgAt = s.now ∧
      t.pwk.coreEn = false ∧ ∀ n, n < 32 → t.rd HBR_SEM_OWNER [n] = 0) ∧
  (∀ (s : State), s.mode = .sleep → s.pwk.pkgWake = true → s.pwk.pkgAt + s.rd PWK_DWELL_MS [] * 1000000 ≤ s.now →
    Gives .packageDwellEnd s fun t => t.mode = .start ∧ t.rd DEV_STATUS_MODE [] = 0 ∧ t.on PWK_STATUS_INH [] = true ∧ t.pwk.fromSleep = true ∧
      t.pwk.startCause = 4 ∧ t.sup.startCount = (s.sup.startCount + 1) % 2 ^ 32 ∧ t.regionState 0 = 0 ∧ t.regionState 1 = 0 ∧ t.pwk.pkgWake = false)

/-- Wakes and their records (R601, R604, R608, R613, R614, R617–R619, R621, R637, Tables 17-4, 17-5). WAKE by a master ends a package entry, RUN
again; in SLEEP it starts the package with INH 1 once the package's dwell has passed, and before that it is held. In RUN or ENTERING, WAKE_NORTH
and WAKE_SOUTH leave the region up where it was up, asleep or entering with a DRAINING segment, and of its segments the DRAINING ones AWAKE, the
ASLEEP ones WAKING, the others as they were. WAKE of a segment below 56 in DRAINING, DWELL or ASLEEP, out of SLEEP: AWAKE, held in DWELL, WAKING;
of another CMD_REJECT is set, the other fields as they were. A new level of a WAKE pin is shown in PINS; where the pin is off, its level not new or
the edge not selected the other fields and the sleep state stand; a selected edge with TARGET 3 raises interrupt 4. The sleep timer, the package's
dwell past, starts the package. Where no waiting record has the present always-on clock, the segment's wake pushes a record with the kind of its
master and the segment, the pin's edge one of kind 1 with the pin, the timer one of kind 4 with 0x3F; where the newest record is a command's or the
timer's of this clock, and it alone, a pin's record stands before it (R618). A pop of the empty queue gives FLAGS 0, the sleep state as it was;
else VALID, the oldest record's kind, source, front-end kind and ID_VALID, the rest left. -/
def Obligations.WakesAndTheirRecords : Prop :=
  (∀ (s : State) (m : Master), s.mode = .entering → s.on PWK_STATUS_ENTERING [] = true →
    Gives (.pwkWake m) s fun t => t.mode = .run ∧ t.on PWK_STATUS_ENTERING [] = false) ∧
  (∀ (s : State) (m : Master), s.mode = .sleep → s.pwk.pkgAt + s.rd PWK_DWELL_MS [] * 1000000 ≤ s.now →
    Gives (.pwkWake m) s fun t => t.mode = .start ∧ t.on PWK_STATUS_INH [] = true) ∧
  (∀ (s : State) (m : Master), s.mode = .sleep → s.now < s.pwk.pkgAt + s.rd PWK_DWELL_MS [] * 1000000 →
    Gives (.pwkWake m) s fun t => t.mode = .sleep ∧ t.pwk.pkgWake = true) ∧
  (∀ (s : State) (m : Master) (r : Nat), (s.mode = .run ∨ s.mode = .entering) → r < 2 →
    Gives (if r = 0 then .wakeNorth m else .wakeSouth m) s fun t => ((s.regionState r = 0 ∨ s.regionState r = 2 ∨
        s.regionState r = 1 ∧ ∃ q ∈ regionSegments r, s.segment q = 1) → t.regionState r = 0) ∧ (∀ q ∈ regionSegments r,
      t.segment q = if s.segment q = 1 then 0 else if s.segment q = 3 then 4 else s.segment q)) ∧
  (∀ (s : State) (m : Master) (q : Nat), s.mode ≠ .off → s.mode ≠ .sleep → q < 56 → 1 ≤ s.segment q → s.segment q ≤ 3 →
    Gives (.segWake q m) s fun t => t.segment q = (if s.segment q = 1 then 0 else if s.segment q = 3 then 4 else 2) ∧
      (s.segment q = 2 → (t.seg q).held = true) ∧ ((∀ x ∈ s.pwk.wakes.items ++ s.pwk.wakes.after, x.clock ≠ s.aonClock) →
        ∃ w, t.pwk.wakes = (s.pwk.wakes.push 32 w s.stamp).1 ∧ w.kind = commandKind m ∧ w.src = q)) ∧
  (∀ (s : State) (m : Master) (q : Nat), s.mode ≠ .off → (56 ≤ q ∨ s.segment q = 0 ∨ 4 ≤ s.segment q) →
    Gives (.segWake q m) s fun t => t.on PWK_STATUS_CMD_REJECT [] = true ∧ FieldsKept [(PWK_STATUS_CMD_REJECT, [])] s t) ∧
  (∀ (s : State) (n l : Nat), s.mode ≠ .off → n < 4 → l ≤ 1 →
    (s.on PWK_PIN_CFG_EN [n] = false ∨ bitOf (s.rd PWK_STATUS_PINS []) n = l ∨ bitOf (s.rd PWK_PIN_CFG_EDGE [n]) (1 - l) = 0) →
    Gives (.wakePinEvent n l) s fun t => bitOf (t.rd PWK_STATUS_PINS []) n = l ∧ FieldsKept [(PWK_STATUS_PINS, [])] s t ∧ t.pwk = s.pwk) ∧
  (∀ (s : State) (n l : Nat), s.mode ≠ .off → n < 4 → l ≤ 1 → s.on PWK_PIN_CFG_EN [n] = true → bitOf (s.rd PWK_STATUS_PINS []) n ≠ l →
    bitOf (s.rd PWK_PIN_CFG_EDGE [n]) (1 - l) = 1 → s.rd PWK_PIN_CFG_TARGET [n] = 3 →
    Gives (.wakePinEvent n l) s fun t => bitOf (t.rd PWK_STATUS_PINS []) n = l ∧ Raised pgPWK 4 s t ∧ ((∀ x ∈ s.pwk.wakes.items ++ s.pwk.wakes.after, x.clock ≠ s.aonClock) →
        ∃ w, t.pwk.wakes = (s.pwk.wakes.push 32 w s.stamp).1 ∧ w.kind = 1 ∧ w.src = n)) ∧
  (∀ (s : State) (n l : Nat) (a : List WakeRec) (x : WakeRec), s.mode ≠ .off → n < 4 → l ≤ 1 → s.on PWK_PIN_CFG_EN [n] = true →
    bitOf (s.rd PWK_STATUS_PINS []) n ≠ l → bitOf (s.rd PWK_PIN_CFG_EDGE [n]) (1 - l) = 1 → s.rd PWK_PIN_CFG_TARGET [n] = 3 →
    s.pwk.wakes = { items := a ++ [x] } → a.length < 31 → (∀ y ∈ a, y.clock ≠ s.aonClock) → x.clock = s.aonClock → (x.kind = 2 ∨ x.kind = 3 ∨ x.kind = 4) →
    Gives (.wakePinEvent n l) s fun t => ∃ w, t.pwk.wakes = { items := a ++ [w, x] } ∧ w.kind = 1 ∧ w.src = n) ∧
  (∀ (s : State), s.mode = .sleep → s.rd PWK_TIMER_MS [] ≠ 0 → s.pwk.pkgAt + s.rd PWK_TIMER_MS [] * 1000000 ≤ s.now →
    s.pwk.pkgAt + s.rd PWK_DWELL_MS [] * 1000000 ≤ s.now →
    Gives .sleepTimerExpiry s fun t => t.mode = .start ∧ ((∀ x ∈ s.pwk.wakes.items ++ s.pwk.wakes.after, x.clock ≠ s.aonClock) →
        ∃ w, t.pwk.wakes = (s.pwk.wakes.push 32 w s.stamp).1 ∧ w.kind = 4 ∧ w.src = 0x3F)) ∧
  (∀ (s : State), s.mode ≠ .off → s.pwk.wakes = {} →
    Gives .pwkWakePop s fun t => t.rd PWK_WAKE_RES0_FLAGS [] = 0 ∧ t.pwk = s.pwk) ∧
  (∀ (s : State) (w : WakeRec) (l : List WakeRec), s.mode ≠ .off → s.pwk.wakes.items = w :: l →
    Gives .pwkWakePop s fun t => t.pwk.wakes = { s.pwk.wakes with items := l } ∧ 64 ≤ t.rd PWK_WAKE_RES0_FLAGS [] ∧
      t.rd PWK_WAKE_RES0_KIND [] = w.kind % 2 ^ PWK_WAKE_RES0_KIND.width ∧ t.rd PWK_WAKE_RES0_SRC [] = w.src % 2 ^ PWK_WAKE_RES0_SRC.width ∧
      t.rd PWK_WAKE_RES0_LFE_KIND [] = w.lfeKind % 2 ^ PWK_WAKE_RES0_LFE_KIND.width ∧ t.on PWK_WAKE_RES1_ID_VALID [] = w.ident.isSome)

/-- Power and start (R423, R549, R601, R627, R683, R686, R688, R703). POWER_ON without VBAT brings it, start cause 0; with RST_N high the mode is
START with one more start and the registers as they were. In START: VBAT_STABLE of an unpowered package powers it with INH 1, the other fields as
they were; SWITCHED_RAILS_IN_RANGE of a powered one raises CORE_EN; LOGIC_DIE_UP with CORE_EN brings the logic up with harbour time 0 and unset,
still START, elapsed time as it was; RESTORE_COMPLETE with the logic up gives RUN, RESTORE_DONE, MODE 1 and the start's cause, no longer from
SLEEP. RST_N_LOW out of OFF, no retained write running, goes to OFF with no register and nothing staged, RST_N low, start cause 1, VBAT, elapsed
time and the retained contents as they were; in OFF it notes RST_N low. RST_N_RELEASE in OFF with VBAT is START with one more start, RST_N high;
else it notes RST_N high. VBAT_LOSS with VBAT, no retained write running, goes to OFF with no register, start cause 0, the retained contents as
they were; without VBAT nothing changes. -/
def Obligations.PowerAndStart : Prop :=
  (∀ (s : State), s.pwk.vbat = false → s.pwk.rstLow = false →
    Gives .powerOn s fun t => t.mode = .start ∧ t.pwk = { s.pwk with vbat := true, startCause := 0 } ∧
      t.sup.startCount = (s.sup.startCount + 1) % 2 ^ 32 ∧ t.regs = s.regs) ∧
  (∀ (s : State), s.pwk.vbat = false → s.pwk.rstLow = true →
    Gives .powerOn s fun t => t = s.setPwk { s.pwk with vbat := true, startCause := 0 }) ∧
  (∀ (s : State), s.mode = .start → s.pwk.vbat = true → s.pwk.powered = false →
    Gives .vbatStable s fun t => t.pwk = { s.pwk with powered := true } ∧ t.on PWK_STATUS_INH [] = true ∧
      FieldsKept [(PWK_STATUS_INH, [])] s t) ∧
  (∀ (s : State), s.mode = .start → s.pwk.powered = true →
    Gives .switchedRailsInRange s fun t => t = s.setPwk { s.pwk with coreEn := true }) ∧
  (∀ (s : State), s.mode = .start → s.pwk.coreEn = true → s.logicUp = false →
    Gives .logicDieUp s fun t => t.logicUp = true ∧ t.count = 0 ∧ t.on HCK_STATUS_SET [] = false ∧ t.mode = .start ∧ t.now = s.now) ∧
  (∀ (s : State) (a b c : List Nat), s.logicUp = true → s.on DEV_STATUS_RESTORE_DONE [] = false → s.mode = .start →
    Gives (.restoreComplete a b c) s fun t => t.mode = .run ∧ t.on DEV_STATUS_RESTORE_DONE [] = true ∧ t.rd DEV_STATUS_MODE [] = 1 ∧
      t.rd SUP_RESET_CAUSE_START [] = s.pwk.startCause % 2 ^ SUP_RESET_CAUSE_START.width ∧ t.pwk.fromSleep = false) ∧
  (∀ (s : State), s.mode ≠ .off → s.ret.active = none →
    Gives .rstNLow s fun t => t.mode = .off ∧ t.regs = [] ∧ t.staged = [] ∧ t.pwk.rstLow = true ∧ t.pwk.startCause = 1 ∧
      t.pwk.vbat = s.pwk.vbat ∧ t.ret.store = s.ret.store ∧ t.kwl.ret = s.kwl.ret ∧ t.now = s.now) ∧
  (∀ (s : State), s.mode = .off → Gives .rstNLow s fun t => t = s.setPwk { s.pwk with rstLow := true }) ∧
  (∀ (s : State), s.mode = .off → s.pwk.vbat = true →
    Gives .rstNRelease s fun t => t.mode = .start ∧ t.pwk = { s.pwk with rstLow := false } ∧
      t.sup.startCount = (s.sup.startCount + 1) % 2 ^ 32) ∧
  (∀ (s : State), (s.mode ≠ .off ∨ s.pwk.vbat = false) →
    Gives .rstNRelease s fun t => t = s.setPwk { s.pwk with rstLow := false }) ∧
  (∀ (s : State), s.pwk.vbat = true → s.ret.active = none →
    Gives .vbatLoss s fun t => t.mode = .off ∧ t.regs = [] ∧ t.pwk = { vbat := false, rstLow := s.pwk.rstLow, startCause := 0 } ∧
      t.ret.store = s.ret.store ∧ t.kwl.ret = s.kwl.ret) ∧
  (∀ (s : State), s.pwk.vbat = false → Gives .vbatLoss s fun t => t = s)

/-- Slot commits and loads, in every mode but OFF (R111, R624–R626, R628–R630, Tables 17-8 to 17-10). COMMIT while one is busy, a load is open or
the logic is down sets CMD_REJECT, the store and the other fields as they were; else, with no active image or one of at most 0x380000 bytes, both
COMMIT_BUSY are 1 and the commit is held for the slot that R624 chooses with the next sequence and this time; of a larger image it ends with result
3, cause 2, COMMIT_FAIL counted and no commit. SLOT_COMMIT_END with the snapshot taken, nothing left and no write of it to come ends it: results 1,
cause 0, COMMIT counted, interrupt 0 of RET and 4 of TID; before that nothing changes. LOAD_OPEN with neither busy opens a load of that slot and
queues the zeroing of its header, and else sets CMD_REJECT, the store as it was. LOAD_SEAL of an open load with no bytes collected and no write to
come queues its header where the CRC is valid, and else ends the load with cause 5 and interrupt 1; with none open it sets CMD_REJECT. LOAD_ABORT
ends a load with cause 6 and interrupt 1, and with none sets CMD_REJECT, the store as it was. RET_LOAD_DATA_WRITE with no load open changes
nothing; within the slot, none collected and not closing a 64 KiB piece, its four bytes are collected at the address, which goes on by one word,
the header as it was from offset 64 on. -/
def Obligations.SlotCommitsAndLoads : Prop :=
  (∀ (s : State), s.mode ≠ .off → (s.on RET_STATUS_COMMIT_BUSY [] = true ∨ s.on RET_STATUS_LOAD_OPEN [] = true ∨ s.logicUp = false) →
    Gives .retCommit s fun t => t.on RET_STATUS_CMD_REJECT [] = true ∧ t.ret = s.ret ∧ FieldsKept [(RET_STATUS_CMD_REJECT, [])] s t) ∧
  (∀ (s : State), s.mode ≠ .off → s.on RET_STATUS_COMMIT_BUSY [] = false → s.on RET_STATUS_LOAD_OPEN [] = false → s.logicUp = true →
    (s.tid.hasActive = false ∨ imgLen s.tid.active ≤ 0x380000) →
    Gives .retCommit s fun t => t.on RET_STATUS_COMMIT_BUSY [] = true ∧ t.on TID_STATUS_COMMIT_BUSY [] = true ∧
      t.rd RET_STATUS_TARGET [] = s.slotTarget % 2 ∧ t.ret = { s.ret with
        commit := some { target := s.slotTarget, seq := s.slotNextSeq, at_ := s.now } }) ∧
  (∀ (s : State), s.mode ≠ .off → s.on RET_STATUS_COMMIT_BUSY [] = false → s.on RET_STATUS_LOAD_OPEN [] = false → s.logicUp = true →
    s.tid.hasActive = true → 0x380000 < imgLen s.tid.active →
    Gives .retCommit s fun t => t.rd RET_STATUS_COMMIT_RESULT [] = 3 ∧ t.rd RET_STATUS_CAUSE [] = 2 ∧ t.on RET_STATUS_COMMIT_BUSY [] = false ∧
      Counted RET_CNT_COMMIT_FAIL_CNT [] s t ∧ t.ret.commit = none) ∧
  (∀ (s : State) (c : CommitSt), s.mode ≠ .off → s.ret.commit = some c → c.snapped = true → c.left = [] → s.commitWrites = false →
    Gives .slotCommitEnd s fun t => t.ret.commit = none ∧ t.on RET_STATUS_COMMIT_BUSY [] = false ∧ t.on TID_STATUS_COMMIT_BUSY [] = false ∧
      t.rd RET_STATUS_COMMIT_RESULT [] = 1 ∧ t.rd RET_STATUS_CAUSE [] = 0 ∧ t.rd TID_STATUS_COMMIT_RESULT [] = 1 ∧
      Counted RET_CNT_COMMIT_CNT [] s t ∧ Raised pgRET 0 s t ∧ Raised pgTID 4 s t) ∧
  (∀ (s : State) (c : CommitSt), s.mode ≠ .off → s.ret.commit = some c → (c.snapped = false ∨ c.left ≠ [] ∨ s.commitWrites = true) →
    Gives .slotCommitEnd s fun t => t = s) ∧
  (∀ (s : State), s.mode ≠ .off → s.on RET_STATUS_COMMIT_BUSY [] = false → s.on RET_STATUS_LOAD_OPEN [] = false →
    Gives .loadOpen s fun t => t.on RET_STATUS_LOAD_OPEN [] = true ∧ t.rd RET_STATUS_TARGET [] = s.slotTarget % 2 ∧
      t.ret = { s.ret with
        load := some { target := s.slotTarget }
        queue := s.ret.queue ++ [{ owner := .load, addr := slotBase s.slotTarget, data := zeroBytes 64, need := 200 }] }) ∧
  (∀ (s : State), s.mode ≠ .off → (s.on RET_STATUS_COMMIT_BUSY [] = true ∨ s.on RET_STATUS_LOAD_OPEN [] = true) →
    Gives .loadOpen s fun t => t.on RET_STATUS_CMD_REJECT [] = true ∧ t.ret = s.ret) ∧
  (∀ (s : State) (l : LoadSt), s.mode ≠ .off → s.ret.load = some l → l.sealing = 0 → l.piece = [] → s.loadWrites = false →
    s.slotCrcOk l.target (padTo 64 l.header) = true →
    Gives .loadSeal s fun t => t.ret.load = some { l with sealing := 2 } ∧
      t.ret.queue = s.ret.queue ++ [{ owner := .load, addr := slotBase l.target, data := padTo 64 l.header, need := 200 }]) ∧
  (∀ (s : State) (l : LoadSt), s.mode ≠ .off → s.ret.load = some l → l.sealing = 0 → l.piece = [] → s.loadWrites = false →
    s.slotCrcOk l.target (padTo 64 l.header) = false →
    Gives .loadSeal s fun t => t.ret.load = none ∧ t.on RET_STATUS_LOAD_OPEN [] = false ∧ t.rd RET_STATUS_CAUSE [] = 5 ∧ Raised pgRET 1 s t) ∧
  (∀ (s : State), s.mode ≠ .off → s.openLoad = none →
    Gives .loadSeal s fun t => t.on RET_STATUS_CMD_REJECT [] = true ∧ t.ret = s.ret) ∧
  (∀ (s : State) (l : LoadSt), s.mode ≠ .off → s.ret.load = some l →
    Gives .loadAbort s fun t => t.ret.load = none ∧ t.on RET_STATUS_LOAD_OPEN [] = false ∧ t.rd RET_STATUS_CAUSE [] = 6 ∧ Raised pgRET 1 s t) ∧
  (∀ (s : State), s.mode ≠ .off → s.ret.load = none →
    Gives .loadAbort s fun t => t.on RET_STATUS_CMD_REJECT [] = true ∧ t.ret = s.ret) ∧
  (∀ (s : State) (v : Word), s.mode ≠ .off → s.openLoad = none → Gives (.retLoadDataWrite v) s fun t => t = s) ∧
  (∀ (s : State) (l : LoadSt) (v : Word) (a : Nat), s.mode ≠ .off → s.ret.load = some l → l.sealing = 0 → l.piece = [] →
    a = 4 * s.rd RET_LOAD_ADDR_ADDR [] → a + 4 ≤ slotSize → (a + 4) % 65536 ≠ 0 →
    Gives (.retLoadDataWrite v) s fun t => t.rd RET_LOAD_ADDR_ADDR [] = (a / 4 + 1) % 2 ^ RET_LOAD_ADDR_ADDR.width ∧
      (∃ x, t.ret = { s.ret with load := some x } ∧ x.target = l.target ∧ x.sealing = 0 ∧ x.piece.map Prod.fst = [a, a + 1, a + 2, a + 3] ∧
        x.piece.map Prod.snd = leBytes 4 v.toNat ∧ (64 ≤ a → x.header = l.header)))

/-- Error records, in every mode but OFF (R639–R642, R645, R647, Table 18-1). ERROR_REPORT without an error and with none on its way changes
nothing; with one the unit reports it and the oldest report reaches the supervisor. A report of a level below 3 and no failed slice, of a unit
without an OPEN record and with an ID free: the report is gone, SUP_CNT_RECORDS counts one, and a free ID holds an OPEN record of its level, code,
page, sub-unit and detail from this time; of a unit with an OPEN record of at least its level and the ceiling: the report is gone, SUP_CNT_REPEAT
counts one, ESCALATE stands, and the record keeps its level, one repeat more up to 255, with this code and time as its last. SUP_REC_ACK closes the
OPEN record of the ID, and writes it to the history if its level is at least HIST_MIN; an ID without a record changes nothing. AUTO_ACK_TIMEOUT
closes the one record that is due, AUTO_ACK_MS not 0; with none due nothing changes. SUP_REC_POP shows the record of the oldest unread ID, which
leaves the queue; of an empty one VALID is 0. SUP_REC_SEL shows the record of the ID, or VALID 0 without one; the supervisor stands. -/
def Obligations.ErrorRecords : Prop :=
  (∀ (s : State), s.mode ≠ .off → s.errLines = [] → Gives (.errorReport none) s fun t => t = s) ∧
  (∀ (s : State) (e : UnitErr), s.mode ≠ .off → Gives (.errorReport (some e)) s fun t => t = (s.unitError e).takeError) ∧
  (∀ (s : State) (e : ErrReport) (l : List ErrReport), s.mode ≠ .off → s.errLines = e :: l → s.openRec e.page (errSub e) = none →
    s.freeIds ≠ [] → actsItself e = false →
    Gives (.errorReport none) s fun t => t.errLines = l ∧ Counted SUP_CNT_RECORDS_CNT [] s t ∧ ∃ id r, id ∈ s.freeIds ∧
      SMap.find? t.sup.recs id = some r ∧ r.opened = true ∧ r.level = e.level ∧ r.code = e.code ∧ r.page = e.page ∧ r.sub = errSub e ∧
      r.detail = e.detail ∧ r.firstAt = s.now) ∧
  (∀ (s : State) (e : ErrReport) (l : List ErrReport) (id : Nat) (r : SupRec), s.mode ≠ .off → s.errLines = e :: l →
    s.openRec e.page (errSub e) = some (id, r) → e.level ≤ r.level → s.rd SUP_ESC_CEIL [] ≤ r.level → actsItself e = false →
    Gives (.errorReport none) s fun t => t.errLines = l ∧ Counted SUP_CNT_REPEAT_CNT [] s t ∧
      t.rd SUP_CNT_ESCALATE_CNT [] = s.rd SUP_CNT_ESCALATE_CNT [] ∧ ∃ x, SMap.find? t.sup.recs id = some x ∧ x.level = r.level ∧
      x.repeats = min 255 (r.repeats + 1) ∧ x.lastCode = e.code ∧ x.lastAt = s.now) ∧
  (∀ (s : State) (n : Nat) (r : SupRec), s.mode ≠ .off → SMap.find? s.sup.recs (n % 64) = some r → r.opened = true →
    Gives (.supRecAck n) s fun t => SMap.find? t.sup.recs (n % 64) = some { r with opened := false } ∧ t.sup.history =
      (if s.rd SUP_ESC_HIST_MIN [] ≤ r.level then s.sup.history ++ [({ r with opened := false }.bytes (n % 64), 0, none)] else s.sup.history)) ∧
  (∀ (s : State) (n : Nat), s.mode ≠ .off → SMap.find? s.sup.recs (n % 64) = none → Gives (.supRecAck n) s fun t => t = s) ∧
  (∀ (s : State) (n : Nat) (r : SupRec), s.mode ≠ .off → s.rd SUP_ESC_AUTO_ACK_MS [] ≠ 0 → SMap.find? s.sup.recs n = some r →
    r.opened = true → r.lastAt + s.rd SUP_ESC_AUTO_ACK_MS [] * 1000000 ≤ s.now →
    (∀ p ∈ s.sup.recs, p.2.opened = true → p.2.lastAt + s.rd SUP_ESC_AUTO_ACK_MS [] * 1000000 ≤ s.now → p.1 = n) →
    Gives .autoAckTimeout s fun t => SMap.find? t.sup.recs n = some { r with opened := false }) ∧
  (∀ (s : State), s.mode ≠ .off → (∀ p ∈ s.sup.recs, p.2.opened = true → s.now < p.2.lastAt + s.rd SUP_ESC_AUTO_ACK_MS [] * 1000000) →
    Gives .autoAckTimeout s fun t => t = s) ∧
  (∀ (s : State), s.mode ≠ .off → s.sup.unread = {} →
    Gives .supRecPop s fun t => t.rd SUP_REC [0] < 2 ^ 31 ∧ t.sup = s.sup) ∧
  (∀ (s : State) (n : Nat) (r : SupRec) (l : List Nat), s.mode ≠ .off → s.sup.unread.items = n :: l → SMap.find? s.sup.recs n = some r →
    Gives .supRecPop s fun t => t.sup = { s.sup with unread := { s.sup.unread with items := l } } ∧
      ∀ k, k < 6 → t.rd SUP_REC [k] = (r.words n).getD k 0 % 2 ^ 32) ∧
  (∀ (s : State) (n : Nat) (r : SupRec), s.mode ≠ .off → SMap.find? s.sup.recs (n % 64) = some r →
    Gives (.supRecSel n) s fun t => t.sup = s.sup ∧ ∀ k, k < 6 → t.rd SUP_REC [k] = (r.words (n % 64)).getD k 0 % 2 ^ 32) ∧
  (∀ (s : State) (n : Nat), s.mode ≠ .off → SMap.find? s.sup.recs (n % 64) = none →
    Gives (.supRecSel n) s fun t => t.sup = s.sup ∧ t.rd SUP_REC [0] < 2 ^ 31)

/-- Resets, in every mode but OFF (R28, R30, R31, R652, R655, R656, R673). A write of SUP_CMD with one of
their codes by a master that reaches the answering page is that reset command in the master's name. CLUSTER_RESET, REGION_RESET, DIE_RESET and
UNIT_RESET of a target that exists, in a master's name, no request of the other in this clock: inside a reset in progress the master is added to those that asked for it and nothing
else changes; else it absorbs those it contains, with those that asked for them, and waits last, RESET_BUSY 1, the other fields as they were. With
one waiting that the other master asked for in this clock, of another size, one reset stands: the larger, asked for by both. A target that does not
exist sets CMD_REJECT, the supervisor and the other fields as they were. PACKAGE_RESET absorbs every reset, cause 3, RESET_BUSY 1, and with no
record writes event 0x22 with its cause to the history; during one its master is added and nothing else changes. RESET_DONE with none waiting, or a
package reset whose records are not yet tried, changes nothing; a first reset other than the package's is carried out, shown as the last with those
that asked for it, and raises interrupt 7; a unit of the logic die that is down leaves the queue likewise. With none waiting, REGION_RETRY_MS after
North's, or else South's, safe state began, that region's reset is asked for once, and SAFE_RESET_MS after the die's, no scan running, the die's
with cause 2; RESET_BUSY 1. -/
def Obligations.ResetsAreAskedAndDone : Prop :=
  (∀ (s : State) (m : Master) (v : Word) (c : Instr), s.reaches m = true → s.answers pgSUP = true →
    (v.toNat / 2 ^ 28, c) ∈ [(1, Instr.unitReset), (2, .clusterReset), (3, .regionReset), (4, .dieReset), (5, .packageReset)] →
    Gives (.registerWrite m (4096 * pgSUP + 0x84) v false) s fun t => exec c (s.setSup { s.sup with caller := m }) = .next t) ∧
  (∀ (s : State) (c : Instr) (m : Master) (x : Scope) (n : Nat), s.mode ≠ .off → m = s.sup.caller → (c = .clusterReset ∧ s.rd SUP_CMD_ARG_TARGET [] < 8 ∧
      x = .cluster (s.rd SUP_CMD_ARG_TARGET []) ∧ n = 0 ∨ c = .regionReset ∧ s.rd SUP_CMD_ARG_TARGET [] < 2 ∧
      x = .region (s.rd SUP_CMD_ARG_TARGET []) ∧ n = 0 ∨ c = .dieReset ∧ x = .die ∧ n = 1 ∨
      c = .unitReset ∧ n = 0 ∧ ∃ pg, pageOfId (s.rd SUP_CMD_ARG_TARGET []) = some pg ∧ x = .unit pg) →
    (∀ y ∈ s.sup.resets, s.sameClock x (some m) y = false) →
    Gives c s fun t => if s.sup.resets.any (fun y => scopeIn x y.scope) = true
      then t = s.setSup { s.sup with
        resets := s.sup.resets.map fun y => if scopeIn x y.scope then { y with asked := askedToo y.asked [m] } else y }
      else t.sup = { s.sup with resets := (s.sup.resets.filter fun y => !scopeIn y.scope x) ++ [{
          scope := x, cause := n, clock := s.aonClock
          asked := askedToo ((s.sup.resets.filter fun y => scopeIn y.scope x).foldl (fun l y => askedToo l y.asked) []) [m] }] } ∧
        t.on SUP_STATUS_RESET_BUSY [] = true ∧ FieldsKept [(SUP_STATUS_RESET_BUSY, [])] s t) ∧
  (∀ (s : State) (c : Instr) (m : Master) (x : Scope) (n : Nat) (y : ResetReq), s.mode ≠ .off → m = s.sup.caller → (c = .clusterReset ∧ s.rd SUP_CMD_ARG_TARGET [] < 8 ∧
      x = .cluster (s.rd SUP_CMD_ARG_TARGET []) ∧ n = 0 ∨ c = .regionReset ∧ s.rd SUP_CMD_ARG_TARGET [] < 2 ∧
      x = .region (s.rd SUP_CMD_ARG_TARGET []) ∧ n = 0 ∨ c = .dieReset ∧ x = .die ∧ n = 1 ∨
      c = .unitReset ∧ n = 0 ∧ ∃ pg, pageOfId (s.rd SUP_CMD_ARG_TARGET []) = some pg ∧ x = .unit pg) →
    s.sup.resets = [y] → y.clock = s.aonClock → y.asked = [Master.other m] → scopeRank y.scope ≠ scopeRank x →
    Gives c s fun t => t.sup.resets = [if scopeRank x < scopeRank y.scope then { y with asked := [Master.other m, m] } else
      { scope := x, cause := n, asked := [Master.other m, m], clock := s.aonClock }]) ∧
  (∀ (s : State) (c : Instr), s.mode ≠ .off → (c = .clusterReset ∧ 8 ≤ s.rd SUP_CMD_ARG_TARGET [] ∨
      c = .regionReset ∧ 2 ≤ s.rd SUP_CMD_ARG_TARGET [] ∨ c = .unitReset ∧ pageOfId (s.rd SUP_CMD_ARG_TARGET []) = none) →
    Gives c s fun t => t.on SUP_STATUS_CMD_REJECT [] = true ∧ t.sup = s.sup ∧ FieldsKept [(SUP_STATUS_CMD_REJECT, [])] s t) ∧
  (∀ (s : State) (m : Master), s.mode ≠ .off → m = s.sup.caller → (∀ y ∈ s.sup.resets, y.scope ≠ .package) →
    Gives .packageReset s fun t => (∃ r, t.sup.resets = [r] ∧ r.scope = .package ∧ r.cause = 3 ∧ m ∈ r.asked) ∧
      t.on SUP_STATUS_RESET_BUSY [] = true ∧
      (s.sup.recs = [] → t.sup.history = s.sup.history ++ [(zeroBytes 8 ++ leBytes 4 3 ++ zeroBytes 12, 0x22, none)])) ∧
  (∀ (s : State) (m : Master) (r : ResetReq), s.mode ≠ .off → m = s.sup.caller → s.sup.resets = [r] → r.scope = .package →
    Gives .packageReset s fun t => t = s.setSup { s.sup with resets := [{ r with asked := askedToo r.asked [m] }] }) ∧
  (∀ (s : State), s.mode ≠ .off → s.sup.resets = [] → Gives .resetDone s fun t => t = s) ∧
  (∀ (s : State) (x : ResetReq) (l : List ResetReq), s.mode ≠ .off → s.sup.resets = x :: l → x.scope ≠ .package →
    Gives .resetDone s fun t =>
      t = (((s.setSup { s.sup with resets := l, lastReset := some (x.scope, x.asked) }).setB SUP_STATUS_RESET_BUSY [] (!l.isEmpty)).runReset x).irq pgSUP 7) ∧
  (∀ (s : State) (x : ResetReq) (l : List ResetReq) (pg : Nat), s.mode ≠ .off → s.logicUp = false → s.sup.resets = x :: l → x.scope = .unit pg →
    pageOnIoDie pg = false →
    Gives .resetDone s fun t => t.sup.resets = l ∧ t.sup.lastReset = some (x.scope, x.asked) ∧ t.on SUP_STATUS_RESET_BUSY [] = (!l.isEmpty) ∧ Raised pgSUP 7 s t) ∧
  (∀ (s : State) (x : ResetReq) (l : List ResetReq), s.mode ≠ .off → s.sup.resets = x :: l → x.scope = .package →
    s.sup.history.any (fun h => h.2.2.isNone) = true → Gives .resetDone s fun t => t = s) ∧
  (∀ (s : State), s.mode ≠ .off → s.rd SUP_CTRL_REGION_RETRY_MS [] ≠ 0 → s.on SUP_STATUS_SAFE_NORTH [] = true → s.sup.northRetried = false →
    s.sup.northAt + s.rd SUP_CTRL_REGION_RETRY_MS [] * 1000000 ≤ s.now → s.sup.resets = [] →
    Gives .regionRetryTimeout s fun t => t.sup = { s.sup with northRetried := true, resets := [{ scope := .region 0, clock := s.aonClock }] } ∧
      t.on SUP_STATUS_RESET_BUSY [] = true) ∧
  (∀ (s : State), s.mode ≠ .off → s.rd SUP_CTRL_REGION_RETRY_MS [] ≠ 0 → s.on SUP_STATUS_SAFE_NORTH [] = false →
    s.on SUP_STATUS_SAFE_SOUTH [] = true → s.sup.southRetried = false →
    s.sup.southAt + s.rd SUP_CTRL_REGION_RETRY_MS [] * 1000000 ≤ s.now → s.sup.resets = [] →
    Gives .regionRetryTimeout s fun t => t.sup = { s.sup with southRetried := true, resets := [{ scope := .region 1, clock := s.aonClock }] } ∧
      t.on SUP_STATUS_RESET_BUSY [] = true) ∧
  (∀ (s : State), s.mode ≠ .off → s.rd SUP_CTRL_SAFE_RESET_MS [] ≠ 0 → s.on SUP_STATUS_DIE_SAFE [] = true → s.sup.scanning = false →
    s.sup.dieAt + s.rd SUP_CTRL_SAFE_RESET_MS [] * 1000000 ≤ s.now → s.sup.resets = [] →
    Gives .safeResetTimeout s fun t => t.sup = { s.sup with resets := [{ scope := .die, cause := 2, clock := s.aonClock }] } ∧ t.on SUP_STATUS_RESET_BUSY [] = true)

/-- Self-tests (R94, R657–R663, Tables 18-3, 18-9). With the logic up: a waiting test (of a bank: the bank in its test window) with a granted
window for it runs its next slice, and SUP_CNT_ST_SLICE counts one; without a window nothing changes. A passed slice moves to the next; the last
one of a target other than a bank, not failed before, passes the test: result 1, passed at this time, no longer active or overdue; a failed one
ends it failed with result 2, and SUP_CNT_ST_FAIL counts one. A bank's slice without failing cells moves to the next; with one of its own cells
failing the test ends with result 2, SUP_CNT_ST_FAIL counts one and SUP_ST_FAIL shows the cell. In every mode but OFF: an enabled target whose time
has come starts its test, due again after PERIOD_S, or, its test active, is OVERDUE with the OVERDUE condition; SUP_ST_REQ starts the test of a
target of its KIND from slice 0, a slice that runs given up, and changes nothing for another. With the logic up, the first window, of a bank not in
test and open now, puts the bank in test, and no frame has a cell in it. -/
def Obligations.SelfTestsRunInWindows : Prop :=
  (∀ (s : State) (k n : Nat) (w : Window), s.logicUp = true → (s.test k n).active = true → (s.test k n).running = false →
    (k = 2 → s.bankInTest n = true) → s.sliceWindow k n = some w →
    Gives (.selftestSlice k n) s fun t => t.test k n = { s.test k n with running := true } ∧ Counted SUP_CNT_ST_SLICE_CNT [] s t) ∧
  (∀ (s : State) (k n : Nat), s.logicUp = true → s.sliceWindow k n = none → Gives (.selftestSlice k n) s fun t => t = s) ∧
  (∀ (s : State) (k n : Nat), s.logicUp = true → k ≠ 2 → (s.test k n).running = true → (s.test k n).next + 1 < (testSlices k).1 →
    Gives (.selftestSliceEnd k n true []) s fun t => t.test k n = { s.test k n with running := false, next := (s.test k n).next + 1 }) ∧
  (∀ (s : State) (k n : Nat), s.logicUp = true → k ≠ 2 → (s.test k n).running = true → (s.test k n).next + 1 = (testSlices k).1 →
    (s.test k n).failed = false →
    Gives (.selftestSliceEnd k n true []) s fun t => t.test k n = { s.test k n with
      running := false, active := false, next := 0, result := 1, passedAt := some s.now, overdue := false }) ∧
  (∀ (s : State) (k n : Nat), s.logicUp = true → k ≠ 2 → (s.test k n).running = true →
    Gives (.selftestSliceEnd k n false []) s fun t => t.test k n = { s.test k n with
        running := false, active := false, next := 0, result := 2, failed := true, overdue := false } ∧ Counted SUP_CNT_ST_FAIL_CNT [] s t) ∧
  (∀ (s : State) (n : Nat), s.logicUp = true → (s.test 2 n).running = true → (s.test 2 n).next + 1 < 8 →
    Gives (.selftestSliceEnd 2 n true []) s fun t => t.test 2 n = { s.test 2 n with running := false, next := (s.test 2 n).next + 1 }) ∧
  (∀ (s : State) (n : Nat) (f : CellFail), s.logicUp = true → (s.test 2 n).running = true → 4096 * n + 512 * (s.test 2 n).next ≤ f.cell →
    f.cell < 4096 * n + 512 * (s.test 2 n).next + 512 →
    Gives (.selftestSliceEnd 2 n true [f]) s fun t => (t.test 2 n).result = 2 ∧ (t.test 2 n).active = false ∧
      Counted SUP_CNT_ST_FAIL_CNT [] s t ∧ t.rd SUP_ST_FAIL_CELL [] = f.cell % 2 ^ SUP_ST_FAIL_CELL.width) ∧
  (∀ (s : State) (k n : Nat), s.mode ≠ .off → s.testEnabled k n = true → (s.test k n).dueAt ≤ s.now → (s.test k n).active = false →
    (s.test k n).running = false →
    Gives (.selftestPeriodDue k n) s fun t => t.test k n = { s.test k n with
      dueAt := s.now + s.rd SUP_ST_PERIOD_S [] * 1000000000, active := true, next := 0 }) ∧
  (∀ (s : State) (k n : Nat), s.mode ≠ .off → s.testEnabled k n = true → (s.test k n).dueAt ≤ s.now → (s.test k n).active = true →
    Gives (.selftestPeriodDue k n) s fun t => (t.test k n).overdue = true ∧ (t.test k n).active = true ∧ bitOf (t.rd IRQ_RAW_BLOCK [pgSUP]) 6 = 1) ∧
  (∀ (s : State) (k n : Nat), s.mode ≠ .off → n < testTargets k →
    Gives (.supStReq k n) s fun t => t.test k n = { s.test k n with active := true, next := 0, running := false }) ∧
  (∀ (s : State) (k n : Nat), s.mode ≠ .off → testTargets k ≤ n → Gives (.supStReq k n) s fun t => t = s) ∧
  (∀ (s : State) (w : Window) (l : List Window), s.logicUp = true → s.tid.windows = w :: l → w.kind = 2 → w.target < 8 →
    s.bankInTest w.target = false → w.from_ ≤ s.count → s.count < w.fin →
    Gives .bankWindowStart s fun t => bitOf (t.rd CST_STATUS_BANK_TEST []) w.target = 1 ∧
      ∀ f o, (f, o) ∈ t.cst.frames → ∀ c ∈ o.cells, srcOfCell c.1 ≠ w.target)

/-- Alarms, temperatures and scans, in every mode but OFF (R542, R543, R667–R669, Tables 18-4, 18-5). An alarm below 7 that was not active, unless
it is alarm 2 in START before the rails are powered: its bits in ACTIVE and LATCH_SEEN are 1, SUP_CNT_ALARM counts one, the ALARM condition holds
and an error of page SUP with code 0x10 plus the alarm and its level is on its way; an active one changes nothing. At the end of an active alarm
its bit is 0, those of the others as they were, and alarm 0 of a North made safe by it asks for North's reset. Temperatures are shown, and
TEMP_WARN holds where one is above WARN_C. ARM with 0x5C holds the master and this time; another value disarms and sets CMD_REJECT. GO by the same
master within 1 ms, the logic up, no scan running and no commit busy, disarms; with the key stores zeroed it scans, the die in safe state; else
RESULT is 3, and with no other reset waiting the die's is asked for, cause 3. GO where one of these does not hold sets CMD_REJECT, the supervisor
and the other fields as they were. A finished scan gives RESULT 1, or 2 with its chain, and with no other reset waiting asks for the die's, cause
3. -/
def Obligations.AlarmsAndScans : Prop :=
  (∀ (s : State) (a : Nat), s.mode ≠ .off → a < 7 → bitOf (s.rd SUP_ALARM_ACTIVE []) a = 0 → (a ≠ 2 ∨ s.mode ≠ .start ∨ s.pwk.powered = true) →
    Gives (.alarmRise a) s fun t => bitOf (t.rd SUP_ALARM_ACTIVE []) a = 1 ∧ bitOf (t.rd SUP_ALARM_LATCH_SEEN []) a = 1 ∧
      Counted SUP_CNT_ALARM_CNT [] s t ∧ bitOf (t.rd IRQ_RAW_BLOCK [pgSUP]) 3 = 1 ∧
      ∃ e ∈ t.errLines, e.page = pgSUP ∧ e.code = 0x10 + a ∧ e.level = alarmLevel a) ∧
  (∀ (s : State) (a : Nat), s.mode ≠ .off → bitOf (s.rd SUP_ALARM_ACTIVE []) a = 1 → Gives (.alarmRise a) s fun t => t = s) ∧
  (∀ (s : State) (a : Nat), s.mode ≠ .off → a < 7 → bitOf (s.rd SUP_ALARM_ACTIVE []) a = 1 →
    Gives (.alarmClear a) s fun t => bitOf (t.rd SUP_ALARM_ACTIVE []) a = 0 ∧
      (∀ b, b < 7 → b ≠ a → bitOf (t.rd SUP_ALARM_ACTIVE []) b = bitOf (s.rd SUP_ALARM_ACTIVE []) b) ∧
      (a = 0 → s.sup.northAlarm = true → s.sup.resets = [] → t.sup.resets = [{ scope := .region 0, clock := s.aonClock }])) ∧
  (∀ (s : State) (x y : Int), s.mode ≠ .off →
    Gives (.tempWarn x y) s fun t => t.rd SUP_TEMP_LOGIC_C [] = unsignedOf 16 x % 2 ^ SUP_TEMP_LOGIC_C.width ∧
      t.rd SUP_TEMP_IO_C [] = unsignedOf 16 y % 2 ^ SUP_TEMP_IO_C.width ∧
      bitOf (t.rd IRQ_RAW_BLOCK [pgSUP]) 4 = (if (s.rd SUP_TEMP_CFG_WARN_C [] : Int) < x ∨ (s.rd SUP_TEMP_CFG_WARN_C [] : Int) < y then 1 else 0)) ∧
  (∀ (s : State) (m : Master), s.mode ≠ .off →
    Gives (.scanArm 0x5C m) s fun t => t = s.setSup { s.sup with scanArm := some (m, s.now) }) ∧
  (∀ (s : State) (m : Master) (v : Nat), s.mode ≠ .off → v ≠ 0x5C →
    Gives (.scanArm v m) s fun t => t.sup = { s.sup with scanArm := none } ∧ t.on SUP_STATUS_CMD_REJECT [] = true) ∧
  (∀ (s : State) (m : Master) (n : Nat), s.mode ≠ .off → s.sup.scanArm = some (m, n) → s.now ≤ n + 1000000 → s.logicUp = true →
    s.sup.scanning = false → s.on RET_STATUS_COMMIT_BUSY [] = false → s.on KWL_STATUS_COMMIT_BUSY [] = false →
    Gives (.scanGo m true) s fun t => t.sup.scanning = true ∧ t.sup.scanArm = none ∧ t.on SUP_STATUS_DIE_SAFE [] = true) ∧
  (∀ (s : State) (m : Master) (n : Nat), s.mode ≠ .off → s.sup.scanArm = some (m, n) → s.now ≤ n + 1000000 → s.logicUp = true →
    s.sup.scanning = false → s.on RET_STATUS_COMMIT_BUSY [] = false → s.on KWL_STATUS_COMMIT_BUSY [] = false →
    Gives (.scanGo m false) s fun t => t.rd SUP_SCAN_RESULT [] = 3 ∧ t.sup.scanning = false ∧ t.sup.scanArm = none ∧
      (s.sup.resets = [] → t.sup.resets = [{ scope := .die, cause := 3, clock := s.aonClock }])) ∧
  (∀ (s : State) (m : Master) (z : Bool), s.mode ≠ .off →
    ((∀ n, s.sup.scanArm = some (m, n) → n + 1000000 < s.now) ∨ s.logicUp = false ∨ s.sup.scanning = true ∨
      s.on RET_STATUS_COMMIT_BUSY [] = true ∨ s.on KWL_STATUS_COMMIT_BUSY [] = true) →
    Gives (.scanGo m z) s fun t => t.on SUP_STATUS_CMD_REJECT [] = true ∧ t.sup = s.sup ∧ FieldsKept [(SUP_STATUS_CMD_REJECT, [])] s t) ∧
  (∀ (s : State) (ok : Bool) (n : Nat), s.mode ≠ .off → s.sup.scanning = true →
    Gives (.scanComplete ok n) s fun t => t.rd SUP_SCAN_RESULT [] = (if ok then 1 else 2) ∧ t.sup.scanning = false ∧
      t.rd SUP_SCAN_CHAIN [] = (if ok then s.rd SUP_SCAN_CHAIN [] else n % 2 ^ SUP_SCAN_CHAIN.width) ∧
      (s.sup.resets = [] → t.sup.resets = [{ scope := .die, cause := 3, clock := s.aonClock }]))
end

