-- ==== Sys2Proof/Laws/Crc.lean ====
section
/-! SUPPORT. The CRC-32C stays below 2^32, and a cell's held CRC is the CRC of its contents exactly where the cell is not listed as bad (R211). -/

namespace Sys2Proof.Machine

theorem crc32cBit_lt {c : Nat} (h : c < 2 ^ 32) : crc32cBit c < 2 ^ 32 := by
  unfold crc32cBit
  split
  · exact Nat.xor_lt_two_pow (by omega) (by decide)
  · omega

theorem crc32cByte_lt {c b : Nat} (h : c < 2 ^ 32) (hb : b < 2 ^ 32) : crc32cByte c b < 2 ^ 32 := by
  unfold crc32cByte
  have h0 := Nat.xor_lt_two_pow h hb
  exact crc32cBit_lt (crc32cBit_lt (crc32cBit_lt (crc32cBit_lt (crc32cBit_lt (crc32cBit_lt (crc32cBit_lt (crc32cBit_lt h0)))))))

theorem crc32c_lt {bs : List Nat} (h : ∀ b ∈ bs, b < 2 ^ 32) : crc32c bs < 2 ^ 32 := by
  have go : ∀ (l : List Nat) (c : Nat), c < 2 ^ 32 → (∀ b ∈ l, b < 2 ^ 32) → l.foldl crc32cByte c < 2 ^ 32 := by
    intro l
    induction l with
    | nil => intro c hc _; exact hc
    | cons b l ih => intro c hc hl; exact ih _ (crc32cByte_lt hc (hl b (by simp))) fun x hx => hl x (by simp [hx])
  exact Nat.xor_lt_two_pow (go bs _ (by decide) h) (by decide)

theorem leBytes_lt (n v : Nat) : ∀ b ∈ leBytes n v, b < 256 := by
  induction n generalizing v with
  | zero => simp [leBytes]
  | succ n ih =>
    intro b hb
    rcases List.mem_cons.mp hb with h | h
    · rw [h]; exact Nat.mod_lt _ (by decide)
    · exact ih _ b h

theorem State.cellCrcOver_lt {s : State} {link c : Nat} (h : ∀ b ∈ Mem.bytes s.cst.mem (256 * c) 256, b < 256) : s.cellCrcOver link c < 2 ^ 32 := by
  refine crc32c_lt fun b hb => ?_
  rcases List.mem_append.mp hb with hm | hl
  · exact Nat.lt_trans (h b hm) (by decide)
  · exact Nat.lt_trans (leBytes_lt 4 link b (List.mem_reverse.mp hl)) (by decide)

/-- A cell's CRC fits its contents exactly where the cell is not listed as bad. -/
theorem State.cellCrcHeld_iff {s : State} {link c : Nat} (h : ∀ b ∈ Mem.bytes s.cst.mem (256 * c) 256, b < 256) :
    s.cellCrcHeld link c = s.cellCrcOver link c ↔ s.cst.badCells.contains c = false := by
  have hv := State.cellCrcOver_lt (link := link) h
  unfold State.cellCrcHeld
  split <;> rename_i hb
  · have hr := Nat.mod_lt (Config.freeValue c) (show 0 < 2 ^ 32 - 1 by decide)
    constructor
    · intro e; dsimp only at e; omega
    · intro e; rw [hb] at e; cases e
  · simpa using hb

end Sys2Proof.Machine
end

