-- ==== Sys2Proof/Laws/SMap.lean ====
section
/-! SUPPORT. Sparse tables: what a lookup answers after a write, and that every write keeps the keys strictly rising. -/

namespace Sys2Proof.Machine

variable {α : Type}

@[simp] theorem SMap.find?_nil (k : Nat) : SMap.find? ([] : SMap α) k = none := rfl

theorem SMap.find?_insert_self (m : SMap α) (k : Nat) (v : α) : SMap.find? (SMap.insert m k v) k = some v := by
  induction m with
  | nil => simp [SMap.insert, SMap.find?]
  | cons p m ih =>
    obtain ⟨a, w⟩ := p
    by_cases h1 : k < a
    · simp [SMap.insert, SMap.find?, h1]
    · by_cases h2 : k = a
      · simp [SMap.insert, SMap.find?, h2]
      · simp [SMap.insert, SMap.find?, h1, h2, ih, Ne.symm h2]

theorem SMap.find?_insert_ne (m : SMap α) {k j : Nat} (v : α) (h : j ≠ k) : SMap.find? (SMap.insert m k v) j = SMap.find? m j := by
  induction m with
  | nil => simp [SMap.insert, SMap.find?, Ne.symm h]
  | cons p m ih =>
    obtain ⟨a, w⟩ := p
    by_cases h1 : k < a
    · simp [SMap.insert, SMap.find?, h1, Ne.symm h]
    · by_cases h2 : k = a
      · subst h2; simp [SMap.insert, SMap.find?, Ne.symm h]
      · simp [SMap.insert, SMap.find?, h1, h2, ih]

/-- Filtering by the key leaves the lookup of a kept key alone. -/
theorem SMap.find?_filter {m : SMap α} {p : Nat × α → Bool} {k : Nat} (h : ∀ v, p (k, v) = true) :
    SMap.find? (m.filter p) k = SMap.find? m k := by
  induction m with
  | nil => rfl
  | cons q m ih =>
    obtain ⟨a, w⟩ := q
    by_cases hk : a = k
    · subst hk; simp [List.filter_cons, h, SMap.find?]
    · cases hp : p (a, w) <;> simp [List.filter_cons, hp, SMap.find?, hk, ih]

theorem SMap.find?_erase_ne (m : SMap α) {k j : Nat} (h : j ≠ k) : SMap.find? (SMap.erase m k) j = SMap.find? m j :=
  SMap.find?_filter (by simp [h])

theorem SMap.find?_erase_self (m : SMap α) (k : Nat) : SMap.find? (SMap.erase m k) k = none := by
  induction m with
  | nil => rfl
  | cons q m ih =>
    obtain ⟨a, w⟩ := q
    by_cases hk : a = k
    · subst hk; simpa [SMap.erase, List.filter_cons] using ih
    · simpa [SMap.erase, List.filter_cons, hk, SMap.find?] using ih

theorem SMap.find?_setD_ne [DecidableEq α] (m : SMap α) (d : α) {k j : Nat} (v : α) (h : j ≠ k) :
    SMap.find? (SMap.setD m d k v) j = SMap.find? m j := by
  unfold SMap.setD
  split
  · exact SMap.find?_erase_ne m h
  · exact SMap.find?_insert_ne m v h

@[simp] theorem SMap.getD_setD_self [DecidableEq α] (m : SMap α) (d : α) (k : Nat) (v : α) : SMap.getD (SMap.setD m d k v) k d = v := by
  unfold SMap.getD
  by_cases h : v = d
  · simp [SMap.setD, h, SMap.find?_erase_self]
  · simp [SMap.setD, h, SMap.find?_insert_self]

theorem SMap.getD_setD_ne [DecidableEq α] (m : SMap α) (d e : α) {k j : Nat} (v : α) (h : j ≠ k) :
    SMap.getD (SMap.setD m d k v) j e = SMap.getD m j e := by
  unfold SMap.getD
  rw [SMap.find?_setD_ne m d v h]

@[simp] theorem SMap.getD_nil (k : Nat) (d : α) : SMap.getD ([] : SMap α) k d = d := rfl

/-! ### Rising keys -/

theorem SMap.rising_iff (m : SMap α) : SMap.rising m = true ↔ m.Pairwise (fun a b => a.1 < b.1) := by
  induction m with
  | nil => simp [SMap.rising]
  | cons p m ih =>
    cases m with
    | nil => simp [SMap.rising]
    | cons q m =>
      rw [SMap.rising, Bool.and_eq_true, ih, decide_eq_true_eq, List.pairwise_cons (l := q :: m)]
      constructor
      · intro h
        refine ⟨fun x hx => ?_, h.2⟩
        rcases List.mem_cons.1 hx with rfl | hx
        · exact h.1
        · exact Nat.lt_trans h.1 ((List.pairwise_cons.1 h.2).1 x hx)
      · intro h
        exact ⟨h.1 q (List.mem_cons_self ..), h.2⟩

theorem SMap.rising_filter {m : SMap α} (p : Nat × α → Bool) (h : SMap.rising m = true) : SMap.rising (m.filter p) = true :=
  (SMap.rising_iff _).2 (((SMap.rising_iff m).1 h).filter p)

theorem SMap.mem_insert {m : SMap α} {k : Nat} {v : α} {x : Nat × α} (h : x ∈ SMap.insert m k v) : x = (k, v) ∨ x ∈ m := by
  induction m with
  | nil => exact .inl (by simpa [SMap.insert] using h)
  | cons p m ih =>
    obtain ⟨a, w⟩ := p
    unfold SMap.insert at h
    split at h
    · simpa using h
    · split at h
      · rcases List.mem_cons.1 h with h | h
        · exact .inl h
        · exact .inr (List.mem_cons_of_mem _ h)
      · rcases List.mem_cons.1 h with h | h
        · exact .inr (h ▸ List.mem_cons_self ..)
        · exact (ih h).imp id (List.mem_cons_of_mem _)

theorem SMap.rising_insert {m : SMap α} (k : Nat) (v : α) (h : SMap.rising m = true) : SMap.rising (SMap.insert m k v) = true := by
  rw [SMap.rising_iff] at h ⊢
  induction m with
  | nil => simp [SMap.insert]
  | cons p m ih =>
    obtain ⟨a, w⟩ := p
    have hc := List.pairwise_cons.1 h
    unfold SMap.insert
    split
    · next hk =>
      refine List.pairwise_cons.2 ⟨fun x hx => ?_, h⟩
      rcases List.mem_cons.1 hx with rfl | hx
      · exact hk
      · exact Nat.lt_trans hk (hc.1 x hx)
    · split
      · next hk => exact List.pairwise_cons.2 ⟨fun x hx => by simpa [hk] using hc.1 x hx, hc.2⟩
      · refine List.pairwise_cons.2 ⟨fun x hx => ?_, ih hc.2⟩
        rcases SMap.mem_insert hx with rfl | hx
        · simp only; omega
        · exact hc.1 x hx

theorem SMap.rising_erase {m : SMap α} (k : Nat) (h : SMap.rising m = true) : SMap.rising (SMap.erase m k) = true :=
  SMap.rising_filter _ h

theorem SMap.rising_setD [DecidableEq α] {m : SMap α} (d : α) (k : Nat) (v : α) (h : SMap.rising m = true) :
    SMap.rising (SMap.setD m d k v) = true := by
  unfold SMap.setD
  split
  · exact SMap.rising_erase k h
  · exact SMap.rising_insert k v h

end Sys2Proof.Machine
end

