-- ==== Sys2Proof/Laws/Memory.lean ====
section
/-! SUPPORT. Byte memories: a read after a write, and that every write keeps the canonical form. -/

namespace Sys2Proof.Machine

theorem Memory.wf_iff (m : Mem) : Memory.wf m = true ↔ SMap.rising m = true ∧ ∀ p ∈ m, p.2 ≠ 0#8 := by
  simp [Memory.wf]

theorem Memory.wf_nil : Memory.wf [] = true := rfl

/-- Dropping cells keeps the form. -/
theorem Memory.wf_filter {m : Mem} (p : Nat × Byte → Bool) (h : Memory.wf m = true) : Memory.wf (m.filter p) = true := by
  rw [Memory.wf_iff] at h ⊢
  exact ⟨SMap.rising_filter p h.1, fun q hq => h.2 q (List.mem_filter.1 hq).1⟩

theorem Memory.wf_put {m : Mem} (a b : Nat) (h : Memory.wf m = true) : Memory.wf (Mem.put m a b) = true := by
  rw [Memory.wf_iff] at h ⊢
  refine ⟨SMap.rising_setD _ _ _ h.1, fun p hp => ?_⟩
  unfold Mem.put SMap.setD at hp
  split at hp
  · exact h.2 p (List.mem_filter.1 hp).1
  · next hb =>
    rcases SMap.mem_insert hp with rfl | hp
    · exact hb
    · exact h.2 p hp

theorem Memory.wf_puts {m : Mem} (a : Nat) (bs : List Nat) (h : Memory.wf m = true) : Memory.wf (Mem.puts m a bs) = true := by
  induction bs generalizing m a with
  | nil => exact h
  | cons b bs ih => exact ih (a + 1) (Memory.wf_put a b h)

@[simp] theorem Mem.byte_put_self (m : Mem) (a b : Nat) : Mem.byte (Mem.put m a b) a = b % 256 := by
  simp [Mem.byte, Mem.put]

theorem Mem.byte_put_ne (m : Mem) {a c : Nat} (b : Nat) (h : c ≠ a) : Mem.byte (Mem.put m a b) c = Mem.byte m c := by
  rw [Mem.byte, Mem.put, SMap.getD_setD_ne _ _ _ _ h, Mem.byte]

theorem Memory.wf_foldl {β : Type} {f : Mem → β → Mem} {l : List β} {m : Mem} (h : Memory.wf m = true)
    (hf : ∀ n x, Memory.wf n = true → Memory.wf (f n x) = true) : Memory.wf (l.foldl f m) = true := by
  induction l generalizing m with
  | nil => exact h
  | cons x l ih => exact ih (hf m x h)

/-- A byte outside the bytes written reads as before. -/
theorem Mem.byte_puts_outside (m : Mem) {a c : Nat} (bs : List Nat) (h : c < a ∨ a + bs.length ≤ c) :
    Mem.byte (Mem.puts m a bs) c = Mem.byte m c := by
  induction bs generalizing m a with
  | nil => rfl
  | cons b bs ih =>
    have hl : (b :: bs).length = bs.length + 1 := rfl
    rw [Mem.puts, ih _ (by omega), Mem.byte_put_ne _ _ (by omega)]

/-- The bytes written read back, each modulo 256. -/
theorem Mem.byte_puts_inside (m : Mem) {a i : Nat} (bs : List Nat) (h : i < bs.length) :
    Mem.byte (Mem.puts m a bs) (a + i) = bs.getD i 0 % 256 := by
  induction bs generalizing m a i with
  | nil => exact absurd h (Nat.not_lt_zero i)
  | cons b bs ih =>
    rw [Mem.puts]
    cases i with
    | zero => rw [Mem.byte_puts_outside _ _ (by omega)]; exact Mem.byte_put_self m a b
    | succ i =>
      have := ih (Mem.put m a b) (a := a + 1) (i := i) (by simpa using h)
      rwa [Nat.add_assoc, Nat.add_comm 1 i] at this

theorem zipIdx_pairwise {α : Type} (l : List α) (k : Nat) : (l.zipIdx k).Pairwise (fun x y => x.2 < y.2) := by
  induction l generalizing k with
  | nil => exact .nil
  | cons a l ih =>
    rw [List.zipIdx_cons]
    refine .cons (fun p hp => ?_) (ih _)
    have := List.le_snd_of_mem_zipIdx hp
    exact this

theorem Memory.wf_splice {m : Mem} (a : Nat) (bs : List Nat) (h : Memory.wf m = true) : Memory.wf (Mem.splice m a bs) = true := by
  rw [Memory.wf_iff] at h ⊢
  obtain ⟨hr, hz⟩ := h
  rw [SMap.rising_iff] at hr ⊢
  have mid : ∀ p ∈ (bs.zipIdx.filter fun b => b.1 % 256 != 0).map (fun b => (a + b.2, BitVec.ofNat 8 b.1)),
      a ≤ p.1 ∧ p.1 < a + bs.length ∧ p.2 ≠ 0#8 := by
    intro p hp
    obtain ⟨b, hb, rfl⟩ := List.mem_map.1 hp
    obtain ⟨hb, hn⟩ := List.mem_filter.1 hb
    refine ⟨Nat.le_add_right _ _, Nat.add_lt_add_left ?_ _, fun e => ?_⟩
    · have := List.snd_lt_of_mem_zipIdx hb
      omega
    · have := congrArg BitVec.toNat e
      simp at this hn
      omega
  constructor
  · unfold Mem.splice
    refine List.pairwise_append.2 ⟨List.pairwise_append.2 ⟨hr.filter _, ?_, ?_⟩, hr.filter _, ?_⟩
    · exact List.pairwise_map.2 (((zipIdx_pairwise bs 0).filter _).imp fun h => Nat.add_lt_add_left h a)
    · intro p hp q hq
      have h1 := of_decide_eq_true (List.mem_filter.1 hp).2
      exact Nat.lt_of_lt_of_le h1 (mid q hq).1
    · intro p hp q hq
      have h2 := of_decide_eq_true (List.mem_filter.1 hq).2
      rcases List.mem_append.1 hp with hp | hp
      · have h1 := of_decide_eq_true (List.mem_filter.1 hp).2
        omega
      · have h1 := (mid p hp).2.1
        omega
  · intro p hp
    unfold Mem.splice at hp
    rcases List.mem_append.1 hp with hp | hp
    · rcases List.mem_append.1 hp with hp | hp
      · exact hz p (List.mem_filter.1 hp).1
      · exact (mid p hp).2.2
    · exact hz p (List.mem_filter.1 hp).1

theorem Memory.wf_ite' {x y : Mem} {c : Prop} {_ : Decidable c} (hx : c → Memory.wf x = true) (hy : Memory.wf y = true) :
    Memory.wf (if c then x else y) = true := by
  split
  · next h => exact hx h
  · exact hy

/-- Taking a range of addresses from another memory keeps the form. -/
theorem Memory.wf_copyRange {lo hi : Nat} {src dst : Mem} (hl : lo ≤ hi) (hs : Memory.wf src = true) (hd : Memory.wf dst = true) :
    Memory.wf (SMap.copyRange lo hi src dst) = true := by
  rw [Memory.wf_iff] at hs hd ⊢
  obtain ⟨hs, zs⟩ := hs
  obtain ⟨hd, zd⟩ := hd
  rw [SMap.rising_iff] at hs hd ⊢
  have mid : ∀ p ∈ src.filter (fun p => decide (lo ≤ p.1) && decide (p.1 < hi)), p ∈ src ∧ lo ≤ p.1 ∧ p.1 < hi := fun p hp => by
    obtain ⟨m, c⟩ := List.mem_filter.1 hp
    simpa [m] using c
  constructor
  · refine List.pairwise_append.2 ⟨List.pairwise_append.2 ⟨hd.filter _, hs.filter _, fun p hp q hq => ?_⟩, hd.filter _, fun p hp q hq => ?_⟩
    · have := of_decide_eq_true (List.mem_filter.1 hp).2
      have := (mid q hq).2.1
      omega
    · have h2 := of_decide_eq_true (List.mem_filter.1 hq).2
      rcases List.mem_append.1 hp with hp | hp
      · have := of_decide_eq_true (List.mem_filter.1 hp).2
        omega
      · have := (mid p hp).2.2
        omega
  · intro p hp
    rcases List.mem_append.1 hp with hp | hp
    · rcases List.mem_append.1 hp with hp | hp
      · exact zd p (List.mem_filter.1 hp).1
      · exact zs p (mid p hp).1
    · exact zd p (List.mem_filter.1 hp).1

/-- Taking the bytes that a test names from another memory keeps the form. -/
theorem Memory.wf_copyWhere {c : Nat → Bool} {src dst : Mem} (hs : Memory.wf src = true) (hd : Memory.wf dst = true) :
    Memory.wf (SMap.copyWhere c src dst) = true := by
  have key : ∀ (l : Mem) (m : Mem), (∀ p ∈ l, p.2 ≠ 0#8) → Memory.wf m = true →
      Memory.wf (l.foldl (fun m p => SMap.insert m p.1 p.2) m) = true := by
    intro l
    induction l with
    | nil => exact fun _ _ h => h
    | cons p l ih =>
      intro m hl hm
      refine ih _ (fun q hq => hl q (List.mem_cons_of_mem _ hq)) ?_
      rw [Memory.wf_iff] at hm ⊢
      refine ⟨SMap.rising_insert _ _ hm.1, fun q hq => ?_⟩
      rcases SMap.mem_insert hq with rfl | hq
      · exact hl p (List.mem_cons_self ..)
      · exact hm.2 q hq
  exact key _ _ (fun p hp => ((Memory.wf_iff _).1 hs).2 p (List.mem_filter.1 hp).1) (Memory.wf_filter _ hd)

end Sys2Proof.Machine
end

