-- ==== Sys2Proof/Laws/Keep.lean ====
section
/-! SUPPORT. What may change between two states, as a mask over the parts of the state, and how the shared operations compose: one lemma
per operation says which parts it can change and that it keeps the canonical forms. Bits 0 to 20 of a mask are the parts of the register
file, the other bits the other parts (`Part.bit`). -/

namespace Sys2Proof.Machine

/-- The bit of a part in a mask. -/
def Part.bit : Part → Nat
  | .regs h => h.num
  | .staged => 21
  | .commits => 22
  | .discards => 23
  | .spoiled => 24
  | .now => 25
  | .count => 26
  | .bnd => 27
  | .mode => 28
  | .errLines => 29
  | .logLines => 30
  | .outs => 31
  | .freeCtr => 32
  | .cst => 33
  | .planes => 34
  | .switchGen => 35
  | .tid => 36
  | .gates => 37
  | .bth => 38
  | .sgw => 39
  | .lkp => 40
  | .quays => 41
  | .fronts => 42
  | .pwk => 43
  | .hck => 44
  | .lgr => 45
  | .cph => 46
  | .kwl => 47
  | .hbr => 48
  | .sup => 49
  | .ret => 50
  | .pending => 51

/-- From `a` to `b` only the parts of a mask change, and the canonical forms are kept. -/
structure Same (m : Nat) (a b : State) : Prop where
  regs : ∀ h, h < 21 → m.testBit h = false → ∀ k, k / 2 ^ 40 = h → SMap.find? b.regs k = SMap.find? a.regs k
  staged : m.testBit 21 = false → b.staged = a.staged
  commits : m.testBit 22 = false → b.commits = a.commits
  discards : m.testBit 23 = false → b.discards = a.discards
  spoiled : m.testBit 24 = false → b.spoiled = a.spoiled
  now : m.testBit 25 = false → b.now = a.now
  count : m.testBit 26 = false → b.count = a.count
  bnd : m.testBit 27 = false → b.bnd = a.bnd
  mode : m.testBit 28 = false → b.mode = a.mode
  errLines : m.testBit 29 = false → b.errLines = a.errLines
  logLines : m.testBit 30 = false → b.logLines = a.logLines
  outs : m.testBit 31 = false → b.outs = a.outs
  freeCtr : m.testBit 32 = false → b.freeCtr = a.freeCtr
  cst : m.testBit 33 = false → b.cst = a.cst
  planes : m.testBit 34 = false → b.planes = a.planes
  switchGen : m.testBit 35 = false → b.switchGen = a.switchGen
  tid : m.testBit 36 = false → b.tid = a.tid
  gates : m.testBit 37 = false → b.gates = a.gates
  bth : m.testBit 38 = false → b.bth = a.bth
  sgw : m.testBit 39 = false → b.sgw = a.sgw
  lkp : m.testBit 40 = false → b.lkp = a.lkp
  quays : m.testBit 41 = false → b.quays = a.quays
  fronts : m.testBit 42 = false → b.fronts = a.fronts
  pwk : m.testBit 43 = false → b.pwk = a.pwk
  hck : m.testBit 44 = false → b.hck = a.hck
  lgr : m.testBit 45 = false → b.lgr = a.lgr
  cph : m.testBit 46 = false → b.cph = a.cph
  kwl : m.testBit 47 = false → b.kwl = a.kwl
  hbr : m.testBit 48 = false → b.hbr = a.hbr
  sup : m.testBit 49 = false → b.sup = a.sup
  ret : m.testBit 50 = false → b.ret = a.ret
  pending : m.testBit 51 = false → b.pending = a.pending
  canonical : Canonical a → Canonical b

theorem Same.refl (m : Nat) (a : State) : Same m a a where
  regs _ _ _ _ _ := rfl
  staged _ := rfl
  commits _ := rfl
  discards _ := rfl
  spoiled _ := rfl
  now _ := rfl
  count _ := rfl
  bnd _ := rfl
  mode _ := rfl
  errLines _ := rfl
  logLines _ := rfl
  outs _ := rfl
  freeCtr _ := rfl
  cst _ := rfl
  planes _ := rfl
  switchGen _ := rfl
  tid _ := rfl
  gates _ := rfl
  bth _ := rfl
  sgw _ := rfl
  lkp _ := rfl
  quays _ := rfl
  fronts _ := rfl
  pwk _ := rfl
  hck _ := rfl
  lgr _ := rfl
  cph _ := rfl
  kwl _ := rfl
  hbr _ := rfl
  sup _ := rfl
  ret _ := rfl
  pending _ := rfl
  canonical h := h

theorem low_of_sub {m n i : Nat} (hm : m &&& n = n) (h : m.testBit i = false) : n.testBit i = false := by
  rw [← hm, Nat.testBit_and, h, Bool.false_and]

/-- What changes only the parts of a smaller mask may follow. -/
theorem Same.then {m n : Nat} {a b c : State} (h : Same m a b) (hm : m &&& n = n) (g : Same n b c) : Same m a c where
  regs i hl hi k hk := (g.regs i hl (low_of_sub hm hi) k hk).trans (h.regs i hl hi k hk)
  staged hi := (g.staged (low_of_sub hm hi)).trans (h.staged hi)
  commits hi := (g.commits (low_of_sub hm hi)).trans (h.commits hi)
  discards hi := (g.discards (low_of_sub hm hi)).trans (h.discards hi)
  spoiled hi := (g.spoiled (low_of_sub hm hi)).trans (h.spoiled hi)
  now hi := (g.now (low_of_sub hm hi)).trans (h.now hi)
  count hi := (g.count (low_of_sub hm hi)).trans (h.count hi)
  bnd hi := (g.bnd (low_of_sub hm hi)).trans (h.bnd hi)
  mode hi := (g.mode (low_of_sub hm hi)).trans (h.mode hi)
  errLines hi := (g.errLines (low_of_sub hm hi)).trans (h.errLines hi)
  logLines hi := (g.logLines (low_of_sub hm hi)).trans (h.logLines hi)
  outs hi := (g.outs (low_of_sub hm hi)).trans (h.outs hi)
  freeCtr hi := (g.freeCtr (low_of_sub hm hi)).trans (h.freeCtr hi)
  cst hi := (g.cst (low_of_sub hm hi)).trans (h.cst hi)
  planes hi := (g.planes (low_of_sub hm hi)).trans (h.planes hi)
  switchGen hi := (g.switchGen (low_of_sub hm hi)).trans (h.switchGen hi)
  tid hi := (g.tid (low_of_sub hm hi)).trans (h.tid hi)
  gates hi := (g.gates (low_of_sub hm hi)).trans (h.gates hi)
  bth hi := (g.bth (low_of_sub hm hi)).trans (h.bth hi)
  sgw hi := (g.sgw (low_of_sub hm hi)).trans (h.sgw hi)
  lkp hi := (g.lkp (low_of_sub hm hi)).trans (h.lkp hi)
  quays hi := (g.quays (low_of_sub hm hi)).trans (h.quays hi)
  fronts hi := (g.fronts (low_of_sub hm hi)).trans (h.fronts hi)
  pwk hi := (g.pwk (low_of_sub hm hi)).trans (h.pwk hi)
  hck hi := (g.hck (low_of_sub hm hi)).trans (h.hck hi)
  lgr hi := (g.lgr (low_of_sub hm hi)).trans (h.lgr hi)
  cph hi := (g.cph (low_of_sub hm hi)).trans (h.cph hi)
  kwl hi := (g.kwl (low_of_sub hm hi)).trans (h.kwl hi)
  hbr hi := (g.hbr (low_of_sub hm hi)).trans (h.hbr hi)
  sup hi := (g.sup (low_of_sub hm hi)).trans (h.sup hi)
  ret hi := (g.ret (low_of_sub hm hi)).trans (h.ret hi)
  pending hi := (g.pending (low_of_sub hm hi)).trans (h.pending hi)
  canonical hc := g.canonical (h.canonical hc)

theorem Same.trans {m : Nat} {a b c : State} (h : Same m a b) (g : Same m b c) : Same m a c := h.then (Nat.and_self m) g

theorem Same.ite {m : Nat} {a x y : State} {c : Prop} {_ : Decidable c} (hx : Same m a x) (hy : Same m a y) :
    Same m a (if c then x else y) := by
  by_cases h : c
  · rw [if_pos h]; exact hx
  · rw [if_neg h]; exact hy

theorem Same.foldl {m : Nat} {a s : State} {β : Type} {f : State → β → State} {l : List β} (h : Same m a s)
    (hf : ∀ t x, Same m a t → Same m a (f t x)) : Same m a (l.foldl f s) := by
  induction l generalizing s with
  | nil => exact h
  | cons x l ih => exact ih (hf s x h)

/-- A part whose bit the mask of a relation lacks is the same. -/
theorem Same.part {m : Nat} {a b : State} (h : Same m a b) (p : Part) (hp : m.testBit p.bit = false) : p.same a b := by
  cases p with
  | regs x =>
    intro f ix hf
    have hk : f.key ix / 2 ^ 40 = x.num := by
      rw [Fld.key, Nat.mul_comm, Nat.mul_add_div (by decide), Nat.div_eq_of_lt (Nat.mod_lt _ (by decide)), hf, Nat.add_zero]
    have := h.regs x.num (by cases x <;> decide) hp (f.key ix) hk
    simp only [State.rd, RegFile.get, SMap.getD, this]
  | staged => exact h.staged hp
  | commits => exact h.commits hp
  | discards => exact h.discards hp
  | spoiled => exact h.spoiled hp
  | now => exact h.now hp
  | count => exact h.count hp
  | bnd => exact h.bnd hp
  | mode => exact h.mode hp
  | errLines => exact h.errLines hp
  | logLines => exact h.logLines hp
  | outs => exact h.outs hp
  | freeCtr => exact h.freeCtr hp
  | cst => exact h.cst hp
  | planes => exact h.planes hp
  | switchGen => exact h.switchGen hp
  | tid => exact h.tid hp
  | gates => exact h.gates hp
  | bth => exact h.bth hp
  | sgw => exact h.sgw hp
  | lkp => exact h.lkp hp
  | quays => exact h.quays hp
  | fronts => exact h.fronts hp
  | pwk => exact h.pwk hp
  | hck => exact h.hck hp
  | lgr => exact h.lgr hp
  | cph => exact h.cph hp
  | kwl => exact h.kwl hp
  | hbr => exact h.hbr hp
  | sup => exact h.sup hp
  | ret => exact h.ret hp
  | pending => exact h.pending hp

theorem Same.changesOnly {m : Nat} {a b : State} {l : List Part} (h : Same m a b) (hl : ∀ p, p ∉ l → m.testBit p.bit = false) :
    ChangesOnly l a b := fun p hp => h.part p (hl p hp)

/-! ### One part changed -/

theorem Same.put_staged {m : Nat} {a s : State} {x : RegFile} (h : Same m a s) (hm : m.testBit 21 = true) (hw : SMap.rising s.staged = true → SMap.rising x = true) :
    Same m a { s with staged := x } :=
  { h with staged := fun hb => absurd (hb.symm.trans hm) (by decide), canonical := fun hc => { h.canonical hc with staged := hw (h.canonical hc).staged } }

theorem Same.put_commits {m : Nat} {a s : State} {x : SMap Nat} (h : Same m a s) (hm : m.testBit 22 = true) :
    Same m a { s with commits := x } :=
  { h with commits := fun hb => absurd (hb.symm.trans hm) (by decide), canonical := fun hc => { h.canonical hc with } }

theorem Same.put_discards {m : Nat} {a s : State} {x : List Nat} (h : Same m a s) (hm : m.testBit 23 = true) :
    Same m a { s with discards := x } :=
  { h with discards := fun hb => absurd (hb.symm.trans hm) (by decide), canonical := fun hc => { h.canonical hc with } }

theorem Same.put_spoiled {m : Nat} {a s : State} {x : List Nat} (h : Same m a s) (hm : m.testBit 24 = true) :
    Same m a { s with spoiled := x } :=
  { h with spoiled := fun hb => absurd (hb.symm.trans hm) (by decide), canonical := fun hc => { h.canonical hc with } }

theorem Same.put_now {m : Nat} {a s : State} {x : Nat} (h : Same m a s) (hm : m.testBit 25 = true) :
    Same m a { s with now := x } :=
  { h with now := fun hb => absurd (hb.symm.trans hm) (by decide), canonical := fun hc => { h.canonical hc with } }

theorem Same.put_count {m : Nat} {a s : State} {x : Nat} (h : Same m a s) (hm : m.testBit 26 = true) :
    Same m a { s with count := x } :=
  { h with count := fun hb => absurd (hb.symm.trans hm) (by decide), canonical := fun hc => { h.canonical hc with } }

theorem Same.put_bnd {m : Nat} {a s : State} {x : Boundary} (h : Same m a s) (hm : m.testBit 27 = true) :
    Same m a { s with bnd := x } :=
  { h with bnd := fun hb => absurd (hb.symm.trans hm) (by decide), canonical := fun hc => { h.canonical hc with } }

theorem Same.put_mode {m : Nat} {a s : State} {x : PkgMode} (h : Same m a s) (hm : m.testBit 28 = true) :
    Same m a { s with mode := x } :=
  { h with mode := fun hb => absurd (hb.symm.trans hm) (by decide), canonical := fun hc => { h.canonical hc with } }

theorem Same.put_errLines {m : Nat} {a s : State} {x : List ErrReport} (h : Same m a s) (hm : m.testBit 29 = true) :
    Same m a { s with errLines := x } :=
  { h with errLines := fun hb => absurd (hb.symm.trans hm) (by decide), canonical := fun hc => { h.canonical hc with } }

theorem Same.put_logLines {m : Nat} {a s : State} {x : List LogEvent} (h : Same m a s) (hm : m.testBit 30 = true) :
    Same m a { s with logLines := x } :=
  { h with logLines := fun hb => absurd (hb.symm.trans hm) (by decide), canonical := fun hc => { h.canonical hc with } }

theorem Same.put_outs {m : Nat} {a s : State} {x : List OutEvent} (h : Same m a s) (hm : m.testBit 31 = true) :
    Same m a { s with outs := x } :=
  { h with outs := fun hb => absurd (hb.symm.trans hm) (by decide), canonical := fun hc => { h.canonical hc with } }

theorem Same.put_freeCtr {m : Nat} {a s : State} {x : Nat} (h : Same m a s) (hm : m.testBit 32 = true) :
    Same m a { s with freeCtr := x } :=
  { h with freeCtr := fun hb => absurd (hb.symm.trans hm) (by decide), canonical := fun hc => { h.canonical hc with } }

theorem Same.put_cst {m : Nat} {a s : State} {x : CstSt} (h : Same m a s) (hm : m.testBit 33 = true) (hw : Memory.wf s.cst.mem = true → Memory.wf x.mem = true) :
    Same m a { s with cst := x } :=
  { h with cst := fun hb => absurd (hb.symm.trans hm) (by decide), canonical := fun hc => { h.canonical hc with cells := hw (h.canonical hc).cells } }

theorem Same.put_planes {m : Nat} {a s : State} {x : SMap PlaneSt} (h : Same m a s) (hm : m.testBit 34 = true) (hw : Canonical a → (∀ i, (s.plane i).memWf) → ∀ i, (SMap.getD x i ({} : PlaneSt)).memWf) :
    Same m a { s with planes := x } :=
  { h with planes := fun hb => absurd (hb.symm.trans hm) (by decide), canonical := fun hc => { h.canonical hc with pdu := hw hc (h.canonical hc).pdu } }

theorem Same.put_switchGen {m : Nat} {a s : State} {x : Nat} (h : Same m a s) (hm : m.testBit 35 = true) :
    Same m a { s with switchGen := x } :=
  { h with switchGen := fun hb => absurd (hb.symm.trans hm) (by decide), canonical := fun hc => { h.canonical hc with } }

theorem Same.put_tid {m : Nat} {a s : State} {x : TidSt} (h : Same m a s) (hm : m.testBit 36 = true) (hw : Memory.wf s.tid.active = true → Memory.wf s.tid.shadow = true → Memory.wf x.active = true ∧ Memory.wf x.shadow = true) :
    Same m a { s with tid := x } :=
  { h with tid := fun hb => absurd (hb.symm.trans hm) (by decide), canonical := fun hc => have w := hw (h.canonical hc).tideActive (h.canonical hc).tideShadow
    { h.canonical hc with tideActive := w.1, tideShadow := w.2 } }

theorem Same.put_gates {m : Nat} {a s : State} {x : SMap GateSt} (h : Same m a s) (hm : m.testBit 37 = true) :
    Same m a { s with gates := x } :=
  { h with gates := fun hb => absurd (hb.symm.trans hm) (by decide), canonical := fun hc => { h.canonical hc with } }

theorem Same.put_bth {m : Nat} {a s : State} {x : BthSt} (h : Same m a s) (hm : m.testBit 38 = true) (hw : Memory.wf s.bth.cfg = true → Memory.wf x.cfg = true) :
    Same m a { s with bth := x } :=
  { h with bth := fun hb => absurd (hb.symm.trans hm) (by decide), canonical := fun hc => { h.canonical hc with berths := hw (h.canonical hc).berths } }

theorem Same.put_sgw {m : Nat} {a s : State} {x : SgwSt} (h : Same m a s) (hm : m.testBit 39 = true) :
    Same m a { s with sgw := x } :=
  { h with sgw := fun hb => absurd (hb.symm.trans hm) (by decide), canonical := fun hc => { h.canonical hc with } }

theorem Same.put_lkp {m : Nat} {a s : State} {x : LkpSt} (h : Same m a s) (hm : m.testBit 40 = true) :
    Same m a { s with lkp := x } :=
  { h with lkp := fun hb => absurd (hb.symm.trans hm) (by decide), canonical := fun hc => { h.canonical hc with } }

theorem Same.put_quays {m : Nat} {a s : State} {x : SMap QuaySt} (h : Same m a s) (hm : m.testBit 41 = true) :
    Same m a { s with quays := x } :=
  { h with quays := fun hb => absurd (hb.symm.trans hm) (by decide), canonical := fun hc => { h.canonical hc with } }

theorem Same.put_fronts {m : Nat} {a s : State} {x : SMap FrontSt} (h : Same m a s) (hm : m.testBit 42 = true) :
    Same m a { s with fronts := x } :=
  { h with fronts := fun hb => absurd (hb.symm.trans hm) (by decide), canonical := fun hc => { h.canonical hc with } }

theorem Same.put_pwk {m : Nat} {a s : State} {x : PwkSt} (h : Same m a s) (hm : m.testBit 43 = true) :
    Same m a { s with pwk := x } :=
  { h with pwk := fun hb => absurd (hb.symm.trans hm) (by decide), canonical := fun hc => { h.canonical hc with } }

theorem Same.put_hck {m : Nat} {a s : State} {x : HckSt} (h : Same m a s) (hm : m.testBit 44 = true) :
    Same m a { s with hck := x } :=
  { h with hck := fun hb => absurd (hb.symm.trans hm) (by decide), canonical := fun hc => { h.canonical hc with } }

theorem Same.put_lgr {m : Nat} {a s : State} {x : LogSt} (h : Same m a s) (hm : m.testBit 45 = true) :
    Same m a { s with lgr := x } :=
  { h with lgr := fun hb => absurd (hb.symm.trans hm) (by decide), canonical := fun hc => { h.canonical hc with } }

theorem Same.put_cph {m : Nat} {a s : State} {x : CphSt} (h : Same m a s) (hm : m.testBit 46 = true) :
    Same m a { s with cph := x } :=
  { h with cph := fun hb => absurd (hb.symm.trans hm) (by decide), canonical := fun hc => { h.canonical hc with } }

theorem Same.put_kwl {m : Nat} {a s : State} {x : KwlSt} (h : Same m a s) (hm : m.testBit 47 = true) :
    Same m a { s with kwl := x } :=
  { h with kwl := fun hb => absurd (hb.symm.trans hm) (by decide), canonical := fun hc => { h.canonical hc with } }

theorem Same.put_hbr {m : Nat} {a s : State} {x : HbrSt} (h : Same m a s) (hm : m.testBit 48 = true) :
    Same m a { s with hbr := x } :=
  { h with hbr := fun hb => absurd (hb.symm.trans hm) (by decide), canonical := fun hc => { h.canonical hc with } }

theorem Same.put_sup {m : Nat} {a s : State} {x : SupSt} (h : Same m a s) (hm : m.testBit 49 = true) :
    Same m a { s with sup := x } :=
  { h with sup := fun hb => absurd (hb.symm.trans hm) (by decide), canonical := fun hc => { h.canonical hc with } }

theorem Same.put_ret {m : Nat} {a s : State} {x : RetSt} (h : Same m a s) (hm : m.testBit 50 = true) (hw : Memory.wf s.ret.store = true → Memory.wf x.store = true) :
    Same m a { s with ret := x } :=
  { h with ret := fun hb => absurd (hb.symm.trans hm) (by decide), canonical := fun hc => { h.canonical hc with retained := hw (h.canonical hc).retained } }

end Sys2Proof.Machine
end

