-- ==== Sys2Proof/Laws/KeepOps.lean ====
section
/-! SUPPORT. What the shared operations of Machine/Ops.lean can change, by the field or page they are given. -/

namespace Sys2Proof.Machine

variable {m : Nat} {a s : State}

theorem Fld.key_div (f : Fld) (ix : List Nat) : f.key ix / 2 ^ 40 = f.home ix := by
  rw [Fld.key, Nat.mul_comm, Nat.mul_add_div (by decide), Nat.div_eq_of_lt (Nat.mod_lt _ (by decide)), Nat.add_zero]

theorem Same.put_regs {r : RegFile} (h : Same m a s)
    (hr : ∀ i, i < 21 → m.testBit i = false → ∀ k, k / 2 ^ 40 = i → SMap.find? r k = SMap.find? s.regs k)
    (hc : SMap.rising s.regs = true → SMap.rising r = true) : Same m a { s with regs := r } :=
  { h with
    regs := fun i hl hi k hk => (hr i hl hi k hk).trans (h.regs i hl hi k hk)
    canonical := fun ha => { h.canonical ha with regs := hc (h.canonical ha).regs } }

theorem State.wr_same {f : Fld} {ix : List Nat} {v : Nat} (h : Same m a s) (hm : m.testBit (f.home ix) = true) :
    Same m a (s.wr f ix v) :=
  h.put_regs (fun i _ hi k hk => SMap.find?_setD_ne _ _ _ fun e => by
    rw [e, Fld.key_div] at hk
    rw [hk, hi] at hm
    exact absurd hm (by decide)) (SMap.rising_setD _ _ _)

theorem State.setB_same {f : Fld} {ix : List Nat} {b : Bool} (h : Same m a s) (hm : m.testBit (f.home ix) = true) :
    Same m a (s.setB f ix b) := wr_same h hm

theorem State.bumpBy_same {f : Fld} {ix : List Nat} {n : Nat} (h : Same m a s) (hm : m.testBit (f.home ix) = true) :
    Same m a (s.bumpBy f ix n) := wr_same h hm

theorem State.bump_same {f : Fld} {ix : List Nat} (h : Same m a s) (hm : m.testBit (f.home ix) = true) :
    Same m a (s.bump f ix) := wr_same h hm

theorem State.bump64_same {hi lo : Fld} {ix : List Nat} {n : Nat} (h : Same m a s) (hm : m.testBit (hi.home ix) = true)
    (hn : m.testBit (lo.home ix) = true) : Same m a (s.bump64 hi lo ix n) := wr_same (wr_same h hm) hn

theorem State.clearFields_same {fs : List (Fld × List Nat)} (h : Same m a s) (hm : ∀ p ∈ fs, m.testBit (p.1.home p.2) = true) :
    Same m a (s.clearFields fs) := by
  unfold State.clearFields
  induction fs generalizing s with
  | nil => exact h
  | cons p fs ih => exact ih (wr_same h (hm p (List.mem_cons_self ..))) fun q hq => hm q (List.mem_cons_of_mem _ hq)

theorem State.clear_nil (h : Same m a s) : Same m a (s.clearFields []) := h

theorem State.clear_cons {f : Fld} {ix : List Nat} {l : List (Fld × List Nat)} (h : Same m a ((s.wr f ix 0).clearFields l)) :
    Same m a (s.clearFields ((f, ix) :: l)) := h

theorem mem_map {β : Type} {g : β → Fld × List Nat} {l : List β} (h : ∀ k, m.testBit ((g k).1.home (g k).2) = true) :
    ∀ p ∈ l.map g, m.testBit (p.1.home p.2) = true := fun _ hp => by
  obtain ⟨k, -, rfl⟩ := List.mem_map.mp hp
  exact h k

theorem State.useFresh_same (h : Same m a s) (hm : m.testBit 32 = true) : Same m a s.useFresh := h.put_freeCtr hm

theorem State.wrFree_same {f : Fld} {ix : List Nat} (h : Same m a s) (hm : m.testBit (f.home ix) = true) (hn : m.testBit 32 = true) :
    Same m a (s.wrFree f ix) := wr_same (useFresh_same h hn) hm

theorem State.random_same1 {n : Nat} (h : Same m a s) (hm : m.testBit 32 = true) : Same m a (s.random n).1 := h.put_freeCtr hm

theorem State.out_same {e : OutEvent} (h : Same m a s) (hm : m.testBit 31 = true) : Same m a (s.out e) := h.put_outs hm

/-- Interrupts and errors of a page reach the page's header, DEV_IRQ_SUM, the pending bits of the MSI-X table and the host. -/
theorem State.irqSum_same {pg : Nat} (h : Same m a s) (hm : m.testBit 3 = true) : Same m a (s.irqSum pg) := by
  unfold State.irqSum
  split
  · exact h
  · refine Same.ite ?_ ?_
    · extract_lets q f old
      refine wr_same h ?_
      have hf : Fld.home f [] = 3 := by
        by_cases hq : q < 32 <;> simp [f, hq] <;> rfl
      rw [hf, hm]
    · exact wr_same h hm

theorem State.msix_same {v : Nat} (h : Same m a s) (hm : m.testBit 1 = true) (ho : m.testBit 31 = true) : Same m a (s.msix v) :=
  Same.ite (wr_same h hm) (out_same h ho)

theorem State.irqMessage_same {pg : Nat} (h : Same m a s) (hm : m.testBit 1 = true) (ho : m.testBit 31 = true) :
    Same m a (s.irqMessage pg) := Same.ite (msix_same h hm ho) h

variable {pg : Nat}

theorem State.setPend_same {v : Nat} (h : Same m a s) (hp : m.testBit (headHome pg) = true) (hd : m.testBit 3 = true)
    (hm : m.testBit 1 = true) (ho : m.testBit 31 = true) : Same m a (s.setPend pg v) := by
  have h1 : Same m a ((s.wr IRQ_PEND_PEND [pg] v).irqSum pg) := irqSum_same (wr_same h hp) hd
  unfold State.setPend
  exact Same.ite (irqMessage_same h1 hm ho) h1

theorem State.irq_same {b : Nat} (h : Same m a s) (hp : m.testBit (headHome pg) = true) (hd : m.testBit 3 = true)
    (hm : m.testBit 1 = true) (ho : m.testBit 31 = true) : Same m a (s.irq pg b) := Same.ite (setPend_same h hp hd hm ho) h

theorem State.cond_same {b : Nat} {l : Bool} (h : Same m a s) (hp : m.testBit (headHome pg) = true) (hd : m.testBit 3 = true)
    (hm : m.testBit 1 = true) (ho : m.testBit 31 = true) : Same m a (s.cond pg b l) := by
  unfold State.cond
  extract_lets raw was t
  have ht : Same m a t := wr_same h hp
  exact Same.ite (irq_same ht hp hd hm ho) ht

theorem State.corrected_same (h : Same m a s) (hp : m.testBit (headHome pg) = true) (hd : m.testBit 3 = true)
    (hm : m.testBit 1 = true) (ho : m.testBit 31 = true) : Same m a (s.corrected pg) := irq_same (bump_same h hp) hp hd hm ho

theorem State.err_same {code level detail : Nat} (h : Same m a s) (hp : m.testBit (headHome pg) = true) (hd : m.testBit 3 = true)
    (hm : m.testBit 1 = true) (ho : m.testBit 31 = true) (he : m.testBit 29 = true) : Same m a (s.err pg code level detail) := by
  unfold State.err
  refine Same.ite (corrected_same h hp hd hm ho) ?_
  extract_lets t u
  have ht : Same m a t := Same.ite h (wr_same (wr_same (wr_same (wr_same h hp) hp) hp) hp)
  have hu : Same m a u := irq_same (bump_same ht hp) hp hd hm ho
  exact hu.put_errLines he

theorem State.errU_same {code level : Nat} (h : Same m a s) (hp : m.testBit (headHome pg) = true) (hd : m.testBit 3 = true)
    (hm : m.testBit 1 = true) (ho : m.testBit 31 = true) (he : m.testBit 29 = true) (hf : m.testBit 32 = true) :
    Same m a (s.errU pg code level) := err_same (useFresh_same h hf) hp hd hm ho he

theorem State.log_same {e : LogEvent} (h : Same m a s) (hm : m.testBit 30 = true) : Same m a (s.log e) := Same.ite (h.put_logLines hm) h

/-! ### Pairs and answers -/

theorem Same.ite1 {β : Type} {x y : State × β} {c : Prop} {_ : Decidable c} (hx : Same m a x.1) (hy : Same m a y.1) :
    Same m a (if c then x else y).1 := by
  split
  · exact hx
  · exact hy

theorem Same.ite2 {β : Type} {x y : β × State} {c : Prop} {_ : Decidable c} (hx : Same m a x.2) (hy : Same m a y.2) :
    Same m a (if c then x else y).2 := by
  split
  · exact hx
  · exact hy

theorem Same.foldl1 {β γ : Type} {f : State × γ → β → State × γ} {l : List β} {p : State × γ} (h : Same m a p.1)
    (hf : ∀ t x, Same m a t.1 → Same m a (f t x).1) : Same m a (l.foldl f p).1 := by
  induction l generalizing p with
  | nil => exact h
  | cons x l ih => exact ih (hf p x h)

theorem Same.foldl2 {β γ : Type} {f : γ × State → β → γ × State} {l : List β} {p : γ × State} (h : Same m a p.2)
    (hf : ∀ t x, Same m a t.2 → Same m a (f t x).2) : Same m a (l.foldl f p).2 := by
  induction l generalizing p with
  | nil => exact h
  | cons x l ih => exact ih (hf p x h)

/-- Every next state of an answer differs only in the parts of a mask, and keeps the canonical forms. -/
def SameR (m : Nat) (a : State) (r : Result) : Prop := ∀ t, r = .next t → Same m a t

theorem SameR.next {t : State} (h : Same m a t) : SameR m a (.next t) := fun _ e => (Host.Outcome.next.inj e) ▸ h

theorem SameR.ite {x y : Result} {c : Prop} {_ : Decidable c} (hx : SameR m a x) (hy : SameR m a y) :
    SameR m a (if c then x else y) := by
  split
  · exact hx
  · exact hy

theorem SameR.then {n : Nat} {r : Result} (h : Same m a s) (hm : m &&& n = n) (g : SameR n s r) : SameR m a r :=
  fun t e => h.then hm (g t e)

theorem onLogic_same {f : State → State} (h : Same m a s) (hf : ∀ t, Same m a t → Same m a (f t)) : SameR m a (onLogic s f) :=
  .ite (.next (hf _ h)) (.next h)

theorem onLogicIf_same {c : Bool} {f : State → State} (h : Same m a s) (hf : ∀ t, Same m a t → Same m a (f t)) :
    SameR m a (onLogicIf s c f) := .ite (.next (hf _ h)) (.next h)

/-! ### Where a page's header lies -/

theorem headHome_high {p : Nat} (hm : m.testBit 20 = true) (hp : 0x100 ≤ p) : m.testBit (headHome p) = true := by
  rw [headHome, if_neg (Nat.not_lt.2 hp), hm]

theorem headHome_pgQ {q : Nat} (hm : m.testBit 20 = true) : m.testBit (headHome (pgQ q)) = true :=
  headHome_high hm (Nat.le_add_right ..)

theorem headHome_pgQ_add {q k : Nat} (hm : m.testBit 20 = true) : m.testBit (headHome (pgQ q + k)) = true :=
  headHome_high hm (Nat.le_trans (Nat.le_add_right 0x100 (4 * q)) (Nat.le_add_right ..))

theorem headHome_pgLFE {q : Nat} (hm : m.testBit 20 = true) : m.testBit (headHome (pgLFE q)) = true :=
  headHome_high hm (Nat.le_trans (by decide) (Nat.le_add_right 0x200 q))

theorem headHome_pgPM {x : Nat} (hm : m.testBit 8 = true) : m.testBit (headHome (pgPM x)) = true := by
  rw [pgPM]
  split <;> exact hm

theorem headHome_pgLane {l : Nat} (hm : m.testBit 6 = true) : m.testBit (headHome (pgLane l)) = true := by
  have hl : l % 4 < 4 := Nat.mod_lt _ (by decide)
  have hp : headHome (pgLane l) = 6 := by
    rw [pgLane]
    generalize l % 4 = k at hl
    match k, hl with
    | 0, _ | 1, _ | 2, _ | 3, _ => rfl
  rw [hp, hm]

theorem bit_of {n i : Nat} (hm : m &&& n = n) (h : n.testBit i = true) : m.testBit i = true := by
  rw [← hm, Nat.testBit_and] at h
  exact (Bool.and_eq_true_iff.1 h).1

theorem sub_of {n k : Nat} (hm : m &&& n = n) (h : n &&& k = k) : m &&& k = k := by
  rw [← h, ← Nat.and_assoc, hm]

theorem home_bit {f : Fld} {ix : List Nat} (i : Nat) (h : f.home ix = i) (hm : m.testBit i = true) : m.testBit (f.home ix) = true := by
  rw [h, hm]

/-- The bits of every part of the register file. -/
def allHomes : Nat := 0x1fffff

theorem pageHome_lt (p : Nat) : pageHome p < 21 := by
  unfold pageHome
  repeat' split
  all_goals omega

theorem headHome_lt (p : Nat) : headHome p < 21 := by
  unfold headHome
  split
  · exact pageHome_lt p
  · decide

theorem Fld.home_lt (f : Fld) (ix : List Nat) : f.home ix < 21 := by
  unfold Fld.home
  split
  · exact headHome_lt _
  · exact pageHome_lt _

theorem testBit_allHomes {i : Nat} (hm : m &&& allHomes = allHomes) (hi : i < 21) : m.testBit i = true := by
  have h : (m &&& allHomes).testBit i = true := by
    rw [hm]
    exact (by decide : ∀ i < 21, allHomes.testBit i = true) i hi
  rw [Nat.testBit_and] at h
  exact (Bool.and_eq_true_iff.1 h).1

theorem any_home {f : Fld} {ix : List Nat} (hm : m &&& allHomes = allHomes) : m.testBit (f.home ix) = true :=
  testBit_allHomes hm (f.home_lt ix)

/-- A change of the register file anywhere. -/
theorem Same.put_allRegs {r : RegFile} (h : Same m a s) (hm : m &&& allHomes = allHomes)
    (hc : SMap.rising s.regs = true → SMap.rising r = true) : Same m a { s with regs := r } :=
  h.put_regs (fun i hl hi _ _ => absurd (hi.symm.trans (testBit_allHomes hm hl)) (by decide)) hc

theorem any_head {p : Nat} (hm : m &&& allHomes = allHomes) : m.testBit (headHome p) = true := testBit_allHomes hm (headHome_lt p)

end Sys2Proof.Machine
end

