-- ==== Sys2Proof/Laws/KeepBase.lean ====
section
/-! SUPPORT. What the functions of Machine/Ops.lean can change, one lemma for each, with the canonical forms kept. -/

namespace Sys2Proof.Machine

variable {m : Nat}

theorem State.passSite_same1 {a s : State} {a1 : Nat} {a2 : Nat} (h : Same m a s) (hm : m &&& 0x801fffff = 0x801fffff) :
    Same m a (State.passSite s a1 a2).1 := h.then hm (by
  have h := Same.refl 0x801fffff s
  unfold State.passSite
  refine Same.ite1 ?_ ?_
  · split
    · exact State.corrected_same (State.wr_same h (any_head rfl)) (any_head rfl) rfl rfl rfl
    · exact State.wr_same h (any_head rfl)
    · exact h
  · exact h)

theorem State.dmaReadErr_same {a s : State} (h : Same m a s) (hm : m &&& 0x8000000a = 0x8000000a) :
    Same m a (State.dmaReadErr s) := h.then hm (by
  have h := Same.refl 0x8000000a s
  unfold State.dmaReadErr
  exact State.irq_same (State.bump_same h rfl) rfl rfl rfl rfl)

theorem State.setPlane_same {a s : State} {i : Nat} {p : PlaneSt} (h : Same m a s) (hm : m &&& 0x400000000 = 0x400000000)
    (hw : Canonical a → (s.plane i).memWf → p.memWf) : Same m a (s.setPlane i p) :=
  h.put_planes (bit_of hm rfl) fun hc w j => by
    by_cases hj : j = i
    · subst hj
      rw [SMap.getD_setD_self]
      exact hw hc (w j)
    · rw [SMap.getD_setD_ne _ _ _ _ hj]
      exact w j

theorem State.setImgOf_same {a s : State} {x : Nat} {i : PlaneImg} {lines : List Nat} (h : Same m a s) (hm : m &&& 0x400000000 = 0x400000000)
    (hw : Memory.wf (s.plane x).img.pdu = true → Memory.wf i.pdu = true) : Same m a (s.setImgOf x i lines) :=
  setPlane_same h hm fun _ w => ⟨hw w.1, w.2.1, w.2.2⟩

theorem State.setImg_same {a s : State} {i : PlaneImg} {lines : List Nat} (h : Same m a s) (hm : m &&& 0x400000000 = 0x400000000)
    (hw : Memory.wf s.img.pdu = true → Memory.wf i.pdu = true) : Same m a (s.setImg i lines) := setImgOf_same h hm hw

theorem PlaneSt.memWf_map {p : PlaneSt} {f : PlaneImg → PlaneImg} (w : p.memWf) (hf : ∀ i, Memory.wf i.pdu = true → Memory.wf (f i).pdu = true) :
    ∀ d, (p.delta.map fun d => { d with img := f d.img }) = some d → Memory.wf d.img.pdu = true := fun d e => by
  obtain ⟨c, hc, rfl⟩ := Option.map_eq_some_iff.1 e
  exact hf _ (w.2.1 c hc)

theorem State.mapImgs_same {a s : State} {f : PlaneImg → PlaneImg} (h : Same m a s) (hm : m &&& 0x400000000 = 0x400000000)
    (hf : ∀ i, Memory.wf i.pdu = true → Memory.wf (f i).pdu = true) : Same m a (s.mapImgs f) :=
  Same.foldl h fun _ _ k => Same.ite (setPlane_same k hm fun _ w => ⟨hf _ w.1, PlaneSt.memWf_map w hf, w.2.2⟩) k

theorem Canonical.sharedMem {s : State} (c : Canonical s) : s.sharedMem.memWf := ⟨c.tideActive, c.tideShadow, c.berths⟩

theorem State.setShared_same {a s : State} {x : PlaneMem} (h : Same m a s) (hm : m &&& 0x5000000000 = 0x5000000000)
    (hw : Canonical a → x.memWf) : Same m a (s.setShared x) := by
  by_cases hc : Canonical a
  · have k := h.put_tid (x := { s.tid with active := x.active, shadow := x.shadow }) (bit_of hm rfl) fun _ _ => ⟨(hw hc).1, (hw hc).2.1⟩
    exact k.put_bth (x := { s.bth with cfg := x.cfg, valid := x.valid }) (bit_of hm rfl) fun _ => (hw hc).2.2
  · exact { h with
      tid := fun hb => absurd (hb.symm.trans (bit_of hm rfl)) (by decide)
      bth := fun hb => absurd (hb.symm.trans (bit_of hm rfl)) (by decide)
      canonical := fun c => absurd c hc }

theorem State.mapOwn_same {a s : State} {f : PlaneMem → PlaneMem} (h : Same m a s) (hm : m &&& 0x400000000 = 0x400000000)
    (hf : ∀ x : PlaneMem, x.memWf → (f x).memWf) : Same m a (s.mapOwn f) :=
  Same.foldl h fun _ _ k => by
    extract_lets p
    split
    · next e => exact Same.ite (setPlane_same k hm fun _ w => ⟨w.1, w.2.1, fun _ o => (Option.some.inj o) ▸ hf _ (w.2.2 _ e)⟩) k
    · exact k

theorem State.mapMem_same {a s : State} {f : PlaneMem → PlaneMem} (h : Same m a s) (hm : m &&& 0x5400000000 = 0x5400000000)
    (hf : ∀ x : PlaneMem, x.memWf → (f x).memWf) : Same m a (s.mapMem f) :=
  Same.ite (mapOwn_same (setShared_same h (sub_of hm rfl) fun c => hf _ (h.canonical c).sharedMem) (sub_of hm rfl) hf) h

theorem State.keepOwn_same {a s : State} {x : Nat} (h : Same m a s) (hm : m &&& 0x400000000 = 0x400000000) : Same m a (s.keepOwn x) :=
  Same.ite (setPlane_same h hm fun c w => ⟨w.1, w.2.1, fun _ o => (Option.some.inj o) ▸ (h.canonical c).sharedMem⟩) h

theorem State.asPlane_same {a s : State} {x : Nat} (h : Same m a s) (hm : m &&& 0x5000000000 = 0x5000000000) : Same m a (s.asPlane x) := by
  unfold State.asPlane
  split
  · next e => exact setShared_same h hm fun c => ((h.canonical c).pdu x).2.2 _ e
  · exact h

theorem State.actAs_same {a s : State} {x : Nat} (h : Same m a s) (hm : m &&& 0x5400000000 = 0x5400000000) : Same m a (s.actAs x) := by
  unfold State.actAs
  split
  · next e =>
    exact setShared_same (setPlane_same h (sub_of hm rfl) fun _ w => ⟨w.1, w.2.1, nofun⟩) (sub_of hm rfl) fun c => ((h.canonical c).pdu x).2.2 _ e
  · exact h

theorem State.touch_same {a s : State} {a1 : List Nat} (h : Same m a s) (hm : m &&& 0x400000000 = 0x400000000) :
    Same m a (State.touch s a1) := h.then hm (by
  have h := Same.refl 0x400000000 s
  unfold State.touch
  exact Same.ite (State.setImg_same h rfl (fun w => w)) h)

theorem State.setRtOf_same {a s : State} {a1 : Nat} {a2 : Nat} {a3 : BerthRt} (h : Same m a s) (hm : m &&& 0x400000000 = 0x400000000) :
    Same m a (State.setRtOf s a1 a2 a3) := h.then hm (by
  have h := Same.refl 0x400000000 s
  unfold State.setRtOf
  extract_lets -merge -underBinder +onlyGivenNames x0
  exact State.setImgOf_same h rfl (fun w => w))

theorem State.setRt_same {a s : State} {a1 : Nat} {a2 : BerthRt} (h : Same m a s) (hm : m &&& 0x400000000 = 0x400000000) :
    Same m a (State.setRt s a1 a2) := h.then hm (by
  have h := Same.refl 0x400000000 s
  unfold State.setRt
  exact State.setRtOf_same h rfl)

theorem State.setGate_same {a s : State} {a1 : Nat} {a2 : GateSt} (h : Same m a s) (hm : m &&& 0x2000000000 = 0x2000000000) :
    Same m a (State.setGate s a1 a2) := h.then hm (by
  have h := Same.refl 0x2000000000 s
  unfold State.setGate
  exact (Same.put_gates h rfl))

end Sys2Proof.Machine
end

