-- ==== Sys2Proof/Laws/KeepPageOps.lean ====
section
/-! SUPPORT. What the functions of Machine/PageOps.lean can change, one lemma for each, with the canonical forms kept. -/

namespace Sys2Proof.Machine

variable {m : Nat}

theorem State.stage_same {a s : State} {a1 : Fld} {a2 : List Nat} {a3 : Nat} (h : Same m a s) (hm : m &&& 0x200000 = 0x200000) :
    Same m a (State.stage s a1 a2 a3) := h.then hm (by
  have h := Same.refl 0x200000 s
  unfold State.stage
  exact (Same.put_staged h rfl (SMap.rising_setD _ _ _)))

theorem State.lockedWrite_same {a s : State} {a1 : Nat} (h : Same m a s) (hm : m &&& 0x801fffff = 0x801fffff) :
    Same m a (State.lockedWrite s a1) := h.then hm (by
  have h := Same.refl 0x801fffff s
  unfold State.lockedWrite
  exact State.irq_same h (any_head rfl) rfl rfl rfl)

theorem State.writeStaged_same {a s : State} {a1 : Fld} {a2 : List Nat} {a3 : Nat} (h : Same m a s) (hm : m &&& 0x803fffff = 0x803fffff) :
    Same m a (State.writeStaged s a1 a2 a3) := h.then hm (by
  have h := Same.refl 0x803fffff s
  unfold State.writeStaged
  extract_lets -merge -underBinder +onlyGivenNames x0
  exact Same.ite (State.lockedWrite_same (State.setB_same h (any_head rfl)) rfl) (State.stage_same h rfl))

theorem State.writeLocked_same {a s : State} {a1 : Fld} {a2 : List Nat} {a3 : Nat} (h : Same m a s) (hm : m &&& 0x801fffff = 0x801fffff) :
    Same m a (State.writeLocked s a1 a2 a3) := h.then hm (by
  have h := Same.refl 0x801fffff s
  unfold State.writeLocked
  extract_lets -merge -underBinder +onlyGivenNames x0
  exact Same.ite (State.lockedWrite_same (State.setB_same h (any_head rfl)) rfl) (State.wr_same h (any_home rfl)))

theorem State.writeField_same {a s : State} {a1 : Fld} {a2 : List Nat} {a3 : Nat} (h : Same m a s) (hm : m &&& 0x803fffff = 0x803fffff) :
    Same m a (State.writeField s a1 a2 a3) := h.then hm (by
  have h := Same.refl 0x803fffff s
  unfold State.writeField
  refine Same.ite ?_ ?_
  · exact h
  · refine Same.ite ?_ ?_
    · exact h
    · split
      · exact h
      · exact h
      · exact h
      · exact State.wr_same h (any_home rfl)
      · split
        · exact State.writeStaged_same h rfl
        · exact State.writeLocked_same h rfl
        · exact State.wr_same h (any_home rfl)
        · exact h)

theorem State.writeWord_same {a s : State} {a1 : Nat} {a2 : Nat} (h : Same m a s) (hm : m &&& 0x803fffff = 0x803fffff) :
    Same m a (State.writeWord s a1 a2) := h.then hm (by
  have h := Same.refl 0x803fffff s
  unfold State.writeWord
  exact Same.foldl h (fun _ _ k0 => State.writeField_same k0 rfl))

theorem State.reloadStaging_same {a s : State} {a1 : Nat} (h : Same m a s) (hm : m &&& 0x200000 = 0x200000) :
    Same m a (State.reloadStaging s a1) := h.then hm (by
  have h := Same.refl 0x200000 s
  unfold State.reloadStaging
  exact (Same.put_staged h rfl (SMap.rising_filter _)))

theorem State.wrBoth_same {a s : State} {f : Fld} {ix : List Nat} {v : Nat} (h : Same m a s) (hm : m &&& 0x3fffff = 0x3fffff) :
    Same m a (s.wrBoth f ix v) :=
  Same.put_staged (s := s.wr f ix v) (wr_same h (any_home (sub_of hm rfl))) (bit_of hm rfl) (SMap.rising_erase _)

theorem State.clearCounters_same {a s : State} {pg : Nat} (h : Same m a s) (hm : m &&& 0x1fffff = 0x1fffff) :
    Same m a (s.clearCounters pg) :=
  h.put_allRegs hm (SMap.rising_filter _)

end Sys2Proof.Machine
end

