-- ==== Sys2Proof/Laws/KeepCstOps.lean ====
section
/-! SUPPORT. What the functions of Machine/CstOps.lean can change, one lemma for each, with the canonical forms kept. -/

namespace Sys2Proof.Machine

variable {m : Nat}

theorem State.setCst_same {a s : State} {x : CstSt} (h : Same m a s) (hm : m &&& 0x200000000 = 0x200000000)
    (hw : Memory.wf s.cst.mem = true → Memory.wf x.mem = true) : Same m a (s.setCst x) := h.put_cst (bit_of hm rfl) hw

theorem State.setSgw_same {a s : State} {a1 : SgwSt} (h : Same m a s) (hm : m &&& 0x8000000000 = 0x8000000000) :
    Same m a (State.setSgw s a1) := h.then hm (by
  have h := Same.refl 0x8000000000 s
  unfold State.setSgw
  exact (Same.put_sgw h rfl))

theorem State.setCph_same {a s : State} {a1 : CphSt} (h : Same m a s) (hm : m &&& 0x400000000000 = 0x400000000000) :
    Same m a (State.setCph s a1) := h.then hm (by
  have h := Same.refl 0x400000000000 s
  unfold State.setCph
  exact (Same.put_cph h rfl))

theorem State.putFrame_same {a s : State} {a1 : Nat} {a2 : FrameObj} (h : Same m a s) (hm : m &&& 0x200000000 = 0x200000000) :
    Same m a (State.putFrame s a1 a2) := h.then hm (by
  have h := Same.refl 0x200000000 s
  unfold State.putFrame
  exact State.setCst_same h rfl (fun w => w))

theorem State.putIngr_same {a s : State} {a1 : Nat} {a2 : Ingress} (h : Same m a s) (hm : m &&& 0x200000000 = 0x200000000) :
    Same m a (State.putIngr s a1 a2) := h.then hm (by
  have h := Same.refl 0x200000000 s
  unfold State.putIngr
  exact State.setCst_same h rfl (fun w => w))

theorem State.hwm_same {a s : State} (h : Same m a s) (hm : m &&& 0x4000 = 0x4000) :
    Same m a (State.hwm s) := h.then hm (by
  have h := Same.refl 0x4000 s
  unfold State.hwm
  exact Same.foldl h (fun _ _ k0 => State.wr_same k0 (home_bit 14 rfl rfl)))

theorem State.viewCst_same {a s : State} (h : Same m a s) (hm : m &&& 0x4000 = 0x4000) :
    Same m a (State.viewCst s) := h.then hm (by
  have h := Same.refl 0x4000 s
  unfold State.viewCst
  exact Same.foldl h (fun _ _ k0 => State.wr_same (State.wr_same (State.wr_same (State.wr_same (State.wr_same (State.wr_same (State.wr_same k0 (home_bit 14 rfl rfl)) (home_bit 14 rfl rfl)) (home_bit 14 rfl rfl)) (home_bit 14 rfl rfl)) (home_bit 14 rfl rfl)) (home_bit 14 rfl rfl)) (home_bit 14 rfl rfl)))

theorem State.putCells_same {a s : State} {a1 : Nat} {a2 : List Nat} (h : Same m a s) (hm : m &&& 0x200000000 = 0x200000000) :
    Same m a (State.putCells s a1 a2) := h.then hm (by
  have h := Same.refl 0x200000000 s
  unfold State.putCells
  exact State.setCst_same h rfl (fun w => Memory.wf_puts _ _ w))

theorem State.loseCells_same {a s : State} {a1 : Nat} {a2 : Nat} (h : Same m a s) (hm : m &&& 0x300000000 = 0x300000000) :
    Same m a (State.loseCells s a1 a2) := h.then hm (by
  have h := Same.refl 0x300000000 s
  unfold State.loseCells
  extract_lets -merge -underBinder +onlyGivenNames x0 x1 x2 x3
  have hx3 : Same 0x300000000 s x3 := State.setCst_same h rfl (fun w => Memory.wf_copyRange (Nat.mul_le_mul_left _ (Nat.le_max_left _ _)) rfl w)
  try clear_value x3
  exact (Same.put_freeCtr hx3 rfl))

theorem State.writeCell_same {a s : State} {a1 : Nat} {a2 : List Nat} (h : Same m a s) (hm : m &&& 0x200000000 = 0x200000000) :
    Same m a (State.writeCell s a1 a2) := h.then hm (by
  have h := Same.refl 0x200000000 s
  unfold State.writeCell
  extract_lets -merge -underBinder +onlyGivenNames x0 x1 x2
  have hx2 : Same 0x200000000 s x2 := State.putCells_same h rfl
  try clear_value x2
  exact State.setCst_same hx2 rfl (fun w => w))

theorem State.appendCell_same1 {a s : State} {a1 : Nat} {a2 : Option Nat} {a3 : Nat} {a4 : List Nat} (h : Same m a s) (hm : m &&& 0x200000000 = 0x200000000) :
    Same m a (State.appendCell s a1 a2 a3 a4).1 := h.then hm (by
  have h := Same.refl 0x200000000 s
  unfold State.appendCell
  extract_lets -merge -underBinder +onlyGivenNames x0
  have hx0 : Same 0x200000000 s x0 := State.writeCell_same h rfl
  try clear_value x0
  split
  · exact State.putFrame_same hx0 rfl
  · split
    · exact State.putFrame_same hx0 rfl
    · exact hx0)

theorem State.unqueue_same {a s : State} {a1 : Nat} (h : Same m a s) (hm : m &&& 0x408600000000 = 0x408600000000) :
    Same m a (State.unqueue s a1) := h.then hm (by
  have h := Same.refl 0x408600000000 s
  unfold State.unqueue
  extract_lets -merge -underBinder +onlyGivenNames x0 x1 x2 x3 x4 x5 x6 x7
  have hx3 : Same 0x408600000000 s x3 := State.setCst_same h rfl (fun w => w)
  have hx5 : Same 0x408600000000 s x5 := State.setSgw_same hx3 rfl
  have hx7 : Same 0x408600000000 s x7 := State.setCph_same hx5 rfl
  try clear_value x3 x5 x7
  exact Same.ite hx7 (State.touch_same hx7 rfl))

theorem State.endLanding_same {a s : State} {a1 : Nat} (h : Same m a s) (hm : m &&& 0x400200000000 = 0x400200000000) :
    Same m a (State.endLanding s a1) := h.then hm (by
  have h := Same.refl 0x400200000000 s
  unfold State.endLanding
  extract_lets -merge -underBinder +onlyGivenNames x0 x1 x2 x3
  have hx3 : Same 0x400200000000 s x3 := State.setCst_same h rfl (fun w => w)
  try clear_value x3
  exact State.setCph_same hx3 rfl)

theorem State.bankCond_same {a s : State} (h : Same m a s) (hm : m &&& 0x8000400a = 0x8000400a) :
    Same m a (State.bankCond s) := h.then hm (by
  have h := Same.refl 0x8000400a s
  unfold State.bankCond
  exact State.cond_same h rfl rfl rfl rfl)

theorem State.unlogRx_same1 {a s : State} {a1 : Nat} {a2 : Nat} (h : Same m a s) (hm : m &&& 0x40000000 = 0x40000000) :
    Same m a (State.unlogRx s a1 a2).1 := h.then hm (by
  have h := Same.refl 0x40000000 s
  unfold State.unlogRx
  extract_lets -merge -underBinder +onlyGivenNames x0
  exact (Same.put_logLines h rfl))

theorem State.unhold_same {a s : State} {a1 : List Nat} (h : Same m a s) (hm : m &&& 0x200000000 = 0x200000000) :
    Same m a (State.unhold s a1) := h.then hm (by
  have h := Same.refl 0x200000000 s
  unfold State.unhold
  exact Same.foldl h (fun _ _ k0 => (by
    split
    · exact State.putFrame_same k0 rfl
    · exact k0)))

theorem State.logCst_same {a s : State} {a1 : FrameObj} {a2 : Nat} {a3 : Option Sys2Proof.Rec} (h : Same m a s) (hm : m &&& 0x240000000 = 0x240000000) :
    Same m a (State.logCst s a1 a2 a3) := h.then hm (by
  have h := Same.refl 0x240000000 s
  unfold State.logCst
  refine Same.ite ?_ ?_
  · extract_lets -merge -underBinder +onlyGivenNames x0 x1
    have hx0 : Same 0x240000000 s x0.1 := by
      unfold x0
      split
      · exact State.unlogRx_same1 h rfl
      · exact h
    have hx1 : Same 0x240000000 s x1 := State.unhold_same hx0 rfl
    try clear_value x0 x1
    split
    · exact State.log_same hx1 rfl
    · exact State.log_same hx1 rfl
  · exact h)

theorem State.retire_same {a s : State} {a1 : List Nat} (h : Same m a s) (hm : m &&& 0x28000400a = 0x28000400a) :
    Same m a (State.retire s a1) := h.then hm (by
  have h := Same.refl 0x28000400a s
  unfold State.retire
  exact Same.ite (Same.foldl h (fun _ _ k0 => Same.ite k0 (State.irq_same (State.bump_same (State.setCst_same k0 rfl (fun w => w)) rfl) rfl rfl rfl rfl))) h)

theorem State.freeCells_same {a s : State} {a1 : Nat} (h : Same m a s) (hm : m &&& 0x28000400a = 0x28000400a) :
    Same m a (State.freeCells s a1) := h.then hm (by
  have h := Same.refl 0x28000400a s
  unfold State.freeCells
  split
  · exact h
  · exact State.retire_same (Same.put_cst h rfl (fun w => w)) rfl)

theorem State.bankDrop_same {a s : State} {a1 : Nat} (h : Same m a s) (hm : m &&& 0x4086c000400a = 0x4086c000400a) :
    Same m a (State.bankDrop s a1) := h.then hm (by
  have h := Same.refl 0x4086c000400a s
  unfold State.bankDrop
  extract_lets -merge -underBinder +onlyGivenNames x0
  exact Same.foldl h (fun _ _ k1 => State.bump_same (State.freeCells_same (State.unqueue_same (State.endLanding_same (State.logCst_same k1 rfl) rfl) rfl) rfl) rfl))

theorem State.failBank_same {a s : State} {a1 : Nat} (h : Same m a s) (hm : m &&& 0x4086c000400a = 0x4086c000400a) :
    Same m a (State.failBank s a1) := h.then hm (by
  have h := Same.refl 0x4086c000400a s
  unfold State.failBank
  extract_lets -merge -underBinder +onlyGivenNames x0
  have hx0 : Same 0x4086c000400a s x0 := State.bankCond_same (State.wr_same h rfl) rfl
  try clear_value x0
  exact State.hwm_same (State.bankDrop_same hx0 rfl) rfl)

theorem State.retireLimit_same {a s : State} {a1 : Nat} (h : Same m a s) (hm : m &&& 0x4086e000400a = 0x4086e000400a) :
    Same m a (State.retireLimit s a1) := h.then hm (by
  have h := Same.refl 0x4086e000400a s
  unfold State.retireLimit
  extract_lets -merge -underBinder +onlyGivenNames x0
  exact Same.ite (State.failBank_same (State.err_same h rfl rfl rfl rfl rfl) rfl) h)

theorem State.freeFrame_same {a s : State} {a1 : Nat} (h : Same m a s) (hm : m &&& 0x4086e000400a = 0x4086e000400a) :
    Same m a (State.freeFrame s a1) := h.then hm (by
  have h := Same.refl 0x4086e000400a s
  unfold State.freeFrame
  split
  · exact h
  · exact Same.foldl (State.freeCells_same h rfl) (fun _ _ k0 => State.retireLimit_same k0 rfl))

theorem State.release_same {a s : State} {a1 : Nat} {a2 : Sys2Proof.Holder} (h : Same m a s) (hm : m &&& 0x4086e000400a = 0x4086e000400a) :
    Same m a (State.release s a1 a2) := h.then hm (by
  have h := Same.refl 0x4086e000400a s
  unfold State.release
  split
  · exact h
  · extract_lets -merge -underBinder +onlyGivenNames x0 x1
    have hx1 : Same 0x4086e000400a s x1 := State.putFrame_same h rfl
    try clear_value x1
    exact Same.ite (State.freeFrame_same hx1 rfl) hx1)

theorem State.hold_same {a s : State} {a1 : Nat} {a2 : Sys2Proof.Holder} (h : Same m a s) (hm : m &&& 0x200000000 = 0x200000000) :
    Same m a (State.hold s a1 a2) := h.then hm (by
  have h := Same.refl 0x200000000 s
  unfold State.hold
  split
  · exact h
  · exact Same.ite h (State.putFrame_same h rfl))

theorem State.dropFrame_same {a s : State} {a1 : Nat} (h : Same m a s) (hm : m &&& 0x4086e000400a = 0x4086e000400a) :
    Same m a (State.dropFrame s a1) := h.then hm (by
  have h := Same.refl 0x4086e000400a s
  unfold State.dropFrame
  exact State.freeFrame_same (State.unqueue_same (State.endLanding_same h rfl) rfl) rfl)

theorem State.landRefuse_same {a s : State} {a1 : Nat} {a2 : Option Nat} {a3 : Nat} (h : Same m a s) (hm : m &&& 0x4086e000400a = 0x4086e000400a) :
    Same m a (State.landRefuse s a1 a2 a3) := h.then hm (by
  have h := Same.refl 0x4086e000400a s
  unfold State.landRefuse
  extract_lets -merge -underBinder +onlyGivenNames x0 x1 x2
  have hx0 : Same 0x4086e000400a s x0 := State.irq_same (State.bump_same h rfl) rfl rfl rfl rfl
  have hx2 : Same 0x4086e000400a s x2 := Same.ite (State.log_same hx0 rfl) hx0
  try clear_value x0 x2
  split
  · exact State.dropFrame_same hx2 rfl
  · exact hx2)

theorem State.landChunks_same1 {a s : State} {w : Nat} {l : List (List Nat)} {o : Option Nat} (h : Same m a s)
    (hm : m &&& 0x4086e000400a = 0x4086e000400a) : Same m a (State.landChunks w l s o).1 := by
  induction l generalizing s o with
  | nil => exact h
  | cons d ds ih =>
    unfold State.landChunks
    split
    · exact State.landRefuse_same h (sub_of hm rfl)
    · exact ih (State.appendCell_same1 h (sub_of hm rfl))

theorem State.landingDone_same {a s : State} {a1 : Nat} (h : Same m a s) (hm : m &&& 0x200000000 = 0x200000000) :
    Same m a (State.landingDone s a1) := h.then hm (by
  have h := Same.refl 0x200000000 s
  unfold State.landingDone
  split
  · exact State.putFrame_same h rfl
  · exact h)

theorem State.landFrame_same1 {a s : State} {a1 : Nat} {a2 : Option Nat} {a3 : List Nat} (h : Same m a s) (hm : m &&& 0x4086e000400a = 0x4086e000400a) :
    Same m a (State.landFrame s a1 a2 a3).1 := h.then hm (by
  have h := Same.refl 0x4086e000400a s
  unfold State.landFrame
  extract_lets -merge -underBinder +onlyGivenNames x0
  have hx0 : Same 0x4086e000400a s x0.1 := State.landChunks_same1 h rfl
  try clear_value x0
  split
  · exact hx0
  · exact State.landingDone_same hx0 rfl)

theorem State.cstGap_same {a s : State} {a1 : Bool} (h : Same m a s) (hm : m &&& 0x8000400a = 0x8000400a) :
    Same m a (State.cstGap s a1) := h.then hm (by
  have h := Same.refl 0x8000400a s
  unfold State.cstGap
  exact Same.ite (State.irq_same (State.bump_same h rfl) rfl rfl rfl rfl) h)

theorem State.pushDesc_same1 {a s : State} {a1 : Nat} {a2 : Sys2Proof.Desc} {a3 : Bool} (h : Same m a s) (hm : m &&& 0x4086e000400a = 0x4086e000400a) :
    Same m a (State.pushDesc s a1 a2 a3).1 := h.then hm (by
  have h := Same.refl 0x4086e000400a s
  unfold State.pushDesc
  extract_lets -merge -underBinder +onlyGivenNames x0 x1 x2
  have hx2 : Same 0x4086e000400a s x2 := State.putIngr_same h rfl
  try clear_value x2
  refine Same.ite1 ?_ ?_
  · split
    · exact State.putFrame_same hx2 rfl
    · exact hx2
  · exact State.dropFrame_same (State.cstGap_same hx2 rfl) rfl)

theorem State.putEgress_same {a s : State} {a1 : Nat} {a2 : Nat} {a3 : List QItem} (h : Same m a s) (hm : m &&& 0x600000000 = 0x600000000) :
    Same m a (State.putEgress s a1 a2 a3) := h.then hm (by
  have h := Same.refl 0x600000000 s
  unfold State.putEgress
  exact State.touch_same (State.setCst_same h rfl (fun w => w)) rfl)

theorem State.setQuay_same {a s : State} {a1 : Nat} {a2 : QuaySt} (h : Same m a s) (hm : m &&& 0x20000000000 = 0x20000000000) :
    Same m a (State.setQuay s a1 a2) := h.then hm (by
  have h := Same.refl 0x20000000000 s
  unfold State.setQuay
  exact (Same.put_quays h rfl))

theorem State.loneNode_same {a s : State} {a1 : Nat} (h : Same m a s) (hm : m &&& 0x8011000a = 0x8011000a) :
    Same m a (State.loneNode s a1) := h.then hm (by
  have h := Same.refl 0x8011000a s
  unfold State.loneNode
  exact Same.ite (State.cond_same (State.setB_same h (home_bit 16 rfl rfl)) (headHome_pgQ rfl) rfl rfl rfl) h)

theorem State.loneAfter_same {a s : State} {a1 : Nat} (h : Same m a s) (hm : m &&& 0x8011000a = 0x8011000a) :
    Same m a (State.loneAfter s a1) := h.then hm (by
  have h := Same.refl 0x8011000a s
  unfold State.loneAfter
  exact Same.ite (State.loneNode_same h rfl) h)

theorem State.putBerthQ_same {a s : State} {a1 : Nat} {a2 : List QItem} (h : Same m a s) (hm : m &&& 0x600000000 = 0x600000000) :
    Same m a (State.putBerthQ s a1 a2) := h.then hm (by
  have h := Same.refl 0x600000000 s
  unfold State.putBerthQ
  exact State.touch_same (State.setCst_same h rfl (fun w => w)) rfl)

theorem State.putInner_same {a s : State} {a1 : Nat} {a2 : List QItem} (h : Same m a s) (hm : m &&& 0x600000000 = 0x600000000) :
    Same m a (State.putInner s a1 a2) := h.then hm (by
  have h := Same.refl 0x600000000 s
  unfold State.putInner
  exact State.touch_same (State.setCst_same h rfl (fun w => w)) rfl)

end Sys2Proof.Machine
end

