-- ==== Sys2Proof/Laws/KeepBthOps.lean ====
section
/-! SUPPORT. What the functions of Machine/BthOps.lean can change, one lemma for each, with the canonical forms kept. -/

namespace Sys2Proof.Machine

variable {m : Nat}

theorem State.statSat_same {a s : State} {a1 : Nat} (h : Same m a s) (hm : m &&& 0x8000200a = 0x8000200a) :
    Same m a (State.statSat s a1) := h.then hm (by
  have h := Same.refl 0x8000200a s
  unfold State.statSat
  exact State.irq_same (State.wr_same (State.wr_same h rfl) rfl) rfl rfl rfl rfl)

theorem State.berthStat_same {a s : State} {a1 : Nat} {a2 : Nat} {a3 : BStat} (h : Same m a s) (hm : m &&& 0x48000200a = 0x48000200a) :
    Same m a (State.berthStat s a1 a2 a3) := h.then hm (by
  have h := Same.refl 0x48000200a s
  unfold State.berthStat
  extract_lets -merge -underBinder +onlyGivenNames x0
  split
  · extract_lets -merge -underBinder +onlyGivenNames x1 x2
    have hx2 : Same 0x48000200a s x2 := State.setRtOf_same h rfl
    try clear_value x2
    exact Same.ite (State.statSat_same hx2 rfl) hx2
  · extract_lets -merge -underBinder +onlyGivenNames x3 x4
    have hx4 : Same 0x48000200a s x4 := State.setRtOf_same h rfl
    try clear_value x4
    exact Same.ite (State.statSat_same hx4 rfl) hx4
  · extract_lets -merge -underBinder +onlyGivenNames x5 x6
    have hx6 : Same 0x48000200a s x6 := State.setRtOf_same h rfl
    try clear_value x6
    exact Same.ite (State.statSat_same hx6 rfl) hx6
  · extract_lets -merge -underBinder +onlyGivenNames x7 x8
    have hx8 : Same 0x48000200a s x8 := State.setRtOf_same h rfl
    try clear_value x8
    exact Same.ite (State.statSat_same hx8 rfl) hx8
  · extract_lets -merge -underBinder +onlyGivenNames x9 x10
    have hx10 : Same 0x48000200a s x10 := State.setRtOf_same h rfl
    try clear_value x10
    exact Same.ite (State.statSat_same hx10 rfl) hx10)

theorem State.blockBerth_same {a s : State} {a1 : Nat} {a2 : Nat} (h : Same m a s) (hm : m &&& 0x48000200a = 0x48000200a) :
    Same m a (State.blockBerth s a1 a2) := h.then hm (by
  have h := Same.refl 0x48000200a s
  unfold State.blockBerth
  extract_lets -merge -underBinder +onlyGivenNames x0
  exact Same.ite (State.irq_same (State.wr_same (State.wr_same (State.setRtOf_same h rfl) rfl) rfl) rfl rfl rfl rfl) h)

theorem State.meter_same1 {a s : State} {a1 : Nat} {a2 : Nat} {a3 : Nat} (h : Same m a s) (hm : m &&& 0x400000000 = 0x400000000) :
    Same m a (State.meter s a1 a2 a3).1 := h.then hm (by
  have h := Same.refl 0x400000000 s
  unfold State.meter
  extract_lets -merge -underBinder +onlyGivenNames x0 x1
  refine Same.ite1 ?_ ?_
  · exact h
  · extract_lets -merge -underBinder +onlyGivenNames x2 x3 x4
    exact State.setRtOf_same h rfl)

theorem State.arrive_same {a s : State} {a1 : Nat} (h : Same m a s) (hm : m &&& 0x1000000000 = 0x1000000000) :
    Same m a (State.arrive s a1) := h.then hm (by
  have h := Same.refl 0x1000000000 s
  unfold State.arrive
  exact Same.ite h (Same.put_tid h rfl (fun w v => ⟨w, v⟩)))

theorem State.berthLate_same {a s : State} {a1 : Nat} {a2 : Nat} (h : Same m a s) (hm : m &&& 0x48000200a = 0x48000200a) :
    Same m a (State.berthLate s a1 a2) := h.then hm (by
  have h := Same.refl 0x48000200a s
  unfold State.berthLate
  exact State.berthStat_same h rfl)

theorem State.policeRest_same1 {a s : State} {a1 : Nat} {a2 : Nat} {a3 : Sys2Proof.Desc} {a4 : Bool} {a5 : Nat} (h : Same m a s) (hm : m &&& 0x148000200a = 0x148000200a) :
    Same m a (State.policeRest s a1 a2 a3 a4 a5).1 := h.then hm (by
  have h := Same.refl 0x148000200a s
  unfold State.policeRest
  extract_lets -merge -underBinder +onlyGivenNames x0 x1 x2
  refine Same.ite1 ?_ ?_
  · exact State.bump_same (State.berthLate_same h rfl) rfl
  · extract_lets -merge -underBinder +onlyGivenNames x3
    have hx3 : Same 0x148000200a s x3 := Same.ite (State.bump_same (State.berthLate_same h rfl) rfl) h
    try clear_value x3
    refine Same.ite1 ?_ ?_
    · exact State.bump_same (State.berthStat_same hx3 rfl) rfl
    · extract_lets -merge -underBinder +onlyGivenNames x4 x5
      have hx4 : Same 0x148000200a s x4.1 := Same.ite1 (State.meter_same1 hx3 rfl) hx3
      have hx5 : Same 0x148000200a s x5 := hx4
      try clear_value x4 x5
      refine Same.ite1 ?_ ?_
      · exact State.bump_same (State.berthStat_same hx5 rfl) rfl
      · refine Same.ite1 ?_ ?_
        · exact hx5
        · refine Same.ite1 ?_ ?_
          · exact hx5
          · extract_lets -merge -underBinder +onlyGivenNames x6 x7 x8 x9 x10
            have hx6 : Same 0x148000200a s x6 := State.berthStat_same hx5 rfl
            have hx8 : Same 0x148000200a s x8 := Same.ite (State.setRtOf_same hx6 rfl) hx6
            have hx10 : Same 0x148000200a s x10 := Same.ite (State.setRtOf_same hx8 rfl) hx8
            try clear_value x6 x8 x10
            exact Same.ite hx10 (State.arrive_same hx10 rfl))

theorem State.police_same1 {a s : State} {a1 : Nat} {a2 : Nat} {a3 : Sys2Proof.Desc} {a4 : Nat} (h : Same m a s) (hm : m &&& 0x148000240a = 0x148000240a) :
    Same m a (State.police s a1 a2 a3 a4).1 := h.then hm (by
  have h := Same.refl 0x148000240a s
  unfold State.police
  extract_lets -merge -underBinder +onlyGivenNames x0 x1
  exact Same.ite1 (Same.ite1 (State.bump_same (State.berthStat_same h rfl) rfl) (Same.ite1 (State.policeRest_same1 h rfl) h)) (Same.ite1 (State.bump_same (State.berthStat_same h rfl) rfl) (Same.ite1 (State.blockBerth_same (State.bump_same (State.berthStat_same h rfl) rfl) rfl) (Same.ite1 (State.blockBerth_same (State.bump_same (State.bump_same (State.berthLate_same h rfl) rfl) rfl) rfl) (State.policeRest_same1 h rfl)))))

end Sys2Proof.Machine
end

