-- ==== Sys2Proof/Laws/KeepLkpOps.lean ====
section
/-! SUPPORT. What the functions of Machine/LkpOps.lean can change, one lemma for each, with the canonical forms kept. -/

namespace Sys2Proof.Machine

variable {m : Nat}

theorem State.setLkpOf_same {a s : State} {a1 : Nat} {a2 : LkpImg} {a3 : List Loc} (h : Same m a s) (hm : m &&& 0x400000000 = 0x400000000) :
    Same m a (State.setLkpOf s a1 a2 a3) := h.then hm (by
  have h := Same.refl 0x400000000 s
  unfold State.setLkpOf
  exact State.setImgOf_same h rfl (fun w => w))

theorem State.setLkpAt_same {a s : State} {a1 : Nat} {a2 : Bool} {a3 : LkpImg} {a4 : List Loc} (h : Same m a s) (hm : m &&& 0x400000000 = 0x400000000) :
    Same m a (State.setLkpAt s a1 a2 a3 a4) := h.then hm (by
  have h := Same.refl 0x400000000 s
  unfold State.setLkpAt
  exact State.setImgOf_same h rfl (fun w => w))

theorem State.lkpConds_same {a s : State} (h : Same m a s) (hm : m &&& 0x8000100a = 0x8000100a) :
    Same m a (State.lkpConds s) := h.then hm (by
  have h := Same.refl 0x8000100a s
  unfold State.lkpConds
  exact State.cond_same (State.cond_same h rfl rfl rfl rfl) rfl rfl rfl rfl)

theorem State.relocations_same {a s : State} {a1 : Nat} (h : Same m a s) (hm : m &&& 0x1000 = 0x1000) :
    Same m a (State.relocations s a1) := h.then hm (by
  have h := Same.refl 0x1000 s
  unfold State.relocations
  exact State.bumpBy_same h rfl)

theorem State.mirrorFail_same {a s : State} (h : Same m a s) (hm : m &&& 0x8000100a = 0x8000100a) :
    Same m a (State.mirrorFail s) := h.then hm (by
  have h := Same.refl 0x8000100a s
  unfold State.mirrorFail
  exact State.irq_same (State.wr_same h rfl) rfl rfl rfl rfl)

theorem State.mirror_same {a s : State} {a1 : Nat} {a2 : FwdEntry} (h : Same m a s) (hm : m &&& 0x48000100a = 0x48000100a) :
    Same m a (State.mirror s a1 a2) := h.then hm (by
  have h := Same.refl 0x48000100a s
  unfold State.mirror
  refine Same.ite ?_ ?_
  · extract_lets -merge -underBinder +onlyGivenNames x0
    split
    · exact Same.ite h (State.setLkpAt_same h rfl)
    · split
      · exact State.relocations_same (State.setLkpAt_same h rfl) rfl
      · exact State.mirrorFail_same h rfl
  · exact h)

theorem State.settlePending_same {a s : State} {a1 : Nat} {a2 : FwdEntry} {a3 : Loc} (h : Same m a s) (hm : m &&& 0x400000000 = 0x400000000) :
    Same m a (State.settlePending s a1 a2 a3) := h.then hm (by
  have h := Same.refl 0x400000000 s
  unfold State.settlePending
  extract_lets -merge -underBinder +onlyGivenNames x0 x1
  exact Same.ite (State.setLkpOf_same h rfl) (State.setLkpOf_same h rfl))

theorem State.retryPending_same {a s : State} {a1 : Nat} (h : Same m a s) (hm : m &&& 0x400001000 = 0x400001000) :
    Same m a (State.retryPending s a1) := h.then hm (by
  have h := Same.refl 0x400001000 s
  unfold State.retryPending
  extract_lets -merge -underBinder +onlyGivenNames x0
  split
  · exact h
  · split
    · exact State.relocations_same (State.setLkpOf_same h rfl) rfl
    · exact h)

theorem State.drainBucket_same1 {a s : State} {a1 : Nat} {a2 : Bool} {a3 : Nat} (h : Same m a s) (hm : m &&& 0x400001000 = 0x400001000) :
    Same m a (State.drainBucket s a1 a2 a3).1 := h.then hm (by
  have h := Same.refl 0x400001000 s
  unfold State.drainBucket
  extract_lets -merge -underBinder +onlyGivenNames x0 x1
  exact Same.ite1 h (State.relocations_same (State.setLkpAt_same h rfl) rfl))

theorem State.afterFree_same {a s : State} {a1 : Nat} {a2 : Bool} {a3 : Nat} (h : Same m a s) (hm : m &&& 0x400001000 = 0x400001000) :
    Same m a (State.afterFree s a1 a2 a3) := h.then hm (by
  have h := Same.refl 0x400001000 s
  unfold State.afterFree
  refine Same.ite ?_ ?_
  · exact State.drainBucket_same1 h rfl
  · extract_lets -merge -underBinder +onlyGivenNames x0
    have hx0 : Same 0x400001000 s x0.1 := State.drainBucket_same1 (State.retryPending_same h rfl) rfl
    try clear_value x0
    exact Same.ite (State.retryPending_same hx0 rfl) hx0)

theorem State.removeAt_same {a s : State} {a1 : Nat} {a2 : Bool} {a3 : Loc} (h : Same m a s) (hm : m &&& 0x400001000 = 0x400001000) :
    Same m a (State.removeAt s a1 a2 a3) := h.then hm (by
  have h := Same.refl 0x400001000 s
  unfold State.removeAt
  extract_lets -merge -underBinder +onlyGivenNames x0 x1 x2 x3 x4
  have hx4 : Same 0x400001000 s x4 := State.setLkpAt_same h rfl
  try clear_value x4
  exact State.afterFree_same hx4 rfl)

theorem State.mirrorRemove_same {a s : State} {a1 : Nat} {a2 : Nat} {a3 : Nat} (h : Same m a s) (hm : m &&& 0x400001000 = 0x400001000) :
    Same m a (State.mirrorRemove s a1 a2 a3) := h.then hm (by
  have h := Same.refl 0x400001000 s
  unfold State.mirrorRemove
  refine Same.ite ?_ ?_
  · extract_lets -merge -underBinder +onlyGivenNames x0
    split
    · exact Same.ite h (State.afterFree_same (State.setLkpAt_same h rfl) rfl)
    · exact h
  · exact h)

theorem State.toPending_same {a s : State} {a1 : Nat} {a2 : FwdEntry} (h : Same m a s) (hm : m &&& 0x400001000 = 0x400001000) :
    Same m a (State.toPending s a1 a2) := h.then hm (by
  have h := Same.refl 0x400001000 s
  unfold State.toPending
  exact State.bump_same (State.setLkpOf_same h rfl) rfl)

theorem State.pushLearn_same {a s : State} {a1 : Sys2Proof.LearnReq} (h : Same m a s) (hm : m &&& 0x1008000100a = 0x1008000100a) :
    Same m a (State.pushLearn s a1) := h.then hm (by
  have h := Same.refl 0x1008000100a s
  unfold State.pushLearn
  extract_lets -merge -underBinder +onlyGivenNames x0 x1 x2
  have hx2 : Same 0x1008000100a s x2 := (Same.put_lkp h rfl)
  try clear_value x2
  exact Same.ite hx2 (State.irq_same (State.bump_same hx2 rfl) rfl rfl rfl rfl))

theorem State.queueLearn_same {a s : State} {a1 : Sys2Proof.Desc} (h : Same m a s) (hm : m &&& 0x1008000100a = 0x1008000100a) :
    Same m a (State.queueLearn s a1) := h.then hm (by
  have h := Same.refl 0x1008000100a s
  unfold State.queueLearn
  exact State.pushLearn_same h rfl)

end Sys2Proof.Machine
end

