-- ==== Sys2Proof/Laws/KeepPlaneOps.lean ====
section
/-! SUPPORT. What the functions of Machine/PlaneOps.lean can change, one lemma for each, with the canonical forms kept. -/

namespace Sys2Proof.Machine

variable {m : Nat}

theorem State.protect_same {a s : State} (h : Same m a s) (hm : m &&& 0x8000010a = 0x8000010a) :
    Same m a (State.protect s) := h.then hm (by
  have h := Same.refl 0x8000010a s
  unfold State.protect
  exact Same.foldl h (fun _ _ k0 => (by
    extract_lets -merge -underBinder +onlyGivenNames x1
    exact State.cond_same (State.setB_same k0 (home_bit 8 rfl rfl)) (headHome_pgPM rfl) rfl rfl rfl)))

theorem State.setRole_same {a s : State} {a1 : Nat} {a2 : Nat} (h : Same m a s) (hm : m &&& 0x48000010a = 0x48000010a) :
    Same m a (State.setRole s a1 a2) := h.then hm (by
  have h := Same.refl 0x48000010a s
  unfold State.setRole
  extract_lets -merge -underBinder +onlyGivenNames x0
  have hx0 : Same 0x48000010a s x0 := Same.ite (State.keepOwn_same h rfl) h
  try clear_value x0
  exact State.protect_same (State.wr_same hx0 (home_bit 8 rfl rfl)) rfl)

theorem State.setClaim_same {a s : State} {a1 : Nat} {a2 : Nat} (h : Same m a s) (hm : m &&& 0x100 = 0x100) :
    Same m a (State.setClaim s a1 a2) := h.then hm (by
  have h := Same.refl 0x100 s
  unfold State.setClaim
  exact State.wr_same h (home_bit 8 rfl rfl))

theorem State.evtTime_same {a s : State} {a1 : Nat} (h : Same m a s) (hm : m &&& 0x100 = 0x100) :
    Same m a (State.evtTime s a1) := h.then hm (by
  have h := Same.refl 0x100 s
  unfold State.evtTime
  exact State.wr_same (State.wr_same h (home_bit 8 rfl rfl)) (home_bit 8 rfl rfl))

theorem State.markAt_same {a s : State} {a1 : Nat} {a2 : Nat} (h : Same m a s) (hm : m &&& 0x40000000 = 0x40000000) :
    Same m a (State.markAt s a1 a2) := h.then hm (by
  have h := Same.refl 0x40000000 s
  unfold State.markAt
  exact State.log_same h rfl)

theorem State.dropDelta_same {a s : State} {a1 : Nat} (h : Same m a s) (hm : m &&& 0x400000100 = 0x400000100) :
    Same m a (State.dropDelta s a1) := h.then hm (by
  have h := Same.refl 0x400000100 s
  unfold State.dropDelta
  extract_lets -merge -underBinder +onlyGivenNames x0
  exact Same.ite (State.bump_same (State.setPlane_same h rfl (fun _ w => ⟨w.1, nofun, w.2.2⟩)) (home_bit 8 rfl rfl)) h)

theorem State.enterOut_same {a s : State} {a1 : Nat} {a2 : OutCause} (h : Same m a s) (hm : m &&& 0x48000010a = 0x48000010a) :
    Same m a (State.enterOut s a1 a2) := h.then hm (by
  have h := Same.refl 0x48000010a s
  unfold State.enterOut
  extract_lets -merge -underBinder +onlyGivenNames x0 x1 x2 x3
  have hx1 : Same 0x48000010a s x1 := State.setRole_same (State.setClaim_same (State.dropDelta_same h rfl) rfl) rfl
  have hx2 : Same 0x48000010a s x2 := State.wr_same (State.wr_same (State.wr_same hx1 (home_bit 8 rfl rfl)) (home_bit 8 rfl rfl)) (home_bit 8 rfl rfl)
  have hx3 : Same 0x48000010a s x3 := State.irq_same (State.bump_same hx2 (home_bit 8 rfl rfl)) (headHome_pgPM rfl) rfl rfl rfl
  try clear_value x1 x2 x3
  exact State.setPlane_same hx3 rfl (fun _ w => ⟨w.1, w.2.1, w.2.2⟩))

theorem State.startTakingOver_same {a s : State} {a1 : Nat} (h : Same m a s) (hm : m &&& 0x1548000110a = 0x1548000110a) :
    Same m a (State.startTakingOver s a1) := h.then hm (by
  have h := Same.refl 0x1548000110a s
  unfold State.startTakingOver
  extract_lets -merge -underBinder +onlyGivenNames x0 x1 x2 x3
  have hx0 : Same 0x1548000110a s x0 := State.evtTime_same (State.setRole_same (State.dropDelta_same h rfl) rfl) rfl
  have hx1 : Same 0x1548000110a s x1 := State.actAs_same hx0 rfl
  have hx3 : Same 0x1548000110a s x3 := State.setPlane_same hx1 rfl (fun _ w => ⟨w.1, w.2.1, w.2.2⟩)
  try clear_value x0 x1 x3
  exact State.lkpConds_same (Same.put_lkp hx3 rfl) rfl)

theorem State.noPlane_same {a s : State} {a1 : Nat} (h : Same m a s) (hm : m &&& 0x1a000010a = 0x1a000010a) :
    Same m a (State.noPlane s a1) := h.then hm (by
  have h := Same.refl 0x1a000010a s
  unfold State.noPlane
  exact State.errU_same h (headHome_pgPM rfl) rfl rfl rfl rfl rfl)

theorem State.leaveActive_same {a s : State} {a1 : Nat} {a2 : OutCause} (h : Same m a s) (hm : m &&& 0x155a000110a = 0x155a000110a) :
    Same m a (State.leaveActive s a1 a2) := h.then hm (by
  have h := Same.refl 0x155a000110a s
  unfold State.leaveActive
  extract_lets -merge -underBinder +onlyGivenNames x0
  refine Same.ite ?_ ?_
  · exact State.startTakingOver_same (State.evtTime_same (State.enterOut_same h rfl) rfl) rfl
  · extract_lets -merge -underBinder +onlyGivenNames x1
    have hx1 : Same 0x155a000110a s x1 := State.noPlane_same (State.evtTime_same (State.enterOut_same h rfl) rfl) rfl
    try clear_value x1
    exact Same.ite (State.enterOut_same (State.useFresh_same hx1 rfl) rfl) hx1)

theorem State.planeFault_same {a s : State} {a1 : Nat} {a2 : Bool} {a3 : Nat} {a4 : Nat} (h : Same m a s) (hm : m &&& 0x155a01fffff = 0x155a01fffff) :
    Same m a (State.planeFault s a1 a2 a3 a4) := h.then hm (by
  have h := Same.refl 0x155a01fffff s
  unfold State.planeFault
  extract_lets -merge -underBinder +onlyGivenNames x0 x1 x2
  exact Same.ite (State.leaveActive_same (State.err_same h (any_head rfl) rfl rfl rfl rfl) rfl) (Same.ite (State.noPlane_same (State.enterOut_same (State.err_same h (any_head rfl) rfl rfl rfl rfl) rfl) rfl) (Same.ite (State.enterOut_same (State.err_same h (any_head rfl) rfl rfl rfl rfl) rfl) (State.err_same h (any_head rfl) rfl rfl rfl rfl))))

theorem State.pmReject_same {a s : State} {a1 : Nat} (h : Same m a s) (hm : m &&& 0x100 = 0x100) :
    Same m a (State.pmReject s a1) := h.then hm (by
  have h := Same.refl 0x100 s
  unfold State.pmReject
  exact State.setB_same h (home_bit 8 rfl rfl))

theorem State.goStale_same {a s : State} {a1 : Nat} {a2 : Nat} (h : Same m a s) (hm : m &&& 0x5a000010a = 0x5a000010a) :
    Same m a (State.goStale s a1 a2) := h.then hm (by
  have h := Same.refl 0x5a000010a s
  unfold State.goStale
  extract_lets -merge -underBinder +onlyGivenNames x0 x1
  have hx0 : Same 0x5a000010a s x0 := State.setRole_same (State.dropDelta_same (State.errU_same h (headHome_pgPM rfl) rfl rfl rfl rfl rfl) rfl) rfl
  have hx1 : Same 0x5a000010a s x1 := State.wr_same hx0 (home_bit 8 rfl rfl)
  try clear_value x0 x1
  exact State.setPlane_same hx1 rfl (fun _ w => ⟨w.1, w.2.1, w.2.2⟩))

theorem Memory.wf_copyRegion {base n per lo hi : Nat} {src dst : Mem} (hs : Memory.wf src = true) (hd : Memory.wf dst = true) :
    Memory.wf (copyRegion base n per lo hi src dst) = true :=
  Memory.wf_ite' (fun h => Memory.wf_copyRange (Nat.mul_le_mul_left _ (Nat.le_of_lt h)) hs hd) hd

theorem PlaneMem.memWf_copy {lo hi : Nat} {src dst : PlaneMem} (hs : src.memWf) (hd : dst.memWf) : (copyMem lo hi src dst).memWf := by
  obtain ⟨h1, h2, h3⟩ := hs
  obtain ⟨k1, k2, k3⟩ := hd
  have e : ∀ a b c v, Memory.wf a = true → Memory.wf b = true → Memory.wf c = true → PlaneMem.memWf ⟨a, b, c, v⟩ := fun _ _ _ _ x y z => ⟨x, y, z⟩
  unfold copyMem
  exact e _ _ _ _ (Memory.wf_copyRegion h1 k1) (Memory.wf_copyRegion h2 k2) (Memory.wf_copyRegion h3 k3)

theorem PlaneImg.wf_copy {lo hi : Nat} {src dst : PlaneImg} (hs : Memory.wf src.pdu = true) (hd : Memory.wf dst.pdu = true) :
    Memory.wf (copyPlaneImg lo hi src dst).pdu = true := by
  have e : (copyPlaneImg lo hi src dst).pdu = copyRegion 221184 16384 64 lo hi src.pdu dst.pdu := by
    simp only [copyPlaneImg]
  rw [e]
  exact Memory.wf_copyRegion hs hd

theorem State.copySlice_same {a s : State} {a1 : Nat} {a2 : Nat} {a3 : Nat} (h : Same m a s) (hm : m &&& 0x400000000 = 0x400000000) :
    Same m a (State.copySlice s a1 a2 a3) := h.then hm (by
  have h := Same.refl 0x400000000 s
  unfold State.copySlice
  extract_lets -merge -underBinder +onlyGivenNames x0
  exact State.setPlane_same h rfl (fun hc w => ⟨PlaneImg.wf_copy ((h.canonical hc).pdu _).1 w.1, w.2.1, fun _ e => by obtain ⟨o, ho, rfl⟩ := Option.map_eq_some_iff.1 e; exact PlaneMem.memWf_copy (h.canonical hc).sharedMem (w.2.2 o ho)⟩))

theorem State.ownDone_same {a s : State} {a1 : Nat} (h : Same m a s) (hm : m &&& 0x400000000 = 0x400000000) :
    Same m a (State.ownDone s a1) := h.then hm (by
  have h := Same.refl 0x400000000 s
  unfold State.ownDone
  extract_lets -merge -underBinder +onlyGivenNames x0
  exact Same.ite (State.setPlane_same h rfl (fun _ w => ⟨w.1, w.2.1, nofun⟩)) h)

theorem State.sealDelta_same {a s : State} (h : Same m a s) (hm : m &&& 0x5a000010a = 0x5a000010a) :
    Same m a (State.sealDelta s) := h.then hm (by
  have h := Same.refl 0x5a000010a s
  unfold State.sealDelta
  refine Same.ite ?_ ?_
  · exact h
  · extract_lets -merge -underBinder +onlyGivenNames x0 x1 x2 x3 x4
    have hx4 : Same 0x5a000010a s x4 := State.setPlane_same h rfl (fun hc w => ⟨w.1, by first | exact w.2.1 | exact fun d e => (Option.some.inj e) ▸ ((h.canonical hc).pdu _).1, w.2.2⟩)
    try clear_value x4
    refine Same.ite ?_ ?_
    · extract_lets -merge -underBinder +onlyGivenNames x5 x6
      have hx5 : Same 0x5a000010a s x5 := State.wr_same hx4 (home_bit 8 rfl rfl)
      have hx6 : Same 0x5a000010a s x6 := State.wr_same hx5 (home_bit 8 rfl rfl)
      try clear_value x5 x6
      refine Same.ite ?_ ?_
      · extract_lets -merge -underBinder +onlyGivenNames x7
        have hx7 : Same 0x5a000010a s x7 := State.irq_same (State.bump_same hx6 (home_bit 8 rfl rfl)) (headHome_pgPM rfl) rfl rfl rfl
        try clear_value x7
        exact Same.ite (State.goStale_same hx7 rfl) hx7
      · extract_lets -merge -underBinder +onlyGivenNames x8
        have hx8 : Same 0x5a000010a s x8 := State.dropDelta_same hx6 rfl
        try clear_value x8
        exact State.setPlane_same hx8 rfl (fun hc w => ⟨w.1, by first | exact w.2.1 | exact fun d e => (Option.some.inj e) ▸ ((h.canonical hc).pdu _).1, w.2.2⟩)
    · exact hx4)

end Sys2Proof.Machine
end

