-- ==== Sys2Proof/Laws/KeepDecide.lean ====
section
/-! SUPPORT. What the functions of Machine/Decide.lean can change, one lemma for each, with the canonical forms kept. -/

namespace Sys2Proof.Machine

variable {m : Nat}

theorem State.nextFresh_same1 {a s : State} {a1 : Nat} {a2 : Nat} (h : Same m a s) (hm : m &&& 0x400000000 = 0x400000000) :
    Same m a (State.nextFresh s a1 a2).1 := h.then hm (by
  have h := Same.refl 0x400000000 s
  unfold State.nextFresh
  extract_lets -merge -underBinder +onlyGivenNames x0 x1
  split
  · exact Same.ite1 h (State.setPlane_same h rfl (fun _ w => ⟨w.1, w.2.1, w.2.2⟩))
  · exact h)

theorem State.takeFresh_same1 {a s : State} {a1 : Nat} {a2 : Nat} (h : Same m a s) (hm : m &&& 0x48000200a = 0x48000200a) :
    Same m a (State.takeFresh s a1 a2).1 := h.then hm (by
  have h := Same.refl 0x48000200a s
  unfold State.takeFresh
  extract_lets -merge -underBinder +onlyGivenNames x0 x1 x2
  have hx0 : Same 0x48000200a s x0.1 := State.nextFresh_same1 h rfl
  have hx1 : Same 0x48000200a s x1 := hx0
  try clear_value x0 x1
  refine Same.ite1 ?_ ?_
  · extract_lets -merge -underBinder +onlyGivenNames x3 x4 x5
    have hx4 : Same 0x48000200a s x4 := State.setRtOf_same hx1 rfl
    have hx5 : Same 0x48000200a s x5 := State.irq_same (State.bump_same (State.berthStat_same hx4 rfl) rfl) rfl rfl rfl rfl
    try clear_value x4 x5
    exact State.wr_same (State.wr_same hx5 rfl) rfl
  · exact State.setRtOf_same hx1 rfl)

theorem State.forwardLookup_same1 {a s : State} {a1 : Nat} {a2 : Sys2Proof.Rec} {a3 : Option Nat} {a4 : Nat} (h : Same m a s) (hm : m &&& 0x1fffff = 0x1fffff) :
    Same m a (State.forwardLookup s a1 a2 a3 a4).1 := h.then hm (by
  have h := Same.refl 0x1fffff s
  unfold State.forwardLookup
  extract_lets -merge -underBinder +onlyGivenNames x0
  split
  · exact State.bump_same (State.bump_same h rfl) rfl
  · extract_lets -merge -underBinder +onlyGivenNames x1
    have hx1 : Same 0x1fffff s x1 := by
      unfold x1
      split
      · exact State.bump_same h (any_home rfl)
      · exact h
    try clear_value x1
    exact Same.ite1 (State.bump_same (State.bump_same hx1 rfl) rfl) hx1)

theorem State.resolveBerth_same1 {a s : State} {a1 : Nat} {a2 : Sys2Proof.Desc} {a3 : Nat} {a4 : Nat} {a5 : Nat} (h : Same m a s) (hm : m &&& 0x4801fffff = 0x4801fffff) :
    Same m a (State.resolveBerth s a1 a2 a3 a4 a5).1 := h.then hm (by
  have h := Same.refl 0x4801fffff s
  unfold State.resolveBerth
  extract_lets -merge -underBinder +onlyGivenNames x0 x1 x2 x3
  refine Same.ite1 ?_ ?_
  · exact h
  · refine Same.ite1 ?_ ?_
    · extract_lets -merge -underBinder +onlyGivenNames x4
      have hx4 : Same 0x4801fffff s x4.1 := State.takeFresh_same1 h rfl
      try clear_value x4
      split
      · exact hx4
      · exact hx4
    · exact Same.ite1 (State.forwardLookup_same1 h rfl) (Same.ite1 h h))

theorem State.resolveFree_same1 {a s : State} {a1 : Nat} {a2 : Sys2Proof.Desc} {a3 : Nat} (h : Same m a s) (hm : m &&& 0x1fffff = 0x1fffff) :
    Same m a (State.resolveFree s a1 a2 a3).1 := h.then hm (by
  have h := Same.refl 0x1fffff s
  unfold State.resolveFree
  exact State.forwardLookup_same1 h rfl)

theorem State.decideFrame_same1 {a s : State} {a1 : Nat} {a2 : Sys2Proof.Desc} {a3 : Nat} (h : Same m a s) (hm : m &&& 0x14801fffff = 0x14801fffff) :
    Same m a (State.decideFrame s a1 a2 a3).1 := h.then hm (by
  have h := Same.refl 0x14801fffff s
  unfold State.decideFrame
  refine Same.ite1 ?_ ?_
  · exact h
  · split
    · exact Same.ite1 (State.bump_same h rfl) (State.resolveFree_same1 h rfl)
    · extract_lets -merge -underBinder +onlyGivenNames x0 x1
      have hx1 : Same 0x14801fffff s x1.1 := State.police_same1 h rfl
      try clear_value x1
      split
      · exact hx1
      · exact State.resolveBerth_same1 hx1 rfl)

theorem State.remember_same {a s : State} {a1 : Nat} {a2 : Sys2Proof.Rec} (h : Same m a s) (hm : m &&& 0x400000000 = 0x400000000) :
    Same m a (State.remember s a1 a2) := h.then hm (by
  have h := Same.refl 0x400000000 s
  unfold State.remember
  extract_lets -merge -underBinder +onlyGivenNames x0
  exact State.setPlane_same h rfl (fun _ w => ⟨w.1, w.2.1, w.2.2⟩))

theorem State.countDecision_same {a s : State} {a1 : Nat} (h : Same m a s) (hm : m &&& 0x100 = 0x100) :
    Same m a (State.countDecision s a1) := h.then hm (by
  have h := Same.refl 0x100 s
  unfold State.countDecision
  exact State.bump64_same h (home_bit 8 rfl rfl) (home_bit 8 rfl rfl))

theorem State.decideStandby_same {a s : State} {a1 : Nat} {a2 : Sys2Proof.Desc} {a3 : Nat} (h : Same m a s) (hm : m &&& 0x14801fffff = 0x14801fffff) :
    Same m a (State.decideStandby s a1 a2 a3) := h.then hm (by
  have h := Same.refl 0x14801fffff s
  unfold State.decideStandby
  extract_lets -merge -underBinder +onlyGivenNames x0 x1
  have hx0 : Same 0x14801fffff s x0.1 := State.decideFrame_same1 h rfl
  have hx1 : Same 0x14801fffff s x1 := by
    unfold x1
    split
    · refine Same.ite ?_ ?_
      · extract_lets -merge -underBinder +onlyGivenNames x2
        exact State.setPlane_same h rfl (fun _ w => ⟨w.1, w.2.1, w.2.2⟩)
      · exact h
    · exact h
  try clear_value x0 x1
  exact State.countDecision_same (State.remember_same hx1 rfl) rfl)

theorem State.decideActing_same {a s : State} {a1 : Nat} {a2 : Sys2Proof.Desc} {a3 : Nat} (h : Same m a s) (hm : m &&& 0x116801fffff = 0x116801fffff) :
    Same m a (State.decideActing s a1 a2 a3) := h.then hm (by
  have h := Same.refl 0x116801fffff s
  unfold State.decideActing
  extract_lets -merge -underBinder +onlyGivenNames x0 x1 x2
  have hx0 : Same 0x116801fffff s x0.1 := State.decideFrame_same1 h rfl
  have hx1 : Same 0x116801fffff s x1 := State.countDecision_same (State.remember_same hx0 rfl) rfl
  have hx2 : Same 0x116801fffff s x2 := Same.ite (State.queueLearn_same hx1 rfl) hx1
  try clear_value x0 x1 x2
  exact State.setCst_same hx2 rfl (fun w => w))

end Sys2Proof.Machine
end

