-- ==== Sys2Proof/Laws/KeepShaper.lean ====
section
/-! SUPPORT. What the functions of Machine/Shaper.lean can change, one lemma for each, with the canonical forms kept. -/

namespace Sys2Proof.Machine

variable {m : Nat}

theorem State.setCredit_same {a s : State} {a1 : Nat} {a2 : Nat} {a3 : Int} (h : Same m a s) (hm : m &&& 0x4000000000 = 0x4000000000) :
    Same m a (State.setCredit s a1 a2 a3) := h.then hm (by
  have h := Same.refl 0x4000000000 s
  unfold State.setCredit
  exact (Same.put_bth h rfl (fun w => w)))

theorem State.advanceCredit_same {a s : State} {a1 : Nat} (h : Same m a s) (hm : m &&& 0x4000000000 = 0x4000000000) :
    Same m a (State.advanceCredit s a1) := h.then hm (by
  have h := Same.refl 0x4000000000 s
  unfold State.advanceCredit
  extract_lets -merge -underBinder +onlyGivenNames x0 x1 x2
  have hx2 : Same 0x4000000000 s x2 := Same.foldl h (fun _ _ k3 => Same.ite (State.setCredit_same k3 rfl) k3)
  try clear_value x2
  exact Same.ite (Same.put_bth hx2 rfl (fun w => w)) hx2)

end Sys2Proof.Machine
end

