-- ==== Sys2Proof/Laws/KeepFlowOps.lean ====
section
/-! SUPPORT. What the functions of Machine/FlowOps.lean can change, one lemma for each, with the canonical forms kept. -/

namespace Sys2Proof.Machine

variable {m : Nat}

theorem State.putFlow_same {a s : State} {a1 : Nat} {a2 : FlowRec} (h : Same m a s) (hm : m &&& 0x200000000 = 0x200000000) :
    Same m a (State.putFlow s a1 a2) := h.then hm (by
  have h := Same.refl 0x200000000 s
  unfold State.putFlow
  exact State.setCst_same h rfl (fun w => w))

theorem State.holdLog_same {a s : State} {a1 : Nat} (h : Same m a s) (hm : m &&& 0x200000000 = 0x200000000) :
    Same m a (State.holdLog s a1) := h.then hm (by
  have h := Same.refl 0x200000000 s
  unfold State.holdLog
  split
  · exact h
  · exact State.putFrame_same h rfl)

theorem State.logTx_same {a s : State} {a1 : Nat} {a2 : Sys2Proof.Rec} {a3 : Nat} {a4 : Nat} {a5 : Nat} {a6 : Nat} (h : Same m a s) (hm : m &&& 0x240000000 = 0x240000000) :
    Same m a (State.logTx s a1 a2 a3 a4 a5 a6) := h.then hm (by
  have h := Same.refl 0x240000000 s
  unfold State.logTx
  refine Same.ite ?_ ?_
  · extract_lets -merge -underBinder +onlyGivenNames x0 x1
    have hx1 : Same 0x240000000 s x1 := Same.ite (State.holdLog_same h rfl) h
    try clear_value x1
    exact State.log_same hx1 rfl
  · exact h)

theorem State.logCopy_same {a s : State} {a1 : Sys2Proof.Rec} {a2 : Nat} (h : Same m a s) (hm : m &&& 0x240000000 = 0x240000000) :
    Same m a (State.logCopy s a1 a2) := h.then hm (by
  have h := Same.refl 0x240000000 s
  unfold State.logCopy
  refine Same.ite ?_ ?_
  · exact h
  · extract_lets -merge -underBinder +onlyGivenNames x0 x1 x2 x3
    have hx3 : Same 0x240000000 s x3 := Same.ite (State.holdLog_same h rfl) h
    try clear_value x3
    exact State.log_same hx3 rfl)

theorem State.quayTakes_same1 {a s : State} {a1 : Nat} {a2 : Sys2Proof.Rec} (h : Same m a s) (hm : m &&& 0x240090001 = 0x240090001) :
    Same m a (State.quayTakes s a1 a2).1 := h.then hm (by
  have h := Same.refl 0x240090001 s
  unfold State.quayTakes
  exact Same.ite1 (State.logTx_same (State.bump_same h rfl) rfl) (Same.ite1 (State.bump_same h rfl) (Same.ite1 (State.logTx_same (State.bump_same h (home_bit 16 rfl rfl)) rfl) h)))

theorem State.checkFail_same {a s : State} {a1 : Nat} (h : Same m a s) (hm : m &&& 0x155a01fffff = 0x155a01fffff) :
    Same m a (State.checkFail s a1) := h.then hm (by
  have h := Same.refl 0x155a01fffff s
  unfold State.checkFail
  extract_lets -merge -underBinder +onlyGivenNames x0 x1 x2 x3 x4
  have hx0 : Same 0x155a01fffff s x0 := State.bump_same h (home_bit 8 rfl rfl)
  have hx3 : Same 0x155a01fffff s x3 := State.setPlane_same hx0 rfl (fun _ w => ⟨w.1, w.2.1, w.2.2⟩)
  try clear_value x0 x3
  exact Same.ite (State.planeFault_same (State.useFresh_same hx3 rfl) rfl) hx3)

theorem State.checkDrop_same {a s : State} {a1 : Nat} {a2 : Nat} {a3 : Sys2Proof.Rec} (h : Same m a s) (hm : m &&& 0x2c000010a = 0x2c000010a) :
    Same m a (State.checkDrop s a1 a2 a3) := h.then hm (by
  have h := Same.refl 0x2c000010a s
  unfold State.checkDrop
  extract_lets -merge -underBinder +onlyGivenNames x0
  have hx0 : Same 0x2c000010a s x0 := State.irq_same (State.bump_same h (home_bit 8 rfl rfl)) (headHome_pgPM rfl) rfl rfl rfl
  try clear_value x0
  exact Same.ite (State.logTx_same hx0 rfl) hx0)

theorem State.deliver_same {a s : State} {a1 : Nat} {a2 : FlowRec} {a3 : Nat} {a4 : Sys2Proof.Rec} (h : Same m a s) (hm : m &&& 0x240090001 = 0x240090001) :
    Same m a (State.deliver s a1 a2 a3 a4) := h.then hm (by
  have h := Same.refl 0x240090001 s
  unfold State.deliver
  refine Same.ite ?_ ?_
  · extract_lets -merge -underBinder +onlyGivenNames x0
    have hx0 : Same 0x240090001 s x0.1 := State.quayTakes_same1 h rfl
    try clear_value x0
    exact State.putFlow_same hx0 rfl
  · exact Same.ite (State.putFlow_same (State.logCopy_same h rfl) rfl) (State.putFlow_same h rfl))

theorem State.compareStandby_same {a s : State} {a1 : Nat} {a2 : FlowRec} (h : Same m a s) (hm : m &&& 0x8000010a = 0x8000010a) :
    Same m a (State.compareStandby s a1 a2) := h.then hm (by
  have h := Same.refl 0x8000010a s
  unfold State.compareStandby
  extract_lets -merge -underBinder +onlyGivenNames x0
  refine Same.ite ?_ ?_
  · split
    · exact Same.ite h (State.irq_same (State.bump_same h (home_bit 8 rfl rfl)) (headHome_pgPM rfl) rfl rfl rfl)
    · exact h
  · exact h)

theorem State.receiveRecord_same {a s : State} {a1 : Nat} {a2 : Option Sys2Proof.Rec} (h : Same m a s) (hm : m &&& 0x157e01fffff = 0x157e01fffff) :
    Same m a (State.receiveRecord s a1 a2) := h.then hm (by
  have h := Same.refl 0x157e01fffff s
  unfold State.receiveRecord
  split
  · exact h
  · extract_lets -merge -underBinder +onlyGivenNames x0 x1 x2 x3
    have hx3 : Same 0x157e01fffff s x3 := Same.ite (State.errU_same h (headHome_pgPM rfl) rfl rfl rfl rfl rfl) h
    try clear_value x3
    refine Same.ite ?_ ?_
    · exact State.putFlow_same hx3 rfl
    · extract_lets -merge -underBinder +onlyGivenNames x4
      have hx4 : Same 0x157e01fffff s x4 := State.compareStandby_same hx3 rfl
      try clear_value x4
      refine Same.ite ?_ ?_
      · exact State.deliver_same hx4 rfl
      · extract_lets -merge -underBinder +onlyGivenNames x5
        have hx5 : Same 0x157e01fffff s x5 := State.checkFail_same hx4 rfl
        try clear_value x5
        refine Same.ite ?_ ?_
        · refine Same.ite ?_ ?_
          · extract_lets -merge -underBinder +onlyGivenNames x6
            have hx6 : Same 0x157e01fffff s x6 := State.hold_same hx5 rfl
            try clear_value x6
            exact State.putFlow_same (State.setCst_same hx6 rfl (fun w => w)) rfl
          · exact State.putFlow_same (State.checkDrop_same hx5 rfl) rfl
        · exact State.putFlow_same hx5 rfl)

theorem State.queryOther_same {a s : State} {a1 : Nat} (h : Same m a s) (hm : m &&& 0x2c009010b = 0x2c009010b) :
    Same m a (State.queryOther s a1) := h.then hm (by
  have h := Same.refl 0x2c009010b s
  unfold State.queryOther
  split
  · exact h
  · split
    · exact h
    · extract_lets -merge -underBinder +onlyGivenNames x0 x1 x2 x3
      refine Same.ite ?_ ?_
      · exact State.putFlow_same (State.checkDrop_same h rfl) rfl
      · split
        · exact State.putFlow_same (State.checkDrop_same (State.bump_same h (home_bit 8 rfl rfl)) rfl) rfl
        · extract_lets -merge -underBinder +onlyGivenNames x4
          exact Same.ite (State.deliver_same (State.bump_same h (home_bit 8 rfl rfl)) rfl) (State.putFlow_same (State.checkDrop_same h rfl) rfl))

end Sys2Proof.Machine
end

