-- ==== Sys2Proof/Laws/KeepPageCmds.lean ====
section
/-! SUPPORT. What the functions of Machine/PageCmds.lean can change, one lemma for each, with the canonical forms kept. -/

namespace Sys2Proof.Machine

variable {m : Nat}

theorem onPage_same {a s : State} {pg : Nat} {f : State → State} (h : Same m a s)
    (hf : ∀ t, Same m a t → Same m a (f t)) : SameR m a (onPage pg s f) := SameR.ite (.next (hf _ h)) (.next h)

theorem execPgCommit_same {a s : State} {a0 : Nat} (h : Same m a s) (hm : m &&& 0x5fffff = 0x5fffff) :
    SameR m a (execPgCommit a0 s) := SameR.then h hm (by
  have h := Same.refl 0x5fffff s
  unfold execPgCommit
  exact onPage_same h (fun _ k0 => (by
    refine Same.ite ?_ ?_
    · exact k0
    · extract_lets -merge -underBinder +onlyGivenNames x1
      have hx1 : Same 0x5fffff s x1 := State.setB_same k0 (any_head rfl)
      try clear_value x1
      exact (Same.put_commits hx1 rfl))))

theorem State.setBth_same {a s : State} {x : BthSt} (h : Same m a s) (hm : m &&& 0x4000000000 = 0x4000000000)
    (hw : Memory.wf s.bth.cfg = true → Memory.wf x.cfg = true) : Same m a (s.setBth x) := h.put_bth (bit_of hm rfl) hw

theorem State.showStaged_same {a s : State} (h : Same m a s) (hm : m &&& 0x2000 = 0x2000) :
    Same m a (State.showStaged s) := h.then hm (by
  have h := Same.refl 0x2000 s
  unfold State.showStaged
  exact State.wr_same h rfl)

theorem State.freeSlots_same {a s : State} (h : Same m a s) (hm : m &&& 0x4000002000 = 0x4000002000) :
    Same m a (State.freeSlots s) := h.then hm (by
  have h := Same.refl 0x4000002000 s
  unfold State.freeSlots
  extract_lets -merge -underBinder +onlyGivenNames x0
  exact State.showStaged_same (State.bumpBy_same (State.setBth_same h rfl (fun w => w)) rfl) rfl)

theorem State.discard_same {a s : State} {a1 : Nat} (h : Same m a s) (hm : m &&& 0x40003fffff = 0x40003fffff) :
    Same m a (State.discard s a1) := h.then hm (by
  have h := Same.refl 0x40003fffff s
  unfold State.discard
  extract_lets -merge -underBinder +onlyGivenNames x0
  have hx0 : Same 0x40003fffff s x0 := Same.ite (State.freeSlots_same h rfl) h
  try clear_value x0
  exact State.setB_same (State.reloadStaging_same hx0 rfl) (any_head rfl))

theorem execPgDiscard_same {a s : State} {a0 : Nat} (h : Same m a s) (hm : m &&& 0x4000ffffff = 0x4000ffffff) :
    SameR m a (execPgDiscard a0 s) := SameR.then h hm (by
  have h := Same.refl 0x4000ffffff s
  unfold execPgDiscard
  exact onPage_same h (fun _ k0 => (by
    split
    · exact State.discard_same k0 rfl
    · refine Same.ite ?_ ?_
      · extract_lets -merge -underBinder +onlyGivenNames x1
        have hx1 : Same 0x4000ffffff s x1 := State.setB_same (State.discard_same k0 rfl) (any_head rfl)
        try clear_value x1
        exact (Same.put_commits hx1 rfl)
      · exact (Same.put_discards k0 rfl))))

theorem execPgCommitBadKey_same {a s : State} {a0 : Nat} (h : Same m a s) (hm : m &&& 0x1fffff = 0x1fffff) :
    SameR m a (execPgCommitBadKey a0 s) := SameR.then h hm (by
  have h := Same.refl 0x1fffff s
  unfold execPgCommitBadKey
  exact onPage_same h (fun _ k0 => State.setB_same k0 (any_head rfl)))

theorem execPgCntClr_same {a s : State} {a0 : Nat} (h : Same m a s) (hm : m &&& 0x1fffff = 0x1fffff) :
    SameR m a (execPgCntClr a0 s) := SameR.then h hm (by
  have h := Same.refl 0x1fffff s
  unfold execPgCntClr
  exact onPage_same h (fun _ k0 => State.wr_same (State.wr_same k0 (any_head rfl)) (any_head rfl)))

theorem execCntClrAll_same {a s : State} {a0 : Nat} (h : Same m a s) (hm : m &&& 0x1fffff = 0x1fffff) :
    SameR m a (execCntClrAll a0 s) := SameR.then h hm (by
  have h := Same.refl 0x1fffff s
  unfold execCntClrAll
  exact onPage_same h (fun _ k0 => (by
    refine Same.ite ?_ ?_
    · exact k0
    · extract_lets -merge -underBinder +onlyGivenNames x1
      have hx1 : Same 0x1fffff s x1 := State.clearCounters_same k0 rfl
      try clear_value x1
      exact Same.ite (State.clearCounters_same (State.clearCounters_same hx1 rfl) rfl) (Same.ite (State.wr_same hx1 rfl) (Same.ite (State.wr_same hx1 rfl) (Same.ite (Same.foldl hx1 (fun _ _ k2 => State.wr_same k2 (home_bit 14 rfl rfl))) hx1))))))

theorem execIrqEnWrite_same {a s : State} {a0 : Nat} {a1 : Sys2Proof.Word} (h : Same m a s) (hm : m &&& 0x801fffff = 0x801fffff) :
    SameR m a (execIrqEnWrite a0 a1 s) := SameR.then h hm (by
  have h := Same.refl 0x801fffff s
  unfold execIrqEnWrite
  exact onPage_same h (fun _ k0 => (by
    extract_lets -merge -underBinder +onlyGivenNames x1
    have hx1 : Same 0x801fffff s x1 := State.wr_same k0 (any_head rfl)
    try clear_value x1
    exact State.setPend_same hx1 (any_head rfl) rfl rfl rfl)))

theorem execIrqPendClear_same {a s : State} {a0 : Nat} {a1 : Sys2Proof.Word} (h : Same m a s) (hm : m &&& 0x801fffff = 0x801fffff) :
    SameR m a (execIrqPendClear a0 a1 s) := SameR.then h hm (by
  have h := Same.refl 0x801fffff s
  unfold execIrqPendClear
  exact onPage_same h (fun _ k0 => (by
    extract_lets -merge -underBinder +onlyGivenNames x1 x2
    have hx2 : Same 0x801fffff s x2 := State.irqSum_same (State.wr_same k0 (any_head rfl)) rfl
    try clear_value x2
    exact Same.ite hx2 (State.irqMessage_same hx2 rfl rfl))))

theorem execIrqForce_same {a s : State} {a0 : Nat} {a1 : Sys2Proof.Word} (h : Same m a s) (hm : m &&& 0x801fffff = 0x801fffff) :
    SameR m a (execIrqForce a0 a1 s) := SameR.then h hm (by
  have h := Same.refl 0x801fffff s
  unfold execIrqForce
  exact onPage_same h (fun _ k0 => State.setPend_same k0 (any_head rfl) rfl rfl rfl))

theorem execErrFirstClear_same {a s : State} {a0 : Nat} (h : Same m a s) (hm : m &&& 0x1fffff = 0x1fffff) :
    SameR m a (execErrFirstClear a0 s) := SameR.then h hm (by
  have h := Same.refl 0x1fffff s
  unfold execErrFirstClear
  exact onPage_same h (fun _ k0 => State.wr_same k0 (any_head rfl)))

theorem execErrInjectArm_same {a s : State} {a0 : Nat} {a1 : Nat} {a2 : Nat} (h : Same m a s) (hm : m &&& 0x1fffff = 0x1fffff) :
    SameR m a (execErrInjectArm a0 a1 a2 s) := SameR.then h hm (by
  have h := Same.refl 0x1fffff s
  unfold execErrInjectArm
  exact onPage_same h (fun _ k0 => State.wr_same (State.wr_same (State.wr_same k0 (any_head rfl)) (any_head rfl)) (any_head rfl)))

end Sys2Proof.Machine
end

