-- ==== Sys2Proof/Laws/KeepBerths.lean ====
section
/-! SUPPORT. What the functions of Machine/Berths.lean can change, one lemma for each, with the canonical forms kept. -/

namespace Sys2Proof.Machine

variable {m : Nat}

theorem State.windowIgnored_same {a s : State} (h : Same m a s) (hm : m &&& 0x8000200a = 0x8000200a) :
    Same m a (State.windowIgnored s) := h.then hm (by
  have h := Same.refl 0x8000200a s
  unfold State.windowIgnored
  exact State.irq_same (State.bump_same (State.wr_same h rfl) rfl) rfl rfl rfl rfl)

theorem State.berthWindow_same {a s : State} {a1 : Nat} {a2 : Nat} {a3 : Sys2Proof.Word} (h : Same m a s) (hm : m &&& 0x408000200a = 0x408000200a) :
    Same m a (State.berthWindow s a1 a2 a3) := h.then hm (by
  have h := Same.refl 0x408000200a s
  unfold State.berthWindow
  refine Same.ite ?_ ?_
  · exact State.windowIgnored_same h rfl
  · split
    · exact State.setBth_same h rfl (fun w => w)
    · exact Same.ite (State.irq_same (State.wr_same h rfl) rfl rfl rfl rfl) (State.showStaged_same (State.setBth_same h rfl (fun w => w)) rfl))

theorem execBerthWindowWrite_same {a s : State} {a0 : Nat} {a1 : Sys2Proof.Word} {a2 : Bool} (h : Same m a s) (hm : m &&& 0x40801fffff = 0x40801fffff) :
    SameR m a (execBerthWindowWrite a0 a1 a2 s) := SameR.then h hm (by
  have h := Same.refl 0x40801fffff s
  unfold execBerthWindowWrite
  exact onLogicIf_same h (fun _ k0 => Same.ite (State.windowIgnored_same k0 rfl) (Same.ite (State.lockedWrite_same (State.setB_same k0 rfl) rfl) (State.berthWindow_same k0 rfl))))

theorem execMeterSweep_same {a s : State} {a0 : Nat} (h : Same m a s) (hm : m &&& 0x400000000 = 0x400000000) :
    SameR m a (execMeterSweep a0 s) := SameR.then h hm (by
  have h := Same.refl 0x400000000 s
  unfold execMeterSweep
  exact onLogicIf_same h (fun _ k0 => (by
    extract_lets -merge -underBinder +onlyGivenNames x1
    refine Same.ite ?_ ?_
    · exact k0
    · extract_lets -merge -underBinder +onlyGivenNames x2
      exact State.setRt_same k0 rfl)))

theorem State.bthCommand_same {a s : State} {a1 : Nat} {a2 : Nat} (h : Same m a s) (hm : m &&& 0x4000002000 = 0x4000002000) :
    Same m a (State.bthCommand s a1 a2) := h.then hm (by
  have h := Same.refl 0x4000002000 s
  unfold State.bthCommand
  exact Same.ite (State.wr_same h rfl) (State.wr_same (State.setBth_same h rfl (fun w => w)) rfl))

theorem execClrStats_same {a s : State} {a0 : Nat} (h : Same m a s) (hm : m &&& 0x4000002000 = 0x4000002000) :
    SameR m a (execClrStats a0 s) := SameR.then h hm (by
  have h := Same.refl 0x4000002000 s
  unfold execClrStats
  exact onLogic_same h (fun _ k0 => State.bthCommand_same k0 rfl))

theorem execRefill_same {a s : State} {a0 : Nat} (h : Same m a s) (hm : m &&& 0x4000002000 = 0x4000002000) :
    SameR m a (execRefill a0 s) := SameR.then h hm (by
  have h := Same.refl 0x4000002000 s
  unfold execRefill
  exact onLogic_same h (fun _ k0 => State.bthCommand_same k0 rfl))

theorem execUnblock_same {a s : State} {a0 : Nat} (h : Same m a s) (hm : m &&& 0x4000002000 = 0x4000002000) :
    SameR m a (execUnblock a0 s) := SameR.then h hm (by
  have h := Same.refl 0x4000002000 s
  unfold execUnblock
  exact onLogic_same h (fun _ k0 => State.bthCommand_same k0 rfl))

theorem execClrAllStats_same {a s : State} (h : Same m a s) (hm : m &&& 0x4000002000 = 0x4000002000) :
    SameR m a (execClrAllStats s) := SameR.then h hm (by
  have h := Same.refl 0x4000002000 s
  unfold execClrAllStats
  exact onLogic_same h (fun _ k0 => State.bthCommand_same k0 rfl))

theorem State.mapRt_same {a s : State} {a1 : Nat} {a2 : BerthRt → BerthRt} (h : Same m a s) (hm : m &&& 0x400000000 = 0x400000000) :
    Same m a (State.mapRt s a1 a2) := h.then hm (by
  have h := Same.refl 0x400000000 s
  unfold State.mapRt
  exact State.touch_same (State.mapImgs_same h rfl (fun _ w => w)) rfl)

theorem State.bthDone_same {a s : State} (h : Same m a s) (hm : m &&& 0x408000200a = 0x408000200a) :
    Same m a (State.bthDone s) := h.then hm (by
  have h := Same.refl 0x408000200a s
  unfold State.bthDone
  exact State.irq_same (State.wr_same (State.setBth_same h rfl (fun w => w)) rfl) rfl rfl rfl rfl)

theorem State.bthBoundary_same {a s : State} (h : Same m a s) (hm : m &&& 0x448000200a = 0x448000200a) :
    Same m a (State.bthBoundary s) := h.then hm (by
  have h := Same.refl 0x448000200a s
  unfold State.bthBoundary
  split
  · exact h
  · exact State.bthDone_same (State.mapRt_same h rfl) rfl
  · exact State.bthDone_same (State.mapRt_same h rfl) rfl
  · exact State.bthDone_same (State.mapRt_same h rfl) rfl
  · exact Same.ite h (State.setBth_same h rfl (fun w => w)))

theorem execClrAllStatsDone_same {a s : State} (h : Same m a s) (hm : m &&& 0x448000200a = 0x448000200a) :
    SameR m a (execClrAllStatsDone s) := SameR.then h hm (by
  have h := Same.refl 0x448000200a s
  unfold execClrAllStatsDone
  exact onLogicIf_same h (fun _ k0 => State.bthDone_same (State.mapImgs_same k0 rfl (fun _ w => w)) rfl))

end Sys2Proof.Machine
end

