-- ==== Sys2Proof/Laws/KeepCistern.lean ====
section
/-! SUPPORT. What the functions of Machine/Cistern.lean can change, one lemma for each, with the canonical forms kept. -/

namespace Sys2Proof.Machine

variable {m : Nat}

theorem State.rxOverflow_same {a s : State} {a1 : Nat} (h : Same m a s) (hm : m &&& 0x8011000a = 0x8011000a) :
    Same m a (State.rxOverflow s a1) := h.then hm (by
  have h := Same.refl 0x8011000a s
  unfold State.rxOverflow
  exact Same.ite (State.irq_same (State.bump_same h (home_bit 16 rfl rfl)) (headHome_pgQ rfl) rfl rfl rfl) (Same.ite (State.irq_same (State.bump_same h (home_bit 16 rfl rfl)) (headHome_pgQ rfl) rfl rfl rfl) h))

theorem State.logRxDrop_same {a s : State} {a1 : Nat} {a2 : Nat} {a3 : Nat} {a4 : Nat} {a5 : Bool} (h : Same m a s) (hm : m &&& 0x40000000 = 0x40000000) :
    Same m a (State.logRxDrop s a1 a2 a3 a4 a5) := h.then hm (by
  have h := Same.refl 0x40000000 s
  unfold State.logRxDrop
  exact State.log_same h rfl)

theorem State.frameBad_same {a s : State} {a1 : Nat} (h : Same m a s) (hm : m &&& 0x4086e000400a = 0x4086e000400a) :
    Same m a (State.frameBad s a1) := h.then hm (by
  have h := Same.refl 0x4086e000400a s
  unfold State.frameBad
  extract_lets -merge -underBinder +onlyGivenNames x0
  have hx0 : Same 0x4086e000400a s x0 := State.unqueue_same (State.endLanding_same h rfl) rfl
  try clear_value x0
  split
  · exact hx0
  · extract_lets -merge -underBinder +onlyGivenNames x1
    exact Same.ite (State.freeFrame_same hx0 rfl) (State.putFrame_same hx0 rfl))

theorem State.announce_same {a s : State} {a1 : Nat} (h : Same m a s) (hm : m &&& 0x4086e000400a = 0x4086e000400a) :
    Same m a (State.announce s a1) := h.then hm (by
  have h := Same.refl 0x4086e000400a s
  unfold State.announce
  split
  · refine Same.ite ?_ ?_
    · extract_lets -merge -underBinder +onlyGivenNames x0 x1 x2
      have hx0 : Same 0x4086e000400a s x0 := State.putFrame_same h rfl
      have hx2 : Same 0x4086e000400a s x2 := State.setCst_same hx0 rfl (fun w => w)
      try clear_value x0 x2
      exact Same.ite (State.release_same hx2 rfl) hx2
    · exact h
  · exact h)

theorem State.badLeaves_same {a s : State} {a1 : Nat} (h : Same m a s) (hm : m &&& 0x4086e001400a = 0x4086e001400a) :
    Same m a (State.badLeaves s a1) := h.then hm (by
  have h := Same.refl 0x4086e001400a s
  unfold State.badLeaves
  exact Same.foldl h (fun _ _ k0 => Same.foldl (State.putEgress_same k0 rfl) (fun _ _ k1 => Same.ite (State.release_same (State.logTx_same (State.bump_same k1 (home_bit 16 rfl rfl)) rfl) rfl) k1)))

theorem State.keepBad_same {a s : State} {a1 : Nat} (h : Same m a s) (hm : m &&& 0x4086e001400a = 0x4086e001400a) :
    Same m a (State.keepBad s a1) := h.then hm (by
  have h := Same.refl 0x4086e001400a s
  unfold State.keepBad
  extract_lets -merge -underBinder +onlyGivenNames x0 x1 x2 x4 x5 x6
  have hx0 : Same 0x4086e001400a s x0 := State.badLeaves_same h rfl
  have hx2 : Same 0x4086e001400a s x2 := Same.foldl hx0 (fun _ _ k3 => Same.ite (State.release_same (State.putInner_same k3 rfl) rfl) k3)
  have hx4 : Same 0x4086e001400a s x4 := hx2
  have hx6 : Same 0x4086e001400a s x6 := State.setCst_same hx4 rfl (fun w => w)
  try clear_value x0 x2 x4 x6
  split
  · extract_lets -merge -underBinder +onlyGivenNames x7
    have hx7 : Same 0x4086e001400a s x7 := State.putFrame_same hx6 rfl
    try clear_value x7
    exact Same.ite (State.release_same hx7 rfl) hx7
  · exact hx6)

theorem execBankHandover_same {a s : State} {a0 : Nat} {a1 : List Nat} {a2 : Bool} {a3 : Nat} {a4 : Nat} (h : Same m a s) (hm : m &&& 0x200000000 = 0x200000000) :
    SameR m a (execBankHandover a0 a1 a2 a3 a4 s) := SameR.then h hm (by
  have h := Same.refl 0x200000000 s
  unfold execBankHandover
  exact onLogicIf_same h (fun _ k0 => (by
    extract_lets -merge -underBinder +onlyGivenNames x1
    refine Same.ite ?_ ?_
    · exact State.putIngr_same k0 rfl
    · refine Same.ite ?_ ?_
      · exact k0
      · extract_lets -merge -underBinder +onlyGivenNames x2 x3
        have hx3 : Same 0x200000000 s x3 := State.putIngr_same k0 rfl
        try clear_value x3
        exact State.setCst_same hx3 rfl (fun w => w))))

theorem State.landNext_same {a s : State} {a1 : Nat} (h : Same m a s) (hm : m &&& 0x4086e000400a = 0x4086e000400a) :
    Same m a (State.landNext s a1) := h.then hm (by
  have h := Same.refl 0x4086e000400a s
  unfold State.landNext
  extract_lets -merge -underBinder +onlyGivenNames x0
  split
  · exact State.putIngr_same h rfl
  · extract_lets -merge -underBinder +onlyGivenNames x1 x2 x3
    have hx3 : Same 0x4086e000400a s x3 := State.putIngr_same h rfl
    try clear_value x3
    split
    · exact State.frameBad_same (State.landRefuse_same hx3 rfl) rfl
    · exact State.landRefuse_same hx3 rfl)

theorem execCellLanding_same {a s : State} {a0 : Nat} (h : Same m a s) (hm : m &&& 0x4086e000400a = 0x4086e000400a) :
    SameR m a (execCellLanding a0 s) := SameR.then h hm (by
  have h := Same.refl 0x4086e000400a s
  unfold execCellLanding
  exact onLogicIf_same h (fun _ k0 => State.landNext_same k0 rfl))

theorem State.cutIssue_same {a s : State} {a1 : Nat} {a2 : Nat} (h : Same m a s) (hm : m &&& 0x4086e011400a = 0x4086e011400a) :
    Same m a (State.cutIssue s a1 a2) := h.then hm (by
  have h := Same.refl 0x4086e011400a s
  unfold State.cutIssue
  split
  · exact h
  · extract_lets -merge -underBinder +onlyGivenNames x0
    refine Same.ite ?_ ?_
    · extract_lets -merge -underBinder +onlyGivenNames x1 x2 x3 x4
      have hx3 : Same 0x4086e011400a s x3 := State.putFrame_same h rfl
      have hx4 : Same 0x4086e011400a s x4.1 := State.pushDesc_same1 hx3 rfl
      try clear_value x3 x4
      exact Same.ite hx4 (State.logRxDrop_same (State.rxOverflow_same hx4 rfl) rfl)
    · exact h)

theorem State.writeBank_same {a s : State} {a1 : Nat} (h : Same m a s) (hm : m &&& 0x4086e011400a = 0x4086e011400a) :
    Same m a (State.writeBank s a1) := h.then hm (by
  have h := Same.refl 0x4086e011400a s
  unfold State.writeBank
  extract_lets -merge -underBinder +onlyGivenNames x0 x1
  have hx0 : Same 0x4086e011400a s x0 := Same.ite (State.landNext_same h rfl) h
  try clear_value x0
  split
  · extract_lets -merge -underBinder +onlyGivenNames x2 x3 x4 x5
    have hx2 : Same 0x4086e011400a s x2.1 := State.appendCell_same1 hx0 rfl
    have hx3 : Same 0x4086e011400a s x3 := hx2
    try clear_value x2 x3
    exact Same.ite (State.landingDone_same (State.putIngr_same hx3 rfl) rfl) (State.cutIssue_same (State.putIngr_same hx3 rfl) rfl)
  · exact hx0)

theorem execCellWrite_same {a s : State} (h : Same m a s) (hm : m &&& 0x4086e011400a = 0x4086e011400a) :
    SameR m a (execCellWrite s) := SameR.then h hm (by
  have h := Same.refl 0x4086e011400a s
  unfold execCellWrite
  exact onLogic_same h (fun _ k0 => (by
    split
    · exact State.writeBank_same k0 rfl
    · exact k0)))

theorem execIngressOverrun_same {a s : State} {a0 : Nat} (h : Same m a s) (hm : m &&& 0x4087e011400a = 0x4087e011400a) :
    SameR m a (execIngressOverrun a0 s) := SameR.then h hm (by
  have h := Same.refl 0x4087e011400a s
  unfold execIngressOverrun
  exact onLogicIf_same h (fun _ k0 => (by
    extract_lets -merge -underBinder +onlyGivenNames x1 x2 x3 x4 x5 x6 x7
    have hx4 : Same 0x4087e011400a s x4 := State.putIngr_same k0 rfl
    have hx5 : Same 0x4087e011400a s x5 := State.irq_same (State.bump_same (State.errU_same hx4 rfl rfl rfl rfl rfl rfl) rfl) rfl rfl rfl rfl
    have hx6 : Same 0x4087e011400a s x6 := State.rxOverflow_same hx5 rfl
    have hx7 : Same 0x4087e011400a s x7 := State.log_same hx6 rfl
    try clear_value x4 x5 x6 x7
    split
    · exact Same.ite (State.frameBad_same hx7 rfl) (State.dropFrame_same hx7 rfl)
    · exact hx7)))

theorem State.serveUntil_same {a s : State} {w n : Nat} (h : Same m a s) (hm : m &&& 0x4086e011400a = 0x4086e011400a) :
    Same m a (State.serveUntil w n s) := by
  induction n generalizing s with
  | zero => exact h
  | succ n ih =>
    unfold State.serveUntil
    split
    · exact h
    · refine Same.ite h ?_
      split
      · exact ih (State.writeBank_same h (sub_of hm rfl))
      · exact h

theorem State.serveFor_same {a s : State} {a1 : Nat} (h : Same m a s) (hm : m &&& 0x4086e011400a = 0x4086e011400a) :
    Same m a (State.serveFor s a1) := h.then hm (by
  have h := Same.refl 0x4086e011400a s
  unfold State.serveFor
  exact State.serveUntil_same h rfl)

theorem State.loseStuck_same {a s : State} {a1 : Nat} (h : Same m a s) (hm : m &&& 0x4086e000400a = 0x4086e000400a) :
    Same m a (State.loseStuck s a1) := h.then hm (by
  have h := Same.refl 0x4086e000400a s
  unfold State.loseStuck
  extract_lets -merge -underBinder +onlyGivenNames x0 x1 x2 x3
  have hx3 : Same 0x4086e000400a s x3 := State.putIngr_same h rfl
  try clear_value x3
  split
  · split
    · exact Same.ite (State.frameBad_same hx3 rfl) (State.dropFrame_same hx3 rfl)
    · exact hx3
  · exact hx3)

theorem State.join_same {a s : State} {a1 : Nat} {a2 : FlowRec} {a3 : Nat} (h : Same m a s) (hm : m &&& 0x4600000000 = 0x4600000000) :
    Same m a (State.join s a1 a2 a3) := h.then hm (by
  have h := Same.refl 0x4600000000 s
  unfold State.join
  extract_lets -merge -underBinder +onlyGivenNames x0 x1
  refine Same.ite ?_ ?_
  · extract_lets -merge -underBinder +onlyGivenNames x2
    have hx2 : Same 0x4600000000 s x2 := State.advanceCredit_same h rfl
    try clear_value x2
    exact State.hold_same (State.putEgress_same hx2 rfl) rfl
  · exact State.hold_same (State.putInner_same h rfl) rfl)

theorem State.charge_same {a s : State} {a1 : Nat} {a2 : Charge} (h : Same m a s) (hm : m &&& 0x200000000 = 0x200000000) :
    Same m a (State.charge s a1 a2) := h.then hm (by
  have h := Same.refl 0x200000000 s
  unfold State.charge
  split
  · exact h
  · exact State.putFrame_same h rfl)

theorem State.unland_same {a s : State} {a1 : Nat} (h : Same m a s) (hm : m &&& 0x4086e000400a = 0x4086e000400a) :
    Same m a (State.unland s a1) := h.then hm (by
  have h := Same.refl 0x4086e000400a s
  unfold State.unland
  split
  · exact Same.ite (State.putFrame_same h rfl) (State.release_same h rfl)
  · exact h)

theorem State.dropClass_same {a s : State} {a1 : Nat} (h : Same m a s) (hm : m &&& 0x4086e000400a = 0x4086e000400a) :
    Same m a (State.dropClass s a1) := h.then hm (by
  have h := Same.refl 0x4086e000400a s
  unfold State.dropClass
  exact State.unland_same (State.charge_same h rfl) rfl)

theorem State.countInterrupt_same {a s : State} {a1 : FlowRec} (h : Same m a s) (hm : m &&& 0x100 = 0x100) :
    Same m a (State.countInterrupt s a1) := h.then hm (by
  have h := Same.refl 0x100 s
  unfold State.countInterrupt
  exact Same.ite (State.bump_same h (home_bit 8 rfl rfl)) h)

theorem State.classifySched_same {a s : State} {a1 : Nat} {a2 : FlowRec} {a3 : FrameObj} (h : Same m a s) (hm : m &&& 0x40c6e000400a = 0x40c6e000400a) :
    Same m a (State.classifySched s a1 a2 a3) := h.then hm (by
  have h := Same.refl 0x40c6e000400a s
  unfold State.classifySched
  extract_lets -merge -underBinder +onlyGivenNames x0
  have hx0 : Same 0x40c6e000400a s x0 := State.charge_same h rfl
  try clear_value x0
  refine Same.ite ?_ ?_
  · extract_lets -merge -underBinder +onlyGivenNames x1 x2
    refine Same.ite ?_ ?_
    · exact State.dropClass_same (State.logCst_same (State.bump_same hx0 rfl) rfl) rfl
    · extract_lets -merge -underBinder +onlyGivenNames x3 x4
      have hx3 : Same 0x40c6e000400a s x3 := State.hold_same (State.putBerthQ_same hx0 rfl) rfl
      have hx4 : Same 0x40c6e000400a s x4 := Same.foldl hx3 (fun _ _ k5 => State.join_same k5 rfl)
      try clear_value x3 x4
      exact State.hwm_same (State.unland_same hx4 rfl) rfl
  · exact State.hwm_same (State.unland_same (Same.foldl hx0 (fun _ _ k6 => State.join_same k6 rfl)) rfl) rfl)

theorem State.classifyUnsched_same {a s : State} {a1 : Nat} {a2 : FlowRec} {a3 : FrameObj} (h : Same m a s) (hm : m &&& 0x40c6e000400a = 0x40c6e000400a) :
    Same m a (State.classifyUnsched s a1 a2 a3) := h.then hm (by
  have h := Same.refl 0x40c6e000400a s
  unfold State.classifyUnsched
  extract_lets -merge -underBinder +onlyGivenNames x0
  refine Same.ite ?_ ?_
  · exact State.dropClass_same h rfl
  · refine Same.ite ?_ ?_
    · exact State.dropClass_same (State.logCst_same (State.irq_same (State.bump_same h rfl) rfl rfl rfl rfl) rfl) rfl
    · extract_lets -merge -underBinder +onlyGivenNames x1
      have hx1 : Same 0x40c6e000400a s x1 := State.charge_same h rfl
      try clear_value x1
      exact State.hwm_same (State.unland_same (Same.foldl hx1 (fun _ _ k2 => State.join_same k2 rfl)) rfl) rfl)

theorem State.enqueueEmit_same {a s : State} {a1 : Nat} {a2 : FlowRec} (h : Same m a s) (hm : m &&& 0x40c6e000440a = 0x40c6e000440a) :
    Same m a (State.enqueueEmit s a1 a2) := h.then hm (by
  have h := Same.refl 0x40c6e000440a s
  unfold State.enqueueEmit
  refine Same.ite ?_ ?_
  · extract_lets -merge -underBinder +onlyGivenNames x0
    have hx0 : Same 0x40c6e000440a s x0 := Same.ite (State.bump_same h rfl) h
    try clear_value x0
    split
    · exact State.release_same hx0 rfl
    · exact hx0
  · extract_lets -merge -underBinder +onlyGivenNames x1
    have hx1 : Same 0x40c6e000440a s x1 := Same.foldl h (fun _ _ k2 => State.join_same k2 rfl)
    try clear_value x1
    split
    · exact State.release_same hx1 rfl
    · exact hx1)

theorem execClassification_same {a s : State} (h : Same m a s) (hm : m &&& 0x40c6e000450a = 0x40c6e000450a) :
    SameR m a (execClassification s) := SameR.then h hm (by
  have h := Same.refl 0x40c6e000450a s
  unfold execClassification
  exact onLogic_same h (fun _ k0 => (by
    split
    · exact k0
    · split
      · exact k0
      · extract_lets -merge -underBinder +onlyGivenNames x1 x2 x3
        have hx2 : Same 0x40c6e000450a s x2 := State.setCst_same k0 rfl (fun w => w)
        try clear_value x2
        split
        · exact hx2
        · refine Same.ite ?_ ?_
          · exact State.enqueueEmit_same hx2 rfl
          · extract_lets -merge -underBinder +onlyGivenNames x4
            have hx4 : Same 0x40c6e000450a s x4 := State.countInterrupt_same hx2 rfl
            try clear_value x4
            exact Same.ite (State.dropClass_same hx4 rfl) (Same.ite (State.classifySched_same hx4 rfl) (State.classifyUnsched_same hx4 rfl)))))

theorem State.noticeBerth_same {a s : State} {a1 : Nat} {a2 : Nat} {a3 : Nat} {a4 : Nat} (h : Same m a s) (hm : m &&& 0x48000200a = 0x48000200a) :
    Same m a (State.noticeBerth s a1 a2 a3 a4) := h.then hm (by
  have h := Same.refl 0x48000200a s
  unfold State.noticeBerth
  extract_lets -merge -underBinder +onlyGivenNames x0 x1 x2
  have hx2 : Same 0x48000200a s x2 := Same.ite h (State.setRtOf_same h rfl)
  try clear_value x2
  exact Same.ite (State.blockBerth_same (State.bump_same (State.berthStat_same hx2 rfl) rfl) rfl) (Same.ite (State.setRtOf_same hx2 rfl) hx2))

theorem State.noticeHolders_same {a s : State} {a1 : Notice} {a2 : Nat} (h : Same m a s) (hm : m &&& 0x408240000000 = 0x408240000000) :
    Same m a (State.noticeHolders s a1 a2) := h.then hm (by
  have h := Same.refl 0x408240000000 s
  unfold State.noticeHolders
  extract_lets -merge -underBinder +onlyGivenNames x0 x1 x2 x3 x4 x5 x6 x7 x8 x9
  have hx3 : Same 0x408240000000 s x3 := State.setCst_same h rfl (fun w => w)
  have hx6 : Same 0x408240000000 s x6 := State.setSgw_same hx3 rfl
  have hx9 : Same 0x408240000000 s x9 := State.setCph_same hx6 rfl
  try clear_value x3 x6 x9
  exact (Same.put_logLines hx9 rfl))

theorem State.noticeSettled_same {a s : State} {a1 : Notice} (h : Same m a s) (hm : m &&& 0x200000000 = 0x200000000) :
    Same m a (State.noticeSettled s a1) := h.then hm (by
  have h := Same.refl 0x200000000 s
  unfold State.noticeSettled
  split
  · exact State.putFrame_same h rfl
  · exact h)

theorem execLengthNotice_same {a s : State} (h : Same m a s) (hm : m &&& 0x4086e000600a = 0x4086e000600a) :
    SameR m a (execLengthNotice s) := SameR.then h hm (by
  have h := Same.refl 0x4086e000600a s
  unfold execLengthNotice
  exact onLogic_same h (fun _ k0 => (by
    split
    · exact k0
    · extract_lets -merge -underBinder +onlyGivenNames x1 x2
      have hx2 : Same 0x4086e000600a s x2 := State.setCst_same k0 rfl (fun w => w)
      try clear_value x2
      split
      · exact hx2
      · extract_lets -merge -underBinder +onlyGivenNames x3
        have hx3 : Same 0x4086e000600a s x3 := State.noticeSettled_same (State.noticeHolders_same hx2 rfl) rfl
        try clear_value x3
        refine Same.ite ?_ ?_
        · exact hx3
        · extract_lets -merge -underBinder +onlyGivenNames x4
          split
          · refine Same.ite ?_ ?_
            · extract_lets -merge -underBinder +onlyGivenNames x5 x6
              have hx6 : Same 0x4086e000600a s x6 := State.noticeBerth_same hx3 rfl
              try clear_value x6
              exact Same.ite (State.frameBad_same hx6 rfl) hx6
            · exact hx3
          · exact hx3)))

theorem execFrameRelease_same {a s : State} {a0 : Nat} {a1 : Sys2Proof.Holder} (h : Same m a s) (hm : m &&& 0x4086e000400a = 0x4086e000400a) :
    SameR m a (execFrameRelease a0 a1 s) := SameR.then h hm (by
  have h := Same.refl 0x4086e000400a s
  unfold execFrameRelease
  exact onLogicIf_same h (fun _ k0 => State.release_same k0 rfl))

theorem State.spoilCell_same {a s : State} {a1 : Nat} (h : Same m a s) (hm : m &&& 0x200000000 = 0x200000000) :
    Same m a (State.spoilCell s a1) := h.then hm (by
  have h := Same.refl 0x200000000 s
  unfold State.spoilCell
  exact State.setCst_same h rfl (fun w => w))

theorem State.cellCrc_same {a s : State} {a1 : Nat} {a2 : Nat} (h : Same m a s) (hm : m &&& 0x2a000400a = 0x2a000400a) :
    Same m a (State.cellCrc s a1 a2) := h.then hm (by
  have h := Same.refl 0x2a000400a s
  unfold State.cellCrc
  extract_lets -merge -underBinder +onlyGivenNames x0
  have hx0 : Same 0x2a000400a s x0 := State.irq_same (State.bump_same (State.err_same (State.spoilCell_same h rfl) rfl rfl rfl rfl rfl) rfl) rfl rfl rfl rfl
  try clear_value x0
  split
  · exact State.putFrame_same hx0 rfl
  · exact hx0)

theorem State.unqueueAt_same {a s : State} {a1 : Nat} {a2 : Nat} (h : Same m a s) (hm : m &&& 0x4086e011400a = 0x4086e011400a) :
    Same m a (State.unqueueAt s a1 a2) := h.then hm (by
  have h := Same.refl 0x4086e011400a s
  unfold State.unqueueAt
  exact Same.foldl h (fun _ _ k0 => (by
    extract_lets -merge -underBinder +onlyGivenNames x1
    exact Same.ite (State.loneAfter_same (State.release_same (State.putEgress_same k0 rfl) rfl) rfl) k0)))

theorem State.askRebuild_same {a s : State} {a1 : Nat} {a2 : QItem} (h : Same m a s) (hm : m &&& 0x200000000 = 0x200000000) :
    Same m a (State.askRebuild s a1 a2) := h.then hm (by
  have h := Same.refl 0x200000000 s
  unfold State.askRebuild
  extract_lets -merge -underBinder +onlyGivenNames x0
  have hx0 : Same 0x200000000 s x0 := State.hold_same h rfl
  try clear_value x0
  exact State.setCst_same hx0 rfl (fun w => w))

theorem State.crcDrop_same {a s : State} {a1 : Nat} {a2 : Nat} {a3 : QItem} (h : Same m a s) (hm : m &&& 0x240000000 = 0x240000000) :
    Same m a (State.crcDrop s a1 a2 a3) := h.then hm (by
  have h := Same.refl 0x240000000 s
  unfold State.crcDrop
  refine Same.ite ?_ ?_
  · exact State.askRebuild_same h rfl
  · split
    · exact State.logCst_same h rfl
    · exact h)

theorem State.crcEnd_same {a s : State} {a1 : Nat} {a2 : Nat} (h : Same m a s) (hm : m &&& 0x4286e000400a = 0x4286e000400a) :
    Same m a (State.crcEnd s a1 a2) := h.then hm (by
  have h := Same.refl 0x4286e000400a s
  unfold State.crcEnd
  extract_lets -merge -underBinder +onlyGivenNames x0
  split
  · split
    · refine Same.ite ?_ ?_
      · extract_lets -merge -underBinder +onlyGivenNames x1
        have hx1 : Same 0x4286e000400a s x1 := Same.ite (State.askRebuild_same h rfl) h
        try clear_value x1
        refine Same.ite ?_ ?_
        · extract_lets -merge -underBinder +onlyGivenNames x2 x3 x4
          have hx2 : Same 0x4286e000400a s x2 := (Same.put_quays hx1 rfl)
          have hx4 : Same 0x4286e000400a s x4 := State.logTx_same (State.bump_same hx2 rfl) rfl
          try clear_value x2 x4
          exact State.release_same (State.release_same hx4 rfl) rfl
        · split
          · exact State.putFrame_same hx1 rfl
          · exact hx1
      · exact h
    · exact h
  · exact h)

theorem State.crcInner_same {a s : State} {a1 : Nat} {a2 : Nat} {a3 : QItem} (h : Same m a s) (hm : m &&& 0x4087e000480a = 0x4087e000480a) :
    Same m a (State.crcInner s a1 a2 a3) := h.then hm (by
  have h := Same.refl 0x4087e000480a s
  unfold State.crcInner
  extract_lets -merge -underBinder +onlyGivenNames x0
  have hx0 : Same 0x4087e000480a s x0 := State.crcDrop_same h rfl
  try clear_value x0
  exact State.release_same (Same.ite (State.errU_same hx0 rfl rfl rfl rfl rfl rfl) hx0) rfl)

theorem execCellCrcFailure_same {a s : State} {a0 : Nat} {a1 : Nat} {a2 : Nat} (h : Same m a s) (hm : m &&& 0x4287e011480a = 0x4287e011480a) :
    SameR m a (execCellCrcFailure a0 a1 a2 s) := SameR.then h hm (by
  have h := Same.refl 0x4287e011480a s
  unfold execCellCrcFailure
  exact onLogicIf_same h (fun _ k0 => (by
    refine Same.ite ?_ ?_
    · extract_lets -merge -underBinder +onlyGivenNames x1
      have hx1 : Same 0x4287e011480a s x1 := State.cellCrc_same k0 rfl
      try clear_value x1
      split
      · exact State.unqueueAt_same (State.crcDrop_same hx1 rfl) rfl
      · exact State.crcEnd_same hx1 rfl
    · refine Same.ite ?_ ?_
      · exact State.spoilCell_same k0 rfl
      · extract_lets -merge -underBinder +onlyGivenNames x2 x3 x4
        try clear_value x2
        try clear_value x3
        try clear_value x4
        split
        · exact State.crcInner_same (State.putInner_same (State.cellCrc_same k0 rfl) rfl) rfl
        · extract_lets -merge -underBinder +onlyGivenNames x5 x6 x7 x8 x9
          have hx5 : Same 0x4287e011480a s x5 := State.cellCrc_same k0 rfl
          have hx7 : Same 0x4287e011480a s x7 := State.setSgw_same hx5 rfl
          have hx9 : Same 0x4287e011480a s x9 := State.setCph_same hx7 rfl
          try clear_value x5 x7 x9
          exact State.crcInner_same hx9 rfl
        · exact State.spoilCell_same k0 rfl)))

theorem execBankFailure_same {a s : State} {a0 : Nat} (h : Same m a s) (hm : m &&& 0x4086e000400a = 0x4086e000400a) :
    SameR m a (execBankFailure a0 s) := SameR.then h hm (by
  have h := Same.refl 0x4086e000400a s
  unfold execBankFailure
  exact onLogicIf_same h (fun _ k0 => Same.ite (State.hwm_same (State.bankCond_same (State.wr_same (State.err_same k0 rfl rfl rfl rfl rfl) rfl) rfl) rfl) (Same.ite (State.err_same k0 rfl rfl rfl rfl rfl) (State.failBank_same (State.err_same k0 rfl rfl rfl rfl rfl) rfl))))

end Sys2Proof.Machine
end

