-- ==== Sys2Proof/Laws/KeepGwOps.lean ====
section
/-! SUPPORT. What the functions of Machine/GwOps.lean can change, one lemma for each, with the canonical forms kept. -/

namespace Sys2Proof.Machine

variable {m : Nat}

theorem Memory.wf_ite {x y : Mem} {c : Prop} {_ : Decidable c} (hx : Memory.wf x = true) (hy : Memory.wf y = true) :
    Memory.wf (if c then x else y) = true := by
  split
  · exact hx
  · exact hy

theorem Memory.wf_putBit {x : Mem} {base p b : Nat} (h : Memory.wf x = true) : Memory.wf (Mem.putBit x base p b) = true :=
  Memory.wf_put _ _ h

theorem Memory.wf_putField {x : Mem} {base v : Nat} {ps : List Nat} (h : Memory.wf x = true) :
    Memory.wf (Mem.putField x base ps v) = true := Memory.wf_foldl h fun _ _ => Memory.wf_putBit

theorem State.setPdu_same {a s : State} {p : Mem} {lines : List Nat} (h : Same m a s) (hm : m &&& 0x400000000 = 0x400000000)
    (hw : Memory.wf s.pdu = true → Memory.wf p = true) : Same m a (s.setPdu p lines) := setImg_same h hm hw

theorem State.expireMap_same {a s : State} {a1 : Nat} {a2 : SigMap} (h : Same m a s) (hm : m &&& 0x48000080a = 0x48000080a) :
    Same m a (State.expireMap s a1 a2) := h.then hm (by
  have h := Same.refl 0x48000080a s
  unfold State.expireMap
  split
  · exact h
  · extract_lets -merge -underBinder +onlyGivenNames x0 x1 x2 x3 x4
    have hx4 : Same 0x48000080a s x4 := State.setPdu_same h rfl (fun w => Memory.wf_ite (Memory.wf_putBit (Memory.wf_ite (Memory.wf_puts _ _ w) (Memory.wf_putField (Memory.wf_puts _ _ w)))) (Memory.wf_ite (Memory.wf_puts _ _ w) (Memory.wf_putField (Memory.wf_puts _ _ w))))
    try clear_value x4
    exact State.wr_same (State.bump_same (State.irq_same hx4 rfl rfl rfl rfl) rfl) rfl)

theorem State.testMap_same {a s : State} {a1 : Nat} {a2 : SigMap} (h : Same m a s) (hm : m &&& 0x48000080a = 0x48000080a) :
    Same m a (State.testMap s a1 a2) := h.then hm (by
  have h := Same.refl 0x48000080a s
  unfold State.testMap
  exact Same.ite (State.expireMap_same h rfl) h)

theorem State.writePool_same1 {a s : State} {x w : Nat} {l : List (List Nat)} {o : Option Nat} (h : Same m a s)
    (hm : m &&& 0x200000000 = 0x200000000) : Same m a (State.writePool x w l s o).1 := by
  induction l generalizing s o with
  | nil => exact h
  | cons d ds ih =>
    unfold State.writePool
    split
    · exact h
    · exact ih (State.appendCell_same1 h (sub_of hm rfl))

theorem State.writePduFrame_same1 {a s : State} {a1 : Nat} {a2 : List Nat} {a3 : Sys2Proof.Holder} {a4 : Bool} (h : Same m a s) (hm : m &&& 0x200004000 = 0x200004000) :
    Same m a (State.writePduFrame s a1 a2 a3 a4).1 := h.then hm (by
  have h := Same.refl 0x200004000 s
  unfold State.writePduFrame
  extract_lets -merge -underBinder +onlyGivenNames x0 x1
  refine Same.ite1 ?_ ?_
  · exact h
  · extract_lets -merge -underBinder +onlyGivenNames x2
    have hx2 : Same 0x200004000 s x2.1 := State.writePool_same1 h rfl
    try clear_value x2
    split
    · exact h
    · split
      · exact h
      · exact State.hwm_same (State.putFrame_same hx2 rfl) rfl)

theorem State.sealPdu_same1 {a s : State} {a1 : Sys2Proof.Rec} (h : Same m a s) (hm : m &&& 0x8000000000 = 0x8000000000) :
    Same m a (State.sealPdu s a1).1 := h.then hm (by
  have h := Same.refl 0x8000000000 s
  unfold State.sealPdu
  extract_lets -merge -underBinder +onlyGivenNames x0
  exact Same.ite1 (State.setSgw_same h rfl) h)

theorem State.reissue_same1 {a s : State} {a1 : Sys2Proof.Rec} {a2 : Nat} {a3 : List Nat} {a4 : Nat} {a5 : BitVec 128} {a6 : Nat} (h : Same m a s) (hm : m &&& 0x4086e000400a = 0x4086e000400a) :
    Same m a (State.reissue s a1 a2 a3 a4 a5 a6).1 := h.then hm (by
  have h := Same.refl 0x4086e000400a s
  unfold State.reissue
  extract_lets -merge -underBinder +onlyGivenNames x0
  have hx0 : Same 0x4086e000400a s x0.1 := State.landFrame_same1 h rfl
  try clear_value x0
  split
  · exact hx0
  · extract_lets -merge -underBinder +onlyGivenNames x1
    exact State.pushDesc_same1 hx0 rfl)

theorem State.reissueCan_same1 {a s : State} {a1 : Sys2Proof.Rec} {a2 : Nat} {a3 : Sys2Proof.CanFrame} {a4 : Nat} (h : Same m a s) (hm : m &&& 0x4086e000400a = 0x4086e000400a) :
    Same m a (State.reissueCan s a1 a2 a3 a4).1 := h.then hm (by
  have h := Same.refl 0x4086e000400a s
  unfold State.reissueCan
  exact State.reissue_same1 h rfl)

theorem State.viewSgw_same {a s : State} (h : Same m a s) (hm : m &&& 0x800 = 0x800) :
    Same m a (State.viewSgw s) := h.then hm (by
  have h := Same.refl 0x800 s
  unfold State.viewSgw
  extract_lets -merge -underBinder +onlyGivenNames x0 x1 x2 x3 x4 x5 x6 x7
  have hx2 : Same 0x800 s x2 := State.wr_same h rfl
  have hx3 : Same 0x800 s x3 := State.wr_same hx2 rfl
  have hx4 : Same 0x800 s x4 := State.wr_same hx3 rfl
  have hx5 : Same 0x800 s x5 := State.wr_same hx4 rfl
  have hx6 : Same 0x800 s x6 := State.wr_same hx5 rfl
  try clear_value x2 x3 x4 x5 x6
  exact State.wr_same (State.wr_same hx6 rfl) rfl)

end Sys2Proof.Machine
end

