-- ==== Sys2Proof/Laws/KeepLogView.lean ====
section
/-! SUPPORT. What the functions of Machine/LogView.lean can change, one lemma for each, with the canonical forms kept. -/

namespace Sys2Proof.Machine

variable {m : Nat}

theorem State.setLog_same {a s : State} {a1 : LogSt} (h : Same m a s) (hm : m &&& 0x200000000000 = 0x200000000000) :
    Same m a (State.setLog s a1) := h.then hm (by
  have h := Same.refl 0x200000000000 s
  unfold State.setLog
  exact (Same.put_lgr h rfl))

theorem State.viewLog_same {a s : State} (h : Same m a s) (hm : m &&& 0x8000002a = 0x8000002a) :
    Same m a (State.viewLog s) := h.then hm (by
  have h := Same.refl 0x8000002a s
  unfold State.viewLog
  extract_lets -merge -underBinder +onlyGivenNames x0 x1 x2 x3
  have hx0 : Same 0x8000002a s x0 := State.wr_same (State.wr_same h rfl) rfl
  have hx3 : Same 0x8000002a s x3 := State.cond_same (State.setB_same hx0 rfl) rfl rfl rfl rfl
  try clear_value x0 x3
  exact State.cond_same (State.cond_same hx3 rfl rfl rfl rfl) rfl rfl rfl rfl)

end Sys2Proof.Machine
end

