-- ==== Sys2Proof/Laws/KeepGateway.lean ====
section
/-! SUPPORT. What the functions of Machine/Gateway.lean can change, one lemma for each, with the canonical forms kept. -/

namespace Sys2Proof.Machine

variable {m : Nat}

theorem State.jobDrop_same {a s : State} (h : Same m a s) (hm : m &&& 0x8000080a = 0x8000080a) :
    Same m a (State.jobDrop s) := h.then hm (by
  have h := Same.refl 0x8000080a s
  unfold State.jobDrop
  exact State.irq_same (State.bump_same h rfl) rfl rfl rfl rfl)

theorem State.pushJob_same {a s : State} {a1 : QItem} (h : Same m a s) (hm : m &&& 0x4086e000480a = 0x4086e000480a) :
    Same m a (State.pushJob s a1) := h.then hm (by
  have h := Same.refl 0x4086e000480a s
  unfold State.pushJob
  extract_lets -merge -underBinder +onlyGivenNames x0 x1 x2
  have hx2 : Same 0x4086e000480a s x2 := State.setSgw_same h rfl
  try clear_value x2
  exact Same.ite hx2 (State.release_same (State.jobDrop_same hx2 rfl) rfl))

theorem execIq2JobEnqueue_same {a s : State} (h : Same m a s) (hm : m &&& 0x4086e000480a = 0x4086e000480a) :
    SameR m a (execIq2JobEnqueue s) := SameR.then h hm (by
  have h := Same.refl 0x4086e000480a s
  unfold execIq2JobEnqueue
  exact onLogic_same h (fun _ k0 => (by
    split
    · exact k0
    · exact State.pushJob_same (State.putInner_same k0 rfl) rfl)))

theorem State.takeJob_same {a s : State} (h : Same m a s) (hm : m &&& 0x4087e000480a = 0x4087e000480a) :
    Same m a (State.takeJob s) := h.then hm (by
  have h := Same.refl 0x4087e000480a s
  unfold State.takeJob
  refine Same.ite ?_ ?_
  · exact h
  · split
    · refine Same.ite ?_ ?_
      · exact h
      · extract_lets -merge -underBinder +onlyGivenNames x0 x1
        have hx1 : Same 0x4087e000480a s x1 := State.setSgw_same h rfl
        try clear_value x1
        split
        · exact State.release_same (State.errU_same (State.cellCrc_same hx1 rfl) rfl rfl rfl rfl rfl rfl) rfl
        · extract_lets -merge -underBinder +onlyGivenNames x2 x3 x4
          exact State.setSgw_same hx1 rfl
    · exact State.setSgw_same h rfl
    · exact h)

theorem State.jobPart_same {a s : State} {a1 : SgwJob} (h : Same m a s) (hm : m &&& 0x4086e000480a = 0x4086e000480a) :
    Same m a (State.jobPart s a1) := h.then hm (by
  have h := Same.refl 0x4086e000480a s
  unfold State.jobPart
  exact Same.ite (State.release_same (State.bump_same (State.setSgw_same h rfl) rfl) rfl) (State.setSgw_same h rfl))

theorem State.applyMap_same {a s : State} {a1 : List Nat} {a2 : Nat} {a3 : SigMap} (h : Same m a s) (hm : m &&& 0x48000080a = 0x48000080a) :
    Same m a (State.applyMap s a1 a2 a3) := h.then hm (by
  have h := Same.refl 0x48000080a s
  unfold State.applyMap
  refine Same.ite ?_ ?_
  · exact State.bump_same h rfl
  · refine Same.ite ?_ ?_
    · exact h
    · split
      · exact h
      · extract_lets -merge -underBinder +onlyGivenNames x0 x1 x2 x3 x4
        have hx4 : Same 0x48000080a s x4 := State.setPdu_same h rfl (fun w => Memory.wf_puts _ _ (Memory.wf_ite (Memory.wf_putBit (Memory.wf_putField w)) (Memory.wf_putField w)))
        try clear_value x4
        exact Same.ite (State.bump_same (State.irq_same hx4 rfl rfl rfl rfl) rfl) hx4)

theorem execSignalExtraction_same {a s : State} (h : Same m a s) (hm : m &&& 0x4087e000480a = 0x4087e000480a) :
    SameR m a (execSignalExtraction s) := SameR.then h hm (by
  have h := Same.refl 0x4087e000480a s
  unfold execSignalExtraction
  exact onLogicIf_same h (fun _ k0 => (by
    extract_lets -merge -underBinder +onlyGivenNames x1
    have hx1 : Same 0x4087e000480a s x1 := State.takeJob_same k0 rfl
    try clear_value x1
    split
    · exact hx1
    · refine Same.ite ?_ ?_
      · exact hx1
      · extract_lets -merge -underBinder +onlyGivenNames x2 x3
        have hx3 : Same 0x4087e000480a s x3 := Same.foldl hx1 (fun _ _ k4 => State.applyMap_same k4 rfl)
        try clear_value x3
        exact State.jobPart_same hx3 rfl)))

theorem execMapTimeoutSweep_same {a s : State} (h : Same m a s) (hm : m &&& 0x848000080a = 0x848000080a) :
    SameR m a (execMapTimeoutSweep s) := SameR.then h hm (by
  have h := Same.refl 0x848000080a s
  unfold execMapTimeoutSweep
  exact onLogicIf_same h (fun _ k0 => (by
    extract_lets -merge -underBinder +onlyGivenNames x1
    refine Same.ite ?_ ?_
    · exact k0
    · extract_lets -merge -underBinder +onlyGivenNames x2
      exact State.testMap_same (State.setSgw_same k0 rfl) rfl)))

theorem tunnelRow_same {a s : State} {kind : Nat} {f : SgwJob → Nat → Tunnel → State → State} (h : Same m a s)
    (hf : ∀ j n x t, Same m a t → Same m a (f j n x t)) (hm : m &&& 0x4087e000480a = 0x4087e000480a) : SameR m a (tunnelRow kind s f) :=
  onLogicIf_same h fun t k => by
    extract_lets x
    have hx : Same m a x := State.takeJob_same k (sub_of hm rfl)
    split
    · exact hx
    · split
      · exact hx
      · exact State.jobPart_same (hf _ _ _ _ hx) (sub_of hm rfl)

theorem State.convertDrop_same {a s : State} (h : Same m a s) (hm : m &&& 0x8000080a = 0x8000080a) :
    Same m a (State.convertDrop s) := h.then hm (by
  have h := Same.refl 0x8000080a s
  unfold State.convertDrop
  exact State.irq_same (State.bump_same h rfl) rfl rfl rfl rfl)

theorem State.decapDrop_same {a s : State} (h : Same m a s) (hm : m &&& 0x8000080a = 0x8000080a) :
    Same m a (State.decapDrop s) := h.then hm (by
  have h := Same.refl 0x8000080a s
  unfold State.decapDrop
  exact State.irq_same (State.bump_same h rfl) rfl rfl rfl rfl)

theorem State.tooLong_same {a s : State} (h : Same m a s) (hm : m &&& 0x8000080a = 0x8000080a) :
    Same m a (State.tooLong s) := h.then hm (by
  have h := Same.refl 0x8000080a s
  unfold State.tooLong
  exact State.irq_same (State.bump_same h rfl) rfl rfl rfl rfl)

theorem State.sendEncap_same {a s : State} {a1 : QItem} {a2 : Nat} {a3 : Tunnel} {a4 : Nat} {a5 : List Nat} (h : Same m a s) (hm : m &&& 0x4086e000480a = 0x4086e000480a) :
    Same m a (State.sendEncap s a1 a2 a3 a4 a5) := h.then hm (by
  have h := Same.refl 0x4086e000480a s
  unfold State.sendEncap
  refine Same.ite ?_ ?_
  · exact State.tooLong_same h rfl
  · extract_lets -merge -underBinder +onlyGivenNames x0
    have hx0 : Same 0x4086e000480a s x0.1 := State.reissue_same1 h rfl
    try clear_value x0
    refine Same.ite ?_ ?_
    · extract_lets -merge -underBinder +onlyGivenNames x1 x2
      have hx1 : Same 0x4086e000480a s x1 := hx0
      try clear_value x1
      exact State.bump_same (State.setPdu_same hx1 rfl (fun w => Memory.wf_puts _ _ w)) rfl
    · exact hx0)

theorem execEncap1722_same {a s : State} (h : Same m a s) (hm : m &&& 0x4087e000480a = 0x4087e000480a) :
    SameR m a (execEncap1722 s) := SameR.then h hm (by
  have h := Same.refl 0x4087e000480a s
  unfold execEncap1722
  exact tunnelRow_same h (fun _ _ _ _ k0 => (by
    extract_lets -merge -underBinder +onlyGivenNames x1
    exact Same.ite (State.convertDrop_same k0 rfl) (State.sendEncap_same k0 rfl))) rfl)

theorem State.seqCheck_same {a s : State} {a1 : Nat} {a2 : Tunnel} {a3 : Nat} {a4 : Nat} (h : Same m a s) (hm : m &&& 0x48000080a = 0x48000080a) :
    Same m a (State.seqCheck s a1 a2 a3 a4) := h.then hm (by
  have h := Same.refl 0x48000080a s
  unfold State.seqCheck
  extract_lets -merge -underBinder +onlyGivenNames x0
  refine Same.ite ?_ ?_
  · exact State.setPdu_same h rfl (fun w => Memory.wf_puts _ _ w)
  · extract_lets -merge -underBinder +onlyGivenNames x1 x2 x3 x4
    have hx4 : Same 0x48000080a s x4 := State.setPdu_same h rfl (fun w => Memory.wf_puts _ _ w)
    try clear_value x4
    exact Same.ite (State.irq_same (State.bump_same hx4 rfl) rfl rfl rfl rfl) hx4)

theorem State.acfMessages_same {a s : State} {recs : List (Nat × Tunnel)} {it : QItem} {n : Nat} {bs : List Nat}
    (h : Same m a s) (hm : m &&& 0x4086e000480a = 0x4086e000480a) : Same m a (State.acfMessages recs it n bs s) := by
  induction n generalizing s bs with
  | zero => exact h
  | succ n ih =>
    unfold State.acfMessages
    refine Same.ite h ?_
    extract_lets -merge -underBinder +onlyGivenNames len ty brief hdr
    refine Same.ite (State.decapDrop_same h (sub_of hm rfl)) ?_
    extract_lets -merge -underBinder +onlyGivenNames msg x
    have hx : Same m a x := by
      refine Same.ite (Same.ite (State.decapDrop_same h (sub_of hm rfl)) ?_) (State.bump_same h (bit_of hm rfl))
      split
      · exact State.decapDrop_same h (sub_of hm rfl)
      · extract_lets -merge -underBinder +onlyGivenNames c stamp p
        have hp : Same m a p.1 := State.reissueCan_same1 h (sub_of hm rfl)
        exact Same.ite (State.bump_same hp (bit_of hm rfl)) hp
    exact ih hx

theorem execDecap1722_same {a s : State} (h : Same m a s) (hm : m &&& 0x4087e000480a = 0x4087e000480a) :
    SameR m a (execDecap1722 s) := SameR.then h hm (by
  have h := Same.refl 0x4087e000480a s
  unfold execDecap1722
  exact onLogicIf_same h (fun _ k0 => (by
    extract_lets -merge -underBinder +onlyGivenNames x1
    have hx1 : Same 0x4087e000480a s x1 := State.takeJob_same k0 rfl
    try clear_value x1
    split
    · exact hx1
    · extract_lets -merge -underBinder +onlyGivenNames x2
      refine Same.ite ?_ ?_
      · exact hx1
      · extract_lets -merge -underBinder +onlyGivenNames x3
        have hx3 : Same 0x4087e000480a s x3 := by
          unfold x3
          split
          · exact State.decapDrop_same hx1 rfl
          · extract_lets -merge -underBinder +onlyGivenNames x4
            refine Same.ite ?_ ?_
            · exact State.decapDrop_same hx1 rfl
            · extract_lets -merge -underBinder +onlyGivenNames x5
              have hx5 : Same 0x4087e000480a s x5 := Same.foldl hx1 (fun _ _ k6 => State.seqCheck_same k6 rfl)
              try clear_value x5
              exact State.acfMessages_same hx5 rfl
        try clear_value x3
        exact State.jobPart_same hx3 rfl)))

theorem execEncapDarast_same {a s : State} (h : Same m a s) (hm : m &&& 0x4087e000480a = 0x4087e000480a) :
    SameR m a (execEncapDarast s) := SameR.then h hm (by
  have h := Same.refl 0x4087e000480a s
  unfold execEncapDarast
  exact tunnelRow_same h (fun _ _ _ _ k0 => (by
    extract_lets -merge -underBinder +onlyGivenNames x1 x2
    exact State.sendEncap_same k0 rfl)) rfl)

theorem execDecapDarast_same {a s : State} (h : Same m a s) (hm : m &&& 0x4087e000480a = 0x4087e000480a) :
    SameR m a (execDecapDarast s) := SameR.then h hm (by
  have h := Same.refl 0x4087e000480a s
  unfold execDecapDarast
  exact onLogicIf_same h (fun _ k0 => (by
    extract_lets -merge -underBinder +onlyGivenNames x1
    have hx1 : Same 0x4087e000480a s x1 := State.takeJob_same k0 rfl
    try clear_value x1
    split
    · exact hx1
    · extract_lets -merge -underBinder +onlyGivenNames x2
      refine Same.ite ?_ ?_
      · exact hx1
      · extract_lets -merge -underBinder +onlyGivenNames x3 x4
        have hx4 : Same 0x4087e000480a s x4 := by
          unfold x4
          split
          · extract_lets -merge -underBinder +onlyGivenNames x5 x6
            have hx5 : Same 0x4087e000480a s x5 := State.seqCheck_same hx1 rfl
            have hx6 : Same 0x4087e000480a s x6.1 := State.reissueCan_same1 hx5 rfl
            try clear_value x5 x6
            exact Same.ite (State.bump_same hx6 rfl) hx6
          · exact State.decapDrop_same hx1 rfl
        try clear_value x4
        exact State.jobPart_same hx4 rfl)))

theorem execRewrite_same {a s : State} (h : Same m a s) (hm : m &&& 0x4087e000480a = 0x4087e000480a) :
    SameR m a (execRewrite s) := SameR.then h hm (by
  have h := Same.refl 0x4087e000480a s
  unfold execRewrite
  exact tunnelRow_same h (fun _ _ _ _ k0 => (by
    split
    · exact State.convertDrop_same k0 rfl
    · exact State.reissueCan_same1 k0 rfl)) rfl)

theorem State.rebuildFail_same {a s : State} {a1 : Nat} {a2 : QItem} (h : Same m a s) (hm : m &&& 0x3e000080a = 0x3e000080a) :
    Same m a (State.rebuildFail s a1 a2) := h.then hm (by
  have h := Same.refl 0x3e000080a s
  unfold State.rebuildFail
  extract_lets -merge -underBinder +onlyGivenNames x0
  have hx0 : Same 0x3e000080a s x0 := State.irq_same (State.errU_same (State.bump_same h rfl) rfl rfl rfl rfl rfl rfl) rfl rfl rfl rfl
  try clear_value x0
  exact Same.ite (State.logTx_same hx0 rfl) hx0)

theorem execRebuild_same {a s : State} (h : Same m a s) (hm : m &&& 0x40c7e000480a = 0x40c7e000480a) :
    SameR m a (execRebuild s) := SameR.then h hm (by
  have h := Same.refl 0x40c7e000480a s
  unfold execRebuild
  exact onLogicIf_same h (fun _ k0 => (by
    split
    · exact k0
    · extract_lets -merge -underBinder +onlyGivenNames x1 x2 x3
      have hx2 : Same 0x40c7e000480a s x2 := State.setCst_same k0 rfl (fun w => w)
      have hx3 : Same 0x40c7e000480a s x3 := by
        unfold x3
        split
        · exact State.rebuildFail_same hx2 rfl
        · extract_lets -merge -underBinder +onlyGivenNames x4 x5
          have hx5 : Same 0x40c7e000480a s x5.1 := State.writePduFrame_same1 hx2 rfl
          try clear_value x5
          split
          · exact State.rebuildFail_same hx2 rfl
          · extract_lets -merge -underBinder +onlyGivenNames x6 x7 x8 x9 x10 x11
            have hx7 : Same 0x40c7e000480a s x7 := State.setSgw_same hx5 rfl
            have hx10 : Same 0x40c7e000480a s x10.1 := State.sealPdu_same1 hx7 rfl
            have hx11 : Same 0x40c7e000480a s x11 := hx10
            try clear_value x7 x10 x11
            refine Same.ite ?_ ?_
            · extract_lets -merge -underBinder +onlyGivenNames x12
              exact State.bump_same (State.bump_same (State.release_same (State.join_same hx11 rfl) rfl) rfl) rfl
            · exact State.release_same (State.rebuildFail_same hx11 rfl) rfl
      try clear_value x2 x3
      exact State.release_same hx3 rfl)))

end Sys2Proof.Machine
end

