-- ==== Sys2Proof/Laws/KeepCapTrig.lean ====
section
/-! SUPPORT. What the functions of Machine/CapTrig.lean can change, one lemma for each, with the canonical forms kept. -/

namespace Sys2Proof.Machine

variable {m : Nat}

theorem State.setHck_same {a s : State} {a1 : HckSt} (h : Same m a s) (hm : m &&& 0x100000000000 = 0x100000000000) :
    Same m a (State.setHck s a1) := h.then hm (by
  have h := Same.refl 0x100000000000 s
  unfold State.setHck
  exact (Same.put_hck h rfl))

theorem State.putCapQ_same {a s : State} {a1 : Nat} {a2 : CQueue CapEntry} (h : Same m a s) (hm : m &&& 0x10008000001a = 0x10008000001a) :
    Same m a (State.putCapQ s a1 a2) := h.then hm (by
  have h := Same.refl 0x10008000001a s
  unfold State.putCapQ
  extract_lets -merge -underBinder +onlyGivenNames x0 x1
  have hx1 : Same 0x10008000001a s x1 := State.wr_same (State.setHck_same h rfl) (home_bit 4 rfl rfl)
  try clear_value x1
  exact State.cond_same hx1 rfl rfl rfl rfl)

theorem State.pushCap_same {a s : State} {a1 : Nat} {a2 : CapEntry} (h : Same m a s) (hm : m &&& 0x10008000001a = 0x10008000001a) :
    Same m a (State.pushCap s a1 a2) := h.then hm (by
  have h := Same.refl 0x10008000001a s
  unfold State.pushCap
  extract_lets -merge -underBinder +onlyGivenNames x0 x1
  have hx1 : Same 0x10008000001a s x1 := State.putCapQ_same h rfl
  try clear_value x1
  exact Same.ite (State.irq_same (State.bump_same hx1 rfl) rfl rfl rfl rfl) hx1)

theorem State.openCapture_same {a s : State} {a1 : Nat} {a2 : Nat} (h : Same m a s) (hm : m &&& 0x100000000010 = 0x100000000010) :
    Same m a (State.openCapture s a1 a2) := h.then hm (by
  have h := Same.refl 0x100000000010 s
  unfold State.openCapture
  extract_lets -merge -underBinder +onlyGivenNames x0
  have hx0 : Same 0x100000000010 s x0 := State.wr_same h (home_bit 4 rfl rfl)
  try clear_value x0
  exact State.setHck_same hx0 rfl)

theorem State.closeCapture_same {a s : State} {a1 : Nat} {a2 : Nat} (h : Same m a s) (hm : m &&& 0x10008000001a = 0x10008000001a) :
    Same m a (State.closeCapture s a1 a2) := h.then hm (by
  have h := Same.refl 0x10008000001a s
  unfold State.closeCapture
  refine Same.ite ?_ ?_
  · exact h
  · extract_lets -merge -underBinder +onlyGivenNames x0 x1 x2 x3 x4
    have hx1 : Same 0x10008000001a s x1 := State.wr_same h (home_bit 4 rfl rfl)
    have hx4 : Same 0x10008000001a s x4 := State.setHck_same hx1 rfl
    try clear_value x1 x4
    exact Same.ite (State.bump_same (State.irq_same (State.pushCap_same hx4 rfl) rfl rfl rfl rfl) rfl) hx4)

theorem State.closeCaptures_same {a s : State} (h : Same m a s) (hm : m &&& 0x10008000001a = 0x10008000001a) :
    Same m a (State.closeCaptures s) := h.then hm (by
  have h := Same.refl 0x10008000001a s
  unfold State.closeCaptures
  exact Same.foldl h (fun _ _ k0 => State.closeCapture_same k0 rfl))

theorem State.trigLevel_same {a s : State} {a1 : Nat} {a2 : Nat} {a3 : Nat} (h : Same m a s) (hm : m &&& 0x80000010 = 0x80000010) :
    Same m a (State.trigLevel s a1 a2 a3) := h.then hm (by
  have h := Same.refl 0x80000010 s
  unfold State.trigLevel
  extract_lets -merge -underBinder +onlyGivenNames x0
  exact Same.ite h (State.out_same (State.wr_same h (home_bit 4 rfl rfl)) rfl))

theorem State.trigIdle_same {a s : State} (h : Same m a s) (hm : m &&& 0x80000010 = 0x80000010) :
    Same m a (State.trigIdle s) := h.then hm (by
  have h := Same.refl 0x80000010 s
  unfold State.trigIdle
  exact Same.foldl h (fun _ _ k0 => State.trigLevel_same k0 rfl))

theorem State.trigActivate_same {a s : State} (h : Same m a s) (hm : m &&& 0x80000010 = 0x80000010) :
    Same m a (State.trigActivate s) := h.then hm (by
  have h := Same.refl 0x80000010 s
  unfold State.trigActivate
  extract_lets -merge -underBinder +onlyGivenNames x0
  have hx0 : Same 0x80000010 s x0 := Same.foldl h (fun _ _ k1 => (by
    split
    · exact State.wr_same k1 (home_bit 4 rfl rfl)
    · exact State.wr_same k1 (home_bit 4 rfl rfl)))
  try clear_value x0
  exact State.trigIdle_same hx0 rfl)

theorem State.trigHalt_same {a s : State} {a1 : Nat} (h : Same m a s) (hm : m &&& 0x100080000010 = 0x100080000010) :
    Same m a (State.trigHalt s a1) := h.then hm (by
  have h := Same.refl 0x100080000010 s
  unfold State.trigHalt
  exact State.trigIdle_same (State.setHck_same h rfl) rfl)

theorem State.trigSafeLow_same {a s : State} (h : Same m a s) (hm : m &&& 0x80000010 = 0x80000010) :
    Same m a (State.trigSafeLow s) := h.then hm (by
  have h := Same.refl 0x80000010 s
  unfold State.trigSafeLow
  exact Same.foldl h (fun _ _ k0 => Same.ite (State.trigLevel_same k0 rfl) k0))

theorem State.ppsLowAt_same {a s : State} {a1 : Nat} (h : Same m a s) (hm : m &&& 0x100080000000 = 0x100080000000) :
    Same m a (State.ppsLowAt s a1) := h.then hm (by
  have h := Same.refl 0x100080000000 s
  unfold State.ppsLowAt
  exact Same.ite (State.out_same (State.setHck_same h rfl) rfl) h)

theorem State.ppsLow_same {a s : State} (h : Same m a s) (hm : m &&& 0x100080000000 = 0x100080000000) :
    Same m a (State.ppsLow s) := h.then hm (by
  have h := Same.refl 0x100080000000 s
  unfold State.ppsLow
  exact State.ppsLowAt_same h rfl)

theorem State.ppsUpdate_same {a s : State} (h : Same m a s) (hm : m &&& 0x100080000000 = 0x100080000000) :
    Same m a (State.ppsUpdate s) := h.then hm (by
  have h := Same.refl 0x100080000000 s
  unfold State.ppsUpdate
  exact Same.ite h (State.ppsLow_same h rfl))

end Sys2Proof.Machine
end

