-- ==== Sys2Proof/Laws/KeepTideOps.lean ====
section
/-! SUPPORT. What the functions of Machine/TideOps.lean can change, one lemma for each, with the canonical forms kept. -/

namespace Sys2Proof.Machine

variable {m : Nat}

theorem State.setTid_same {a s : State} {x : TidSt} (h : Same m a s) (hm : m &&& 0x1000000000 = 0x1000000000)
    (hw : Memory.wf s.tid.active = true → Memory.wf s.tid.shadow = true → Memory.wf x.active = true ∧ Memory.wf x.shadow = true) :
    Same m a (s.setTid x) := h.put_tid (bit_of hm rfl) hw

theorem State.setShadow_same {a s : State} {a1 : Nat} (h : Same m a s) (hm : m &&& 0x400 = 0x400) :
    Same m a (State.setShadow s a1) := h.then hm (by
  have h := Same.refl 0x400 s
  unfold State.setShadow
  exact State.wr_same h rfl)

theorem State.tidReject_same {a s : State} (h : Same m a s) (hm : m &&& 0x400 = 0x400) :
    Same m a (State.tidReject s) := h.then hm (by
  have h := Same.refl 0x400 s
  unfold State.tidReject
  exact State.wr_same h rfl)

theorem State.shadowPut_same {a s : State} {a1 : Nat} {a2 : List Nat} (h : Same m a s) (hm : m &&& 0x1400000000 = 0x1400000000) :
    Same m a (State.shadowPut s a1 a2) := h.then hm (by
  have h := Same.refl 0x1400000000 s
  unfold State.shadowPut
  exact Same.ite (State.mapOwn_same (State.setTid_same h rfl (by first | exact fun w v => ⟨w, Memory.wf_puts _ _ v⟩ | exact fun _ w => ⟨w.1, Memory.wf_puts _ _ w.2.1, w.2.2⟩)) rfl (by first | exact fun w v => ⟨w, Memory.wf_puts _ _ v⟩ | exact fun _ w => ⟨w.1, Memory.wf_puts _ _ w.2.1, w.2.2⟩)) h)

theorem State.swapCancel_same {a s : State} {a1 : Nat} (h : Same m a s) (hm : m &&& 0x8000440a = 0x8000440a) :
    Same m a (State.swapCancel s a1) := h.then hm (by
  have h := Same.refl 0x8000440a s
  unfold State.swapCancel
  exact State.hwm_same (State.irq_same (State.bump_same (State.setShadow_same h rfl) rfl) rfl rfl rfl rfl) rfl)

theorem State.stagingWrite_same {a s : State} {a1 : Nat} {a2 : List Nat} (h : Same m a s) (hm : m &&& 0x148000440a = 0x148000440a) :
    Same m a (State.stagingWrite s a1 a2) := h.then hm (by
  have h := Same.refl 0x148000440a s
  unfold State.stagingWrite
  extract_lets -merge -underBinder +onlyGivenNames x0
  exact Same.ite (State.tidReject_same h rfl) (Same.ite (State.irq_same (State.setShadow_same (State.wr_same (State.wr_same (State.shadowPut_same h rfl) rfl) rfl) rfl) rfl rfl rfl rfl) (Same.ite (Same.ite (State.setTid_same h rfl (fun w v => ⟨w, v⟩)) (State.swapCancel_same (State.shadowPut_same h rfl) rfl)) (State.setShadow_same (State.shadowPut_same h rfl) rfl))))

theorem State.diverge_same {a s : State} {a1 : Nat} (h : Same m a s) (hm : m &&& 0x8000010a = 0x8000010a) :
    Same m a (State.diverge s a1) := h.then hm (by
  have h := Same.refl 0x8000010a s
  unfold State.diverge
  exact State.irq_same (State.bump_same h (home_bit 8 rfl rfl)) (headHome_pgPM rfl) rfl rfl rfl)

theorem State.compareAction_same {a s : State} {a1 : Bool} {a2 : Nat} {a3 : ActionWord} (h : Same m a s) (hm : m &&& 0x8000010a = 0x8000010a) :
    Same m a (State.compareAction s a1 a2 a3) := h.then hm (by
  have h := Same.refl 0x8000010a s
  unfold State.compareAction
  split
  · extract_lets -merge -underBinder +onlyGivenNames x0
    exact Same.ite (State.diverge_same h rfl) h
  · exact h)

theorem actionRow_same {a s : State} {ty : Nat} {f : ActionWord → Nat → State → State} (h : Same m a s)
    (hf : ∀ w n t, Same m a t → Same m a (f w n t)) (hm : m &&& 0x108000010a = 0x108000010a) : SameR m a (actionRow ty s f) :=
  onLogic_same h fun t k => by
    split
    · extract_lets c
      exact Same.ite (hf _ _ _ (State.setTid_same (State.compareAction_same k (sub_of hm rfl)) (sub_of hm rfl) fun w v => ⟨w, v⟩)) k
    · exact k

theorem State.lateEmit_same {a s : State} {a1 : Option Nat} (h : Same m a s) (hm : m &&& 0x48000240a = 0x48000240a) :
    Same m a (State.lateEmit s a1) := h.then hm (by
  have h := Same.refl 0x48000240a s
  unfold State.lateEmit
  extract_lets -merge -underBinder +onlyGivenNames x0
  have hx0 : Same 0x48000240a s x0 := State.irq_same (State.bump_same h rfl) rfl rfl rfl rfl
  try clear_value x0
  split
  · exact Same.ite (State.berthStat_same hx0 rfl) hx0
  · exact hx0)

theorem State.rememberAll_same {a s : State} {a1 : Sys2Proof.Rec} (h : Same m a s) (hm : m &&& 0x400000100 = 0x400000100) :
    Same m a (State.rememberAll s a1) := h.then hm (by
  have h := Same.refl 0x400000100 s
  unfold State.rememberAll
  exact Same.foldl h (fun _ _ k0 => State.countDecision_same (State.remember_same k0 rfl) rfl))

theorem State.releaseItem_same {a s : State} {a1 : ActionWord} {a2 : Nat} {a3 : QItem} {a4 : Sys2Proof.Holder} (h : Same m a s) (hm : m &&& 0x4086e000610a = 0x4086e000610a) :
    Same m a (State.releaseItem s a1 a2 a3 a4) := h.then hm (by
  have h := Same.refl 0x4086e000610a s
  unfold State.releaseItem
  extract_lets -merge -underBinder +onlyGivenNames x0 x1 x2 x3 x4 x5 x6 x7
  have hx4 : Same 0x4086e000610a s x4 := State.setCst_same h rfl (fun w => w)
  have hx6 : Same 0x4086e000610a s x6.1 := Same.ite1 (State.takeFresh_same1 hx4 rfl) hx4
  have hx7 : Same 0x4086e000610a s x7 := hx6
  try clear_value x4 x6 x7
  split
  · exact State.release_same hx7 rfl
  · extract_lets -merge -underBinder +onlyGivenNames x8 x9 x10 x11
    have hx10 : Same 0x4086e000610a s x10.1 := Same.ite1 (State.sealPdu_same1 hx7 rfl) hx7
    have hx11 : Same 0x4086e000610a s x11 := State.rememberAll_same hx10 rfl
    try clear_value x10 x11
    exact State.setCst_same hx11 rfl (fun w => w))

theorem State.bindItem_same {a s : State} {a1 : ActionWord} {a2 : Nat} (h : Same m a s) (hm : m &&& 0x8600000000 = 0x8600000000) :
    Same m a (State.bindItem s a1 a2) := h.then hm (by
  have h := Same.refl 0x8600000000 s
  unfold State.bindItem
  refine Same.ite ?_ ?_
  · split
    · exact State.setSgw_same h rfl
    · exact h
  · split
    · exact State.putBerthQ_same h rfl
    · exact h)

theorem State.emitItem_same {a s t : State} {w : ActionWord} {it : QItem} {c : Holder} (h : Same m a s) (hm : m &&& 0x8600000000 = 0x8600000000)
    (e : s.emitItem w = some (it, c, t)) : Same m a t := by
  unfold State.emitItem at e
  split at e
  · split at e
    · cases e
      exact State.setSgw_same h (sub_of hm rfl)
    · cases e
  · split at e
    · split at e
      · cases e
        exact State.putBerthQ_same h (sub_of hm rfl)
      · cases e
    · cases e

theorem State.emit_same {a s : State} {w : ActionWord} {n : Nat} (h : Same m a s) (hm : m &&& 0x4086e000650a = 0x4086e000650a) :
    Same m a (s.emit w n) := by
  unfold State.emit
  split
  · exact State.lateEmit_same h (sub_of hm rfl)
  · next e =>
    exact Same.ite (State.releaseItem_same (State.emitItem_same h (sub_of hm rfl) e) (sub_of hm rfl)) (State.bindItem_same h (sub_of hm rfl))

theorem State.flushItem_same {a s : State} {a1 : Nat} {a2 : Nat} {a3 : QItem} {a4 : Nat} (h : Same m a s) (hm : m &&& 0x4086e000440a = 0x4086e000440a) :
    Same m a (State.flushItem s a1 a2 a3 a4) := h.then hm (by
  have h := Same.refl 0x4086e000440a s
  unfold State.flushItem
  exact State.release_same (State.logTx_same (State.bump_same h rfl) rfl) rfl)

theorem State.flushQueue_same {a s : State} {a1 : Nat} {a2 : Nat} {a3 : Nat} (h : Same m a s) (hm : m &&& 0x4086e011440a = 0x4086e011440a) :
    Same m a (State.flushQueue s a1 a2 a3) := h.then hm (by
  have h := Same.refl 0x4086e011440a s
  unfold State.flushQueue
  exact State.loneAfter_same (Same.foldl (State.putEgress_same h rfl) (fun _ _ k0 => State.flushItem_same k0 rfl)) rfl)

theorem State.gateAttempt_same {a s : State} {a1 : Nat} {a2 : Nat} (h : Same m a s) (hm : m &&& 0x20000000000 = 0x20000000000) :
    Same m a (State.gateAttempt s a1 a2) := h.then hm (by
  have h := Same.refl 0x20000000000 s
  unfold State.gateAttempt
  split
  · exact Same.ite (State.setQuay_same h rfl) h
  · exact h)

theorem State.applyGate_same {a s : State} {a1 : Nat} {a2 : Nat} {a3 : Nat} {a4 : Nat} (h : Same m a s) (hm : m &&& 0x42e6e011440a = 0x42e6e011440a) :
    Same m a (State.applyGate s a1 a2 a3 a4) := h.then hm (by
  have h := Same.refl 0x42e6e011440a s
  unfold State.applyGate
  extract_lets -merge -underBinder +onlyGivenNames x0 x1 x2
  have hx2 : Same 0x42e6e011440a s x2 := State.setGate_same (State.advanceCredit_same h rfl) rfl
  try clear_value x2
  exact Same.foldl hx2 (fun _ _ k3 => Same.ite k3 (Same.ite (State.flushQueue_same (State.gateAttempt_same k3 rfl) rfl) (Same.ite (Same.put_bth k3 rfl (fun w => w)) k3))))

theorem State.discardEgress_same {a s : State} {a1 : Nat} (h : Same m a s) (hm : m &&& 0x4086e011440a = 0x4086e011440a) :
    Same m a (State.discardEgress s a1) := h.then hm (by
  have h := Same.refl 0x4086e011440a s
  unfold State.discardEgress
  exact Same.foldl h (fun _ _ k0 => (by
    extract_lets -merge -underBinder +onlyGivenNames x1 x2 x3
    exact Same.ite k0 (State.loneAfter_same (Same.foldl (State.putEgress_same k0 rfl) (fun _ _ k4 => State.flushItem_same k4 rfl)) rfl))))

theorem State.discardBerthQ_same {a s : State} {a1 : Nat} (h : Same m a s) (hm : m &&& 0x4086e000440a = 0x4086e000440a) :
    Same m a (State.discardBerthQ s a1) := h.then hm (by
  have h := Same.refl 0x4086e000440a s
  unfold State.discardBerthQ
  exact Same.foldl h (fun _ _ k0 => (by
    extract_lets -merge -underBinder +onlyGivenNames x1
    exact Same.ite k0 (Same.foldl (State.putBerthQ_same k0 rfl) (fun _ _ k2 => State.release_same (State.bump_same k2 rfl) rfl)))))

theorem State.discardPdu_same {a s : State} {a1 : Nat} {a2 : QItem} (h : Same m a s) (hm : m &&& 0x4086e000440a = 0x4086e000440a) :
    Same m a (State.discardPdu s a1 a2) := h.then hm (by
  have h := Same.refl 0x4086e000440a s
  unfold State.discardPdu
  exact State.release_same (State.bump_same (State.setSgw_same h rfl) rfl) rfl)

theorem State.discardMoving_same {a s : State} {n : Nat} (h : Same m a s) (hm : m &&& 0x4096e000440a = 0x4096e000440a) :
    Same m a (s.discardMoving n) := by
  unfold State.discardMoving
  extract_lets -merge -underBinder +onlyGivenNames gone y1 x1 x2 rb y2 x3 x4 x5 late y3 x6
  have h1 : Same m a x1 := State.setCst_same h (sub_of hm rfl) fun w => w
  have h2 : Same m a x2 := Same.foldl h1 fun _ _ k => by
    extract_lets x
    have hx : Same m a x := State.bump_same k (bit_of hm rfl)
    split
    · exact State.release_same hx (sub_of hm rfl)
    · exact hx
  have h3 : Same m a x3 := State.setCst_same h2 (sub_of hm rfl) fun w => w
  have h4 : Same m a x4 := Same.foldl h3 fun _ _ k => State.release_same (State.bump_same k (bit_of hm rfl)) (sub_of hm rfl)
  have h5 : Same m a x5 := Same.foldl h4 fun _ _ k => Same.ite (State.discardPdu_same k (sub_of hm rfl)) k
  have h6 : Same m a x6 := State.setTid_same h5 (sub_of hm rfl) fun w v => ⟨w, v⟩
  refine Same.foldl h6 fun _ _ k => ?_
  split
  · next e => exact State.release_same (State.bump_same (State.emitItem_same k (sub_of hm rfl) e) (bit_of hm rfl)) (sub_of hm rfl)
  · exact k

theorem State.discardInner_same {a s : State} {a1 : Nat} (h : Same m a s) (hm : m &&& 0x4086e000440a = 0x4086e000440a) :
    Same m a (State.discardInner s a1) := h.then hm (by
  have h := Same.refl 0x4086e000440a s
  unfold State.discardInner
  exact Same.foldl h (fun _ _ k0 => (by
    extract_lets -merge -underBinder +onlyGivenNames x1
    exact Same.ite k0 (Same.foldl (State.putInner_same k0 rfl) (fun _ _ k2 => State.release_same (State.bump_same k2 rfl) rfl)))))

theorem State.cleanStroke_same {a s : State} {a1 : Nat} (h : Same m a s) (hm : m &&& 0x4096e011440a = 0x4096e011440a) :
    Same m a (State.cleanStroke s a1) := h.then hm (by
  have h := Same.refl 0x4096e011440a s
  unfold State.cleanStroke
  exact State.discardMoving_same (State.discardBerthQ_same (State.discardInner_same (State.discardEgress_same h rfl) rfl) rfl) rfl)

theorem State.setExec_same {a s : State} {a1 : Nat} (h : Same m a s) (hm : m &&& 0x8000040a = 0x8000040a) :
    Same m a (State.setExec s a1) := h.then hm (by
  have h := Same.refl 0x8000040a s
  unfold State.setExec
  exact State.cond_same (State.cond_same (State.wr_same h rfl) rfl rfl rfl rfl) rfl rfl rfl rfl)

theorem State.leaveRunning_same {a s : State} {a1 : Nat} (h : Same m a s) (hm : m &&& 0x5096e011441a = 0x5096e011441a) :
    Same m a (State.leaveRunning s a1) := h.then hm (by
  have h := Same.refl 0x5096e011441a s
  unfold State.leaveRunning
  extract_lets -merge -underBinder +onlyGivenNames x0
  have hx0 : Same 0x5096e011441a s x0 := State.trigHalt_same (State.closeCaptures_same h rfl) rfl
  try clear_value x0
  exact State.setExec_same (State.bump_same (State.cleanStroke_same hx0 rfl) rfl) rfl)

end Sys2Proof.Machine
end

