-- ==== Sys2Proof/Laws/KeepQuayOps.lean ====
section
/-! SUPPORT. What the functions of Machine/QuayOps.lean can change, one lemma for each, with the canonical forms kept. -/

namespace Sys2Proof.Machine

variable {m : Nat}

theorem State.setFront_same {a s : State} {a1 : Nat} {a2 : FrontSt} (h : Same m a s) (hm : m &&& 0x40000000000 = 0x40000000000) :
    Same m a (State.setFront s a1 a2) := h.then hm (by
  have h := Same.refl 0x40000000000 s
  unfold State.setFront
  exact (Same.put_fronts h rfl))

theorem State.takeLanded_same1 {a s : State} {a1 : Nat} {a2 : List Nat} {a3 : Nat} (h : Same m a s) (hm : m &&& 0x4086e011400a = 0x4086e011400a) :
    Same m a (State.takeLanded s a1 a2 a3).1 := h.then hm (by
  have h := Same.refl 0x4086e011400a s
  unfold State.takeLanded
  extract_lets -merge -underBinder +onlyGivenNames x0 x1
  have hx0 : Same 0x4086e011400a s x0 := State.serveFor_same h rfl
  try clear_value x0
  split
  · exact State.putIngr_same hx0 rfl
  · refine Same.ite1 ?_ ?_
    · exact State.putIngr_same hx0 rfl
    · refine Same.ite1 ?_ ?_
      · exact State.loseStuck_same hx0 rfl
      · split
        · extract_lets -merge -underBinder +onlyGivenNames x2
          have hx2 : Same 0x4086e011400a s x2 := State.putIngr_same hx0 rfl
          try clear_value x2
          exact State.landFrame_same1 hx2 rfl
        · extract_lets -merge -underBinder +onlyGivenNames x3 x4
          have hx4 : Same 0x4086e011400a s x4 := State.putIngr_same hx0 rfl
          try clear_value x4
          exact State.landFrame_same1 hx4 rfl)

theorem State.discardLanding_same {a s : State} {a1 : Nat} (h : Same m a s) (hm : m &&& 0x4086e011400a = 0x4086e011400a) :
    Same m a (State.discardLanding s a1) := h.then hm (by
  have h := Same.refl 0x4086e011400a s
  unfold State.discardLanding
  extract_lets -merge -underBinder +onlyGivenNames x0 x1
  have hx0 : Same 0x4086e011400a s x0 := State.serveFor_same h rfl
  try clear_value x0
  refine Same.ite ?_ ?_
  · exact State.loseStuck_same hx0 rfl
  · extract_lets -merge -underBinder +onlyGivenNames x2 x3
    have hx3 : Same 0x4086e011400a s x3 := State.putIngr_same hx0 rfl
    try clear_value x3
    try clear_value x2
    split
    · split
      · exact Same.ite (State.frameBad_same hx3 rfl) (State.dropFrame_same hx3 rfl)
      · exact hx3
    · exact hx3)

theorem State.segmentUsed_same {a s : State} {a1 : Nat} (h : Same m a s) (hm : m &&& 0x80000000000 = 0x80000000000) :
    Same m a (State.segmentUsed s a1) := h.then hm (by
  have h := Same.refl 0x80000000000 s
  unfold State.segmentUsed
  split
  · exact (Same.put_pwk h rfl)
  · exact h)

theorem State.rxMeets_same1 {a s : State} {a1 : Nat} {a2 : Nat} (h : Same m a s) (hm : m &&& 0x201801fffff = 0x201801fffff) :
    Same m a (State.rxMeets s a1 a2).1 := h.then hm (by
  have h := Same.refl 0x201801fffff s
  unfold State.rxMeets
  extract_lets -merge -underBinder +onlyGivenNames x0
  have hx0 : Same 0x201801fffff s x0.1 := State.passSite_same1 h rfl
  try clear_value x0
  split
  · exact State.setQuay_same hx0 rfl
  · exact Same.ite1 (State.useFresh_same hx0 rfl) hx0)

theorem State.pushDescN_same1 {a s : State} {a1 : Nat} {a2 : Nat} {a3 : Sys2Proof.Desc} {a4 : Bool} (h : Same m a s) (hm : m &&& 0x4086e000400a = 0x4086e000400a) :
    Same m a (State.pushDescN s a1 a2 a3 a4).1 := h.then hm (by
  have h := Same.refl 0x4086e000400a s
  unfold State.pushDescN
  extract_lets -merge -underBinder +onlyGivenNames x0 x1 x2
  have hx2 : Same 0x4086e000400a s x2 := State.putIngr_same h rfl
  try clear_value x2
  refine Same.ite1 ?_ ?_
  · split
    · exact State.putFrame_same hx2 rfl
    · exact hx2
  · exact State.dropFrame_same (State.cstGap_same hx2 rfl) rfl)

theorem State.tsqCond_same {a s : State} (h : Same m a s) (hm : m &&& 0x8000001a = 0x8000001a) :
    Same m a (State.tsqCond s) := h.then hm (by
  have h := Same.refl 0x8000001a s
  unfold State.tsqCond
  exact State.cond_same h rfl rfl rfl rfl)

theorem State.tsqGap_same {a s : State} {a1 : Bool} (h : Same m a s) (hm : m &&& 0x8000001a = 0x8000001a) :
    Same m a (State.tsqGap s a1) := h.then hm (by
  have h := Same.refl 0x8000001a s
  unfold State.tsqGap
  exact Same.ite (State.irq_same (State.bump_same h rfl) rfl rfl rfl rfl) h)

theorem State.pushTxStamp_same {a s : State} {a1 : Nat} {a2 : Sys2Proof.StampEntry} (h : Same m a s) (hm : m &&& 0x2008000001a = 0x2008000001a) :
    Same m a (State.pushTxStamp s a1 a2) := h.then hm (by
  have h := Same.refl 0x2008000001a s
  unfold State.pushTxStamp
  extract_lets -merge -underBinder +onlyGivenNames x0 x1
  exact State.tsqCond_same (State.tsqGap_same (State.setQuay_same h rfl) rfl) rfl)

theorem State.pushSyncStamp_same {a s : State} {a1 : Nat} {a2 : Sys2Proof.StampEntry} (h : Same m a s) (hm : m &&& 0x2008000001a = 0x2008000001a) :
    Same m a (State.pushSyncStamp s a1 a2) := h.then hm (by
  have h := Same.refl 0x2008000001a s
  unfold State.pushSyncStamp
  refine Same.ite ?_ ?_
  · exact h
  · extract_lets -merge -underBinder +onlyGivenNames x0 x1
    exact State.tsqCond_same (State.tsqGap_same (State.setQuay_same h rfl) rfl) rfl)

theorem State.setCapable_same {a s : State} {a1 : Nat} {a2 : Bool} (h : Same m a s) (hm : m &&& 0x8000001a = 0x8000001a) :
    Same m a (State.setCapable s a1 a2) := h.then hm (by
  have h := Same.refl 0x8000001a s
  unfold State.setCapable
  extract_lets -merge -underBinder +onlyGivenNames x0
  exact Same.ite h (State.irq_same (State.wr_same h rfl) rfl rfl rfl rfl))

theorem State.asUpdate_same {a s : State} {a1 : Nat} (h : Same m a s) (hm : m &&& 0x8000001a = 0x8000001a) :
    Same m a (State.asUpdate s a1) := h.then hm (by
  have h := Same.refl 0x8000001a s
  unfold State.asUpdate
  exact Same.ite (State.setCapable_same h rfl) (Same.ite (State.setCapable_same h rfl) h))

end Sys2Proof.Machine
end

