-- ==== Sys2Proof/Laws/KeepCanOps.lean ====
section
/-! SUPPORT. What the functions of Machine/CanOps.lean can change, one lemma for each, with the canonical forms kept. -/

namespace Sys2Proof.Machine

variable {m : Nat}

theorem State.mbShow_same {a s : State} {a1 : Nat} {a2 : Nat} {a3 : MbView} (h : Same m a s) (hm : m &&& 0x10000 = 0x10000) :
    Same m a (State.mbShow s a1 a2 a3) := h.then hm (by
  have h := Same.refl 0x10000 s
  unfold State.mbShow
  exact State.wr_same (State.wr_same (State.wr_same (State.wr_same (State.wr_same (State.wr_same h (home_bit 16 rfl rfl)) (home_bit 16 rfl rfl)) (home_bit 16 rfl rfl)) (home_bit 16 rfl rfl)) (home_bit 16 rfl rfl)) (home_bit 16 rfl rfl))

theorem State.mbDoneCond_same {a s : State} {a1 : Nat} (h : Same m a s) (hm : m &&& 0x8010000a = 0x8010000a) :
    Same m a (State.mbDoneCond s a1) := h.then hm (by
  have h := Same.refl 0x8010000a s
  unfold State.mbDoneCond
  exact State.cond_same h (headHome_pgQ rfl) rfl rfl rfl)

theorem State.setMb_same {a s : State} {a1 : Nat} {a2 : Nat} {a3 : MbView} (h : Same m a s) (hm : m &&& 0x20000010000 = 0x20000010000) :
    Same m a (State.setMb s a1 a2 a3) := h.then hm (by
  have h := Same.refl 0x20000010000 s
  unfold State.setMb
  extract_lets -merge -underBinder +onlyGivenNames x0 x1 x2
  have hx1 : Same 0x20000010000 s x1 := Same.ite (State.setQuay_same h rfl) (State.mbShow_same h rfl)
  try clear_value x1
  exact State.wr_same hx1 (home_bit 16 rfl rfl))

theorem State.endMb_same {a s : State} {a1 : Nat} {a2 : Nat} {a3 : MbView} (h : Same m a s) (hm : m &&& 0x2008011000a = 0x2008011000a) :
    Same m a (State.endMb s a1 a2 a3) := h.then hm (by
  have h := Same.refl 0x2008011000a s
  unfold State.endMb
  extract_lets -merge -underBinder +onlyGivenNames x0
  have hx0 : Same 0x2008011000a s x0 := State.setMb_same h rfl
  try clear_value x0
  exact State.mbDoneCond_same (State.wr_same hx0 (home_bit 16 rfl rfl)) rfl)

theorem State.mbSeq_same {a s : State} {a1 : Nat} {a2 : Nat} (h : Same m a s) (hm : m &&& 0x10000 = 0x10000) :
    Same m a (State.mbSeq s a1 a2) := h.then hm (by
  have h := Same.refl 0x10000 s
  unfold State.mbSeq
  extract_lets -merge -underBinder +onlyGivenNames x0
  exact State.wr_same (State.wr_same h (home_bit 16 rfl rfl)) (home_bit 16 rfl rfl))

theorem State.mbRelease_same {a s : State} {a1 : Nat} {a2 : Nat} (h : Same m a s) (hm : m &&& 0x20000010000 = 0x20000010000) :
    Same m a (State.mbRelease s a1 a2) := h.then hm (by
  have h := Same.refl 0x20000010000 s
  unfold State.mbRelease
  extract_lets -merge -underBinder +onlyGivenNames x0 x1 x2
  have hx2 : Same 0x20000010000 s x2 := State.wr_same (State.setQuay_same h rfl) (home_bit 16 rfl rfl)
  try clear_value x2
  exact Same.foldl hx2 (fun _ _ k3 => State.mbSeq_same (State.mbShow_same k3 rfl) rfl))

theorem State.logMb_same {a s : State} {a1 : Nat} {a2 : Nat} {a3 : Nat} {a4 : Nat} {a5 : Nat} (h : Same m a s) (hm : m &&& 0x40000000 = 0x40000000) :
    Same m a (State.logMb s a1 a2 a3 a4 a5) := h.then hm (by
  have h := Same.refl 0x40000000 s
  unfold State.logMb
  refine Same.ite ?_ ?_
  · extract_lets -merge -underBinder +onlyGivenNames x0
    exact State.log_same h rfl
  · exact h)

theorem State.mbCancel_same {a s : State} {a1 : Nat} {a2 : Nat} (h : Same m a s) (hm : m &&& 0x200c011000a = 0x200c011000a) :
    Same m a (State.mbCancel s a1 a2) := h.then hm (by
  have h := Same.refl 0x200c011000a s
  unfold State.mbCancel
  exact State.logMb_same (State.bump_same (State.endMb_same h rfl) (home_bit 16 rfl rfl)) rfl)

theorem State.ackSeen_same {a s : State} {a1 : Nat} (h : Same m a s) (hm : m &&& 0x8011000a = 0x8011000a) :
    Same m a (State.ackSeen s a1) := h.then hm (by
  have h := Same.refl 0x8011000a s
  unfold State.ackSeen
  exact State.loneNode_same (State.wr_same h (home_bit 16 rfl rfl)) rfl)

theorem State.txClear_same {a s : State} {a1 : Nat} (h : Same m a s) (hm : m &&& 0x20000000000 = 0x20000000000) :
    Same m a (State.txClear s a1) := h.then hm (by
  have h := Same.refl 0x20000000000 s
  unfold State.txClear
  exact State.setQuay_same h rfl)

theorem State.canDropItem_same {a s : State} {a1 : Nat} {a2 : QItem} {a3 : Nat} {a4 : Nat} {a5 : Nat} (h : Same m a s) (hm : m &&& 0x4086e000400a = 0x4086e000400a) :
    Same m a (State.canDropItem s a1 a2 a3 a4 a5) := h.then hm (by
  have h := Same.refl 0x4086e000400a s
  unfold State.canDropItem
  exact State.release_same (State.release_same (State.logTx_same h rfl) rfl) rfl)

theorem State.mbFail_same {a s : State} {a1 : Nat} {a2 : Nat} {a3 : Bool} {a4 : Nat} (h : Same m a s) (hm : m &&& 0x200c011000a = 0x200c011000a) :
    Same m a (State.mbFail s a1 a2 a3 a4) := h.then hm (by
  have h := Same.refl 0x200c011000a s
  unfold State.mbFail
  extract_lets -merge -underBinder +onlyGivenNames x0
  refine Same.ite ?_ ?_
  · exact State.mbCancel_same h rfl
  · refine Same.ite ?_ ?_
    · refine Same.ite ?_ ?_
      · extract_lets -merge -underBinder +onlyGivenNames x1
        exact State.logMb_same (State.endMb_same h rfl) rfl
      · exact State.setMb_same h rfl
    · exact h)

theorem State.queueFail_same {a s : State} {a1 : Nat} {a2 : TxSt} {a3 : QItem} (h : Same m a s) (hm : m &&& 0x4086e011440a = 0x4086e011440a) :
    Same m a (State.queueFail s a1 a2 a3) := h.then hm (by
  have h := Same.refl 0x4086e011440a s
  unfold State.queueFail
  extract_lets -merge -underBinder +onlyGivenNames x0
  exact Same.ite (State.canDropItem_same (State.bump_same h (home_bit 16 rfl rfl)) rfl) (Same.ite (State.canDropItem_same (State.irq_same (State.bump_same h (home_bit 16 rfl rfl)) (headHome_pgQ rfl) rfl rfl rfl) rfl) (Same.ite (State.canDropItem_same (State.bump_same h rfl) rfl) (Same.ite (State.canDropItem_same (State.bump_same h rfl) rfl) (Same.ite (State.canDropItem_same (State.bump_same h (home_bit 16 rfl rfl)) rfl) (State.release_same (State.putEgress_same h rfl) rfl))))))

theorem State.canFail_same {a s : State} {a1 : Nat} {a2 : Bool} (h : Same m a s) (hm : m &&& 0x4286e011440a = 0x4286e011440a) :
    Same m a (State.canFail s a1 a2) := h.then hm (by
  have h := Same.refl 0x4286e011440a s
  unfold State.canFail
  split
  · exact h
  · extract_lets -merge -underBinder +onlyGivenNames x0 x1 x2
    have hx0 : Same 0x4286e011440a s x0 := State.txClear_same h rfl
    have hx1 : Same 0x4286e011440a s x1 := Same.ite (State.bump_same hx0 (home_bit 16 rfl rfl)) hx0
    have hx2 : Same 0x4286e011440a s x2 := by
      unfold x2
      split
      · exact State.mbFail_same hx1 rfl
      · exact State.queueFail_same hx1 rfl
      · exact hx1
    try clear_value x0 x1 x2
    exact State.loneNode_same hx2 rfl)

theorem State.canSent_same {a s : State} {a1 : Nat} {a2 : Bool} (h : Same m a s) (hm : m &&& 0x8008011000a = 0x8008011000a) :
    Same m a (State.canSent s a1 a2) := h.then hm (by
  have h := Same.refl 0x8008011000a s
  unfold State.canSent
  extract_lets -merge -underBinder +onlyGivenNames x0
  have hx0 : Same 0x8008011000a s x0 := State.segmentUsed_same (State.bump_same h (home_bit 16 rfl rfl)) rfl
  try clear_value x0
  exact Same.ite (State.irq_same (State.bump_same hx0 (home_bit 16 rfl rfl)) (headHome_pgQ rfl) rfl rfl rfl) hx0)

theorem State.canStamp_same {a s : State} {a1 : Nat} {a2 : TxSt} {a3 : Nat} (h : Same m a s) (hm : m &&& 0x2008000001a = 0x2008000001a) :
    Same m a (State.canStamp s a1 a2 a3) := h.then hm (by
  have h := Same.refl 0x2008000001a s
  unfold State.canStamp
  extract_lets -merge -underBinder +onlyGivenNames x0
  exact Same.ite (State.pushSyncStamp_same h rfl) (Same.ite (State.pushTxStamp_same h rfl) h))

theorem State.canConds_same {a s : State} {a1 : Nat} (h : Same m a s) (hm : m &&& 0x8011000a = 0x8011000a) :
    Same m a (State.canConds s a1) := h.then hm (by
  have h := Same.refl 0x8011000a s
  unfold State.canConds
  extract_lets -merge -underBinder +onlyGivenNames x0 x1 x2 x3
  exact State.cond_same (State.cond_same (State.cond_same (State.setB_same h (home_bit 16 rfl rfl)) (headHome_pgQ rfl) rfl rfl rfl) (headHome_pgQ rfl) rfl rfl rfl) (headHome_pgQ rfl) rfl rfl rfl)

theorem State.busOff_same {a s : State} {a1 : Nat} (h : Same m a s) (hm : m &&& 0x4286e011440a = 0x4286e011440a) :
    Same m a (State.busOff s a1) := h.then hm (by
  have h := Same.refl 0x4286e011440a s
  unfold State.busOff
  extract_lets -merge -underBinder +onlyGivenNames x0 x1 x2 x3
  have hx0 : Same 0x4286e011440a s x0 := State.bump_same (State.wr_same (State.wr_same h (home_bit 16 rfl rfl)) (home_bit 16 rfl rfl)) (home_bit 16 rfl rfl)
  have hx1 : Same 0x4286e011440a s x1 := by
    unfold x1
    split
    · split
      · exact State.txClear_same (State.logMb_same (State.endMb_same hx0 rfl) rfl) rfl
      · exact State.canFail_same hx0 rfl
    · exact hx0
  have hx2 : Same 0x4286e011440a s x2 := State.loneNode_same hx1 rfl
  have hx3 : Same 0x4286e011440a s x3 := Same.ite (State.wr_same hx2 (home_bit 16 rfl rfl)) hx2
  try clear_value x0 x1 x2 x3
  exact State.canConds_same hx3 rfl)

theorem State.setErrCnt_same {a s : State} {a1 : Nat} {a2 : Nat} {a3 : Nat} (h : Same m a s) (hm : m &&& 0x4286e011440a = 0x4286e011440a) :
    Same m a (State.setErrCnt s a1 a2 a3) := h.then hm (by
  have h := Same.refl 0x4286e011440a s
  unfold State.setErrCnt
  refine Same.ite ?_ ?_
  · exact h
  · refine Same.ite ?_ ?_
    · exact State.busOff_same (State.wr_same h (home_bit 16 rfl rfl)) rfl
    · extract_lets -merge -underBinder +onlyGivenNames x0
      have hx0 : Same 0x4286e011440a s x0 := State.wr_same (State.wr_same h (home_bit 16 rfl rfl)) (home_bit 16 rfl rfl)
      try clear_value x0
      exact State.canConds_same (State.wr_same hx0 (home_bit 16 rfl rfl)) rfl)

theorem State.errCounts_same {a s : State} {a1 : Nat} {a2 : Nat} {a3 : Bool} {a4 : Nat} (h : Same m a s) (hm : m &&& 0x4286e011440a = 0x4286e011440a) :
    Same m a (State.errCounts s a1 a2 a3 a4) := h.then hm (by
  have h := Same.refl 0x4286e011440a s
  unfold State.errCounts
  extract_lets -merge -underBinder +onlyGivenNames x0 x1
  exact Same.ite h (Same.ite (Same.ite h (State.setErrCnt_same h rfl)) (State.setErrCnt_same h rfl)))

theorem State.ackError_same {a s : State} {a1 : Nat} (h : Same m a s) (hm : m &&& 0x8011000a = 0x8011000a) :
    Same m a (State.ackError s a1) := h.then hm (by
  have h := Same.refl 0x8011000a s
  unfold State.ackError
  extract_lets -merge -underBinder +onlyGivenNames x0 x1 x2
  have hx0 : Same 0x8011000a s x0 := State.bump_same h (home_bit 16 rfl rfl)
  have hx2 : Same 0x8011000a s x2 := State.wr_same hx0 (home_bit 16 rfl rfl)
  try clear_value x0 x2
  exact Same.ite (State.cond_same (State.setB_same hx2 (home_bit 16 rfl rfl)) (headHome_pgQ rfl) rfl rfl rfl) hx2)

theorem State.busError_same {a s : State} {a1 : Nat} {a2 : Nat} {a3 : Bool} {a4 : Nat} {a5 : Nat} {a6 : Nat} {a7 : Nat} (h : Same m a s) (hm : m &&& 0x4286e011440a = 0x4286e011440a) :
    Same m a (State.busError s a1 a2 a3 a4 a5 a6 a7) := h.then hm (by
  have h := Same.refl 0x4286e011440a s
  unfold State.busError
  extract_lets -merge -underBinder +onlyGivenNames x0 x1 x2 x3
  have hx0 : Same 0x4286e011440a s x0 := State.irq_same (State.bump_same (State.wr_same h (home_bit 16 rfl rfl)) (home_bit 16 rfl rfl)) (headHome_pgQ rfl) rfl rfl rfl
  have hx1 : Same 0x4286e011440a s x1 := Same.ite (State.ackError_same hx0 rfl) hx0
  have hx2 : Same 0x4286e011440a s x2 := by
    unfold x2
    split
    · exact Same.ite (State.setQuay_same hx1 rfl) hx1
    · exact hx1
  have hx3 : Same 0x4286e011440a s x3 := State.errCounts_same hx2 rfl
  try clear_value x0 x1 x2 x3
  refine Same.ite ?_ ?_
  · extract_lets -merge -underBinder +onlyGivenNames x4
    exact State.log_same hx3 rfl
  · exact hx3)

theorem State.canFmtDrop_same {a s : State} {q i n : Nat} (h : Same m a s) (hm : m &&& 0x4086e011400a = 0x4086e011400a) :
    Same m a (s.canFmtDrop q i n) := by
  induction n generalizing s with
  | zero => exact h
  | succ n ih =>
    unfold State.canFmtDrop
    split
    · refine Same.ite (ih (State.canDropItem_same (State.irq_same (State.bump_same (State.putEgress_same h (sub_of hm rfl))
        (home_bit 16 rfl (bit_of hm rfl))) (headHome_pgQ (bit_of hm rfl)) (bit_of hm rfl) (bit_of hm rfl) (bit_of hm rfl))
        (sub_of hm rfl))) h
    · exact h

theorem State.canStart_same {a s : State} {a1 : Nat} {a2 : CanCand} {a3 : Nat} (h : Same m a s) (hm : m &&& 0x20600010000 = 0x20600010000) :
    Same m a (State.canStart s a1 a2 a3) := h.then hm (by
  have h := Same.refl 0x20600010000 s
  unfold State.canStart
  split
  · split
    · extract_lets -merge -underBinder +onlyGivenNames x0 x1 x2
      have hx0 : Same 0x20600010000 s x0 := Same.ite h (State.bump_same h (home_bit 16 rfl rfl))
      have hx2 : Same 0x20600010000 s x2 := State.hold_same (State.putEgress_same hx0 rfl) rfl
      try clear_value x0 x2
      exact State.setQuay_same hx2 rfl
    · exact h
  · extract_lets -merge -underBinder +onlyGivenNames x3 x4 x5
    have hx4 : Same 0x20600010000 s x4 := Same.ite h (State.bump_same h (home_bit 16 rfl rfl))
    have hx5 : Same 0x20600010000 s x5 := State.setMb_same hx4 rfl
    try clear_value x4 x5
    exact State.setQuay_same hx5 rfl
  · exact h)

theorem State.canRemoveAll_same {a s : State} {a1 : Nat} (h : Same m a s) (hm : m &&& 0x4086e001400a = 0x4086e001400a) :
    Same m a (State.canRemoveAll s a1) := h.then hm (by
  have h := Same.refl 0x4086e001400a s
  unfold State.canRemoveAll
  exact Same.foldl h (fun _ _ k0 => Same.foldl (State.putEgress_same k0 rfl) (fun _ _ k1 => State.canDropItem_same (State.bump_same k1 (home_bit 16 rfl rfl)) rfl)))

theorem State.canDisable_same {a s : State} {a1 : Nat} (h : Same m a s) (hm : m &&& 0x4286e011440a = 0x4286e011440a) :
    Same m a (State.canDisable s a1) := h.then hm (by
  have h := Same.refl 0x4286e011440a s
  unfold State.canDisable
  extract_lets -merge -underBinder +onlyGivenNames x0 x1
  have hx0 : Same 0x4286e011440a s x0 := State.canRemoveAll_same h rfl
  have hx1 : Same 0x4286e011440a s x1 := by
    unfold x1
    split
    · exact Same.ite hx0 (State.canFail_same (State.setQuay_same hx0 rfl) rfl)
    · exact hx0
  try clear_value x0 x1
  exact State.loneNode_same (State.discardLanding_same hx1 rfl) rfl)

theorem State.canDrain_same {a s : State} {a1 : Nat} (h : Same m a s) (hm : m &&& 0x4286e011400a = 0x4286e011400a) :
    Same m a (State.canDrain s a1) := h.then hm (by
  have h := Same.refl 0x4286e011400a s
  unfold State.canDrain
  extract_lets -merge -underBinder +onlyGivenNames x0 x1 x3
  have hx0 : Same 0x4286e011400a s x0 := State.canRemoveAll_same h rfl
  have hx1 : Same 0x4286e011400a s x1 := Same.foldl hx0 (fun _ _ k2 => Same.ite (State.mbCancel_same k2 rfl) k2)
  have hx3 : Same 0x4286e011400a s x3 := by
    unfold x3
    split
    · split
      · exact Same.ite (State.setMb_same hx1 rfl) hx1
      · exact Same.ite (State.setQuay_same hx1 rfl) hx1
    · exact hx1
  try clear_value x0 x1 x3
  exact State.loneNode_same hx3 rfl)

end Sys2Proof.Machine
end

