-- ==== Sys2Proof/Laws/KeepEthOps.lean ====
section
/-! SUPPORT. What the functions of Machine/EthOps.lean can change, one lemma for each, with the canonical forms kept. -/

namespace Sys2Proof.Machine

variable {m : Nat}

theorem State.ethRxStamp_same {a s : State} {a1 : Nat} {a2 : Nat} {a3 : List Nat} (h : Same m a s) (hm : m &&& 0x2008000001a = 0x2008000001a) :
    Same m a (State.ethRxStamp s a1 a2 a3) := h.then hm (by
  have h := Same.refl 0x2008000001a s
  unfold State.ethRxStamp
  extract_lets -merge -underBinder +onlyGivenNames x0
  exact Same.ite (State.pushSyncStamp_same h rfl) h)

theorem State.ethLand_same1 {a s : State} {a1 : Nat} {a2 : Nat} {a3 : Bool} (h : Same m a s) (hm : m &&& 0x4086e011400a = 0x4086e011400a) :
    Same m a (State.ethLand s a1 a2 a3).1 := h.then hm (by
  have h := Same.refl 0x4086e011400a s
  unfold State.ethLand
  split
  · exact h
  · refine Same.ite1 ?_ ?_
    · exact Same.ite (State.keepBad_same h rfl) (State.announce_same h rfl)
    · extract_lets -merge -underBinder +onlyGivenNames x0 x1 x2
      have hx1 : Same 0x4086e011400a s x1 := Same.ite (State.putFrame_same h rfl) h
      have hx2 : Same 0x4086e011400a s x2.1 := State.pushDesc_same1 hx1 rfl
      try clear_value x1 x2
      exact Same.ite1 hx2 (State.logRxDrop_same (State.rxOverflow_same hx2 rfl) rfl))

theorem State.ethAbort_same {a s : State} {a1 : Nat} {a2 : Nat} {a3 : Nat} (h : Same m a s) (hm : m &&& 0x42c6e001400a = 0x42c6e001400a) :
    Same m a (State.ethAbort s a1 a2 a3) := h.then hm (by
  have h := Same.refl 0x42c6e001400a s
  unfold State.ethAbort
  split
  · exact h
  · extract_lets -merge -underBinder +onlyGivenNames x0 x1
    have hx1 : Same 0x42c6e001400a s x1 := State.bump_same (State.setQuay_same (State.advanceCredit_same h rfl) rfl) (home_bit 16 rfl rfl)
    try clear_value x1
    split
    · exact hx1
    · exact State.release_same (State.release_same (State.logTx_same hx1 rfl) rfl) rfl)

theorem State.usxJudge_same {a s : State} {a1 : Nat} (h : Same m a s) (hm : m &&& 0x8011000a = 0x8011000a) :
    Same m a (State.usxJudge s a1) := h.then hm (by
  have h := Same.refl 0x8011000a s
  unfold State.usxJudge
  extract_lets -merge -underBinder +onlyGivenNames x0
  exact State.cond_same (State.setB_same h (home_bit 16 rfl rfl)) (headHome_pgQ rfl) rfl rfl rfl)

theorem State.linkCond_same {a s : State} {a1 : Nat} (h : Same m a s) (hm : m &&& 0x8010000a = 0x8010000a) :
    Same m a (State.linkCond s a1) := h.then hm (by
  have h := Same.refl 0x8010000a s
  unfold State.linkCond
  exact State.cond_same h (headHome_pgQ rfl) rfl rfl rfl)

theorem State.linkLost_same {a s : State} {a1 : Nat} (h : Same m a s) (hm : m &&& 0x4086e01fffff = 0x4086e01fffff) :
    Same m a (State.linkLost s a1) := h.then hm (by
  have h := Same.refl 0x4086e01fffff s
  unfold State.linkLost
  extract_lets -merge -underBinder +onlyGivenNames x0 x1 x2 x3 x4 x5
  have hx0 : Same 0x4086e01fffff s x0 := State.serveFor_same h rfl
  have hx5 : Same 0x4086e01fffff s x5 := State.bump_same hx0 (any_home rfl)
  try clear_value x0 x5
  refine Same.ite ?_ ?_
  · extract_lets -merge -underBinder +onlyGivenNames x6
    have hx6 : Same 0x4086e01fffff s x6.1 := State.takeLanded_same1 hx5 rfl
    try clear_value x6
    split
    · exact hx6
    · extract_lets -merge -underBinder +onlyGivenNames x7
      have hx7 : Same 0x4086e01fffff s x7.1 := State.ethLand_same1 hx6 rfl
      try clear_value x7
      exact Same.ite (State.bump_same hx7 (home_bit 16 rfl rfl)) hx7
  · exact State.logRxDrop_same (State.discardLanding_same hx5 rfl) rfl)

theorem State.linkLostAll_same {a s : State} {a1 : Nat} (h : Same m a s) (hm : m &&& 0x4086e01fffff = 0x4086e01fffff) :
    Same m a (State.linkLostAll s a1) := h.then hm (by
  have h := Same.refl 0x4086e01fffff s
  unfold State.linkLostAll
  exact Same.foldl h (fun _ _ k0 => Same.ite (State.linkLost_same k0 rfl) k0))

theorem State.linkUpdate_same {a s : State} {a1 : Nat} (h : Same m a s) (hm : m &&& 0x42c6e01fffff = 0x42c6e01fffff) :
    Same m a (State.linkUpdate s a1) := h.then hm (by
  have h := Same.refl 0x42c6e01fffff s
  unfold State.linkUpdate
  extract_lets -merge -underBinder +onlyGivenNames x0 x1 x2 x3 x4 x5
  have hx0 : Same 0x42c6e01fffff s x0 := State.usxJudge_same h rfl
  have hx3 : Same 0x42c6e01fffff s x3 := State.setB_same hx0 (home_bit 16 rfl rfl)
  have hx4 : Same 0x42c6e01fffff s x4 := State.linkLostAll_same (State.ethAbort_same hx3 rfl) rfl
  have hx5 : Same 0x42c6e01fffff s x5 := Same.ite (Same.ite (State.bump_same hx4 (home_bit 16 rfl rfl)) hx4) hx3
  try clear_value x0 x3 x4 x5
  exact State.viewLog_same (State.asUpdate_same (State.linkCond_same hx5 rfl) rfl) rfl)

theorem State.linkDrop_same {a s : State} {a1 : Nat} (h : Same m a s) (hm : m &&& 0x4086e001400a = 0x4086e001400a) :
    Same m a (State.linkDrop s a1) := h.then hm (by
  have h := Same.refl 0x4086e001400a s
  unfold State.linkDrop
  exact Same.foldl h (fun _ _ k0 => Same.ite k0 (Same.foldl (State.putEgress_same k0 rfl) (fun _ _ k1 => State.release_same (State.logTx_same (State.bump_same k1 (home_bit 16 rfl rfl)) rfl) rfl))))

theorem State.longDrop_same {a s : State} {q i n : Nat} (h : Same m a s) (hm : m &&& 0x4086e011400a = 0x4086e011400a) :
    Same m a (s.longDrop q i n) := by
  induction n generalizing s with
  | zero => exact h
  | succ n ih =>
    unfold State.longDrop
    split
    · refine Same.ite (ih (State.release_same (State.logTx_same (State.irq_same (State.bump_same (State.putEgress_same h
        (sub_of hm rfl)) (home_bit 16 rfl (bit_of hm rfl))) (headHome_pgQ (bit_of hm rfl)) (bit_of hm rfl) (bit_of hm rfl)
        (bit_of hm rfl)) (sub_of hm rfl)) (sub_of hm rfl))) h
    · exact h

theorem State.gangSlip_same {a s : State} {a1 : Nat} {a2 : Nat} {a3 : QItem} (h : Same m a s) (hm : m &&& 0x8011000a = 0x8011000a) :
    Same m a (State.gangSlip s a1 a2 a3) := h.then hm (by
  have h := Same.refl 0x8011000a s
  unfold State.gangSlip
  exact Same.ite (State.irq_same (State.bump_same h (home_bit 16 rfl rfl)) (headHome_pgQ rfl) rfl rfl rfl) h)

theorem State.ethStart_same {a s : State} {a1 : Nat} {a2 : Nat} (h : Same m a s) (hm : m &&& 0x2468011000a = 0x2468011000a) :
    Same m a (State.ethStart s a1 a2) := h.then hm (by
  have h := Same.refl 0x2468011000a s
  unfold State.ethStart
  split
  · exact h
  · extract_lets -merge -underBinder +onlyGivenNames x0 x1 x2 x3 x4
    have hx1 : Same 0x2468011000a s x1 := State.gangSlip_same h rfl
    have hx2 : Same 0x2468011000a s x2 := Same.ite (State.irq_same (State.bump_same hx1 (home_bit 16 rfl rfl)) (headHome_pgQ rfl) rfl rfl rfl) hx1
    have hx4 : Same 0x2468011000a s x4 := State.hold_same (State.putEgress_same (State.advanceCredit_same hx2 rfl) rfl) rfl
    try clear_value x1 x2 x4
    exact State.setQuay_same hx4 rfl)

theorem State.ethFlushQueue_same {a s : State} {a1 : Nat} {a2 : Nat} (h : Same m a s) (hm : m &&& 0x40c6e001400a = 0x40c6e001400a) :
    Same m a (State.ethFlushQueue s a1 a2) := h.then hm (by
  have h := Same.refl 0x40c6e001400a s
  unfold State.ethFlushQueue
  exact Same.foldl (State.putEgress_same (State.advanceCredit_same h rfl) rfl) (fun _ _ k0 => State.release_same (State.logTx_same (State.bump_same k0 (home_bit 16 rfl rfl)) rfl) rfl))

theorem State.ethRemoveAll_same {a s : State} {a1 : Nat} (h : Same m a s) (hm : m &&& 0x40c6e001400a = 0x40c6e001400a) :
    Same m a (State.ethRemoveAll s a1) := h.then hm (by
  have h := Same.refl 0x40c6e001400a s
  unfold State.ethRemoveAll
  exact Same.foldl h (fun _ _ k0 => State.ethFlushQueue_same k0 rfl))

theorem State.ethDisable_same {a s : State} {a1 : Nat} (h : Same m a s) (hm : m &&& 0x42c6e01fffff = 0x42c6e01fffff) :
    Same m a (State.ethDisable s a1) := h.then hm (by
  have h := Same.refl 0x42c6e01fffff s
  unfold State.ethDisable
  exact State.linkUpdate_same (State.discardLanding_same (State.ethRemoveAll_same h rfl) rfl) rfl)

theorem State.ethTxStamp_same {a s : State} {a1 : Nat} {a2 : Nat} {a3 : Nat} {a4 : QItem} {a5 : List Nat} (h : Same m a s) (hm : m &&& 0x2008000001a = 0x2008000001a) :
    Same m a (State.ethTxStamp s a1 a2 a3 a4 a5) := h.then hm (by
  have h := Same.refl 0x2008000001a s
  unfold State.ethTxStamp
  extract_lets -merge -underBinder +onlyGivenNames x0 x1
  have hx1 : Same 0x2008000001a s x1 := Same.ite (State.pushSyncStamp_same h rfl) h
  try clear_value x1
  exact Same.ite (State.pushTxStamp_same hx1 rfl) hx1)

theorem State.ethEnd_same {a s : State} {a1 : Nat} {a2 : Nat} (h : Same m a s) (hm : m &&& 0x4ac7e01fffff = 0x4ac7e01fffff) :
    Same m a (State.ethEnd s a1 a2) := h.then hm (by
  have h := Same.refl 0x4ac7e01fffff s
  unfold State.ethEnd
  split
  · exact h
  · split
    · exact State.setQuay_same h rfl
    · extract_lets -merge -underBinder +onlyGivenNames x0 x1 x2 x3 x4 x5 x6 x7 x8 x9 x10 x11 x12 x13 x14 x15 x16 x17 x18 x19
      have hx2 : Same 0x4ac7e01fffff s x2.1 := State.passSite_same1 h rfl
      have hx3 : Same 0x4ac7e01fffff s x3 := hx2
      have hx9 : Same 0x4ac7e01fffff s x9 := State.setQuay_same (State.advanceCredit_same hx3 rfl) rfl
      have hx12 : Same 0x4ac7e01fffff s x12 := State.bump_same hx9 (home_bit 16 rfl rfl)
      have hx13 : Same 0x4ac7e01fffff s x13 := Same.ite (State.bump_same hx12 rfl) hx12
      have hx14 : Same 0x4ac7e01fffff s x14 := Same.ite (State.errU_same hx13 (headHome_pgQ rfl) rfl rfl rfl rfl rfl) hx13
      have hx15 : Same 0x4ac7e01fffff s x15 := State.out_same hx14 rfl
      have hx16 : Same 0x4ac7e01fffff s x16 := State.bump64_same (State.bump_same hx9 (home_bit 16 rfl rfl)) (home_bit 16 rfl rfl) (home_bit 16 rfl rfl)
      have hx17 : Same 0x4ac7e01fffff s x17 := State.segmentUsed_same (State.out_same hx16 rfl) rfl
      have hx18 : Same 0x4ac7e01fffff s x18 := State.ethTxStamp_same hx17 rfl
      have hx19 : Same 0x4ac7e01fffff s x19 := Same.ite (Same.ite hx15 (State.logTx_same hx15 rfl)) (Same.ite hx18 (State.logTx_same hx18 rfl))
      try clear_value x2 x3 x9 x12 x13 x14 x15 x16 x17 x18 x19
      exact State.release_same (State.release_same hx19 rfl) rfl)

theorem State.collisionDrop_same {a s : State} {a1 : Nat} {a2 : TxSt} {a3 : QItem} (h : Same m a s) (hm : m &&& 0x4087e000400a = 0x4087e000400a) :
    Same m a (State.collisionDrop s a1 a2 a3) := h.then hm (by
  have h := Same.refl 0x4087e000400a s
  unfold State.collisionDrop
  extract_lets -merge -underBinder +onlyGivenNames x0 x1
  have hx1 : Same 0x4087e000400a s x1 := State.logTx_same (State.useFresh_same h rfl) rfl
  try clear_value x1
  exact State.release_same (State.release_same hx1 rfl) rfl)

end Sys2Proof.Machine
end

