-- ==== Sys2Proof/Laws/KeepFrontOps.lean ====
section
/-! SUPPORT. What the functions of Machine/FrontOps.lean can change, one lemma for each, with the canonical forms kept. -/

namespace Sys2Proof.Machine

variable {m : Nat}

theorem State.lineUpdate_same {a s : State} {a1 : Nat} (h : Same m a s) (hm : m &&& 0x42c6e013440a = 0x42c6e013440a) :
    Same m a (State.lineUpdate s a1) := h.then hm (by
  have h := Same.refl 0x42c6e013440a s
  unfold State.lineUpdate
  extract_lets -merge -underBinder +onlyGivenNames x0 x1
  have hx1 : Same 0x42c6e013440a s x1 := State.setB_same h (home_bit 17 rfl rfl)
  try clear_value x1
  exact Same.ite (Same.ite (State.canFail_same hx1 rfl) (State.ethAbort_same hx1 rfl)) hx1)

theorem State.linesUpdate_same {a s : State} {a1 : List Nat} (h : Same m a s) (hm : m &&& 0x42c6e013440a = 0x42c6e013440a) :
    Same m a (State.linesUpdate s a1) := h.then hm (by
  have h := Same.refl 0x42c6e013440a s
  unfold State.linesUpdate
  exact Same.foldl h (fun _ _ k0 => State.lineUpdate_same k0 rfl))

theorem State.setFaults_same {a s : State} {a1 : Nat} {a2 : Nat} (h : Same m a s) (hm : m &&& 0x42c6e013440a = 0x42c6e013440a) :
    Same m a (State.setFaults s a1 a2) := h.then hm (by
  have h := Same.refl 0x42c6e013440a s
  unfold State.setFaults
  extract_lets -merge -underBinder +onlyGivenNames x0 x1 x2 x3 x4 x5 x6
  have hx2 : Same 0x42c6e013440a s x2 := State.wr_same h (home_bit 17 rfl rfl)
  have hx3 : Same 0x42c6e013440a s x3 := State.wr_same hx2 (home_bit 17 rfl rfl)
  have hx4 : Same 0x42c6e013440a s x4 := State.bumpBy_same hx3 (home_bit 17 rfl rfl)
  have hx6 : Same 0x42c6e013440a s x6 := Same.ite hx4 (State.irq_same (State.wr_same hx4 (home_bit 17 rfl rfl)) (headHome_pgLFE rfl) rfl rfl rfl)
  try clear_value x2 x3 x4 x6
  exact State.lineUpdate_same (State.cond_same hx6 (headHome_pgLFE rfl) rfl rfl rfl) rfl)

theorem State.addFaults_same {a s : State} {a1 : Nat} {a2 : List Nat} (h : Same m a s) (hm : m &&& 0x42c6e013440a = 0x42c6e013440a) :
    Same m a (State.addFaults s a1 a2) := h.then hm (by
  have h := Same.refl 0x42c6e013440a s
  unfold State.addFaults
  exact State.setFaults_same h rfl)

theorem State.dropFaults_same {a s : State} {a1 : Nat} {a2 : List Nat} (h : Same m a s) (hm : m &&& 0x42c6e013440a = 0x42c6e013440a) :
    Same m a (State.dropFaults s a1 a2) := h.then hm (by
  have h := Same.refl 0x42c6e013440a s
  unfold State.dropFaults
  exact State.setFaults_same h rfl)

theorem State.faultIs_same {a s : State} {a1 : Nat} {a2 : Nat} {a3 : Bool} (h : Same m a s) (hm : m &&& 0x42c6e013440a = 0x42c6e013440a) :
    Same m a (State.faultIs s a1 a2 a3) := h.then hm (by
  have h := Same.refl 0x42c6e013440a s
  unfold State.faultIs
  exact Same.ite (State.addFaults_same h rfl) (State.dropFaults_same h rfl))

theorem State.exchangeRoles_same {a s : State} {a1 : Nat} (h : Same m a s) (hm : m &&& 0x46c6e013440a = 0x46c6e013440a) :
    Same m a (State.exchangeRoles s a1) := h.then hm (by
  have h := Same.refl 0x46c6e013440a s
  unfold State.exchangeRoles
  extract_lets -merge -underBinder +onlyGivenNames x0 x1 x2
  have hx1 : Same 0x46c6e013440a s x1 := State.setFaults_same (State.setB_same h (home_bit 17 rfl rfl)) rfl
  have hx2 : Same 0x46c6e013440a s x2 := State.irq_same (State.bump_same hx1 (home_bit 17 rfl rfl)) (headHome_pgLFE rfl) rfl rfl rfl
  try clear_value x1 x2
  exact State.setFront_same hx2 rfl)

theorem State.straightRoles_same {a s : State} {a1 : Nat} (h : Same m a s) (hm : m &&& 0x46c6e013440a = 0x46c6e013440a) :
    Same m a (State.straightRoles s a1) := h.then hm (by
  have h := Same.refl 0x46c6e013440a s
  unfold State.straightRoles
  extract_lets -merge -underBinder +onlyGivenNames x0
  have hx0 : Same 0x46c6e013440a s x0 := State.dropFaults_same (State.setB_same h (home_bit 17 rfl rfl)) rfl
  try clear_value x0
  exact State.setFront_same hx0 rfl)

theorem State.normalPolarity_same {a s : State} {a1 : Nat} (h : Same m a s) (hm : m &&& 0x46c6e013440a = 0x46c6e013440a) :
    Same m a (State.normalPolarity s a1) := h.then hm (by
  have h := Same.refl 0x46c6e013440a s
  unfold State.normalPolarity
  extract_lets -merge -underBinder +onlyGivenNames x0 x1
  have hx1 : Same 0x46c6e013440a s x1 := State.setFront_same h rfl
  try clear_value x1
  exact Same.ite (State.dropFaults_same hx1 rfl) hx1)

theorem State.measEnd_same {a s : State} {a1 : Nat} (h : Same m a s) (hm : m &&& 0x4008012000a = 0x4008012000a) :
    Same m a (State.measEnd s a1) := h.then hm (by
  have h := Same.refl 0x4008012000a s
  unfold State.measEnd
  extract_lets -merge -underBinder +onlyGivenNames x0 x1
  have hx1 : Same 0x4008012000a s x1 := State.setFront_same (State.wr_same (State.wr_same h (home_bit 17 rfl rfl)) (home_bit 17 rfl rfl)) rfl
  try clear_value x1
  exact State.irq_same (State.bump_same hx1 (home_bit 17 rfl rfl)) (headHome_pgLFE rfl) rfl rfl rfl)

theorem State.termResult_same {a s : State} {a1 : Nat} {a2 : Nat} {a3 : Option Nat} (h : Same m a s) (hm : m &&& 0x46c6e013440a = 0x46c6e013440a) :
    Same m a (State.termResult s a1 a2 a3) := h.then hm (by
  have h := Same.refl 0x46c6e013440a s
  unfold State.termResult
  extract_lets -merge -underBinder +onlyGivenNames x0 x1
  have hx0 : Same 0x46c6e013440a s x0 := State.wr_same (State.wr_same h (home_bit 17 rfl rfl)) (home_bit 17 rfl rfl)
  have hx1 : Same 0x46c6e013440a s x1 := by
    unfold x1
    split
    · exact State.wr_same hx0 (home_bit 17 rfl rfl)
    · exact hx0
  try clear_value x0 x1
  exact State.measEnd_same (State.faultIs_same hx1 rfl) rfl)

theorem State.tdrResult_same {a s : State} {a1 : Nat} {a2 : Nat} {a3 : Option Nat} (h : Same m a s) (hm : m &&& 0x46c6e013440a = 0x46c6e013440a) :
    Same m a (State.tdrResult s a1 a2 a3) := h.then hm (by
  have h := Same.refl 0x46c6e013440a s
  unfold State.tdrResult
  extract_lets -merge -underBinder +onlyGivenNames x0 x1 x2 x3 x4 x5
  have hx0 : Same 0x46c6e013440a s x0 := State.wr_same (State.wr_same h (home_bit 17 rfl rfl)) (home_bit 17 rfl rfl)
  have hx1 : Same 0x46c6e013440a s x1 := by
    unfold x1
    split
    · exact State.wr_same hx0 (home_bit 17 rfl rfl)
    · exact hx0
  try clear_value x0 x1
  exact State.measEnd_same (State.setFaults_same hx1 rfl) rfl)

theorem State.measAbort_same {a s : State} {a1 : Nat} (h : Same m a s) (hm : m &&& 0x46c6e013440a = 0x46c6e013440a) :
    Same m a (State.measAbort s a1) := h.then hm (by
  have h := Same.refl 0x46c6e013440a s
  unfold State.measAbort
  split
  · exact State.termResult_same h rfl
  · exact State.tdrResult_same h rfl
  · exact h)

theorem State.tdrStart_same {a s : State} {a1 : Nat} {a2 : Bool} (h : Same m a s) (hm : m &&& 0x40000020000 = 0x40000020000) :
    Same m a (State.tdrStart s a1 a2) := h.then hm (by
  have h := Same.refl 0x40000020000 s
  unfold State.tdrStart
  extract_lets -merge -underBinder +onlyGivenNames x0 x1
  have hx1 : Same 0x40000020000 s x1 := State.setFront_same h rfl
  try clear_value x1
  exact Same.ite (State.wr_same hx1 (home_bit 17 rfl rfl)) (State.wr_same hx1 (home_bit 17 rfl rfl)))

theorem State.lfeDisable_same {a s : State} {a1 : Nat} (h : Same m a s) (hm : m &&& 0x46c6e013440a = 0x46c6e013440a) :
    Same m a (State.lfeDisable s a1) := h.then hm (by
  have h := Same.refl 0x46c6e013440a s
  unfold State.lfeDisable
  extract_lets -merge -underBinder +onlyGivenNames x0
  have hx0 : Same 0x46c6e013440a s x0 := State.wr_same (State.wr_same (State.wr_same h (home_bit 17 rfl rfl)) (home_bit 17 rfl rfl)) (home_bit 17 rfl rfl)
  try clear_value x0
  exact State.setFaults_same (State.setFront_same hx0 rfl) rfl)

theorem State.lfeEnable_same {a s : State} {a1 : Nat} (h : Same m a s) (hm : m &&& 0x46c6e013440a = 0x46c6e013440a) :
    Same m a (State.lfeEnable s a1) := h.then hm (by
  have h := Same.refl 0x46c6e013440a s
  unfold State.lfeEnable
  extract_lets -merge -underBinder +onlyGivenNames x0
  have hx0 : Same 0x46c6e013440a s x0 := State.setB_same h (home_bit 17 rfl rfl)
  try clear_value x0
  exact State.lineUpdate_same (State.setFront_same (State.setB_same hx0 (home_bit 17 rfl rfl)) rfl) rfl)

theorem State.isolate_same {a s : State} {a1 : Nat} (h : Same m a s) (hm : m &&& 0x42c6e013440a = 0x42c6e013440a) :
    Same m a (State.isolate s a1) := h.then hm (by
  have h := Same.refl 0x42c6e013440a s
  unfold State.isolate
  exact State.lineUpdate_same (State.setQuay_same h rfl) rfl)

theorem State.clearIngress_same {a s : State} {a1 : Nat} (h : Same m a s) (hm : m &&& 0x4086e000400a = 0x4086e000400a) :
    Same m a (State.clearIngress s a1) := h.then hm (by
  have h := Same.refl 0x4086e000400a s
  unfold State.clearIngress
  extract_lets -merge -underBinder +onlyGivenNames x0 x1
  exact Same.foldl (State.putIngr_same h rfl) (fun _ _ k2 => State.dropFrame_same k2 rfl))

theorem State.canReset_same {a s : State} {a1 : Nat} (h : Same m a s) (hm : m &&& 0x4286e01fffff = 0x4286e01fffff) :
    Same m a (State.canReset s a1) := h.then hm (by
  have h := Same.refl 0x4286e01fffff s
  unfold State.canReset
  extract_lets -merge -underBinder +onlyGivenNames x0 x1 x2 x3 x4 x6
  have hx0 : Same 0x4286e01fffff s x0 := State.clearCounters_same h rfl
  have hx1 : Same 0x4286e01fffff s x1 := State.canRemoveAll_same hx0 rfl
  have hx2 : Same 0x4286e01fffff s x2 := by
    unfold x2
    split
    · split
      · exact State.canDropItem_same (State.bump_same hx1 (home_bit 16 rfl rfl)) rfl
      · exact hx1
    · exact hx1
  have hx3 : Same 0x4286e01fffff s x3 := State.setQuay_same hx2 rfl
  have hx4 : Same 0x4286e01fffff s x4 := Same.foldl hx3 (fun _ _ k5 => State.wr_same (State.wr_same (State.wr_same k5 (home_bit 16 rfl rfl)) (home_bit 16 rfl rfl)) (home_bit 16 rfl rfl))
  have hx6 : Same 0x4286e01fffff s x6 := State.clear_cons (State.clear_cons (State.clear_cons (State.clear_cons (State.clear_cons (State.clear_cons (State.clear_cons (State.clear_cons (State.clear_cons (State.clear_nil (State.wr_same (State.wr_same (State.wr_same (State.wr_same (State.wr_same (State.wr_same (State.wr_same (State.wr_same (State.wr_same hx4 (home_bit 16 rfl rfl)) (home_bit 16 rfl rfl)) (home_bit 16 rfl rfl)) (home_bit 16 rfl rfl)) (home_bit 16 rfl rfl)) (home_bit 16 rfl rfl)) (home_bit 16 rfl rfl)) (home_bit 16 rfl rfl)) (home_bit 16 rfl rfl)))))))))))
  try clear_value x0 x1 x2 x3 x4 x6
  exact State.canConds_same (State.cond_same (State.cond_same hx6 (headHome_pgQ rfl) rfl rfl rfl) (headHome_pgQ rfl) rfl rfl rfl) rfl)

theorem State.ethReset_same {a s : State} {a1 : Nat} (h : Same m a s) (hm : m &&& 0x42c6e01fffff = 0x42c6e01fffff) :
    Same m a (State.ethReset s a1) := h.then hm (by
  have h := Same.refl 0x42c6e01fffff s
  unfold State.ethReset
  extract_lets -merge -underBinder +onlyGivenNames x0 x1 x2
  have hx0 : Same 0x42c6e01fffff s x0 := State.ethRemoveAll_same (State.clearCounters_same h rfl) rfl
  have hx1 : Same 0x42c6e01fffff s x1 := by
    unfold x1
    split
    · split
      · exact State.release_same (State.release_same (State.logTx_same (State.bump_same hx0 (home_bit 16 rfl rfl)) rfl) rfl) rfl
      · exact hx0
    · exact hx0
  have hx2 : Same 0x42c6e01fffff s x2 := State.setQuay_same hx1 rfl
  try clear_value x0 x1 x2
  exact State.linkUpdate_same (State.wr_same hx2 (home_bit 16 rfl rfl)) rfl)

theorem State.lfeReset_same {a s : State} {a1 : Nat} (h : Same m a s) (hm : m &&& 0x46c6e01fffff = 0x46c6e01fffff) :
    Same m a (State.lfeReset s a1) := h.then hm (by
  have h := Same.refl 0x46c6e01fffff s
  unfold State.lfeReset
  extract_lets -merge -underBinder +onlyGivenNames x0 x1
  have hx0 : Same 0x46c6e01fffff s x0 := State.clearCounters_same h rfl
  have hx1 : Same 0x46c6e01fffff s x1 := State.setB_same (State.wr_same (State.wr_same hx0 (home_bit 17 rfl rfl)) (home_bit 17 rfl rfl)) (home_bit 17 rfl rfl)
  try clear_value x0 x1
  exact State.setFaults_same (State.setFront_same hx1 rfl) rfl)

theorem State.quayReset_same {a s : State} {a1 : Nat} (h : Same m a s) (hm : m &&& 0x46c6e01fffff = 0x46c6e01fffff) :
    Same m a (State.quayReset s a1) := h.then hm (by
  have h := Same.refl 0x46c6e01fffff s
  unfold State.quayReset
  extract_lets -merge -underBinder +onlyGivenNames x0 x1
  have hx0 : Same 0x46c6e01fffff s x0 := State.clearIngress_same h rfl
  have hx1 : Same 0x46c6e01fffff s x1 := Same.ite (State.canReset_same hx0 rfl) (State.ethReset_same hx0 rfl)
  try clear_value x0 x1
  exact State.lineUpdate_same (State.setFront_same hx1 rfl) rfl)

theorem State.bankLose_same {a s : State} {a1 : Nat} (h : Same m a s) (hm : m &&& 0x4087e000400a = 0x4087e000400a) :
    Same m a (State.bankLose s a1) := h.then hm (by
  have h := Same.refl 0x4087e000400a s
  unfold State.bankLose
  extract_lets -merge -underBinder +onlyGivenNames x0 x1 x3 x4
  have hx1 : Same 0x4087e000400a s x1 := Same.foldl h (fun _ _ k2 => State.dropFrame_same k2 rfl)
  have hx3 : Same 0x4087e000400a s x3 := State.loseCells_same hx1 rfl
  try clear_value x1 x3
  exact State.setCst_same hx3 rfl (fun w => w))

theorem State.clusterReset_same {a s : State} {a1 : Nat} (h : Same m a s) (hm : m &&& 0x46c7e01fffff = 0x46c7e01fffff) :
    Same m a (State.clusterReset s a1) := h.then hm (by
  have h := Same.refl 0x46c7e01fffff s
  unfold State.clusterReset
  exact State.bankLose_same (Same.foldl h (fun _ _ k0 => State.quayReset_same (State.lfeReset_same k0 rfl) rfl)) rfl)

theorem State.regionClear_same {a s : State} {a1 : Nat} (h : Same m a s) (hm : m &&& 0x46c7e01fffff = 0x46c7e01fffff) :
    Same m a (State.regionClear s a1) := h.then hm (by
  have h := Same.refl 0x46c7e01fffff s
  unfold State.regionClear
  exact Same.foldl h (fun _ _ k0 => State.clusterReset_same k0 rfl))

end Sys2Proof.Machine
end

