-- ==== Sys2Proof/Laws/KeepSleepOps.lean ====
section
/-! SUPPORT. What the functions of Machine/SleepOps.lean can change, one lemma for each, with the canonical forms kept. -/

namespace Sys2Proof.Machine

variable {m : Nat}

theorem State.setPwk_same {a s : State} {a1 : PwkSt} (h : Same m a s) (hm : m &&& 0x80000000000 = 0x80000000000) :
    Same m a (State.setPwk s a1) := h.then hm (by
  have h := Same.refl 0x80000000000 s
  unfold State.setPwk
  exact (Same.put_pwk h rfl))

theorem State.setSeg_same {a s : State} {a1 : Nat} {a2 : SegSt} (h : Same m a s) (hm : m &&& 0x80000000000 = 0x80000000000) :
    Same m a (State.setSeg s a1 a2) := h.then hm (by
  have h := Same.refl 0x80000000000 s
  unfold State.setSeg
  exact State.setPwk_same h rfl)

theorem State.setSegment_same {a s : State} {a1 : Nat} {a2 : Nat} (h : Same m a s) (hm : m &&& 0x80000 = 0x80000) :
    Same m a (State.setSegment s a1 a2) := h.then hm (by
  have h := Same.refl 0x80000 s
  unfold State.setSegment
  exact State.wr_same h (home_bit 19 rfl rfl))

theorem State.setRegion_same {a s : State} {a1 : Nat} {a2 : Nat} (h : Same m a s) (hm : m &&& 0x80000 = 0x80000) :
    Same m a (State.setRegion s a1 a2) := h.then hm (by
  have h := Same.refl 0x80000 s
  unfold State.setRegion
  exact Same.ite (State.wr_same h rfl) (State.wr_same h rfl))

theorem State.wakeCond_same {a s : State} (h : Same m a s) (hm : m &&& 0x8010000a = 0x8010000a) :
    Same m a (State.wakeCond s) := h.then hm (by
  have h := Same.refl 0x8010000a s
  unfold State.wakeCond
  exact State.cond_same h rfl rfl rfl rfl)

theorem State.recordWake_same {a s : State} {a1 : WakeRec} {a2 : Option Nat} (h : Same m a s) (hm : m &&& 0x8018018000a = 0x8018018000a) :
    Same m a (State.recordWake s a1 a2) := h.then hm (by
  have h := Same.refl 0x8018018000a s
  unfold State.recordWake
  extract_lets -merge -underBinder +onlyGivenNames x0 x1 x2 x3 x4 x5 x6 x7 x8
  have hx2 : Same 0x8018018000a s x2 := Same.ite (State.useFresh_same h rfl) h
  have hx8 : Same 0x8018018000a s x8 := State.setPwk_same hx2 rfl
  try clear_value x2 x8
  exact State.wakeCond_same (Same.ite (State.bump_same hx8 rfl) hx8) rfl)

theorem State.quayWake_same {a s : State} {a1 : Nat} {a2 : Nat} {a3 : Nat} (h : Same m a s) (hm : m &&& 0x8011000a = 0x8011000a) :
    Same m a (State.quayWake s a1 a2 a3) := h.then hm (by
  have h := Same.refl 0x8011000a s
  unfold State.quayWake
  refine Same.ite ?_ ?_
  · extract_lets -merge -underBinder +onlyGivenNames x0
    have hx0 : Same 0x8011000a s x0 := State.wr_same (State.wr_same (State.wr_same h (home_bit 16 rfl rfl)) (home_bit 16 rfl rfl)) (home_bit 16 rfl rfl)
    try clear_value x0
    exact State.irq_same (State.bump_same hx0 (home_bit 16 rfl rfl)) (headHome_pgQ rfl) rfl rfl rfl
  · extract_lets -merge -underBinder +onlyGivenNames x1
    have hx1 : Same 0x8011000a s x1 := State.wr_same (State.wr_same h (home_bit 16 rfl rfl)) (home_bit 16 rfl rfl)
    try clear_value x1
    exact State.irq_same (State.bump_same hx1 (home_bit 16 rfl rfl)) (headHome_pgQ rfl) rfl rfl rfl)

theorem State.noteQuayWake_same {a s : State} {a1 : Nat} {a2 : Nat} {a3 : Nat} (h : Same m a s) (hm : m &&& 0x8008011000a = 0x8008011000a) :
    Same m a (State.noteQuayWake s a1 a2 a3) := h.then hm (by
  have h := Same.refl 0x8008011000a s
  unfold State.noteQuayWake
  exact Same.ite (State.quayWake_same h rfl) (State.setPwk_same h rfl))

theorem State.logWake_same {a s : State} {a1 : Nat} {a2 : Nat} {a3 : Nat} {a4 : Bool} (h : Same m a s) (hm : m &&& 0x40000000 = 0x40000000) :
    Same m a (State.logWake s a1 a2 a3 a4) := h.then hm (by
  have h := Same.refl 0x40000000 s
  unfold State.logWake
  exact Same.ite (State.log_same h rfl) h)

theorem State.leaveLowPower_same {a s : State} {a1 : Nat} (h : Same m a s) (hm : m &&& 0x42c6e01fffff = 0x42c6e01fffff) :
    Same m a (State.leaveLowPower s a1) := h.then hm (by
  have h := Same.refl 0x42c6e01fffff s
  unfold State.leaveLowPower
  extract_lets -merge -underBinder +onlyGivenNames x0 x1 x2
  have hx0 : Same 0x42c6e01fffff s x0 := Same.ite (State.wr_same h (home_bit 16 rfl rfl)) (State.wr_same h (home_bit 16 rfl rfl))
  have hx2 : Same 0x42c6e01fffff s x2 := State.setQuay_same hx0 rfl
  try clear_value x0 x2
  exact Same.ite (State.linkUpdate_same hx2 rfl) hx2)

theorem State.serialSleep_same {a s : State} (h : Same m a s) (hm : m &&& 0x42c6e01fffff = 0x42c6e01fffff) :
    Same m a (State.serialSleep s) := h.then hm (by
  have h := Same.refl 0x42c6e01fffff s
  unfold State.serialSleep
  exact Same.foldl h (fun _ _ k0 => State.linkUpdate_same (State.discardLanding_same (State.wr_same (State.ethRemoveAll_same k0 rfl) (home_bit 16 rfl rfl)) rfl) rfl))

theorem State.serialWake_same {a s : State} (h : Same m a s) (hm : m &&& 0x4ac6e01fffff = 0x4ac6e01fffff) :
    Same m a (State.serialWake s) := h.then hm (by
  have h := Same.refl 0x4ac6e01fffff s
  unfold State.serialWake
  exact Same.foldl h (fun _ _ k0 => Same.ite (State.noteQuayWake_same (State.leaveLowPower_same k0 rfl) rfl) k0))

theorem State.regionPower_same {a s : State} {a1 : Nat} (h : Same m a s) (hm : m &&& 0x4ac6e01fffff = 0x4ac6e01fffff) :
    Same m a (State.regionPower s a1) := h.then hm (by
  have h := Same.refl 0x4ac6e01fffff s
  unfold State.regionPower
  refine Same.ite ?_ ?_
  · exact h
  · extract_lets -merge -underBinder +onlyGivenNames x0
    have hx0 : Same 0x4ac6e01fffff s x0 := State.setRegion_same h rfl
    try clear_value x0
    exact Same.ite (State.serialWake_same hx0 rfl) hx0)

theorem State.startWaking_same {a s : State} {a1 : Nat} {a2 : Bool} (h : Same m a s) (hm : m &&& 0x4ac6e01fffff = 0x4ac6e01fffff) :
    Same m a (State.startWaking s a1 a2) := h.then hm (by
  have h := Same.refl 0x4ac6e01fffff s
  unfold State.startWaking
  extract_lets -merge -underBinder +onlyGivenNames x0 x1 x2 x3
  have hx0 : Same 0x4ac6e01fffff s x0 := Same.ite (State.regionPower_same h rfl) h
  have hx1 : Same 0x4ac6e01fffff s x1 := State.wr_same (State.setSegment_same hx0 rfl) (home_bit 17 rfl rfl)
  have hx3 : Same 0x4ac6e01fffff s x3 := State.leaveLowPower_same (State.setSeg_same hx1 rfl) rfl
  try clear_value x0 x1 x3
  exact Same.ite (State.out_same hx3 rfl) hx3)

theorem State.entryStop_same {a s : State} (h : Same m a s) (hm : m &&& 0x10080000 = 0x10080000) :
    Same m a (State.entryStop s) := h.then hm (by
  have h := Same.refl 0x10080000 s
  unfold State.entryStop
  refine Same.ite ?_ ?_
  · extract_lets -merge -underBinder +onlyGivenNames x0
    have hx0 : Same 0x10080000 s x0 := State.wr_same h rfl
    try clear_value x0
    exact (Same.put_mode hx0 rfl)
  · exact h)

theorem State.entryFails_same {a s : State} {a1 : Nat} (h : Same m a s) (hm : m &&& 0x4ac6f01fffff = 0x4ac6f01fffff) :
    Same m a (State.entryFails s a1) := h.then hm (by
  have h := Same.refl 0x4ac6f01fffff s
  unfold State.entryFails
  extract_lets -merge -underBinder +onlyGivenNames x0 x1
  have hx0 : Same 0x4ac6f01fffff s x0 := State.irq_same (State.setRegion_same h rfl) rfl rfl rfl rfl
  have hx1 : Same 0x4ac6f01fffff s x1 := Same.ite (Same.ite (State.serialWake_same hx0 rfl) hx0) h
  try clear_value x0 x1
  exact State.entryStop_same hx1 rfl)

theorem State.sleepAborted_same {a s : State} {a1 : Nat} (h : Same m a s) (hm : m &&& 0x4ac6f01fffff = 0x4ac6f01fffff) :
    Same m a (State.sleepAborted s a1) := h.then hm (by
  have h := Same.refl 0x4ac6f01fffff s
  unfold State.sleepAborted
  extract_lets -merge -underBinder +onlyGivenNames x0 x1
  have hx0 : Same 0x4ac6f01fffff s x0 := State.setSegment_same h rfl
  have hx1 : Same 0x4ac6f01fffff s x1 := State.irq_same (State.bump_same hx0 rfl) rfl rfl rfl rfl
  try clear_value x0 x1
  exact State.entryFails_same hx1 rfl)

theorem State.packageUp_same {a s : State} (h : Same m a s) (hm : m &&& 0x24ac6f01fffff = 0x24ac6f01fffff) :
    Same m a (State.packageUp s) := h.then hm (by
  have h := Same.refl 0x24ac6f01fffff s
  unfold State.packageUp
  extract_lets -merge -underBinder +onlyGivenNames x0 x1 x2 x3 x4 x5 x6
  have hx0 : Same 0x24ac6f01fffff s x0 := State.wr_same h rfl
  have hx1 : Same 0x24ac6f01fffff s x1 := State.wr_same (Same.put_mode hx0 rfl) rfl
  have hx3 : Same 0x24ac6f01fffff s x3 := State.setPwk_same hx1 rfl
  have hx5 : Same 0x24ac6f01fffff s x5 := (Same.put_sup hx3 rfl)
  have hx6 : Same 0x24ac6f01fffff s x6 := State.regionPower_same (State.regionPower_same hx5 rfl) rfl
  try clear_value x0 x1 x3 x5 x6
  exact Same.foldl hx6 (fun _ _ k7 => (by
    refine Same.ite ?_ ?_
    · extract_lets -merge -underBinder +onlyGivenNames x8
      have hx8 : Same 0x24ac6f01fffff s x8 := Same.ite k7 (State.noteQuayWake_same k7 rfl)
      try clear_value x8
      exact Same.ite (State.startWaking_same hx8 rfl) (Same.ite (State.setSeg_same hx8 rfl) hx8)
    · exact k7)))

theorem State.wakePackage_same {a s : State} {a1 : List Nat} (h : Same m a s) (hm : m &&& 0x24ac6f01fffff = 0x24ac6f01fffff) :
    Same m a (State.wakePackage s a1) := h.then hm (by
  have h := Same.refl 0x24ac6f01fffff s
  unfold State.wakePackage
  split
  · extract_lets -merge -underBinder +onlyGivenNames x0 x1
    have hx1 : Same 0x24ac6f01fffff s x1 := State.setPwk_same h rfl
    try clear_value x1
    exact Same.ite (State.packageUp_same hx1 rfl) hx1
  · exact State.entryStop_same h rfl
  · exact h)

theorem State.wakeSegment_same1 {a s : State} {a1 : Nat} {a2 : Bool} (h : Same m a s) (hm : m &&& 0x24ac6f01fffff = 0x24ac6f01fffff) :
    Same m a (State.wakeSegment s a1 a2).1 := h.then hm (by
  have h := Same.refl 0x24ac6f01fffff s
  unfold State.wakeSegment
  split
  · exact State.sleepAborted_same h rfl
  · exact State.entryStop_same (State.setSeg_same h rfl) rfl
  · extract_lets -merge -underBinder +onlyGivenNames x0
    exact Same.ite1 (State.wakePackage_same h rfl) (State.entryStop_same (State.startWaking_same (State.setSeg_same h rfl) rfl) rfl)
  · exact h)

theorem State.wakeOne_same {a s : State} {a1 : Nat} {a2 : WakeRec} {a3 : Nat} {a4 : Bool} (h : Same m a s) (hm : m &&& 0x24ac7f01fffff = 0x24ac7f01fffff) :
    Same m a (State.wakeOne s a1 a2 a3 a4) := h.then hm (by
  have h := Same.refl 0x24ac7f01fffff s
  unfold State.wakeOne
  extract_lets -merge -underBinder +onlyGivenNames x0 x1 x2 x3
  have hx1 : Same 0x24ac7f01fffff s x1.1 := State.wakeSegment_same1 h rfl
  have hx2 : Same 0x24ac7f01fffff s x2 := State.recordWake_same hx1 rfl
  have hx3 : Same 0x24ac7f01fffff s x3 := State.noteQuayWake_same hx2 rfl
  try clear_value x1 x2 x3
  exact Same.ite (State.setPwk_same hx3 rfl) (State.logWake_same hx3 rfl))

theorem State.wakeMany_same {a s : State} {a1 : List Nat} {a2 : WakeRec} {a3 : Option Nat} (h : Same m a s) (hm : m &&& 0x24ac7f01fffff = 0x24ac7f01fffff) :
    Same m a (State.wakeMany s a1 a2 a3) := h.then hm (by
  have h := Same.refl 0x24ac7f01fffff s
  unfold State.wakeMany
  extract_lets -merge -underBinder +onlyGivenNames x0
  have hx0 : Same 0x24ac7f01fffff s x0.1 := Same.foldl1 h (fun _ _ k1 => (by
    refine Same.ite1 ?_ ?_
    · exact k1
    · extract_lets -merge -underBinder +onlyGivenNames x2 x3
      have hx2 : Same 0x24ac7f01fffff s x2.1 := State.wakeSegment_same1 k1 rfl
      have hx3 : Same 0x24ac7f01fffff s x3 := State.noteQuayWake_same hx2 rfl
      try clear_value x2 x3
      exact Same.ite hx3 (State.logWake_same hx3 rfl)))
  try clear_value x0
  exact State.recordWake_same hx0 rfl)

theorem State.frontWake_same {a s : State} {a1 : Nat} {a2 : Nat} {a3 : Option Nat} (h : Same m a s) (hm : m &&& 0x24ec7f01fffff = 0x24ec7f01fffff) :
    Same m a (State.frontWake s a1 a2 a3) := h.then hm (by
  have h := Same.refl 0x24ec7f01fffff s
  unfold State.frontWake
  extract_lets -merge -underBinder +onlyGivenNames x0 x1 x2
  have hx1 : Same 0x24ec7f01fffff s x1 := State.wr_same (State.wr_same (State.wr_same h (home_bit 17 rfl rfl)) (home_bit 17 rfl rfl)) (home_bit 17 rfl rfl)
  have hx2 : Same 0x24ec7f01fffff s x2 := State.setFront_same (State.irq_same hx1 (headHome_pgLFE rfl) rfl rfl rfl) rfl
  try clear_value x1 x2
  exact State.wakeOne_same hx2 rfl)

theorem State.sleepRequest_same {a s : State} {a1 : Nat} (h : Same m a s) (hm : m &&& 0x4ac6e019400a = 0x4ac6e019400a) :
    Same m a (State.sleepRequest s a1) := h.then hm (by
  have h := Same.refl 0x4ac6e019400a s
  unfold State.sleepRequest
  refine Same.ite ?_ ?_
  · exact h
  · extract_lets -merge -underBinder +onlyGivenNames x0 x1 x2
    have hx1 : Same 0x4ac6e019400a s x1 := State.setSeg_same (State.setSegment_same h rfl) rfl
    have hx2 : Same 0x4ac6e019400a s x2 := Same.ite (State.canDrain_same hx1 rfl) (State.ethRemoveAll_same hx1 rfl)
    try clear_value x1 x2
    exact Same.ite (State.out_same hx2 rfl) hx2)

theorem State.segmentCommit_same {a s : State} {a1 : Nat} (h : Same m a s) (hm : m &&& 0x4ec6e01fffff = 0x4ec6e01fffff) :
    Same m a (State.segmentCommit s a1) := h.then hm (by
  have h := Same.refl 0x4ec6e01fffff s
  unfold State.segmentCommit
  extract_lets -merge -underBinder +onlyGivenNames x0 x1 x2 x3 x4 x5 x6
  have hx0 : Same 0x4ec6e01fffff s x0 := State.measAbort_same h rfl
  have hx1 : Same 0x4ec6e01fffff s x1 := State.setB_same hx0 (home_bit 17 rfl rfl)
  have hx3 : Same 0x4ec6e01fffff s x3 := State.setFront_same hx1 rfl
  have hx4 : Same 0x4ec6e01fffff s x4 := Same.ite (State.wr_same hx3 (home_bit 16 rfl rfl)) (State.discardLanding_same (State.wr_same (State.ethRemoveAll_same hx3 rfl) (home_bit 16 rfl rfl)) rfl)
  have hx6 : Same 0x4ec6e01fffff s x6 := State.setSeg_same (State.setSegment_same hx4 rfl) rfl
  try clear_value x0 x1 x3 x4 x6
  exact Same.ite (State.linkUpdate_same hx6 rfl) hx6)

theorem State.regionSleep_same {a s : State} {a1 : Nat} (h : Same m a s) (hm : m &&& 0x4ac6e01fffff = 0x4ac6e01fffff) :
    Same m a (State.regionSleep s a1) := h.then hm (by
  have h := Same.refl 0x4ac6e01fffff s
  unfold State.regionSleep
  refine Same.ite ?_ ?_
  · exact h
  · extract_lets -merge -underBinder +onlyGivenNames x0 x1
    have hx0 : Same 0x4ac6e01fffff s x0 := State.setRegion_same h rfl
    have hx1 : Same 0x4ac6e01fffff s x1 := Same.foldl hx0 (fun _ _ k2 => State.sleepRequest_same k2 rfl)
    try clear_value x0 x1
    exact Same.ite (State.serialSleep_same hx1 rfl) hx1)

theorem State.drainWake_same {a s : State} {a1 : Nat} {a2 : Option Nat} {a3 : Option Nat} (h : Same m a s) (hm : m &&& 0x24ec7f01fffff = 0x24ec7f01fffff) :
    Same m a (State.drainWake s a1 a2 a3) := h.then hm (by
  have h := Same.refl 0x24ec7f01fffff s
  unfold State.drainWake
  split
  · exact Same.ite (State.frontWake_same h rfl) h
  · exact h)

end Sys2Proof.Machine
end

