-- ==== Sys2Proof/Laws/KeepCan.lean ====
section
/-! SUPPORT. What the functions of Machine/Can.lean can change, one lemma for each, with the canonical forms kept. -/

namespace Sys2Proof.Machine

variable {m : Nat}

theorem execMbLockRead_same {a s : State} {a0 : Nat} {a1 : Nat} (h : Same m a s) (hm : m &&& 0x20000010000 = 0x20000010000) :
    SameR m a (execMbLockRead a0 a1 s) := SameR.then h hm (by
  have h := Same.refl 0x20000010000 s
  unfold execMbLockRead
  exact onLogicIf_same h (fun _ k0 => (by
    extract_lets -merge -underBinder +onlyGivenNames x1
    exact State.mbSeq_same (State.wr_same (State.setQuay_same k0 rfl) (home_bit 16 rfl rfl)) rfl)))

theorem execMbUnlockRead_same {a s : State} {a0 : Nat} {a1 : Nat} (h : Same m a s) (hm : m &&& 0x20000010000 = 0x20000010000) :
    SameR m a (execMbUnlockRead a0 a1 s) := SameR.then h hm (by
  have h := Same.refl 0x20000010000 s
  unfold execMbUnlockRead
  exact onLogicIf_same h (fun _ k0 => State.mbRelease_same k0 rfl))

theorem execMbLockTimeout_same {a s : State} {a0 : Nat} {a1 : Nat} (h : Same m a s) (hm : m &&& 0x2008011000a = 0x2008011000a) :
    SameR m a (execMbLockTimeout a0 a1 s) := SameR.then h hm (by
  have h := Same.refl 0x2008011000a s
  unfold execMbLockTimeout
  exact onLogicIf_same h (fun _ k0 => State.mbRelease_same (State.irq_same (State.bump_same k0 (home_bit 16 rfl rfl)) (headHome_pgQ rfl) rfl rfl rfl) rfl))

theorem State.canPush_same {a s : State} {a1 : Nat} {a2 : Nat} {a3 : Sys2Proof.CanFrame} {a4 : Bool} {a5 : Nat} (h : Same m a s) (hm : m &&& 0x4086e01fffff = 0x4086e01fffff) :
    Same m a (State.canPush s a1 a2 a3 a4 a5) := h.then hm (by
  have h := Same.refl 0x4086e01fffff s
  unfold State.canPush
  extract_lets -merge -underBinder +onlyGivenNames x0 x1 x2 x3
  have hx2 : Same 0x4086e01fffff s x2 := State.bump_same h (any_home rfl)
  have hx3 : Same 0x4086e01fffff s x3.1 := State.pushDescN_same1 hx2 rfl
  try clear_value x2 x3
  exact Same.ite hx3 (State.logRxDrop_same (State.rxOverflow_same hx3 rfl) rfl))

theorem State.canLand_same {a s : State} {a1 : Nat} {a2 : Sys2Proof.CanFrame} {a3 : Bool} {a4 : Nat} (h : Same m a s) (hm : m &&& 0x24ec7f01fffff = 0x24ec7f01fffff) :
    Same m a (State.canLand s a1 a2 a3 a4) := h.then hm (by
  have h := Same.refl 0x24ec7f01fffff s
  unfold State.canLand
  extract_lets -merge -underBinder +onlyGivenNames x0
  have hx0 : Same 0x24ec7f01fffff s x0.1 := State.takeLanded_same1 h rfl
  try clear_value x0
  split
  · exact hx0
  · extract_lets -merge -underBinder +onlyGivenNames x1 x2 x3
    have hx1 : Same 0x24ec7f01fffff s x1 := hx0
    have hx2 : Same 0x24ec7f01fffff s x2.1 := State.rxMeets_same1 hx1 rfl
    have hx3 : Same 0x24ec7f01fffff s x3 := hx2
    try clear_value x1 x2 x3
    split
    · exact State.logRxDrop_same (State.rxOverflow_same (State.err_same (State.dropFrame_same hx3 rfl) (headHome_pgQ rfl) rfl rfl rfl rfl) rfl) rfl
    · exact State.drainWake_same (State.segmentUsed_same (State.canPush_same hx3 rfl) rfl) rfl)

theorem State.recDown_same {a s : State} {a1 : Nat} (h : Same m a s) (hm : m &&& 0x4287e011440a = 0x4287e011440a) :
    Same m a (State.recDown s a1) := h.then hm (by
  have h := Same.refl 0x4287e011440a s
  unfold State.recDown
  extract_lets -merge -underBinder +onlyGivenNames x0
  exact Same.ite h (Same.ite (State.setErrCnt_same h rfl) (State.setErrCnt_same (State.useFresh_same h rfl) rfl)))

theorem execCanFrameReceived_same {a s : State} {a0 : Nat} {a1 : Sys2Proof.CanFrame} {a2 : Nat} (h : Same m a s) (hm : m &&& 0x24ec7f01fffff = 0x24ec7f01fffff) :
    SameR m a (execCanFrameReceived a0 a1 a2 s) := SameR.then h hm (by
  have h := Same.refl 0x24ec7f01fffff s
  unfold execCanFrameReceived
  extract_lets -merge -underBinder +onlyGivenNames x0
  exact onLogicIf_same h (fun _ k1 => (by
    refine Same.ite ?_ ?_
    · exact State.discardLanding_same (State.bump_same k1 rfl) rfl
    · extract_lets -merge -underBinder +onlyGivenNames x2
      have hx2 : Same 0x24ec7f01fffff s x2 := State.recDown_same (State.ackSeen_same (State.normalPolarity_same k1 rfl) rfl) rfl
      try clear_value x2
      split
      · exact State.canLand_same hx2 rfl
      · exact State.canLand_same hx2 rfl
      · exact State.discardLanding_same (State.bump_same hx2 (home_bit 16 rfl rfl)) rfl)))

theorem execCanBusError_same {a s : State} {a0 : Nat} {a1 : Nat} {a2 : Bool} {a3 : Nat} {a4 : Nat} {a5 : Nat} {a6 : Nat} (h : Same m a s) (hm : m &&& 0x4286e011440a = 0x4286e011440a) :
    SameR m a (execCanBusError a0 a1 a2 a3 a4 a5 a6 s) := SameR.then h hm (by
  have h := Same.refl 0x4286e011440a s
  unfold execCanBusError
  exact onLogicIf_same h (fun _ k0 => (by
    extract_lets -merge -underBinder +onlyGivenNames x1
    have hx1 : Same 0x4286e011440a s x1 := Same.ite k0 (State.discardLanding_same k0 rfl)
    try clear_value x1
    exact State.busError_same hx1 rfl)))

theorem execProtocolException_same {a s : State} {a0 : Nat} (h : Same m a s) (hm : m &&& 0x4086e011400a = 0x4086e011400a) :
    SameR m a (execProtocolException a0 s) := SameR.then h hm (by
  have h := Same.refl 0x4086e011400a s
  unfold execProtocolException
  exact onLogicIf_same h (fun _ k0 => State.irq_same (State.wr_same (State.discardLanding_same k0 rfl) (home_bit 16 rfl rfl)) (headHome_pgQ rfl) rfl rfl rfl))

theorem State.loopDelay_same {a s : State} {a1 : Nat} {a2 : Sys2Proof.CanFrame} {a3 : Option Nat} (h : Same m a s) (hm : m &&& 0x10000 = 0x10000) :
    Same m a (State.loopDelay s a1 a2 a3) := h.then hm (by
  have h := Same.refl 0x10000 s
  unfold State.loopDelay
  split
  · exact Same.ite (State.wr_same h (home_bit 16 rfl rfl)) h
  · exact h)

theorem execCanTxAttemptStart_same {a s : State} {a0 : Nat} {a1 : Nat} {a2 : Bool} {a3 : Option Nat} (h : Same m a s) (hm : m &&& 0x4686e011440a = 0x4686e011440a) :
    SameR m a (execCanTxAttemptStart a0 a1 a2 a3 s) := SameR.then h hm (by
  have h := Same.refl 0x4686e011440a s
  unfold execCanTxAttemptStart
  exact onLogicIf_same h (fun _ k0 => (by
    extract_lets -merge -underBinder +onlyGivenNames x1
    have hx1 : Same 0x4686e011440a s x1 := Same.foldl k0 (fun _ _ k2 => State.canFmtDrop_same k2 rfl)
    try clear_value x1
    refine Same.ite ?_ ?_
    · exact hx1
    · split
      · exact State.loneNode_same hx1 rfl
      · extract_lets -merge -underBinder +onlyGivenNames x3 x4
        have hx4 : Same 0x4686e011440a s x4 := State.setFront_same (State.canStart_same hx1 rfl) rfl
        try clear_value x4
        exact Same.ite (State.loopDelay_same hx4 rfl) (State.canFail_same (State.busError_same hx4 rfl) rfl))))

theorem State.tecDown_same {a s : State} {a1 : Nat} (h : Same m a s) (hm : m &&& 0x4286e011440a = 0x4286e011440a) :
    Same m a (State.tecDown s a1) := h.then hm (by
  have h := Same.refl 0x4286e011440a s
  unfold State.tecDown
  extract_lets -merge -underBinder +onlyGivenNames x0
  exact Same.ite h (State.setErrCnt_same h rfl))

theorem State.mbSent_same {a s : State} {a1 : Nat} {a2 : Nat} {a3 : TxSt} (h : Same m a s) (hm : m &&& 0xa00c011000a = 0xa00c011000a) :
    Same m a (State.mbSent s a1 a2 a3) := h.then hm (by
  have h := Same.refl 0xa00c011000a s
  unfold State.mbSent
  extract_lets -merge -underBinder +onlyGivenNames x0 x1 x2
  have hx2 : Same 0xa00c011000a s x2 := State.endMb_same h rfl
  try clear_value x2
  exact State.logMb_same (State.canSent_same hx2 rfl) rfl)

theorem execCanTxSuccess_same {a s : State} {a0 : Nat} (h : Same m a s) (hm : m &&& 0x4a86e011441a = 0x4a86e011441a) :
    SameR m a (execCanTxSuccess a0 s) := SameR.then h hm (by
  have h := Same.refl 0x4a86e011441a s
  unfold execCanTxSuccess
  exact onLogicIf_same h (fun _ k0 => (by
    split
    · exact k0
    · extract_lets -merge -underBinder +onlyGivenNames x1 x2
      have hx1 : Same 0x4a86e011441a s x1 := State.tecDown_same (State.out_same (State.txClear_same k0 rfl) rfl) rfl
      have hx2 : Same 0x4a86e011441a s x2 := by
        unfold x2
        split
        · exact State.canStamp_same (State.mbSent_same hx1 rfl) rfl
        · extract_lets -merge -underBinder +onlyGivenNames x3 x4
          have hx4 : Same 0x4a86e011441a s x4 := State.logTx_same (State.canStamp_same (State.canSent_same hx1 rfl) rfl) rfl
          try clear_value x4
          exact State.release_same (State.release_same hx4 rfl) rfl
        · exact hx1
      try clear_value x1 x2
      exact State.ackSeen_same hx2 rfl)))

theorem execCanTxAttemptFail_same {a s : State} {a0 : Nat} {a1 : Bool} (h : Same m a s) (hm : m &&& 0x4286e011440a = 0x4286e011440a) :
    SameR m a (execCanTxAttemptFail a0 a1 s) := SameR.then h hm (by
  have h := Same.refl 0x4286e011440a s
  unfold execCanTxAttemptFail
  exact onLogicIf_same h (fun _ k0 => State.canFail_same k0 rfl))

theorem execTxLifeExpired_same {a s : State} {a0 : Nat} {a1 : Nat} (h : Same m a s) (hm : m &&& 0x4286e011400a = 0x4286e011400a) :
    SameR m a (execTxLifeExpired a0 a1 s) := SameR.then h hm (by
  have h := Same.refl 0x4286e011400a s
  unfold execTxLifeExpired
  exact onLogicIf_same h (fun _ k0 => (by
    extract_lets -merge -underBinder +onlyGivenNames x1
    try clear_value x1
    split
    · exact State.setQuay_same k0 rfl
    · split
      · exact Same.ite (State.loneNode_same (State.canDropItem_same (State.irq_same (State.bump_same (State.putEgress_same k0 rfl) (home_bit 16 rfl rfl)) (headHome_pgQ rfl) rfl rfl rfl) rfl) rfl) k0
      · exact k0)))

theorem execBusOffRecovered_same {a s : State} {a0 : Nat} (h : Same m a s) (hm : m &&& 0x8011000a = 0x8011000a) :
    SameR m a (execBusOffRecovered a0 s) := SameR.then h hm (by
  have h := Same.refl 0x8011000a s
  unfold execBusOffRecovered
  exact onLogicIf_same h (fun _ k0 => State.irq_same (State.canConds_same (State.wr_same (State.wr_same (State.wr_same k0 (home_bit 16 rfl rfl)) (home_bit 16 rfl rfl)) (home_bit 16 rfl rfl)) rfl) (headHome_pgQ rfl) rfl rfl rfl))

theorem execCanModeApplied_same {a s : State} {a0 : Nat} (h : Same m a s) (hm : m &&& 0x2008011000a = 0x2008011000a) :
    SameR m a (execCanModeApplied a0 s) := SameR.then h hm (by
  have h := Same.refl 0x2008011000a s
  unfold execCanModeApplied
  exact onLogicIf_same h (fun _ k0 => State.irq_same (State.wr_same (State.setQuay_same k0 rfl) (home_bit 16 rfl rfl)) (headHome_pgQ rfl) rfl rfl rfl))

theorem State.canReject_same {a s : State} {a1 : Nat} (h : Same m a s) (hm : m &&& 0x10000 = 0x10000) :
    Same m a (State.canReject s a1) := h.then hm (by
  have h := Same.refl 0x10000 s
  unfold State.canReject
  exact State.wr_same h (home_bit 16 rfl rfl))

theorem execRecover_same {a s : State} {a0 : Nat} (h : Same m a s) (hm : m &&& 0x8011000a = 0x8011000a) :
    SameR m a (execRecover a0 s) := SameR.then h hm (by
  have h := Same.refl 0x8011000a s
  unfold execRecover
  exact onLogicIf_same h (fun _ k0 => Same.ite (State.canConds_same (State.wr_same k0 (home_bit 16 rfl rfl)) rfl) (State.canReject_same k0 rfl)))

theorem execQycSleep_same {a s : State} {a0 : Nat} (h : Same m a s) (hm : m &&& 0x4ac6e019400a = 0x4ac6e019400a) :
    SameR m a (execQycSleep a0 s) := SameR.then h hm (by
  have h := Same.refl 0x4ac6e019400a s
  unfold execQycSleep
  exact onLogicIf_same h (fun _ k0 => Same.ite (State.sleepRequest_same k0 rfl) (State.canReject_same k0 rfl)))

theorem execQycWake_same {a s : State} {a0 : Nat} {a1 : Sys2Proof.Master} (h : Same m a s) (hm : m &&& 0x24ac7f01fffff = 0x24ac7f01fffff) :
    SameR m a (execQycWake a0 a1 s) := SameR.then h hm (by
  have h := Same.refl 0x24ac7f01fffff s
  unfold execQycWake
  exact onLogicIf_same h (fun _ k0 => (by
    extract_lets -merge -underBinder +onlyGivenNames x1
    exact Same.ite (State.wakeOne_same k0 rfl) (State.canReject_same k0 rfl))))

theorem execClrLec_same {a s : State} {a0 : Nat} (h : Same m a s) (hm : m &&& 0x10000 = 0x10000) :
    SameR m a (execClrLec a0 s) := SameR.then h hm (by
  have h := Same.refl 0x10000 s
  unfold execClrLec
  exact onLogicIf_same h (fun _ k0 => State.wr_same k0 (home_bit 16 rfl rfl)))

theorem execQycFlush_same {a s : State} {a0 : Nat} {a1 : Nat} (h : Same m a s) (hm : m &&& 0x4286e011400a = 0x4286e011400a) :
    SameR m a (execQycFlush a0 a1 s) := SameR.then h hm (by
  have h := Same.refl 0x4286e011400a s
  unfold execQycFlush
  exact onLogicIf_same h (fun _ k0 => (by
    extract_lets -merge -underBinder +onlyGivenNames x1 x3
    have hx1 : Same 0x4286e011400a s x1 := Same.foldl (State.putEgress_same k0 rfl) (fun _ _ k2 => State.canDropItem_same (State.bump_same k2 (home_bit 16 rfl rfl)) rfl)
    have hx3 : Same 0x4286e011400a s x3 := by
      unfold x3
      split
      · exact Same.ite (State.setQuay_same hx1 rfl) hx1
      · exact hx1
    try clear_value x1 x3
    exact State.loneNode_same hx3 rfl)))

theorem State.mbRequest_same {a s : State} {a1 : Nat} {a2 : Nat} (h : Same m a s) (hm : m &&& 0x200c011000a = 0x200c011000a) :
    Same m a (State.mbRequest s a1 a2) := h.then hm (by
  have h := Same.refl 0x200c011000a s
  unfold State.mbRequest
  extract_lets -merge -underBinder +onlyGivenNames x0
  exact Same.ite h (Same.ite (State.setMb_same h rfl) (State.logMb_same (State.endMb_same h rfl) rfl)))

theorem execMbReq_same {a s : State} {a0 : Nat} {a1 : Sys2Proof.Word} (h : Same m a s) (hm : m &&& 0x200c011000a = 0x200c011000a) :
    SameR m a (execMbReq a0 a1 s) := SameR.then h hm (by
  have h := Same.refl 0x200c011000a s
  unfold execMbReq
  exact onLogicIf_same h (fun _ k0 => Same.foldl k0 (fun _ _ k1 => Same.ite (State.mbRequest_same k1 rfl) k1)))

theorem State.mbCancelReq_same {a s : State} {a1 : Nat} {a2 : Nat} (h : Same m a s) (hm : m &&& 0x200c011000a = 0x200c011000a) :
    Same m a (State.mbCancelReq s a1 a2) := h.then hm (by
  have h := Same.refl 0x200c011000a s
  unfold State.mbCancelReq
  extract_lets -merge -underBinder +onlyGivenNames x0
  exact Same.ite (State.mbCancel_same h rfl) (Same.ite (State.setMb_same h rfl) h))

theorem execMbCancel_same {a s : State} {a0 : Nat} {a1 : Sys2Proof.Word} (h : Same m a s) (hm : m &&& 0x200c011000a = 0x200c011000a) :
    SameR m a (execMbCancel a0 a1 s) := SameR.then h hm (by
  have h := Same.refl 0x200c011000a s
  unfold execMbCancel
  exact onLogicIf_same h (fun _ k0 => State.loneNode_same (Same.foldl k0 (fun _ _ k1 => Same.ite (State.mbCancelReq_same k1 rfl) k1)) rfl))

end Sys2Proof.Machine
end

