-- ==== Sys2Proof/Laws/KeepKwlOps.lean ====
section
/-! SUPPORT. What the functions of Machine/KwlOps.lean can change, one lemma for each, with the canonical forms kept. -/

namespace Sys2Proof.Machine

variable {m : Nat}

theorem State.setKwl_same {a s : State} {a1 : KwlSt} (h : Same m a s) (hm : m &&& 0x800000000000 = 0x800000000000) :
    Same m a (State.setKwl s a1) := h.then hm (by
  have h := Same.refl 0x800000000000 s
  unfold State.setKwl
  exact (Same.put_kwl h rfl))

theorem State.kwlView_same {a s : State} (h : Same m a s) (hm : m &&& 0x8000008a = 0x8000008a) :
    Same m a (State.kwlView s) := h.then hm (by
  have h := Same.refl 0x8000008a s
  unfold State.kwlView
  extract_lets -merge -underBinder +onlyGivenNames x0 x1 x2
  have hx1 : Same 0x8000008a s x1 := State.wr_same h rfl
  have hx2 : Same 0x8000008a s x2 := State.cond_same hx1 rfl rfl rfl rfl
  try clear_value x1 x2
  exact State.cond_same (State.cond_same hx2 rfl rfl rfl rfl) rfl rfl rfl rfl)

theorem State.putSlot_same {a s : State} {a1 : Nat} {a2 : KwlSlot} (h : Same m a s) (hm : m &&& 0x80008000008a = 0x80008000008a) :
    Same m a (State.putSlot s a1 a2) := h.then hm (by
  have h := Same.refl 0x80008000008a s
  unfold State.putSlot
  exact State.kwlView_same (State.setKwl_same h rfl) rfl)

theorem State.viewKwl_same {a s : State} (h : Same m a s) (hm : m &&& 0x80 = 0x80) :
    Same m a (State.viewKwl s) := h.then hm (by
  have h := Same.refl 0x80 s
  unfold State.viewKwl
  extract_lets -merge -underBinder +onlyGivenNames x0
  exact Same.foldl h (fun _ _ k1 => State.wr_same k1 (home_bit 7 rfl rfl)))

theorem State.loadKey_same1 {a s : State} {a1 : Nat} {a2 : Nat} (h : Same m a s) (hm : m &&& 0x8000a000008a = 0x8000a000008a) :
    Same m a (State.loadKey s a1 a2).1 := h.then hm (by
  have h := Same.refl 0x8000a000008a s
  unfold State.loadKey
  extract_lets -merge -underBinder +onlyGivenNames x0
  refine Same.ite1 ?_ ?_
  · extract_lets -merge -underBinder +onlyGivenNames x1 x2 x3 x4 x5
    have hx2 : Same 0x8000a000008a s x2 := State.setKwl_same h rfl
    have hx3 : Same 0x8000a000008a s x3 := State.err_same hx2 rfl rfl rfl rfl rfl
    try clear_value x2 x3
    exact Same.ite hx3 (State.putSlot_same hx3 rfl)
  · exact Same.ite1 (State.bump_same h rfl) h)

theorem State.kwlKeyZero_same {a s : State} (h : Same m a s) (hm : m &&& 0x80 = 0x80) :
    Same m a (State.kwlKeyZero s) := h.then hm (by
  have h := Same.refl 0x80 s
  unfold State.kwlKeyZero
  exact Same.foldl h (fun _ _ k0 => State.wr_same k0 (home_bit 7 rfl rfl)))

theorem State.kwlReject_same {a s : State} (h : Same m a s) (hm : m &&& 0x80 = 0x80) :
    Same m a (State.kwlReject s) := h.then hm (by
  have h := Same.refl 0x80 s
  unfold State.kwlReject
  exact State.wr_same (State.kwlKeyZero_same h rfl) rfl)

theorem State.kwlEnd_same {a s : State} {a1 : Nat} (h : Same m a s) (hm : m &&& 0x80008000008a = 0x80008000008a) :
    Same m a (State.kwlEnd s a1) := h.then hm (by
  have h := Same.refl 0x80008000008a s
  unfold State.kwlEnd
  extract_lets -merge -underBinder +onlyGivenNames x0
  have hx0 : Same 0x80008000008a s x0 := State.kwlKeyZero_same h rfl
  try clear_value x0
  exact State.setKwl_same (State.irq_same (State.wr_same (State.wr_same hx0 rfl) rfl) rfl rfl rfl rfl) rfl)

theorem State.kwlCreate_same {a s : State} {a1 : KwlCmd} (h : Same m a s) (hm : m &&& 0x8001a01fffff = 0x8001a01fffff) :
    Same m a (State.kwlCreate s a1) := h.then hm (by
  have h := Same.refl 0x8001a01fffff s
  unfold State.kwlCreate
  extract_lets -merge -underBinder +onlyGivenNames x0 x1 x2
  have hx2 : Same 0x8001a01fffff s x2 := Same.ite (State.errU_same (State.setKwl_same h rfl) rfl rfl rfl rfl rfl rfl) h
  try clear_value x2
  refine Same.ite ?_ ?_
  · exact State.kwlEnd_same hx2 rfl
  · extract_lets -merge -underBinder +onlyGivenNames x3 x4 x5 x6 x7
    have hx7 : Same 0x8001a01fffff s x7 := State.putSlot_same hx2 rfl
    try clear_value x7
    exact State.kwlEnd_same (State.bump_same hx7 (any_home rfl)) rfl)

theorem State.destroySlot_same {a s : State} {a1 : Nat} (h : Same m a s) (hm : m &&& 0x80008000008a = 0x80008000008a) :
    Same m a (State.destroySlot s a1) := h.then hm (by
  have h := Same.refl 0x80008000008a s
  unfold State.destroySlot
  extract_lets -merge -underBinder +onlyGivenNames x0
  exact Same.ite h (State.putSlot_same h rfl))

theorem State.kwlErase_same {a s : State} (h : Same m a s) (hm : m &&& 0x80008000008a = 0x80008000008a) :
    Same m a (State.kwlErase s) := h.then hm (by
  have h := Same.refl 0x80008000008a s
  unfold State.kwlErase
  extract_lets -merge -underBinder +onlyGivenNames x0 x1 x2 x3
  have hx2 : Same 0x80008000008a s x2 := State.setKwl_same h rfl
  have hx3 : Same 0x80008000008a s x3 := by
    unfold x3
    split
    · exact Same.ite (State.kwlEnd_same hx2 rfl) hx2
    · exact hx2
  try clear_value x2 x3
  exact State.kwlView_same (State.irq_same (State.bump_same hx3 rfl) rfl rfl rfl rfl) rfl)

theorem State.restoreCustody_same {a s : State} (h : Same m a s) (hm : m &&& 0x80008000008a = 0x80008000008a) :
    Same m a (State.restoreCustody s) := h.then hm (by
  have h := Same.refl 0x80008000008a s
  unfold State.restoreCustody
  extract_lets -merge -underBinder +onlyGivenNames x0
  exact State.kwlView_same (State.setKwl_same h rfl) rfl)

theorem State.kwlScan_same {a s : State} (h : Same m a s) (hm : m &&& 0x80008000008a = 0x80008000008a) :
    Same m a (State.kwlScan s) := h.then hm (by
  have h := Same.refl 0x80008000008a s
  unfold State.kwlScan
  extract_lets -merge -underBinder +onlyGivenNames x0 x1 x2
  have hx2 : Same 0x80008000008a s x2 := State.kwlKeyZero_same h rfl
  try clear_value x2
  exact State.kwlView_same (State.setKwl_same hx2 rfl) rfl)

theorem State.retPush_same {a s : State} {a1 : RetWrite} (h : Same m a s) (hm : m &&& 0x4000000000000 = 0x4000000000000) :
    Same m a (State.retPush s a1) := h.then hm (by
  have h := Same.refl 0x4000000000000 s
  unfold State.retPush
  exact (Same.put_ret h rfl (fun w => w)))

theorem State.pushRoot_same {a s : State} (h : Same m a s) (hm : m &&& 0x4000000000000 = 0x4000000000000) :
    Same m a (State.pushRoot s) := h.then hm (by
  have h := Same.refl 0x4000000000000 s
  unfold State.pushRoot
  exact State.retPush_same h rfl)

theorem State.startJournal_same {a s : State} {a1 : KwlCommit} (h : Same m a s) (hm : m &&& 0x4800000000000 = 0x4800000000000) :
    Same m a (State.startJournal s a1) := h.then hm (by
  have h := Same.refl 0x4800000000000 s
  unfold State.startJournal
  extract_lets -merge -underBinder +onlyGivenNames x0 x1 x2 x3
  exact State.retPush_same (State.setKwl_same h rfl) rfl)

theorem State.kwlRecords_same {a s : State} {a1 : KwlCommit} (h : Same m a s) (hm : m &&& 0x480008000008a = 0x480008000008a) :
    Same m a (State.kwlRecords s a1) := h.then hm (by
  have h := Same.refl 0x480008000008a s
  unfold State.kwlRecords
  exact Same.ite (State.irq_same (State.wr_same (State.wr_same (State.setKwl_same h rfl) rfl) rfl) rfl rfl rfl rfl) (State.startJournal_same h rfl))

theorem State.kwlCommit_same {a s : State} (h : Same m a s) (hm : m &&& 0x480008000008a = 0x480008000008a) :
    Same m a (State.kwlCommit s) := h.then hm (by
  have h := Same.refl 0x480008000008a s
  unfold State.kwlCommit
  extract_lets -merge -underBinder +onlyGivenNames x0 x1 x2 x3 x4
  have hx3 : Same 0x480008000008a s x3 := State.setKwl_same h rfl
  have hx4 : Same 0x480008000008a s x4 := State.kwlView_same (State.wr_same hx3 rfl) rfl
  try clear_value x3 x4
  exact Same.ite (State.pushRoot_same hx4 rfl) (Same.ite hx4 (State.kwlRecords_same hx4 rfl)))

theorem State.kwlAutoCommit_same {a s : State} (h : Same m a s) (hm : m &&& 0x480008000008a = 0x480008000008a) :
    Same m a (State.kwlAutoCommit s) := h.then hm (by
  have h := Same.refl 0x480008000008a s
  unfold State.kwlAutoCommit
  exact Same.ite (State.setKwl_same h rfl) (State.kwlCommit_same h rfl))

theorem State.kwlCommitEnd_same {a s : State} {a1 : Nat} (h : Same m a s) (hm : m &&& 0x480008000008a = 0x480008000008a) :
    Same m a (State.kwlCommitEnd s a1) := h.then hm (by
  have h := Same.refl 0x480008000008a s
  unfold State.kwlCommitEnd
  split
  · exact h
  · extract_lets -merge -underBinder +onlyGivenNames x0 x1 x2 x3 x4
    have hx2 : Same 0x480008000008a s x2 := State.setKwl_same h rfl
    have hx3 : Same 0x480008000008a s x3 := State.irq_same (State.wr_same (State.wr_same hx2 rfl) rfl) rfl rfl rfl rfl
    have hx4 : Same 0x480008000008a s x4 := State.kwlView_same (Same.ite (State.bump_same hx3 rfl) hx3) rfl
    try clear_value x2 x3 x4
    exact Same.ite (State.kwlCommit_same hx4 rfl) hx4)

theorem State.kwlNext_same {a s : State} {a1 : KwlCommit} (h : Same m a s) (hm : m &&& 0x480008000008a = 0x480008000008a) :
    Same m a (State.kwlNext s a1) := h.then hm (by
  have h := Same.refl 0x480008000008a s
  unfold State.kwlNext
  split
  · exact State.retPush_same (State.setKwl_same h rfl) rfl
  · exact Same.ite (State.kwlCommitEnd_same (State.setKwl_same h rfl) rfl) (State.startJournal_same h rfl))

theorem State.rootWritten_same {a s : State} (h : Same m a s) (hm : m &&& 0x480018000008a = 0x480018000008a) :
    Same m a (State.rootWritten s) := h.then hm (by
  have h := Same.refl 0x480018000008a s
  unfold State.rootWritten
  extract_lets -merge -underBinder +onlyGivenNames x0 x1 x2 x3 x4 x5 x6 x7 x8
  have hx2 : Same 0x480018000008a s x2.1 := State.random_same1 h rfl
  have hx3 : Same 0x480018000008a s x3 := hx2
  have hx7 : Same 0x480018000008a s x7 := State.setKwl_same hx3 rfl
  have hx8 : Same 0x480018000008a s x8 := by
    unfold x8
    split
    · extract_lets -merge -underBinder +onlyGivenNames x9 x10
      have hx10 : Same 0x480018000008a s x10 := State.wr_same (State.setKwl_same hx7 rfl) rfl
      try clear_value x10
      exact State.putSlot_same hx10 rfl
    · exact hx7
  try clear_value x2 x3 x7 x8
  split
  · exact Same.ite (State.kwlNext_same hx8 rfl) hx8
  · exact hx8)

theorem State.journalWritten_same {a s : State} (h : Same m a s) (hm : m &&& 0x480008000008a = 0x480008000008a) :
    Same m a (State.journalWritten s) := h.then hm (by
  have h := Same.refl 0x480008000008a s
  unfold State.journalWritten
  split
  · exact h
  · extract_lets -merge -underBinder +onlyGivenNames x0 x1 x2 x3 x4
    have hx3 : Same 0x480008000008a s x3 := State.setKwl_same h rfl
    have hx4 : Same 0x480008000008a s x4 := State.bump_same (State.wr_same hx3 rfl) rfl
    try clear_value x3 x4
    exact State.kwlNext_same hx4 rfl)

theorem State.pieceWritten_same {a s : State} (h : Same m a s) (hm : m &&& 0x480008000008a = 0x480008000008a) :
    Same m a (State.pieceWritten s) := h.then hm (by
  have h := Same.refl 0x480008000008a s
  unfold State.pieceWritten
  split
  · exact h
  · extract_lets -merge -underBinder +onlyGivenNames x0 x1 x2 x3
    have hx3 : Same 0x480008000008a s x3 := State.setKwl_same h rfl
    try clear_value x3
    exact State.kwlNext_same hx3 rfl)

end Sys2Proof.Machine
end

