-- ==== Sys2Proof/Laws/KeepCphOps.lean ====
section
/-! SUPPORT. What the functions of Machine/CphOps.lean can change, one lemma for each, with the canonical forms kept. -/

namespace Sys2Proof.Machine

variable {m : Nat}

theorem State.viewCph_same {a s : State} (h : Same m a s) (hm : m &&& 0x8000004a = 0x8000004a) :
    Same m a (State.viewCph s) := h.then hm (by
  have h := Same.refl 0x8000004a s
  unfold State.viewCph
  extract_lets -merge -underBinder +onlyGivenNames x0 x1 x2 x3
  have hx3 : Same 0x8000004a s x3 := State.wr_same (State.wr_same (State.wr_same h rfl) rfl) rfl
  try clear_value x3
  exact State.cond_same hx3 rfl rfl rfl rfl)

theorem State.setLane_same {a s : State} {a1 : Nat} {a2 : Lane} (h : Same m a s) (hm : m &&& 0x40008000004a = 0x40008000004a) :
    Same m a (State.setLane s a1 a2) := h.then hm (by
  have h := Same.refl 0x40008000004a s
  unfold State.setLane
  extract_lets -merge -underBinder +onlyGivenNames x0 x1 x2
  have hx1 : Same 0x40008000004a s x1 := State.setCph_same h rfl
  have hx2 : Same 0x40008000004a s x2 := State.setB_same (State.setB_same hx1 (home_bit 6 rfl rfl)) (home_bit 6 rfl rfl)
  try clear_value x1 x2
  exact State.cond_same (State.wr_same hx2 (home_bit 6 rfl rfl)) (headHome_pgLane rfl) rfl rfl rfl)

theorem State.issueDone_same {a s : State} {a1 : DoneJob} (h : Same m a s) (hm : m &&& 0x4086e000400a = 0x4086e000400a) :
    Same m a (State.issueDone s a1) := h.then hm (by
  have h := Same.refl 0x4086e000400a s
  unfold State.issueDone
  extract_lets -merge -underBinder +onlyGivenNames x0
  have hx0 : Same 0x4086e000400a s x0.1 := State.landFrame_same1 h rfl
  try clear_value x0
  split
  · exact hx0
  · exact State.pushDesc_same1 hx0 rfl)

theorem State.issueReady_same {a s : State} {n : Nat} (h : Same m a s) (hm : m &&& 0x4086e000400a = 0x4086e000400a) :
    Same m a (State.issueReady n s) := by
  induction n generalizing s with
  | zero => exact h
  | succ n ih =>
    unfold State.issueReady
    extract_lets first
    split
    · exact h
    · exact ih (State.issueDone_same (State.setCph_same h (sub_of hm rfl)) (sub_of hm rfl))

theorem State.cphProceed_same {a s : State} (h : Same m a s) (hm : m &&& 0x4086e000404a = 0x4086e000404a) :
    Same m a (State.cphProceed s) := h.then hm (by
  have h := Same.refl 0x4086e000404a s
  unfold State.cphProceed
  exact State.viewCph_same (State.issueReady_same h rfl) rfl)

theorem State.jobGone_same {a s : State} {a1 : CphJob} (h : Same m a s) (hm : m &&& 0x4086e000400a = 0x4086e000400a) :
    Same m a (State.jobGone s a1) := h.then hm (by
  have h := Same.refl 0x4086e000400a s
  unfold State.jobGone
  exact State.release_same h rfl)

theorem State.zeroFrame_same {a s : State} {a1 : Nat} (h : Same m a s) (hm : m &&& 0x200004000 = 0x200004000) :
    Same m a (State.zeroFrame s a1) := h.then hm (by
  have h := Same.refl 0x200004000 s
  unfold State.zeroFrame
  split
  · exact h
  · extract_lets -merge -underBinder +onlyGivenNames x0 x1 x3 x4
    have hx1 : Same 0x200004000 s x1 := Same.foldl h (fun _ _ k2 => State.putCells_same k2 rfl)
    have hx4 : Same 0x200004000 s x4 := State.setCst_same hx1 rfl (fun w => w)
    try clear_value x1 x4
    exact State.bump_same (State.putFrame_same hx4 rfl) rfl)

theorem State.logCutFail_same {a s : State} {a1 : FrameObj} {a2 : Sys2Proof.Rec} (h : Same m a s) (hm : m &&& 0x40000000 = 0x40000000) :
    Same m a (State.logCutFail s a1 a2) := h.then hm (by
  have h := Same.refl 0x40000000 s
  unfold State.logCutFail
  exact Same.foldl h (fun _ _ k0 => Same.ite (State.log_same k0 rfl) k0))

theorem State.cutFail_same {a s : State} {a1 : CphJob} {a2 : Nat} {a3 : Bool} (h : Same m a s) (hm : m &&& 0x4086e000604a = 0x4086e000604a) :
    Same m a (State.cutFail s a1 a2 a3) := h.then hm (by
  have h := Same.refl 0x4086e000604a s
  unfold State.cutFail
  extract_lets -merge -underBinder +onlyGivenNames x0
  have hx0 : Same 0x4086e000604a s x0 := by
    unfold x0
    split
    · exact h
    · extract_lets -merge -underBinder +onlyGivenNames x1 x2 x3
      have hx3 : Same 0x4086e000604a s x3 := State.logCutFail_same h rfl
      try clear_value x3
      exact State.frameBad_same (State.zeroFrame_same hx3 rfl) rfl
  try clear_value x0
  refine Same.ite ?_ ?_
  · extract_lets -merge -underBinder +onlyGivenNames x4 x5
    have hx4 : Same 0x4086e000604a s x4 := State.irq_same (State.bump_same hx0 rfl) rfl rfl rfl rfl
    have hx5 : Same 0x4086e000604a s x5 := State.bump_same hx4 rfl
    try clear_value x4 x5
    exact Same.ite (State.berthStat_same hx5 rfl) hx5
  · exact hx0)

theorem State.jobLate_same {a s : State} {a1 : CphJob} {a2 : Option Nat} (h : Same m a s) (hm : m &&& 0x4086e000604a = 0x4086e000604a) :
    Same m a (State.jobLate s a1 a2) := h.then hm (by
  have h := Same.refl 0x4086e000604a s
  unfold State.jobLate
  extract_lets -merge -underBinder +onlyGivenNames x0 x1
  have hx0 : Same 0x4086e000604a s x0 := State.irq_same (State.bump_same h rfl) rfl rfl rfl rfl
  have hx1 : Same 0x4086e000604a s x1 := by
    unfold x1
    split
    · exact State.cutFail_same hx0 rfl
    · exact hx0
  try clear_value x0 x1
  exact State.cphProceed_same (State.jobGone_same hx1 rfl) rfl)

theorem State.pushRes_same {a s : State} {a1 : Nat} {a2 : HostRes} (h : Same m a s) (hm : m &&& 0x40008000004a = 0x40008000004a) :
    Same m a (State.pushRes s a1 a2) := h.then hm (by
  have h := Same.refl 0x40008000004a s
  unfold State.pushRes
  extract_lets -merge -underBinder +onlyGivenNames x0
  exact State.setLane_same h rfl)

theorem State.zeroDst_same {a s : State} {a1 : HostJob} (h : Same m a s) (hm : m &&& 0x80000000 = 0x80000000) :
    Same m a (State.zeroDst s a1) := h.then hm (by
  have h := Same.refl 0x80000000 s
  unfold State.zeroDst
  exact Same.ite (State.out_same h rfl) h)

theorem State.hostEnd_same {a s : State} {a1 : Nat} {a2 : HostJob} {a3 : Nat} (h : Same m a s) (hm : m &&& 0x40008000004a = 0x40008000004a) :
    Same m a (State.hostEnd s a1 a2 a3) := h.then hm (by
  have h := Same.refl 0x40008000004a s
  unfold State.hostEnd
  extract_lets -merge -underBinder +onlyGivenNames x0 x1 x2
  have hx1 : Same 0x40008000004a s x1 := State.setLane_same h rfl
  have hx2 : Same 0x40008000004a s x2 := State.pushRes_same (State.bump_same (State.zeroDst_same hx1 rfl) (home_bit 6 rfl rfl)) rfl
  try clear_value x1 x2
  exact hx2)

theorem State.hostErr_same {a s : State} {a1 : Nat} {a2 : HostJob} (h : Same m a s) (hm : m &&& 0x40008000004a = 0x40008000004a) :
    Same m a (State.hostErr s a1 a2) := h.then hm (by
  have h := Same.refl 0x40008000004a s
  unfold State.hostErr
  exact State.hostEnd_same (State.irq_same (State.bump_same h (home_bit 6 rfl rfl)) (headHome_pgLane rfl) rfl rfl rfl) rfl)

theorem State.laneErase_same {a s : State} {a1 : Nat} (h : Same m a s) (hm : m &&& 0x40008000004a = 0x40008000004a) :
    Same m a (State.laneErase s a1) := h.then hm (by
  have h := Same.refl 0x40008000004a s
  unfold State.laneErase
  extract_lets -merge -underBinder +onlyGivenNames x0 x1 x2 x3
  have hx2 : Same 0x40008000004a s x2 := State.setLane_same h rfl
  have hx3 : Same 0x40008000004a s x3 := by
    unfold x3
    split
    · exact State.hostEnd_same hx2 rfl
    · exact hx2
  try clear_value x2 x3
  exact Same.foldl hx3 (fun _ _ k4 => State.pushRes_same k4 rfl))

theorem State.cphErase_same {a s : State} (h : Same m a s) (hm : m &&& 0x40008000004a = 0x40008000004a) :
    Same m a (State.cphErase s) := h.then hm (by
  have h := Same.refl 0x40008000004a s
  unfold State.cphErase
  extract_lets -merge -underBinder +onlyGivenNames x0
  have hx0 : Same 0x40008000004a s x0 := Same.foldl h (fun _ _ k1 => State.laneErase_same k1 rfl)
  try clear_value x0
  exact State.irq_same (State.bump_same hx0 rfl) rfl rfl rfl rfl)

end Sys2Proof.Machine
end

