-- ==== Sys2Proof/Laws/KeepCph.lean ====
section
/-! SUPPORT. What the functions of Machine/Cph.lean can change, one lemma for each, with the canonical forms kept. -/

namespace Sys2Proof.Machine

variable {m : Nat}

theorem execIq3JobEnqueue_same {a s : State} (h : Same m a s) (hm : m &&& 0x4087e000404a = 0x4087e000404a) :
    SameR m a (execIq3JobEnqueue s) := SameR.then h hm (by
  have h := Same.refl 0x4087e000404a s
  unfold execIq3JobEnqueue
  exact onLogic_same h (fun _ k0 => (by
    split
    · exact k0
    · extract_lets -merge -underBinder +onlyGivenNames x1
      have hx1 : Same 0x4087e000404a s x1 := State.putInner_same k0 rfl
      try clear_value x1
      refine Same.ite ?_ ?_
      · extract_lets -merge -underBinder +onlyGivenNames x2 x3
        have hx3 : Same 0x4087e000404a s x3 := State.setCph_same hx1 rfl
        try clear_value x3
        exact State.release_same (State.irq_same (State.bump_same (State.errU_same hx3 rfl rfl rfl rfl rfl rfl) rfl) rfl rfl rfl rfl) rfl
      · extract_lets -merge -underBinder +onlyGivenNames x4 x5 x6 x7
        have hx7 : Same 0x4087e000404a s x7 := State.viewCph_same (State.setCph_same hx1 rfl) rfl
        try clear_value x7
        exact Same.ite hx7 (State.release_same (State.bump_same hx7 rfl) rfl))))

theorem State.keyAbsent_same {a s : State} {a1 : Nat} (h : Same m a s) (hm : m &&& 0x8000004a = 0x8000004a) :
    Same m a (State.keyAbsent s a1) := h.then hm (by
  have h := Same.refl 0x8000004a s
  unfold State.keyAbsent
  exact State.bump_same (State.irq_same (State.bump_same h rfl) rfl rfl rfl rfl) (home_bit 6 rfl rfl))

theorem State.trafficKey_same1 {a s : State} {a1 : Nat} {a2 : CphJob} (h : Same m a s) (hm : m &&& 0x8000a000008a = 0x8000a000008a) :
    Same m a (State.trafficKey s a1 a2).1 := h.then hm (by
  have h := Same.refl 0x8000a000008a s
  unfold State.trafficKey
  extract_lets -merge -underBinder +onlyGivenNames x0 x1 x2
  refine Same.ite1 ?_ ?_
  · exact h
  · extract_lets -merge -underBinder +onlyGivenNames x3
    have hx3 : Same 0x8000a000008a s x3.1 := State.loadKey_same1 h rfl
    try clear_value x3
    split
    · exact hx3
    · exact hx3)

theorem State.startTraffic_same {a s : State} {a1 : Nat} {a2 : CphJob} (h : Same m a s) (hm : m &&& 0xc086e00060ca = 0xc086e00060ca) :
    Same m a (State.startTraffic s a1 a2) := h.then hm (by
  have h := Same.refl 0xc086e00060ca s
  unfold State.startTraffic
  extract_lets -merge -underBinder +onlyGivenNames x0 x1 x2 x3 x4
  have hx1 : Same 0xc086e00060ca s x1 := State.viewCph_same (State.setCph_same h rfl) rfl
  try clear_value x1
  refine Same.ite ?_ ?_
  · exact State.jobLate_same hx1 rfl
  · extract_lets -merge -underBinder +onlyGivenNames x5 x6
    have hx5 : Same 0xc086e00060ca s x5.1 := State.trafficKey_same1 hx1 rfl
    have hx6 : Same 0xc086e00060ca s x6 := hx5
    try clear_value x5 x6
    split
    · exact State.cphProceed_same (State.jobGone_same (State.keyAbsent_same hx6 rfl) rfl) rfl
    · extract_lets -merge -underBinder +onlyGivenNames x7
      have hx7 : Same 0xc086e00060ca s x7 := Same.ite (State.bump_same hx6 (home_bit 6 rfl rfl)) hx6
      try clear_value x7
      exact State.setLane_same hx7 rfl)

theorem State.startHost_same {a s : State} {a1 : Nat} {a2 : HostJob} (h : Same m a s) (hm : m &&& 0xc000a00000ca = 0xc000a00000ca) :
    Same m a (State.startHost s a1 a2) := h.then hm (by
  have h := Same.refl 0xc000a00000ca s
  unfold State.startHost
  extract_lets -merge -underBinder +onlyGivenNames x0 x1
  have hx1 : Same 0xc000a00000ca s x1 := State.setLane_same h rfl
  try clear_value x1
  refine Same.ite ?_ ?_
  · exact State.pushRes_same (State.bump_same hx1 (home_bit 6 rfl rfl)) rfl
  · extract_lets -merge -underBinder +onlyGivenNames x2 x3 x4 x5 x6
    have hx4 : Same 0xc000a00000ca s x4.1 := State.loadKey_same1 hx1 rfl
    have hx5 : Same 0xc000a00000ca s x5.1 := Same.ite1 hx1 (Same.ite1 hx1 hx4)
    have hx6 : Same 0xc000a00000ca s x6 := hx5
    try clear_value x4 x5 x6
    split
    · exact State.pushRes_same (State.keyAbsent_same hx6 rfl) rfl
    · extract_lets -merge -underBinder +onlyGivenNames x7 x8 x9
      have hx7 : Same 0xc000a00000ca s x7 := Same.ite hx6 (State.bump_same hx6 (home_bit 6 rfl rfl))
      have hx9 : Same 0xc000a00000ca s x9 := State.setLane_same hx7 rfl
      try clear_value x7 x9
      exact Same.ite (State.out_same hx9 rfl) hx9)

theorem execCipherJobStart_same {a s : State} {a0 : Nat} (h : Same m a s) (hm : m &&& 0xc086e00060ca = 0xc086e00060ca) :
    SameR m a (execCipherJobStart a0 s) := SameR.then h hm (by
  have h := Same.refl 0xc086e00060ca s
  unfold execCipherJobStart
  exact onLogicIf_same h (fun _ k0 => (by
    extract_lets -merge -underBinder +onlyGivenNames x1
    have hx1 : Same 0xc086e00060ca s x1 := State.cphProceed_same k0 rfl
    try clear_value x1
    refine Same.ite ?_ ?_
    · split
      · exact State.jobLate_same (State.setCph_same hx1 rfl) rfl
      · exact hx1
    · refine Same.ite ?_ ?_
      · exact hx1
      · split
        · exact Same.ite hx1 (State.startTraffic_same hx1 rfl)
        · exact State.startHost_same hx1 rfl
        · exact hx1)))

theorem State.laneFree_same {a s : State} {a1 : Nat} (h : Same m a s) (hm : m &&& 0x40008000004a = 0x40008000004a) :
    Same m a (State.laneFree s a1) := h.then hm (by
  have h := Same.refl 0x40008000004a s
  unfold State.laneFree
  exact State.setLane_same h rfl)

theorem State.compareErr_same {a s : State} {a1 : Nat} (h : Same m a s) (hm : m &&& 0x4001a000004a = 0x4001a000004a) :
    Same m a (State.compareErr s a1) := h.then hm (by
  have h := Same.refl 0x4001a000004a s
  unfold State.compareErr
  extract_lets -merge -underBinder +onlyGivenNames x0 x1 x2 x3
  have hx0 : Same 0x4001a000004a s x0 := State.irq_same (State.bump_same (State.errU_same h (headHome_pgLane rfl) rfl rfl rfl rfl rfl) (home_bit 6 rfl rfl)) (headHome_pgLane rfl) rfl rfl rfl
  have hx3 : Same 0x4001a000004a s x3 := State.setLane_same hx0 rfl
  try clear_value x0 x3
  exact Same.ite (State.viewCph_same (State.wr_same (State.errU_same hx3 (headHome_pgLane rfl) rfl rfl rfl rfl rfl) (home_bit 6 rfl rfl)) rfl) hx3)

theorem State.compareFail_same {a s : State} {a1 : Nat} (h : Same m a s) (hm : m &&& 0x4087e000604a = 0x4087e000604a) :
    Same m a (State.compareFail s a1) := h.then hm (by
  have h := Same.refl 0x4087e000604a s
  unfold State.compareFail
  split
  · exact h
  · exact State.hostEnd_same (State.compareErr_same h rfl) rfl
  · extract_lets -merge -underBinder +onlyGivenNames x0 x1 x2
    have hx0 : Same 0x4087e000604a s x0 := State.laneFree_same (State.compareErr_same h rfl) rfl
    have hx1 : Same 0x4087e000604a s x1 := State.bump_same hx0 (home_bit 6 rfl rfl)
    have hx2 : Same 0x4087e000604a s x2 := by
      unfold x2
      split
      · exact State.cutFail_same hx1 rfl
      · exact hx1
    try clear_value x0 x1 x2
    exact State.cphProceed_same (State.jobGone_same hx2 rfl) rfl)

theorem execProvisionalContinuation_same {a s : State} {a0 : Nat} (h : Same m a s) (hm : m &&& 0x4086e000404a = 0x4086e000404a) :
    SameR m a (execProvisionalContinuation a0 s) := SameR.then h hm (by
  have h := Same.refl 0x4086e000404a s
  unfold execProvisionalContinuation
  exact onLogicIf_same h (fun _ k0 => (by
    split
    · extract_lets -merge -underBinder +onlyGivenNames x1 x2 x3
      refine Same.ite ?_ ?_
      · exact k0
      · split
        · exact k0
        · extract_lets -merge -underBinder +onlyGivenNames x4 x5 x6 x7 x8
          have hx4 : Same 0x4086e000404a s x4.1 := State.appendCell_same1 k0 rfl
          have hx5 : Same 0x4086e000404a s x5 := hx4
          have hx6 : Same 0x4086e000404a s x6 := by
            unfold x6
            split
            · exact State.putFrame_same hx5 rfl
            · exact hx5
          have hx8 : Same 0x4086e000404a s x8.1 := State.pushDesc_same1 hx6 rfl
          try clear_value x4 x5 x6 x8
          exact Same.ite (State.setLane_same hx8 rfl) hx8
    · exact k0)))

theorem State.jobCounted_same {a s : State} {a1 : Nat} {a2 : CphJob} (h : Same m a s) (hm : m &&& 0x4000801fffff = 0x4000801fffff) :
    Same m a (State.jobCounted s a1 a2) := h.then hm (by
  have h := Same.refl 0x4000801fffff s
  unfold State.jobCounted
  extract_lets -merge -underBinder +onlyGivenNames x0 x1 x2
  have hx1 : Same 0x4000801fffff s x1 := State.bump_same (State.laneFree_same h rfl) (home_bit 6 rfl rfl)
  have hx2 : Same 0x4000801fffff s x2 := State.bump64_same hx1 (home_bit 6 rfl rfl) (home_bit 6 rfl rfl)
  try clear_value x1 x2
  exact State.bump_same hx2 (any_home rfl))

theorem State.queueDone_same {a s : State} {a1 : CphJob} {a2 : List Nat} {a3 : Bool} (h : Same m a s) (hm : m &&& 0x4086e000404a = 0x4086e000404a) :
    Same m a (State.queueDone s a1 a2 a3) := h.then hm (by
  have h := Same.refl 0x4086e000404a s
  unfold State.queueDone
  extract_lets -merge -underBinder +onlyGivenNames x0 x1
  have hx1 : Same 0x4086e000404a s x1 := State.setCph_same h rfl
  try clear_value x1
  exact State.cphProceed_same (State.jobGone_same hx1 rfl) rfl)

theorem State.jobNoOut_same {a s : State} {a1 : CphJob} {a2 : Option Nat} {a3 : Bool} (h : Same m a s) (hm : m &&& 0x4086e000604a = 0x4086e000604a) :
    Same m a (State.jobNoOut s a1 a2 a3) := h.then hm (by
  have h := Same.refl 0x4086e000604a s
  unfold State.jobNoOut
  extract_lets -merge -underBinder +onlyGivenNames x0
  have hx0 : Same 0x4086e000604a s x0 := by
    unfold x0
    split
    · exact State.cutFail_same h rfl
    · exact h
  try clear_value x0
  exact State.cphProceed_same (State.jobGone_same hx0 rfl) rfl)

theorem State.raiseFresh_same {a s : State} {a1 : Nat} {a2 : CphJob} {a3 : Option Nat} (h : Same m a s) (hm : m &&& 0x400000000 = 0x400000000) :
    Same m a (State.raiseFresh s a1 a2 a3) := h.then hm (by
  have h := Same.refl 0x400000000 s
  unfold State.raiseFresh
  split
  · refine Same.ite ?_ ?_
    · extract_lets -merge -underBinder +onlyGivenNames x0
      exact State.setRtOf_same h rfl
    · exact h
  · exact h)

theorem State.cutPass_same {a s : State} {a1 : CphJob} {a2 : Nat} {a3 : List Nat} (h : Same m a s) (hm : m &&& 0x4086e000404a = 0x4086e000404a) :
    Same m a (State.cutPass s a1 a2 a3) := h.then hm (by
  have h := Same.refl 0x4086e000404a s
  unfold State.cutPass
  split
  · exact State.cphProceed_same (State.jobGone_same h rfl) rfl
  · extract_lets -merge -underBinder +onlyGivenNames x0 x1 x2 x3 x4
    have hx1 : Same 0x4086e000404a s x1.1 := State.landFrame_same1 h rfl
    have hx2 : Same 0x4086e000404a s x2 := hx1
    have hx3 : Same 0x4086e000404a s x3 := Same.ite (State.announce_same hx2 rfl) (State.frameBad_same hx2 rfl)
    have hx4 : Same 0x4086e000404a s x4 := Same.foldl hx3 (fun _ _ k5 => Same.ite (State.raiseFresh_same k5 rfl) k5)
    try clear_value x1 x2 x3 x4
    exact State.cphProceed_same (State.jobGone_same hx4 rfl) rfl)

theorem State.finishTraffic_same {a s : State} {a1 : Nat} {a2 : CphJob} {a3 : List Nat} {a4 : List Nat} {a5 : Nat} {a6 : Option Nat} (h : Same m a s) (hm : m &&& 0x4086e01fffff = 0x4086e01fffff) :
    Same m a (State.finishTraffic s a1 a2 a3 a4 a5 a6) := h.then hm (by
  have h := Same.refl 0x4086e01fffff s
  unfold State.finishTraffic
  extract_lets -merge -underBinder +onlyGivenNames x0 x1 x2 x3
  split
  · extract_lets -merge -underBinder +onlyGivenNames x4
    have hx4 : Same 0x4086e01fffff s x4 := Same.ite (State.askRebuild_same h rfl) h
    try clear_value x4
    exact State.jobNoOut_same (State.laneFree_same (State.cellCrc_same hx4 rfl) rfl) rfl
  · refine Same.ite ?_ ?_
    · extract_lets -merge -underBinder +onlyGivenNames x5
      have hx5 : Same 0x4086e01fffff s x5 := by
        unfold x5
        split
        · exact State.frameBad_same (State.laneFree_same h rfl) rfl
        · exact State.laneFree_same h rfl
      try clear_value x5
      exact State.cphProceed_same (State.jobGone_same hx5 rfl) rfl
    · extract_lets -merge -underBinder +onlyGivenNames x6
      have hx6 : Same 0x4086e01fffff s x6 := State.jobCounted_same h rfl
      try clear_value x6
      refine Same.ite ?_ ?_
      · extract_lets -merge -underBinder +onlyGivenNames x7 x8 x9
        have hx7 : Same 0x4086e01fffff s x7 := State.irq_same (State.bump_same hx6 rfl) rfl rfl rfl rfl
        have hx9 : Same 0x4086e01fffff s x9 := State.setLane_same hx7 rfl
        try clear_value x7 x9
        exact Same.ite (State.jobNoOut_same hx9 rfl) (State.queueDone_same hx9 rfl)
      · refine Same.ite ?_ ?_
        · split
          · exact State.queueDone_same hx6 rfl
          · exact State.jobNoOut_same (State.bump_same hx6 rfl) rfl
        · split
          · exact State.cutPass_same hx6 rfl
          · exact State.queueDone_same hx6 rfl
          · exact State.jobNoOut_same hx6 rfl
          · exact State.queueDone_same (State.irq_same (State.bump_same hx6 rfl) rfl rfl rfl rfl) rfl)

theorem execCipherJobFinish_same {a s : State} {a0 : Nat} (h : Same m a s) (hm : m &&& 0x4087e01fffff = 0x4087e01fffff) :
    SameR m a (execCipherJobFinish a0 s) := SameR.then h hm (by
  have h := Same.refl 0x4087e01fffff s
  unfold execCipherJobFinish
  exact onLogicIf_same h (fun _ k0 => (by
    split
    · exact Same.ite k0 (Same.ite (State.compareFail_same k0 rfl) (State.finishTraffic_same k0 rfl))
    · exact k0)))

theorem execCompareFail_same {a s : State} {a0 : Nat} (h : Same m a s) (hm : m &&& 0x4087e000604a = 0x4087e000604a) :
    SameR m a (execCompareFail a0 s) := SameR.then h hm (by
  have h := Same.refl 0x4087e000604a s
  unfold execCompareFail
  exact onLogicIf_same h (fun _ k0 => State.compareFail_same k0 rfl))

theorem execCipherReleaseSlot_same {a s : State} {a0 : Nat} (h : Same m a s) (hm : m &&& 0x4086e000604a = 0x4086e000604a) :
    SameR m a (execCipherReleaseSlot a0 s) := SameR.then h hm (by
  have h := Same.refl 0x4086e000604a s
  unfold execCipherReleaseSlot
  exact onLogicIf_same h (fun _ k0 => (by
    split
    · exact Same.ite (State.jobLate_same (State.laneFree_same k0 rfl) rfl) k0
    · exact k0)))

theorem State.cphGo_same {a s : State} {a1 : Nat} {a2 : Nat} (h : Same m a s) (hm : m &&& 0x40008000004a = 0x40008000004a) :
    Same m a (State.cphGo s a1 a2) := h.then hm (by
  have h := Same.refl 0x40008000004a s
  unfold State.cphGo
  extract_lets -merge -underBinder +onlyGivenNames x0
  refine Same.ite ?_ ?_
  · exact State.wr_same h (home_bit 6 rfl rfl)
  · extract_lets -merge -underBinder +onlyGivenNames x1
    exact State.setLane_same h rfl)

theorem cphRow_same {a s : State} {a0 : Nat} {a1 : Nat} {a2 : Nat} (h : Same m a s) (hm : m &&& 0x40008000004a = 0x40008000004a) :
    SameR m a (cphRow a0 a1 a2 s) := SameR.then h hm (by
  have h := Same.refl 0x40008000004a s
  unfold cphRow
  exact onLogicIf_same h (fun _ k0 => State.cphGo_same k0 rfl))

theorem execEnc_same {a s : State} {a0 : Nat} {a1 : Nat} (h : Same m a s) (hm : m &&& 0x40008000004a = 0x40008000004a) :
    SameR m a (execEnc a0 a1 s) := SameR.then h hm (by
  have h := Same.refl 0x40008000004a s
  unfold execEnc
  exact cphRow_same h rfl)

theorem execDec_same {a s : State} {a0 : Nat} {a1 : Nat} (h : Same m a s) (hm : m &&& 0x40008000004a = 0x40008000004a) :
    SameR m a (execDec a0 a1 s) := SameR.then h hm (by
  have h := Same.refl 0x40008000004a s
  unfold execDec
  exact cphRow_same h rfl)

theorem execMac_same {a s : State} {a0 : Nat} {a1 : Nat} (h : Same m a s) (hm : m &&& 0x40008000004a = 0x40008000004a) :
    SameR m a (execMac a0 a1 s) := SameR.then h hm (by
  have h := Same.refl 0x40008000004a s
  unfold execMac
  exact cphRow_same h rfl)

theorem execCmacVerify_same {a s : State} {a0 : Nat} {a1 : Nat} (h : Same m a s) (hm : m &&& 0x40008000004a = 0x40008000004a) :
    SameR m a (execCmacVerify a0 a1 s) := SameR.then h hm (by
  have h := Same.refl 0x40008000004a s
  unfold execCmacVerify
  exact cphRow_same h rfl)

theorem State.drawIv_same1 {a s : State} {a1 : HostJob} (h : Same m a s) (hm : m &&& 0x100000000 = 0x100000000) :
    Same m a (State.drawIv s a1).1 := h.then hm (by
  have h := Same.refl 0x100000000 s
  unfold State.drawIv
  refine Same.ite1 ?_ ?_
  · exact h
  · refine Same.ite1 ?_ ?_
    · exact State.random_same1 h rfl
    · extract_lets -merge -underBinder +onlyGivenNames x0
      have hx0 : Same 0x100000000 s x0.1 := State.random_same1 h rfl
      try clear_value x0
      exact hx0)

theorem State.finishHost_same {a s : State} {a1 : Nat} {a2 : HostJob} {a3 : List Nat} {a4 : List Nat} (h : Same m a s) (hm : m &&& 0x40018000004a = 0x40018000004a) :
    Same m a (State.finishHost s a1 a2 a3 a4) := h.then hm (by
  have h := Same.refl 0x40018000004a s
  unfold State.finishHost
  extract_lets -merge -underBinder +onlyGivenNames x0 x1 x2 x3
  have hx0 : Same 0x40018000004a s x0 := State.bump64_same h (home_bit 6 rfl rfl) (home_bit 6 rfl rfl)
  have hx2 : Same 0x40018000004a s x2 := State.bump_same (State.setLane_same hx0 rfl) (home_bit 6 rfl rfl)
  try clear_value x0 x2
  refine Same.ite ?_ ?_
  · exact State.pushRes_same hx2 rfl
  · refine Same.ite ?_ ?_
    · extract_lets -merge -underBinder +onlyGivenNames x4
      exact State.pushRes_same hx2 rfl
    · extract_lets -merge -underBinder +onlyGivenNames x5 x6 x7 x8
      have hx5 : Same 0x40018000004a s x5.1 := State.drawIv_same1 hx2 rfl
      have hx6 : Same 0x40018000004a s x6 := hx5
      try clear_value x5 x6
      exact Same.ite (State.pushRes_same (State.zeroDst_same hx6 rfl) rfl) (State.pushRes_same (State.out_same hx6 rfl) rfl))

theorem execHostJobComplete_same {a s : State} {a0 : Nat} {a1 : Option (List Nat)} (h : Same m a s) (hm : m &&& 0x4087e000604a = 0x4087e000604a) :
    SameR m a (execHostJobComplete a0 a1 s) := SameR.then h hm (by
  have h := Same.refl 0x4087e000604a s
  unfold execHostJobComplete
  exact onLogicIf_same h (fun _ k0 => (by
    split
    · split
      · exact State.hostErr_same (State.dmaReadErr_same k0 rfl) rfl
      · refine Same.ite ?_ ?_
        · exact k0
        · refine Same.ite ?_ ?_
          · exact State.compareFail_same k0 rfl
          · refine Same.ite ?_ ?_
            · extract_lets -merge -underBinder +onlyGivenNames x1
              have hx1 : Same 0x4087e000604a s x1 := State.irq_same (State.bump_same k0 rfl) rfl rfl rfl rfl
              try clear_value x1
              exact State.hostEnd_same (State.setLane_same hx1 rfl) rfl
            · exact Same.ite (State.hostErr_same k0 rfl) (State.finishHost_same k0 rfl)
    · exact k0)))

theorem State.laneLoad_same {a s : State} {a1 : Nat} {a2 : Bool} {a3 : Bool} (h : Same m a s) (hm : m &&& 0x40008000004a = 0x40008000004a) :
    Same m a (State.laneLoad s a1 a2 a3) := h.then hm (by
  have h := Same.refl 0x40008000004a s
  unfold State.laneLoad
  extract_lets -merge -underBinder +onlyGivenNames x0 x1 x2
  have hx2 : Same 0x40008000004a s x2 := State.setLane_same h rfl
  try clear_value x2
  exact Same.foldl hx2 (fun _ _ k3 => State.wr_same k3 (home_bit 6 rfl rfl)))

theorem State.laneClear_same {a s : State} {a1 : Nat} (h : Same m a s) (hm : m &&& 0x40008000004a = 0x40008000004a) :
    Same m a (State.laneClear s a1) := h.then hm (by
  have h := Same.refl 0x40008000004a s
  unfold State.laneClear
  exact State.setLane_same h rfl)

theorem execKeyLoad_same {a s : State} {a0 : Nat} {a1 : Bool} {a2 : Bool} (h : Same m a s) (hm : m &&& 0x40008000004a = 0x40008000004a) :
    SameR m a (execKeyLoad a0 a1 a2 s) := SameR.then h hm (by
  have h := Same.refl 0x40008000004a s
  unfold execKeyLoad
  exact onLogicIf_same h (fun _ k0 => State.laneLoad_same k0 rfl))

theorem execKeyClear_same {a s : State} {a0 : Nat} (h : Same m a s) (hm : m &&& 0x40008000004a = 0x40008000004a) :
    SameR m a (execKeyClear a0 s) := SameR.then h hm (by
  have h := Same.refl 0x40008000004a s
  unfold execKeyClear
  exact onLogicIf_same h (fun _ k0 => State.laneClear_same k0 rfl))

theorem State.putLane_same {a s : State} {a1 : Fld} {a2 : Nat} {a3 : List Nat} (h : Same m a s) (hm : m &&& 0x1fffff = 0x1fffff) :
    Same m a (State.putLane s a1 a2 a3) := h.then hm (by
  have h := Same.refl 0x1fffff s
  unfold State.putLane
  exact Same.foldl h (fun _ _ k0 => State.wr_same k0 (any_home rfl)))

theorem execCphResPop_same {a s : State} {a0 : Nat} (h : Same m a s) (hm : m &&& 0x4001801fffff = 0x4001801fffff) :
    SameR m a (execCphResPop a0 s) := SameR.then h hm (by
  have h := Same.refl 0x4001801fffff s
  unfold execCphResPop
  exact onLogicIf_same h (fun _ k0 => (by
    extract_lets -merge -underBinder +onlyGivenNames x1 x2 x3
    have hx3 : Same 0x4001801fffff s x3 := State.setLane_same k0 rfl
    try clear_value x3
    split
    · exact State.wr_same hx3 (home_bit 6 rfl rfl)
    · extract_lets -merge -underBinder +onlyGivenNames x4 x5
      have hx4 : Same 0x4001801fffff s x4 := State.wrFree_same (State.wr_same (State.wr_same (State.wr_same (State.wr_same hx3 (home_bit 6 rfl rfl)) (home_bit 6 rfl rfl)) (home_bit 6 rfl rfl)) (home_bit 6 rfl rfl)) (home_bit 6 rfl rfl) rfl
      have hx5 : Same 0x4001801fffff s x5.1 := State.random_same1 hx4 rfl
      try clear_value x4 x5
      exact State.putLane_same (State.putLane_same hx5 rfl) rfl
    · extract_lets -merge -underBinder +onlyGivenNames x6 x7
      have hx6 : Same 0x4001801fffff s x6 := State.wrFree_same (State.wr_same (State.wr_same (State.wr_same hx3 (home_bit 6 rfl rfl)) (home_bit 6 rfl rfl)) (home_bit 6 rfl rfl)) (home_bit 6 rfl rfl) rfl
      have hx7 : Same 0x4001801fffff s x7.1 := State.random_same1 (State.wrFree_same hx6 (home_bit 6 rfl rfl) rfl) rfl
      try clear_value x6 x7
      exact State.putLane_same (State.putLane_same hx7 rfl) rfl)))

end Sys2Proof.Machine
end

