-- ==== Sys2Proof/Laws/KeepSleep.lean ====
section
/-! SUPPORT. What the functions of Machine/Sleep.lean can change, one lemma for each, with the canonical forms kept. -/

namespace Sys2Proof.Machine

variable {m : Nat}

theorem onPwk_same {a s : State} {c : Bool} {f : State → State} (h : Same m a s)
    (hf : ∀ t, Same m a t → Same m a (f t)) : SameR m a (onPwk s c f) := SameR.ite (.next (hf _ h)) (.next h)

theorem State.pwkReject_same {a s : State} (h : Same m a s) (hm : m &&& 0x80000 = 0x80000) :
    Same m a (State.pwkReject s) := h.then hm (by
  have h := Same.refl 0x80000 s
  unfold State.pwkReject
  exact State.wr_same h rfl)

theorem execPwkSleep_same {a s : State} (h : Same m a s) (hm : m &&& 0x4ac6f01fffff = 0x4ac6f01fffff) :
    SameR m a (execPwkSleep s) := SameR.then h hm (by
  have h := Same.refl 0x4ac6f01fffff s
  unfold execPwkSleep
  exact onPwk_same h (fun _ k0 => Same.ite (State.regionSleep_same (State.regionSleep_same (State.wr_same (Same.put_mode k0 rfl) rfl) rfl) rfl) (State.pwkReject_same k0 rfl)))

theorem execSleepNorth_same {a s : State} (h : Same m a s) (hm : m &&& 0x4ac6e01fffff = 0x4ac6e01fffff) :
    SameR m a (execSleepNorth s) := SameR.then h hm (by
  have h := Same.refl 0x4ac6e01fffff s
  unfold execSleepNorth
  exact onPwk_same h (fun _ k0 => Same.ite (State.regionSleep_same k0 rfl) (State.pwkReject_same k0 rfl)))

theorem execSleepSouth_same {a s : State} (h : Same m a s) (hm : m &&& 0x4ac6e01fffff = 0x4ac6e01fffff) :
    SameR m a (execSleepSouth s) := SameR.then h hm (by
  have h := Same.refl 0x4ac6e01fffff s
  unfold execSleepSouth
  exact onPwk_same h (fun _ k0 => Same.ite (State.regionSleep_same k0 rfl) (State.pwkReject_same k0 rfl)))

theorem execSegSleep_same {a s : State} {a0 : Nat} (h : Same m a s) (hm : m &&& 0x4ac6e019400a = 0x4ac6e019400a) :
    SameR m a (execSegSleep a0 s) := SameR.then h hm (by
  have h := Same.refl 0x4ac6e019400a s
  unfold execSegSleep
  exact onPwk_same h (fun _ k0 => Same.ite (State.sleepRequest_same k0 rfl) (State.pwkReject_same k0 rfl)))

theorem execTc10SleepRequest_same {a s : State} {a0 : Nat} (h : Same m a s) (hm : m &&& 0x4ac6e019400a = 0x4ac6e019400a) :
    SameR m a (execTc10SleepRequest a0 s) := SameR.then h hm (by
  have h := Same.refl 0x4ac6e019400a s
  unfold execTc10SleepRequest
  exact onLogicIf_same h (fun _ k0 => (by
    refine Same.ite ?_ ?_
    · extract_lets -merge -underBinder +onlyGivenNames x1
      have hx1 : Same 0x4ac6e019400a s x1 := State.out_same (State.sleepRequest_same k0 rfl) rfl
      try clear_value x1
      exact State.setSeg_same hx1 rfl
    · exact State.out_same k0 rfl)))

theorem State.tc10Fail_same {a s : State} {a1 : Nat} (h : Same m a s) (hm : m &&& 0x4ac6f01fffff = 0x4ac6f01fffff) :
    Same m a (State.tc10Fail s a1) := h.then hm (by
  have h := Same.refl 0x4ac6f01fffff s
  unfold State.tc10Fail
  exact State.entryFails_same (State.irq_same (State.bump_same (State.setSegment_same h rfl) rfl) rfl rfl rfl rfl) rfl)

theorem execTc10SleepAck_same {a s : State} {a0 : Nat} {a1 : Bool} (h : Same m a s) (hm : m &&& 0x4ac6f01fffff = 0x4ac6f01fffff) :
    SameR m a (execTc10SleepAck a0 a1 s) := SameR.then h hm (by
  have h := Same.refl 0x4ac6f01fffff s
  unfold execTc10SleepAck
  exact onLogicIf_same h (fun _ k0 => Same.ite (State.setSeg_same k0 rfl) (State.tc10Fail_same k0 rfl)))

theorem execTc10SleepTimeout_same {a s : State} {a0 : Nat} (h : Same m a s) (hm : m &&& 0x4ac6f01fffff = 0x4ac6f01fffff) :
    SameR m a (execTc10SleepTimeout a0 s) := SameR.then h hm (by
  have h := Same.refl 0x4ac6f01fffff s
  unfold execTc10SleepTimeout
  exact onLogicIf_same h (fun _ k0 => State.tc10Fail_same k0 rfl))

theorem execFalseWakeTimeout_same {a s : State} {a0 : Nat} (h : Same m a s) (hm : m &&& 0x4ac6e019400a = 0x4ac6e019400a) :
    SameR m a (execFalseWakeTimeout a0 s) := SameR.then h hm (by
  have h := Same.refl 0x4ac6e019400a s
  unfold execFalseWakeTimeout
  exact onPwk_same h (fun _ k0 => State.irq_same (State.bump_same (State.sleepRequest_same k0 rfl) rfl) rfl rfl rfl rfl))

theorem execSegmentCommitPoint_same {a s : State} {a0 : Nat} (h : Same m a s) (hm : m &&& 0x4ec6e01fffff = 0x4ec6e01fffff) :
    SameR m a (execSegmentCommitPoint a0 s) := SameR.then h hm (by
  have h := Same.refl 0x4ec6e01fffff s
  unfold execSegmentCommitPoint
  exact onLogicIf_same h (fun _ k0 => State.segmentCommit_same k0 rfl))

theorem execDwellEnd_same {a s : State} {a0 : Nat} (h : Same m a s) (hm : m &&& 0x24ac6f01fffff = 0x24ac6f01fffff) :
    SameR m a (execDwellEnd a0 s) := SameR.then h hm (by
  have h := Same.refl 0x24ac6f01fffff s
  unfold execDwellEnd
  exact onPwk_same h (fun _ k0 => (by
    refine Same.ite ?_ ?_
    · extract_lets -merge -underBinder +onlyGivenNames x1
      have hx1 : Same 0x24ac6f01fffff s x1 := State.bump_same k0 rfl
      try clear_value x1
      exact Same.ite (State.wakePackage_same (State.setSegment_same hx1 rfl) rfl) (State.startWaking_same hx1 rfl)
    · exact State.irq_same (State.setSegment_same k0 rfl) rfl rfl rfl rfl)))

theorem execSegmentAwake_same {a s : State} {a0 : Nat} (h : Same m a s) (hm : m &&& 0x4ac6f01fffff = 0x4ac6f01fffff) :
    SameR m a (execSegmentAwake a0 s) := SameR.then h hm (by
  have h := Same.refl 0x4ac6f01fffff s
  unfold execSegmentAwake
  exact onLogicIf_same h (fun _ k0 => (by
    extract_lets -merge -underBinder +onlyGivenNames x1 x2 x3
    have hx3 : Same 0x4ac6f01fffff s x3 := State.setSeg_same (State.setSegment_same k0 rfl) rfl
    try clear_value x3
    exact Same.ite (State.entryFails_same hx3 rfl) hx3)))

theorem execSleepAbort_same {a s : State} {a0 : Nat} {a1 : Nat} {a2 : Option Nat} (h : Same m a s) (hm : m &&& 0x24ec7f01fffff = 0x24ec7f01fffff) :
    SameR m a (execSleepAbort a0 a1 a2 s) := SameR.then h hm (by
  have h := Same.refl 0x24ec7f01fffff s
  unfold execSleepAbort
  exact onLogicIf_same h (fun _ k0 => State.frontWake_same k0 rfl))

theorem State.regionLose_same {a s : State} {a1 : Nat} (h : Same m a s) (hm : m &&& 0x46c7e01fffff = 0x46c7e01fffff) :
    Same m a (State.regionLose s a1) := h.then hm (by
  have h := Same.refl 0x46c7e01fffff s
  unfold State.regionLose
  exact Same.foldl (Same.foldl h (fun _ _ k0 => State.quayReset_same k0 rfl)) (fun _ _ k1 => State.bankLose_same k1 rfl))

theorem execRegionCommitPoint_same {a s : State} {a0 : Nat} (h : Same m a s) (hm : m &&& 0x4ec7e01fffff = 0x4ec7e01fffff) :
    SameR m a (execRegionCommitPoint a0 s) := SameR.then h hm (by
  have h := Same.refl 0x4ec7e01fffff s
  unfold execRegionCommitPoint
  exact onLogicIf_same h (fun _ k0 => (by
    extract_lets -merge -underBinder +onlyGivenNames x1
    have hx1 : Same 0x4ec7e01fffff s x1 := State.regionLose_same (State.setRegion_same k0 rfl) rfl
    try clear_value x1
    exact State.setPwk_same hx1 rfl)))

theorem execPackageCommitPoint_same {a s : State} (h : Same m a s) (hm : m &&& 0x108001008000a = 0x108001008000a) :
    SameR m a (execPackageCommitPoint s) := SameR.then h hm (by
  have h := Same.refl 0x108001008000a s
  unfold execPackageCommitPoint
  exact onLogicIf_same h (fun _ k0 => (by
    extract_lets -merge -underBinder +onlyGivenNames x1 x2 x3 x4 x5
    have hx1 : Same 0x108001008000a s x1 := (Same.put_mode k0 rfl)
    have hx2 : Same 0x108001008000a s x2 := State.wr_same (State.wr_same (State.wr_same hx1 rfl) rfl) rfl
    have hx3 : Same 0x108001008000a s x3 := State.setB_same (State.wr_same hx2 rfl) rfl
    have hx5 : Same 0x108001008000a s x5 := Same.foldl (Same.put_hbr hx3 rfl) (fun _ _ k6 => State.wr_same k6 (home_bit 1 rfl rfl))
    try clear_value x1 x2 x3 x5
    exact State.setPwk_same hx5 rfl)))

theorem execPackageDwellEnd_same {a s : State} (h : Same m a s) (hm : m &&& 0x24ac6f01fffff = 0x24ac6f01fffff) :
    SameR m a (execPackageDwellEnd s) := SameR.then h hm (by
  have h := Same.refl 0x24ac6f01fffff s
  unfold execPackageDwellEnd
  exact onPwk_same h (fun _ k0 => State.packageUp_same k0 rfl))

theorem State.packageWake_same {a s : State} {a1 : WakeRec} (h : Same m a s) (hm : m &&& 0x24ac7f01fffff = 0x24ac7f01fffff) :
    Same m a (State.packageWake s a1) := h.then hm (by
  have h := Same.refl 0x24ac7f01fffff s
  unfold State.packageWake
  extract_lets -merge -underBinder +onlyGivenNames x0 x1 x2 x3
  have hx2 : Same 0x24ac7f01fffff s x2 := State.recordWake_same h rfl
  have hx3 : Same 0x24ac7f01fffff s x3 := State.wakePackage_same hx2 rfl
  try clear_value x2 x3
  exact Same.ite (State.setPwk_same hx3 rfl) hx3)

theorem execPwkWake_same {a s : State} {a0 : Sys2Proof.Master} (h : Same m a s) (hm : m &&& 0x24ac7f01fffff = 0x24ac7f01fffff) :
    SameR m a (execPwkWake a0 s) := SameR.then h hm (by
  have h := Same.refl 0x24ac7f01fffff s
  unfold execPwkWake
  exact onPwk_same h (fun _ k0 => State.packageWake_same k0 rfl))

theorem State.regionWake_same {a s : State} {a1 : Nat} {a2 : WakeRec} (h : Same m a s) (hm : m &&& 0x24ac7f01fffff = 0x24ac7f01fffff) :
    Same m a (State.regionWake s a1 a2) := h.then hm (by
  have h := Same.refl 0x24ac7f01fffff s
  unfold State.regionWake
  extract_lets -merge -underBinder +onlyGivenNames x0 x1 x2
  have hx2 : Same 0x24ac7f01fffff s x2 := State.wakeMany_same h rfl
  try clear_value x2
  refine Same.ite ?_ ?_
  · exact State.setPwk_same (State.wakePackage_same hx2 rfl) rfl
  · extract_lets -merge -underBinder +onlyGivenNames x3
    have hx3 : Same 0x24ac7f01fffff s x3 := State.entryStop_same hx2 rfl
    try clear_value x3
    exact Same.ite (State.regionPower_same hx3 rfl) hx3)

theorem execWakeNorth_same {a s : State} {a0 : Sys2Proof.Master} (h : Same m a s) (hm : m &&& 0x24ac7f01fffff = 0x24ac7f01fffff) :
    SameR m a (execWakeNorth a0 s) := SameR.then h hm (by
  have h := Same.refl 0x24ac7f01fffff s
  unfold execWakeNorth
  exact onPwk_same h (fun _ k0 => State.regionWake_same k0 rfl))

theorem execWakeSouth_same {a s : State} {a0 : Sys2Proof.Master} (h : Same m a s) (hm : m &&& 0x24ac7f01fffff = 0x24ac7f01fffff) :
    SameR m a (execWakeSouth a0 s) := SameR.then h hm (by
  have h := Same.refl 0x24ac7f01fffff s
  unfold execWakeSouth
  exact onPwk_same h (fun _ k0 => State.regionWake_same k0 rfl))

theorem execSegWake_same {a s : State} {a0 : Nat} {a1 : Sys2Proof.Master} (h : Same m a s) (hm : m &&& 0x24ac7f01fffff = 0x24ac7f01fffff) :
    SameR m a (execSegWake a0 a1 s) := SameR.then h hm (by
  have h := Same.refl 0x24ac7f01fffff s
  unfold execSegWake
  exact onPwk_same h (fun _ k0 => Same.ite (State.wakeOne_same k0 rfl) (State.pwkReject_same k0 rfl)))

theorem execWakePinEvent_same {a s : State} {a0 : Nat} {a1 : Nat} (h : Same m a s) (hm : m &&& 0x24ac7f01fffff = 0x24ac7f01fffff) :
    SameR m a (execWakePinEvent a0 a1 s) := SameR.then h hm (by
  have h := Same.refl 0x24ac7f01fffff s
  unfold execWakePinEvent
  exact onPwk_same h (fun _ k0 => (by
    extract_lets -merge -underBinder +onlyGivenNames x1 x2
    have hx2 : Same 0x24ac7f01fffff s x2 := State.wr_same k0 rfl
    try clear_value x2
    refine Same.ite ?_ ?_
    · extract_lets -merge -underBinder +onlyGivenNames x3 x4
      have hx3 : Same 0x24ac7f01fffff s x3 := State.irq_same hx2 rfl rfl rfl rfl
      try clear_value x3
      split
      · exact State.packageWake_same hx3 rfl
      · exact State.regionWake_same hx3 rfl
      · exact State.regionWake_same hx3 rfl
      · exact State.recordWake_same hx3 rfl
    · exact hx2)))

theorem execSleepTimerExpiry_same {a s : State} (h : Same m a s) (hm : m &&& 0x24ac7f01fffff = 0x24ac7f01fffff) :
    SameR m a (execSleepTimerExpiry s) := SameR.then h hm (by
  have h := Same.refl 0x24ac7f01fffff s
  unfold execSleepTimerExpiry
  exact onPwk_same h (fun _ k0 => State.packageWake_same k0 rfl))

theorem State.showWake_same {a s : State} {a1 : Popped WakeRec} (h : Same m a s) (hm : m &&& 0x100080000 = 0x100080000) :
    Same m a (State.showWake s a1) := h.then hm (by
  have h := Same.refl 0x100080000 s
  unfold State.showWake
  split
  · exact State.wr_same h rfl
  · extract_lets -merge -underBinder +onlyGivenNames x0 x1 x2
    have hx0 : Same 0x100080000 s x0 := State.wr_same h rfl
    have hx1 : Same 0x100080000 s x1 := State.wr_same (State.wr_same hx0 rfl) rfl
    have hx2 : Same 0x100080000 s x2 := State.wr_same (State.wr_same hx1 rfl) rfl
    try clear_value x0 x1 x2
    exact State.wrFree_same (State.wrFree_same (State.wrFree_same (State.wrFree_same hx2 rfl rfl) rfl rfl) rfl rfl) rfl rfl
  · extract_lets -merge -underBinder +onlyGivenNames x3 x4 x5
    have hx3 : Same 0x100080000 s x3 := State.wr_same h rfl
    have hx4 : Same 0x100080000 s x4 := State.wr_same (State.wr_same (State.wr_same hx3 rfl) rfl) rfl
    have hx5 : Same 0x100080000 s x5 := State.wr_same (State.wr_same (State.setB_same hx4 rfl) rfl) rfl
    try clear_value x3 x4 x5
    split
    · exact State.wr_same (State.wr_same hx5 rfl) rfl
    · exact State.wrFree_same (State.wrFree_same hx5 rfl rfl) rfl rfl)

theorem execPwkWakePop_same {a s : State} (h : Same m a s) (hm : m &&& 0x8018018000a = 0x8018018000a) :
    SameR m a (execPwkWakePop s) := SameR.then h hm (by
  have h := Same.refl 0x8018018000a s
  unfold execPwkWakePop
  exact onPwk_same h (fun _ k0 => (by
    extract_lets -merge -underBinder +onlyGivenNames x1
    exact State.showWake_same (State.wakeCond_same (State.setPwk_same k0 rfl) rfl) rfl)))

theorem State.popWakeBad_same {a s : State} (h : Same m a s) (hm : m &&& 0x801a018000a = 0x801a018000a) :
    Same m a (State.popWakeBad s) := h.then hm (by
  have h := Same.refl 0x801a018000a s
  unfold State.popWakeBad
  refine Same.ite ?_ ?_
  · exact h
  · extract_lets -merge -underBinder +onlyGivenNames x0
    exact State.showWake_same (State.errU_same (State.wakeCond_same (State.setPwk_same h rfl) rfl) rfl rfl rfl rfl rfl rfl) rfl)

end Sys2Proof.Machine
end

