-- ==== Sys2Proof/Laws/KeepLog.lean ====
section
/-! SUPPORT. What the functions of Machine/Log.lean can change, one lemma for each, with the canonical forms kept. -/

namespace Sys2Proof.Machine

variable {m : Nat}

theorem State.frameRecord_same1 {a s : State} {a1 : FrameLog} (h : Same m a s) (hm : m &&& 0x4086e000400a = 0x4086e000400a) :
    Same m a (State.frameRecord s a1).1 := h.then hm (by
  have h := Same.refl 0x4086e000400a s
  unfold State.frameRecord
  extract_lets -merge -underBinder +onlyGivenNames x0 x1 x2 x3 x4
  have hx2 : Same 0x4086e000400a s x2 := by
    unfold x2
    split
    · exact State.cellCrc_same h rfl
    · exact h
  have hx3 : Same 0x4086e000400a s x3 := by
    unfold x3
    split
    · exact State.release_same hx2 rfl
    · exact hx2
  try clear_value x2 x3
  exact hx3)

theorem State.recordOf_same1 {a s : State} {a1 : LogEvent} (h : Same m a s) (hm : m &&& 0x4086e000400a = 0x4086e000400a) :
    Same m a (State.recordOf s a1).1 := h.then hm (by
  have h := Same.refl 0x4086e000400a s
  unfold State.recordOf
  split
  · exact State.frameRecord_same1 h rfl
  · exact h
  · exact h
  · exact h)

theorem State.fold_same {a s : State} {a1 : LogRec} (h : Same m a s) (hm : m &&& 0x20008000002a = 0x20008000002a) :
    Same m a (State.fold s a1) := h.then hm (by
  have h := Same.refl 0x20008000002a s
  unfold State.fold
  extract_lets -merge -underBinder +onlyGivenNames x0 x1 x2
  exact State.viewLog_same (State.bump_same (State.setLog_same h rfl) rfl) rfl)

theorem State.enqueueLog_same {a s : State} {a1 : LogRec} (h : Same m a s) (hm : m &&& 0x20008000002a = 0x20008000002a) :
    Same m a (State.enqueueLog s a1) := h.then hm (by
  have h := Same.refl 0x20008000002a s
  unfold State.enqueueLog
  extract_lets -merge -underBinder +onlyGivenNames x0
  exact Same.ite (Same.ite (State.irq_same (State.bump_same h rfl) rfl rfl rfl rfl) (State.viewLog_same (State.setLog_same h rfl) rfl)) (Same.ite (State.fold_same h rfl) (State.viewLog_same (State.setLog_same h rfl) rfl)))

theorem State.summaries_same {a s : State} (h : Same m a s) (hm : m &&& 0x20008000002a = 0x20008000002a) :
    Same m a (State.summaries s) := h.then hm (by
  have h := Same.refl 0x20008000002a s
  unfold State.summaries
  extract_lets -merge -underBinder +onlyGivenNames x0 x1 x2
  have hx2 : Same 0x20008000002a s x2 := State.setLog_same h rfl
  try clear_value x2
  exact State.viewLog_same (Same.foldl hx2 (fun _ _ k3 => State.enqueueLog_same k3 rfl)) rfl)

theorem State.logSleepWake_same {a s : State} (h : Same m a s) (hm : m &&& 0x28008000002a = 0x28008000002a) :
    Same m a (State.logSleepWake s) := h.then hm (by
  have h := Same.refl 0x28008000002a s
  unfold State.logSleepWake
  split
  · exact h
  · extract_lets -merge -underBinder +onlyGivenNames x0 x1 x2
    have hx1 : Same 0x28008000002a s x1 := State.setPwk_same h rfl
    try clear_value x1
    exact Same.ite hx1 (State.enqueueLog_same hx1 rfl))

theorem State.takeReport_same {a s : State} {a1 : LogEvent} {a2 : Bool} (h : Same m a s) (hm : m &&& 0x6086e000402a = 0x6086e000402a) :
    Same m a (State.takeReport s a1 a2) := h.then hm (by
  have h := Same.refl 0x6086e000402a s
  unfold State.takeReport
  refine Same.ite ?_ ?_
  · extract_lets -merge -underBinder +onlyGivenNames x0
    have hx0 : Same 0x6086e000402a s x0.1 := State.recordOf_same1 h rfl
    try clear_value x0
    exact Same.ite (State.fold_same hx0 rfl) (State.enqueueLog_same hx0 rfl)
  · split
    · split
      · exact State.release_same h rfl
      · exact h
    · exact h)

theorem execLogRecordReport_same {a s : State} (h : Same m a s) (hm : m &&& 0x6886e000402a = 0x6886e000402a) :
    SameR m a (execLogRecordReport s) := SameR.then h hm (by
  have h := Same.refl 0x6886e000402a s
  unfold execLogRecordReport
  exact onLogic_same h (fun _ k0 => (by
    extract_lets -merge -underBinder +onlyGivenNames x1
    have hx1 : Same 0x6886e000402a s x1 := Same.ite (State.logSleepWake_same k0 rfl) k0
    try clear_value x1
    split
    · exact hx1
    · split
      · exact hx1
      · exact State.takeReport_same (Same.put_logLines hx1 rfl) rfl)))

theorem State.foldReports_same {a s : State} (h : Same m a s) (hm : m &&& 0x6086e000402a = 0x6086e000402a) :
    Same m a (State.foldReports s) := h.then hm (by
  have h := Same.refl 0x6086e000402a s
  unfold State.foldReports
  extract_lets -merge -underBinder +onlyGivenNames x0
  exact Same.foldl (Same.put_logLines h rfl) (fun _ _ k1 => State.takeReport_same k1 rfl))

theorem execSummaryWrite_same {a s : State} (h : Same m a s) (hm : m &&& 0x20008000002a = 0x20008000002a) :
    SameR m a (execSummaryWrite s) := SameR.then h hm (by
  have h := Same.refl 0x20008000002a s
  unfold execSummaryWrite
  exact onLogicIf_same h (fun _ k0 => State.summaries_same k0 rfl))

theorem State.logFlush_same {a s : State} (h : Same m a s) (hm : m &&& 0x20008000002a = 0x20008000002a) :
    Same m a (State.logFlush s) := h.then hm (by
  have h := Same.refl 0x20008000002a s
  unfold State.logFlush
  exact Same.ite h (State.summaries_same h rfl))

theorem execLogFlush_same {a s : State} (h : Same m a s) (hm : m &&& 0x20008000002a = 0x20008000002a) :
    SameR m a (execLogFlush s) := SameR.then h hm (by
  have h := Same.refl 0x20008000002a s
  unfold execLogFlush
  exact onLogicIf_same h (fun _ k0 => State.logFlush_same k0 rfl))

theorem State.ringWrite_same {a s : State} {a1 : List Nat} (h : Same m a s) (hm : m &&& 0x80000020 = 0x80000020) :
    Same m a (State.ringWrite s a1) := h.then hm (by
  have h := Same.refl 0x80000020 s
  unfold State.ringWrite
  extract_lets -merge -underBinder +onlyGivenNames x0 x1 x2 x3 x4 x5
  have hx4 : Same 0x80000020 s x4 := State.out_same h rfl
  have hx5 : Same 0x80000020 s x5 := Same.ite (State.out_same hx4 rfl) hx4
  try clear_value x4 x5
  exact State.wr_same hx5 rfl)

theorem State.logAnnounce_same {a s : State} (h : Same m a s) (hm : m &&& 0x20008000002a = 0x20008000002a) :
    Same m a (State.logAnnounce s) := h.then hm (by
  have h := Same.refl 0x20008000002a s
  unfold State.logAnnounce
  exact State.irq_same (State.setLog_same h rfl) rfl rfl rfl rfl)

theorem State.sendLogFrame_same {a s : State} (h : Same m a s) (hm : m &&& 0x20468000002a = 0x20468000002a) :
    Same m a (State.sendLogFrame s) := h.then hm (by
  have h := Same.refl 0x20468000002a s
  unfold State.sendLogFrame
  refine Same.ite ?_ ?_
  · exact h
  · extract_lets -merge -underBinder +onlyGivenNames x0 x1 x2 x3 x4 x5 x6 x7 x8 x9
    have hx7 : Same 0x20468000002a s x7 := State.setLog_same h rfl
    have hx8 : Same 0x20468000002a s x8 := State.putFrame_same hx7 rfl
    have hx9 : Same 0x20468000002a s x9 := State.advanceCredit_same hx8 rfl
    try clear_value x7 x8 x9
    exact State.viewLog_same (State.bump_same (State.putEgress_same hx9 rfl) rfl) rfl)

theorem State.emitRecord_same {a s : State} {a1 : LogRec} (h : Same m a s) (hm : m &&& 0x20468000002a = 0x20468000002a) :
    Same m a (State.emitRecord s a1) := h.then hm (by
  have h := Same.refl 0x20468000002a s
  unfold State.emitRecord
  extract_lets -merge -underBinder +onlyGivenNames x0 x1 x2 x3 x4 x5 x6 x7 x8 x9 x10
  have hx3 : Same 0x20468000002a s x3 := State.ringWrite_same h rfl
  have hx5 : Same 0x20468000002a s x5 := State.setLog_same hx3 rfl
  have hx7 : Same 0x20468000002a s x7 := Same.ite (State.sendLogFrame_same h rfl) h
  have hx9 : Same 0x20468000002a s x9 := Same.ite (Same.ite (State.logAnnounce_same hx5 rfl) hx5) (State.setLog_same hx7 rfl)
  have hx10 : Same 0x20468000002a s x10 := State.bump_same (State.wr_same hx9 rfl) rfl
  try clear_value x3 x5 x7 x9 x10
  exact State.viewLog_same (Same.ite (State.bump_same hx10 rfl) (Same.ite (State.bump_same hx10 rfl) hx10)) rfl)

theorem State.setSeal_same {a s : State} {a1 : SealSt} (h : Same m a s) (hm : m &&& 0x200000000000 = 0x200000000000) :
    Same m a (State.setSeal s a1) := h.then hm (by
  have h := Same.refl 0x200000000000 s
  unfold State.setSeal
  exact State.setLog_same h rfl)

theorem State.sealStop_same {a s : State} {a1 : Nat} (h : Same m a s) (hm : m &&& 0x20008000002a = 0x20008000002a) :
    Same m a (State.sealStop s a1) := h.then hm (by
  have h := Same.refl 0x20008000002a s
  unfold State.sealStop
  extract_lets -merge -underBinder +onlyGivenNames x0
  have hx0 : Same 0x20008000002a s x0 := State.wr_same (State.setSeal_same h rfl) rfl
  try clear_value x0
  exact State.viewLog_same (State.enqueueLog_same hx0 rfl) rfl)

theorem State.sealFail_same {a s : State} {a1 : Nat} (h : Same m a s) (hm : m &&& 0x2001a000002a = 0x2001a000002a) :
    Same m a (State.sealFail s a1) := h.then hm (by
  have h := Same.refl 0x2001a000002a s
  unfold State.sealFail
  extract_lets -merge -underBinder +onlyGivenNames x0 x1
  have hx1 : Same 0x2001a000002a s x1 := Same.ite (State.errU_same (State.setLog_same h rfl) rfl rfl rfl rfl rfl rfl) h
  try clear_value x1
  exact State.sealStop_same hx1 rfl)

theorem State.sealKey_same {a s : State} (h : Same m a s) (hm : m &&& 0xa001a00000aa = 0xa001a00000aa) :
    Same m a (State.sealKey s) := h.then hm (by
  have h := Same.refl 0xa001a00000aa s
  unfold State.sealKey
  split
  · exact State.sealFail_same h rfl
  · extract_lets -merge -underBinder +onlyGivenNames x0
    refine Same.ite ?_ ?_
    · exact h
    · extract_lets -merge -underBinder +onlyGivenNames x1
      have hx1 : Same 0xa001a00000aa s x1.1 := State.loadKey_same1 h rfl
      try clear_value x1
      split
      · exact State.setSeal_same hx1 rfl
      · exact State.sealStop_same hx1 rfl)

theorem State.closeSeal_same {a s : State} (h : Same m a s) (hm : m &&& 0x2047a000002a = 0x2047a000002a) :
    Same m a (State.closeSeal s) := h.then hm (by
  have h := Same.refl 0x2047a000002a s
  unfold State.closeSeal
  split
  · exact State.sealFail_same h rfl
  · extract_lets -merge -underBinder +onlyGivenNames x0
    refine Same.ite ?_ ?_
    · extract_lets -merge -underBinder +onlyGivenNames x1
      have hx1 : Same 0x2047a000002a s x1 := State.emitRecord_same h rfl
      try clear_value x1
      exact State.setSeal_same hx1 rfl
    · exact h)

theorem State.cover_same {a s : State} {a1 : LogRec} (h : Same m a s) (hm : m &&& 0xa001a00000aa = 0xa001a00000aa) :
    Same m a (State.cover s a1) := h.then hm (by
  have h := Same.refl 0xa001a00000aa s
  unfold State.cover
  refine Same.ite ?_ ?_
  · exact h
  · extract_lets -merge -underBinder +onlyGivenNames x0
    have hx0 : Same 0xa001a00000aa s x0 := State.sealKey_same h rfl
    try clear_value x0
    refine Same.ite ?_ ?_
    · exact hx0
    · extract_lets -merge -underBinder +onlyGivenNames x1 x2
      exact State.setSeal_same hx0 rfl)

theorem execLogRecordOutput_same {a s : State} (h : Same m a s) (hm : m &&& 0xa047a00000aa = 0xa047a00000aa) :
    SameR m a (execLogRecordOutput s) := SameR.then h hm (by
  have h := Same.refl 0xa047a00000aa s
  unfold execLogRecordOutput
  exact onLogicIf_same h (fun _ k0 => (by
    refine Same.ite ?_ ?_
    · exact State.closeSeal_same k0 rfl
    · split
      · exact k0
      · extract_lets -merge -underBinder +onlyGivenNames x1 x2
        have hx2 : Same 0xa047a00000aa s x2 := State.setLog_same k0 rfl
        try clear_value x2
        exact Same.ite (State.fold_same (State.irq_same (State.bump_same hx2 rfl) rfl rfl rfl rfl) rfl) (Same.ite (State.emitRecord_same (State.cover_same hx2 rfl) rfl) (State.viewLog_same k0 rfl)))))

theorem execLogDataIrq_same {a s : State} (h : Same m a s) (hm : m &&& 0x20008000002a = 0x20008000002a) :
    SameR m a (execLogDataIrq s) := SameR.then h hm (by
  have h := Same.refl 0x20008000002a s
  unfold execLogDataIrq
  exact onLogicIf_same h (fun _ k0 => State.logAnnounce_same k0 rfl))

theorem execLogFrameSend_same {a s : State} (h : Same m a s) (hm : m &&& 0x20468000002a = 0x20468000002a) :
    SameR m a (execLogFrameSend s) := SameR.then h hm (by
  have h := Same.refl 0x20468000002a s
  unfold execLogFrameSend
  exact onLogicIf_same h (fun _ k0 => State.sendLogFrame_same k0 rfl))

theorem State.sealNow_same {a s : State} (h : Same m a s) (hm : m &&& 0x2047a000002a = 0x2047a000002a) :
    Same m a (State.sealNow s) := h.then hm (by
  have h := Same.refl 0x2047a000002a s
  unfold State.sealNow
  exact Same.ite (State.closeSeal_same (State.setSeal_same h rfl) rfl) h)

theorem execSealNow_same {a s : State} (h : Same m a s) (hm : m &&& 0x2047a000002a = 0x2047a000002a) :
    SameR m a (execSealNow s) := SameR.then h hm (by
  have h := Same.refl 0x2047a000002a s
  unfold execSealNow
  exact onLogicIf_same h (fun _ k0 => State.sealNow_same k0 rfl))

theorem State.reseal_same {a s : State} (h : Same m a s) (hm : m &&& 0xa001a00000aa = 0xa001a00000aa) :
    Same m a (State.reseal s) := h.then hm (by
  have h := Same.refl 0xa001a00000aa s
  unfold State.reseal
  extract_lets -merge -underBinder +onlyGivenNames x0
  exact Same.ite (State.viewLog_same (State.sealKey_same (State.setSeal_same (State.wr_same h rfl) rfl) rfl) rfl) h)

theorem execReseal_same {a s : State} (h : Same m a s) (hm : m &&& 0xa001a00000aa = 0xa001a00000aa) :
    SameR m a (execReseal s) := SameR.then h hm (by
  have h := Same.refl 0xa001a00000aa s
  unfold execReseal
  exact onLogicIf_same h (fun _ k0 => State.reseal_same k0 rfl))

theorem execSealClose_same {a s : State} (h : Same m a s) (hm : m &&& 0x2047a000002a = 0x2047a000002a) :
    SameR m a (execSealClose s) := SameR.then h hm (by
  have h := Same.refl 0x2047a000002a s
  unfold execSealClose
  exact onLogicIf_same h (fun _ k0 => State.closeSeal_same k0 rfl))

theorem execSealStop_same {a s : State} (h : Same m a s) (hm : m &&& 0x2001a000002a = 0x2001a000002a) :
    SameR m a (execSealStop s) := SameR.then h hm (by
  have h := Same.refl 0x2001a000002a s
  unfold execSealStop
  exact onLogicIf_same h (fun _ k0 => (by
    split
    · exact State.sealFail_same k0 rfl
    · exact k0)))

theorem State.sealErase_same {a s : State} (h : Same m a s) (hm : m &&& 0x20008000002a = 0x20008000002a) :
    Same m a (State.sealErase s) := h.then hm (by
  have h := Same.refl 0x20008000002a s
  unfold State.sealErase
  exact Same.ite (State.sealStop_same h rfl) h)

theorem execLogRingRpWrite_same {a s : State} {a0 : Nat} (h : Same m a s) (hm : m &&& 0x8000002a = 0x8000002a) :
    SameR m a (execLogRingRpWrite a0 s) := SameR.then h hm (by
  have h := Same.refl 0x8000002a s
  unfold execLogRingRpWrite
  exact onLogic_same h (fun _ k0 => State.viewLog_same (State.wr_same k0 rfl) rfl))

end Sys2Proof.Machine
end

