-- ==== Sys2Proof/Laws/KeepTide.lean ====
section
/-! SUPPORT. What the functions of Machine/Tide.lean can change, one lemma for each, with the canonical forms kept. -/

namespace Sys2Proof.Machine

variable {m : Nat}

theorem execTideStagingWrite_same {a s : State} {a0 : Nat} {a1 : List Nat} (h : Same m a s) (hm : m &&& 0x148000440a = 0x148000440a) :
    SameR m a (execTideStagingWrite a0 a1 s) := SameR.then h hm (by
  have h := Same.refl 0x148000440a s
  unfold execTideStagingWrite
  exact onLogicIf_same h (fun _ k0 => Same.ite k0 (State.stagingWrite_same k0 rfl)))

theorem execTidLoadDataWrite_same {a s : State} {a0 : Sys2Proof.Word} (h : Same m a s) (hm : m &&& 0x148000440a = 0x148000440a) :
    SameR m a (execTidLoadDataWrite a0 s) := SameR.then h hm (by
  have h := Same.refl 0x148000440a s
  unfold execTidLoadDataWrite
  exact onLogic_same h (fun _ k0 => (by
    extract_lets -merge -underBinder +onlyGivenNames x1
    exact Same.ite (State.tidReject_same k0 rfl) (State.wr_same (State.stagingWrite_same k0 rfl) rfl))))

theorem State.tidCmd_same {a s : State} {l : List Nat} {f : State → State} (h : Same m a s)
    (hf : ∀ t, Same m a t → Same m a (f t)) (hm : m &&& 0x400 = 0x400) : Same m a (s.tidCmd l f) :=
  Same.ite (hf _ h) (State.tidReject_same h hm)

theorem execVerify_same {a s : State} (h : Same m a s) (hm : m &&& 0x1000000400 = 0x1000000400) :
    SameR m a (execVerify s) := SameR.then h hm (by
  have h := Same.refl 0x1000000400 s
  unfold execVerify
  exact onLogic_same h (fun _ k0 => State.tidCmd_same k0 (fun _ k1 => State.setTid_same (State.setShadow_same k1 rfl) rfl (fun w v => ⟨w, v⟩)) rfl))

theorem execArm_same {a s : State} (h : Same m a s) (hm : m &&& 0x1000000400 = 0x1000000400) :
    SameR m a (execArm s) := SameR.then h hm (by
  have h := Same.refl 0x1000000400 s
  unfold execArm
  exact onLogic_same h (fun _ k0 => State.tidCmd_same k0 (fun _ k1 => State.setTid_same (State.setShadow_same k1 rfl) rfl (fun w v => ⟨w, v⟩)) rfl))

theorem execDisarm_same {a s : State} (h : Same m a s) (hm : m &&& 0x4400 = 0x4400) :
    SameR m a (execDisarm s) := SameR.then h hm (by
  have h := Same.refl 0x4400 s
  unfold execDisarm
  exact onLogic_same h (fun _ k0 => State.tidCmd_same k0 (fun _ k1 => State.hwm_same (State.setShadow_same k1 rfl) rfl) rfl))

theorem execTidSnapshot_same {a s : State} (h : Same m a s) (hm : m &&& 0x400 = 0x400) :
    SameR m a (execTidSnapshot s) := SameR.then h hm (by
  have h := Same.refl 0x400 s
  unfold execTidSnapshot
  exact onLogic_same h (fun _ k0 => (by
    extract_lets -merge -underBinder +onlyGivenNames x1 x2
    have hx2 : Same 0x400 s x2 := State.wr_same (State.wr_same k0 rfl) rfl
    try clear_value x2
    exact State.wr_same (State.wr_same hx2 rfl) rfl)))

theorem execFetch_same {a s : State} (h : Same m a s) (hm : m &&& 0x1080000400 = 0x1080000400) :
    SameR m a (execFetch s) := SameR.then h hm (by
  have h := Same.refl 0x1080000400 s
  unfold execFetch
  exact onLogic_same h (fun _ k0 => State.tidCmd_same k0 (fun _ k1 => Same.ite (State.out_same (State.setTid_same (State.wr_same (State.setShadow_same k1 rfl) rfl) rfl (fun w v => ⟨w, v⟩)) rfl) (State.tidReject_same k1 rfl)) rfl))

theorem State.fetched_same {a s : State} {a1 : List Nat} (h : Same m a s) (hm : m &&& 0x1400000400 = 0x1400000400) :
    Same m a (State.fetched s a1) := h.then hm (by
  have h := Same.refl 0x1400000400 s
  unfold State.fetched
  extract_lets -merge -underBinder +onlyGivenNames x0
  exact State.setShadow_same (State.wr_same (State.wr_same (State.shadowPut_same h rfl) rfl) rfl) rfl)

theorem execFetchDone_same {a s : State} {a0 : List Nat} (h : Same m a s) (hm : m &&& 0x148000040a = 0x148000040a) :
    SameR m a (execFetchDone a0 s) := SameR.then h hm (by
  have h := Same.refl 0x148000040a s
  unfold execFetchDone
  exact onLogicIf_same h (fun _ k0 => State.irq_same (State.fetched_same k0 rfl) rfl rfl rfl rfl))

theorem State.fetchFail_same {a s : State} {a1 : Nat} (h : Same m a s) (hm : m &&& 0x158000040a = 0x158000040a) :
    Same m a (State.fetchFail s a1) := h.then hm (by
  have h := Same.refl 0x158000040a s
  unfold State.fetchFail
  extract_lets -merge -underBinder +onlyGivenNames x0 x1 x2 x3 x4
  have hx2 : Same 0x158000040a s x2 := State.shadowPut_same h rfl
  have hx3 : Same 0x158000040a s x3 := (Same.put_freeCtr hx2 rfl)
  have hx4 : Same 0x158000040a s x4 := State.wr_same (State.wr_same (State.wr_same hx3 rfl) rfl) rfl
  try clear_value x2 x3 x4
  exact State.irq_same (State.setShadow_same hx4 rfl) rfl rfl rfl rfl)

theorem execFetchErr_same {a s : State} {a0 : Nat} (h : Same m a s) (hm : m &&& 0x158000040a = 0x158000040a) :
    SameR m a (execFetchErr a0 s) := SameR.then h hm (by
  have h := Same.refl 0x158000040a s
  unfold execFetchErr
  exact onLogicIf_same h (fun _ k0 => State.fetchFail_same (State.dmaReadErr_same k0 rfl) rfl))

theorem execClearShadow_same {a s : State} (h : Same m a s) (hm : m &&& 0x1400000400 = 0x1400000400) :
    SameR m a (execClearShadow s) := SameR.then h hm (by
  have h := Same.refl 0x1400000400 s
  unfold execClearShadow
  exact onLogic_same h (fun _ k0 => State.tidCmd_same k0 (fun _ k1 => State.setShadow_same (State.mapOwn_same (State.setTid_same k1 rfl (by first | exact fun w _ => ⟨w, rfl⟩ | exact fun _ w => ⟨w.1, rfl, w.2.2⟩)) rfl (by first | exact fun w _ => ⟨w, rfl⟩ | exact fun _ w => ⟨w.1, rfl, w.2.2⟩)) rfl) rfl))

theorem execEmit_same {a s : State} (h : Same m a s) (hm : m &&& 0x4096e000650a = 0x4096e000650a) :
    SameR m a (execEmit s) := SameR.then h hm (by
  have h := Same.refl 0x4096e000650a s
  unfold execEmit
  split
  · exact onLogic_same h (fun _ k0 => State.emit_same (State.setTid_same k0 rfl (fun w v => ⟨w, v⟩)) rfl)
  · exact actionRow_same h (fun _ _ _ k1 => Same.ite (State.emit_same k1 rfl) (State.setTid_same k1 rfl (fun w v => ⟨w, v⟩))) rfl)

theorem execGate_same {a s : State} (h : Same m a s) (hm : m &&& 0x42f6e011450a = 0x42f6e011450a) :
    SameR m a (execGate s) := SameR.then h hm (by
  have h := Same.refl 0x42f6e011450a s
  unfold execGate
  exact actionRow_same h (fun _ _ _ k0 => Same.ite (State.applyGate_same k0 rfl) k0) rfl)

theorem State.packFrame_same {a s : State} {a1 : Nat} {a2 : PduLayout} {a3 : Nat} (h : Same m a s) (hm : m &&& 0x83a000480a = 0x83a000480a) :
    Same m a (State.packFrame s a1 a2 a3) := h.then hm (by
  have h := Same.refl 0x83a000480a s
  unfold State.packFrame
  extract_lets -merge -underBinder +onlyGivenNames x0 x1
  have hx1 : Same 0x83a000480a s x1.1 := State.writePduFrame_same1 h rfl
  try clear_value x1
  split
  · exact State.errU_same h rfl rfl rfl rfl rfl rfl
  · extract_lets -merge -underBinder +onlyGivenNames x2
    exact State.setSgw_same hx1 rfl)

theorem execPack_same {a s : State} (h : Same m a s) (hm : m &&& 0x97a000490a = 0x97a000490a) :
    SameR m a (execPack s) := SameR.then h hm (by
  have h := Same.refl 0x97a000490a s
  unfold execPack
  exact actionRow_same h (fun _ _ _ k0 => (by
    extract_lets -merge -underBinder +onlyGivenNames x1
    split
    · exact k0
    · extract_lets -merge -underBinder +onlyGivenNames x2 x3 x5 x6 x7 x8
      have hx3 : Same 0x97a000490a s x3 := Same.foldl k0 (fun _ _ k4 => State.testMap_same k4 rfl)
      have hx8 : Same 0x97a000490a s x8 := State.setPdu_same hx3 rfl (fun w => Memory.wf_foldl (Memory.wf_puts _ _ w) fun _ _ v => Memory.wf_ite (Memory.wf_putBit v) v)
      try clear_value x3 x8
      exact State.packFrame_same (State.setSgw_same hx8 rfl) rfl)) rfl)

theorem execPackComplete_same {a s : State} (h : Same m a s) (hm : m &&& 0x4086e000480a = 0x4086e000480a) : SameR m a (execPackComplete s) :=
  onLogic_same h fun t k => by
    split
    · exact k
    · extract_lets -merge -underBinder +onlyGivenNames x1 x2 x3 x4
      have hx4 : Same m a x4 := State.bump_same (State.bump_same (State.setSgw_same k (sub_of hm rfl)) (bit_of hm rfl)) (bit_of hm rfl)
      clear_value x1 x4
      split
      · exact State.release_same (State.bump_same hx4 (bit_of hm rfl)) (sub_of hm rfl)
      · exact hx4

theorem execCheck_same {a s : State} (h : Same m a s) (hm : m &&& 0x148000250a = 0x148000250a) :
    SameR m a (execCheck s) := SameR.then h hm (by
  have h := Same.refl 0x148000250a s
  unfold execCheck
  exact actionRow_same h (fun _ _ _ k0 => (by
    extract_lets -merge -underBinder +onlyGivenNames x1
    exact Same.ite k0 (Same.ite (State.setTid_same k0 rfl (fun w v => ⟨w, v⟩)) (State.berthStat_same (State.irq_same (State.bump_same k0 rfl) rfl rfl rfl rfl) rfl)))) rfl)

theorem execTest_same {a s : State} (h : Same m a s) (hm : m &&& 0x108002050a = 0x108002050a) :
    SameR m a (execTest s) := SameR.then h hm (by
  have h := Same.refl 0x108002050a s
  unfold execTest
  exact actionRow_same h (fun _ _ _ k0 => (by
    extract_lets -merge -underBinder +onlyGivenNames x1
    refine Same.ite ?_ ?_
    · exact State.irq_same (State.bump_same k0 rfl) rfl rfl rfl rfl
    · extract_lets -merge -underBinder +onlyGivenNames x2 x3 x4
      have hx4 : Same 0x108002050a s x4 := State.setTid_same k0 rfl (fun w v => ⟨w, v⟩)
      try clear_value x4
      exact Same.ite (State.wr_same (State.wr_same hx4 (home_bit 17 rfl rfl)) (home_bit 17 rfl rfl)) hx4)) rfl)

theorem execMark_same {a s : State} (h : Same m a s) (hm : m &&& 0x10c000010a = 0x10c000010a) :
    SameR m a (execMark s) := SameR.then h hm (by
  have h := Same.refl 0x10c000010a s
  unfold execMark
  exact actionRow_same h (fun _ _ _ k0 => Same.ite (State.markAt_same k0 rfl) k0) rfl)

theorem execLowTideWindowEnd_same {a s : State} (h : Same m a s) (hm : m &&& 0x1000004000 = 0x1000004000) :
    SameR m a (execLowTideWindowEnd s) := SameR.then h hm (by
  have h := Same.refl 0x1000004000 s
  unfold execLowTideWindowEnd
  exact onLogic_same h (fun _ k0 => (by
    split
    · exact k0
    · extract_lets -merge -underBinder +onlyGivenNames x1 x2
      have hx2 : Same 0x1000004000 s x2 := State.setTid_same k0 rfl (fun w v => ⟨w, v⟩)
      try clear_value x2
      exact Same.ite (State.wr_same hx2 rfl) hx2)))

theorem execOccupancyReloadDone_same {a s : State} (h : Same m a s) (hm : m &&& 0x4096e000650a = 0x4096e000650a) :
    SameR m a (execOccupancyReloadDone s) := SameR.then h hm (by
  have h := Same.refl 0x4096e000650a s
  unfold execOccupancyReloadDone
  exact onLogicIf_same h (fun _ k0 => (by
    extract_lets -merge -underBinder +onlyGivenNames x1 x2 x3 x4
    have hx3 : Same 0x4096e000650a s x3 := State.setPlane_same k0 rfl (fun _ w => ⟨w.1, w.2.1, w.2.2⟩)
    try clear_value x3
    exact Same.foldl (State.setTid_same hx3 rfl (fun w v => ⟨w, v⟩)) (fun _ _ k5 => State.emit_same k5 rfl))))

end Sys2Proof.Machine
end

