-- ==== Sys2Proof/Laws/KeepHbrOps.lean ====
section
/-! SUPPORT. What the functions of Machine/HbrOps.lean can change, one lemma for each, with the canonical forms kept. -/

namespace Sys2Proof.Machine

variable {m : Nat}

theorem State.setHbr_same {a s : State} {a1 : HbrSt} (h : Same m a s) (hm : m &&& 0x1000000000000 = 0x1000000000000) :
    Same m a (State.setHbr s a1) := h.then hm (by
  have h := Same.refl 0x1000000000000 s
  unfold State.setHbr
  exact (Same.put_hbr h rfl))

theorem State.setPair_same {a s : State} {a1 : Nat} {a2 : PairSt} (h : Same m a s) (hm : m &&& 0x1000000000000 = 0x1000000000000) :
    Same m a (State.setPair s a1 a2) := h.then hm (by
  have h := Same.refl 0x1000000000000 s
  unfold State.setPair
  exact State.setHbr_same h rfl)

theorem State.viewHbr_same {a s : State} (h : Same m a s) (hm : m &&& 0x8000000a = 0x8000000a) :
    Same m a (State.viewHbr s) := h.then hm (by
  have h := Same.refl 0x8000000a s
  unfold State.viewHbr
  extract_lets -merge -underBinder +onlyGivenNames x0
  exact State.cond_same (State.cond_same h rfl rfl rfl rfl) rfl rfl rfl rfl)

theorem State.pairMessage_same {a s : State} {a1 : Nat} (h : Same m a s) (hm : m &&& 0x1000080000002 = 0x1000080000002) :
    Same m a (State.pairMessage s a1) := h.then hm (by
  have h := Same.refl 0x1000080000002 s
  unfold State.pairMessage
  exact State.msix_same (State.setPair_same h rfl) rfl rfl)

theorem State.cqWrite_same {a s : State} {a1 : Nat} {a2 : List Nat} (h : Same m a s) (hm : m &&& 0x1000080000002 = 0x1000080000002) :
    Same m a (State.cqWrite s a1 a2) := h.then hm (by
  have h := Same.refl 0x1000080000002 s
  unfold State.cqWrite
  extract_lets -merge -underBinder +onlyGivenNames x0 x1 x2 x3 x4 x5 x6
  have hx2 : Same 0x1000080000002 s x2 := State.out_same h rfl
  have hx3 : Same 0x1000080000002 s x3 := State.wr_same hx2 (home_bit 1 rfl rfl)
  have hx5 : Same 0x1000080000002 s x5 := State.setPair_same hx3 rfl
  try clear_value x2 x3 x5
  exact Same.ite (State.pairMessage_same hx5 rfl) hx5)

theorem State.gapBytes_same1 {a s : State} {a1 : Nat} {a2 : Sys2Proof.Gap} (h : Same m a s) (hm : m &&& 0x100000000 = 0x100000000) :
    Same m a (State.gapBytes s a1 a2).1 := h.then hm (by
  have h := Same.refl 0x100000000 s
  unfold State.gapBytes
  extract_lets -merge -underBinder +onlyGivenNames x0 x1 x2
  have hx0 : Same 0x100000000 s x0.1 := State.random_same1 h rfl
  try clear_value x0
  exact hx0)

theorem State.drainCq_same {a s : State} {n p : Nat} (h : Same m a s) (hm : m &&& 0x10001a000000a = 0x10001a000000a) :
    Same m a (State.drainCq n p s) := by
  induction n generalizing s with
  | zero => exact h
  | succ n ih =>
    unfold State.drainCq
    refine Same.ite h ?_
    extract_lets -merge -underBinder +onlyGivenNames x r
    split
    · exact h
    · exact ih (State.cqWrite_same (State.setPair_same h (sub_of hm rfl)) (sub_of hm rfl))
    · extract_lets -merge -underBinder +onlyGivenNames l y u z b
      have hy : Same m a y := State.setPair_same h (sub_of hm rfl)
      have hz : Same m a z := Same.ite (State.err_same (State.setHbr_same hy (sub_of hm rfl)) (bit_of hm rfl) (bit_of hm rfl)
        (bit_of hm rfl) (bit_of hm rfl) (bit_of hm rfl)) hy
      exact ih (State.cqWrite_same (State.gapBytes_same1 hz (sub_of hm rfl)) (sub_of hm rfl))

theorem State.complete_same {a s : State} {a1 : Nat} {a2 : Sys2Proof.CqEntry} (h : Same m a s) (hm : m &&& 0x10001a000000a = 0x10001a000000a) :
    Same m a (State.complete s a1 a2) := h.then hm (by
  have h := Same.refl 0x10001a000000a s
  unfold State.complete
  extract_lets -merge -underBinder +onlyGivenNames x0 x1
  have hx1 : Same 0x10001a000000a s x1 := State.setPair_same h rfl
  try clear_value x1
  exact State.drainCq_same hx1 rfl)

theorem State.takeBuf_same1 {a s : State} {a1 : Nat} {a2 : Option (List Nat)} (h : Same m a s) (hm : m &&& 0x8000000a = 0x8000000a) :
    Same m a (State.takeBuf s a1 a2).1 := h.then hm (by
  have h := Same.refl 0x8000000a s
  unfold State.takeBuf
  refine Same.ite1 ?_ ?_
  · exact h
  · split
    · exact State.viewHbr_same (State.dmaReadErr_same (State.wr_same h (home_bit 1 rfl rfl)) rfl) rfl
    · extract_lets -merge -underBinder +onlyGivenNames x0
      exact State.wr_same h (home_bit 1 rfl rfl))

theorem State.fillBufs_same1 {a s : State} {n : Nat} {bs : List Nat} {d : List (Option (List Nat))} {j : RxJob}
    (h : Same m a s) (hm : m &&& 0x100008000000a = 0x100008000000a) : Same m a (State.fillBufs n bs d s j).1 := by
  induction n generalizing s bs d j with
  | zero => exact h
  | succ n ih =>
    unfold State.fillBufs
    refine Same.ite1 h ?_
    split
    · refine Same.ite1 ?_ ?_
      · exact ih (State.out_same h (bit_of hm rfl))
      · extract_lets r
        have hr : Same m a r.1 := State.takeBuf_same1 h (sub_of hm rfl)
        split
        · exact hr
        · exact ih (State.setHbr_same hr (sub_of hm rfl))
    · extract_lets r
      have hr : Same m a r.1 := State.takeBuf_same1 h (sub_of hm rfl)
      split
      · exact hr
      · exact ih (State.setHbr_same hr (sub_of hm rfl))

theorem State.rxEnd_same {a s : State} {a1 : RxJob} {a2 : Nat} (h : Same m a s) (hm : m &&& 0x14087e000400a = 0x14087e000400a) :
    Same m a (State.rxEnd s a1 a2) := h.then hm (by
  have h := Same.refl 0x14087e000400a s
  unfold State.rxEnd
  extract_lets -merge -underBinder +onlyGivenNames x0 x1 x2 x3
  have hx3 : Same 0x14087e000400a s x3 := State.setHbr_same h rfl
  try clear_value x3
  exact State.release_same (Same.foldl hx3 (fun _ _ k4 => State.complete_same k4 rfl)) rfl)

theorem State.rxNoBuf_same {a s : State} {a1 : Nat} (h : Same m a s) (hm : m &&& 0x2 = 0x2) :
    Same m a (State.rxNoBuf s a1) := h.then hm (by
  have h := Same.refl 0x2 s
  unfold State.rxNoBuf
  exact State.bump_same (State.bump_same h (home_bit 1 rfl rfl)) rfl)

theorem State.rxDiscard_same {a s : State} {a1 : RxJob} (h : Same m a s) (hm : m &&& 0x14087e000400a = 0x14087e000400a) :
    Same m a (State.rxDiscard s a1) := h.then hm (by
  have h := Same.refl 0x14087e000400a s
  unfold State.rxDiscard
  exact State.rxEnd_same (State.bump_same (State.bump_same h (home_bit 1 rfl rfl)) rfl) rfl)

theorem State.rxGo_same {a s : State} {a1 : RxJob} {a2 : List (Option (List Nat))} (h : Same m a s) (hm : m &&& 0x14087e000400a = 0x14087e000400a) :
    Same m a (State.rxGo s a1 a2) := h.then hm (by
  have h := Same.refl 0x14087e000400a s
  unfold State.rxGo
  split
  · exact State.setHbr_same h rfl
  · extract_lets -merge -underBinder +onlyGivenNames x0
    refine Same.ite ?_ ?_
    · exact h
    · split
      · extract_lets -merge -underBinder +onlyGivenNames x1
        have hx1 : Same 0x14087e000400a s x1 := Same.ite (State.askRebuild_same h rfl) h
        try clear_value x1
        exact State.rxEnd_same (State.cellCrc_same hx1 rfl) rfl
      · refine Same.ite ?_ ?_
        · exact State.rxDiscard_same h rfl
        · extract_lets -merge -underBinder +onlyGivenNames x2 x3 x4 x5
          have hx3 : Same 0x14087e000400a s x3.1 := State.fillBufs_same1 h rfl
          have hx4 : Same 0x14087e000400a s x4 := hx3
          try clear_value x3 x4
          exact Same.ite (Same.ite (State.bump_same (State.rxEnd_same hx4 rfl) (home_bit 1 rfl rfl)) (State.setHbr_same hx4 rfl)) (Same.ite (State.release_same (State.setHbr_same (State.rxNoBuf_same hx4 rfl) rfl) rfl) (State.rxDiscard_same hx4 rfl)))

theorem State.rxStart_same {a s : State} {a1 : QItem} {a2 : List (Option (List Nat))} (h : Same m a s) (hm : m &&& 0x14087e000400a = 0x14087e000400a) :
    Same m a (State.rxStart s a1 a2) := h.then hm (by
  have h := Same.refl 0x14087e000400a s
  unfold State.rxStart
  extract_lets -merge -underBinder +onlyGivenNames x0 x1
  have hx1 : Same 0x14087e000400a s x1 := State.putInner_same h rfl
  try clear_value x1
  refine Same.ite ?_ ?_
  · exact State.release_same (State.rxNoBuf_same hx1 rfl) rfl
  · split
    · exact State.release_same (State.crcDrop_same (State.cellCrc_same hx1 rfl) rfl) rfl
    · extract_lets -merge -underBinder +onlyGivenNames x2 x3
      have hx2 : Same 0x14087e000400a s x2 := State.release_same (State.hold_same hx1 rfl) rfl
      try clear_value x2
      exact State.rxGo_same (State.setHbr_same hx2 rfl) rfl)

theorem State.txResult_same {a s : State} {a1 : Nat} {a2 : TxJob} {a3 : Sys2Proof.CqEntry} (h : Same m a s) (hm : m &&& 0x1000000000000 = 0x1000000000000) :
    Same m a (State.txResult s a1 a2 a3) := h.then hm (by
  have h := Same.refl 0x1000000000000 s
  unfold State.txResult
  exact State.setPair_same h rfl)

theorem State.txFail_same {a s : State} {a1 : Nat} {a2 : TxJob} {a3 : Nat} {a4 : Nat} (h : Same m a s) (hm : m &&& 0x1000100000000 = 0x1000100000000) :
    Same m a (State.txFail s a1 a2 a3 a4) := h.then hm (by
  have h := Same.refl 0x1000100000000 s
  unfold State.txFail
  extract_lets -merge -underBinder +onlyGivenNames x0 x1 x2
  have hx1 : Same 0x1000100000000 s x1 := State.useFresh_same h rfl
  try clear_value x1
  exact State.txResult_same (State.useFresh_same hx1 rfl) rfl)

theorem State.txLand_same {a s : State} {a1 : Nat} {a2 : TxJob} {a3 : List Nat} (h : Same m a s) (hm : m &&& 0x14087e000400a = 0x14087e000400a) :
    Same m a (State.txLand s a1 a2 a3) := h.then hm (by
  have h := Same.refl 0x14087e000400a s
  unfold State.txLand
  extract_lets -merge -underBinder +onlyGivenNames x0 x1
  refine Same.ite ?_ ?_
  · exact State.txFail_same h rfl
  · extract_lets -merge -underBinder +onlyGivenNames x2 x3 x4 x5
    have hx3 : Same 0x14087e000400a s x3 := State.putIngr_same h rfl
    have hx5 : Same 0x14087e000400a s x5.1 := State.landFrame_same1 hx3 rfl
    try clear_value x3 x5
    split
    · exact State.txFail_same hx5 rfl
    · extract_lets -merge -underBinder +onlyGivenNames x6 x7
      have hx7 : Same 0x14087e000400a s x7.1 := State.pushDesc_same1 hx5 rfl
      try clear_value x7
      refine Same.ite ?_ ?_
      · extract_lets -merge -underBinder +onlyGivenNames x8 x9
        have hx8 : Same 0x14087e000400a s x8 := State.bump_same hx7 (home_bit 1 rfl rfl)
        try clear_value x8
        exact State.txResult_same (State.useFresh_same hx8 rfl) rfl
      · exact State.txFail_same hx7 rfl)

theorem State.readFails_same {a s : State} {a1 : Sys2Proof.ReadReq} (h : Same m a s) (hm : m &&& 0x140158000044a = 0x140158000044a) :
    Same m a (State.readFails s a1) := h.then hm (by
  have h := Same.refl 0x140158000044a s
  unfold State.readFails
  split
  · split
    · exact Same.ite (State.txFail_same (State.dmaReadErr_same h rfl) rfl) h
    · exact h
  · exact Same.ite (State.fetchFail_same (State.dmaReadErr_same (State.useFresh_same h rfl) rfl) rfl) h
  · split
    · exact State.hostErr_same (State.dmaReadErr_same h rfl) rfl
    · exact h)

theorem State.ringEnable_same {a s : State} {a1 : Nat} {a2 : Bool} {a3 : Bool} (h : Same m a s) (hm : m &&& 0x10000801fffff = 0x10000801fffff) :
    Same m a (State.ringEnable s a1 a2 a3) := h.then hm (by
  have h := Same.refl 0x10000801fffff s
  unfold State.ringEnable
  extract_lets -merge -underBinder +onlyGivenNames x0 x1
  refine Same.ite ?_ ?_
  · extract_lets -merge -underBinder +onlyGivenNames x2 x3 x4 x5 x6 x7
    have hx2 : Same 0x10000801fffff s x2 := State.wr_same (State.wr_same h (any_home rfl)) (any_home rfl)
    have hx3 : Same 0x10000801fffff s x3 := State.wr_same (State.wr_same hx2 (any_home rfl)) (any_home rfl)
    have hx5 : Same 0x10000801fffff s x5 := Same.ite hx3 (State.setPair_same hx3 rfl)
    have hx7 : Same 0x10000801fffff s x7 := Same.ite hx5 (State.setPair_same (State.wr_same (State.wr_same hx5 (home_bit 1 rfl rfl)) (home_bit 1 rfl rfl)) rfl)
    try clear_value x2 x3 x5 x7
    exact State.viewHbr_same hx7 rfl
  · exact State.setB_same h (any_home rfl))

theorem State.endReads_same {a s : State} (h : Same m a s) (hm : m &&& 0x140158000044a = 0x140158000044a) :
    Same m a (State.endReads s) := h.then hm (by
  have h := Same.refl 0x140158000044a s
  unfold State.endReads
  extract_lets -merge -underBinder +onlyGivenNames x0 x2
  have hx0 : Same 0x140158000044a s x0 := Same.foldl h (fun _ _ k1 => (by
    split
    · exact Same.ite (State.txFail_same k1 rfl) k1
    · exact k1))
  have hx2 : Same 0x140158000044a s x2 := Same.ite (State.fetchFail_same (State.useFresh_same hx0 rfl) rfl) hx0
  try clear_value x0 x2
  exact Same.foldl hx2 (fun _ _ k3 => (by
    split
    · exact State.hostErr_same k3 rfl
    · exact k3)))

theorem State.freeSems_same {a s : State} {a1 : Nat} (h : Same m a s) (hm : m &&& 0x1000000000002 = 0x1000000000002) :
    Same m a (State.freeSems s a1) := h.then hm (by
  have h := Same.refl 0x1000000000002 s
  unfold State.freeSems
  exact Same.foldl h (fun _ _ k0 => Same.ite (State.setHbr_same (State.wr_same k0 (home_bit 1 rfl rfl)) rfl) k0))

theorem State.ringsOff_same {a s : State} (h : Same m a s) (hm : m &&& 0x14086e000400a = 0x14086e000400a) :
    Same m a (State.ringsOff s) := h.then hm (by
  have h := Same.refl 0x14086e000400a s
  unfold State.ringsOff
  extract_lets -merge -underBinder +onlyGivenNames x0
  have hx0 : Same 0x14086e000400a s x0 := Same.foldl h (fun _ _ k1 => State.wr_same (State.wr_same k1 (home_bit 1 rfl rfl)) (home_bit 1 rfl rfl))
  try clear_value x0
  split
  · extract_lets -merge -underBinder +onlyGivenNames x2
    have hx2 : Same 0x14086e000400a s x2 := State.bump_same (State.bump_same hx0 (home_bit 1 rfl rfl)) rfl
    try clear_value x2
    exact State.release_same (State.setHbr_same hx2 rfl) rfl
  · exact hx0)

theorem State.linkReset_same {a s : State} (h : Same m a s) (hm : m &&& 0x14097e000444a = 0x14097e000444a) :
    Same m a (State.linkReset s) := h.then hm (by
  have h := Same.refl 0x14097e000444a s
  unfold State.linkReset
  extract_lets -merge -underBinder +onlyGivenNames x0 x1
  have hx0 : Same 0x14097e000444a s x0 := State.ringsOff_same h rfl
  have hx1 : Same 0x14097e000444a s x1 := Same.foldl hx0 (fun _ _ k2 => State.wr_same k2 (home_bit 1 rfl rfl))
  try clear_value x0 x1
  exact State.viewHbr_same (State.irq_same (State.bump_same (State.endReads_same (State.freeSems_same hx1 rfl) rfl) rfl) rfl rfl rfl rfl) rfl)

theorem State.msixPending_same {a s : State} (h : Same m a s) (hm : m &&& 0x80000002 = 0x80000002) :
    Same m a (State.msixPending s) := h.then hm (by
  have h := Same.refl 0x80000002 s
  unfold State.msixPending
  exact Same.ite h (Same.foldl h (fun _ _ k0 => Same.ite (State.out_same (State.wr_same k0 (home_bit 1 rfl rfl)) rfl) k0)))

theorem State.hostBack_same {a s : State} (h : Same m a s) (hm : m &&& 0x10001a000000a = 0x10001a000000a) :
    Same m a (State.hostBack s) := h.then hm (by
  have h := Same.refl 0x10001a000000a s
  unfold State.hostBack
  exact Same.foldl (State.msixPending_same h rfl) (fun _ _ k0 => State.drainCq_same k0 rfl))

end Sys2Proof.Machine
end

