-- ==== Sys2Proof/Laws/KeepHbr.lean ====
section
/-! SUPPORT. What the functions of Machine/Hbr.lean can change, one lemma for each, with the canonical forms kept. -/

namespace Sys2Proof.Machine

variable {m : Nat}

theorem execPcieLinkUp_same {a s : State} {a0 : Nat} {a1 : Nat} (h : Same m a s) (hm : m &&& 0x10001a000000a = 0x10001a000000a) :
    SameR m a (execPcieLinkUp a0 a1 s) := SameR.then h hm (by
  have h := Same.refl 0x10001a000000a s
  unfold execPcieLinkUp
  exact onLogicIf_same h (fun _ k0 => State.hostBack_same (State.viewHbr_same (State.wr_same (State.wr_same (State.wr_same k0 rfl) rfl) rfl) rfl) rfl))

theorem execPcieLinkDown_same {a s : State} (h : Same m a s) (hm : m &&& 0x14097e000444a = 0x14097e000444a) :
    SameR m a (execPcieLinkDown s) := SameR.then h hm (by
  have h := Same.refl 0x14097e000444a s
  unfold execPcieLinkDown
  exact onLogicIf_same h (fun _ k0 => (by
    extract_lets -merge -underBinder +onlyGivenNames x1
    have hx1 : Same 0x14097e000444a s x1 := State.wr_same (State.wr_same (State.wr_same k0 rfl) rfl) rfl
    try clear_value x1
    exact State.linkReset_same (State.wr_same (State.wr_same hx1 rfl) rfl) rfl)))

theorem execHotReset_same {a s : State} (h : Same m a s) (hm : m &&& 0x14097e000444a = 0x14097e000444a) :
    SameR m a (execHotReset s) := SameR.then h hm (by
  have h := Same.refl 0x14097e000444a s
  unfold execHotReset
  exact onLogicIf_same h (fun _ k0 => State.linkReset_same (State.wr_same (State.wr_same k0 rfl) rfl) rfl))

theorem execFunctionLevelReset_same {a s : State} (h : Same m a s) (hm : m &&& 0x14097e000444a = 0x14097e000444a) :
    SameR m a (execFunctionLevelReset s) := SameR.then h hm (by
  have h := Same.refl 0x14097e000444a s
  unfold execFunctionLevelReset
  exact onLogicIf_same h (fun _ k0 => State.linkReset_same (State.wr_same (State.wr_same k0 rfl) rfl) rfl))

theorem execBusMasterDisable_same {a s : State} (h : Same m a s) (hm : m &&& 0x14097e000444a = 0x14097e000444a) :
    SameR m a (execBusMasterDisable s) := SameR.then h hm (by
  have h := Same.refl 0x14097e000444a s
  unfold execBusMasterDisable
  exact onLogicIf_same h (fun _ k0 => State.linkReset_same (State.wr_same k0 rfl) rfl))

theorem execD3hotEntry_same {a s : State} (h : Same m a s) (hm : m &&& 0x2 = 0x2) :
    SameR m a (execD3hotEntry s) := SameR.then h hm (by
  have h := Same.refl 0x2 s
  unfold execD3hotEntry
  exact onLogicIf_same h (fun _ k0 => State.wr_same k0 rfl))

theorem execD0Return_same {a s : State} (h : Same m a s) (hm : m &&& 0x10001a000000a = 0x10001a000000a) :
    SameR m a (execD0Return s) := SameR.then h hm (by
  have h := Same.refl 0x10001a000000a s
  unfold execD0Return
  exact onLogicIf_same h (fun _ k0 => State.hostBack_same (State.wr_same k0 rfl) rfl))

theorem execLockedRead_same {a s : State} {a0 : Nat} (h : Same m a s) (hm : m &&& 0x80000002 = 0x80000002) :
    SameR m a (execLockedRead a0 s) := SameR.then h hm (by
  have h := Same.refl 0x80000002 s
  unfold execLockedRead
  exact onLogicIf_same h (fun _ k0 => State.out_same (State.bump_same k0 rfl) rfl))

theorem execHostReadTimeout_same {a s : State} {a0 : Nat} (h : Same m a s) (hm : m &&& 0x1a000000a = 0x1a000000a) :
    SameR m a (execHostReadTimeout a0 s) := SameR.then h hm (by
  have h := Same.refl 0x1a000000a s
  unfold execHostReadTimeout
  exact onLogicIf_same h (fun _ k0 => State.out_same (State.errU_same (State.bump_same k0 rfl) rfl rfl rfl rfl rfl rfl) rfl))

theorem execD2dLinkFailure_same {a s : State} {a0 : Bool} (h : Same m a s) (hm : m &&& 0x1a000000a = 0x1a000000a) :
    SameR m a (execD2dLinkFailure a0 s) := SameR.then h hm (by
  have h := Same.refl 0x1a000000a s
  unfold execD2dLinkFailure
  exact onLogic_same h (fun _ k0 => (by
    extract_lets -merge -underBinder +onlyGivenNames x1
    have hx1 : Same 0x1a000000a s x1 := Same.ite k0 (Same.foldl k0 (fun _ _ k2 => State.bump_same (State.corrected_same k2 rfl rfl rfl rfl) rfl))
    try clear_value x1
    exact State.errU_same hx1 rfl rfl rfl rfl rfl rfl)))

theorem State.semTake_same {a s : State} {a1 : Nat} {a2 : Sys2Proof.Master} (h : Same m a s) (hm : m &&& 0x1000000000002 = 0x1000000000002) :
    Same m a (State.semTake s a1 a2) := h.then hm (by
  have h := Same.refl 0x1000000000002 s
  unfold State.semTake
  exact State.setHbr_same (State.wr_same h (home_bit 1 rfl rfl)) rfl)

theorem execSemAcquire_same {a s : State} {a0 : Nat} {a1 : Option Sys2Proof.Master} (h : Same m a s) (hm : m &&& 0x1000000000002 = 0x1000000000002) :
    SameR m a (execSemAcquire a0 a1 s) := SameR.then h hm (by
  have h := Same.refl 0x1000000000002 s
  unfold execSemAcquire
  exact onLogicIf_same h (fun _ k0 => (by
    split
    · exact State.semTake_same k0 rfl
    · exact State.setHbr_same (State.semTake_same k0 rfl) rfl)))

theorem execSemRelease_same {a s : State} {a0 : Nat} {a1 : Sys2Proof.Master} (h : Same m a s) (hm : m &&& 0x1000000000002 = 0x1000000000002) :
    SameR m a (execSemRelease a0 a1 s) := SameR.then h hm (by
  have h := Same.refl 0x1000000000002 s
  unfold execSemRelease
  exact onLogicIf_same h (fun _ k0 => (by
    extract_lets -merge -underBinder +onlyGivenNames x1
    exact Same.ite (State.setHbr_same (State.wr_same k0 (home_bit 1 rfl rfl)) rfl) (Same.ite k0 (State.bump_same k0 rfl)))))

theorem execSemTimeout_same {a s : State} {a0 : Nat} (h : Same m a s) (hm : m &&& 0x100008000000a = 0x100008000000a) :
    SameR m a (execSemTimeout a0 s) := SameR.then h hm (by
  have h := Same.refl 0x100008000000a s
  unfold execSemTimeout
  extract_lets -merge -underBinder +onlyGivenNames x0
  exact onLogicIf_same h (fun _ k1 => (by
    extract_lets -merge -underBinder +onlyGivenNames x2 x3
    have hx3 : Same 0x100008000000a s x3 := State.setHbr_same (State.wr_same k1 (home_bit 1 rfl rfl)) rfl
    try clear_value x3
    exact State.bump_same (State.irq_same (State.wr_same hx3 (home_bit 1 rfl rfl)) rfl rfl rfl rfl) rfl)))

theorem execIq0RxFrame_same {a s : State} {a0 : List (Option (List Nat))} (h : Same m a s) (hm : m &&& 0x14087e000400a = 0x14087e000400a) :
    SameR m a (execIq0RxFrame a0 s) := SameR.then h hm (by
  have h := Same.refl 0x14087e000400a s
  unfold execIq0RxFrame
  exact onLogic_same h (fun _ k0 => (by
    split
    · exact State.rxGo_same k0 rfl
    · split
      · exact State.rxStart_same k0 rfl
      · exact k0)))

theorem execRxAuthZero_same {a s : State} (h : Same m a s) (hm : m &&& 0x14087e000400a = 0x14087e000400a) :
    SameR m a (execRxAuthZero s) := SameR.then h hm (by
  have h := Same.refl 0x14087e000400a s
  unfold execRxAuthZero
  exact onLogic_same h (fun _ k0 => (by
    split
    · exact k0
    · refine Same.ite ?_ ?_
      · extract_lets -merge -underBinder +onlyGivenNames x1
        have hx1 : Same 0x14087e000400a s x1 := Same.foldl k0 (fun _ _ k2 => State.out_same k2 rfl)
        try clear_value x1
        exact State.irq_same (State.bump_same (State.rxEnd_same hx1 rfl) rfl) rfl rfl rfl rfl
      · exact k0)))

theorem execTxDescriptorFetch_same {a s : State} {a0 : Nat} {a1 : List Nat} (h : Same m a s) (hm : m &&& 0x1000180000000 = 0x1000180000000) :
    SameR m a (execTxDescriptorFetch a0 a1 s) := SameR.then h hm (by
  have h := Same.refl 0x1000180000000 s
  unfold execTxDescriptorFetch
  exact onLogicIf_same h (fun _ k0 => (by
    extract_lets -merge -underBinder +onlyGivenNames x1 x2 x3 x4 x5
    have hx5 : Same 0x1000180000000 s x5 := State.setHbr_same (State.setPair_same k0 rfl) rfl
    try clear_value x5
    exact Same.ite (State.txFail_same hx5 rfl) (State.out_same hx5 rfl))))

theorem execDmaReadCompletion_same {a s : State} {a0 : Sys2Proof.ReadReq} {a1 : Option (List Nat)} (h : Same m a s) (hm : m &&& 0x14097e000444a = 0x14097e000444a) :
    SameR m a (execDmaReadCompletion a0 a1 s) := SameR.then h hm (by
  have h := Same.refl 0x14097e000444a s
  unfold execDmaReadCompletion
  exact onLogic_same h (fun _ k0 => (by
    split
    · exact State.readFails_same k0 rfl
    · split
      · split
        · exact Same.ite (State.txLand_same k0 rfl) k0
        · exact k0
      · exact k0)))

theorem execDmaReadTimeout_same {a s : State} {a0 : Sys2Proof.ReadReq} (h : Same m a s) (hm : m &&& 0x140158000044a = 0x140158000044a) :
    SameR m a (execDmaReadTimeout a0 s) := SameR.then h hm (by
  have h := Same.refl 0x140158000044a s
  unfold execDmaReadTimeout
  exact onLogicIf_same h (fun _ k0 => State.readFails_same k0 rfl))

theorem execTxCompletion_same {a s : State} {a0 : Nat} (h : Same m a s) (hm : m &&& 0x10001a000000a = 0x10001a000000a) :
    SameR m a (execTxCompletion a0 s) := SameR.then h hm (by
  have h := Same.refl 0x10001a000000a s
  unfold execTxCompletion
  exact onLogic_same h (fun _ k0 => (by
    split
    · split
      · extract_lets -merge -underBinder +onlyGivenNames x1 x2
        have hx2 : Same 0x10001a000000a s x2 := State.wr_same (State.setPair_same k0 rfl) (home_bit 1 rfl rfl)
        try clear_value x2
        exact Same.ite hx2 (State.complete_same hx2 rfl)
      · exact k0
    · exact k0)))

theorem execTxTailWrite_same {a s : State} {a0 : Nat} {a1 : Nat} (h : Same m a s) (hm : m &&& 0x2 = 0x2) :
    SameR m a (execTxTailWrite a0 a1 s) := SameR.then h hm (by
  have h := Same.refl 0x2 s
  unfold execTxTailWrite
  exact onLogicIf_same h (fun _ k0 => State.wr_same k0 (home_bit 1 rfl rfl)))

theorem execRxTailWrite_same {a s : State} {a0 : Nat} {a1 : Nat} (h : Same m a s) (hm : m &&& 0x2 = 0x2) :
    SameR m a (execRxTailWrite a0 a1 s) := SameR.then h hm (by
  have h := Same.refl 0x2 s
  unfold execRxTailWrite
  exact onLogicIf_same h (fun _ k0 => State.wr_same k0 (home_bit 1 rfl rfl)))

theorem State.cqRpWrite_same {a s : State} {a1 : Nat} {a2 : Nat} (h : Same m a s) (hm : m &&& 0x1000080000002 = 0x1000080000002) :
    Same m a (State.cqRpWrite s a1 a2) := h.then hm (by
  have h := Same.refl 0x1000080000002 s
  unfold State.cqRpWrite
  extract_lets -merge -underBinder +onlyGivenNames x0
  have hx0 : Same 0x1000080000002 s x0 := State.wr_same h (home_bit 1 rfl rfl)
  try clear_value x0
  exact Same.ite (State.pairMessage_same hx0 rfl) hx0)

theorem execCqRpWrite_same {a s : State} {a0 : Nat} {a1 : Nat} (h : Same m a s) (hm : m &&& 0x1000080000002 = 0x1000080000002) :
    SameR m a (execCqRpWrite a0 a1 s) := SameR.then h hm (by
  have h := Same.refl 0x1000080000002 s
  unfold execCqRpWrite
  exact onLogicIf_same h (fun _ k0 => State.cqRpWrite_same k0 rfl))

theorem State.ringEnables_same {a s : State} {a1 : Nat} {a2 : Bool} {a3 : Bool} (h : Same m a s) (hm : m &&& 0x10000801fffff = 0x10000801fffff) :
    Same m a (State.ringEnables s a1 a2 a3) := h.then hm (by
  have h := Same.refl 0x10000801fffff s
  unfold State.ringEnables
  extract_lets -merge -underBinder +onlyGivenNames x0
  exact Same.ite (State.ringEnable_same (State.ringEnable_same h rfl) rfl) (Same.ite (State.ringEnable_same (State.ringEnable_same h rfl) rfl) (Same.ite (State.ringEnable_same (State.ringEnable_same h rfl) rfl) (State.ringEnable_same (State.ringEnable_same h rfl) rfl))))

theorem execRingEnableWrite_same {a s : State} {a0 : Nat} {a1 : Bool} {a2 : Bool} (h : Same m a s) (hm : m &&& 0x10000801fffff = 0x10000801fffff) :
    SameR m a (execRingEnableWrite a0 a1 a2 s) := SameR.then h hm (by
  have h := Same.refl 0x10000801fffff s
  unfold execRingEnableWrite
  exact onLogicIf_same h (fun _ k0 => State.ringEnables_same k0 rfl))

theorem execRingHalt_same {a s : State} {a0 : Nat} {a1 : Bool} (h : Same m a s) (hm : m &&& 0x801fffff = 0x801fffff) :
    SameR m a (execRingHalt a0 a1 s) := SameR.then h hm (by
  have h := Same.refl 0x801fffff s
  unfold execRingHalt
  exact onLogicIf_same h (fun _ k0 => (by
    extract_lets -merge -underBinder +onlyGivenNames x1
    have hx1 : Same 0x801fffff s x1 := State.wr_same k0 (any_home rfl)
    try clear_value x1
    exact State.viewHbr_same (State.dmaReadErr_same hx1 rfl) rfl)))

theorem execRingCoalTimeout_same {a s : State} {a0 : Nat} (h : Same m a s) (hm : m &&& 0x1000080000002 = 0x1000080000002) :
    SameR m a (execRingCoalTimeout a0 s) := SameR.then h hm (by
  have h := Same.refl 0x1000080000002 s
  unfold execRingCoalTimeout
  exact onLogicIf_same h (fun _ k0 => State.pairMessage_same k0 rfl))

end Sys2Proof.Machine
end

