-- ==== Sys2Proof/Laws/KeepHckOps.lean ====
section
/-! SUPPORT. What the functions of Machine/HckOps.lean can change, one lemma for each, with the canonical forms kept. -/

namespace Sys2Proof.Machine

variable {m : Nat}

theorem State.crossCheck_same {a s : State} {a1 : Nat} {a2 : Nat} {a3 : Nat} (h : Same m a s) (hm : m &&& 0x1000a000001a = 0x1000a000001a) :
    Same m a (State.crossCheck s a1 a2 a3) := h.then hm (by
  have h := Same.refl 0x1000a000001a s
  unfold State.crossCheck
  refine Same.ite ?_ ?_
  · exact h
  · extract_lets -merge -underBinder +onlyGivenNames x0 x1 x2
    have hx1 : Same 0x1000a000001a s x1 := State.wr_same h (home_bit 4 rfl rfl)
    try clear_value x1
    refine Same.ite ?_ ?_
    · exact State.setHck_same hx1 rfl
    · extract_lets -merge -underBinder +onlyGivenNames x3 x4 x5
      have hx5 : Same 0x1000a000001a s x5 := State.setHck_same (State.bump_same hx1 rfl) rfl
      try clear_value x5
      exact Same.ite (State.err_same (State.wr_same hx5 (home_bit 4 rfl rfl)) rfl rfl rfl rfl rfl) hx5)

theorem State.switchPath_same {a s : State} {a1 : Nat} (h : Same m a s) (hm : m &&& 0x1000c000001a = 0x1000c000001a) :
    Same m a (State.switchPath s a1) := h.then hm (by
  have h := Same.refl 0x1000c000001a s
  unfold State.switchPath
  extract_lets -merge -underBinder +onlyGivenNames x0 x1 x2 x3
  have hx2 : Same 0x1000c000001a s x2 := State.setHck_same (State.setB_same h (home_bit 4 rfl rfl)) rfl
  have hx3 : Same 0x1000c000001a s x3 := State.setB_same hx2 rfl
  try clear_value x2 x3
  exact State.log_same (State.irq_same (State.bump_same hx3 rfl) rfl rfl rfl rfl) rfl)

theorem State.servoTo_same {a s : State} {a1 : Nat} (h : Same m a s) (hm : m &&& 0x10008000001a = 0x10008000001a) :
    Same m a (State.servoTo s a1) := h.then hm (by
  have h := Same.refl 0x10008000001a s
  unfold State.servoTo
  extract_lets -merge -underBinder +onlyGivenNames x0 x1 x2
  have hx1 : Same 0x10008000001a s x1 := Same.ite (State.wr_same h rfl) h
  have hx2 : Same 0x10008000001a s x2 := Same.ite (State.wr_same hx1 rfl) hx1
  try clear_value x1 x2
  refine Same.ite ?_ ?_
  · exact hx2
  · extract_lets -merge -underBinder +onlyGivenNames x3 x4
    have hx4 : Same 0x10008000001a s x4 := Same.ite (State.setHck_same hx2 rfl) hx2
    try clear_value x4
    exact State.cond_same (State.cond_same (State.irq_same (State.wr_same hx4 rfl) rfl rfl rfl rfl) rfl rfl rfl rfl) rfl rfl rfl rfl)

theorem State.steer_same {a s : State} {a1 : Int} {a2 : Nat} (h : Same m a s) (hm : m &&& 0x10 = 0x10) :
    Same m a (State.steer s a1 a2) := h.then hm (by
  have h := Same.refl 0x10 s
  unfold State.steer
  extract_lets -merge -underBinder +onlyGivenNames x0 x1 x2 x3 x4 x5 x6 x7 x8 x9
  have hx9 : Same 0x10 s x9 := State.wr_same h rfl
  try clear_value x9
  exact State.wr_same hx9 rfl)

theorem State.countMeas_same {a s : State} {a1 : Int} (h : Same m a s) (hm : m &&& 0x100000000000 = 0x100000000000) :
    Same m a (State.countMeas s a1) := h.then hm (by
  have h := Same.refl 0x100000000000 s
  unfold State.countMeas
  exact State.setHck_same h rfl)

theorem State.gmChange_same {a s : State} (h : Same m a s) (hm : m &&& 0x8000001a = 0x8000001a) :
    Same m a (State.gmChange s) := h.then hm (by
  have h := Same.refl 0x8000001a s
  unfold State.gmChange
  exact State.wr_same (State.bump_same (State.irq_same h rfl rfl rfl rfl) rfl) rfl)

theorem State.servoMeas_same {a s : State} {a1 : Int} {a2 : Nat} {a3 : Bool} (h : Same m a s) (hm : m &&& 0x10008000001a = 0x10008000001a) :
    Same m a (State.servoMeas s a1 a2 a3) := h.then hm (by
  have h := Same.refl 0x10008000001a s
  unfold State.servoMeas
  extract_lets -merge -underBinder +onlyGivenNames x0
  refine Same.ite ?_ ?_
  · exact State.servoTo_same (State.steer_same (State.countMeas_same (State.gmChange_same h rfl) rfl) rfl) rfl
  · refine Same.ite ?_ ?_
    · exact h
    · extract_lets -merge -underBinder +onlyGivenNames x1
      have hx1 : Same 0x10008000001a s x1 := State.steer_same (State.countMeas_same h rfl) rfl
      try clear_value x1
      exact Same.ite (State.servoTo_same hx1 rfl) (Same.ite (State.servoTo_same hx1 rfl) (Same.ite (Same.ite (State.servoTo_same hx1 rfl) hx1) (Same.ite (State.servoTo_same hx1 rfl) hx1))))

theorem State.pendStep_same {a s : State} {a1 : StepReq} (h : Same m a s) (hm : m &&& 0x100000000010 = 0x100000000010) :
    Same m a (State.pendStep s a1) := h.then hm (by
  have h := Same.refl 0x100000000010 s
  unfold State.pendStep
  exact State.wr_same (State.setHck_same h rfl) rfl)

theorem State.measure_same {a s : State} {a1 : Int} {a2 : Nat} {a3 : Bool} (h : Same m a s) (hm : m &&& 0x10008000001a = 0x10008000001a) :
    Same m a (State.measure s a1 a2 a3) := h.then hm (by
  have h := Same.refl 0x10008000001a s
  unfold State.measure
  extract_lets -merge -underBinder +onlyGivenNames x0 x1 x2
  have hx0 : Same 0x10008000001a s x0 := State.wr_same h rfl
  have hx2 : Same 0x10008000001a s x2 := State.setHck_same hx0 rfl
  try clear_value x0 x2
  refine Same.ite ?_ ?_
  · exact State.servoMeas_same hx2 rfl
  · extract_lets -merge -underBinder +onlyGivenNames x3
    have hx3 : Same 0x10008000001a s x3 := State.servoTo_same hx2 rfl
    try clear_value x3
    exact Same.ite (State.pendStep_same (State.setHck_same hx3 rfl) rfl) hx3)

theorem State.shiftTimes_same {a s : State} {a1 : Int} (h : Same m a s) (hm : m &&& 0x109000000000 = 0x109000000000) :
    Same m a (State.shiftTimes s a1) := h.then hm (by
  have h := Same.refl 0x109000000000 s
  unfold State.shiftTimes
  extract_lets -merge -underBinder +onlyGivenNames x0 x1 x2 x3 x4
  have hx2 : Same 0x109000000000 s x2 := State.setSgw_same h rfl
  have hx4 : Same 0x109000000000 s x4 := State.setTid_same hx2 rfl (fun w v => ⟨w, v⟩)
  try clear_value x2 x4
  exact State.setHck_same hx4 rfl)

theorem State.applyStep_same {a s : State} {a1 : StepReq} (h : Same m a s) (hm : m &&& 0x5097ec11441a = 0x5097ec11441a) :
    Same m a (State.applyStep s a1) := h.then hm (by
  have h := Same.refl 0x5097ec11441a s
  unfold State.applyStep
  extract_lets -merge -underBinder +onlyGivenNames x0 x1 x2 x3 x4 x5 x6 x7 x8 x9 x10 x11 x12 x13 x14 x15
  have hx1 : Same 0x5097ec11441a s x1 := Same.ite (State.leaveRunning_same h rfl) h
  have hx7 : Same 0x5097ec11441a s x7 := Same.ite hx1 (State.useFresh_same hx1 rfl)
  have hx8 : Same 0x5097ec11441a s x8 := State.shiftTimes_same (State.ppsLow_same hx7 rfl) rfl
  have hx10 : Same 0x5097ec11441a s x10 := State.setHck_same (Same.put_count hx8 rfl) rfl
  have hx12 : Same 0x5097ec11441a s x12 := (Same.put_bnd hx10 rfl)
  have hx13 : Same 0x5097ec11441a s x13 := State.bump_same (State.wr_same (State.wr_same hx12 rfl) rfl) rfl
  have hx15 : Same 0x5097ec11441a s x15 := State.log_same (State.irq_same hx13 rfl rfl rfl rfl) rfl
  try clear_value x1 x7 x8 x10 x12 x13 x15
  exact Same.ite (State.markAt_same hx15 rfl) hx15)

theorem State.applyEpoch_same {a s : State} (h : Same m a s) (hm : m &&& 0x5096e811441a = 0x5096e811441a) :
    Same m a (State.applyEpoch s) := h.then hm (by
  have h := Same.refl 0x5096e811441a s
  unfold State.applyEpoch
  extract_lets -merge -underBinder +onlyGivenNames x0 x1 x2 x3 x4 x5 x6
  have hx1 : Same 0x5096e811441a s x1 := Same.ite (State.markAt_same (State.leaveRunning_same h rfl) rfl) h
  have hx2 : Same 0x5096e811441a s x2 := State.wr_same (State.wr_same hx1 rfl) rfl
  have hx3 : Same 0x5096e811441a s x3 := State.servoTo_same (State.irq_same hx2 rfl rfl rfl rfl) rfl
  have hx6 : Same 0x5096e811441a s x6 := State.setHck_same (Same.put_bnd hx3 rfl) rfl
  try clear_value x1 x2 x3 x6
  exact State.ppsUpdate_same (State.log_same hx6 rfl) rfl)

theorem State.setDom_same {a s : State} {a1 : Nat} {a2 : DomSt} (h : Same m a s) (hm : m &&& 0x100000000000 = 0x100000000000) :
    Same m a (State.setDom s a1 a2) := h.then hm (by
  have h := Same.refl 0x100000000000 s
  unfold State.setDom
  exact State.setHck_same h rfl)

theorem State.sentAt_same1 {a s : State} {a1 : List (Nat × Nat)} {a2 : Nat} (h : Same m a s) (hm : m &&& 0x100000000 = 0x100000000) :
    Same m a (State.sentAt s a1 a2).1 := h.then hm (by
  have h := Same.refl 0x100000000 s
  unfold State.sentAt
  split
  · exact h
  · exact State.useFresh_same h rfl)

theorem State.setGmId_same {a s : State} {a1 : Nat} {a2 : Nat} (h : Same m a s) (hm : m &&& 0x10 = 0x10) :
    Same m a (State.setGmId s a1 a2) := h.then hm (by
  have h := Same.refl 0x10 s
  unfold State.setGmId
  exact State.wr_same (State.wr_same h (home_bit 4 rfl rfl)) (home_bit 4 rfl rfl))

theorem State.gmSeen_same1 {a s : State} {a1 : Option Nat} {a2 : Option Nat} {a3 : Option Nat} (h : Same m a s) (hm : m &&& 0x100000000000 = 0x100000000000) :
    Same m a (State.gmSeen s a1 a2 a3).1 := h.then hm (by
  have h := Same.refl 0x100000000000 s
  unfold State.gmSeen
  extract_lets -merge -underBinder +onlyGivenNames x0 x1
  exact State.setHck_same h rfl)

theorem State.viewHck_same {a s : State} (h : Same m a s) (hm : m &&& 0x10 = 0x10) :
    Same m a (State.viewHck s) := h.then hm (by
  have h := Same.refl 0x10 s
  unfold State.viewHck
  exact Same.foldl h (fun _ _ k0 => State.setB_same k0 (home_bit 4 rfl rfl)))

end Sys2Proof.Machine
end

