-- ==== Sys2Proof/Laws/KeepHck.lean ====
section
/-! SUPPORT. What the functions of Machine/Hck.lean can change, one lemma for each, with the canonical forms kept. -/

namespace Sys2Proof.Machine

variable {m : Nat}

theorem State.hckReject_same {a s : State} (h : Same m a s) (hm : m &&& 0x10 = 0x10) :
    Same m a (State.hckReject s) := h.then hm (by
  have h := Same.refl 0x10 s
  unfold State.hckReject
  exact State.wr_same h rfl)

theorem execEventStamp_same {a s : State} {a0 : Nat} {a1 : Bool} {a2 : Nat} {a3 : Nat} (h : Same m a s) (hm : m &&& 0x1000a000001a = 0x1000a000001a) :
    SameR m a (execEventStamp a0 a1 a2 a3 s) := SameR.then h hm (by
  have h := Same.refl 0x1000a000001a s
  unfold execEventStamp
  exact onLogicIf_same h (fun _ k0 => (by
    extract_lets -merge -underBinder +onlyGivenNames x1 x2 x3 x4
    have hx4 : Same 0x1000a000001a s x4 := State.crossCheck_same k0 rfl
    try clear_value x4
    exact State.setHck_same hx4 rfl)))

theorem execStampPathSwitch_same {a s : State} {a0 : Nat} (h : Same m a s) (hm : m &&& 0x1000c000001a = 0x1000c000001a) :
    SameR m a (execStampPathSwitch a0 s) := SameR.then h hm (by
  have h := Same.refl 0x1000c000001a s
  unfold execStampPathSwitch
  exact onLogicIf_same h (fun _ k0 => State.switchPath_same k0 rfl))

theorem execPcsFaultClear_same {a s : State} {a0 : Nat} (h : Same m a s) (hm : m &&& 0x100000000010 = 0x100000000010) :
    SameR m a (execPcsFaultClear a0 s) := SameR.then h hm (by
  have h := Same.refl 0x100000000010 s
  unfold execPcsFaultClear
  exact onLogicIf_same h (fun _ k0 => State.setHck_same (State.wr_same k0 (home_bit 4 rfl rfl)) rfl))

theorem State.stepCmd_same {a s : State} {a1 : State → StepReq} (h : Same m a s) (hm : m &&& 0x100000000010 = 0x100000000010) :
    Same m a (State.stepCmd s a1) := h.then hm (by
  have h := Same.refl 0x100000000010 s
  unfold State.stepCmd
  exact Same.ite (State.bump_same (State.hckReject_same h rfl) rfl) (Same.ite (State.hckReject_same h rfl) (State.pendStep_same h rfl)))

theorem execStep_same {a s : State} (h : Same m a s) (hm : m &&& 0x100000000010 = 0x100000000010) :
    SameR m a (execStep s) := SameR.then h hm (by
  have h := Same.refl 0x100000000010 s
  unfold execStep
  exact onLogic_same h (fun _ k0 => State.stepCmd_same k0 rfl))

theorem execStepPps_same {a s : State} (h : Same m a s) (hm : m &&& 0x100000000010 = 0x100000000010) :
    SameR m a (execStepPps s) := SameR.then h hm (by
  have h := Same.refl 0x100000000010 s
  unfold execStepPps
  exact onLogic_same h (fun _ k0 => State.stepCmd_same k0 rfl))

theorem execCancelStep_same {a s : State} (h : Same m a s) (hm : m &&& 0x100000000010 = 0x100000000010) :
    SameR m a (execCancelStep s) := SameR.then h hm (by
  have h := Same.refl 0x100000000010 s
  unfold execCancelStep
  exact onLogic_same h (fun _ k0 => Same.ite (State.bump_same (State.hckReject_same k0 rfl) rfl) (State.wr_same (State.setHck_same k0 rfl) rfl)))

theorem execEpochRestart_same {a s : State} (h : Same m a s) (hm : m &&& 0x100000000010 = 0x100000000010) :
    SameR m a (execEpochRestart s) := SameR.then h hm (by
  have h := Same.refl 0x100000000010 s
  unfold execEpochRestart
  exact onLogic_same h (fun _ k0 => Same.ite (State.hckReject_same k0 rfl) (Same.ite k0 (State.setHck_same k0 rfl))))

theorem execStepApply_same {a s : State} (h : Same m a s) (hm : m &&& 0x5097ec11441a = 0x5097ec11441a) :
    SameR m a (execStepApply s) := SameR.then h hm (by
  have h := Same.refl 0x5097ec11441a s
  unfold execStepApply
  exact onLogic_same h (fun _ k0 => (by
    split
    · exact Same.ite (State.applyStep_same k0 rfl) k0
    · exact k0)))

theorem execEpochApply_same {a s : State} (h : Same m a s) (hm : m &&& 0x5096e811441a = 0x5096e811441a) :
    SameR m a (execEpochApply s) := SameR.then h hm (by
  have h := Same.refl 0x5096e811441a s
  unfold execEpochApply
  exact onLogicIf_same h (fun _ k0 => State.applyEpoch_same k0 rfl))

theorem execHckSnapshot_same {a s : State} (h : Same m a s) (hm : m &&& 0x10 = 0x10) :
    SameR m a (execHckSnapshot s) := SameR.then h hm (by
  have h := Same.refl 0x10 s
  unfold execHckSnapshot
  exact onLogic_same h (fun _ k0 => (by
    extract_lets -merge -underBinder +onlyGivenNames x1
    exact State.wr_same (State.wr_same (State.wr_same (State.wr_same k0 rfl) rfl) rfl) rfl)))

theorem execHold_same {a s : State} (h : Same m a s) (hm : m &&& 0x10008000001a = 0x10008000001a) :
    SameR m a (execHold s) := SameR.then h hm (by
  have h := Same.refl 0x10008000001a s
  unfold execHold
  exact onLogic_same h (fun _ k0 => Same.ite (State.hckReject_same k0 rfl) (State.servoTo_same (State.wr_same k0 rfl) rfl)))

theorem execRelease_same {a s : State} (h : Same m a s) (hm : m &&& 0x10 = 0x10) :
    SameR m a (execRelease s) := SameR.then h hm (by
  have h := Same.refl 0x10 s
  unfold execRelease
  exact onLogic_same h (fun _ k0 => State.wr_same k0 rfl))

theorem execHckRateWrite_same {a s : State} {a0 : Sys2Proof.Word} (h : Same m a s) (hm : m &&& 0x10 = 0x10) :
    SameR m a (execHckRateWrite a0 s) := SameR.then h hm (by
  have h := Same.refl 0x10 s
  unfold execHckRateWrite
  exact onLogic_same h (fun _ k0 => Same.ite (State.wr_same (State.wr_same k0 rfl) rfl) (State.hckReject_same k0 rfl)))

theorem State.messageRead_same1 {a s : State} (h : Same m a s) (hm : m &&& 0x1001a01fffff = 0x1001a01fffff) : Same m a s.messageRead.1 := by
  unfold State.messageRead
  extract_lets p
  have hp : Same m a p.1 := State.passSite_same1 h (sub_of hm rfl)
  split
  · show Same m a (State.errU _ pgHCK 0x04 1)
    exact State.errU_same (State.setHck_same hp (sub_of hm rfl)) (bit_of hm rfl) (bit_of hm rfl) (bit_of hm rfl) (bit_of hm rfl) (bit_of hm rfl)
      (bit_of hm rfl)
  · exact hp

theorem State.readMessage_same {a s : State} {f : State → State} (h : Same m a s)
    (hf : ∀ t, Same m a t → Same m a (f t)) (hm : m &&& 0x1001a01fffff = 0x1001a01fffff) : Same m a (s.readMessage f) := by
  unfold State.readMessage
  extract_lets p
  have hp : Same m a p.1 := State.messageRead_same1 h hm
  exact Same.ite (hf _ hp) hp

theorem execSyncMeasurement_same {a s : State} {a0 : Nat} {a1 : Nat} {a2 : Int} {a3 : Int} {a4 : Int} {a5 : Nat} {a6 : Nat} (h : Same m a s) (hm : m &&& 0x1001a01fffff = 0x1001a01fffff) :
    SameR m a (execSyncMeasurement a0 a1 a2 a3 a4 a5 a6 s) := SameR.then h hm (by
  have h := Same.refl 0x1001a01fffff s
  unfold execSyncMeasurement
  exact onLogic_same h (fun _ k0 => (by
    extract_lets -merge -underBinder +onlyGivenNames x1
    exact Same.ite (State.readMessage_same k0 (fun _ k2 => (by
      extract_lets -merge -underBinder +onlyGivenNames x3
      have hx3 : Same 0x1001a01fffff s x3.1 := State.gmSeen_same1 k2 rfl
      try clear_value x3
      exact State.measure_same hx3 rfl)) rfl) k0)))

theorem execPpsInEdge_same {a s : State} {a0 : Bool} {a1 : Nat} (h : Same m a s) (hm : m &&& 0x10008000001a = 0x10008000001a) :
    SameR m a (execPpsInEdge a0 a1 s) := SameR.then h hm (by
  have h := Same.refl 0x10008000001a s
  unfold execPpsInEdge
  exact onLogicIf_same h (fun _ k0 => (by
    extract_lets -merge -underBinder +onlyGivenNames x1 x2 x3
    have hx2 : Same 0x10008000001a s x2 := State.irq_same (State.wr_same (State.wr_same k0 rfl) rfl) rfl rfl rfl rfl
    have hx3 : Same 0x10008000001a s x3 := by
      unfold x3
      split
      · exact Same.ite (State.setHck_same hx2 rfl) hx2
      · exact hx2
    try clear_value x2 x3
    refine Same.ite ?_ ?_
    · extract_lets -merge -underBinder +onlyGivenNames x4
      exact State.measure_same hx3 rfl
    · exact hx3)))

theorem execSyncLoss_same {a s : State} (h : Same m a s) (hm : m &&& 0x10008000001a = 0x10008000001a) :
    SameR m a (execSyncLoss s) := SameR.then h hm (by
  have h := Same.refl 0x10008000001a s
  unfold execSyncLoss
  exact onLogicIf_same h (fun _ k0 => State.servoTo_same (State.bump_same k0 rfl) rfl))

theorem execGmChange_same {a s : State} {a0 : Nat} {a1 : Option Nat} {a2 : Option Nat} {a3 : Option Nat} (h : Same m a s) (hm : m &&& 0x1001a01fffff = 0x1001a01fffff) :
    SameR m a (execGmChange a0 a1 a2 a3 s) := SameR.then h hm (by
  have h := Same.refl 0x1001a01fffff s
  unfold execGmChange
  exact onLogicIf_same h (fun _ k0 => State.readMessage_same k0 (fun _ k1 => (by
    extract_lets -merge -underBinder +onlyGivenNames x2 x3 x4
    have hx2 : Same 0x1001a01fffff s x2 := by
      unfold x2
      split
      · exact State.setGmId_same k1 rfl
      · exact k1
    have hx3 : Same 0x1001a01fffff s x3 := by
      unfold x3
      split
      · exact State.wr_same hx2 (home_bit 4 rfl rfl)
      · exact hx2
    have hx4 : Same 0x1001a01fffff s x4.1 := State.gmSeen_same1 hx3 rfl
    try clear_value x2 x3 x4
    exact Same.ite (Same.ite (State.servoTo_same (State.gmChange_same hx4 rfl) rfl) hx4) hx3)) rfl))

theorem execPdelayInitiate_same {a s : State} {a0 : Nat} (h : Same m a s) (hm : m &&& 0x100080000000 = 0x100080000000) :
    SameR m a (execPdelayInitiate a0 s) := SameR.then h hm (by
  have h := Same.refl 0x100080000000 s
  unfold execPdelayInitiate
  exact onLogicIf_same h (fun _ k0 => State.out_same (State.setHck_same k0 rfl) rfl))

theorem execPdelayReqReceived_same {a s : State} {a0 : Nat} {a1 : Nat} {a2 : Nat} (h : Same m a s) (hm : m &&& 0x1001a01fffff = 0x1001a01fffff) :
    SameR m a (execPdelayReqReceived a0 a1 a2 s) := SameR.then h hm (by
  have h := Same.refl 0x1001a01fffff s
  unfold execPdelayReqReceived
  exact onLogicIf_same h (fun _ k0 => State.readMessage_same k0 (fun _ k1 => State.out_same k1 rfl) rfl))

theorem State.pdelayFail_same {a s : State} {a1 : Nat} (h : Same m a s) (hm : m &&& 0x10008000001a = 0x10008000001a) :
    Same m a (State.pdelayFail s a1) := h.then hm (by
  have h := Same.refl 0x10008000001a s
  unfold State.pdelayFail
  extract_lets -merge -underBinder +onlyGivenNames x0 x1 x2
  have hx2 : Same 0x10008000001a s x2 := State.bump_same (State.setHck_same h rfl) rfl
  try clear_value x2
  exact Same.ite (State.setCapable_same hx2 rfl) hx2)

theorem State.pdelayDone_same {a s : State} {a1 : Nat} {a2 : Nat} {a3 : Nat} {a4 : Nat} {a5 : Nat} (h : Same m a s) (hm : m &&& 0x10008000001a = 0x10008000001a) :
    Same m a (State.pdelayDone s a1 a2 a3 a4 a5) := h.then hm (by
  have h := Same.refl 0x10008000001a s
  unfold State.pdelayDone
  extract_lets -merge -underBinder +onlyGivenNames x0 x2 x3 x4 x5 x6
  have hx0 : Same 0x10008000001a s x0 := by
    unfold x0
    split
    · refine Same.ite ?_ ?_
      · exact h
      · extract_lets -merge -underBinder +onlyGivenNames x1
        exact State.wr_same h (home_bit 4 rfl rfl)
    · exact h
  have hx3 : Same 0x10008000001a s x3 := State.setHck_same hx0 rfl
  have hx6 : Same 0x10008000001a s x6 := State.wr_same hx3 (home_bit 4 rfl rfl)
  try clear_value x0 x3 x6
  exact State.setCapable_same hx6 rfl)

theorem execPdelayExchangeEnd_same {a s : State} {a0 : Nat} {a1 : Option (Nat × Nat × Nat × Nat)} (h : Same m a s) (hm : m &&& 0x1001a01fffff = 0x1001a01fffff) :
    SameR m a (execPdelayExchangeEnd a0 a1 s) := SameR.then h hm (by
  have h := Same.refl 0x1001a01fffff s
  unfold execPdelayExchangeEnd
  exact onLogicIf_same h (fun _ k0 => (by
    extract_lets -merge -underBinder +onlyGivenNames x1 x2
    have hx2 : Same 0x1001a01fffff s x2 := State.setHck_same k0 rfl
    try clear_value x2
    split
    · extract_lets -merge -underBinder +onlyGivenNames x3
      have hx3 : Same 0x1001a01fffff s x3.1 := State.messageRead_same1 hx2 rfl
      try clear_value x3
      exact Same.ite (State.pdelayDone_same hx3 rfl) (State.pdelayFail_same hx3 rfl)
    · exact State.pdelayFail_same hx2 rfl)))

theorem State.sendSync_same {a s : State} {a1 : Nat} {a2 : Nat} {a3 : Nat} {a4 : Int} {a5 : Int} {a6 : Nat} {a7 : Nat} (h : Same m a s) (hm : m &&& 0x80000010 = 0x80000010) :
    Same m a (State.sendSync s a1 a2 a3 a4 a5 a6 a7) := h.then hm (by
  have h := Same.refl 0x80000010 s
  unfold State.sendSync
  exact State.out_same (State.bump_same h rfl) rfl)

theorem execSyncRelay_same {a s : State} {a0 : Nat} {a1 : Nat} {a2 : Nat} {a3 : Int} {a4 : Int} {a5 : Int} {a6 : Nat} {a7 : List (Nat × Nat)} (h : Same m a s) (hm : m &&& 0x1001a01fffff = 0x1001a01fffff) :
    SameR m a (execSyncRelay a0 a1 a2 a3 a4 a5 a6 a7 s) := SameR.then h hm (by
  have h := Same.refl 0x1001a01fffff s
  unfold execSyncRelay
  exact onLogicIf_same h (fun _ k0 => State.readMessage_same k0 (fun _ k1 => (by
    extract_lets -merge -underBinder +onlyGivenNames x2 x3 x4 x5 x6 x7 x8 x9 x10 x11
    have hx5 : Same 0x1001a01fffff s x5 := State.bump_same k1 rfl
    have hx6 : Same 0x1001a01fffff s x6 := by
      unfold x6
      split
      · exact Same.ite (State.wr_same hx5 (home_bit 4 rfl rfl)) hx5
      · exact hx5
    have hx7 : Same 0x1001a01fffff s x7 := State.setDom_same hx6 rfl
    have hx9 : Same 0x1001a01fffff s x9 := State.wr_same (State.wr_same hx7 (home_bit 4 rfl rfl)) (home_bit 4 rfl rfl)
    have hx10 : Same 0x1001a01fffff s x10 := State.wr_same (State.wr_same (State.wr_same hx9 (home_bit 4 rfl rfl)) (home_bit 4 rfl rfl)) (home_bit 4 rfl rfl)
    try clear_value x5 x6 x7 x9 x10
    exact Same.foldl hx10 (fun _ _ k12 => (by
      extract_lets -merge -underBinder +onlyGivenNames x13 x14
      have hx13 : Same 0x1001a01fffff s x13.1 := State.sentAt_same1 k12 rfl
      try clear_value x13
      exact State.sendSync_same hx13 rfl)))) rfl))

theorem execGmSyncSend_same {a s : State} {a0 : Nat} {a1 : List (Nat × Nat)} (h : Same m a s) (hm : m &&& 0x100180000010 = 0x100180000010) :
    SameR m a (execGmSyncSend a0 a1 s) := SameR.then h hm (by
  have h := Same.refl 0x100180000010 s
  unfold execGmSyncSend
  exact onLogicIf_same h (fun _ k0 => (by
    extract_lets -merge -underBinder +onlyGivenNames x1 x2
    have hx2 : Same 0x100180000010 s x2 := State.setDom_same k0 rfl
    try clear_value x2
    exact Same.foldl hx2 (fun _ _ k3 => (by
      extract_lets -merge -underBinder +onlyGivenNames x4
      have hx4 : Same 0x100180000010 s x4.1 := State.sentAt_same1 k3 rfl
      try clear_value x4
      exact State.sendSync_same hx4 rfl)))))

theorem execDomainLost_same {a s : State} {a0 : Nat} (h : Same m a s) (hm : m &&& 0x8000001a = 0x8000001a) :
    SameR m a (execDomainLost a0 s) := SameR.then h hm (by
  have h := Same.refl 0x8000001a s
  unfold execDomainLost
  exact onLogicIf_same h (fun _ k0 => State.irq_same (State.wr_same (State.wr_same k0 (home_bit 4 rfl rfl)) (home_bit 4 rfl rfl)) rfl rfl rfl rfl))

theorem execAsMessageIgnored_same {a s : State} {a0 : Nat} (h : Same m a s) (hm : m &&& 0x10 = 0x10) :
    SameR m a (execAsMessageIgnored a0 s) := SameR.then h hm (by
  have h := Same.refl 0x10 s
  unfold execAsMessageIgnored
  exact onLogicIf_same h (fun _ k0 => State.bump_same k0 rfl))

theorem State.setCant_same {a s : State} {a1 : Nat} {a2 : CantSt} (h : Same m a s) (hm : m &&& 0x100000000000 = 0x100000000000) :
    Same m a (State.setCant s a1 a2) := h.then hm (by
  have h := Same.refl 0x100000000000 s
  unfold State.setCant
  exact State.setHck_same h rfl)

theorem State.cantWrite_same {a s t : State} {e b : Nat} {data : List Nat} (h : Same m a s) (hm : m &&& 0x600004000 = 0x600004000)
    (x : s.cantWrite e b data = some t) : Same m a t := by
  unfold State.cantWrite at x
  extract_lets f bytes w c d r at x
  split at x
  · exact (Option.some_ne_none _ x.symm).elim
  · rw [← Option.some.inj x]
    exact State.putBerthQ_same (State.writePduFrame_same1 h (sub_of hm rfl)) (sub_of hm rfl)

theorem execCantSyncWrite_same {a s : State} {e : Nat} (h : Same m a s) (hm : m &&& 0x100600004010 = 0x100600004010) :
    SameR m a (execCantSyncWrite e s) :=
  onLogicIf_same h fun t k => by
    extract_lets seq sec data
    split
    · exact State.setCant_same k (sub_of hm rfl)
    · next x => exact State.setCant_same (State.wr_same (State.cantWrite_same k (sub_of hm rfl) x) (home_bit 4 rfl (bit_of hm rfl))) (sub_of hm rfl)

theorem execCantFupWrite_same {a s : State} {e : Nat} (h : Same m a s) (hm : m &&& 0x12068000401a = 0x12068000401a) :
    SameR m a (execCantFupWrite e s) :=
  onLogicIf_same h fun t k => by
    extract_lets -merge -underBinder +onlyGivenNames q p taken
    have ht : ∀ u, Same m a u → Same m a (taken u) := fun u hu => State.tsqCond_same (State.setQuay_same hu (sub_of hm rfl)) (sub_of hm rfl)
    split
    · exact k
    · exact ht _ k
    · extract_lets -merge -underBinder +onlyGivenNames owner
      refine Same.ite (Same.ite k (ht _ k)) (Same.ite (State.bump_same (ht _ k) (bit_of hm rfl)) (Same.ite ?_ ?_))
      · exact State.irq_same (State.bump_same (State.bump_same (State.setCant_same (ht _ k) (sub_of hm rfl)) (bit_of hm rfl)) (bit_of hm rfl))
          (bit_of hm rfl) (bit_of hm rfl) (bit_of hm rfl) (bit_of hm rfl)
      · extract_lets -merge -underBinder +onlyGivenNames u c data
        split
        · exact k
        · next x => exact State.bump_same (State.setCant_same (ht _ (State.cantWrite_same k (sub_of hm rfl) x)) (sub_of hm rfl)) (bit_of hm rfl)

theorem execCaptureEdge_same {a s : State} {a0 : Nat} {a1 : Bool} {a2 : Nat} {a3 : Nat} (h : Same m a s) (hm : m &&& 0x10008000001a = 0x10008000001a) :
    SameR m a (execCaptureEdge a0 a1 a2 a3 s) := SameR.then h hm (by
  have h := Same.refl 0x10008000001a s
  unfold execCaptureEdge
  extract_lets -merge -underBinder +onlyGivenNames x0
  exact onLogicIf_same h (fun _ k1 => (by
    extract_lets -merge -underBinder +onlyGivenNames x2 x3
    have hx3 : Same 0x10008000001a s x3 := State.setHck_same k1 rfl
    try clear_value x3
    exact State.pushCap_same hx3 rfl)))

theorem execCapw_same {a s : State} (h : Same m a s) (hm : m &&& 0x10108000011a = 0x10108000011a) :
    SameR m a (execCapw s) := SameR.then h hm (by
  have h := Same.refl 0x10108000011a s
  unfold execCapw
  exact actionRow_same h (fun _ _ _ k0 => Same.ite k0 (Same.ite (State.openCapture_same k0 rfl) (State.closeCapture_same k0 rfl))) rfl)

theorem State.trigNextStroke_same {a s : State} (h : Same m a s) (hm : m &&& 0x1000000000 = 0x1000000000) :
    Same m a (State.trigNextStroke s) := h.then hm (by
  have h := Same.refl 0x1000000000 s
  unfold State.trigNextStroke
  exact State.setTid_same h rfl (fun w v => ⟨w, v⟩))

theorem execTrig_same {a s : State} (h : Same m a s) (hm : m &&& 0x10108000010a = 0x10108000010a) :
    SameR m a (execTrig s) := SameR.then h hm (by
  have h := Same.refl 0x10108000010a s
  unfold execTrig
  exact onLogicIf_same h (fun _ k0 => (by
    extract_lets -merge -underBinder +onlyGivenNames x1
    have hx1 : Same 0x10108000010a s x1 := Same.ite (State.trigNextStroke_same k0 rfl) k0
    try clear_value x1
    split
    · exact hx1
    · refine Same.ite ?_ ?_
      · extract_lets -merge -underBinder +onlyGivenNames x2 x3 x4
        have hx4 : Same 0x10108000010a s x4 := State.compareAction_same hx1 rfl
        try clear_value x4
        exact State.setHck_same (State.setTid_same hx4 rfl (fun w v => ⟨w, v⟩)) rfl
      · exact hx1)))

theorem execTriggerEdge_same {a s : State} (h : Same m a s) (hm : m &&& 0x100080000010 = 0x100080000010) :
    SameR m a (execTriggerEdge s) := SameR.then h hm (by
  have h := Same.refl 0x100080000010 s
  unfold execTriggerEdge
  exact onLogic_same h (fun _ k0 => (by
    split
    · exact Same.ite (State.trigLevel_same (State.setHck_same k0 rfl) rfl) k0
    · exact k0)))

theorem execPpsOutPulse_same {a s : State} (h : Same m a s) (hm : m &&& 0x100080000000 = 0x100080000000) :
    SameR m a (execPpsOutPulse s) := SameR.then h hm (by
  have h := Same.refl 0x100080000000 s
  unfold execPpsOutPulse
  exact onLogicIf_same h (fun _ k0 => (by
    extract_lets -merge -underBinder +onlyGivenNames x1
    exact State.out_same (State.setHck_same k0 rfl) rfl)))

theorem execPpsOutFall_same {a s : State} (h : Same m a s) (hm : m &&& 0x100080000000 = 0x100080000000) :
    SameR m a (execPpsOutFall s) := SameR.then h hm (by
  have h := Same.refl 0x100080000000 s
  unfold execPpsOutFall
  exact onLogic_same h (fun _ k0 => (by
    split
    · extract_lets -merge -underBinder +onlyGivenNames x1
      exact Same.ite (State.ppsLowAt_same k0 rfl) k0
    · exact k0)))

theorem State.showStamp_same {a s : State} {a1 : Sys2Proof.StampEntry} (h : Same m a s) (hm : m &&& 0x10 = 0x10) :
    Same m a (State.showStamp s a1) := h.then hm (by
  have h := Same.refl 0x10 s
  unfold State.showStamp
  extract_lets -merge -underBinder +onlyGivenNames x0
  exact State.wr_same (State.wr_same (State.wr_same (State.wr_same (State.wr_same h rfl) rfl) rfl) rfl) rfl)

theorem State.showStampGap_same {a s : State} {a1 : Sys2Proof.Gap} (h : Same m a s) (hm : m &&& 0x100000010 = 0x100000010) :
    Same m a (State.showStampGap s a1) := h.then hm (by
  have h := Same.refl 0x100000010 s
  unfold State.showStampGap
  extract_lets -merge -underBinder +onlyGivenNames x0 x1
  exact State.wrFree_same (State.wr_same (State.wr_same (State.wr_same (State.wr_same (State.useFresh_same h rfl) rfl) rfl) rfl) rfl) rfl rfl)

theorem State.popStamp_same {a s : State} {a1 : Nat} {a2 : Bool} (h : Same m a s) (hm : m &&& 0x2018000001a = 0x2018000001a) :
    Same m a (State.popStamp s a1 a2) := h.then hm (by
  have h := Same.refl 0x2018000001a s
  unfold State.popStamp
  extract_lets -merge -underBinder +onlyGivenNames x0
  refine Same.ite ?_ ?_
  · exact State.wr_same h rfl
  · extract_lets -merge -underBinder +onlyGivenNames x1 x2 x3
    have hx3 : Same 0x2018000001a s x3 := State.tsqCond_same (State.setQuay_same h rfl) rfl
    try clear_value x3
    split
    · exact State.wr_same hx3 rfl
    · exact State.showStamp_same hx3 rfl
    · exact State.showStampGap_same hx3 rfl)

theorem execHckTsqPop_same {a s : State} {a0 : Nat} {a1 : Bool} (h : Same m a s) (hm : m &&& 0x2018000001a = 0x2018000001a) :
    SameR m a (execHckTsqPop a0 a1 s) := SameR.then h hm (by
  have h := Same.refl 0x2018000001a s
  unfold execHckTsqPop
  exact onLogicIf_same h (fun _ k0 => State.popStamp_same k0 rfl))

theorem State.showCap_same {a s : State} {a1 : Popped CapEntry} (h : Same m a s) (hm : m &&& 0x100000010 = 0x100000010) :
    Same m a (State.showCap s a1) := h.then hm (by
  have h := Same.refl 0x100000010 s
  unfold State.showCap
  extract_lets -merge -underBinder +onlyGivenNames x0
  split
  · exact State.wr_same h rfl
  · exact State.wr_same (State.wr_same (State.wr_same (State.wr_same h rfl) rfl) rfl) rfl
  · exact State.wr_same (State.wr_same (State.wr_same (State.wr_same (State.useFresh_same h rfl) rfl) rfl) rfl) rfl)

theorem execHckCapPop_same {a s : State} {a0 : Nat} (h : Same m a s) (hm : m &&& 0x10018000001a = 0x10018000001a) :
    SameR m a (execHckCapPop a0 s) := SameR.then h hm (by
  have h := Same.refl 0x10018000001a s
  unfold execHckCapPop
  exact onLogicIf_same h (fun _ k0 => (by
    extract_lets -merge -underBinder +onlyGivenNames x1
    exact State.showCap_same (State.putCapQ_same k0 rfl) rfl)))

theorem State.popCapBad_same {a s : State} {a1 : Nat} (h : Same m a s) (hm : m &&& 0x1001a000001a = 0x1001a000001a) :
    Same m a (State.popCapBad s a1) := h.then hm (by
  have h := Same.refl 0x1001a000001a s
  unfold State.popCapBad
  refine Same.ite ?_ ?_
  · exact h
  · extract_lets -merge -underBinder +onlyGivenNames x0 x1 x2
    have hx1 : Same 0x1001a000001a s x1 := State.putCapQ_same h rfl
    have hx2 : Same 0x1001a000001a s x2 := Same.ite (State.irq_same (State.bump_same hx1 rfl) rfl rfl rfl rfl) hx1
    try clear_value x1 x2
    exact State.showCap_same (State.errU_same hx2 rfl rfl rfl rfl rfl rfl) rfl)

end Sys2Proof.Machine
end

