-- ==== Sys2Proof/Laws/KeepKwl.lean ====
section
/-! SUPPORT. What the functions of Machine/Kwl.lean can change, one lemma for each, with the canonical forms kept. -/

namespace Sys2Proof.Machine

variable {m : Nat}

theorem State.kwlCmd_same {a s : State} {f : State → State} (h : Same m a s)
    (hf : ∀ t, Same m a t → Same m a (f t)) (hm : m &&& 0x80 = 0x80) : Same m a (s.kwlCmd f) :=
  Same.ite (State.kwlReject_same h hm) (hf _ h)

theorem State.kwlAccept_same {a s : State} {a1 : Bool} {a2 : Nat} {a3 : Nat} (h : Same m a s) (hm : m &&& 0x800000000080 = 0x800000000080) :
    Same m a (State.kwlAccept s a1 a2 a3) := h.then hm (by
  have h := Same.refl 0x800000000080 s
  unfold State.kwlAccept
  exact State.setKwl_same (State.wr_same h rfl) rfl)

theorem execDerive_same {a s : State} {a0 : Nat} {a1 : Nat} (h : Same m a s) (hm : m &&& 0x800000000080 = 0x800000000080) :
    SameR m a (execDerive a0 a1 s) := SameR.then h hm (by
  have h := Same.refl 0x800000000080 s
  unfold execDerive
  exact onLogicIf_same h (fun _ k0 => State.kwlCmd_same k0 (fun _ k1 => State.kwlAccept_same k1 rfl) rfl))

theorem execKwlImport_same {a s : State} {a0 : Nat} {a1 : Nat} (h : Same m a s) (hm : m &&& 0x800000000080 = 0x800000000080) :
    SameR m a (execKwlImport a0 a1 s) := SameR.then h hm (by
  have h := Same.refl 0x800000000080 s
  unfold execKwlImport
  exact onLogicIf_same h (fun _ k0 => State.kwlCmd_same k0 (fun _ k1 => State.kwlAccept_same k1 rfl) rfl))

theorem execKwlCommandDone_same {a s : State} (h : Same m a s) (hm : m &&& 0x8001a01fffff = 0x8001a01fffff) :
    SameR m a (execKwlCommandDone s) := SameR.then h hm (by
  have h := Same.refl 0x8001a01fffff s
  unfold execKwlCommandDone
  exact onLogicIf_same h (fun _ k0 => (by
    split
    · exact State.kwlCreate_same k0 rfl
    · exact k0)))

theorem execInvalidate_same {a s : State} {a0 : Nat} (h : Same m a s) (hm : m &&& 0x480008000008a = 0x480008000008a) :
    SameR m a (execInvalidate a0 s) := SameR.then h hm (by
  have h := Same.refl 0x480008000008a s
  unfold execInvalidate
  exact onLogicIf_same h (fun _ k0 => State.kwlCmd_same k0 (fun _ k1 => (by
    extract_lets -merge -underBinder +onlyGivenNames x2
    refine Same.ite ?_ ?_
    · exact State.kwlEnd_same k1 rfl
    · refine Same.ite ?_ ?_
      · exact State.kwlEnd_same k1 rfl
      · extract_lets -merge -underBinder +onlyGivenNames x3 x4 x5
        have hx3 : Same 0x480008000008a s x3 := State.bump_same k1 rfl
        have hx5 : Same 0x480008000008a s x5 := Same.ite (State.putSlot_same (State.wr_same hx3 rfl) rfl) (State.putSlot_same hx3 rfl)
        try clear_value x3 x5
        exact State.kwlAutoCommit_same (State.kwlEnd_same hx5 rfl) rfl)) rfl))

theorem execDestroy_same {a s : State} {a0 : Nat} (h : Same m a s) (hm : m &&& 0x480008000008a = 0x480008000008a) :
    SameR m a (execDestroy a0 s) := SameR.then h hm (by
  have h := Same.refl 0x480008000008a s
  unfold execDestroy
  exact onLogicIf_same h (fun _ k0 => State.kwlCmd_same k0 (fun _ k1 => Same.ite (State.kwlEnd_same k1 rfl) (Same.ite (State.kwlEnd_same k1 rfl) (State.kwlAutoCommit_same (State.kwlEnd_same (State.destroySlot_same (State.bump_same k1 rfl) rfl) rfl) rfl))) rfl))

theorem execKwlCommit_same {a s : State} (h : Same m a s) (hm : m &&& 0x480008000008a = 0x480008000008a) :
    SameR m a (execKwlCommit s) := SameR.then h hm (by
  have h := Same.refl 0x480008000008a s
  unfold execKwlCommit
  exact onLogic_same h (fun _ k0 => State.kwlCmd_same k0 (fun _ k1 => Same.ite (State.kwlReject_same k1 rfl) (State.kwlEnd_same (State.kwlCommit_same k1 rfl) rfl)) rfl))

theorem execRestoreCustody_same {a s : State} (h : Same m a s) (hm : m &&& 0x80008000008a = 0x80008000008a) :
    SameR m a (execRestoreCustody s) := SameR.then h hm (by
  have h := Same.refl 0x80008000008a s
  unfold execRestoreCustody
  exact onLogic_same h (fun _ k0 => State.kwlCmd_same k0 (fun _ k1 => Same.ite (State.kwlEnd_same k1 rfl) (State.kwlEnd_same (State.restoreCustody_same k1 rfl) rfl)) rfl))

theorem execOrphanSweep_same {a s : State} (h : Same m a s) (hm : m &&& 0x480008000008a = 0x480008000008a) :
    SameR m a (execOrphanSweep s) := SameR.then h hm (by
  have h := Same.refl 0x480008000008a s
  unfold execOrphanSweep
  exact onLogicIf_same h (fun _ k0 => (by
    extract_lets -merge -underBinder +onlyGivenNames x1 x2 x3
    have hx3 : Same 0x480008000008a s x3 := State.setKwl_same k0 rfl
    try clear_value x3
    exact Same.ite (State.kwlAutoCommit_same (State.irq_same (State.bump_same (State.destroySlot_same hx3 rfl) rfl) rfl rfl rfl rfl) rfl) hx3)))

theorem execMaskKeyRenew_same {a s : State} (h : Same m a s) (hm : m &&& 0x800100000080 = 0x800100000080) :
    SameR m a (execMaskKeyRenew s) := SameR.then h hm (by
  have h := Same.refl 0x800100000080 s
  unfold execMaskKeyRenew
  exact onLogicIf_same h (fun _ k0 => (by
    extract_lets -merge -underBinder +onlyGivenNames x1
    have hx1 : Same 0x800100000080 s x1 := Same.ite (State.bump_same k0 rfl) k0
    try clear_value x1
    exact State.setKwl_same (State.useFresh_same hx1 rfl) rfl)))

theorem execRbgStartupDone_same {a s : State} (h : Same m a s) (hm : m &&& 0x80008000008a = 0x80008000008a) :
    SameR m a (execRbgStartupDone s) := SameR.then h hm (by
  have h := Same.refl 0x80008000008a s
  unfold execRbgStartupDone
  exact onLogicIf_same h (fun _ k0 => State.kwlView_same (State.wr_same (State.setKwl_same k0 rfl) rfl) rfl))

theorem execRbgHealthFail_same {a s : State} (h : Same m a s) (hm : m &&& 0x8001a000008a = 0x8001a000008a) :
    SameR m a (execRbgHealthFail s) := SameR.then h hm (by
  have h := Same.refl 0x8001a000008a s
  unfold execRbgHealthFail
  exact onLogicIf_same h (fun _ k0 => (by
    extract_lets -merge -underBinder +onlyGivenNames x1 x2 x3
    have hx3 : Same 0x8001a000008a s x3 := State.errU_same (State.bump_same (State.setKwl_same k0 rfl) rfl) rfl rfl rfl rfl rfl rfl
    try clear_value x3
    exact Same.ite (State.kwlView_same (State.errU_same (State.wr_same hx3 rfl) rfl rfl rfl rfl rfl rfl) rfl) (State.kwlView_same (State.wr_same hx3 rfl) rfl))))

theorem execRootGenerate_same {a s : State} (h : Same m a s) (hm : m &&& 0x480018000008a = 0x480018000008a) :
    SameR m a (execRootGenerate s) := SameR.then h hm (by
  have h := Same.refl 0x480018000008a s
  unfold execRootGenerate
  exact onLogicIf_same h (fun _ k0 => (by
    extract_lets -merge -underBinder +onlyGivenNames x1
    have hx1 : Same 0x480018000008a s x1.1 := State.random_same1 k0 rfl
    try clear_value x1
    exact State.pushRoot_same (State.kwlView_same (State.wr_same (State.setKwl_same hx1 rfl) rfl) rfl) rfl)))

end Sys2Proof.Machine
end

