-- ==== Sys2Proof/Laws/KeepLines.lean ====
section
/-! SUPPORT. What the functions of Machine/Lines.lean can change, one lemma for each, with the canonical forms kept. -/

namespace Sys2Proof.Machine

variable {m : Nat}

theorem onFront_same {a s : State} {q : Nat} {c : Bool} {f : State → State} (h : Same m a s)
    (hf : ∀ t, Same m a t → Same m a (f t)) : SameR m a (onFront s q c f) := SameR.ite (.next (hf _ h)) (.next h)

theorem State.lfeReject_same {a s : State} {a1 : Nat} (h : Same m a s) (hm : m &&& 0x20000 = 0x20000) :
    Same m a (State.lfeReject s a1) := h.then hm (by
  have h := Same.refl 0x20000 s
  unfold State.lfeReject
  exact State.wr_same h (home_bit 17 rfl rfl))

theorem State.sqiFollows_same {a s : State} {a1 : Nat} {a2 : List Nat} {a3 : Bool} (h : Same m a s) (hm : m &&& 0x100020000 = 0x100020000) :
    Same m a (State.sqiFollows s a1 a2 a3) := h.then hm (by
  have h := Same.refl 0x100020000 s
  unfold State.sqiFollows
  exact Same.ite (State.wr_same (State.useFresh_same h rfl) (home_bit 17 rfl rfl)) h)

theorem execLineConditionSet_same {a s : State} {a0 : Nat} {a1 : List Nat} (h : Same m a s) (hm : m &&& 0x42c7e013440a = 0x42c7e013440a) :
    SameR m a (execLineConditionSet a0 a1 s) := SameR.then h hm (by
  have h := Same.refl 0x42c7e013440a s
  unfold execLineConditionSet
  exact onFront_same h (fun _ k0 => State.sqiFollows_same (State.addFaults_same k0 rfl) rfl))

theorem execLineConditionClear_same {a s : State} {a0 : Nat} {a1 : List Nat} (h : Same m a s) (hm : m &&& 0x42c7e013440a = 0x42c7e013440a) :
    SameR m a (execLineConditionClear a0 a1 s) := SameR.then h hm (by
  have h := Same.refl 0x42c7e013440a s
  unfold execLineConditionClear
  exact onFront_same h (fun _ k0 => State.sqiFollows_same (State.dropFaults_same k0 rfl) rfl))

theorem execPairShortRetest_same {a s : State} {a0 : Nat} (h : Same m a s) (hm : m &&& 0x40000000000 = 0x40000000000) :
    SameR m a (execPairShortRetest a0 s) := SameR.then h hm (by
  have h := Same.refl 0x40000000000 s
  unfold execPairShortRetest
  exact onFront_same h (fun _ k0 => State.setFront_same k0 rfl))

theorem execCanReversalFrame_same {a s : State} {a0 : Nat} (h : Same m a s) (hm : m &&& 0x46c6e013440a = 0x46c6e013440a) :
    SameR m a (execCanReversalFrame a0 s) := SameR.then h hm (by
  have h := Same.refl 0x46c6e013440a s
  unfold execCanReversalFrame
  exact onFront_same h (fun _ k0 => (by
    extract_lets -merge -underBinder +onlyGivenNames x1 x2
    have hx1 : Same 0x46c6e013440a s x1 := Same.ite (State.discardLanding_same k0 rfl) k0
    try clear_value x1
    refine Same.ite ?_ ?_
    · exact State.setFront_same hx1 rfl
    · extract_lets -merge -underBinder +onlyGivenNames x3 x4
      have hx4 : Same 0x46c6e013440a s x4 := State.setFront_same hx1 rfl
      try clear_value x4
      exact Same.ite (State.setFront_same hx4 rfl) (State.addFaults_same hx4 rfl))))

theorem execRoleExchange_same {a s : State} {a0 : Nat} (h : Same m a s) (hm : m &&& 0x46c6e013440a = 0x46c6e013440a) :
    SameR m a (execRoleExchange a0 s) := SameR.then h hm (by
  have h := Same.refl 0x46c6e013440a s
  unfold execRoleExchange
  exact onFront_same h (fun _ k0 => (by
    split
    · exact State.exchangeRoles_same k0 rfl
    · exact State.straightRoles_same k0 rfl
    · exact k0)))

theorem execSwapReset_same {a s : State} {a0 : Nat} (h : Same m a s) (hm : m &&& 0x40000020000 = 0x40000020000) :
    SameR m a (execSwapReset a0 s) := SameR.then h hm (by
  have h := Same.refl 0x40000020000 s
  unfold execSwapReset
  exact onFront_same h (fun _ k0 => Same.ite (State.setFront_same k0 rfl) (State.lfeReject_same k0 rfl)))

theorem execMeasureTerm_same {a s : State} {a0 : Nat} (h : Same m a s) (hm : m &&& 0x40000020000 = 0x40000020000) :
    SameR m a (execMeasureTerm a0 s) := SameR.then h hm (by
  have h := Same.refl 0x40000020000 s
  unfold execMeasureTerm
  exact onFront_same h (fun _ k0 => Same.ite (State.lfeReject_same k0 rfl) (State.wr_same (State.setFront_same k0 rfl) (home_bit 17 rfl rfl))))

theorem execTermMeasureDone_same {a s : State} {a0 : Nat} {a1 : Nat} (h : Same m a s) (hm : m &&& 0x46c6e013440a = 0x46c6e013440a) :
    SameR m a (execTermMeasureDone a0 a1 s) := SameR.then h hm (by
  have h := Same.refl 0x46c6e013440a s
  unfold execTermMeasureDone
  exact onFront_same h (fun _ k0 => State.termResult_same k0 rfl))

theorem execTermMeasureTimeout_same {a s : State} {a0 : Nat} (h : Same m a s) (hm : m &&& 0x46c6e013440a = 0x46c6e013440a) :
    SameR m a (execTermMeasureTimeout a0 s) := SameR.then h hm (by
  have h := Same.refl 0x46c6e013440a s
  unfold execTermMeasureTimeout
  exact onFront_same h (fun _ k0 => State.termResult_same k0 rfl))

theorem execTdr_same {a s : State} {a0 : Nat} (h : Same m a s) (hm : m &&& 0x40000020000 = 0x40000020000) :
    SameR m a (execTdr a0 s) := SameR.then h hm (by
  have h := Same.refl 0x40000020000 s
  unfold execTdr
  exact onFront_same h (fun _ k0 => (by
    refine Same.ite ?_ ?_
    · exact State.lfeReject_same k0 rfl
    · extract_lets -merge -underBinder +onlyGivenNames x1
      exact Same.ite (State.tdrStart_same k0 rfl) (Same.ite (State.tdrStart_same k0 rfl) (State.lfeReject_same k0 rfl)))))

theorem execTdrDone_same {a s : State} {a0 : Nat} {a1 : Nat} {a2 : Nat} (h : Same m a s) (hm : m &&& 0x46c6e013440a = 0x46c6e013440a) :
    SameR m a (execTdrDone a0 a1 a2 s) := SameR.then h hm (by
  have h := Same.refl 0x46c6e013440a s
  unfold execTdrDone
  exact onFront_same h (fun _ k0 => State.tdrResult_same k0 rfl))

theorem execMeasCancel_same {a s : State} {a0 : Nat} (h : Same m a s) (hm : m &&& 0x46c6e013440a = 0x46c6e013440a) :
    SameR m a (execMeasCancel a0 s) := SameR.then h hm (by
  have h := Same.refl 0x46c6e013440a s
  unfold execMeasCancel
  exact onFront_same h (fun _ k0 => Same.ite (State.lfeReject_same k0 rfl) (State.measAbort_same k0 rfl)))

theorem execCanWakePattern_same {a s : State} {a0 : Nat} (h : Same m a s) (hm : m &&& 0x24ec7f01fffff = 0x24ec7f01fffff) :
    SameR m a (execCanWakePattern a0 s) := SameR.then h hm (by
  have h := Same.refl 0x24ec7f01fffff s
  unfold execCanWakePattern
  exact onFront_same h (fun _ k0 => State.frontWake_same k0 rfl))

theorem execWakePatternAbandon_same {a s : State} {a0 : Nat} (h : Same m a s) (hm : m &&& 0x0 = 0x0) :
    SameR m a (execWakePatternAbandon a0 s) := SameR.then h hm (by
  have h := Same.refl 0x0 s
  unfold execWakePatternAbandon
  exact SameR.next h)

theorem execSelectiveWakeFrame_same {a s : State} {a0 : Nat} {a1 : Sys2Proof.CanFrame} {a2 : Bool} (h : Same m a s) (hm : m &&& 0x24ec7f01fffff = 0x24ec7f01fffff) :
    SameR m a (execSelectiveWakeFrame a0 a1 a2 s) := SameR.then h hm (by
  have h := Same.refl 0x24ec7f01fffff s
  unfold execSelectiveWakeFrame
  exact onFront_same h (fun _ k0 => (by
    refine Same.ite ?_ ?_
    · exact k0
    · extract_lets -merge -underBinder +onlyGivenNames x1 x2 x3 x4 x5
      have hx5 : Same 0x24ec7f01fffff s x5 := State.setFront_same k0 rfl
      try clear_value x5
      exact Same.ite (State.frontWake_same hx5 rfl) (Same.ite (State.frontWake_same hx5 rfl) hx5))))

theorem execG1608Wake_same {a s : State} {a0 : Nat} {a1 : Nat} {a2 : Option Sys2Proof.CanFrame} (h : Same m a s) (hm : m &&& 0x24ec7f01fffff = 0x24ec7f01fffff) :
    SameR m a (execG1608Wake a0 a1 a2 s) := SameR.then h hm (by
  have h := Same.refl 0x24ec7f01fffff s
  unfold execG1608Wake
  exact onFront_same h (fun _ k0 => (by
    refine Same.ite ?_ ?_
    · split
      · exact Same.ite (State.frontWake_same k0 rfl) k0
      · exact k0
    · exact Same.ite (State.frontWake_same k0 rfl) k0)))

theorem execT1sEnergyWake_same {a s : State} {a0 : Nat} {a1 : Nat} (h : Same m a s) (hm : m &&& 0x24ec7f01fffff = 0x24ec7f01fffff) :
    SameR m a (execT1sEnergyWake a0 a1 s) := SameR.then h hm (by
  have h := Same.refl 0x24ec7f01fffff s
  unfold execT1sEnergyWake
  exact onFront_same h (fun _ k0 => State.frontWake_same k0 rfl))

theorem execTc10Wake_same {a s : State} {a0 : Nat} (h : Same m a s) (hm : m &&& 0x24ec7f01fffff = 0x24ec7f01fffff) :
    SameR m a (execTc10Wake a0 s) := SameR.then h hm (by
  have h := Same.refl 0x24ec7f01fffff s
  unfold execTc10Wake
  exact onFront_same h (fun _ k0 => State.frontWake_same k0 rfl))

theorem execDetectorRearm_same {a s : State} {a0 : Nat} (h : Same m a s) (hm : m &&& 0x40000000000 = 0x40000000000) :
    SameR m a (execDetectorRearm a0 s) := SameR.then h hm (by
  have h := Same.refl 0x40000000000 s
  unfold execDetectorRearm
  exact onFront_same h (fun _ k0 => State.setFront_same k0 rfl))

end Sys2Proof.Machine
end

