-- ==== Sys2Proof/Laws/KeepLkpCmd.lean ====
section
/-! SUPPORT. What the functions of Machine/LkpCmd.lean can change, one lemma for each, with the canonical forms kept. -/

namespace Sys2Proof.Machine

variable {m : Nat}

theorem State.lkpBoth_same {a s : State} {f : Nat → State → State} (h : Same m a s)
    (hf : ∀ x t, Same m a t → Same m a (f x t)) (hm : m &&& 0x400000000 = 0x400000000) : Same m a (s.lkpBoth f) := by
  unfold State.lkpBoth
  extract_lets -merge -underBinder +onlyGivenNames x y pre t p
  have ht : Same m a t := hf _ _ h
  refine Same.ite ht ?_
  extract_lets post
  exact setPlane_same ht hm fun _ w => ⟨w.1, PlaneSt.memWf_map (f := copyLkp pre post) w fun _ v => v, w.2.2⟩

theorem State.withGen_same1 {a s : State} {a1 : Nat} {a2 : FwdEntry} (h : Same m a s) (hm : m &&& 0x400000000 = 0x400000000) :
    Same m a (State.withGen s a1 a2).1 := h.then hm (by
  have h := Same.refl 0x400000000 s
  unfold State.withGen
  extract_lets -merge -underBinder +onlyGivenNames x0
  exact State.setLkpOf_same h rfl)

theorem State.insertEntry_same1 {a s : State} {a1 : Nat} {a2 : Bool} {a3 : FwdEntry} (h : Same m a s) (hm : m &&& 0x400001000 = 0x400001000) :
    Same m a (State.insertEntry s a1 a2 a3).1 := h.then hm (by
  have h := Same.refl 0x400001000 s
  unfold State.insertEntry
  extract_lets -merge -underBinder +onlyGivenNames x0
  split
  · extract_lets -merge -underBinder +onlyGivenNames x1 x2
    have hx1 : Same 0x400001000 s x1.1 := State.withGen_same1 h rfl
    try clear_value x1
    split
    · exact State.relocations_same (State.setLkpAt_same hx1 rfl) rfl
    · exact hx1
  · refine Same.ite1 ?_ ?_
    · exact h
    · extract_lets -merge -underBinder +onlyGivenNames x3
      have hx3 : Same 0x400001000 s x3.1 := State.withGen_same1 h rfl
      try clear_value x3
      exact State.toPending_same hx3 rfl)

theorem State.takeOver_same {a s : State} {a1 : Nat} {a2 : Loc} {a3 : FwdEntry} (h : Same m a s) (hm : m &&& 0x400000000 = 0x400000000) :
    Same m a (State.takeOver s a1 a2 a3) := h.then hm (by
  have h := Same.refl 0x400000000 s
  unfold State.takeOver
  extract_lets -merge -underBinder +onlyGivenNames x0 x1 x2
  refine Same.ite ?_ ?_
  · exact State.setLkpOf_same h rfl
  · extract_lets -merge -underBinder +onlyGivenNames x3
    have hx3 : Same 0x400000000 s x3.1 := State.withGen_same1 h rfl
    try clear_value x3
    exact State.setLkpOf_same hx3 rfl)

theorem State.preloadOne_same1 {a s : State} {a1 : Nat} {a2 : FwdEntry} (h : Same m a s) (hm : m &&& 0x400001000 = 0x400001000) :
    Same m a (State.preloadOne s a1 a2).1 := by
  have hi : Same m a (preloadedAs (s.insertEntry a1 false a2)).1 := State.insertEntry_same1 h (sub_of hm rfl)
  unfold State.preloadOne
  extract_lets i
  split
  · exact State.takeOver_same h (sub_of hm rfl)
  · split
    · refine Same.ite1 (Same.ite1 h ?_) hi
      exact State.setLkpOf_same (State.withGen_same1 h (sub_of hm rfl)) (sub_of hm rfl)
    · exact hi

theorem State.preloadList_same {a s : State} {x : Nat} {l : List FwdEntry} (h : Same m a s) (hm : m &&& 0x10400001000 = 0x10400001000) :
    Same m a (State.preloadList x l s) := by
  induction l generalizing s with
  | nil => exact h.put_lkp (bit_of hm rfl)
  | cons e es ih =>
    have hp := State.preloadOne_same1 (a1 := x) (a2 := e) h (sub_of hm rfl)
    unfold State.preloadList
    extract_lets p
    split
    · exact ih hp
    · exact hp.put_lkp (bit_of hm rfl)
    · exact hp.put_lkp (bit_of hm rfl)

theorem State.preloadRun_same {a s : State} {a1 : Nat} (h : Same m a s) (hm : m &&& 0x1048000100a = 0x1048000100a) :
    Same m a (State.preloadRun s a1) := h.then hm (by
  have h := Same.refl 0x1048000100a s
  unfold State.preloadRun
  refine Same.ite ?_ ?_
  · exact h
  · extract_lets -merge -underBinder +onlyGivenNames x0 x1
    have hx0 : Same 0x1048000100a s x0 := Same.ite h (State.preloadList_same h rfl)
    have hx1 : Same 0x1048000100a s x1 := State.wr_same hx0 rfl
    try clear_value x0 x1
    exact Same.ite (State.irq_same (Same.put_lkp hx1 rfl) rfl rfl rfl rfl) hx1)

theorem State.preloadStart_same {a s : State} {a1 : Nat} {a2 : Mem} (h : Same m a s) (hm : m &&& 0x1048000100a = 0x1048000100a) :
    Same m a (State.preloadStart s a1 a2) := h.then hm (by
  have h := Same.refl 0x1048000100a s
  unfold State.preloadStart
  extract_lets -merge -underBinder +onlyGivenNames x0 x1 x2 x3 x4 x5 x6 x7 x8
  have hx5 : Same 0x1048000100a s x5 := State.setLkpOf_same h rfl
  have hx7 : Same 0x1048000100a s x7 := by
    unfold x7
    split
    · exact Same.ite (State.setLkpOf_same hx5 rfl) hx5
    · exact hx5
  have hx8 : Same 0x1048000100a s x8 := Same.foldl hx7 (fun _ _ k9 => (by
    refine Same.ite ?_ ?_
    · exact k9
    · split
      · exact State.removeAt_same k9 rfl
      · exact k9))
  try clear_value x5 x7 x8
  exact State.preloadRun_same (Same.put_lkp hx8 rfl) rfl)

theorem State.viewLkp_same {a s : State} (h : Same m a s) (hm : m &&& 0x1000 = 0x1000) :
    Same m a (State.viewLkp s) := h.then hm (by
  have h := Same.refl 0x1000 s
  unfold State.viewLkp
  extract_lets -merge -underBinder +onlyGivenNames x0 x1 x2 x4 x5 x6
  have hx1 : Same 0x1000 s x1 := State.setB_same h rfl
  have hx2 : Same 0x1000 s x2 := Same.foldl hx1 (fun _ _ k3 => State.wr_same k3 (home_bit 12 rfl rfl))
  have hx4 : Same 0x1000 s x4 := State.wr_same hx2 rfl
  have hx5 : Same 0x1000 s x5 := State.setB_same hx4 rfl
  try clear_value x1 x2 x4 x5
  exact State.wr_same (State.setB_same hx5 rfl) rfl)

theorem State.lkpGo_same {a s : State} {a1 : Nat} (h : Same m a s) (hm : m &&& 0x10000001000 = 0x10000001000) :
    Same m a (State.lkpGo s a1) := h.then hm (by
  have h := Same.refl 0x10000001000 s
  unfold State.lkpGo
  refine Same.ite ?_ ?_
  · exact State.wr_same h rfl
  · extract_lets -merge -underBinder +onlyGivenNames x0
    exact (Same.put_lkp h rfl))

theorem State.lkpResult_same {a s : State} {a1 : LkpRes} (h : Same m a s) (hm : m &&& 0x1008000100a = 0x1008000100a) :
    Same m a (State.lkpResult s a1) := h.then hm (by
  have h := Same.refl 0x1008000100a s
  unfold State.lkpResult
  extract_lets -merge -underBinder +onlyGivenNames x0
  exact State.lkpConds_same (Same.put_lkp h rfl) rfl)

theorem State.dropBadOps_same {a s : State} {n : Nat} (h : Same m a s) (hm : m &&& 0x1008000100a = 0x1008000100a) :
    Same m a (State.dropBadOps n s) := by
  induction n generalizing s with
  | zero => exact h
  | succ n ih =>
    unfold State.dropBadOps
    split
    · exact Same.ite (ih (State.lkpResult_same h (sub_of hm rfl))) h
    · exact h

theorem lkpRow_same {a s : State} {op : Nat} {f : LkpCmd → State → State} (h : Same m a s)
    (hf : ∀ c t, Same m a t → Same m a (f c t)) (hm : m &&& 0x1008000100a = 0x1008000100a) : SameR m a (lkpRow op s f) :=
  onLogic_same h fun t k => by
    split
    · exact State.dropBadOps_same (hf _ _ k) hm
    · exact k

end Sys2Proof.Machine
end

