-- ==== Sys2Proof/Laws/KeepLookup.lean ====
section
/-! SUPPORT. What the functions of Machine/Lookup.lean can change, one lemma for each, with the canonical forms kept. -/

namespace Sys2Proof.Machine

variable {m : Nat}

theorem State.learnConflict_same {a s : State} {a1 : Sys2Proof.LearnReq} {a2 : FwdEntry} (h : Same m a s) (hm : m &&& 0x18000100a = 0x18000100a) :
    Same m a (State.learnConflict s a1 a2) := h.then hm (by
  have h := Same.refl 0x18000100a s
  unfold State.learnConflict
  extract_lets -merge -underBinder +onlyGivenNames x0
  have hx0 : Same 0x18000100a s x0 := State.irq_same (State.bump_same h rfl) rfl rfl rfl rfl
  try clear_value x0
  refine Same.ite ?_ ?_
  · exact hx0
  · extract_lets -merge -underBinder +onlyGivenNames x1 x2
    have hx1 : Same 0x18000100a s x1 := State.wr_same (State.wr_same (State.wr_same hx0 rfl) rfl) rfl
    have hx2 : Same 0x18000100a s x2 := State.wr_same (State.wr_same hx1 rfl) rfl
    try clear_value x1 x2
    split
    · exact State.wr_same hx2 rfl
    · exact State.wrFree_same hx2 rfl rfl)

theorem State.learnDynamic_same1 {a s : State} {a1 : Nat} {a2 : Sys2Proof.LearnReq} {a3 : FwdEntry} (h : Same m a s) (hm : m &&& 0x58000100a = 0x58000100a) :
    Same m a (State.learnDynamic s a1 a2 a3).1 := h.then hm (by
  have h := Same.refl 0x58000100a s
  unfold State.learnDynamic
  extract_lets -merge -underBinder +onlyGivenNames x0 x1
  refine Same.ite1 ?_ ?_
  · exact h
  · refine Same.ite1 ?_ ?_
    · exact State.learnConflict_same h rfl
    · extract_lets -merge -underBinder +onlyGivenNames x2
      have hx2 : Same 0x58000100a s x2.1 := State.withGen_same1 h rfl
      try clear_value x2
      exact State.bump_same hx2 rfl)

theorem State.learnHeld_same1 {a s : State} {a1 : Nat} {a2 : Sys2Proof.LearnReq} {a3 : FwdEntry} (h : Same m a s) (hm : m &&& 0x58000100a = 0x58000100a) :
    Same m a (State.learnHeld s a1 a2 a3).1 := h.then hm (by
  have h := Same.refl 0x58000100a s
  unfold State.learnHeld
  exact Same.ite1 (Same.ite h (State.bump_same h rfl)) (State.learnDynamic_same1 h rfl))

theorem State.learnNew_same {a s : State} {a1 : Nat} {a2 : Sys2Proof.LearnReq} (h : Same m a s) (hm : m &&& 0x48000100a = 0x48000100a) :
    Same m a (State.learnNew s a1 a2) := h.then hm (by
  have h := Same.refl 0x48000100a s
  unfold State.learnNew
  extract_lets -merge -underBinder +onlyGivenNames x0 x1
  have hx1 : Same 0x48000100a s x1.1 := State.insertEntry_same1 h rfl
  try clear_value x1
  split
  · exact State.mirror_same (State.bump_same hx1 rfl) rfl
  · exact State.mirror_same (State.bump_same hx1 rfl) rfl
  · exact State.bump_same hx1 rfl)

theorem State.learn_same {a s : State} {a1 : Nat} {a2 : Sys2Proof.LearnReq} (h : Same m a s) (hm : m &&& 0x58000100a = 0x58000100a) :
    Same m a (State.learn s a1 a2) := h.then hm (by
  have h := Same.refl 0x58000100a s
  unfold State.learn
  extract_lets -merge -underBinder +onlyGivenNames x0
  split
  · extract_lets -merge -underBinder +onlyGivenNames x1
    have hx1 : Same 0x58000100a s x1.1 := State.learnHeld_same1 h rfl
    try clear_value x1
    split
    · extract_lets -merge -underBinder +onlyGivenNames x2
      exact State.mirror_same (State.setLkpOf_same hx1 rfl) rfl
    · exact hx1
  · split
    · refine Same.ite ?_ ?_
      · extract_lets -merge -underBinder +onlyGivenNames x3
        have hx3 : Same 0x58000100a s x3.1 := State.learnHeld_same1 h rfl
        try clear_value x3
        split
        · exact State.mirror_same (State.setLkpOf_same hx3 rfl) rfl
        · exact hx3
      · exact State.learnNew_same h rfl
    · exact State.learnNew_same h rfl)

theorem State.takeLearn_same {a s : State} (h : Same m a s) (hm : m &&& 0x1058000100a = 0x1058000100a) :
    Same m a (State.takeLearn s) := h.then hm (by
  have h := Same.refl 0x1058000100a s
  unfold State.takeLearn
  extract_lets -merge -underBinder +onlyGivenNames x0 x1 x2
  have hx2 : Same 0x1058000100a s x2 := (Same.put_lkp h rfl)
  try clear_value x2
  split
  · exact State.lkpConds_same (State.learn_same hx2 rfl) rfl
  · exact hx2)

theorem execLearningRequest_same {a s : State} (h : Same m a s) (hm : m &&& 0x1058000100a = 0x1058000100a) :
    SameR m a (execLearningRequest s) := SameR.then h hm (by
  have h := Same.refl 0x1058000100a s
  unfold execLearningRequest
  exact onLogicIf_same h (fun _ k0 => State.takeLearn_same k0 rfl))

theorem execStampSweep_same {a s : State} {a0 : Bool} {a1 : Nat} (h : Same m a s) (hm : m &&& 0x400000000 = 0x400000000) :
    SameR m a (execStampSweep a0 a1 s) := SameR.then h hm (by
  have h := Same.refl 0x400000000 s
  unfold execStampSweep
  exact onLogicIf_same h (fun _ k0 => (by
    extract_lets -merge -underBinder +onlyGivenNames x1 x2 x3 x4 x5
    exact Same.ite (State.setLkpOf_same k0 rfl) k0)))

theorem State.ageOut_same {a s : State} {a1 : Nat} {a2 : FwdEntry} (h : Same m a s) (hm : m &&& 0x400001000 = 0x400001000) :
    Same m a (State.ageOut s a1 a2) := h.then hm (by
  have h := Same.refl 0x400001000 s
  unfold State.ageOut
  split
  · exact State.mirrorRemove_same (State.bump_same (State.removeAt_same h rfl) rfl) rfl
  · exact h)

theorem execAgingSweep_same {a s : State} (h : Same m a s) (hm : m &&& 0x1048000100a = 0x1048000100a) :
    SameR m a (execAgingSweep s) := SameR.then h hm (by
  have h := Same.refl 0x1048000100a s
  unfold execAgingSweep
  exact onLogicIf_same h (fun _ k0 => (by
    extract_lets -merge -underBinder +onlyGivenNames x1 x2 x3 x6
    have hx3 : Same 0x1048000100a s x3 := Same.foldl k0 (fun _ _ k4 => (by
      refine Same.ite ?_ ?_
      · exact k4
      · extract_lets -merge -underBinder +onlyGivenNames x5
        exact State.setLkpOf_same k4 rfl))
    have hx6 : Same 0x1048000100a s x6 := Same.foldl hx3 (fun _ _ k7 => State.ageOut_same k7 rfl)
    try clear_value x3 x6
    exact State.lkpConds_same (State.preloadRun_same hx6 rfl) rfl)))

theorem execSearch_same {a s : State} (h : Same m a s) (hm : m &&& 0x1008000100a = 0x1008000100a) :
    SameR m a (execSearch s) := SameR.then h hm (by
  have h := Same.refl 0x1008000100a s
  unfold execSearch
  exact lkpRow_same h (fun _ _ k0 => (by
    refine Same.ite ?_ ?_
    · exact State.lkpResult_same k0 rfl
    · extract_lets -merge -underBinder +onlyGivenNames x1
      split
      · exact State.lkpResult_same k0 rfl
      · exact State.lkpResult_same k0 rfl)) rfl)

theorem execRead_same {a s : State} (h : Same m a s) (hm : m &&& 0x1008000100a = 0x1008000100a) :
    SameR m a (execRead s) := SameR.then h hm (by
  have h := Same.refl 0x1008000100a s
  unfold execRead
  exact lkpRow_same h (fun _ _ k0 => (by
    extract_lets -merge -underBinder +onlyGivenNames x1
    refine Same.ite ?_ ?_
    · exact State.lkpResult_same k0 rfl
    · extract_lets -merge -underBinder +onlyGivenNames x2 x3
      exact Same.ite (State.lkpResult_same k0 rfl) (State.lkpResult_same k0 rfl))) rfl)

theorem execInsert_same {a s : State} (h : Same m a s) (hm : m &&& 0x1048000100a = 0x1048000100a) :
    SameR m a (execInsert s) := SameR.then h hm (by
  have h := Same.refl 0x1048000100a s
  unfold execInsert
  exact lkpRow_same h (fun _ _ k0 => (by
    refine Same.ite ?_ ?_
    · exact State.lkpResult_same k0 rfl
    · extract_lets -merge -underBinder +onlyGivenNames x1 x2
      split
      · exact State.lkpResult_same k0 rfl
      · refine Same.ite ?_ ?_
        · exact State.lkpResult_same k0 rfl
        · extract_lets -merge -underBinder +onlyGivenNames x3 x4
          have hx3 : Same 0x1048000100a s x3.1 := State.insertEntry_same1 k0 rfl
          have hx4 : Same 0x1048000100a s x4 := State.lkpBoth_same k0 (fun _ _ k5 => hx3) rfl
          try clear_value x3 x4
          split
          · exact State.lkpResult_same hx4 rfl
          · exact State.lkpResult_same hx4 rfl
          · exact State.lkpResult_same hx4 rfl)) rfl)

theorem State.writeVlan_same {a s : State} {a1 : LkpCmd} (h : Same m a s) (hm : m &&& 0x1048000100a = 0x1048000100a) :
    Same m a (State.writeVlan s a1) := h.then hm (by
  have h := Same.refl 0x1048000100a s
  unfold State.writeVlan
  extract_lets -merge -underBinder +onlyGivenNames x0 x1 x2
  have hx2 : Same 0x1048000100a s x2 := State.lkpBoth_same h (fun _ _ k3 => (by
    extract_lets -merge -underBinder +onlyGivenNames x4
    exact State.setLkpOf_same k3 rfl)) rfl
  try clear_value x2
  exact State.lkpResult_same hx2 rfl)

theorem execWrite_same {a s : State} (h : Same m a s) (hm : m &&& 0x1048000100a = 0x1048000100a) :
    SameR m a (execWrite s) := SameR.then h hm (by
  have h := Same.refl 0x1048000100a s
  unfold execWrite
  exact lkpRow_same h (fun _ _ k0 => (by
    refine Same.ite ?_ ?_
    · exact State.writeVlan_same k0 rfl
    · extract_lets -merge -underBinder +onlyGivenNames x1 x2
      split
      · exact State.lkpResult_same k0 rfl
      · extract_lets -merge -underBinder +onlyGivenNames x3
        refine Same.ite ?_ ?_
        · exact State.lkpResult_same k0 rfl
        · refine Same.ite ?_ ?_
          · exact State.lkpResult_same k0 rfl
          · extract_lets -merge -underBinder +onlyGivenNames x4 x5 x6
            have hx5 : Same 0x1048000100a s x5.1 := Same.ite1 k0 (State.withGen_same1 k0 rfl)
            have hx6 : Same 0x1048000100a s x6 := State.lkpBoth_same k0 (fun _ _ k7 => (by
              extract_lets -merge -underBinder +onlyGivenNames x8
              exact State.setLkpAt_same hx5 rfl)) rfl
            try clear_value x5 x6
            exact State.lkpResult_same hx6 rfl)) rfl)

theorem execDelete_same {a s : State} (h : Same m a s) (hm : m &&& 0x1048000100a = 0x1048000100a) :
    SameR m a (execDelete s) := SameR.then h hm (by
  have h := Same.refl 0x1048000100a s
  unfold execDelete
  exact lkpRow_same h (fun _ _ k0 => (by
    refine Same.ite ?_ ?_
    · exact State.lkpResult_same k0 rfl
    · extract_lets -merge -underBinder +onlyGivenNames x1 x2
      split
      · exact State.lkpResult_same k0 rfl
      · extract_lets -merge -underBinder +onlyGivenNames x3
        refine Same.ite ?_ ?_
        · exact State.lkpResult_same k0 rfl
        · refine Same.ite ?_ ?_
          · exact State.lkpResult_same k0 rfl
          · extract_lets -merge -underBinder +onlyGivenNames x4
            have hx4 : Same 0x1048000100a s x4 := State.lkpBoth_same k0 (fun _ _ k5 => State.preloadRun_same (State.removeAt_same k5 rfl) rfl) rfl
            try clear_value x4
            exact State.lkpResult_same hx4 rfl)) rfl)

theorem State.flush_same1 {a s : State} {a1 : Nat} {a2 : Bool} {a3 : Nat} {a4 : Bool} (h : Same m a s) (hm : m &&& 0x400001000 = 0x400001000) :
    Same m a (State.flush s a1 a2 a3 a4).1 := h.then hm (by
  have h := Same.refl 0x400001000 s
  unfold State.flush
  extract_lets -merge -underBinder +onlyGivenNames x0
  exact Same.foldl h (fun _ _ k1 => (by
    split
    · exact State.removeAt_same k1 rfl
    · exact k1)))

theorem execFlushDynamic_same {a s : State} (h : Same m a s) (hm : m &&& 0x1048000100a = 0x1048000100a) :
    SameR m a (execFlushDynamic s) := SameR.then h hm (by
  have h := Same.refl 0x1048000100a s
  unfold execFlushDynamic
  exact lkpRow_same h (fun _ _ k0 => (by
    refine Same.ite ?_ ?_
    · exact State.lkpResult_same k0 rfl
    · extract_lets -merge -underBinder +onlyGivenNames x1 x2 x3 x4 x5
      have hx5 : Same 0x1048000100a s x5 := State.lkpBoth_same k0 (fun _ _ k6 => State.preloadRun_same (State.flush_same1 k6 rfl) rfl) rfl
      try clear_value x5
      exact (Same.put_lkp hx5 rfl))) rfl)

theorem execOpenRebuild_same {a s : State} (h : Same m a s) (hm : m &&& 0x1048000100a = 0x1048000100a) :
    SameR m a (execOpenRebuild s) := SameR.then h hm (by
  have h := Same.refl 0x1048000100a s
  unfold execOpenRebuild
  exact lkpRow_same h (fun _ _ k0 => (by
    extract_lets -merge -underBinder +onlyGivenNames x1 x4
    have hx1 : Same 0x1048000100a s x1 := State.lkpBoth_same k0 (fun _ _ k2 => (by
      extract_lets -merge -underBinder +onlyGivenNames x3
      exact State.setLkpOf_same k2 rfl)) rfl
    have hx4 : Same 0x1048000100a s x4 := State.wr_same (State.wr_same hx1 rfl) rfl
    try clear_value x1 x4
    exact (Same.put_lkp hx4 rfl))) rfl)

theorem State.flipBanks_same {a s : State} {a1 : Nat} (h : Same m a s) (hm : m &&& 0x400000000 = 0x400000000) :
    Same m a (State.flipBanks s a1) := h.then hm (by
  have h := Same.refl 0x400000000 s
  unfold State.flipBanks
  extract_lets -merge -underBinder +onlyGivenNames x0
  exact State.setPlane_same h rfl (fun _ w => ⟨w.1, (fun _ e => by obtain ⟨c, hc, rfl⟩ := Option.map_eq_some_iff.1 e; exact w.2.1 c hc), w.2.2⟩))

theorem State.swapPending_same {a s : State} {a1 : Nat} (h : Same m a s) (hm : m &&& 0x400001000 = 0x400001000) :
    Same m a (State.swapPending s a1) := h.then hm (by
  have h := Same.refl 0x400001000 s
  unfold State.swapPending
  extract_lets -merge -underBinder +onlyGivenNames x0
  split
  · exact h
  · split
    · exact State.settlePending_same h rfl
    · exact State.retryPending_same h rfl)

theorem execSwapBanks_same {a s : State} (h : Same m a s) (hm : m &&& 0x104803fffff = 0x104803fffff) :
    SameR m a (execSwapBanks s) := SameR.then h hm (by
  have h := Same.refl 0x104803fffff s
  unfold execSwapBanks
  exact lkpRow_same h (fun _ _ k0 => (by
    refine Same.ite ?_ ?_
    · exact State.lkpResult_same k0 rfl
    · extract_lets -merge -underBinder +onlyGivenNames x1 x2 x3 x4 x5 x6
      have hx3 : Same 0x104803fffff s x3 := State.wr_same (State.wr_same k0 rfl) rfl
      have hx4 : Same 0x104803fffff s x4 := State.wr_same (State.wr_same hx3 rfl) rfl
      have hx5 : Same 0x104803fffff s x5 := State.wrBoth_same hx4 rfl
      have hx6 : Same 0x104803fffff s x6 := State.flipBanks_same (State.flipBanks_same hx5 rfl) rfl
      try clear_value x3 x4 x5 x6
      exact State.lkpResult_same (State.lkpBoth_same hx6 (fun _ _ k7 => State.preloadRun_same (State.swapPending_same k7 rfl) rfl) rfl) rfl)) rfl)

theorem execCloseRebuild_same {a s : State} (h : Same m a s) (hm : m &&& 0x1008000100a = 0x1008000100a) :
    SameR m a (execCloseRebuild s) := SameR.then h hm (by
  have h := Same.refl 0x1008000100a s
  unfold execCloseRebuild
  exact lkpRow_same h (fun _ _ k0 => State.lkpResult_same (State.wr_same (State.wr_same k0 rfl) rfl) rfl) rfl)

theorem execDropPending_same {a s : State} (h : Same m a s) (hm : m &&& 0x1048000100a = 0x1048000100a) :
    SameR m a (execDropPending s) := SameR.then h hm (by
  have h := Same.refl 0x1048000100a s
  unfold execDropPending
  exact lkpRow_same h (fun _ _ k0 => (by
    split
    · exact State.lkpResult_same k0 rfl
    · extract_lets -merge -underBinder +onlyGivenNames x1
      have hx1 : Same 0x1048000100a s x1 := State.lkpBoth_same k0 (fun _ _ k2 => State.preloadRun_same (State.setLkpOf_same k2 rfl) rfl) rfl
      try clear_value x1
      exact State.lkpResult_same hx1 rfl)) rfl)

theorem execLkpLongCmdDone_same {a s : State} (h : Same m a s) (hm : m &&& 0x1008000100a = 0x1008000100a) :
    SameR m a (execLkpLongCmdDone s) := SameR.then h hm (by
  have h := Same.refl 0x1008000100a s
  unfold execLkpLongCmdDone
  exact onLogic_same h (fun _ k0 => (by
    split
    · exact k0
    · exact State.dropBadOps_same (State.lkpResult_same (Same.put_lkp k0 rfl) rfl) rfl)))

theorem State.showLkpRes_same {a s : State} {a1 : Popped LkpRes} (h : Same m a s) (hm : m &&& 0x100001000 = 0x100001000) :
    Same m a (State.showLkpRes s a1) := h.then hm (by
  have h := Same.refl 0x100001000 s
  unfold State.showLkpRes
  extract_lets -merge -underBinder +onlyGivenNames x0
  split
  · exact State.wr_same h rfl
  · extract_lets -merge -underBinder +onlyGivenNames x1
    have hx1 : Same 0x100001000 s x1 := State.wr_same (State.wr_same (State.wr_same h rfl) rfl) rfl
    try clear_value x1
    exact Same.foldl (State.wrFree_same (State.wrFree_same (State.wrFree_same hx1 rfl rfl) rfl rfl) rfl rfl) (fun _ _ k2 => State.wrFree_same k2 (home_bit 12 rfl rfl) rfl)
  · extract_lets -merge -underBinder +onlyGivenNames x3 x4
    have hx3 : Same 0x100001000 s x3 := State.wr_same (State.wr_same (State.wr_same (State.wr_same h rfl) rfl) rfl) rfl
    have hx4 : Same 0x100001000 s x4 := State.wr_same (State.wr_same hx3 rfl) rfl
    try clear_value x3 x4
    exact Same.ite (Same.foldl hx4 (fun _ _ k5 => State.wrFree_same k5 (home_bit 12 rfl rfl) rfl)) (Same.foldl hx4 (fun _ _ k6 => State.wr_same k6 (home_bit 12 rfl rfl))))

theorem execLkpResPop_same {a s : State} (h : Same m a s) (hm : m &&& 0x1018000100a = 0x1018000100a) :
    SameR m a (execLkpResPop s) := SameR.then h hm (by
  have h := Same.refl 0x1018000100a s
  unfold execLkpResPop
  exact onLogic_same h (fun _ k0 => (by
    extract_lets -merge -underBinder +onlyGivenNames x1 x2
    exact State.showLkpRes_same (State.lkpConds_same (Same.put_lkp k0 rfl) rfl) rfl)))

theorem execWalkerVisit_same {a s : State} (h : Same m a s) (hm : m &&& 0x1008000100a = 0x1008000100a) :
    SameR m a (execWalkerVisit s) := SameR.then h hm (by
  have h := Same.refl 0x1008000100a s
  unfold execWalkerVisit
  exact onLogicIf_same h (fun _ k0 => (by
    extract_lets -merge -underBinder +onlyGivenNames x1 x2 x3 x4 x5 x6 x7 x8 x9
    have hx6 : Same 0x1008000100a s x6 := State.irq_same (State.bump_same k0 rfl) rfl rfl rfl rfl
    have hx7 : Same 0x1008000100a s x7 := Same.ite (Same.ite hx6 (State.wr_same (State.wr_same (State.wr_same hx6 rfl) rfl) rfl)) k0
    have hx9 : Same 0x1008000100a s x9 := (Same.put_lkp hx7 rfl)
    try clear_value x6 x7 x9
    exact Same.ite (State.bump_same hx9 rfl) hx9)))

end Sys2Proof.Machine
end

