-- ==== Sys2Proof/Laws/KeepEthernet.lean ====
section
/-! SUPPORT. What the functions of Machine/Ethernet.lean can change, one lemma for each, with the canonical forms kept. -/

namespace Sys2Proof.Machine

variable {m : Nat}

theorem State.fecCount_same {a s : State} {a1 : Nat} {a2 : Nat} {a3 : Nat} (h : Same m a s) (hm : m &&& 0x8011000a = 0x8011000a) :
    Same m a (State.fecCount s a1 a2 a3) := h.then hm (by
  have h := Same.refl 0x8011000a s
  unfold State.fecCount
  refine Same.ite ?_ ?_
  · extract_lets -merge -underBinder +onlyGivenNames x0
    have hx0 : Same 0x8011000a s x0 := State.bumpBy_same h (home_bit 16 rfl rfl)
    try clear_value x0
    exact Same.ite hx0 (State.irq_same (State.bumpBy_same hx0 (home_bit 16 rfl rfl)) (headHome_pgQ rfl) rfl rfl rfl)
  · exact h)

theorem execEthFrameReceived_same {a s : State} {a0 : Nat} {a1 : List Nat} {a2 : Bool} {a3 : Bool} {a4 : Nat} {a5 : Nat} {a6 : Nat} (h : Same m a s) (hm : m &&& 0x24ec7f01fffff = 0x24ec7f01fffff) :
    SameR m a (execEthFrameReceived a0 a1 a2 a3 a4 a5 a6 s) := SameR.then h hm (by
  have h := Same.refl 0x24ec7f01fffff s
  unfold execEthFrameReceived
  exact onLogicIf_same h (fun _ k0 => (by
    extract_lets -merge -underBinder +onlyGivenNames x1 x2
    have hx1 : Same 0x24ec7f01fffff s x1 := State.fecCount_same k0 rfl
    try clear_value x1
    refine Same.ite ?_ ?_
    · exact State.discardLanding_same (State.bump_same hx1 rfl) rfl
    · extract_lets -merge -underBinder +onlyGivenNames x3
      refine Same.ite ?_ ?_
      · extract_lets -merge -underBinder +onlyGivenNames x4
        have hx4 : Same 0x24ec7f01fffff s x4 := State.ethRxStamp_same hx1 rfl
        try clear_value x4
        refine Same.ite ?_ ?_
        · exact State.discardLanding_same hx4 rfl
        · extract_lets -merge -underBinder +onlyGivenNames x5
          have hx5 : Same 0x24ec7f01fffff s x5.1 := State.takeLanded_same1 hx4 rfl
          try clear_value x5
          split
          · exact hx5
          · extract_lets -merge -underBinder +onlyGivenNames x6 x7 x8
            have hx6 : Same 0x24ec7f01fffff s x6 := hx5
            have hx7 : Same 0x24ec7f01fffff s x7.1 := State.rxMeets_same1 hx6 rfl
            have hx8 : Same 0x24ec7f01fffff s x8 := hx7
            try clear_value x6 x7 x8
            refine Same.ite ?_ ?_
            · exact State.logRxDrop_same (State.rxOverflow_same (State.errU_same (State.dropFrame_same hx8 rfl) (headHome_pgQ rfl) rfl rfl rfl rfl rfl) rfl) rfl
            · extract_lets -merge -underBinder +onlyGivenNames x9
              have hx9 : Same 0x24ec7f01fffff s x9.1 := State.ethLand_same1 hx8 rfl
              try clear_value x9
              refine Same.ite ?_ ?_
              · extract_lets -merge -underBinder +onlyGivenNames x10
                have hx10 : Same 0x24ec7f01fffff s x10 := State.bump64_same (State.bump_same hx9 (home_bit 16 rfl rfl)) (home_bit 16 rfl rfl) (home_bit 16 rfl rfl)
                try clear_value x10
                exact State.drainWake_same (State.segmentUsed_same hx10 rfl) rfl
              · exact hx9
      · extract_lets -merge -underBinder +onlyGivenNames x11
        have hx11 : Same 0x24ec7f01fffff s x11 := State.bump_same hx1 (any_home rfl)
        try clear_value x11
        refine Same.ite ?_ ?_
        · extract_lets -merge -underBinder +onlyGivenNames x12
          have hx12 : Same 0x24ec7f01fffff s x12.1 := State.takeLanded_same1 hx11 rfl
          try clear_value x12
          split
          · exact hx12
          · extract_lets -merge -underBinder +onlyGivenNames x13
            have hx13 : Same 0x24ec7f01fffff s x13.1 := State.ethLand_same1 hx12 rfl
            try clear_value x13
            exact Same.ite (State.bump_same hx13 (home_bit 16 rfl rfl)) hx13
        · exact State.logRxDrop_same (State.discardLanding_same hx11 rfl) rfl)))

theorem execEthTxStart_same {a s : State} {a0 : Nat} (h : Same m a s) (hm : m &&& 0x42c6e011400a = 0x42c6e011400a) :
    SameR m a (execEthTxStart a0 s) := SameR.then h hm (by
  have h := Same.refl 0x42c6e011400a s
  unfold execEthTxStart
  exact onLogicIf_same h (fun _ k0 => (by
    refine Same.ite ?_ ?_
    · exact State.linkDrop_same k0 rfl
    · refine Same.ite ?_ ?_
      · exact k0
      · extract_lets -merge -underBinder +onlyGivenNames x1 x2
        have hx1 : Same 0x42c6e011400a s x1 := State.advanceCredit_same k0 rfl
        have hx2 : Same 0x42c6e011400a s x2 := Same.foldl hx1 (fun _ _ k3 => State.longDrop_same k3 rfl)
        try clear_value x1 x2
        split
        · exact State.ethStart_same hx2 rfl
        · exact hx2)))

theorem execEthTxEnd_same {a s : State} {a0 : Nat} {a1 : Nat} (h : Same m a s) (hm : m &&& 0x4ac7e01fffff = 0x4ac7e01fffff) :
    SameR m a (execEthTxEnd a0 a1 s) := SameR.then h hm (by
  have h := Same.refl 0x4ac7e01fffff s
  unfold execEthTxEnd
  exact onLogicIf_same h (fun _ k0 => State.ethEnd_same k0 rfl))

theorem execEthCutTooLong_same {a s : State} {a0 : Nat} (h : Same m a s) (hm : m &&& 0x42c6e011400a = 0x42c6e011400a) :
    SameR m a (execEthCutTooLong a0 s) := SameR.then h hm (by
  have h := Same.refl 0x42c6e011400a s
  unfold execEthCutTooLong
  exact onLogicIf_same h (fun _ k0 => (by
    split
    · split
      · extract_lets -merge -underBinder +onlyGivenNames x1
        refine Same.ite ?_ ?_
        · exact k0
        · extract_lets -merge -underBinder +onlyGivenNames x2
          have hx2 : Same 0x42c6e011400a s x2 := State.out_same k0 rfl
          try clear_value x2
          exact State.ethAbort_same (State.irq_same (State.bump_same hx2 (home_bit 16 rfl rfl)) (headHome_pgQ rfl) rfl rfl rfl) rfl
      · exact k0
    · exact k0)))

theorem execEthLinkDown_same {a s : State} {a0 : Nat} (h : Same m a s) (hm : m &&& 0x46c6e01fffff = 0x46c6e01fffff) :
    SameR m a (execEthLinkDown a0 s) := SameR.then h hm (by
  have h := Same.refl 0x46c6e01fffff s
  unfold execEthLinkDown
  exact onLogicIf_same h (fun _ k0 => (by
    extract_lets -merge -underBinder +onlyGivenNames x1 x2 x3 x4
    have hx3 : Same 0x46c6e01fffff s x3 := State.linkUpdate_same (State.setQuay_same k0 rfl) rfl
    have hx4 : Same 0x46c6e01fffff s x4 := Same.ite (State.linkDrop_same hx3 rfl) hx3
    try clear_value x3 x4
    exact Same.ite (State.tdrStart_same hx4 rfl) hx4)))

theorem execEthLinkUp_same {a s : State} {a0 : Nat} {a1 : Bool} {a2 : Nat} (h : Same m a s) (hm : m &&& 0x42c6e01fffff = 0x42c6e01fffff) :
    SameR m a (execEthLinkUp a0 a1 a2 s) := SameR.then h hm (by
  have h := Same.refl 0x42c6e01fffff s
  unfold execEthLinkUp
  exact onLogicIf_same h (fun _ k0 => (by
    extract_lets -merge -underBinder +onlyGivenNames x1 x2 x3
    have hx1 : Same 0x42c6e01fffff s x1 := Same.ite (State.wr_same (State.setB_same k0 (home_bit 17 rfl rfl)) (home_bit 17 rfl rfl)) k0
    have hx3 : Same 0x42c6e01fffff s x3 := State.linkUpdate_same (State.setQuay_same hx1 rfl) rfl
    try clear_value x1 x3
    exact Same.ite (State.dropFaults_same hx3 rfl) hx3)))

theorem execUsxCodeWord_same {a s : State} {a0 : Nat} {a1 : Nat} {a2 : Bool} (h : Same m a s) (hm : m &&& 0x42c6e01fffff = 0x42c6e01fffff) :
    SameR m a (execUsxCodeWord a0 a1 a2 s) := SameR.then h hm (by
  have h := Same.refl 0x42c6e01fffff s
  unfold execUsxCodeWord
  exact onLogicIf_same h (fun _ k0 => State.linkUpdate_same (State.setQuay_same (State.wr_same k0 (home_bit 16 rfl rfl)) rfl) rfl))

theorem execCollision_same {a s : State} {a0 : Nat} {a1 : Bool} (h : Same m a s) (hm : m &&& 0x42c7e011440a = 0x42c7e011440a) :
    SameR m a (execCollision a0 a1 s) := SameR.then h hm (by
  have h := Same.refl 0x42c7e011440a s
  unfold execCollision
  exact onLogicIf_same h (fun _ k0 => (by
    split
    · split
      · extract_lets -merge -underBinder +onlyGivenNames x1 x2 x3 x4
        have hx2 : Same 0x42c7e011440a s x2 := State.bump_same (State.setQuay_same (State.advanceCredit_same k0 rfl) rfl) (home_bit 16 rfl rfl)
        try clear_value x2
        exact Same.ite (State.collisionDrop_same (State.irq_same (State.bump_same hx2 (home_bit 16 rfl rfl)) (headHome_pgQ rfl) rfl rfl rfl) rfl) (Same.ite (State.collisionDrop_same (State.irq_same (State.bump_same hx2 (home_bit 16 rfl rfl)) (headHome_pgQ rfl) rfl rfl rfl) rfl) (Same.ite (State.flushItem_same (State.release_same hx2 rfl) rfl) (Same.ite (State.flushItem_same (State.release_same hx2 rfl) rfl) (State.release_same (State.putEgress_same hx2 rfl) rfl))))
      · exact k0
    · exact k0)))

theorem execEthModeApplied_same {a s : State} {a0 : Nat} (h : Same m a s) (hm : m &&& 0x42c6e01fffff = 0x42c6e01fffff) :
    SameR m a (execEthModeApplied a0 s) := SameR.then h hm (by
  have h := Same.refl 0x42c6e01fffff s
  unfold execEthModeApplied
  exact onLogicIf_same h (fun _ k0 => State.linkUpdate_same (State.irq_same (State.wr_same (State.setQuay_same k0 rfl) (home_bit 16 rfl rfl)) (headHome_pgQ rfl) rfl rfl rfl) rfl))

theorem execQyeFlush_same {a s : State} {a0 : Nat} {a1 : Nat} (h : Same m a s) (hm : m &&& 0x40c6e001400a = 0x40c6e001400a) :
    SameR m a (execQyeFlush a0 a1 s) := SameR.then h hm (by
  have h := Same.refl 0x40c6e001400a s
  unfold execQyeFlush
  exact onLogicIf_same h (fun _ k0 => State.ethFlushQueue_same k0 rfl))

theorem State.plcaCond_same {a s : State} {a1 : Nat} (h : Same m a s) (hm : m &&& 0x8010000a = 0x8010000a) :
    Same m a (State.plcaCond s a1) := h.then hm (by
  have h := Same.refl 0x8010000a s
  unfold State.plcaCond
  exact State.cond_same h (headHome_pgQ rfl) rfl rfl rfl)

theorem State.plcaAfter_same {a s : State} {a1 : Nat} (h : Same m a s) (hm : m &&& 0x8011000a = 0x8011000a) :
    Same m a (State.plcaAfter s a1) := h.then hm (by
  have h := Same.refl 0x8011000a s
  unfold State.plcaAfter
  exact State.plcaCond_same (Same.ite h (State.wr_same h (home_bit 16 rfl rfl))) rfl)

theorem execPlcaStatusChange_same {a s : State} {a0 : Nat} {a1 : Bool} (h : Same m a s) (hm : m &&& 0x8011000a = 0x8011000a) :
    SameR m a (execPlcaStatusChange a0 a1 s) := SameR.then h hm (by
  have h := Same.refl 0x8011000a s
  unfold execPlcaStatusChange
  exact onLogicIf_same h (fun _ k0 => State.plcaCond_same (State.setB_same k0 (home_bit 16 rfl rfl)) rfl))

end Sys2Proof.Machine
end

