-- ==== Sys2Proof/Laws/KeepPlanes.lean ====
section
/-! SUPPORT. What the functions of Machine/Planes.lean can change, one lemma for each, with the canonical forms kept. -/

namespace Sys2Proof.Machine

variable {m : Nat}

theorem State.intake_same {a s : State} {a1 : Sys2Proof.Desc} (h : Same m a s) (hm : m &&& 0x200000000 = 0x200000000) :
    Same m a (State.intake s a1) := h.then hm (by
  have h := Same.refl 0x200000000 s
  unfold State.intake
  extract_lets -merge -underBinder +onlyGivenNames x0 x1
  have hx1 : Same 0x200000000 s x1 := by
    unfold x1
    split
    · exact State.putFrame_same h rfl
    · exact h
  try clear_value x1
  exact State.setCst_same hx1 rfl (fun w => w))

theorem State.popFifo_same {a s : State} {a1 : Nat} (h : Same m a s) (hm : m &&& 0x200000000 = 0x200000000) :
    Same m a (State.popFifo s a1) := h.then hm (by
  have h := Same.refl 0x200000000 s
  unfold State.popFifo
  extract_lets -merge -underBinder +onlyGivenNames x0 x1 x2 x3 x4
  have hx2 : Same 0x200000000 s x2 := State.putIngr_same h rfl
  have hx4 : Same 0x200000000 s x4 := State.setCst_same hx2 rfl (fun w => w)
  try clear_value x2 x4
  split
  · exact State.intake_same hx4 rfl
  · exact hx4)

theorem execDescriptorIntake_same {a s : State} (h : Same m a s) (hm : m &&& 0x200000000 = 0x200000000) :
    SameR m a (execDescriptorIntake s) := SameR.then h hm (by
  have h := Same.refl 0x200000000 s
  unfold execDescriptorIntake
  exact onLogic_same h (fun _ k0 => (by
    split
    · exact k0
    · exact State.popFifo_same k0 rfl)))

theorem execForwardingDecision_same {a s : State} (h : Same m a s) (hm : m &&& 0x156801fffff = 0x156801fffff) :
    SameR m a (execForwardingDecision s) :=
  onLogic_same h fun t k => by
    split
    · exact k
    · next d seq planes rest _ =>
      have hx : Same m a (t.setCst { t.cst with inbox := rest }) := State.setCst_same k (sub_of hm rfl) fun w => w
      extract_lets -merge -underBinder +onlyGivenNames c x xs idle act y z
      have hy : Same m a y := Same.foldl hx fun u n hu =>
        State.setPlane_same hu (sub_of hm rfl) fun hc _ =>
          ((State.decideStandby_same (State.asPlane_same hx (sub_of hm rfl)) (sub_of hm rfl)).canonical hc).pdu n
      have hz : Same m a z := Same.foldl hy fun u n hu => State.countDecision_same hu (sub_of hm rfl)
      exact Same.foldl hz fun u n hu => State.decideActing_same hu (sub_of hm rfl)

theorem execRecordAccept_same {a s : State} {a0 : Nat} {a1 : Option Sys2Proof.Rec} (h : Same m a s) (hm : m &&& 0x157e01fffff = 0x157e01fffff) :
    SameR m a (execRecordAccept a0 a1 s) := SameR.then h hm (by
  have h := Same.refl 0x157e01fffff s
  unfold execRecordAccept
  exact onLogic_same h (fun _ k0 => State.receiveRecord_same k0 rfl))

theorem execCheckWordQuery_same {a s : State} {a0 : Nat} (h : Same m a s) (hm : m &&& 0x2c009010b = 0x2c009010b) :
    SameR m a (execCheckWordQuery a0 s) := SameR.then h hm (by
  have h := Same.refl 0x2c009010b s
  unfold execCheckWordQuery
  exact onLogic_same h (fun _ k0 => State.queryOther_same k0 rfl))

theorem execClaimRefreshTimeout_same {a s : State} {a0 : Nat} (h : Same m a s) (hm : m &&& 0x155a01fffff = 0x155a01fffff) :
    SameR m a (execClaimRefreshTimeout a0 s) := SameR.then h hm (by
  have h := Same.refl 0x155a01fffff s
  unfold execClaimRefreshTimeout
  exact onLogicIf_same h (fun _ k0 => State.planeFault_same (State.useFresh_same k0 rfl) rfl))

theorem State.tideMemError_same {a s : State} {a1 : Nat} {a2 : Nat} (h : Same m a s) (hm : m &&& 0x10a000040a = 0x10a000040a) :
    Same m a (State.tideMemError s a1 a2) := h.then hm (by
  have h := Same.refl 0x10a000040a s
  unfold State.tideMemError
  extract_lets -merge -underBinder +onlyGivenNames x0 x1 x2
  have hx2 : Same 0x10a000040a s x2 := (Same.put_tid h rfl (fun w v => ⟨w, v⟩))
  try clear_value x2
  exact Same.ite (State.cond_same (State.wr_same (State.bump_same (State.err_same hx2 rfl rfl rfl rfl rfl) rfl) rfl) rfl rfl rfl rfl) hx2)

theorem execPlaneFault_same {a s : State} {a0 : Nat} {a1 : Bool} {a2 : Nat} {a3 : Nat} (h : Same m a s) (hm : m &&& 0x155a01fffff = 0x155a01fffff) :
    SameR m a (execPlaneFault a0 a1 a2 a3 s) := SameR.then h hm (by
  have h := Same.refl 0x155a01fffff s
  unfold execPlaneFault
  exact onLogicIf_same h (fun _ k0 => (by
    extract_lets -merge -underBinder +onlyGivenNames x1
    have hx1 : Same 0x155a01fffff s x1 := State.planeFault_same k0 rfl
    try clear_value x1
    exact Same.ite (State.tideMemError_same hx1 rfl) hx1)))

theorem execTakeover_same {a s : State} (h : Same m a s) (hm : m &&& 0xde800010a = 0xde800010a) :
    SameR m a (execTakeover s) := SameR.then h hm (by
  have h := Same.refl 0xde800010a s
  unfold execTakeover
  exact onLogicIf_same h (fun _ k0 => (by
    split
    · exact k0
    · extract_lets -merge -underBinder +onlyGivenNames x1 x2
      have hx2 : Same 0xde800010a s x2 := (Same.put_bnd k0 rfl)
      try clear_value x2
      refine Same.ite ?_ ?_
      · exact State.errU_same hx2 (headHome_pgPM rfl) rfl rfl rfl rfl rfl
      · extract_lets -merge -underBinder +onlyGivenNames x3 x4 x5 x6 x7
        have hx4 : Same 0xde800010a s x4 := State.setRole_same (State.setClaim_same (Same.put_switchGen hx2 rfl) rfl) rfl
        have hx6 : Same 0xde800010a s x6 := State.wr_same (State.wr_same hx4 (home_bit 8 rfl rfl)) (home_bit 8 rfl rfl)
        have hx7 : Same 0xde800010a s x7 := State.irq_same (State.bump_same hx6 (home_bit 8 rfl rfl)) (headHome_pgPM rfl) rfl rfl rfl
        try clear_value x4 x6 x7
        exact State.markAt_same hx7 rfl)))

theorem execDeltaSealArrive_same {a s : State} {a0 : Bool} (h : Same m a s) (hm : m &&& 0x400000000 = 0x400000000) :
    SameR m a (execDeltaSealArrive a0 s) := SameR.then h hm (by
  have h := Same.refl 0x400000000 s
  unfold execDeltaSealArrive
  exact onLogic_same h (fun _ k0 => (by
    split
    · exact k0
    · extract_lets -merge -underBinder +onlyGivenNames x1
      split
      · exact k0
      · exact State.setPlane_same k0 rfl (fun _ w => ⟨w.1, (fun e he => by have hd := w.2.1 _ (by assumption); obtain rfl := Option.some.inj he; exact hd), w.2.2⟩))))

theorem State.commitDelta_wf {s : State} {d : Delta} {own : PlaneImg} (hs : Memory.wf d.img.pdu = true) (hd : Memory.wf own.pdu = true) :
    Memory.wf (s.commitDelta d own).pdu = true := by
  have e : (s.commitDelta d own).pdu = SMap.copyWhere (fun a => d.lines.contains (linePdu (a / 64))) d.img.pdu own.pdu := by
    simp only [State.commitDelta]
  rw [e]
  exact Memory.wf_copyWhere hs hd

theorem execDeltaCommit_same {a s : State} (h : Same m a s) (hm : m &&& 0x400000100 = 0x400000100) :
    SameR m a (execDeltaCommit s) := SameR.then h hm (by
  have h := Same.refl 0x400000100 s
  unfold execDeltaCommit
  exact onLogicIf_same h (fun _ k0 => (by
    split
    · exact k0
    · extract_lets -merge -underBinder +onlyGivenNames x1
      split
      · exact k0
      · exact Same.ite (State.setPlane_same k0 rfl (fun _ w => ⟨State.commitDelta_wf (w.2.1 _ (by assumption)) w.1, nofun, w.2.2⟩)) (State.dropDelta_same k0 rfl))))

theorem execCopyLinkError_same {a s : State} (h : Same m a s) (hm : m &&& 0x5a000010a = 0x5a000010a) :
    SameR m a (execCopyLinkError s) := SameR.then h hm (by
  have h := Same.refl 0x5a000010a s
  unfold execCopyLinkError
  exact onLogic_same h (fun _ k0 => (by
    split
    · exact k0
    · refine Same.ite ?_ ?_
      · exact State.goStale_same k0 rfl
      · extract_lets -merge -underBinder +onlyGivenNames x1 x2
        have hx1 : Same 0x5a000010a s x1 := State.dropDelta_same (State.errU_same k0 (headHome_pgPM rfl) rfl rfl rfl rfl rfl) rfl
        try clear_value x1
        refine Same.ite ?_ ?_
        · extract_lets -merge -underBinder +onlyGivenNames x3
          have hx3 : Same 0x5a000010a s x3 := State.wr_same hx1 (home_bit 8 rfl rfl)
          try clear_value x3
          exact State.setPlane_same hx3 rfl (fun _ w => ⟨w.1, w.2.1, w.2.2⟩)
        · extract_lets -merge -underBinder +onlyGivenNames x4
          have hx4 : Same 0x5a000010a s x4 := State.errU_same (State.setRole_same hx1 rfl) (headHome_pgPM rfl) rfl rfl rfl rfl rfl
          try clear_value x4
          exact State.irq_same (State.setPlane_same hx4 rfl (fun _ w => ⟨w.1, w.2.1, w.2.2⟩)) (headHome_pgPM rfl) rfl rfl rfl)))

theorem execTakeOut_same {a s : State} {a0 : Nat} {a1 : Sys2Proof.Master} (h : Same m a s) (hm : m &&& 0x155a000110a = 0x155a000110a) :
    SameR m a (execTakeOut a0 a1 s) := SameR.then h hm (by
  have h := Same.refl 0x155a000110a s
  unfold execTakeOut
  exact onLogicIf_same h (fun _ k0 => (by
    extract_lets -merge -underBinder +onlyGivenNames x1
    exact Same.ite (State.leaveActive_same k0 rfl) (Same.ite (State.enterOut_same k0 rfl) (State.pmReject_same k0 rfl)))))

theorem State.startRejoin_same {a s : State} {a1 : Nat} (h : Same m a s) (hm : m &&& 0x48000010a = 0x48000010a) :
    Same m a (State.startRejoin s a1) := h.then hm (by
  have h := Same.refl 0x48000010a s
  unfold State.startRejoin
  extract_lets -merge -underBinder +onlyGivenNames x0
  have hx0 : Same 0x48000010a s x0 := State.wr_same (State.setRole_same h rfl) (home_bit 8 rfl rfl)
  try clear_value x0
  exact State.setPlane_same hx0 rfl (fun _ w => ⟨w.1, w.2.1, w.2.2⟩))

theorem execRejoin_same {a s : State} {a0 : Nat} (h : Same m a s) (hm : m &&& 0x48000010a = 0x48000010a) :
    SameR m a (execRejoin a0 s) := SameR.then h hm (by
  have h := Same.refl 0x48000010a s
  unfold execRejoin
  exact onLogicIf_same h (fun _ k0 => (by
    extract_lets -merge -underBinder +onlyGivenNames x1
    refine Same.ite ?_ ?_
    · exact Same.ite (State.setPlane_same k0 rfl (fun hc w => by first | exact ⟨w.1, w.2.1, w.2.2⟩ | exact (k0.canonical hc).pdu _)) (State.startRejoin_same k0 rfl)
    · refine Same.ite ?_ ?_
      · extract_lets -merge -underBinder +onlyGivenNames x2
        have hx2 : Same 0x48000010a s x2 := State.setPlane_same (State.setRole_same k0 rfl) rfl (fun hc w => by first | exact ⟨w.1, w.2.1, w.2.2⟩ | exact (k0.canonical hc).pdu _)
        try clear_value x2
        exact State.irq_same (State.bump_same hx2 (home_bit 8 rfl rfl)) (headHome_pgPM rfl) rfl rfl rfl
      · exact State.pmReject_same k0 rfl)))

theorem State.selfTestFail_same {a s : State} {a1 : Nat} {a2 : Nat} (h : Same m a s) (hm : m &&& 0x5a000010a = 0x5a000010a) :
    Same m a (State.selfTestFail s a1 a2) := h.then hm (by
  have h := Same.refl 0x5a000010a s
  unfold State.selfTestFail
  extract_lets -merge -underBinder +onlyGivenNames x0 x1 x2
  have hx0 : Same 0x5a000010a s x0 := State.wr_same (State.wr_same (State.setRole_same h rfl) (home_bit 8 rfl rfl)) (home_bit 8 rfl rfl)
  have hx2 : Same 0x5a000010a s x2 := State.setPlane_same hx0 rfl (fun _ w => ⟨w.1, w.2.1, w.2.2⟩)
  try clear_value x0 x2
  exact State.irq_same (State.errU_same hx2 (headHome_pgPM rfl) rfl rfl rfl rfl rfl) (headHome_pgPM rfl) rfl rfl rfl)

theorem State.startTestFail_same {a s : State} {a1 : Nat} {a2 : Nat} (h : Same m a s) (hm : m &&& 0x5a000010a = 0x5a000010a) :
    Same m a (State.startTestFail s a1 a2) := h.then hm (by
  have h := Same.refl 0x5a000010a s
  unfold State.startTestFail
  extract_lets -merge -underBinder +onlyGivenNames x0 x1
  have hx0 : Same 0x5a000010a s x0 := State.wr_same (State.wr_same h (home_bit 8 rfl rfl)) (home_bit 8 rfl rfl)
  try clear_value x0
  exact State.selfTestFail_same (State.wr_same hx0 (home_bit 8 rfl rfl)) rfl)

theorem execPllRelock_same {a s : State} {a0 : Nat} {a1 : Bool} (h : Same m a s) (hm : m &&& 0x5a000010a = 0x5a000010a) :
    SameR m a (execPllRelock a0 a1 s) := SameR.then h hm (by
  have h := Same.refl 0x5a000010a s
  unfold execPllRelock
  exact onLogicIf_same h (fun _ k0 => Same.ite (State.setPlane_same k0 rfl (fun _ w => ⟨w.1, w.2.1, w.2.2⟩)) (State.selfTestFail_same (State.useFresh_same k0 rfl) rfl)))

theorem execPlaneSelftestDone_same {a s : State} {a0 : Nat} {a1 : Bool} {a2 : Nat} (h : Same m a s) (hm : m &&& 0x5a000010a = 0x5a000010a) :
    SameR m a (execPlaneSelftestDone a0 a1 a2 s) := SameR.then h hm (by
  have h := Same.refl 0x5a000010a s
  unfold execPlaneSelftestDone
  exact onLogicIf_same h (fun _ k0 => (by
    refine Same.ite ?_ ?_
    · extract_lets -merge -underBinder +onlyGivenNames x1 x2 x3 x4
      have hx1 : Same 0x5a000010a s x1 := State.wr_same (State.wr_same k0 (home_bit 8 rfl rfl)) (home_bit 8 rfl rfl)
      have hx4 : Same 0x5a000010a s x4 := State.setPlane_same hx1 rfl (fun _ w => ⟨w.1, w.2.1, w.2.2⟩)
      try clear_value x1 x4
      exact Same.ite (State.startRejoin_same hx4 rfl) hx4
    · exact State.selfTestFail_same k0 rfl)))

theorem execRejoinStart_same {a s : State} (h : Same m a s) (hm : m &&& 0x408000100 = 0x408000100) :
    SameR m a (execRejoinStart s) := SameR.then h hm (by
  have h := Same.refl 0x408000100 s
  unfold execRejoinStart
  exact onLogicIf_same h (fun _ k0 => (by
    split
    · exact k0
    · extract_lets -merge -underBinder +onlyGivenNames x1 x2 x3 x4
      have hx2 : Same 0x408000100 s x2 := State.wr_same (State.wr_same (State.wr_same k0 (home_bit 8 rfl rfl)) (home_bit 8 rfl rfl)) (home_bit 8 rfl rfl)
      have hx4 : Same 0x408000100 s x4 := State.setPlane_same hx2 rfl (fun _ w => ⟨w.1, w.2.1, w.2.2⟩)
      try clear_value x2 x4
      exact (Same.put_bnd hx4 rfl))))

theorem execRejoinComplete_same {a s : State} (h : Same m a s) (hm : m &&& 0x4c000010a = 0x4c000010a) :
    SameR m a (execRejoinComplete s) := SameR.then h hm (by
  have h := Same.refl 0x4c000010a s
  unfold execRejoinComplete
  exact onLogic_same h (fun _ k0 => (by
    split
    · exact k0
    · extract_lets -merge -underBinder +onlyGivenNames x1 x2 x3 x4
      have hx2 : Same 0x4c000010a s x2 := State.setPlane_same k0 rfl (fun _ w => ⟨w.1, w.2.1, w.2.2⟩)
      have hx3 : Same 0x4c000010a s x3 := State.ownDone_same hx2 rfl
      have hx4 : Same 0x4c000010a s x4 := State.markAt_same (State.setRole_same (State.setClaim_same hx3 rfl) rfl) rfl
      try clear_value x2 x3 x4
      exact State.irq_same (State.bump_same hx4 (home_bit 8 rfl rfl)) (headHome_pgPM rfl) rfl rfl rfl)))

end Sys2Proof.Machine
end

