-- ==== Sys2Proof/Laws/KeepInstallOps.lean ====
section
/-! SUPPORT. What the functions of Machine/InstallOps.lean can change, one lemma for each, with the canonical forms kept. -/

namespace Sys2Proof.Machine

variable {m : Nat}

theorem State.showShadow_same {a s : State} {a1 : Mem} (h : Same m a s) (hm : m &&& 0x400 = 0x400) :
    Same m a (State.showShadow s a1) := h.then hm (by
  have h := Same.refl 0x400 s
  unfold State.showShadow
  exact State.wr_same (State.wr_same (State.wr_same (State.wr_same h rfl) rfl) rfl) rfl)

theorem State.showActive_same {a s : State} {a1 : Mem} (h : Same m a s) (hm : m &&& 0x400 = 0x400) :
    Same m a (State.showActive s a1) := h.then hm (by
  have h := Same.refl 0x400 s
  unfold State.showActive
  extract_lets -merge -underBinder +onlyGivenNames x0
  have hx0 : Same 0x400 s x0 := State.wr_same (State.wr_same (State.wr_same (State.wr_same h rfl) rfl) rfl) rfl
  try clear_value x0
  exact Same.foldl hx0 (fun _ _ k1 => State.wr_same k1 (home_bit 10 rfl rfl)))

theorem State.installBerths_same {a s : State} {a1 : Mem} {a2 : Nat} (h : Same m a s) (hm : m &&& 0x5400002000 = 0x5400002000) :
    Same m a (State.installBerths s a1 a2) := h.then hm (by
  have h := Same.refl 0x5400002000 s
  unfold State.installBerths
  extract_lets -merge -underBinder +onlyGivenNames x0 x1 x2 x3 x4 x5 x6 x7 x8
  have hx6 : Same 0x5400002000 s x6 := State.mapOwn_same (State.setBth_same h rfl (by first | exact fun w v => ⟨w, v⟩ | exact fun _ w => ⟨w.1, w.2.1, Memory.wf_foldl rfl fun _ _ v => Memory.wf_puts _ _ v⟩ | exact fun _ => Memory.wf_foldl rfl fun _ _ v => Memory.wf_puts _ _ v | exact fun _ w => w)) rfl (by first | exact fun w v => ⟨w, v⟩ | exact fun _ w => ⟨w.1, w.2.1, Memory.wf_foldl rfl fun _ _ v => Memory.wf_puts _ _ v⟩ | exact fun _ => Memory.wf_foldl rfl fun _ _ v => Memory.wf_puts _ _ v | exact fun _ w => w)
  have hx8 : Same 0x5400002000 s x8 := State.setTid_same hx6 rfl (by first | exact fun w v => ⟨w, v⟩ | exact fun _ w => ⟨w.1, w.2.1, Memory.wf_foldl rfl fun _ _ v => Memory.wf_puts _ _ v⟩ | exact fun _ => Memory.wf_foldl rfl fun _ _ v => Memory.wf_puts _ _ v | exact fun _ w => w)
  try clear_value x6 x8
  exact State.wr_same (State.mapImgs_same hx8 rfl (by first | exact fun w v => ⟨w, v⟩ | exact fun _ w => ⟨w.1, w.2.1, Memory.wf_foldl rfl fun _ _ v => Memory.wf_puts _ _ v⟩ | exact fun _ => Memory.wf_foldl rfl fun _ _ v => Memory.wf_puts _ _ v | exact fun _ w => w)) rfl)

theorem State.swapDiscard_same {a s : State} (h : Same m a s) (hm : m &&& 0x408000200a = 0x408000200a) :
    Same m a (State.swapDiscard s) := h.then hm (by
  have h := Same.refl 0x408000200a s
  unfold State.swapDiscard
  exact Same.ite h (State.irq_same (State.wr_same (State.freeSlots_same h rfl) rfl) rfl rfl rfl rfl))

theorem State.dropJobs_same {a s : State} (h : Same m a s) (hm : m &&& 0x4086e000480a = 0x4086e000480a) :
    Same m a (State.dropJobs s) := h.then hm (by
  have h := Same.refl 0x4086e000480a s
  unfold State.dropJobs
  extract_lets -merge -underBinder +onlyGivenNames x0 x1 x3 x4 x6
  have hx1 : Same 0x4086e000480a s x1 := Same.foldl h (fun _ _ k2 => State.release_same (State.jobDrop_same k2 rfl) rfl)
  have hx3 : Same 0x4086e000480a s x3 := State.putInner_same hx1 rfl
  have hx4 : Same 0x4086e000480a s x4 := Same.foldl hx3 (fun _ _ k5 => State.release_same (State.jobDrop_same k5 rfl) rfl)
  have hx6 : Same 0x4086e000480a s x6 := by
    unfold x6
    split
    · exact State.release_same (State.jobDrop_same hx4 rfl) rfl
    · exact hx4
  try clear_value x1 x3 x4 x6
  exact State.setSgw_same hx6 rfl)

theorem State.dropJobRecords_same {a s : State} (h : Same m a s) (hm : m &&& 0x28000080a = 0x28000080a) :
    Same m a (State.dropJobRecords s) := h.then hm (by
  have h := Same.refl 0x28000080a s
  unfold State.dropJobRecords
  extract_lets -merge -underBinder +onlyGivenNames x0 x1 x2
  have hx2 : Same 0x28000080a s x2 := State.setCst_same h rfl (fun w => w)
  try clear_value x2
  exact Same.foldl hx2 (fun _ _ k3 => State.jobDrop_same k3 rfl))

theorem State.pduInit_wf (s : State) (x : Mem) : Memory.wf (s.pduInit x) = true := by
  unfold State.pduInit
  extract_lets maps onBuild p1 p2 p3
  have hb : ∀ p y f, Memory.wf p = true → (∀ q a, Memory.wf q = true → Memory.wf (f q a) = true) → Memory.wf (onBuild p y f) = true := by
    intro p y f hp hf
    simp only [onBuild]
    split
    · exact hf _ _ hp
    · exact hp
  clear_value onBuild
  have h1 : Memory.wf p1 = true := Memory.wf_foldl rfl fun _ _ v => Memory.wf_puts _ _ v
  have h2 : Memory.wf p2 = true := Memory.wf_foldl h1 fun _ _ v => Memory.wf_puts _ _ v
  have h3 : Memory.wf p3 = true := Memory.wf_foldl h2 fun _ _ v => hb _ _ _ v fun _ _ w => Memory.wf_putField w
  clear_value p1 p2 p3
  refine Memory.wf_foldl h3 fun n y v => ?_
  split
  · exact hb _ _ _ v fun _ _ w => Memory.wf_putBit w
  · exact v

theorem State.installGateway_same {a s : State} {a1 : Mem} (h : Same m a s) (hm : m &&& 0x4086e0004c0a = 0x4086e0004c0a) :
    Same m a (State.installGateway s a1) := h.then hm (by
  have h := Same.refl 0x4086e0004c0a s
  unfold State.installGateway
  extract_lets -merge -underBinder +onlyGivenNames x0 x1 x3 x5 x6 x7
  have hx0 : Same 0x4086e0004c0a s x0 := State.dropJobRecords_same (State.dropJobs_same h rfl) rfl
  have hx1 : Same 0x4086e0004c0a s x1 := Same.foldl hx0 (fun _ _ k2 => State.discardPdu_same k2 rfl)
  have hx3 : Same 0x4086e0004c0a s x3 := Same.foldl hx1 (fun _ _ k4 => State.release_same k4 rfl)
  have hx6 : Same 0x4086e0004c0a s x6 := State.setSgw_same hx3 rfl
  try clear_value x0 x1 x3 x6
  exact State.viewSgw_same (State.mapImgs_same hx6 rfl (fun _ _ => State.pduInit_wf _ _)) rfl)

theorem State.abortRebuild_same {a s : State} (h : Same m a s) (hm : m &&& 0x8000100a = 0x8000100a) :
    Same m a (State.abortRebuild s) := h.then hm (by
  have h := Same.refl 0x8000100a s
  unfold State.abortRebuild
  exact Same.ite (State.irq_same (State.wr_same (State.wr_same h rfl) rfl) rfl rfl rfl rfl) h)

theorem State.installLookup_same {a s : State} {a1 : Mem} (h : Same m a s) (hm : m &&& 0x1048000100a = 0x1048000100a) :
    Same m a (State.installLookup s a1) := h.then hm (by
  have h := Same.refl 0x1048000100a s
  unfold State.installLookup
  exact State.lkpConds_same (State.viewLkp_same (State.lkpBoth_same (State.abortRebuild_same h rfl) (fun _ _ k0 => State.preloadStart_same k0 rfl) rfl) rfl) rfl)

theorem State.initGates_same {a s : State} {a1 : Mem} (h : Same m a s) (hm : m &&& 0x42e6e011440a = 0x42e6e011440a) :
    Same m a (State.initGates s a1) := h.then hm (by
  have h := Same.refl 0x42e6e011440a s
  unfold State.initGates
  exact Same.foldl h (fun _ _ k0 => State.applyGate_same k0 rfl))

theorem State.joinGates_same {a s : State} {a1 : Mem} (h : Same m a s) (hm : m &&& 0x42e6e011440a = 0x42e6e011440a) :
    Same m a (State.joinGates s a1) := h.then hm (by
  have h := Same.refl 0x42e6e011440a s
  unfold State.joinGates
  exact Same.foldl h (fun _ _ k0 => (by
    extract_lets -merge -underBinder +onlyGivenNames x1
    exact State.applyGate_same k0 rfl)))

theorem State.installImage_same {a s : State} {a1 : Nat} (h : Same m a s) (hm : m &&& 0x41d6e0007c1a = 0x41d6e0007c1a) :
    Same m a (State.installImage s a1) := h.then hm (by
  have h := Same.refl 0x41d6e0007c1a s
  unfold State.installImage
  extract_lets -merge -underBinder +onlyGivenNames x0 x1 x2
  have hx1 : Same 0x41d6e0007c1a s x1 := State.installBerths_same h rfl
  have hx2 : Same 0x41d6e0007c1a s x2 := State.installLookup_same (State.installGateway_same hx1 rfl) rfl
  try clear_value x1 x2
  exact State.hwm_same (State.viewHck_same (State.trigActivate_same (State.showActive_same hx2 rfl) rfl) rfl) rfl)

end Sys2Proof.Machine
end

