-- ==== Sys2Proof/Laws/KeepRetOps.lean ====
section
/-! SUPPORT. What the functions of Machine/RetOps.lean can change, one lemma for each, with the canonical forms kept. -/

namespace Sys2Proof.Machine

variable {m : Nat}

theorem State.setRet_same {a s : State} {x : RetSt} (h : Same m a s) (hm : m &&& 0x4000000000000 = 0x4000000000000)
    (hw : Memory.wf s.ret.store = true → Memory.wf x.store = true) : Same m a (s.setRet x) := h.put_ret (bit_of hm rfl) hw

theorem State.setSup_same {a s : State} {a1 : SupSt} (h : Same m a s) (hm : m &&& 0x2000000000000 = 0x2000000000000) :
    Same m a (State.setSup s a1) := h.then hm (by
  have h := Same.refl 0x2000000000000 s
  unfold State.setSup
  exact (Same.put_sup h rfl))

theorem State.showSlot_same {a s : State} {a1 : Nat} {a2 : Option Nat} (h : Same m a s) (hm : m &&& 0x40000 = 0x40000) :
    Same m a (State.showSlot s a1 a2) := h.then hm (by
  have h := Same.refl 0x40000 s
  unfold State.showSlot
  extract_lets -merge -underBinder +onlyGivenNames x0
  exact State.wr_same (State.wr_same (State.wr_same h (home_bit 18 rfl rfl)) (home_bit 18 rfl rfl)) (home_bit 18 rfl rfl))

theorem State.loadKept1_same {a s : State} {a1 : Nat → Bool} {a2 : Nat} {a3 : Nat} (h : Same m a s) (hm : m &&& 0x3fffff = 0x3fffff) :
    Same m a (State.loadKept1 s a1 a2 a3) := h.then hm (by
  have h := Same.refl 0x3fffff s
  unfold State.loadKept1
  exact Same.foldl h (fun _ _ k0 => Same.ite (State.wrBoth_same k0 rfl) k0))

theorem State.loadKeptFrom_same {a s : State} {g : Nat → Bool} {o n : Nat} (h : Same m a s) (hm : m &&& 0x3fffff = 0x3fffff) :
    Same m a (State.loadKeptFrom g o n s) := by
  induction n generalizing s o with
  | zero => exact h
  | succ n ih => exact ih (State.loadKept1_same h (sub_of hm rfl))

theorem State.loadKept_same {a s : State} {a1 : Nat} {a2 : Nat → Bool} (h : Same m a s) (hm : m &&& 0x3fffff = 0x3fffff) :
    Same m a (State.loadKept s a1 a2) := h.then hm (by
  have h := Same.refl 0x3fffff s
  unfold State.loadKept
  exact State.loadKeptFrom_same h rfl)

theorem State.holdup_same1 {a s : State} {sns : Option Nat} {need : Nat} (h : Same m a s) (hm : m &&& 0x801a018000a = 0x801a018000a) :
    Same m a (s.holdup sns need).1 := by
  unfold State.holdup
  extract_lets -merge -underBinder +onlyGivenNames v p t
  have ht : Same m a t := h.put_pwk (bit_of hm rfl)
  clear_value v t
  split
  · show Same m a (t.errU pgPWK 0x03 1)
    exact State.errU_same ht (bit_of hm rfl) (bit_of hm rfl) (bit_of hm rfl) (bit_of hm rfl) (bit_of hm rfl) (bit_of hm rfl)
  · exact State.wr_same (State.wr_same ht (home_bit 19 rfl (bit_of hm rfl))) (home_bit 19 rfl (bit_of hm rfl))

theorem State.holdupRefused_same {a s : State} (h : Same m a s) (hm : m &&& 0x8018000a = 0x8018000a) :
    Same m a (State.holdupRefused s) := h.then hm (by
  have h := Same.refl 0x8018000a s
  unfold State.holdupRefused
  exact State.irq_same (State.bump_same h rfl) rfl rfl rfl rfl)

theorem State.commitBusy_same {a s : State} {a1 : Bool} (h : Same m a s) (hm : m &&& 0x40400 = 0x40400) :
    Same m a (State.commitBusy s a1) := h.then hm (by
  have h := Same.refl 0x40400 s
  unfold State.commitBusy
  exact State.setB_same (State.setB_same h rfl) rfl)

theorem State.slotEnd_same {a s : State} {a1 : Nat} {a2 : Nat} (h : Same m a s) (hm : m &&& 0x40000801fffff = 0x40000801fffff) :
    Same m a (State.slotEnd s a1 a2) := h.then hm (by
  have h := Same.refl 0x40000801fffff s
  unfold State.slotEnd
  extract_lets -merge -underBinder +onlyGivenNames x0 x1 x2 x3
  have hx1 : Same 0x40000801fffff s x1 := State.setRet_same h rfl (fun w => w)
  have hx2 : Same 0x40000801fffff s x2 := State.wr_same (State.wr_same (State.wr_same (State.commitBusy_same hx1 rfl) rfl) rfl) rfl
  have hx3 : Same 0x40000801fffff s x3 := State.bump_same hx2 (any_home rfl)
  try clear_value x1 x2 x3
  exact State.irq_same (State.irq_same hx3 rfl rfl rfl rfl) rfl rfl rfl rfl)

theorem State.slotCommit_same {a s : State} (h : Same m a s) (hm : m &&& 0x40000801fffff = 0x40000801fffff) :
    Same m a (State.slotCommit s) := h.then hm (by
  have h := Same.refl 0x40000801fffff s
  unfold State.slotCommit
  refine Same.ite ?_ ?_
  · exact State.slotEnd_same h rfl
  · extract_lets -merge -underBinder +onlyGivenNames x0 x1
    have hx1 : Same 0x40000801fffff s x1 := State.wr_same (State.commitBusy_same h rfl) rfl
    try clear_value x1
    exact State.setRet_same hx1 rfl (fun w => w))

theorem State.slotSnapshot_same {a s : State} (h : Same m a s) (hm : m &&& 0x4000000000000 = 0x4000000000000) :
    Same m a (State.slotSnapshot s) := h.then hm (by
  have h := Same.refl 0x4000000000000 s
  unfold State.slotSnapshot
  split
  · exact h
  · refine Same.ite ?_ ?_
    · exact h
    · extract_lets -merge -underBinder +onlyGivenNames x0 x1 x2 x3 x4
      exact State.retPush_same (State.setRet_same h rfl (fun w => w)) rfl)

theorem State.slotSwapped_same {a s : State} (h : Same m a s) (hm : m &&& 0x40000801fffff = 0x40000801fffff) :
    Same m a (State.slotSwapped s) := h.then hm (by
  have h := Same.refl 0x40000801fffff s
  unfold State.slotSwapped
  split
  · exact Same.ite (State.slotEnd_same h rfl) h
  · exact h)

theorem State.loadEnd_same {a s : State} {a1 : Nat} (h : Same m a s) (hm : m &&& 0x400008014000a = 0x400008014000a) :
    Same m a (State.loadEnd s a1) := h.then hm (by
  have h := Same.refl 0x400008014000a s
  unfold State.loadEnd
  extract_lets -merge -underBinder +onlyGivenNames x0 x1
  have hx1 : Same 0x400008014000a s x1 := State.setRet_same h rfl (fun w => w)
  try clear_value x1
  exact State.irq_same (State.wr_same (State.wr_same hx1 rfl) rfl) rfl rfl rfl rfl)

theorem State.loadPush_same {a s : State} {a1 : LoadSt} (h : Same m a s) (hm : m &&& 0x4000000000000 = 0x4000000000000) :
    Same m a (State.loadPush s a1) := h.then hm (by
  have h := Same.refl 0x4000000000000 s
  unfold State.loadPush
  extract_lets -merge -underBinder +onlyGivenNames x0 x1 x2
  have hx2 : Same 0x4000000000000 s x2 := State.setRet_same h rfl (fun w => w)
  try clear_value x2
  try clear_value x0
  try clear_value x1
  split
  · exact hx2
  · extract_lets -merge -underBinder +onlyGivenNames x3 x4 x5
    exact State.retPush_same hx2 rfl)

theorem State.loadSeal_same {a s : State} (h : Same m a s) (hm : m &&& 0x400008014000a = 0x400008014000a) :
    Same m a (State.loadSeal s) := h.then hm (by
  have h := Same.refl 0x400008014000a s
  unfold State.loadSeal
  split
  · exact h
  · refine Same.ite ?_ ?_
    · extract_lets -merge -underBinder +onlyGivenNames x0
      exact Same.ite (State.retPush_same (State.setRet_same h rfl (fun w => w)) rfl) (State.loadEnd_same h rfl)
    · exact Same.ite (State.loadEnd_same h rfl) h)

theorem State.viewHistory_same {a s : State} (h : Same m a s) (hm : m &&& 0x1 = 0x1) :
    Same m a (State.viewHistory s) := h.then hm (by
  have h := Same.refl 0x1 s
  unfold State.viewHistory
  extract_lets -merge -underBinder +onlyGivenNames x0
  have hx0 : Same 0x1 s x0 := State.wr_same (State.wr_same (State.wr_same h rfl) rfl) rfl
  try clear_value x0
  exact Same.foldl hx0 (fun _ _ k1 => State.wr_same k1 (home_bit 0 rfl rfl)))

theorem State.histAdd_same {a s : State} {a1 : List Nat} {a2 : Nat} (h : Same m a s) (hm : m &&& 0x2000000000000 = 0x2000000000000) :
    Same m a (State.histAdd s a1 a2) := h.then hm (by
  have h := Same.refl 0x2000000000000 s
  unfold State.histAdd
  exact State.setSup_same h rfl)

theorem State.histEvent_same {a s : State} {a1 : Nat} {a2 : Nat} (h : Same m a s) (hm : m &&& 0x2000000000000 = 0x2000000000000) :
    Same m a (State.histEvent s a1 a2) := h.then hm (by
  have h := Same.refl 0x2000000000000 s
  unfold State.histEvent
  exact State.histAdd_same h rfl)

theorem State.histWritten_same {a s : State} (h : Same m a s) (hm : m &&& 0x6000000000001 = 0x6000000000001) :
    Same m a (State.histWritten s) := h.then hm (by
  have h := Same.refl 0x6000000000001 s
  unfold State.histWritten
  extract_lets -merge -underBinder +onlyGivenNames x0 x1 x2
  have hx1 : Same 0x6000000000001 s x1 := State.setSup_same h rfl
  try clear_value x1
  exact State.viewHistory_same (State.setRet_same hx1 rfl (fun w => Memory.wf_puts _ _ w)) rfl)

theorem State.histTry_same {a s : State} {a1 : List Nat × Nat × Option Nat} {a2 : Option Nat} (h : Same m a s) (hm : m &&& 0x60801a018000b = 0x60801a018000b) :
    Same m a (State.histTry s a1 a2) := h.then hm (by
  have h := Same.refl 0x60801a018000b s
  unfold State.histTry
  extract_lets -merge -underBinder +onlyGivenNames x0 x1 x2 x3
  have hx1 : Same 0x60801a018000b s x1 := State.setSup_same h rfl
  have hx2 : Same 0x60801a018000b s x2.1 := State.holdup_same1 hx1 rfl
  have hx3 : Same 0x60801a018000b s x3 := hx2
  try clear_value x1 x2 x3
  refine Same.ite ?_ ?_
  · exact State.viewHistory_same (State.setRet_same hx3 rfl (fun w => w)) rfl
  · extract_lets -merge -underBinder +onlyGivenNames x4
    have hx4 : Same 0x60801a018000b s x4 := State.holdupRefused_same hx3 rfl
    try clear_value x4
    exact Same.ite (State.errU_same (State.bump_same hx4 rfl) rfl rfl rfl rfl rfl rfl) (State.viewHistory_same (State.setSup_same hx4 rfl) rfl))

theorem State.repairTry_same {a s : State} {a1 : Option Nat} (h : Same m a s) (hm : m &&& 0x60801a018000a = 0x60801a018000a) :
    Same m a (State.repairTry s a1) := h.then hm (by
  have h := Same.refl 0x60801a018000a s
  unfold State.repairTry
  extract_lets -merge -underBinder +onlyGivenNames x0
  have hx0 : Same 0x60801a018000a s x0.1 := State.holdup_same1 h rfl
  try clear_value x0
  refine Same.ite ?_ ?_
  · extract_lets -merge -underBinder +onlyGivenNames x1 x2
    have hx2 : Same 0x60801a018000a s x2 := State.setSup_same hx0 rfl
    try clear_value x2
    exact State.setRet_same hx2 rfl (fun w => w)
  · exact State.holdupRefused_same hx0 rfl)

theorem State.retStore_same {a s : State} {a1 : RetWrite} (h : Same m a s) (hm : m &&& 0x6000000000000 = 0x6000000000000) :
    Same m a (State.retStore s a1) := h.then hm (by
  have h := Same.refl 0x6000000000000 s
  unfold State.retStore
  split
  · exact h
  · exact h
  · exact h
  · exact State.setSup_same (State.setRet_same h rfl (fun w => Memory.wf_puts _ _ w)) rfl
  · exact State.setRet_same h rfl (fun w => Memory.wf_puts _ _ w))

theorem State.retBroken_same {a s : State} {a1 : RetWrite} (h : Same m a s) (hm : m &&& 0x6800100000000 = 0x6800100000000) :
    Same m a (State.retBroken s a1) := h.then hm (by
  have h := Same.refl 0x6800100000000 s
  unfold State.retBroken
  split
  · split
    · extract_lets -merge -underBinder +onlyGivenNames x0
      exact State.setKwl_same h rfl
    · exact h
  · exact h
  · extract_lets -merge -underBinder +onlyGivenNames x1
    exact State.setKwl_same h rfl
  · exact State.setSup_same h rfl
  · extract_lets -merge -underBinder +onlyGivenNames x2
    have hx2 : Same 0x6800100000000 s x2.1 := State.random_same1 h rfl
    try clear_value x2
    exact State.setRet_same hx2 rfl (fun w => Memory.wf_puts _ _ w))

theorem State.commitNext_same {a s : State} (h : Same m a s) (hm : m &&& 0x4000000040000 = 0x4000000040000) :
    Same m a (State.commitNext s) := h.then hm (by
  have h := Same.refl 0x4000000040000 s
  unfold State.commitNext
  split
  · exact h
  · extract_lets -merge -underBinder +onlyGivenNames x0
    have hx0 : Same 0x4000000040000 s x0 := State.showSlot_same h rfl
    try clear_value x0
    split
    · exact State.retPush_same (State.setRet_same hx0 rfl (fun w => w)) rfl
    · exact hx0)

theorem State.retProceed_same {a s : State} {a1 : RetWrite} (h : Same m a s) (hm : m &&& 0x680018014008b = 0x680018014008b) :
    Same m a (State.retProceed s a1) := h.then hm (by
  have h := Same.refl 0x680018014008b s
  unfold State.retProceed
  split
  · exact State.commitNext_same h rfl
  · extract_lets -merge -underBinder +onlyGivenNames x0
    have hx0 : Same 0x680018014008b s x0 := by
      unfold x0
      split
      · exact State.showSlot_same h rfl
      · exact h
    try clear_value x0
    exact State.loadSeal_same hx0 rfl
  · exact State.journalWritten_same h rfl
  · exact State.pieceWritten_same h rfl
  · exact State.rootWritten_same h rfl
  · exact h
  · exact State.histWritten_same h rfl)

theorem State.retFailed_same {a s : State} {a1 : RetWrite} (h : Same m a s) (hm : m &&& 0x68001a01fffff = 0x68001a01fffff) :
    Same m a (State.retFailed s a1) := h.then hm (by
  have h := Same.refl 0x68001a01fffff s
  unfold State.retFailed
  extract_lets -merge -underBinder +onlyGivenNames x0
  have hx0 : Same 0x68001a01fffff s x0 := State.errU_same h rfl rfl rfl rfl rfl rfl
  try clear_value x0
  split
  · exact Same.ite (State.slotEnd_same hx0 rfl) hx0
  · exact Same.ite (State.loadEnd_same hx0 rfl) hx0
  · exact State.kwlCommitEnd_same hx0 rfl
  · exact State.kwlCommitEnd_same hx0 rfl
  · exact State.retPush_same hx0 rfl
  · exact State.setSup_same hx0 rfl
  · exact hx0)

theorem State.retLimit_same {a s : State} {a1 : RetWrite} (h : Same m a s) (hm : m &&& 0x48000801fffff = 0x48000801fffff) :
    Same m a (State.retLimit s a1) := h.then hm (by
  have h := Same.refl 0x48000801fffff s
  unfold State.retLimit
  split
  · exact State.slotEnd_same h rfl
  · exact State.loadEnd_same h rfl
  · exact State.kwlCommitEnd_same h rfl
  · exact State.kwlCommitEnd_same h rfl
  · exact h)

end Sys2Proof.Machine
end

