-- ==== Sys2Proof/Laws/KeepPowerOps.lean ====
section
/-! SUPPORT. What the functions of Machine/PowerOps.lean can change, one lemma for each, with the canonical forms kept. -/

namespace Sys2Proof.Machine

variable {m : Nat}

theorem State.landActive_same {a s : State} (h : Same m a s) (hm : m &&& 0x680018014008b = 0x680018014008b) :
    Same m a (State.landActive s) := h.then hm (by
  have h := Same.refl 0x680018014008b s
  unfold State.landActive
  split
  · exact h
  · exact State.retProceed_same (State.retStore_same (State.setRet_same h rfl (fun w => w)) rfl) rfl)

theorem State.kwlWritesEnd_same {a s : State} (h : Same m a s) (hm : m &&& 0x680018014008b = 0x680018014008b) :
    Same m a (State.kwlWritesEnd s) := h.then hm (by
  have h := Same.refl 0x680018014008b s
  unfold State.kwlWritesEnd
  extract_lets -merge -underBinder +onlyGivenNames x0
  have hx0 : Same 0x680018014008b s x0 := by
    unfold x0
    split
    · exact Same.ite (State.landActive_same h rfl) h
    · exact h
  try clear_value x0
  exact State.setRet_same hx0 rfl (fun w => w))

theorem State.slotLost_same {a s : State} (h : Same m a s) (hm : m &&& 0x40001801fffff = 0x40001801fffff) :
    Same m a (State.slotLost s) := h.then hm (by
  have h := Same.refl 0x40001801fffff s
  unfold State.slotLost
  exact Same.ite (State.slotEnd_same (State.useFresh_same h rfl) rfl) h)

theorem State.loadLost_same {a s : State} (h : Same m a s) (hm : m &&& 0x400008014000a = 0x400008014000a) :
    Same m a (State.loadLost s) := h.then hm (by
  have h := Same.refl 0x400008014000a s
  unfold State.loadLost
  exact Same.ite (State.loadEnd_same h rfl) h)

theorem State.irqSums_same {a s : State} (h : Same m a s) (hm : m &&& 0x8 = 0x8) :
    Same m a (State.irqSums s) := h.then hm (by
  have h := Same.refl 0x8 s
  unfold State.irqSums
  extract_lets -merge -underBinder +onlyGivenNames x0
  have hx0 : Same 0x8 s x0 := Same.foldl h (fun _ _ k1 => State.irqSum_same k1 rfl)
  try clear_value x0
  exact Same.foldl hx0 (fun _ _ k2 => State.irqSum_same k2 rfl))

theorem State.logicClear_same {a s : State} {ret : Bool} (h : Same m a s) (hm : m &&& 0x7f7ffcdffffff = 0x7f7ffcdffffff) :
    Same m a (s.logicClear ret) := by
  unfold State.logicClear
  extract_lets -merge +onlyGivenNames x keep t
  have hx : Same m a x := State.kwlWritesEnd_same (State.slotLost_same h (sub_of hm rfl)) (sub_of hm rfl)
  refine State.loseCells_same (State.irqSums_same (hx.then (n := 0x7f7ffcdffffff) hm ?_) (sub_of hm rfl)) (sub_of hm rfl)
  constructor
  case canonical => exact fun c => ⟨SMap.rising_filter _ c.regs, SMap.rising_filter _ c.staged, rfl, rfl, rfl, rfl, c.retained, fun _ => ⟨rfl, nofun, nofun⟩⟩
  case regs => exact fun i hl hf => nomatch hf.symm.trans (testBit_allHomes rfl hl)
  all_goals first | exact fun _ => rfl | exact fun e => nomatch e

theorem State.powerOff_same {a s : State} (h : Same m a s) (hm : m &&& 0x7fffe7dffffff = 0x7fffe7dffffff) : Same m a s.powerOff := by
  refine h.then (n := 0x7fffe7dffffff) hm ?_
  constructor
  case canonical => exact fun c => ⟨rfl, rfl, rfl, rfl, rfl, rfl, c.retained, fun _ => ⟨rfl, nofun, nofun⟩⟩
  case regs => exact fun i hl hf => nomatch hf.symm.trans (testBit_allHomes rfl hl)
  all_goals first | exact fun _ => rfl | exact fun e => nomatch e

theorem State.powerStart_same {a s : State} {a1 : Nat} (h : Same m a s) (hm : m &&& 0x2080010000000 = 0x2080010000000) :
    Same m a (State.powerStart s a1) := h.then hm (by
  have h := Same.refl 0x2080010000000 s
  unfold State.powerStart
  extract_lets -merge -underBinder +onlyGivenNames x0 x1
  have hx1 : Same 0x2080010000000 s x1 := State.setPwk_same (Same.put_mode h rfl) rfl
  try clear_value x1
  exact State.setSup_same hx1 rfl)

theorem State.packageReset_same {a s : State} {a1 : Nat} (h : Same m a s) (hm : m &&& 0x7fffffdffffff = 0x7fffffdffffff) :
    Same m a (State.packageReset s a1) := h.then hm (by
  have h := Same.refl 0x7fffffdffffff s
  unfold State.packageReset
  extract_lets -merge -underBinder +onlyGivenNames x0
  have hx0 : Same 0x7fffffdffffff s x0 := State.powerStart_same (State.powerOff_same (State.landActive_same h rfl) rfl) rfl
  try clear_value x0
  exact State.wr_same (State.setPwk_same hx0 rfl) rfl)

theorem State.repairLoad_same {a s : State} (h : Same m a s) (hm : m &&& 0x20003a000000b = 0x20003a000000b) :
    Same m a (State.repairLoad s) := h.then hm (by
  have h := Same.refl 0x20003a000000b s
  unfold State.repairLoad
  extract_lets -merge -underBinder +onlyGivenNames x0 x1 x2
  have hx2 : Same 0x20003a000000b s x2 := Same.ite (Same.ite (State.errU_same (State.setSup_same h rfl) rfl rfl rfl rfl rfl rfl) (State.setSup_same h rfl)) h
  try clear_value x2
  exact State.setCst_same (State.wr_same hx2 rfl) rfl (fun w => w))

theorem State.kwlNoRoot_same {a s : State} (h : Same m a s) (hm : m &&& 0x8001a000008a = 0x8001a000008a) :
    Same m a (State.kwlNoRoot s) := h.then hm (by
  have h := Same.refl 0x8001a000008a s
  unfold State.kwlNoRoot
  extract_lets -merge -underBinder +onlyGivenNames x0 x1
  have hx1 : Same 0x8001a000008a s x1 := Same.ite (State.errU_same h rfl rfl rfl rfl rfl rfl) h
  try clear_value x1
  exact State.wr_same (State.setKwl_same hx1 rfl) rfl)

theorem State.kwlRestore_same {a s : State} {a1 : List Nat} (h : Same m a s) (hm : m &&& 0x28001a000008a = 0x28001a000008a) :
    Same m a (State.kwlRestore s a1) := h.then hm (by
  have h := Same.refl 0x28001a000008a s
  unfold State.kwlRestore
  extract_lets -merge -underBinder +onlyGivenNames x0 x1
  have hx1 : Same 0x28001a000008a s x1 := Same.foldl h (fun _ _ k2 => Same.ite (State.errU_same (State.histEvent_same (State.useFresh_same k2 rfl) rfl) rfl rfl rfl rfl rfl rfl) k2)
  try clear_value x1
  split
  · exact State.kwlView_same (State.kwlNoRoot_same hx1 rfl) rfl
  · extract_lets -merge -underBinder +onlyGivenNames x3 x4 x5 x6 x7 x8 x9 x10 x12
    have hx9 : Same 0x28001a000008a s x9 := State.setKwl_same hx1 rfl
    have hx10 : Same 0x28001a000008a s x10 := Same.foldl hx9 (fun _ _ k11 => State.err_same k11 rfl rfl rfl rfl rfl)
    have hx12 : Same 0x28001a000008a s x12 := State.wr_same hx10 rfl
    try clear_value x9 x10 x12
    exact State.kwlView_same (State.wr_same (State.wr_same hx12 rfl) rfl) rfl)

theorem State.loadFactory_same {a s : State} (h : Same m a s) (hm : m &&& 0x3fffff = 0x3fffff) : Same m a s.loadFactory :=
  Same.put_staged (s := { s with regs := _ }) (h.put_allRegs (sub_of hm rfl) (SMap.rising_filter _)) (bit_of hm rfl) (SMap.rising_filter _)

theorem State.tryCandidates_same1 {a s : State} {bad l : List Nat} (h : Same m a s) (hm : m &&& 0x40001a014040a = 0x40001a014040a) :
    Same m a (State.tryCandidates bad l s).1 := by
  induction l generalizing s with
  | nil => exact h
  | cons k rest ih =>
    unfold State.tryCandidates
    refine Same.ite1 ?_ ?_
    · exact ih (State.wrFree_same (State.errU_same (h.put_ret (bit_of hm rfl) fun w => w) (headHome_high (bit_of hm rfl) (by decide))
        (bit_of hm rfl) (bit_of hm rfl) (bit_of hm rfl) (bit_of hm rfl) (bit_of hm rfl)) (home_bit 18 rfl (bit_of hm rfl))
        (bit_of hm rfl))
    · split
      · exact ih (State.showSlot_same (State.errU_same h (bit_of hm rfl)
          (bit_of hm rfl) (bit_of hm rfl) (bit_of hm rfl) (bit_of hm rfl) (bit_of hm rfl)) (sub_of hm rfl))
      · exact h

theorem State.restoreSlot_same {a s : State} {a1 : Nat} (h : Same m a s) (hm : m &&& 0x10003fffff = 0x10003fffff) :
    Same m a (State.restoreSlot s a1) := h.then hm (by
  have h := Same.refl 0x10003fffff s
  unfold State.restoreSlot
  extract_lets -merge -underBinder +onlyGivenNames x0
  have hx0 : Same 0x10003fffff s x0 := State.wr_same (State.loadKept_same h rfl) rfl
  try clear_value x0
  exact Same.ite hx0 (State.setTid_same hx0 rfl (fun _ v => ⟨Memory.wf_puts _ _ rfl, v⟩)))

theorem State.restoreNone_same {a s : State} (h : Same m a s) (hm : m &&& 0x20001a03fffff = 0x20001a03fffff) :
    Same m a (State.restoreNone s) := h.then hm (by
  have h := Same.refl 0x20001a03fffff s
  unfold State.restoreNone
  extract_lets -merge -underBinder +onlyGivenNames x0 x1
  have hx1 : Same 0x20001a03fffff s x1 := State.errU_same (State.wr_same (State.loadFactory_same h rfl) rfl) rfl rfl rfl rfl rfl rfl
  try clear_value x1
  exact State.histEvent_same (State.useFresh_same hx1 rfl) rfl)

theorem State.restoreSlots_same {a s : State} {a1 : List Nat} (h : Same m a s) (hm : m &&& 0x60011a03fffff = 0x60011a03fffff) :
    Same m a (State.restoreSlots s a1) := h.then hm (by
  have h := Same.refl 0x60011a03fffff s
  unfold State.restoreSlots
  extract_lets -merge -underBinder +onlyGivenNames x0 x1 x2
  have hx0 : Same 0x60011a03fffff s x0 := State.showSlot_same (State.showSlot_same h rfl) rfl
  have hx2 : Same 0x60011a03fffff s x2.1 := State.tryCandidates_same1 hx0 rfl
  try clear_value x0 x2
  split
  · extract_lets -merge -underBinder +onlyGivenNames x3 x4
    have hx4 : Same 0x60011a03fffff s x4 := Same.ite (State.bump_same hx2 rfl) hx2
    try clear_value x4
    exact State.cond_same (State.cond_same (State.restoreSlot_same hx4 rfl) rfl rfl rfl rfl) rfl rfl rfl rfl
  · extract_lets -merge -underBinder +onlyGivenNames x5
    have hx5 : Same 0x60011a03fffff s x5 := State.restoreNone_same hx2 rfl
    try clear_value x5
    exact State.cond_same (State.cond_same hx5 rfl rfl rfl rfl) rfl rfl rfl rfl)

theorem State.restorePages_same {a s : State} (h : Same m a s) (hm : m &&& 0x1ffffff = 0x1ffffff) :
    Same m a (State.restorePages s) := h.then hm (by
  have h := Same.refl 0x1ffffff s
  unfold State.restorePages
  extract_lets -merge -underBinder +onlyGivenNames x0 x1 x3 x5 x6 x7
  have hx1 : Same 0x1ffffff s x1 := Same.foldl h (fun _ _ k2 => Same.ite (State.wr_same k2 (any_head rfl)) k2)
  have hx3 : Same 0x1ffffff s x3 := Same.foldl hx1 (fun _ _ k4 => State.wr_same k4 (any_head rfl))
  have hx5 : Same 0x1ffffff s x5 := (Same.put_staged hx3 rfl (SMap.rising_filter _))
  have hx6 : Same 0x1ffffff s x6 := (Same.put_commits hx5 rfl)
  have hx7 : Same 0x1ffffff s x7 := (Same.put_discards hx6 rfl)
  try clear_value x1 x3 x5 x6 x7
  exact (Same.put_spoiled hx7 rfl))

theorem State.planesStart_same {a s : State} {a1 : List Nat} (h : Same m a s) (hm : m &&& 0x5a000010a = 0x5a000010a) :
    Same m a (State.planesStart s a1) := h.then hm (by
  have h := Same.refl 0x5a000010a s
  unfold State.planesStart
  extract_lets -merge -underBinder +onlyGivenNames x0
  have hx0 : Same 0x5a000010a s x0 := Same.foldl h (fun _ _ k1 => Same.ite (State.startTestFail_same (State.useFresh_same k1 rfl) rfl) (State.wr_same (State.wr_same k1 (home_bit 8 rfl rfl)) (home_bit 8 rfl rfl)))
  try clear_value x0
  split
  · exact State.noPlane_same hx0 rfl
  · extract_lets -merge -underBinder +onlyGivenNames x2
    have hx2 : Same 0x5a000010a s x2 := State.setRole_same (State.setClaim_same hx0 rfl) rfl
    try clear_value x2
    exact Same.ite hx2 (State.setRole_same (State.setClaim_same hx2 rfl) rfl))

theorem State.restoreImage_same {a s : State} (h : Same m a s) (hm : m &&& 0x41d6e0007c1a = 0x41d6e0007c1a) :
    Same m a (State.restoreImage s) := h.then hm (by
  have h := Same.refl 0x41d6e0007c1a s
  unfold State.restoreImage
  refine Same.ite ?_ ?_
  · exact h
  · extract_lets -merge -underBinder +onlyGivenNames x0 x1 x2
    have hx0 : Same 0x41d6e0007c1a s x0 := State.setExec_same (State.installImage_same h rfl) rfl
    have hx2 : Same 0x41d6e0007c1a s x2 := (Same.put_tid hx0 rfl (fun w v => ⟨w, v⟩))
    try clear_value x0 x2
    exact Same.foldl hx2 (fun _ _ k3 => State.setPlane_same k3 rfl (fun _ w => ⟨w.1, w.2.1, w.2.2⟩)))

theorem State.restoreQuay_same {a s : State} {a1 : Nat} (h : Same m a s) (hm : m &&& 0x42c6e01fffff = 0x42c6e01fffff) :
    Same m a (State.restoreQuay s a1) := h.then hm (by
  have h := Same.refl 0x42c6e01fffff s
  unfold State.restoreQuay
  extract_lets -merge -underBinder +onlyGivenNames x0 x1 x2 x3 x4
  have hx1 : Same 0x42c6e01fffff s x1 := State.setQuay_same h rfl
  have hx3 : Same 0x42c6e01fffff s x3 := Same.ite (State.setB_same hx1 (home_bit 16 rfl rfl)) (State.setB_same hx1 (home_bit 16 rfl rfl))
  have hx4 : Same 0x42c6e01fffff s x4 := Same.ite (State.canConds_same hx3 rfl) (State.plcaCond_same (State.linkUpdate_same hx3 rfl) rfl)
  try clear_value x1 x3 x4
  exact State.lineUpdate_same hx4 rfl)

theorem State.restoreWakes_same {a s : State} (h : Same m a s) (hm : m &&& 0x8008011000a = 0x8008011000a) :
    Same m a (State.restoreWakes s) := h.then hm (by
  have h := Same.refl 0x8008011000a s
  unfold State.restoreWakes
  extract_lets -merge -underBinder +onlyGivenNames x0
  exact Same.foldl (State.setPwk_same h rfl) (fun _ _ k1 => State.quayWake_same k1 rfl))

theorem State.restore_same {a s : State} {a1 : List Nat} {a2 : List Nat} {a3 : List Nat} (h : Same m a s) (hm : m &&& 0x6cbd7f1ffffff = 0x6cbd7f1ffffff) :
    Same m a (State.restore s a1 a2 a3) := h.then hm (by
  have h := Same.refl 0x6cbd7f1ffffff s
  unfold State.restore
  extract_lets -merge -underBinder +onlyGivenNames x0 x1 x2 x3 x4 x5 x6 x8 x9 x10 x11
  have hx0 : Same 0x6cbd7f1ffffff s x0 := State.restoreSlots_same (State.kwlRestore_same (State.repairLoad_same h rfl) rfl) rfl
  have hx1 : Same 0x6cbd7f1ffffff s x1 := State.restorePages_same hx0 rfl
  have hx2 : Same 0x6cbd7f1ffffff s x2 := State.wr_same hx1 rfl
  have hx3 : Same 0x6cbd7f1ffffff s x3 := State.planesStart_same (State.restoreImage_same hx2 rfl) rfl
  have hx4 : Same 0x6cbd7f1ffffff s x4 := State.kwlView_same (State.wr_same hx3 rfl) rfl
  have hx5 : Same 0x6cbd7f1ffffff s x5 := State.histEvent_same (State.wr_same hx4 rfl) rfl
  have hx6 : Same 0x6cbd7f1ffffff s x6 := Same.foldl hx5 (fun _ _ k7 => State.restoreQuay_same k7 rfl)
  have hx8 : Same 0x6cbd7f1ffffff s x8 := State.viewHck_same (State.viewHbr_same (State.viewCph_same (State.viewLkp_same (State.viewSgw_same hx6 rfl) rfl) rfl) rfl) rfl
  have hx9 : Same 0x6cbd7f1ffffff s x9 := State.viewHistory_same (State.viewLog_same hx8 rfl) rfl
  have hx10 : Same 0x6cbd7f1ffffff s x10 := State.wr_same hx9 rfl
  have hx11 : Same 0x6cbd7f1ffffff s x11 := Same.ite (State.wr_same (Same.put_mode hx10 rfl) rfl) hx9
  try clear_value x0 x1 x2 x3 x4 x5 x6 x8 x9 x10 x11
  exact State.restoreWakes_same (State.setPwk_same hx11 rfl) rfl)

end Sys2Proof.Machine
end

