-- ==== Sys2Proof/Laws/KeepPower.lean ====
section
/-! SUPPORT. What the functions of Machine/Power.lean can change, one lemma for each, with the canonical forms kept. -/

namespace Sys2Proof.Machine

variable {m : Nat}

theorem execPowerOn_same {a s : State} (h : Same m a s) (hm : m &&& 0x2080010000000 = 0x2080010000000) :
    SameR m a (execPowerOn s) := SameR.then h hm (by
  have h := Same.refl 0x2080010000000 s
  unfold execPowerOn
  refine SameR.ite ?_ ?_
  · exact SameR.next h
  · extract_lets -merge -underBinder +onlyGivenNames x0 x1
    have hx1 : Same 0x2080010000000 s x1 := State.setPwk_same h rfl
    try clear_value x1
    exact SameR.next (Same.ite hx1 (State.powerStart_same hx1 rfl)))

theorem execVbatStable_same {a s : State} (h : Same m a s) (hm : m &&& 0x80000080000 = 0x80000080000) :
    SameR m a (execVbatStable s) := SameR.then h hm (by
  have h := Same.refl 0x80000080000 s
  unfold execVbatStable
  exact SameR.ite (SameR.next (State.wr_same (State.setPwk_same h rfl) rfl)) (SameR.next h))

theorem execSwitchedRailsInRange_same {a s : State} (h : Same m a s) (hm : m &&& 0x80000000000 = 0x80000000000) :
    SameR m a (execSwitchedRailsInRange s) := SameR.then h hm (by
  have h := Same.refl 0x80000000000 s
  unfold execSwitchedRailsInRange
  exact SameR.ite (SameR.next (State.setPwk_same h rfl)) (SameR.next h))

theorem execLogicDieUp_same {a s : State} (h : Same m a s) (hm : m &&& 0x7f7ffcdffffff = 0x7f7ffcdffffff) :
    SameR m a (execLogicDieUp s) := SameR.then h hm (by
  have h := Same.refl 0x7f7ffcdffffff s
  unfold execLogicDieUp
  exact SameR.ite (SameR.next (State.wr_same (State.logicClear_same h rfl) rfl)) (SameR.next h))

theorem execRstNLow_same {a s : State} (h : Same m a s) (hm : m &&& 0x7fffffdffffff = 0x7fffffdffffff) :
    SameR m a (execRstNLow s) := SameR.then h hm (by
  have h := Same.refl 0x7fffffdffffff s
  unfold execRstNLow
  extract_lets -merge -underBinder +onlyGivenNames x0 x1
  have hx1 : Same 0x7fffffdffffff s x1 := State.setPwk_same h rfl
  try clear_value x1
  exact SameR.ite (SameR.next hx1) (SameR.next (State.powerOff_same (State.landActive_same (State.setPwk_same hx1 rfl) rfl) rfl)))

theorem execRstNRelease_same {a s : State} (h : Same m a s) (hm : m &&& 0x2080010000000 = 0x2080010000000) :
    SameR m a (execRstNRelease s) := SameR.then h hm (by
  have h := Same.refl 0x2080010000000 s
  unfold execRstNRelease
  extract_lets -merge -underBinder +onlyGivenNames x0 x1
  have hx1 : Same 0x2080010000000 s x1 := State.setPwk_same h rfl
  try clear_value x1
  exact SameR.ite (SameR.next (State.powerStart_same hx1 rfl)) (SameR.next hx1))

theorem execVbatLoss_same {a s : State} (h : Same m a s) (hm : m &&& 0x7ffff7dffffff = 0x7ffff7dffffff) :
    SameR m a (execVbatLoss s) := SameR.then h hm (by
  have h := Same.refl 0x7ffff7dffffff s
  unfold execVbatLoss
  refine SameR.ite ?_ ?_
  · exact SameR.next h
  · extract_lets -merge -underBinder +onlyGivenNames x0
    have hx0 : Same 0x7ffff7dffffff s x0 := by
      unfold x0
      split
      · exact State.retBroken_same h rfl
      · exact h
    try clear_value x0
    exact SameR.next (State.powerOff_same (State.setPwk_same hx0 rfl) rfl))

theorem execRestoreComplete_same {a s : State} {a0 : List Nat} {a1 : List Nat} {a2 : List Nat} (h : Same m a s) (hm : m &&& 0x6cbd7f1ffffff = 0x6cbd7f1ffffff) :
    SameR m a (execRestoreComplete a0 a1 a2 s) := SameR.then h hm (by
  have h := Same.refl 0x6cbd7f1ffffff s
  unfold execRestoreComplete
  exact onLogicIf_same h (fun _ k0 => State.restore_same k0 rfl))

end Sys2Proof.Machine
end

