-- ==== Sys2Proof/Laws/KeepRet.lean ====
section
/-! SUPPORT. What the functions of Machine/Ret.lean can change, one lemma for each, with the canonical forms kept. -/

namespace Sys2Proof.Machine

variable {m : Nat}

theorem execRetainedWrite_same {a s : State} {a0 : Option Nat} (h : Same m a s) (hm : m &&& 0x48801a01fffff = 0x48801a01fffff) :
    SameR m a (execRetainedWrite a0 s) := SameR.then h hm (by
  have h := Same.refl 0x48801a01fffff s
  unfold execRetainedWrite
  exact onPwk_same h (fun _ k0 => (by
    split
    · exact k0
    · extract_lets -merge -underBinder +onlyGivenNames x1 x2
      have hx2 : Same 0x48801a01fffff s x2.1 := State.holdup_same1 (State.setRet_same k0 rfl (fun w => w)) rfl
      try clear_value x2
      refine Same.ite ?_ ?_
      · exact State.setRet_same hx2 rfl (fun w => w)
      · extract_lets -merge -underBinder +onlyGivenNames x3
        have hx3 : Same 0x48801a01fffff s x3 := State.holdupRefused_same hx2 rfl
        try clear_value x3
        exact Same.ite (State.retLimit_same hx3 rfl) (State.setRet_same hx3 rfl (fun w => w)))))

theorem execRetainedWriteDone_same {a s : State} {a0 : Bool} (h : Same m a s) (hm : m &&& 0x68001a01fffff = 0x68001a01fffff) :
    SameR m a (execRetainedWriteDone a0 s) := SameR.then h hm (by
  have h := Same.refl 0x68001a01fffff s
  unfold execRetainedWriteDone
  exact onPwk_same h (fun _ k0 => (by
    split
    · exact k0
    · extract_lets -merge -underBinder +onlyGivenNames x1 x2
      have hx2 : Same 0x68001a01fffff s x2 := State.setRet_same k0 rfl (fun w => w)
      try clear_value x2
      exact Same.ite (State.retProceed_same (State.retStore_same hx2 rfl) rfl) (State.retFailed_same hx2 rfl))))

theorem execRetainedWriteRetry_same {a s : State} (h : Same m a s) (hm : m &&& 0x4000000040000 = 0x4000000040000) :
    SameR m a (execRetainedWriteRetry s) := SameR.then h hm (by
  have h := Same.refl 0x4000000040000 s
  unfold execRetainedWriteRetry
  exact onPwk_same h (fun _ k0 => (by
    split
    · exact k0
    · extract_lets -merge -underBinder +onlyGivenNames x1 x2 x3
      have hx2 : Same 0x4000000040000 s x2 := State.setRet_same k0 rfl (fun w => w)
      have hx3 : Same 0x4000000040000 s x3 := by
        unfold x3
        split
        · exact State.bump_same hx2 rfl
        · exact State.bump_same hx2 rfl
        · exact hx2
      try clear_value x2 x3
      exact State.retPush_same hx3 rfl)))

theorem execHistoryWrite_same {a s : State} {a0 : Option Nat} (h : Same m a s) (hm : m &&& 0x60801a018000b = 0x60801a018000b) :
    SameR m a (execHistoryWrite a0 s) := SameR.then h hm (by
  have h := Same.refl 0x60801a018000b s
  unfold execHistoryWrite
  exact onPwk_same h (fun _ k0 => (by
    split
    · exact k0
    · exact State.histTry_same k0 rfl)))

theorem execHistoryWriteRetry_same {a s : State} {a0 : Option Nat} (h : Same m a s) (hm : m &&& 0x60801a018000b = 0x60801a018000b) :
    SameR m a (execHistoryWriteRetry a0 s) := SameR.then h hm (by
  have h := Same.refl 0x60801a018000b s
  unfold execHistoryWriteRetry
  exact onPwk_same h (fun _ k0 => (by
    split
    · exact k0
    · exact State.histTry_same k0 rfl)))

theorem execRepairMapWrite_same {a s : State} {a0 : Option Nat} (h : Same m a s) (hm : m &&& 0x60801a018000a = 0x60801a018000a) :
    SameR m a (execRepairMapWrite a0 s) := SameR.then h hm (by
  have h := Same.refl 0x60801a018000a s
  unfold execRepairMapWrite
  exact onPwk_same h (fun _ k0 => State.repairTry_same k0 rfl))

theorem State.retReject_same {a s : State} (h : Same m a s) (hm : m &&& 0x40000 = 0x40000) :
    Same m a (State.retReject s) := h.then hm (by
  have h := Same.refl 0x40000 s
  unfold State.retReject
  exact State.wr_same h rfl)

theorem execRetCommit_same {a s : State} (h : Same m a s) (hm : m &&& 0x40000801fffff = 0x40000801fffff) :
    SameR m a (execRetCommit s) := SameR.then h hm (by
  have h := Same.refl 0x40000801fffff s
  unfold execRetCommit
  exact onPwk_same h (fun _ k0 => Same.ite (State.retReject_same k0 rfl) (State.slotCommit_same k0 rfl)))

theorem execSlotCommitEnd_same {a s : State} (h : Same m a s) (hm : m &&& 0x40000801fffff = 0x40000801fffff) :
    SameR m a (execSlotCommitEnd s) := SameR.then h hm (by
  have h := Same.refl 0x40000801fffff s
  unfold execSlotCommitEnd
  exact onPwk_same h (fun _ k0 => (by
    split
    · exact k0
    · exact Same.ite (State.slotEnd_same (State.showSlot_same k0 rfl) rfl) k0)))

theorem execLoadOpen_same {a s : State} (h : Same m a s) (hm : m &&& 0x4000000040000 = 0x4000000040000) :
    SameR m a (execLoadOpen s) := SameR.then h hm (by
  have h := Same.refl 0x4000000040000 s
  unfold execLoadOpen
  exact onPwk_same h (fun _ k0 => (by
    refine Same.ite ?_ ?_
    · exact State.retReject_same k0 rfl
    · extract_lets -merge -underBinder +onlyGivenNames x1 x2
      have hx2 : Same 0x4000000040000 s x2 := State.wr_same (State.wr_same k0 rfl) rfl
      try clear_value x2
      exact State.retPush_same (State.setRet_same hx2 rfl (fun w => w)) rfl)))

theorem execLoadSeal_same {a s : State} (h : Same m a s) (hm : m &&& 0x400008014000a = 0x400008014000a) :
    SameR m a (execLoadSeal s) := SameR.then h hm (by
  have h := Same.refl 0x400008014000a s
  unfold execLoadSeal
  exact onPwk_same h (fun _ k0 => (by
    split
    · exact State.retReject_same k0 rfl
    · exact State.loadSeal_same (State.loadPush_same k0 rfl) rfl)))

theorem execLoadAbort_same {a s : State} (h : Same m a s) (hm : m &&& 0x400008014000a = 0x400008014000a) :
    SameR m a (execLoadAbort s) := SameR.then h hm (by
  have h := Same.refl 0x400008014000a s
  unfold execLoadAbort
  exact onPwk_same h (fun _ k0 => Same.ite (State.loadEnd_same k0 rfl) (State.retReject_same k0 rfl)))

theorem State.loadWord_same {a s : State} {a1 : LoadSt} {a2 : Nat} {a3 : List Nat} (h : Same m a s) (hm : m &&& 0x4000000000000 = 0x4000000000000) :
    Same m a (State.loadWord s a1 a2 a3) := h.then hm (by
  have h := Same.refl 0x4000000000000 s
  unfold State.loadWord
  extract_lets -merge -underBinder +onlyGivenNames x0 x1 x2 x3 x4 x5 x6 x7
  have hx0 : Same 0x4000000000000 s x0 := Same.ite (State.loadPush_same h rfl) h
  have hx7 : Same 0x4000000000000 s x7 := State.setRet_same hx0 rfl (fun w => w)
  try clear_value x0 x7
  exact Same.ite (State.loadPush_same hx7 rfl) hx7)

theorem execRetLoadDataWrite_same {a s : State} {a0 : Sys2Proof.Word} (h : Same m a s) (hm : m &&& 0x4000000040000 = 0x4000000040000) :
    SameR m a (execRetLoadDataWrite a0 s) := SameR.then h hm (by
  have h := Same.refl 0x4000000040000 s
  unfold execRetLoadDataWrite
  exact onPwk_same h (fun _ k0 => (by
    split
    · exact k0
    · extract_lets -merge -underBinder +onlyGivenNames x1 x2
      have hx2 : Same 0x4000000040000 s x2 := Same.ite (State.loadWord_same k0 rfl) k0
      try clear_value x2
      exact State.wr_same hx2 rfl)))

end Sys2Proof.Machine
end

