-- ==== Sys2Proof/Laws/KeepResets.lean ====
section
/-! SUPPORT. What the functions of Machine/Resets.lean can change, one lemma for each, with the canonical forms kept. -/

namespace Sys2Proof.Machine

variable {m : Nat}

theorem State.safeCond_same {a s : State} (h : Same m a s) (hm : m &&& 0x8000000b = 0x8000000b) :
    Same m a (State.safeCond s) := h.then hm (by
  have h := Same.refl 0x8000000b s
  unfold State.safeCond
  exact State.cond_same h rfl rfl rfl rfl)

theorem State.setRegionSafe_same {a s : State} {a1 : Nat} {a2 : Bool} (h : Same m a s) (hm : m &&& 0x8000000b = 0x8000000b) :
    Same m a (State.setRegionSafe s a1 a2) := h.then hm (by
  have h := Same.refl 0x8000000b s
  unfold State.setRegionSafe
  exact State.safeCond_same (Same.ite (State.setB_same h rfl) (State.setB_same h rfl)) rfl)

theorem State.regionSafeEnd_same {a s : State} {a1 : Nat} (h : Same m a s) (hm : m &&& 0x242c6e013440b = 0x242c6e013440b) :
    Same m a (State.regionSafeEnd s a1) := h.then hm (by
  have h := Same.refl 0x242c6e013440b s
  unfold State.regionSafeEnd
  refine Same.ite ?_ ?_
  · extract_lets -merge -underBinder +onlyGivenNames x0 x1 x2 x3
    have hx0 : Same 0x242c6e013440b s x0 := State.setRegionSafe_same h rfl
    have hx3 : Same 0x242c6e013440b s x3 := State.setSup_same hx0 rfl
    try clear_value x0 x3
    exact State.linesUpdate_same hx3 rfl
  · exact h)

theorem State.clearBlock_same {a s : State} {a1 : BlockRange} (h : Same m a s) (hm : m &&& 0x1fffff = 0x1fffff) :
    Same m a (State.clearBlock s a1) := h.then hm (by
  have h := Same.refl 0x1fffff s
  unfold State.clearBlock
  exact Same.foldl h (fun _ _ k0 => State.clearCounters_same k0 rfl))

theorem State.laneReset_same {a s : State} {a1 : Nat} (h : Same m a s) (hm : m &&& 0x4086e01fffff = 0x4086e01fffff) :
    Same m a (State.laneReset s a1) := h.then hm (by
  have h := Same.refl 0x4086e01fffff s
  unfold State.laneReset
  extract_lets -merge -underBinder +onlyGivenNames x0
  have hx0 : Same 0x4086e01fffff s x0 := by
    unfold x0
    split
    · exact State.jobNoOut_same h rfl
    · exact h
  try clear_value x0
  exact State.viewCph_same (State.wr_same (State.clearCounters_same (State.setLane_same hx0 rfl) rfl) (home_bit 6 rfl rfl)) rfl)

theorem State.cphReset_same {a s : State} (h : Same m a s) (hm : m &&& 0x4086e01fffff = 0x4086e01fffff) :
    Same m a (State.cphReset s) := h.then hm (by
  have h := Same.refl 0x4086e01fffff s
  unfold State.cphReset
  extract_lets -merge -underBinder +onlyGivenNames x0
  have hx0 : Same 0x4086e01fffff s x0 := Same.foldl h (fun _ _ k1 => State.jobGone_same k1 rfl)
  try clear_value x0
  exact State.viewCph_same (State.clearCounters_same (State.setCph_same hx0 rfl) rfl) rfl)

theorem State.kwlReset_same {a s : State} (h : Same m a s) (hm : m &&& 0x8000801fffff = 0x8000801fffff) :
    Same m a (State.kwlReset s) := h.then hm (by
  have h := Same.refl 0x8000801fffff s
  unfold State.kwlReset
  extract_lets -merge -underBinder +onlyGivenNames x0
  have hx0 : Same 0x8000801fffff s x0 := Same.ite (State.wr_same h rfl) h
  try clear_value x0
  exact State.kwlView_same (State.clearCounters_same (State.setKwl_same hx0 rfl) rfl) rfl)

theorem State.logReset_same {a s : State} (h : Same m a s) (hm : m &&& 0x2000801fffff = 0x2000801fffff) :
    Same m a (State.logReset s) := h.then hm (by
  have h := Same.refl 0x2000801fffff s
  unfold State.logReset
  exact State.viewLog_same (State.clearCounters_same (State.setLog_same h rfl) rfl) rfl)

theorem State.hbrReset_same {a s : State} (h : Same m a s) (hm : m &&& 0x14097e01fffff = 0x14097e01fffff) :
    Same m a (State.hbrReset s) := h.then hm (by
  have h := Same.refl 0x14097e01fffff s
  unfold State.hbrReset
  extract_lets -merge -underBinder +onlyGivenNames x0 x1 x3
  have hx0 : Same 0x14097e01fffff s x0 := State.endReads_same (State.ringsOff_same h rfl) rfl
  have hx1 : Same 0x14097e01fffff s x1 := Same.foldl hx0 (fun _ _ k2 => State.wr_same k2 (home_bit 1 rfl rfl))
  have hx3 : Same 0x14097e01fffff s x3 := State.irq_same (State.setHbr_same hx1 rfl) rfl rfl rfl rfl
  try clear_value x0 x1 x3
  exact State.viewHbr_same (State.clearCounters_same (State.clearCounters_same (State.clearCounters_same hx3 rfl) rfl) rfl) rfl)

theorem State.sgwReset_same {a s : State} (h : Same m a s) (hm : m &&& 0x4086e000480a = 0x4086e000480a) :
    Same m a (State.sgwReset s) := h.then hm (by
  have h := Same.refl 0x4086e000480a s
  unfold State.sgwReset
  extract_lets -merge -underBinder +onlyGivenNames x0 x1 x3
  have hx0 : Same 0x4086e000480a s x0 := State.dropJobs_same h rfl
  have hx1 : Same 0x4086e000480a s x1 := Same.foldl hx0 (fun _ _ k2 => State.release_same k2 rfl)
  have hx3 : Same 0x4086e000480a s x3 := Same.foldl hx1 (fun _ _ k4 => State.release_same k4 rfl)
  try clear_value x0 x1 x3
  exact State.viewSgw_same (State.setSgw_same hx3 rfl) rfl)

theorem State.lkpReset_same {a s : State} (h : Same m a s) (hm : m &&& 0x1008000100a = 0x1008000100a) :
    Same m a (State.lkpReset s) := h.then hm (by
  have h := Same.refl 0x1008000100a s
  unfold State.lkpReset
  exact State.viewLkp_same (by
    extract_lets -merge -underBinder +onlyGivenNames x0
    have hx0 : Same 0x1008000100a s x0 := State.abortRebuild_same h rfl
    try clear_value x0
    exact (Same.put_lkp hx0 rfl)) rfl)

theorem State.bthReset_same {a s : State} (h : Same m a s) (hm : m &&& 0x4000002000 = 0x4000002000) :
    Same m a (State.bthReset s) := h.then hm (by
  have h := Same.refl 0x4000002000 s
  unfold State.bthReset
  exact State.showStaged_same (State.wr_same (State.setBth_same h rfl (fun w => w)) rfl) rfl)

theorem State.hckReset_same {a s : State} (h : Same m a s) (hm : m &&& 0x10008000001a = 0x10008000001a) :
    Same m a (State.hckReset s) := h.then hm (by
  have h := Same.refl 0x10008000001a s
  unfold State.hckReset
  extract_lets -merge -underBinder +onlyGivenNames x0
  have hx0 : Same 0x10008000001a s x0 := State.wr_same (State.setHck_same (State.ppsLow_same h rfl) rfl) rfl
  try clear_value x0
  exact State.viewHck_same (State.cond_same (State.servoTo_same hx0 rfl) rfl rfl rfl rfl) rfl)

theorem State.cstReset_same {a s : State} (h : Same m a s) (hm : m &&& 0x4086e000400a = 0x4086e000400a) :
    Same m a (State.cstReset s) := h.then hm (by
  have h := Same.refl 0x4086e000400a s
  unfold State.cstReset
  extract_lets -merge -underBinder +onlyGivenNames x0
  have hx0 : Same 0x4086e000400a s x0 := Same.foldl h (fun _ _ k1 => State.dropFrame_same k1 rfl)
  try clear_value x0
  exact State.setCst_same hx0 rfl (fun w => w))

theorem State.supReset_same {a s : State} (h : Same m a s) (hm : m &&& 0x200008000000b = 0x200008000000b) :
    Same m a (State.supReset s) := h.then hm (by
  have h := Same.refl 0x200008000000b s
  unfold State.supReset
  extract_lets -merge -underBinder +onlyGivenNames x0 x1
  have hx1 : Same 0x200008000000b s x1 := State.setSup_same h rfl
  try clear_value x1
  exact State.cond_same hx1 rfl rfl rfl rfl)

theorem State.pwkReset_same {a s : State} (h : Same m a s) (hm : m &&& 0x8008010000a = 0x8008010000a) :
    Same m a (State.pwkReset s) := h.then hm (by
  have h := Same.refl 0x8008010000a s
  unfold State.pwkReset
  exact State.wakeCond_same (State.setPwk_same h rfl) rfl)

theorem State.retReset_same {a s : State} (h : Same m a s) (hm : m &&& 0x40001801fffff = 0x40001801fffff) :
    Same m a (State.retReset s) := h.then hm (by
  have h := Same.refl 0x40001801fffff s
  unfold State.retReset
  exact State.setRet_same (State.loadLost_same (State.slotLost_same h rfl) rfl) rfl (fun w => w))

theorem State.mgpReset_same {a s : State} (h : Same m a s) (hm : m &&& 0x1000000000000 = 0x1000000000000) :
    Same m a (State.mgpReset s) := h.then hm (by
  have h := Same.refl 0x1000000000000 s
  unfold State.mgpReset
  exact State.setHbr_same h rfl)

theorem State.frontReset_same {a s : State} {a1 : Nat} (h : Same m a s) (hm : m &&& 0x46c6e01fffff = 0x46c6e01fffff) :
    Same m a (State.frontReset s a1) := h.then hm (by
  have h := Same.refl 0x46c6e01fffff s
  unfold State.frontReset
  extract_lets -merge -underBinder +onlyGivenNames x0 x1
  have hx1 : Same 0x46c6e01fffff s x1 := State.lfeReset_same h rfl
  try clear_value x1
  exact State.lineUpdate_same (State.setFront_same hx1 rfl) rfl)

theorem State.unitReset_same {a s : State} {a1 : Nat} (h : Same m a s) (hm : m &&& 0x7ffd7e01fffff = 0x7ffd7e01fffff) :
    Same m a (State.unitReset s a1) := h.then hm (by
  have h := Same.refl 0x7ffd7e01fffff s
  unfold State.unitReset
  split
  · exact h
  · extract_lets -merge -underBinder +onlyGivenNames x0 x1
    split
    · exact State.quayReset_same h rfl
    · exact State.quayReset_same h rfl
    · exact State.frontReset_same h rfl
    · exact Same.ite (State.cphReset_same h rfl) (State.laneReset_same h rfl)
    · exact State.kwlReset_same h rfl
    · exact State.logReset_same h rfl
    · exact State.hbrReset_same h rfl
    · exact State.clearBlock_same (State.sgwReset_same h rfl) rfl
    · exact State.clearBlock_same (State.lkpReset_same h rfl) rfl
    · exact State.clearBlock_same (State.bthReset_same h rfl) rfl
    · exact State.clearBlock_same (State.hckReset_same h rfl) rfl
    · exact State.clearBlock_same (State.cstReset_same h rfl) rfl
    · exact State.clearBlock_same (State.supReset_same h rfl) rfl
    · exact State.clearBlock_same (State.pwkReset_same h rfl) rfl
    · exact State.clearBlock_same (State.retReset_same h rfl) rfl
    · exact State.clearBlock_same (State.mgpReset_same h rfl) rfl
    · exact State.clearBlock_same h rfl)

theorem State.testsReset_same {a s : State} {a1 : Nat} (h : Same m a s) (hm : m &&& 0x2000000000000 = 0x2000000000000) :
    Same m a (State.testsReset s a1) := h.then hm (by
  have h := Same.refl 0x2000000000000 s
  unfold State.testsReset
  extract_lets -merge -underBinder +onlyGivenNames x0
  exact State.setSup_same h rfl)

theorem State.dieSafeEnd_same {a s : State} (h : Same m a s) (hm : m &&& 0x200008000000b = 0x200008000000b) :
    Same m a (State.dieSafeEnd s) := h.then hm (by
  have h := Same.refl 0x200008000000b s
  unfold State.dieSafeEnd
  refine Same.ite ?_ ?_
  · extract_lets -merge -underBinder +onlyGivenNames x0
    have hx0 : Same 0x200008000000b s x0 := State.wr_same (State.wr_same h rfl) rfl
    try clear_value x0
    exact State.safeCond_same (State.setSup_same hx0 rfl) rfl
  · exact h)

theorem State.dieReset_same {a s : State} {a1 : Nat} (h : Same m a s) (hm : m &&& 0x7f7ffedffffff = 0x7f7ffedffffff) :
    Same m a (State.dieReset s a1) := h.then hm (by
  have h := Same.refl 0x7f7ffedffffff s
  unfold State.dieReset
  extract_lets -merge -underBinder +onlyGivenNames x0 x1 x2 x3
  have hx0 : Same 0x7f7ffedffffff s x0 := Same.ite (State.wr_same (State.logicClear_same (State.loadLost_same h rfl) rfl) rfl) h
  have hx1 : Same 0x7f7ffedffffff s x1 := State.wr_same hx0 rfl
  have hx3 : Same 0x7f7ffedffffff s x3 := State.setSup_same hx1 rfl
  try clear_value x0 x1 x3
  exact State.linesUpdate_same (State.regionSafeEnd_same (State.regionSafeEnd_same (State.dieSafeEnd_same hx3 rfl) rfl) rfl) rfl)

theorem State.calledBy_same {a s : State} {a1 : Sys2Proof.Master} (h : Same m a s) (hm : m &&& 0x2000000000000 = 0x2000000000000) :
    Same m a (State.calledBy s a1) := h.then hm (by
  have h := Same.refl 0x2000000000000 s
  unfold State.calledBy
  exact State.setSup_same h rfl)

theorem State.askReset_same {a s : State} {a1 : Scope} {a2 : Nat} {a3 : Option Sys2Proof.Master} (h : Same m a s) (hm : m &&& 0x2000000000001 = 0x2000000000001) :
    Same m a (State.askReset s a1 a2 a3) := h.then hm (by
  have h := Same.refl 0x2000000000001 s
  unfold State.askReset
  extract_lets -merge -underBinder +onlyGivenNames x0 x1
  refine Same.ite ?_ ?_
  · exact State.setSup_same h rfl
  · extract_lets -merge -underBinder +onlyGivenNames x2 x3
    exact State.wr_same (State.setSup_same h rfl) rfl)

theorem State.runReset_same {a s : State} {a1 : ResetReq} (h : Same m a s) (hm : m &&& 0x7fffffdffffff = 0x7fffffdffffff) :
    Same m a (State.runReset s a1) := h.then hm (by
  have h := Same.refl 0x7fffffdffffff s
  unfold State.runReset
  split
  · exact State.testsReset_same (Same.ite (State.unitReset_same h rfl) h) rfl
  · extract_lets -merge -underBinder +onlyGivenNames x0
    have hx0 : Same 0x7fffffdffffff s x0 := Same.ite (State.clusterReset_same h rfl) h
    try clear_value x0
    exact Same.foldl hx0 (fun _ _ k1 => State.testsReset_same (State.testsReset_same k1 rfl) rfl)
  · extract_lets -merge -underBinder +onlyGivenNames x2 x3
    have hx2 : Same 0x7fffffdffffff s x2 := Same.ite (State.regionClear_same h rfl) h
    have hx3 : Same 0x7fffffdffffff s x3 := Same.foldl hx2 (fun _ _ k4 => State.testsReset_same (State.testsReset_same k4 rfl) rfl)
    try clear_value x2 x3
    exact State.regionSafeEnd_same hx3 rfl
  · exact State.dieReset_same h rfl
  · exact State.packageReset_same h rfl)

end Sys2Proof.Machine
end

