-- ==== Sys2Proof/Laws/KeepSupOps.lean ====
section
/-! SUPPORT. What the functions of Machine/SupOps.lean can change, one lemma for each, with the canonical forms kept. -/

namespace Sys2Proof.Machine

variable {m : Nat}

theorem State.showRec_same {a s : State} {a1 : List Nat} (h : Same m a s) (hm : m &&& 0x1 = 0x1) :
    Same m a (State.showRec s a1) := h.then hm (by
  have h := Same.refl 0x1 s
  unfold State.showRec
  exact Same.foldl h (fun _ _ k0 => State.wr_same k0 (home_bit 0 rfl rfl)))

theorem State.showNoRec_same {a s : State} (h : Same m a s) (hm : m &&& 0x100000001 = 0x100000001) :
    Same m a (State.showNoRec s) := h.then hm (by
  have h := Same.refl 0x100000001 s
  unfold State.showNoRec
  extract_lets -merge -underBinder +onlyGivenNames x0
  have hx0 : Same 0x100000001 s x0 := State.wr_same (State.useFresh_same h rfl) rfl
  try clear_value x0
  exact Same.foldl hx0 (fun _ _ k1 => State.wrFree_same k1 (home_bit 0 rfl rfl) rfl))

theorem State.showGap_same {a s : State} {a1 : Sys2Proof.Gap} (h : Same m a s) (hm : m &&& 0x100000001 = 0x100000001) :
    Same m a (State.showGap s a1) := h.then hm (by
  have h := Same.refl 0x100000001 s
  unfold State.showGap
  extract_lets -merge -underBinder +onlyGivenNames x0 x1 x2
  have hx0 : Same 0x100000001 s x0 := State.showNoRec_same h rfl
  have hx1 : Same 0x100000001 s x1 := State.wr_same hx0 rfl
  have hx2 : Same 0x100000001 s x2 := State.wr_same hx1 rfl
  try clear_value x0 x1 x2
  exact State.wr_same hx2 rfl)

theorem State.recView_same {a s : State} (h : Same m a s) (hm : m &&& 0x8000000b = 0x8000000b) :
    Same m a (State.recView s) := h.then hm (by
  have h := Same.refl 0x8000000b s
  unfold State.recView
  extract_lets -merge -underBinder +onlyGivenNames x0
  have hx0 : Same 0x8000000b s x0 := State.wr_same h rfl
  try clear_value x0
  exact State.cond_same hx0 rfl rfl rfl rfl)

theorem State.putRec_same {a s : State} {a1 : Nat} {a2 : SupRec} (h : Same m a s) (hm : m &&& 0x2000000000000 = 0x2000000000000) :
    Same m a (State.putRec s a1 a2) := h.then hm (by
  have h := Same.refl 0x2000000000000 s
  unfold State.putRec
  exact State.setSup_same h rfl)

theorem State.closeRec_same {a s : State} {a1 : Nat} {a2 : Bool} (h : Same m a s) (hm : m &&& 0x200008000000b = 0x200008000000b) :
    Same m a (State.closeRec s a1 a2) := h.then hm (by
  have h := Same.refl 0x200008000000b s
  unfold State.closeRec
  split
  · exact h
  · refine Same.ite ?_ ?_
    · exact h
    · extract_lets -merge -underBinder +onlyGivenNames x0 x1
      have hx1 : Same 0x200008000000b s x1 := State.putRec_same h rfl
      try clear_value x1
      exact State.recView_same (Same.ite (State.histAdd_same hx1 rfl) hx1) rfl)

theorem State.followLevel_same {a s : State} {a1 : SupRec} (h : Same m a s) (hm : m &&& 0x1fffff = 0x1fffff) :
    Same m a (State.followLevel s a1) := h.then hm (by
  have h := Same.refl 0x1fffff s
  unfold State.followLevel
  extract_lets -merge -underBinder +onlyGivenNames x0
  exact Same.ite (State.wr_same h (any_head rfl)) h)

theorem State.setRecLevel_same {a s : State} {a1 : Nat} {a2 : Nat} (h : Same m a s) (hm : m &&& 0x20000001fffff = 0x20000001fffff) :
    Same m a (State.setRecLevel s a1 a2) := h.then hm (by
  have h := Same.refl 0x20000001fffff s
  unfold State.setRecLevel
  split
  · exact State.followLevel_same (State.putRec_same h rfl) rfl
  · exact h)

theorem State.showId_same {a s : State} {a1 : Nat} (h : Same m a s) (hm : m &&& 0x100000001 = 0x100000001) :
    Same m a (State.showId s a1) := h.then hm (by
  have h := Same.refl 0x100000001 s
  unfold State.showId
  split
  · exact State.showRec_same h rfl
  · exact State.showNoRec_same h rfl)

theorem State.popRec_same {a s : State} (h : Same m a s) (hm : m &&& 0x200018000000b = 0x200018000000b) :
    Same m a (State.popRec s) := h.then hm (by
  have h := Same.refl 0x200018000000b s
  unfold State.popRec
  extract_lets -merge -underBinder +onlyGivenNames x0 x1 x2
  have hx2 : Same 0x200018000000b s x2 := State.recView_same (State.setSup_same h rfl) rfl
  try clear_value x2
  split
  · exact State.showNoRec_same hx2 rfl
  · exact State.showGap_same hx2 rfl
  · exact State.showId_same hx2 rfl)

theorem State.levelFive_same {a s : State} {a1 : Nat} {a2 : Option Sys2Proof.Master} (h : Same m a s) (hm : m &&& 0x200008000000b = 0x200008000000b) :
    Same m a (State.levelFive s a1 a2) := h.then hm (by
  have h := Same.refl 0x200008000000b s
  unfold State.levelFive
  refine Same.ite ?_ ?_
  · exact State.askReset_same h rfl
  · extract_lets -merge -underBinder +onlyGivenNames x0
    have hx0 : Same 0x200008000000b s x0 := Same.foldl h (fun _ _ k1 => State.closeRec_same k1 rfl)
    try clear_value x0
    exact State.askReset_same (State.histEvent_same hx0 rfl) rfl)

theorem State.dieSafe_same {a s : State} (h : Same m a s) (hm : m &&& 0x252c6e013451b = 0x252c6e013451b) :
    Same m a (State.dieSafe s) := h.then hm (by
  have h := Same.refl 0x252c6e013451b s
  unfold State.dieSafe
  refine Same.ite ?_ ?_
  · exact h
  · extract_lets -merge -underBinder +onlyGivenNames x0 x1 x2 x3
    have hx0 : Same 0x252c6e013451b s x0 := State.safeCond_same (State.wr_same (State.wr_same h rfl) rfl) rfl
    have hx2 : Same 0x252c6e013451b s x2 := State.setSup_same hx0 rfl
    have hx3 : Same 0x252c6e013451b s x3 := Same.ite (State.setClaim_same (State.setClaim_same hx2 rfl) rfl) hx2
    try clear_value x0 x2 x3
    exact State.ppsUpdate_same (State.trigSafeLow_same (State.linesUpdate_same hx3 rfl) rfl) rfl)

theorem State.regionSafeBegin_same {a s : State} {a1 : Nat} {a2 : Bool} (h : Same m a s) (hm : m &&& 0x242c6e013441b = 0x242c6e013441b) :
    Same m a (State.regionSafeBegin s a1 a2) := h.then hm (by
  have h := Same.refl 0x242c6e013441b s
  unfold State.regionSafeBegin
  refine Same.ite ?_ ?_
  · exact h
  · extract_lets -merge -underBinder +onlyGivenNames x0 x1 x2 x3
    have hx0 : Same 0x242c6e013441b s x0 := State.setRegionSafe_same h rfl
    have hx3 : Same 0x242c6e013441b s x3 := State.setSup_same hx0 rfl
    try clear_value x0 x3
    exact State.trigSafeLow_same (State.linesUpdate_same hx3 rfl) rfl)

theorem State.planeOut_same {a s : State} {a1 : Nat} {a2 : OutCause} (h : Same m a s) (hm : m &&& 0x155a000110a = 0x155a000110a) :
    Same m a (State.planeOut s a1 a2) := h.then hm (by
  have h := Same.refl 0x155a000110a s
  unfold State.planeOut
  extract_lets -merge -underBinder +onlyGivenNames x0
  exact Same.ite (State.leaveActive_same h rfl) (Same.ite (State.noPlane_same (State.enterOut_same h rfl) rfl) (Same.ite (State.enterOut_same h rfl) h)))

theorem State.laneOut_same {a s : State} {a1 : Nat} (h : Same m a s) (hm : m &&& 0x4086e000604a = 0x4086e000604a) :
    Same m a (State.laneOut s a1) := h.then hm (by
  have h := Same.refl 0x4086e000604a s
  unfold State.laneOut
  extract_lets -merge -underBinder +onlyGivenNames x0
  have hx0 : Same 0x4086e000604a s x0 := State.wr_same h (home_bit 6 rfl rfl)
  try clear_value x0
  split
  · exact State.viewCph_same (State.jobLate_same (State.laneFree_same hx0 rfl) rfl) rfl
  · exact State.viewCph_same (State.hostEnd_same hx0 rfl) rfl
  · exact State.viewCph_same hx0 rfl)

theorem State.levelTwo_same {a s : State} {a1 : Nat} {a2 : Nat} {a3 : Nat} {a4 : Nat} (h : Same m a s) (hm : m &&& 0x243d7e013754b = 0x243d7e013754b) :
    Same m a (State.levelTwo s a1 a2 a3 a4) := h.then hm (by
  have h := Same.refl 0x243d7e013754b s
  unfold State.levelTwo
  refine Same.ite ?_ ?_
  · exact h
  · split
    · exact State.planeOut_same h rfl
    · exact State.planeOut_same h rfl
    · exact State.isolate_same h rfl
    · exact Same.ite h (State.failBank_same h rfl)
    · exact Same.ite h (State.laneOut_same h rfl)
    · exact State.askReset_same h rfl)

theorem State.levelFour_same {a s : State} {a1 : Option Nat} (h : Same m a s) (hm : m &&& 0x252c6e01fffff = 0x252c6e01fffff) :
    Same m a (State.levelFour s a1) := h.then hm (by
  have h := Same.refl 0x252c6e01fffff s
  unfold State.levelFour
  extract_lets -merge -underBinder +onlyGivenNames x0
  refine Same.ite ?_ ?_
  · extract_lets -merge -underBinder +onlyGivenNames x1
    have hx1 : Same 0x252c6e01fffff s x1 := by
      unfold x1
      split
      · exact State.setRecLevel_same h rfl
      · exact h
    try clear_value x1
    exact State.levelFive_same hx1 rfl
  · exact Same.ite h (State.dieSafe_same h rfl))

theorem State.actAt_same {a s : State} {a1 : Nat} {a2 : Nat} {a3 : Nat} {a4 : Nat} {a5 : Nat} {a6 : Option Nat} (h : Same m a s) (hm : m &&& 0x253d7e01fffff = 0x253d7e01fffff) :
    Same m a (State.actAt s a1 a2 a3 a4 a5 a6) := h.then hm (by
  have h := Same.refl 0x253d7e01fffff s
  unfold State.actAt
  refine Same.ite ?_ ?_
  · exact h
  · refine Same.ite ?_ ?_
    · exact State.levelTwo_same h rfl
    · refine Same.ite ?_ ?_
      · split
        · exact Same.ite h (State.regionSafeBegin_same h rfl)
        · exact State.levelFour_same h rfl
      · exact Same.ite (State.levelFour_same h rfl) (State.levelFive_same h rfl))

theorem State.highRec_same {a s : State} {a1 : Nat} {a2 : Nat} (h : Same m a s) (hm : m &&& 0x2000000000000 = 0x2000000000000) :
    Same m a (State.highRec s a1 a2) := h.then hm (by
  have h := Same.refl 0x2000000000000 s
  unfold State.highRec
  split
  · exact Same.ite (State.histAdd_same h rfl) h
  · exact h)

theorem State.repeatErr_same {a s : State} {a1 : Sys2Proof.ErrReport} {a2 : Nat} {a3 : SupRec} (h : Same m a s) (hm : m &&& 0x253d7e01fffff = 0x253d7e01fffff) :
    Same m a (State.repeatErr s a1 a2 a3) := h.then hm (by
  have h := Same.refl 0x253d7e01fffff s
  unfold State.repeatErr
  extract_lets -merge -underBinder +onlyGivenNames x0 x1 x2 x3 x4
  have hx3 : Same 0x253d7e01fffff s x3 := State.followLevel_same (State.bump_same (State.putRec_same h rfl) rfl) rfl
  have hx4 : Same 0x253d7e01fffff s x4 := Same.ite (State.highRec_same (State.irq_same (State.bump_same hx3 rfl) rfl rfl rfl rfl) rfl) hx3
  try clear_value x3 x4
  exact Same.ite (State.actAt_same hx4 rfl) (Same.ite (State.actAt_same hx4 rfl) hx4))

theorem State.recGap_same {a s : State} (h : Same m a s) (hm : m &&& 0x200008000000b = 0x200008000000b) :
    Same m a (State.recGap s) := h.then hm (by
  have h := Same.refl 0x200008000000b s
  unfold State.recGap
  extract_lets -merge -underBinder +onlyGivenNames x0 x1 x2 x3 x4
  have hx4 : Same 0x200008000000b s x4 := State.bump_same (State.setSup_same h rfl) rfl
  try clear_value x4
  exact State.recView_same (Same.ite (State.irq_same hx4 rfl rfl rfl rfl) hx4) rfl)

theorem State.newRec_same {a s : State} {a1 : Sys2Proof.ErrReport} {a2 : Nat} {a3 : Nat} (h : Same m a s) (hm : m &&& 0x200018000000b = 0x200018000000b) :
    Same m a (State.newRec s a1 a2 a3) := h.then hm (by
  have h := Same.refl 0x200018000000b s
  unfold State.newRec
  extract_lets -merge -underBinder +onlyGivenNames x0 x1 x2 x3 x4 x5 x6 x7 x8
  have hx3 : Same 0x200018000000b s x3 := State.putRec_same (State.useFresh_same h rfl) rfl
  have hx8 : Same 0x200018000000b s x8 := State.setSup_same hx3 rfl
  try clear_value x3 x8
  exact State.highRec_same (State.recView_same (State.bump_same hx8 rfl) rfl) rfl)

theorem State.takeError_same {a s : State} (h : Same m a s) (hm : m &&& 0x253d7e01fffff = 0x253d7e01fffff) :
    Same m a (State.takeError s) := h.then hm (by
  have h := Same.refl 0x253d7e01fffff s
  unfold State.takeError
  split
  · exact h
  · extract_lets -merge -underBinder +onlyGivenNames x0 x1
    have hx0 : Same 0x253d7e01fffff s x0 := (Same.put_errLines h rfl)
    try clear_value x0
    split
    · exact State.repeatErr_same hx0 rfl
    · extract_lets -merge -underBinder +onlyGivenNames x2
      refine Same.ite ?_ ?_
      · extract_lets -merge -underBinder +onlyGivenNames x3
        have hx3 : Same 0x253d7e01fffff s x3 := State.recGap_same hx0 rfl
        try clear_value x3
        exact Same.ite (State.actAt_same hx3 rfl) hx3
      · extract_lets -merge -underBinder +onlyGivenNames x4 x5
        have hx5 : Same 0x253d7e01fffff s x5 := State.newRec_same (State.useFresh_same hx0 rfl) rfl
        try clear_value x5
        exact Same.ite (State.actAt_same hx5 rfl) hx5)

theorem State.viewTests_same {a s : State} (h : Same m a s) (hm : m &&& 0x18000000b = 0x18000000b) :
    Same m a (State.viewTests s) := h.then hm (by
  have h := Same.refl 0x18000000b s
  unfold State.viewTests
  extract_lets -merge -underBinder +onlyGivenNames x0 x1 x2
  have hx1 : Same 0x18000000b s x1 := State.wr_same (State.setB_same (State.wr_same h rfl) rfl) rfl
  have hx2 : Same 0x18000000b s x2 := by
    unfold x2
    split
    · exact State.wr_same hx1 rfl
    · exact State.wrFree_same hx1 rfl rfl
  try clear_value x1 x2
  exact State.cond_same hx2 rfl rfl rfl rfl)

theorem State.setTest_same {a s : State} {a1 : Nat} {a2 : Nat} {a3 : TestSt} (h : Same m a s) (hm : m &&& 0x200018000000b = 0x200018000000b) :
    Same m a (State.setTest s a1 a2 a3) := h.then hm (by
  have h := Same.refl 0x200018000000b s
  unfold State.setTest
  exact State.viewTests_same (State.setSup_same h rfl) rfl)

theorem State.takeTarget_same {a s : State} {a1 : Nat} {a2 : Nat} {a3 : Bool} (h : Same m a s) (hm : m &&& 0xc2c6e013444a = 0xc2c6e013444a) :
    Same m a (State.takeTarget s a1 a2 a3) := h.then hm (by
  have h := Same.refl 0xc2c6e013444a s
  unfold State.takeTarget
  split
  · exact Same.ite (State.lineUpdate_same (State.setQuay_same h rfl) rfl) h
  · exact State.setLane_same h rfl
  · exact State.setKwl_same h rfl
  · exact State.lineUpdate_same (State.setQuay_same h rfl) rfl
  · exact h)

theorem State.startTest_same {a s : State} {a1 : Nat} {a2 : Nat} (h : Same m a s) (hm : m &&& 0x2c2c7e013444b = 0x2c2c7e013444b) :
    Same m a (State.startTest s a1 a2) := h.then hm (by
  have h := Same.refl 0x2c2c7e013444b s
  unfold State.startTest
  extract_lets -merge -underBinder +onlyGivenNames x0 x1
  have hx1 : Same 0x2c2c7e013444b s x1 := Same.ite (State.takeTarget_same h rfl) h
  try clear_value x1
  exact State.setTest_same hx1 rfl)

theorem State.serveWindow_same {a s : State} {a1 : Window} (h : Same m a s) (hm : m &&& 0x1000000000 = 0x1000000000) :
    Same m a (State.serveWindow s a1) := h.then hm (by
  have h := Same.refl 0x1000000000 s
  unfold State.serveWindow
  exact State.setTid_same h rfl (fun w v => ⟨w, v⟩))

theorem State.logicSliceEnd_same {a s : State} {a1 : Nat} {a2 : Nat} {a3 : Bool} (h : Same m a s) (hm : m &&& 0x2c2c7e01fffff = 0x2c2c7e01fffff) :
    Same m a (State.logicSliceEnd s a1 a2 a3) := h.then hm (by
  have h := Same.refl 0x2c2c7e01fffff s
  unfold State.logicSliceEnd
  extract_lets -merge -underBinder +onlyGivenNames x0 x1 x2
  have hx2 : Same 0x2c2c7e01fffff s x2 := State.takeTarget_same h rfl
  try clear_value x2
  refine Same.ite ?_ ?_
  · exact Same.ite (State.setTest_same hx2 rfl) (State.setTest_same hx2 rfl)
  · extract_lets -merge -underBinder +onlyGivenNames x3
    have hx3 : Same 0x2c2c7e01fffff s x3 := State.setTest_same hx2 rfl
    try clear_value x3
    exact State.errU_same (State.bump_same hx3 rfl) (any_head rfl) rfl rfl rfl rfl rfl)

theorem State.repairAdd_same {a s : State} {a1 : RepairEntry} (h : Same m a s) (hm : m &&& 0x2000200000001 = 0x2000200000001) :
    Same m a (State.repairAdd s a1) := h.then hm (by
  have h := Same.refl 0x2000200000001 s
  unfold State.repairAdd
  refine Same.ite ?_ ?_
  · exact h
  · refine Same.ite ?_ ?_
    · exact h
    · extract_lets -merge -underBinder +onlyGivenNames x0 x1
      have hx1 : Same 0x2000200000001 s x1 := State.setSup_same h rfl
      try clear_value x1
      exact State.setCst_same (State.wr_same hx1 rfl) rfl (fun w => w))

theorem State.bankSliceEnd_same {a s : State} {a1 : Nat} {a2 : List RepairEntry} (h : Same m a s) (hm : m &&& 0x24087e000400b = 0x24087e000400b) :
    Same m a (State.bankSliceEnd s a1 a2) := h.then hm (by
  have h := Same.refl 0x24087e000400b s
  unfold State.bankSliceEnd
  extract_lets -merge -underBinder +onlyGivenNames x0 x1 x2 x3 x4 x5 x7 x8 x9 x10
  have hx5 : Same 0x24087e000400b s x5 := Same.foldl h (fun _ _ k6 => State.repairAdd_same k6 rfl)
  have hx10 : Same 0x24087e000400b s x10 := State.setCst_same hx5 rfl (fun w => w)
  try clear_value x5 x10
  try clear_value x0
  try clear_value x1
  try clear_value x2
  try clear_value x4
  try clear_value x7
  try clear_value x8
  try clear_value x9
  split
  · refine Same.ite ?_ ?_
    · extract_lets -merge -underBinder +onlyGivenNames x11
      have hx11 : Same 0x24087e000400b s x11 := State.hwm_same (State.bankCond_same (State.wr_same hx10 rfl) rfl) rfl
      try clear_value x11
      exact State.setTest_same hx11 rfl
    · exact State.setTest_same hx10 rfl
  · extract_lets -merge -underBinder +onlyGivenNames x12 x13
    have hx12 : Same 0x24087e000400b s x12 := State.wr_same (State.wr_same (State.wr_same hx10 rfl) rfl) rfl
    have hx13 : Same 0x24087e000400b s x13 := State.retireLimit_same (State.irq_same (State.bump_same hx12 rfl) rfl rfl rfl rfl) rfl
    try clear_value x12 x13
    exact State.setTest_same hx13 rfl)

theorem State.bankEmpty_same {a s : State} {a1 : Nat} (h : Same m a s) (hm : m &&& 0x40878000400a = 0x40878000400a) :
    Same m a (State.bankEmpty s a1) := h.then hm (by
  have h := Same.refl 0x40878000400a s
  unfold State.bankEmpty
  extract_lets -merge -underBinder +onlyGivenNames x0 x1
  have hx1 : Same 0x40878000400a s x1 := Same.foldl h (fun _ _ k2 => State.bump_same (State.freeCells_same (State.unqueue_same (State.endLanding_same k2 rfl) rfl) rfl) rfl)
  try clear_value x1
  exact State.loseCells_same hx1 rfl)

theorem State.alarmCond_same {a s : State} (h : Same m a s) (hm : m &&& 0x8000008b = 0x8000008b) :
    Same m a (State.alarmCond s) := h.then hm (by
  have h := Same.refl 0x8000008b s
  unfold State.alarmCond
  extract_lets -merge -underBinder +onlyGivenNames x0 x1
  have hx1 : Same 0x8000008b s x1 := State.cond_same h rfl rfl rfl rfl
  try clear_value x1
  exact Same.ite (State.kwlView_same (State.setB_same hx1 rfl) rfl) hx1)

theorem State.verifyErased_same {a s : State} (h : Same m a s) (hm : m &&& 0x8000040a = 0x8000040a) :
    Same m a (State.verifyErased s) := h.then hm (by
  have h := Same.refl 0x8000040a s
  unfold State.verifyErased
  exact Same.ite (State.wr_same (State.irq_same (State.wr_same (State.wr_same h rfl) rfl) rfl rfl rfl rfl) rfl) h)

theorem State.custodyErase_same {a s : State} (h : Same m a s) (hm : m &&& 0xe000800004ea = 0xe000800004ea) :
    Same m a (State.custodyErase s) := h.then hm (by
  have h := Same.refl 0xe000800004ea s
  unfold State.custodyErase
  exact Same.ite (State.verifyErased_same (State.sealErase_same (State.cphErase_same (State.kwlErase_same h rfl) rfl) rfl) rfl) h)

end Sys2Proof.Machine
end

