-- ==== Sys2Proof/Laws/KeepSup.lean ====
section
/-! SUPPORT. What the functions of Machine/Sup.lean can change, one lemma for each, with the canonical forms kept. -/

namespace Sys2Proof.Machine

variable {m : Nat}

theorem onSup_same {a s : State} {c : Bool} {f : State → State} (h : Same m a s)
    (hf : ∀ t, Same m a t → Same m a (f t)) : SameR m a (onSup s c f) := SameR.ite (.next (hf _ h)) (.next h)

theorem State.supReject_same {a s : State} (h : Same m a s) (hm : m &&& 0x1 = 0x1) :
    Same m a (State.supReject s) := h.then hm (by
  have h := Same.refl 0x1 s
  unfold State.supReject
  exact State.wr_same h rfl)

theorem execSupRecAck_same {a s : State} {a0 : Nat} (h : Same m a s) (hm : m &&& 0x200008000000b = 0x200008000000b) :
    SameR m a (execSupRecAck a0 s) := SameR.then h hm (by
  have h := Same.refl 0x200008000000b s
  unfold execSupRecAck
  exact onSup_same h (fun _ k0 => State.closeRec_same k0 rfl))

theorem execAutoAckTimeout_same {a s : State} (h : Same m a s) (hm : m &&& 0x200008000000b = 0x200008000000b) :
    SameR m a (execAutoAckTimeout s) := SameR.then h hm (by
  have h := Same.refl 0x200008000000b s
  unfold execAutoAckTimeout
  exact onSup_same h (fun _ k0 => (by
    split
    · exact State.closeRec_same k0 rfl
    · exact k0)))

theorem execSupRecPop_same {a s : State} (h : Same m a s) (hm : m &&& 0x200018000000b = 0x200018000000b) :
    SameR m a (execSupRecPop s) := SameR.then h hm (by
  have h := Same.refl 0x200018000000b s
  unfold execSupRecPop
  exact onSup_same h (fun _ k0 => State.popRec_same k0 rfl))

theorem execSupRecSel_same {a s : State} {a0 : Nat} (h : Same m a s) (hm : m &&& 0x100000001 = 0x100000001) :
    SameR m a (execSupRecSel a0 s) := SameR.then h hm (by
  have h := Same.refl 0x100000001 s
  unfold execSupRecSel
  exact onSup_same h (fun _ k0 => State.showId_same k0 rfl))

theorem execUnitReset_same {a s : State} (h : Same m a s) (hm : m &&& 0x2000000000001 = 0x2000000000001) :
    SameR m a (execUnitReset s) := SameR.then h hm (by
  have h := Same.refl 0x2000000000001 s
  unfold execUnitReset
  exact onSup_same h (fun _ k0 => (by
    split
    · exact State.askReset_same k0 rfl
    · exact State.supReject_same k0 rfl)))

theorem execClusterReset_same {a s : State} (h : Same m a s) (hm : m &&& 0x2000000000001 = 0x2000000000001) :
    SameR m a (execClusterReset s) := SameR.then h hm (by
  have h := Same.refl 0x2000000000001 s
  unfold execClusterReset
  exact onSup_same h (fun _ k0 => Same.ite (State.askReset_same k0 rfl) (State.supReject_same k0 rfl)))

theorem execRegionReset_same {a s : State} (h : Same m a s) (hm : m &&& 0x2000000000001 = 0x2000000000001) :
    SameR m a (execRegionReset s) := SameR.then h hm (by
  have h := Same.refl 0x2000000000001 s
  unfold execRegionReset
  exact onSup_same h (fun _ k0 => Same.ite (State.askReset_same k0 rfl) (State.supReject_same k0 rfl)))

theorem execDieReset_same {a s : State} (h : Same m a s) (hm : m &&& 0x2000000000001 = 0x2000000000001) :
    SameR m a (execDieReset s) := SameR.then h hm (by
  have h := Same.refl 0x2000000000001 s
  unfold execDieReset
  exact onSup_same h (fun _ k0 => State.askReset_same k0 rfl))

theorem execPackageReset_same {a s : State} (h : Same m a s) (hm : m &&& 0x200008000000b = 0x200008000000b) :
    SameR m a (execPackageReset s) := SameR.then h hm (by
  have h := Same.refl 0x200008000000b s
  unfold execPackageReset
  exact onSup_same h (fun _ k0 => State.levelFive_same k0 rfl))

theorem execResetDone_same {a s : State} (h : Same m a s) (hm : m &&& 0x7fffffdffffff = 0x7fffffdffffff) :
    SameR m a (execResetDone s) := SameR.then h hm (by
  have h := Same.refl 0x7fffffdffffff s
  unfold execResetDone
  exact onSup_same h (fun _ k0 => (by
    split
    · exact k0
    · refine Same.ite ?_ ?_
      · exact k0
      · extract_lets -merge -underBinder +onlyGivenNames x1 x2
        have hx2 : Same 0x7fffffdffffff s x2 := State.setB_same (State.setSup_same k0 rfl) rfl
        try clear_value x2
        exact State.irq_same (State.runReset_same hx2 rfl) rfl rfl rfl rfl)))

theorem execRegionRetryTimeout_same {a s : State} (h : Same m a s) (hm : m &&& 0x2000000000001 = 0x2000000000001) :
    SameR m a (execRegionRetryTimeout s) := SameR.then h hm (by
  have h := Same.refl 0x2000000000001 s
  unfold execRegionRetryTimeout
  exact onSup_same h (fun _ k0 => (by
    extract_lets -merge -underBinder +onlyGivenNames x1
    exact Same.ite (State.askReset_same (State.setSup_same k0 rfl) rfl) (Same.ite (State.askReset_same (State.setSup_same k0 rfl) rfl) k0))))

theorem execSafeResetTimeout_same {a s : State} (h : Same m a s) (hm : m &&& 0x2000000000001 = 0x2000000000001) :
    SameR m a (execSafeResetTimeout s) := SameR.then h hm (by
  have h := Same.refl 0x2000000000001 s
  unfold execSafeResetTimeout
  exact onSup_same h (fun _ k0 => State.askReset_same k0 rfl))

theorem execRepairClear_same {a s : State} (h : Same m a s) (hm : m &&& 0x2000000000001 = 0x2000000000001) :
    SameR m a (execRepairClear s) := SameR.then h hm (by
  have h := Same.refl 0x2000000000001 s
  unfold execRepairClear
  exact onSup_same h (fun _ k0 => State.wr_same (State.setSup_same k0 rfl) rfl))

theorem execSupStReq_same {a s : State} {a0 : Nat} {a1 : Nat} (h : Same m a s) (hm : m &&& 0x2c2c7e013444b = 0x2c2c7e013444b) :
    SameR m a (execSupStReq a0 a1 s) := SameR.then h hm (by
  have h := Same.refl 0x2c2c7e013444b s
  unfold execSupStReq
  exact onSup_same h (fun _ k0 => Same.ite (State.startTest_same k0 rfl) k0))

theorem execSelftestPeriodDue_same {a s : State} {a0 : Nat} {a1 : Nat} (h : Same m a s) (hm : m &&& 0x2c2c7e013444b = 0x2c2c7e013444b) :
    SameR m a (execSelftestPeriodDue a0 a1 s) := SameR.then h hm (by
  have h := Same.refl 0x2c2c7e013444b s
  unfold execSelftestPeriodDue
  exact onSup_same h (fun _ k0 => (by
    extract_lets -merge -underBinder +onlyGivenNames x1 x2
    exact Same.ite (State.setTest_same k0 rfl) (State.startTest_same (State.setTest_same k0 rfl) rfl))))

theorem execBankWindowStart_same {a s : State} (h : Same m a s) (hm : m &&& 0x40878000400a = 0x40878000400a) :
    SameR m a (execBankWindowStart s) := SameR.then h hm (by
  have h := Same.refl 0x40878000400a s
  unfold execBankWindowStart
  exact onLogic_same h (fun _ k0 => (by
    split
    · exact k0
    · exact State.bankEmpty_same (State.wr_same k0 rfl) rfl)))

theorem execSelftestSlice_same {a s : State} {a0 : Nat} {a1 : Nat} (h : Same m a s) (hm : m &&& 0x2c2d7e013444b = 0x2c2d7e013444b) :
    SameR m a (execSelftestSlice a0 a1 s) := SameR.then h hm (by
  have h := Same.refl 0x2c2d7e013444b s
  unfold execSelftestSlice
  exact onLogicIf_same h (fun _ k0 => (by
    split
    · exact k0
    · extract_lets -merge -underBinder +onlyGivenNames x1
      have hx1 : Same 0x2c2d7e013444b s x1 := State.takeTarget_same (State.serveWindow_same k0 rfl) rfl
      try clear_value x1
      exact State.bump_same (State.setTest_same hx1 rfl) rfl)))

theorem execSelftestSliceEnd_same {a s : State} {a0 : Nat} {a1 : Nat} {a2 : Bool} {a3 : List Sys2Proof.CellFail} (h : Same m a s) (hm : m &&& 0x2c2c7e01fffff = 0x2c2c7e01fffff) :
    SameR m a (execSelftestSliceEnd a0 a1 a2 a3 s) := SameR.then h hm (by
  have h := Same.refl 0x2c2c7e01fffff s
  unfold execSelftestSliceEnd
  exact onLogicIf_same h (fun _ k0 => Same.ite (State.bankSliceEnd_same k0 rfl) (State.logicSliceEnd_same k0 rfl)))

theorem execAlarmRise_same {a s : State} {a0 : Nat} (h : Same m a s) (hm : m &&& 0xe001a00004eb = 0xe001a00004eb) :
    SameR m a (execAlarmRise a0 s) := SameR.then h hm (by
  have h := Same.refl 0xe001a00004eb s
  unfold execAlarmRise
  exact onSup_same h (fun _ k0 => (by
    extract_lets -merge -underBinder +onlyGivenNames x1 x2
    have hx1 : Same 0xe001a00004eb s x1 := State.wr_same (State.wr_same k0 rfl) rfl
    have hx2 : Same 0xe001a00004eb s x2 := State.alarmCond_same (State.bump_same hx1 rfl) rfl
    try clear_value x1 x2
    exact State.errU_same (State.custodyErase_same hx2 rfl) rfl rfl rfl rfl rfl rfl)))

theorem execAlarmClear_same {a s : State} {a0 : Nat} (h : Same m a s) (hm : m &&& 0x280008000008b = 0x280008000008b) :
    SameR m a (execAlarmClear a0 s) := SameR.then h hm (by
  have h := Same.refl 0x280008000008b s
  unfold execAlarmClear
  exact onSup_same h (fun _ k0 => (by
    extract_lets -merge -underBinder +onlyGivenNames x1 x2
    have hx1 : Same 0x280008000008b s x1 := State.alarmCond_same (State.wr_same k0 rfl) rfl
    have hx2 : Same 0x280008000008b s x2 := Same.ite (State.restoreCustody_same hx1 rfl) hx1
    try clear_value x1 x2
    exact Same.ite (State.askReset_same hx2 rfl) (Same.ite (State.askReset_same hx2 rfl) hx2))))

theorem execTempWarn_same {a s : State} {a0 : Int} {a1 : Int} (h : Same m a s) (hm : m &&& 0x8000000b = 0x8000000b) :
    SameR m a (execTempWarn a0 a1 s) := SameR.then h hm (by
  have h := Same.refl 0x8000000b s
  unfold execTempWarn
  exact onSup_same h (fun _ k0 => (by
    extract_lets -merge -underBinder +onlyGivenNames x1
    have hx1 : Same 0x8000000b s x1 := State.wr_same (State.wr_same k0 rfl) rfl
    try clear_value x1
    exact State.cond_same hx1 rfl rfl rfl rfl)))

theorem execScanArm_same {a s : State} {a0 : Nat} {a1 : Sys2Proof.Master} (h : Same m a s) (hm : m &&& 0x2000000000001 = 0x2000000000001) :
    SameR m a (execScanArm a0 a1 s) := SameR.then h hm (by
  have h := Same.refl 0x2000000000001 s
  unfold execScanArm
  exact onSup_same h (fun _ k0 => Same.ite (State.setSup_same k0 rfl) (State.supReject_same (State.setSup_same k0 rfl) rfl)))

theorem State.scanErase_same {a s : State} (h : Same m a s) (hm : m &&& 0xe000800000ca = 0xe000800000ca) :
    Same m a (State.scanErase s) := h.then hm (by
  have h := Same.refl 0xe000800000ca s
  unfold State.scanErase
  extract_lets -merge -underBinder +onlyGivenNames x0 x1 x2
  have hx0 : Same 0xe000800000ca s x0 := State.kwlScan_same h rfl
  have hx2 : Same 0xe000800000ca s x2 := Same.foldl hx0 (fun _ _ k3 => State.setLane_same k3 rfl)
  try clear_value x0 x2
  exact State.setSeal_same hx2 rfl)

theorem execScanGo_same {a s : State} {a0 : Sys2Proof.Master} {a1 : Bool} (h : Same m a s) (hm : m &&& 0x2f2c7e01345db = 0x2f2c7e01345db) :
    SameR m a (execScanGo a0 a1 s) := SameR.then h hm (by
  have h := Same.refl 0x2f2c7e01345db s
  unfold execScanGo
  exact onSup_same h (fun _ k0 => (by
    refine Same.ite ?_ ?_
    · exact State.supReject_same k0 rfl
    · extract_lets -merge -underBinder +onlyGivenNames x1 x2
      have hx2 : Same 0x2f2c7e01345db s x2 := State.setSup_same (State.scanErase_same (State.dieSafe_same k0 rfl) rfl) rfl
      try clear_value x2
      refine Same.ite ?_ ?_
      · extract_lets -merge -underBinder +onlyGivenNames x3
        have hx3 : Same 0x2f2c7e01345db s x3 := State.histEvent_same (State.useFresh_same hx2 rfl) rfl
        try clear_value x3
        exact State.setSup_same hx3 rfl
      · exact State.askReset_same (State.wr_same hx2 rfl) rfl)))

theorem execScanComplete_same {a s : State} {a0 : Bool} {a1 : Nat} (h : Same m a s) (hm : m &&& 0x2000000000001 = 0x2000000000001) :
    SameR m a (execScanComplete a0 a1 s) := SameR.then h hm (by
  have h := Same.refl 0x2000000000001 s
  unfold execScanComplete
  exact onSup_same h (fun _ k0 => (by
    extract_lets -merge -underBinder +onlyGivenNames x1 x2
    have hx1 : Same 0x2000000000001 s x1 := State.wr_same k0 rfl
    have hx2 : Same 0x2000000000001 s x2 := Same.ite hx1 (State.wr_same hx1 rfl)
    try clear_value x1 x2
    exact State.askReset_same (State.setSup_same hx2 rfl) rfl)))

end Sys2Proof.Machine
end

