-- ==== Sys2Proof/Laws/KeepTideLate.lean ====
section
/-! SUPPORT. What the functions of Machine/TideLate.lean can change, one lemma for each, with the canonical forms kept. -/

namespace Sys2Proof.Machine

variable {m : Nat}

theorem execVerifyComplete_same {a s : State} {a0 : Option Nat} {a1 : Option Nat} (h : Same m a s) (hm : m &&& 0xa000040a = 0xa000040a) :
    SameR m a (execVerifyComplete a0 a1 s) := SameR.then h hm (by
  have h := Same.refl 0xa000040a s
  unfold execVerifyComplete
  exact onLogicIf_same h (fun _ k0 => (by
    split
    · exact State.irq_same (State.setShadow_same (State.showShadow_same (State.wr_same k0 rfl) rfl) rfl) rfl rfl rfl rfl
    · extract_lets -merge -underBinder +onlyGivenNames x1
      have hx1 : Same 0xa000040a s x1 := Same.ite (State.err_same k0 rfl rfl rfl rfl rfl) k0
      try clear_value x1
      exact State.irq_same (State.setShadow_same (State.wr_same (State.wr_same hx1 rfl) rfl) rfl) rfl rfl rfl rfl)))

theorem State.tidCommit_same {a s : State} (h : Same m a s) (hm : m &&& 0x40000801fffff = 0x40000801fffff) :
    Same m a (State.tidCommit s) := h.then hm (by
  have h := Same.refl 0x40000801fffff s
  unfold State.tidCommit
  exact Same.ite (State.tidReject_same h rfl) (State.slotCommit_same h rfl))

theorem execTidCommit_same {a s : State} (h : Same m a s) (hm : m &&& 0x40000801fffff = 0x40000801fffff) :
    SameR m a (execTidCommit s) := SameR.then h hm (by
  have h := Same.refl 0x40000801fffff s
  unfold execTidCommit
  exact onLogic_same h (fun _ k0 => Same.ite (State.tidCommit_same k0 rfl) (State.tidReject_same k0 rfl)))

theorem State.swapTrig_same {a s : State} {a1 : Nat} (h : Same m a s) (hm : m &&& 0x101000000000 = 0x101000000000) :
    Same m a (State.swapTrig s a1) := h.then hm (by
  have h := Same.refl 0x101000000000 s
  unfold State.swapTrig
  refine Same.ite ?_ ?_
  · exact State.setTid_same h rfl (fun w v => ⟨w, v⟩)
  · extract_lets -merge -underBinder +onlyGivenNames x0 x1
    have hx1 : Same 0x101000000000 s x1 := State.setHck_same h rfl
    try clear_value x1
    exact State.setTid_same hx1 rfl (fun w v => ⟨w, v⟩))

theorem State.landHeld_same {a s : State} (h : Same m a s) (hm : m &&& 0x1400000400 = 0x1400000400) :
    Same m a (State.landHeld s) := h.then hm (by
  have h := Same.refl 0x1400000400 s
  unfold State.landHeld
  split
  · exact h
  · extract_lets -merge -underBinder +onlyGivenNames x0 x1
    have hx1 : Same 0x1400000400 s x1 := State.setTid_same h rfl (fun w v => ⟨w, v⟩)
    try clear_value x1
    exact State.setShadow_same (Same.foldl hx1 (fun _ _ k2 => State.shadowPut_same k2 rfl)) rfl)

theorem State.landHeldNoSwap_same {a s : State} (h : Same m a s) (hm : m &&& 0x148000440a = 0x148000440a) :
    Same m a (State.landHeldNoSwap s) := h.then hm (by
  have h := Same.refl 0x148000440a s
  unfold State.landHeldNoSwap
  exact Same.ite h (Same.ite (State.swapCancel_same (State.landHeld_same h rfl) rfl) (State.landHeld_same h rfl)))

theorem State.swapMems_same {a s : State} {a1 : Nat} (h : Same m a s) (hm : m &&& 0x1400000000 = 0x1400000000) :
    Same m a (State.swapMems s a1) := h.then hm (by
  have h := Same.refl 0x1400000000 s
  unfold State.swapMems
  extract_lets -merge -underBinder +onlyGivenNames x0 x1
  have hx1 : Same 0x1400000000 s x1 := State.setTid_same h rfl (by first | exact fun w v => ⟨v, w⟩ | exact fun _ w => ⟨w.2.1, w.1, w.2.2⟩)
  try clear_value x1
  exact State.mapOwn_same hx1 rfl (by first | exact fun w v => ⟨v, w⟩ | exact fun _ w => ⟨w.2.1, w.1, w.2.2⟩))

theorem State.dueRun_same {a s : State} (h : Same m a s) (hm : m &&& 0x1000000000 = 0x1000000000) :
    Same m a (State.dueRun s) := h.then hm (by
  have h := Same.refl 0x1000000000 s
  unfold State.dueRun
  exact State.setTid_same h rfl (fun w v => ⟨w, v⟩))

theorem State.swapIn_same {a s : State} (h : Same m a s) (hm : m &&& 0x453f6e81fffff = 0x453f6e81fffff) :
    Same m a (State.swapIn s) := h.then hm (by
  have h := Same.refl 0x453f6e81fffff s
  unfold State.swapIn
  extract_lets -merge -underBinder +onlyGivenNames x0 x1 x2 x3 x4 x5 x6 x7 x8 x9 x10 x11
  have hx2 : Same 0x453f6e81fffff s x2 := (Same.put_bnd h rfl)
  have hx3 : Same 0x453f6e81fffff s x3 := State.swapDiscard_same (State.slotSwapped_same (State.closeCaptures_same hx2 rfl) rfl) rfl
  have hx6 : Same 0x453f6e81fffff s x6 := State.swapMems_same hx3 rfl
  have hx7 : Same 0x453f6e81fffff s x7 := State.setShadow_same hx6 rfl
  have hx8 : Same 0x453f6e81fffff s x8 := State.showShadow_same (State.installImage_same hx7 rfl) rfl
  have hx9 : Same 0x453f6e81fffff s x9 := State.initGates_same (State.wr_same (State.wr_same hx8 rfl) rfl) rfl
  have hx10 : Same 0x453f6e81fffff s x10 := State.swapTrig_same hx9 rfl
  have hx11 : Same 0x453f6e81fffff s x11 := Same.ite (State.dueRun_same (State.setExec_same hx10 rfl) rfl) hx10
  try clear_value x2 x3 x6 x7 x8 x9 x10 x11
  exact State.landHeld_same hx11 rfl)

theorem execSwap_same {a s : State} (h : Same m a s) (hm : m &&& 0x453f6e81fffff = 0x453f6e81fffff) :
    SameR m a (execSwap s) := SameR.then h hm (by
  have h := Same.refl 0x453f6e81fffff s
  unfold execSwap
  exact onLogicIf_same h (fun _ k0 => State.swapIn_same k0 rfl))

theorem execSwapDone_same {a s : State} (h : Same m a s) (hm : m &&& 0x40010c01fffff = 0x40010c01fffff) :
    SameR m a (execSwapDone s) := SameR.then h hm (by
  have h := Same.refl 0x40010c01fffff s
  unfold execSwapDone
  exact onLogic_same h (fun _ k0 => (by
    split
    · exact k0
    · refine Same.ite ?_ ?_
      · exact k0
      · extract_lets -merge -underBinder +onlyGivenNames x1 x2 x3
        have hx2 : Same 0x40010c01fffff s x2 := State.setTid_same k0 rfl (fun w v => ⟨w, v⟩)
        have hx3 : Same 0x40010c01fffff s x3 := State.markAt_same (State.bump_same (State.irq_same hx2 rfl rfl rfl rfl) rfl) rfl
        try clear_value x2 x3
        exact Same.ite (State.tidCommit_same hx3 rfl) hx3)))

theorem execSwapTimeout_same {a s : State} (h : Same m a s) (hm : m &&& 0x108000440a = 0x108000440a) :
    SameR m a (execSwapTimeout s) := SameR.then h hm (by
  have h := Same.refl 0x108000440a s
  unfold execSwapTimeout
  exact onLogicIf_same h (fun _ k0 => (by
    extract_lets -merge -underBinder +onlyGivenNames x1
    have hx1 : Same 0x108000440a s x1 := State.swapCancel_same k0 rfl
    try clear_value x1
    exact State.setTid_same hx1 rfl (fun w v => ⟨w, v⟩))))

theorem State.nextStroke_same {a s : State} {a1 : Nat} (h : Same m a s) (hm : m &&& 0x4096e011440a = 0x4096e011440a) :
    Same m a (State.nextStroke s a1) := h.then hm (by
  have h := Same.refl 0x4096e011440a s
  unfold State.nextStroke
  extract_lets -merge -underBinder +onlyGivenNames x0 x1 x2
  have hx0 : Same 0x4096e011440a s x0 := State.cleanStroke_same h rfl
  try clear_value x0
  exact State.setTid_same hx0 rfl (fun w v => ⟨w, v⟩))

theorem State.copyStroke_same {a s : State} (h : Same m a s) (hm : m &&& 0x400000100 = 0x400000100) :
    Same m a (State.copyStroke s) := h.then hm (by
  have h := Same.refl 0x400000100 s
  unfold State.copyStroke
  exact Same.foldl h (fun _ _ k0 => (by
    refine Same.ite ?_ ?_
    · extract_lets -merge -underBinder +onlyGivenNames x1 x2 x3
      exact State.wr_same (State.copySlice_same k0 rfl) (home_bit 8 rfl rfl)
    · exact k0)))

theorem State.strokeCounts_same {a s : State} (h : Same m a s) (hm : m &&& 0x40148000004a = 0x40148000004a) :
    Same m a (State.strokeCounts s) := h.then hm (by
  have h := Same.refl 0x40148000004a s
  unfold State.strokeCounts
  extract_lets -merge -underBinder +onlyGivenNames x0 x2 x3
  have hx0 : Same 0x40148000004a s x0 := Same.foldl h (fun _ _ k1 => State.setPlane_same k1 rfl (fun _ w => ⟨w.1, w.2.1, w.2.2⟩))
  have hx3 : Same 0x40148000004a s x3 := State.setTid_same hx0 rfl (fun w v => ⟨w, v⟩)
  try clear_value x0 x3
  exact Same.foldl hx3 (fun _ _ k4 => Same.ite k4 (State.setLane_same k4 rfl)))

theorem State.lkpStroke_same {a s : State} (h : Same m a s) (hm : m &&& 0x1008000100a = 0x1008000100a) :
    Same m a (State.lkpStroke s) := h.then hm (by
  have h := Same.refl 0x1008000100a s
  unfold State.lkpStroke
  exact State.dropBadOps_same (Same.put_lkp h rfl) rfl)

theorem State.swapWait_same {a s : State} (h : Same m a s) (hm : m &&& 0x1000000000 = 0x1000000000) :
    Same m a (State.swapWait s) := h.then hm (by
  have h := Same.refl 0x1000000000 s
  unfold State.swapWait
  exact Same.ite (State.setTid_same h rfl (fun w v => ⟨w, v⟩)) h)

theorem execStrokeBoundary_same {a s : State} (h : Same m a s) (hm : m &&& 0x61d7e811756a = 0x61d7e811756a) :
    SameR m a (execStrokeBoundary s) := SameR.then h hm (by
  have h := Same.refl 0x61d7e811756a s
  unfold execStrokeBoundary
  exact onLogicIf_same h (fun _ k0 => (by
    extract_lets -merge -underBinder +onlyGivenNames x1 x2 x3
    have hx2 : Same 0x61d7e811756a s x2 := (Same.put_bnd k0 rfl)
    have hx3 : Same 0x61d7e811756a s x3 := Same.ite (State.nextStroke_same hx2 rfl) hx2
    try clear_value x2 x3
    exact State.swapWait_same (State.foldReports_same (State.bthBoundary_same (State.lkpStroke_same (State.strokeCounts_same (State.copyStroke_same (State.sealDelta_same hx3 rfl) rfl) rfl) rfl) rfl) rfl) rfl)))

theorem State.startAt_same {a s : State} {a1 : Nat} (h : Same m a s) (hm : m &&& 0x42f6e811440a = 0x42f6e811440a) :
    Same m a (State.startAt s a1) := h.then hm (by
  have h := Same.refl 0x42f6e811440a s
  unfold State.startAt
  extract_lets -merge -underBinder +onlyGivenNames x0 x1 x2 x3 x4 x5 x6
  have hx2 : Same 0x42f6e811440a s x2 := State.wr_same (State.wr_same h rfl) rfl
  have hx3 : Same 0x42f6e811440a s x3 := Same.ite (State.initGates_same hx2 rfl) (State.joinGates_same hx2 rfl)
  have hx5 : Same 0x42f6e811440a s x5 := State.setTid_same hx3 rfl (fun w v => ⟨w, v⟩)
  have hx6 : Same 0x42f6e811440a s x6 := State.setExec_same hx5 rfl
  try clear_value x2 x3 x5 x6
  exact (Same.put_bnd hx6 rfl))

theorem execExecStart_same {a s : State} (h : Same m a s) (hm : m &&& 0x42f6e811440a = 0x42f6e811440a) :
    SameR m a (execExecStart s) := SameR.then h hm (by
  have h := Same.refl 0x42f6e811440a s
  unfold execExecStart
  exact onLogicIf_same h (fun _ k0 => State.startAt_same k0 rfl))

end Sys2Proof.Machine
end

