-- ==== Sys2Proof/Laws/KeepBusOps.lean ====
section
/-! SUPPORT. What the functions of Machine/BusOps.lean can change, one lemma for each, with the canonical forms kept. -/

namespace Sys2Proof.Machine

variable {m : Nat}

theorem after_same {a s : State} {r : Result} (hr : SameR m a r) (h : Same m a s) : Same m a (after r s) := by
  unfold after
  split
  · exact hr _ rfl
  · exact h

theorem keyWrite_same {a s : State} {a0 : Nat} {a1 : Nat} (h : Same m a s) (hm : m &&& 0x4000ffffff = 0x4000ffffff) :
    SameR m a (keyWrite a0 a1 s) := SameR.then h hm (by
  have h := Same.refl 0x4000ffffff s
  unfold keyWrite
  exact SameR.ite (execPgCommit_same h rfl) (SameR.ite (execPgDiscard_same h rfl) (execPgCommitBadKey_same h rfl)))

theorem headerWrite_same {a s : State} {a0 : Nat} {a1 : Nat} {a2 : Nat} (h : Same m a s) (hm : m &&& 0x4080ffffff = 0x4080ffffff) :
    SameR m a (headerWrite a0 a1 a2 s) := SameR.then h hm (by
  have h := Same.refl 0x4080ffffff s
  unfold headerWrite
  split
  · exact SameR.next (State.writeWord_same (Same.ite (after_same (execPgCntClr_same h rfl) h) h) rfl)
  · exact keyWrite_same h rfl
  · exact execIrqEnWrite_same h rfl
  · exact execIrqPendClear_same h rfl
  · exact execIrqForce_same h rfl
  · exact SameR.ite (execErrFirstClear_same h rfl) (SameR.next h)
  · exact SameR.next (State.writeWord_same h rfl))

theorem tidWrite_same {a s : State} {a0 : Nat} (h : Same m a s) (hm : m &&& 0x40014801fffff = 0x40014801fffff) :
    SameR m a (tidWrite a0 s) := SameR.then h hm (by
  have h := Same.refl 0x40014801fffff s
  unfold tidWrite
  split
  · exact execVerify_same h rfl
  · exact execArm_same h rfl
  · exact execDisarm_same h rfl
  · exact execTidCommit_same h rfl
  · exact execTidSnapshot_same h rfl
  · exact execFetch_same h rfl
  · exact execClearShadow_same h rfl
  · exact SameR.next (State.tidReject_same h rfl))

theorem pmWrite_same {a s : State} {a0 : Nat} {a1 : Nat} {a2 : Sys2Proof.Master} (h : Same m a s) (hm : m &&& 0x155a000110a = 0x155a000110a) :
    SameR m a (pmWrite a0 a1 a2 s) := SameR.then h hm (by
  have h := Same.refl 0x155a000110a s
  unfold pmWrite
  split
  · exact execTakeOut_same h rfl
  · exact execRejoin_same h rfl
  · exact SameR.next (State.pmReject_same h rfl))

theorem bthWrite_same {a s : State} {a0 : Nat} {a1 : Nat} (h : Same m a s) (hm : m &&& 0x4000002000 = 0x4000002000) :
    SameR m a (bthWrite a0 a1 s) := SameR.then h hm (by
  have h := Same.refl 0x4000002000 s
  unfold bthWrite
  split
  · exact execClrStats_same h rfl
  · exact execRefill_same h rfl
  · exact execUnblock_same h rfl
  · exact execClrAllStats_same h rfl
  · exact SameR.next (State.wr_same h rfl))

theorem qycWrite_same {a s : State} {a0 : Nat} {a1 : Nat} {a2 : Sys2Proof.Master} (h : Same m a s) (hm : m &&& 0x24ac7f01fffff = 0x24ac7f01fffff) :
    SameR m a (qycWrite a0 a1 a2 s) := SameR.then h hm (by
  have h := Same.refl 0x24ac7f01fffff s
  unfold qycWrite
  split
  · exact execRecover_same h rfl
  · exact execQycSleep_same h rfl
  · exact execQycWake_same h rfl
  · exact execClrLec_same h rfl
  · exact SameR.ite (execQycFlush_same h rfl) (SameR.next (State.canReject_same h rfl)))

theorem qyeWrite_same {a s : State} {a0 : Nat} {a1 : Nat} (h : Same m a s) (hm : m &&& 0x40c6e001400a = 0x40c6e001400a) :
    SameR m a (qyeWrite a0 a1 s) := SameR.then h hm (by
  have h := Same.refl 0x40c6e001400a s
  unfold qyeWrite
  exact SameR.ite (execQyeFlush_same h rfl) (SameR.next (State.wr_same h (home_bit 16 rfl rfl))))

theorem lfeWrite_same {a s : State} {a0 : Nat} {a1 : Nat} (h : Same m a s) (hm : m &&& 0x46c6e013440a = 0x46c6e013440a) :
    SameR m a (lfeWrite a0 a1 s) := SameR.then h hm (by
  have h := Same.refl 0x46c6e013440a s
  unfold lfeWrite
  split
  · exact execMeasureTerm_same h rfl
  · exact execTdr_same h rfl
  · exact execSwapReset_same h rfl
  · exact execMeasCancel_same h rfl
  · exact SameR.next (State.lfeReject_same h rfl))

theorem hckWrite_same {a s : State} {a0 : Nat} (h : Same m a s) (hm : m &&& 0x10008000001a = 0x10008000001a) :
    SameR m a (hckWrite a0 s) := SameR.then h hm (by
  have h := Same.refl 0x10008000001a s
  unfold hckWrite
  split
  · exact execStep_same h rfl
  · exact execStepPps_same h rfl
  · exact execCancelStep_same h rfl
  · exact execEpochRestart_same h rfl
  · exact execHckSnapshot_same h rfl
  · exact execHold_same h rfl
  · exact execRelease_same h rfl
  · exact SameR.next (State.hckReject_same h rfl))

theorem logWrite_same {a s : State} {a0 : Nat} (h : Same m a s) (hm : m &&& 0xa047a00000aa = 0xa047a00000aa) :
    SameR m a (logWrite a0 s) := SameR.then h hm (by
  have h := Same.refl 0xa047a00000aa s
  unfold logWrite
  split
  · exact execLogFlush_same h rfl
  · exact execSealNow_same h rfl
  · exact execReseal_same h rfl
  · exact SameR.next (State.wr_same h rfl))

theorem laneWrite_same {a s : State} {a0 : Nat} {a1 : Nat} {a2 : Nat} (h : Same m a s) (hm : m &&& 0x4001801fffff = 0x4001801fffff) :
    SameR m a (laneWrite a0 a1 a2 s) := SameR.then h hm (by
  have h := Same.refl 0x4001801fffff s
  unfold laneWrite
  split
  · exact SameR.next (Same.ite (State.cphGo_same h rfl) h)
  · extract_lets -merge -underBinder +onlyGivenNames x0
    have hx0 : Same 0x4001801fffff s x0 := Same.ite (after_same (execKeyLoad_same h rfl) h) h
    try clear_value x0
    exact SameR.ite (execKeyClear_same hx0 rfl) (SameR.next hx0)
  · exact SameR.ite (execCphResPop_same h rfl) (SameR.next h)
  · exact SameR.next (State.wr_same h (home_bit 6 rfl rfl)))

theorem kwlWrite_same {a s : State} {a0 : Nat} {a1 : Nat} {a2 : Nat} (h : Same m a s) (hm : m &&& 0x480008000008a = 0x480008000008a) :
    SameR m a (kwlWrite a0 a1 a2 s) := SameR.then h hm (by
  have h := Same.refl 0x480008000008a s
  unfold kwlWrite
  split
  · exact execDerive_same h rfl
  · exact execKwlImport_same h rfl
  · exact execInvalidate_same h rfl
  · exact execDestroy_same h rfl
  · exact execKwlCommit_same h rfl
  · exact execRestoreCustody_same h rfl
  · exact SameR.next (State.kwlReject_same h rfl))

theorem semWrite_same {a s : State} {a0 : Nat} {a1 : Nat} {a2 : Sys2Proof.Master} (h : Same m a s) (hm : m &&& 0x1000000000002 = 0x1000000000002) :
    SameR m a (semWrite a0 a1 a2 s) := SameR.then h hm (by
  have h := Same.refl 0x1000000000002 s
  unfold semWrite
  extract_lets -merge -underBinder +onlyGivenNames x0 x1
  have hx0 : Same 0x1000000000002 s x0 := Same.ite (State.wr_same h (home_bit 1 rfl rfl)) h
  have hx1 : Same 0x1000000000002 s x1 := Same.ite (after_same (execSemAcquire_same hx0 rfl) hx0) hx0
  try clear_value x0 x1
  exact SameR.ite (execSemRelease_same hx1 rfl) (SameR.next hx1))

theorem State.ringField_same {a s : State} {a1 : Nat} {a2 : Bool} {a3 : Fld} {a4 : Nat} (h : Same m a s) (hm : m &&& 0x801fffff = 0x801fffff) :
    Same m a (State.ringField s a1 a2 a3 a4) := h.then hm (by
  have h := Same.refl 0x801fffff s
  unfold State.ringField
  extract_lets -merge -underBinder +onlyGivenNames x0
  exact Same.ite (State.lockedWrite_same (State.setB_same h (any_head rfl)) rfl) (State.wr_same h (any_home rfl)))

theorem ringWrite_same {a s : State} {a0 : Nat} {a1 : Nat} {a2 : Nat} (h : Same m a s) (hm : m &&& 0x10000801fffff = 0x10000801fffff) :
    SameR m a (ringWrite a0 a1 a2 s) := SameR.then h hm (by
  have h := Same.refl 0x10000801fffff s
  unfold ringWrite
  extract_lets -merge -underBinder +onlyGivenNames x0
  split
  · extract_lets -merge -underBinder +onlyGivenNames x1
    have hx1 : Same 0x10000801fffff s x1 := State.wr_same (State.wr_same h (home_bit 1 rfl rfl)) (home_bit 1 rfl rfl)
    try clear_value x1
    exact execRingEnableWrite_same hx1 rfl
  · exact SameR.next (State.ringField_same h rfl)
  · exact SameR.next (State.ringField_same h rfl)
  · extract_lets -merge -underBinder +onlyGivenNames x2 x3
    exact SameR.next (State.ringField_same (State.ringField_same (State.ringField_same h rfl) rfl) rfl)
  · exact execTxTailWrite_same h rfl
  · exact SameR.next (State.ringField_same h rfl)
  · exact SameR.next (State.ringField_same h rfl)
  · exact execRxTailWrite_same h rfl
  · exact SameR.next (State.ringField_same h rfl)
  · exact SameR.next (State.ringField_same h rfl)
  · exact execCqRpWrite_same h rfl
  · exact SameR.next (State.wr_same (State.wr_same h (home_bit 1 rfl rfl)) (home_bit 1 rfl rfl))
  · exact SameR.next h)

theorem retWrite_same {a s : State} {a0 : Nat} (h : Same m a s) (hm : m &&& 0x40000801fffff = 0x40000801fffff) :
    SameR m a (retWrite a0 s) := SameR.then h hm (by
  have h := Same.refl 0x40000801fffff s
  unfold retWrite
  split
  · exact execRetCommit_same h rfl
  · exact execLoadOpen_same h rfl
  · exact execLoadSeal_same h rfl
  · exact execLoadAbort_same h rfl
  · exact SameR.next (State.retReject_same h rfl))

theorem pwkWrite_same {a s : State} {a0 : Nat} {a1 : Sys2Proof.Master} (h : Same m a s) (hm : m &&& 0x24ac7f01fffff = 0x24ac7f01fffff) :
    SameR m a (pwkWrite a0 a1 s) := SameR.then h hm (by
  have h := Same.refl 0x24ac7f01fffff s
  unfold pwkWrite
  split
  · exact execPwkSleep_same h rfl
  · exact execPwkWake_same h rfl
  · exact execSleepNorth_same h rfl
  · exact execSleepSouth_same h rfl
  · exact execWakeNorth_same h rfl
  · exact execWakeSouth_same h rfl
  · exact SameR.next (State.pwkReject_same h rfl))

theorem segWrite_same {a s : State} {a0 : Nat} {a1 : Nat} {a2 : Sys2Proof.Master} (h : Same m a s) (hm : m &&& 0x24ac7f01fffff = 0x24ac7f01fffff) :
    SameR m a (segWrite a0 a1 a2 s) := SameR.then h hm (by
  have h := Same.refl 0x24ac7f01fffff s
  unfold segWrite
  split
  · exact execSegSleep_same h rfl
  · exact execSegWake_same h rfl
  · exact SameR.next (State.pwkReject_same h rfl))

theorem supWrite_same {a s : State} {a0 : Nat} {a1 : Sys2Proof.Master} (h : Same m a s) (hm : m &&& 0x200008000000b = 0x200008000000b) :
    SameR m a (supWrite a0 a1 s) := SameR.then h hm (by
  have h := Same.refl 0x200008000000b s
  unfold supWrite
  split
  · exact execUnitReset_same (State.calledBy_same h rfl) rfl
  · exact execClusterReset_same (State.calledBy_same h rfl) rfl
  · exact execRegionReset_same (State.calledBy_same h rfl) rfl
  · exact execDieReset_same (State.calledBy_same h rfl) rfl
  · exact execPackageReset_same (State.calledBy_same h rfl) rfl
  · exact execRepairClear_same h rfl
  · exact SameR.next (State.supReject_same h rfl))

theorem scanWrite_same {a s : State} {a0 : Nat} {a1 : Sys2Proof.Master} (h : Same m a s) (hm : m &&& 0x2f2c7e01345db = 0x2f2c7e01345db) :
    SameR m a (scanWrite a0 a1 s) := SameR.then h hm (by
  have h := Same.refl 0x2f2c7e01345db s
  unfold scanWrite
  exact SameR.ite (execScanGo_same (State.useFresh_same h rfl) rfl) (execScanArm_same h rfl))

theorem mbWrite_same {a s : State} {a0 : Nat} {a1 : Nat} {a2 : Nat} {a3 : Nat} (h : Same m a s) (hm : m &&& 0x803fffff = 0x803fffff) :
    SameR m a (mbWrite a0 a1 a2 a3 s) := SameR.then h hm (by
  have h := Same.refl 0x803fffff s
  unfold mbWrite
  exact SameR.ite (SameR.next (State.wr_same h (home_bit 16 rfl rfl))) (SameR.next (State.writeWord_same h rfl)))

/-- Every meaning that a command register has changes only the parts of a mask. -/
def OptSame (m : Nat) (o : Option (State → Result)) : Prop := ∀ f, o = some f → ∀ a s : State, Same m a s → SameR m a (f s)

theorem OptSame.none : OptSame m none := nofun

theorem OptSame.some {f : State → Result} (h : ∀ a s : State, Same m a s → SameR m a (f s)) : OptSame m (some f) :=
  fun _ e => Option.some.inj e ▸ h

theorem OptSame.ite {x y : Option (State → Result)} {c : Prop} {_ : Decidable c} (hx : OptSame m x) (hy : OptSame m y) :
    OptSame m (if c then x else y) := by
  split
  · exact hx
  · exact hy

theorem commandWrite_same {n : Master} {pg ofs w : Nat} (hm : m &&& 0x7ffd7f03fffff = 0x7ffd7f03fffff) : OptSame m (commandWrite n pg ofs w) := by
  unfold commandWrite
  extract_lets -merge -underBinder +onlyGivenNames q op top one
  have ho : ∀ f : State → Result, (∀ a s : State, Same m a s → SameR m a (f s)) → OptSame m (one f) := fun f h =>
    .some fun a s k => SameR.ite (h a s k) (.next k)
  clear_value q op top
  refine .ite (ho _ fun _ _ h => execCntClrAll_same h (sub_of hm rfl)) ?_
  split
  · exact .none
  · split
    · exact .some fun _ _ h => tidWrite_same h (sub_of hm rfl)
    · exact .some fun _ _ h => execTidLoadDataWrite_same h (sub_of hm rfl)
    · exact .some fun _ _ h => pmWrite_same h (sub_of hm rfl)
    · exact .some fun _ _ h => pmWrite_same h (sub_of hm rfl)
    · exact .some fun _ _ h => bthWrite_same h (sub_of hm rfl)
    · exact .some fun _ _ h => .next (State.lkpGo_same h (sub_of hm rfl))
    · exact ho _ fun _ _ h => execLkpResPop_same h (sub_of hm rfl)
    · exact .some fun _ _ h => qycWrite_same h (sub_of hm rfl)
    · exact .ite (.some fun _ _ h => mbWrite_same h (sub_of hm rfl)) .none
    · exact .some fun _ _ h => execMbReq_same h (sub_of hm rfl)
    · exact .some fun _ _ h => execMbCancel_same h (sub_of hm rfl)
    · exact .some fun _ _ h => .next (State.mbDoneCond_same (State.writeWord_same h (sub_of hm rfl)) (sub_of hm rfl))
    · exact .some fun _ _ h => qyeWrite_same h (sub_of hm rfl)
    · exact .some fun _ _ h => lfeWrite_same h (sub_of hm rfl)
    · exact .some fun _ _ h => hckWrite_same h (sub_of hm rfl)
    · exact .some fun _ _ h => execHckRateWrite_same h (sub_of hm rfl)
    · exact .ite (.some fun _ _ h => SameR.ite (execPcsFaultClear_same h (sub_of hm rfl)) (.next h)) .none
    · exact .some fun _ _ h => execHckCapPop_same h (sub_of hm rfl)
    · exact .some fun _ _ h => execHckTsqPop_same h (sub_of hm rfl)
    · exact .some fun _ _ h => logWrite_same h (sub_of hm rfl)
    · exact .some fun _ _ h => execLogRingRpWrite_same h (sub_of hm rfl)
    · exact .none
    · exact .ite (.some fun _ _ h => laneWrite_same h (sub_of hm rfl)) .none
    · exact .some fun _ _ h => kwlWrite_same h (sub_of hm rfl)
    · exact .ite (.some fun _ _ h => .next (State.wr_same h (home_bit 7 rfl (bit_of hm rfl)))) .none
    · exact .ite (.some fun _ _ h => semWrite_same h (sub_of hm rfl)) .none
    · exact .ite (.some fun _ _ h => ringWrite_same h (sub_of hm rfl)) .none
    · exact .ite (.some fun _ _ h => ringWrite_same h (sub_of hm rfl)) .none
    · exact .some fun _ _ h => .next (State.msixPending_same (State.writeWord_same h (sub_of hm rfl)) (sub_of hm rfl))
    · exact .some fun _ _ h => retWrite_same h (sub_of hm rfl)
    · exact .some fun _ _ h => execRetLoadDataWrite_same h (sub_of hm rfl)
    · exact .some fun _ _ h => pwkWrite_same h (sub_of hm rfl)
    · exact .some fun _ _ h => segWrite_same h (sub_of hm rfl)
    · exact ho _ fun _ _ h => execPwkWakePop_same h (sub_of hm rfl)
    · exact .some fun _ _ h => supWrite_same h (sub_of hm rfl)
    · exact ho _ fun _ _ h => execSupRecPop_same h (sub_of hm rfl)
    · exact .some fun _ _ h => execSupRecSel_same h (sub_of hm rfl)
    · exact .some fun _ _ h => execSupRecAck_same h (sub_of hm rfl)
    · exact .some fun _ _ h => execSupStReq_same h (sub_of hm rfl)
    · exact .some fun _ _ h => scanWrite_same h (sub_of hm rfl)
    · exact .none

theorem State.busWrite_same {a s : State} {n : Master} {x w : Nat} (h : Same m a s) (hm : m &&& 0x7ffd7f0ffffff = 0x7ffd7f0ffffff) :
    Same m a (s.busWrite n x w) := by
  unfold State.busWrite
  extract_lets pg ofs
  refine Same.ite h (Same.ite (after_same (headerWrite_same h (sub_of hm rfl)) h) ?_)
  split
  · next f e => exact after_same (commandWrite_same (sub_of hm rfl) f e _ _ h) h
  · exact State.writeWord_same h (sub_of hm rfl)

theorem State.viewed_same {a s : State} {a1 : Nat} (h : Same m a s) (hm : m &&& 0x1800078fb = 0x1800078fb) :
    Same m a (State.viewed s a1) := h.then hm (by
  have h := Same.refl 0x1800078fb s
  unfold State.viewed
  split
  · exact h
  · split
    · exact State.viewHistory_same (State.viewTests_same h rfl) rfl
    · exact State.viewHbr_same h rfl
    · exact State.viewHck_same h rfl
    · exact State.viewLog_same h rfl
    · exact State.viewCph_same h rfl
    · exact State.viewKwl_same h rfl
    · exact State.viewSgw_same h rfl
    · exact State.viewLkp_same h rfl
    · exact State.viewCst_same h rfl
    · exact State.showStaged_same h rfl
    · exact h)

theorem State.busRead_same2 {a s : State} {a1 : Nat} (h : Same m a s) (hm : m &&& 0x20000010000 = 0x20000010000) :
    Same m a (State.busRead s a1).2 := h.then hm (by
  have h := Same.refl 0x20000010000 s
  unfold State.busRead
  extract_lets -merge -underBinder +onlyGivenNames x0 x1
  refine Same.ite2 ?_ ?_
  · extract_lets -merge -underBinder +onlyGivenNames x2 x3
    split
    · extract_lets -merge -underBinder +onlyGivenNames x4
      have hx4 : Same 0x20000010000 s x4 := after_same (execMbLockRead_same h rfl) h
      try clear_value x4
      exact hx4
    · exact after_same (execMbUnlockRead_same h rfl) h
    · exact h
  · exact Same.ite2 h (Same.ite2 h h))

end Sys2Proof.Machine
end

