-- ==== Sys2Proof/Laws/KeepBus.lean ====
section
/-! SUPPORT. What the functions of Machine/Bus.lean can change, one lemma for each, with the canonical forms kept. -/

namespace Sys2Proof.Machine

variable {m : Nat}

theorem State.narrowWrite_same {a s : State} {a1 : Sys2Proof.Master} (h : Same m a s) (hm : m &&& 0x2 = 0x2) :
    Same m a (State.narrowWrite s a1) := h.then hm (by
  have h := Same.refl 0x2 s
  unfold State.narrowWrite
  split
  · exact State.bump_same h rfl
  · exact h)

theorem execRegisterWrite_same {a s : State} {a0 : Sys2Proof.Master} {a1 : Nat} {a2 : Sys2Proof.Word} {a3 : Bool} (h : Same m a s) (hm : m &&& 0x7ffd7f0ffffff = 0x7ffd7f0ffffff) :
    SameR m a (execRegisterWrite a0 a1 a2 a3 s) := SameR.then h hm (by
  have h := Same.refl 0x7ffd7f0ffffff s
  unfold execRegisterWrite
  exact SameR.ite (SameR.next (Same.ite (State.narrowWrite_same h rfl) (State.busWrite_same h rfl))) (SameR.next h))

theorem State.bar0Word_same {a s : State} {a1 : Nat} {a2 : List (Option Nat)} (h : Same m a s) (hm : m &&& 0x7ffd7f0ffffff = 0x7ffd7f0ffffff) :
    Same m a (State.bar0Word s a1 a2) := h.then hm (by
  have h := Same.refl 0x7ffd7f0ffffff s
  unfold State.bar0Word
  split
  · exact State.busWrite_same h rfl
  · exact Same.ite (State.narrowWrite_same h rfl) h)

theorem State.berthWord_same {a s : State} {a1 : Nat} {a2 : List (Option Nat)} (h : Same m a s) (hm : m &&& 0x40801fffff = 0x40801fffff) :
    Same m a (State.berthWord s a1 a2) := h.then hm (by
  have h := Same.refl 0x40801fffff s
  unfold State.berthWord
  split
  · exact after_same (execBerthWindowWrite_same h rfl) h
  · exact Same.ite (after_same (execBerthWindowWrite_same h rfl) h) h)

theorem State.shadowByte_same {a s : State} {a1 : Nat} {a2 : Nat} (h : Same m a s) (hm : m &&& 0x200000000 = 0x200000000) :
    Same m a (State.shadowByte s a1 a2) := h.then hm (by
  have h := Same.refl 0x200000000 s
  unfold State.shadowByte
  exact Same.ite (State.putCells_same h rfl) h)

theorem State.bar2Write_same {a s : State} {a1 : Nat} {a2 : List (Option Nat)} (h : Same m a s) (hm : m &&& 0x56801fffff = 0x56801fffff) :
    Same m a (State.bar2Write s a1 a2) := h.then hm (by
  have h := Same.refl 0x56801fffff s
  unfold State.bar2Write
  exact Same.ite (Same.foldl h (fun _ _ k0 => after_same (execTideStagingWrite_same k0 rfl) k0)) (Same.ite (Same.foldl h (fun _ _ k1 => Same.ite (State.berthWord_same k1 rfl) k1)) (Same.ite (Same.foldl h (fun _ _ k2 => Same.foldl k2 (fun _ _ k3 => State.shadowByte_same k3 rfl))) h)))

theorem State.configWrite_same {a s : State} {a1 : Nat} {a2 : List (Option Nat)} (h : Same m a s) (hm : m &&& 0x14097e000444a = 0x14097e000444a) :
    Same m a (State.configWrite s a1 a2) := h.then hm (by
  have h := Same.refl 0x14097e000444a s
  unfold State.configWrite
  refine Same.ite ?_ ?_
  · exact h
  · split
    · exact Same.ite (Same.ite h (State.hostBack_same (State.wr_same h rfl) rfl)) (Same.ite (after_same (execBusMasterDisable_same h rfl) h) h)
    · exact h)

theorem execHostWrite_same {a s : State} {a0 : Sys2Proof.HostSpace} {a1 : Nat} {a2 : List (Option Nat)} {a3 : Bool} (h : Same m a s) (hm : m &&& 0x7ffd7f0ffffff = 0x7ffd7f0ffffff) :
    SameR m a (execHostWrite a0 a1 a2 a3 s) := SameR.then h hm (by
  have h := Same.refl 0x7ffd7f0ffffff s
  unfold execHostWrite
  exact onLogicIf_same h (fun _ k0 => (by
    refine Same.ite ?_ ?_
    · exact State.bump_same k0 rfl
    · split
      · exact Same.foldl k0 (fun _ _ k1 => State.bar0Word_same k1 rfl)
      · exact State.bar2Write_same k0 rfl
      · exact State.configWrite_same k0 rfl)))

theorem State.readMany_same2 {a s : State} {n x : Nat} (h : Same m a s) (hm : m &&& 0x20000010000 = 0x20000010000) :
    Same m a (State.readMany n x s).2 := by
  induction n generalizing s x with
  | zero => exact h
  | succ n ih => exact ih (Same.ite2 (State.busRead_same2 h (sub_of hm rfl)) h)

theorem execHostRead_same {a s : State} {a0 : Sys2Proof.HostSpace} {a1 : Nat} {a2 : Nat} {a3 : Nat} (h : Same m a s) (hm : m &&& 0x20180010000 = 0x20180010000) :
    SameR m a (execHostRead a0 a1 a2 a3 s) := SameR.then h hm (by
  have h := Same.refl 0x20180010000 s
  unfold execHostRead
  exact onLogicIf_same h (fun _ k0 => (by
    split
    · refine Same.ite ?_ ?_
      · exact k0
      · extract_lets -merge -underBinder +onlyGivenNames x1
        have hx1 : Same 0x20180010000 s x1.2 := State.readMany_same2 k0 rfl
        try clear_value x1
        exact State.out_same hx1 rfl
    · exact State.out_same k0 rfl
    · extract_lets -merge -underBinder +onlyGivenNames x2
      have hx2 : Same 0x20180010000 s x2 := State.out_same k0 rfl
      try clear_value x2
      exact (Same.put_freeCtr hx2 rfl))))

theorem State.serve_same2 {a s : State} {r : Request} {n i : Nat} (h : Same m a s) (hm : m &&& 0x7ffd7f0ffffff = 0x7ffd7f0ffffff) :
    Same m a (State.serve r n i s).2 := by
  induction n generalizing s i with
  | zero => exact h
  | succ n ih =>
    unfold State.serve
    exact Same.ite2 (ih (Same.ite2 (State.busRead_same2 h (sub_of hm rfl)) h)) (ih (State.busWrite_same h (sub_of hm rfl)))

theorem State.countStatus_same {a s : State} {a1 : Nat} (h : Same m a s) (hm : m &&& 0x8000000e = 0x8000000e) :
    Same m a (State.countStatus s a1) := h.then hm (by
  have h := Same.refl 0x8000000e s
  unfold State.countStatus
  split
  · exact State.bump_same h rfl
  · exact State.irq_same (State.bump_same h rfl) rfl rfl rfl rfl
  · exact State.bump_same h rfl
  · exact State.bump_same h rfl
  · exact State.bump_same h rfl
  · exact State.irq_same (State.bump_same h rfl) rfl rfl rfl rfl)

theorem State.showRequest_same {a s : State} {a1 : Request} {a2 : Nat} (h : Same m a s) (hm : m &&& 0x4 = 0x4) :
    Same m a (State.showRequest s a1 a2) := h.then hm (by
  have h := Same.refl 0x4 s
  unfold State.showRequest
  exact State.wr_same (State.wr_same (State.wr_same h rfl) rfl) rfl)

theorem State.frameAbort_same {a s : State} (h : Same m a s) (hm : m &&& 0x8000000e = 0x8000000e) :
    Same m a (State.frameAbort s) := h.then hm (by
  have h := Same.refl 0x8000000e s
  unfold State.frameAbort
  exact State.irq_same (State.bump_same h rfl) rfl rfl rfl rfl)

theorem State.frame_same {a s : State} {a1 : Request} {a2 : Option Nat} {a3 : Bool} (h : Same m a s) (hm : m &&& 0x7ffd7f0ffffff = 0x7ffd7f0ffffff) :
    Same m a (State.frame s a1 a2 a3) := h.then hm (by
  have h := Same.refl 0x7ffd7f0ffffff s
  unfold State.frame
  extract_lets -merge -underBinder +onlyGivenNames x0 x1 x2 x3 x4 x5
  have hx0 : Same 0x7ffd7f0ffffff s x0.1 := State.passSite_same1 h rfl
  have hx1 : Same 0x7ffd7f0ffffff s x1 := hx0
  have hx4 : Same 0x7ffd7f0ffffff s x4 := Same.ite (State.errU_same (State.setHbr_same hx1 rfl) rfl rfl rfl rfl rfl rfl) hx1
  try clear_value x0 x1 x4
  refine Same.ite ?_ ?_
  · extract_lets -merge -underBinder +onlyGivenNames x6
    have hx6 : Same 0x7ffd7f0ffffff s x6 := State.showRequest_same (State.countStatus_same hx4 rfl) rfl
    try clear_value x6
    exact Same.ite hx6 (State.out_same hx6 rfl)
  · extract_lets -merge -underBinder +onlyGivenNames x7 x8 x9 x10 x11
    have hx8 : Same 0x7ffd7f0ffffff s x8.2 := State.serve_same2 hx4 rfl
    have hx10 : Same 0x7ffd7f0ffffff s x10 := State.showRequest_same (State.countStatus_same hx8 rfl) rfl
    try clear_value x8 x10
    exact Same.ite hx10 (State.out_same hx10 rfl))

theorem fearlekRow_same {a s : State} {a0 : Nat} {a1 : List Nat} (h : Same m a s) (hm : m &&& 0x7ffd7f0ffffff = 0x7ffd7f0ffffff) :
    SameR m a (fearlekRow a0 a1 s) := SameR.then h hm (by
  have h := Same.refl 0x7ffd7f0ffffff s
  unfold fearlekRow
  refine SameR.ite ?_ ?_
  · exact SameR.next h
  · split
    · exact SameR.next (State.frameAbort_same h rfl)
    · exact SameR.ite (SameR.next (State.frame_same h rfl)) (SameR.next h))

theorem execFearlekRead_same {a s : State} {a0 : List Nat} (h : Same m a s) (hm : m &&& 0x7ffd7f0ffffff = 0x7ffd7f0ffffff) :
    SameR m a (execFearlekRead a0 s) := SameR.then h hm (by
  have h := Same.refl 0x7ffd7f0ffffff s
  unfold execFearlekRead
  exact fearlekRow_same h rfl)

theorem execFearlekWrite_same {a s : State} {a0 : List Nat} (h : Same m a s) (hm : m &&& 0x7ffd7f0ffffff = 0x7ffd7f0ffffff) :
    SameR m a (execFearlekWrite a0 s) := SameR.then h hm (by
  have h := Same.refl 0x7ffd7f0ffffff s
  unfold execFearlekWrite
  exact fearlekRow_same h rfl)

theorem execReadFixed_same {a s : State} {a0 : List Nat} (h : Same m a s) (hm : m &&& 0x7ffd7f0ffffff = 0x7ffd7f0ffffff) :
    SameR m a (execReadFixed a0 s) := SameR.then h hm (by
  have h := Same.refl 0x7ffd7f0ffffff s
  unfold execReadFixed
  exact fearlekRow_same h rfl)

theorem execWriteFixed_same {a s : State} {a0 : List Nat} (h : Same m a s) (hm : m &&& 0x7ffd7f0ffffff = 0x7ffd7f0ffffff) :
    SameR m a (execWriteFixed a0 s) := SameR.then h hm (by
  have h := Same.refl 0x7ffd7f0ffffff s
  unfold execWriteFixed
  exact fearlekRow_same h rfl)

theorem execFearlekAbort_same {a s : State} {a0 : List Nat} (h : Same m a s) (hm : m &&& 0x7ffd7f0ffffff = 0x7ffd7f0ffffff) :
    SameR m a (execFearlekAbort a0 s) := SameR.then h hm (by
  have h := Same.refl 0x7ffd7f0ffffff s
  unfold execFearlekAbort
  refine SameR.ite ?_ ?_
  · exact SameR.next h
  · split
    · exact SameR.next (State.frameAbort_same h rfl)
    · exact SameR.next (State.frameAbort_same (Same.ite h (State.frame_same h rfl)) rfl))

theorem execFearlekWordTimeout_same {a s : State} {a0 : List Nat} {a1 : Nat} (h : Same m a s) (hm : m &&& 0x7ffd7f0ffffff = 0x7ffd7f0ffffff) :
    SameR m a (execFearlekWordTimeout a0 a1 s) := SameR.then h hm (by
  have h := Same.refl 0x7ffd7f0ffffff s
  unfold execFearlekWordTimeout
  refine SameR.ite ?_ ?_
  · exact SameR.next h
  · split
    · exact SameR.next (State.frameAbort_same h rfl)
    · exact SameR.next (State.frame_same h rfl))

end Sys2Proof.Machine
end

