-- ==== Sys2Proof/Laws/KeepCommit.lean ====
section
/-! SUPPORT. What the functions of Machine/Commit.lean can change, one lemma for each, with the canonical forms kept. -/

namespace Sys2Proof.Machine

variable {m : Nat}

theorem State.withStaged_same {a s : State} {a1 : Nat} (h : Same m a s) (hm : m &&& 0x1fffff = 0x1fffff) :
    Same m a (State.withStaged s a1) := h.then hm (by
  have h := Same.refl 0x1fffff s
  unfold State.withStaged
  exact Same.foldl h (fun _ _ k0 => State.wr_same k0 (any_home rfl)))

theorem State.tidBefore_same {a s : State} {a1 : State} (h : Same m a s) (hm : m &&& 0x5096e811441a = 0x5096e811441a) :
    Same m a (State.tidBefore s a1) := h.then hm (by
  have h := Same.refl 0x5096e811441a s
  unfold State.tidBefore
  refine Same.ite ?_ ?_
  · exact h
  · refine Same.ite ?_ ?_
    · exact State.leaveRunning_same h rfl
    · refine Same.ite ?_ ?_
      · exact h
      · extract_lets -merge -underBinder +onlyGivenNames x0
        have hx0 : Same 0x5096e811441a s x0 := State.leaveRunning_same h rfl
        try clear_value x0
        exact (Same.put_bnd hx0 rfl))

theorem State.tidAfter_same {a s : State} (h : Same m a s) (hm : m &&& 0x8800040a = 0x8800040a) :
    Same m a (State.tidAfter s) := h.then hm (by
  have h := Same.refl 0x8800040a s
  unfold State.tidAfter
  extract_lets -merge -underBinder +onlyGivenNames x0 x1
  refine Same.ite ?_ ?_
  · extract_lets -merge -underBinder +onlyGivenNames x2
    have hx2 : Same 0x8800040a s x2 := State.setExec_same h rfl
    try clear_value x2
    exact (Same.put_bnd hx2 rfl)
  · exact Same.ite (State.setExec_same h rfl) h)

theorem State.runActivated_same {a s : State} (h : Same m a s) (hm : m &&& 0x108800040a = 0x108800040a) :
    Same m a (State.runActivated s) := h.then hm (by
  have h := Same.refl 0x108800040a s
  unfold State.runActivated
  exact Same.ite (State.tidAfter_same (Same.put_tid h rfl (fun w v => ⟨w, v⟩)) rfl) h)

theorem State.shadowAfter_same {a s : State} {a1 : Nat} (h : Same m a s) (hm : m &&& 0x300001000 = 0x300001000) :
    Same m a (State.shadowAfter s a1) := h.then hm (by
  have h := Same.refl 0x300001000 s
  unfold State.shadowAfter
  extract_lets -merge -underBinder +onlyGivenNames x0 x1 x2
  have hx2 : Same 0x300001000 s x2 := State.setCst_same h rfl (fun w => w)
  try clear_value x2
  exact State.viewLkp_same (Same.ite (State.loseCells_same hx2 rfl) hx2) rfl)

theorem State.applySlot_same {a s : State} {a1 : Nat} {a2 : List Sys2Proof.Byte} (h : Same m a s) (hm : m &&& 0x5400000000 = 0x5400000000) :
    Same m a (State.applySlot s a1 a2) := h.then hm (by
  have h := Same.refl 0x5400000000 s
  unfold State.applySlot
  extract_lets -merge -underBinder +onlyGivenNames x0 x1
  have hx1 : Same 0x5400000000 s x1 := State.mapMem_same h rfl (fun _ v => ⟨v.1, v.2.1, Memory.wf_puts _ _ v.2.2⟩)
  try clear_value x1
  exact State.mapRt_same hx1 rfl)

theorem State.applySlots_same {a s : State} (h : Same m a s) (hm : m &&& 0x5400002000 = 0x5400002000) :
    Same m a (State.applySlots s) := h.then hm (by
  have h := Same.refl 0x5400002000 s
  unfold State.applySlots
  extract_lets -merge -underBinder +onlyGivenNames x0
  have hx0 : Same 0x5400002000 s x0 := Same.foldl h (fun _ _ k1 => State.applySlot_same k1 rfl)
  try clear_value x0
  exact State.showStaged_same (State.setBth_same hx0 rfl (fun w => w)) rfl)

theorem State.cbsAfter_same {a s : State} (h : Same m a s) (hm : m &&& 0x4000000000 = 0x4000000000) :
    Same m a (State.cbsAfter s) := h.then hm (by
  have h := Same.refl 0x4000000000 s
  unfold State.cbsAfter
  exact State.setBth_same h rfl (fun w => w))

theorem State.modeApplied_same {a s : State} {a1 : Nat} (h : Same m a s) (hm : m &&& 0x2008011000a = 0x2008011000a) :
    Same m a (State.modeApplied s a1) := h.then hm (by
  have h := Same.refl 0x2008011000a s
  unfold State.modeApplied
  extract_lets -merge -underBinder +onlyGivenNames x0 x1
  have hx1 : Same 0x2008011000a s x1 := State.setQuay_same h rfl
  try clear_value x1
  exact Same.ite (State.irq_same (State.wr_same hx1 (home_bit 16 rfl rfl)) (headHome_pgQ rfl) rfl rfl rfl) (State.irq_same (State.wr_same hx1 (home_bit 16 rfl rfl)) (headHome_pgQ rfl) rfl rfl rfl))

theorem State.busyAtBoundary_same1 {a s : State} {a1 : Nat} (h : Same m a s) (hm : m &&& 0x100000000 = 0x100000000) :
    Same m a (State.busyAtBoundary s a1).1 := h.then hm (by
  have h := Same.refl 0x100000000 s
  unfold State.busyAtBoundary
  exact Same.ite1 h (Same.ite1 (State.useFresh_same h rfl) h))

theorem State.modeChange_same {a s : State} {a1 : Nat} {a2 : Nat} (h : Same m a s) (hm : m &&& 0x2018011000a = 0x2018011000a) :
    Same m a (State.modeChange s a1 a2) := h.then hm (by
  have h := Same.refl 0x2018011000a s
  unfold State.modeChange
  extract_lets -merge -underBinder +onlyGivenNames x0 x1
  have hx0 : Same 0x2018011000a s x0.1 := State.busyAtBoundary_same1 h rfl
  have hx1 : Same 0x2018011000a s x1 := hx0
  try clear_value x0 x1
  refine Same.ite ?_ ?_
  · extract_lets -merge -underBinder +onlyGivenNames x2 x3
    have hx3 : Same 0x2018011000a s x3 := State.setQuay_same hx1 rfl
    try clear_value x3
    exact Same.ite (State.wr_same hx3 (home_bit 16 rfl rfl)) (State.wr_same hx3 (home_bit 16 rfl rfl))
  · exact State.modeApplied_same hx1 rfl)

theorem State.quayAfter_same {a s : State} {a1 : Nat} {a2 : Bool} {a3 : Nat} (h : Same m a s) (hm : m &&& 0x42c7e01fffff = 0x42c7e01fffff) :
    Same m a (State.quayAfter s a1 a2 a3) := h.then hm (by
  have h := Same.refl 0x42c7e01fffff s
  unfold State.quayAfter
  extract_lets -merge -underBinder +onlyGivenNames x0 x1 x2 x3
  have hx1 : Same 0x42c7e01fffff s x1 := Same.ite (Same.ite (State.canDisable_same h rfl) (State.ethDisable_same h rfl)) h
  have hx2 : Same 0x42c7e01fffff s x2 := Same.ite (State.wr_same hx1 (home_bit 16 rfl rfl)) hx1
  have hx3 : Same 0x42c7e01fffff s x3 := Same.ite (State.modeChange_same hx2 rfl) (Same.ite (State.modeApplied_same hx2 rfl) hx2)
  try clear_value x1 x2 x3
  exact Same.ite (State.loneNode_same (State.canConds_same hx3 rfl) rfl) (State.linkUpdate_same hx3 rfl))

theorem State.frontAfter_same {a s : State} {a1 : Nat} {a2 : Bool} {a3 : Bool} (h : Same m a s) (hm : m &&& 0x46c6e013440a = 0x46c6e013440a) :
    Same m a (State.frontAfter s a1 a2 a3) := h.then hm (by
  have h := Same.refl 0x46c6e013440a s
  unfold State.frontAfter
  extract_lets -merge -underBinder +onlyGivenNames x0 x1 x2 x3
  have hx1 : Same 0x46c6e013440a s x1 := Same.ite (State.lfeDisable_same h rfl) (Same.ite (State.lfeEnable_same h rfl) h)
  have hx3 : Same 0x46c6e013440a s x3 := Same.ite (State.setFront_same hx1 rfl) hx1
  try clear_value x1 x3
  exact State.lineUpdate_same hx3 rfl)

theorem State.hckAfter_same {a s : State} (h : Same m a s) (hm : m &&& 0x10008000001a = 0x10008000001a) :
    Same m a (State.hckAfter s) := h.then hm (by
  have h := Same.refl 0x10008000001a s
  unfold State.hckAfter
  exact State.ppsUpdate_same (Same.ite (State.servoTo_same h rfl) h) rfl)

theorem State.domsAfter_same {a s : State} (h : Same m a s) (hm : m &&& 0x10008000001a = 0x10008000001a) :
    Same m a (State.domsAfter s) := h.then hm (by
  have h := Same.refl 0x10008000001a s
  unfold State.domsAfter
  extract_lets -merge -underBinder +onlyGivenNames x0 x2
  have hx0 : Same 0x10008000001a s x0 := Same.foldl h (fun _ _ k1 => State.asUpdate_same k1 rfl)
  have hx2 : Same 0x10008000001a s x2 := Same.foldl hx0 (fun _ _ k3 => Same.ite (State.setDom_same (State.wr_same (State.wr_same (State.wr_same k3 (home_bit 4 rfl rfl)) (home_bit 4 rfl rfl)) (home_bit 4 rfl rfl)) rfl) k3)
  try clear_value x0 x2
  exact State.tsqCond_same hx2 rfl)

theorem State.logAfter_same {a s : State} {a1 : Bool} (h : Same m a s) (hm : m &&& 0x20008000002a = 0x20008000002a) :
    Same m a (State.logAfter s a1) := h.then hm (by
  have h := Same.refl 0x20008000002a s
  unfold State.logAfter
  extract_lets -merge -underBinder +onlyGivenNames x0
  exact State.viewLog_same (Same.ite h (State.setSeal_same h rfl)) rfl)

theorem State.afterCommit_same {a s : State} {a1 : State} {a2 : Nat} (h : Same m a s) (hm : m &&& 0x176d7e81fffff = 0x176d7e81fffff) :
    Same m a (State.afterCommit s a1 a2) := h.then hm (by
  have h := Same.refl 0x176d7e81fffff s
  unfold State.afterCommit
  extract_lets -merge -underBinder +onlyGivenNames x0 x1
  split
  · exact h
  · split
    · exact State.tidAfter_same h rfl
    · exact State.shadowAfter_same h rfl
    · exact State.applySlots_same h rfl
    · exact State.cbsAfter_same h rfl
    · exact State.viewLkp_same h rfl
    · exact State.quayAfter_same h rfl
    · exact State.quayAfter_same h rfl
    · exact Same.ite (State.plcaAfter_same h rfl) h
    · exact State.frontAfter_same h rfl
    · exact State.hckAfter_same h rfl
    · exact State.domsAfter_same h rfl
    · exact State.tsqCond_same (State.viewHck_same h rfl) rfl
    · exact State.logAfter_same h rfl
    · exact State.viewCph_same h rfl
    · exact State.viewHbr_same (Same.ite (State.hostBack_same h rfl) h) rfl
    · exact h)

theorem State.beforeCommit_same {a s : State} {a1 : State} {a2 : Nat} (h : Same m a s) (hm : m &&& 0x50d6e811441a = 0x50d6e811441a) :
    Same m a (State.beforeCommit s a1 a2) := h.then hm (by
  have h := Same.refl 0x50d6e811441a s
  unfold State.beforeCommit
  exact Same.ite (State.tidBefore_same h rfl) (Same.ite (Same.foldl h (fun _ _ k0 => State.advanceCredit_same k0 rfl)) h))

theorem State.commitEnd_same {a s : State} {a1 : Nat} (h : Same m a s) (hm : m &&& 0x815fffff = 0x815fffff) :
    Same m a (State.commitEnd s a1) := h.then hm (by
  have h := Same.refl 0x815fffff s
  unfold State.commitEnd
  extract_lets -merge -underBinder +onlyGivenNames x0 x1
  have hx0 : Same 0x815fffff s x0 := (Same.put_commits h rfl)
  have hx1 : Same 0x815fffff s x1 := (Same.put_spoiled hx0 rfl)
  try clear_value x0 x1
  exact State.irq_same (State.setB_same hx1 (any_head rfl)) (any_head rfl) rfl rfl rfl)

theorem State.commitApply_same {a s : State} {a1 : State} {a2 : Nat} (h : Same m a s) (hm : m &&& 0x176d7e97fffff = 0x176d7e97fffff) :
    Same m a (State.commitApply s a1 a2) := h.then hm (by
  have h := Same.refl 0x176d7e97fffff s
  unfold State.commitApply
  extract_lets -merge -underBinder +onlyGivenNames x0 x1 x2 x3
  have hx0 : Same 0x176d7e97fffff s x0 := h
  have hx1 : Same 0x176d7e97fffff s x1 := State.reloadStaging_same (State.withStaged_same (State.beforeCommit_same h rfl) rfl) rfl
  have hx2 : Same 0x176d7e97fffff s x2 := Same.ite (State.wr_same hx1 (any_head rfl)) hx1
  have hx3 : Same 0x176d7e97fffff s x3 := State.wr_same (State.afterCommit_same hx2 rfl) (any_head rfl)
  try clear_value x0 x1 x2 x3
  exact State.commitEnd_same hx3 rfl)

theorem State.commitRefuse_same {a s : State} {a1 : Nat} (h : Same m a s) (hm : m &&& 0x815fffff = 0x815fffff) :
    Same m a (State.commitRefuse s a1) := h.then hm (by
  have h := Same.refl 0x815fffff s
  unfold State.commitRefuse
  exact State.commitEnd_same (State.wr_same h (any_head rfl)) rfl)

theorem State.commitPage_same {a s : State} {a1 : Nat} (h : Same m a s) (hm : m &&& 0x176d7e97fffff = 0x176d7e97fffff) :
    Same m a (State.commitPage s a1) := h.then hm (by
  have h := Same.refl 0x176d7e97fffff s
  unfold State.commitPage
  extract_lets -merge -underBinder +onlyGivenNames x0
  have hx0 : Same 0x176d7e97fffff s x0 := State.withStaged_same h rfl
  try clear_value x0
  exact Same.ite (State.commitRefuse_same h rfl) (State.commitApply_same h rfl))

theorem State.lateDiscards_same {a s : State} {a1 : List Nat} (h : Same m a s) (hm : m &&& 0x4000bfffff = 0x4000bfffff) :
    Same m a (State.lateDiscards s a1) := h.then hm (by
  have h := Same.refl 0x4000bfffff s
  unfold State.lateDiscards
  extract_lets -merge -underBinder +onlyGivenNames x0 x1
  have hx1 : Same 0x4000bfffff s x1 := Same.foldl h (fun _ _ k2 => State.discard_same k2 rfl)
  try clear_value x1
  exact (Same.put_discards hx1 rfl))

theorem State.resumeQuays_same {a s : State} (h : Same m a s) (hm : m &&& 0x42c6e01fffff = 0x42c6e01fffff) :
    Same m a (State.resumeQuays s) := h.then hm (by
  have h := Same.refl 0x42c6e01fffff s
  unfold State.resumeQuays
  exact Same.foldl h (fun _ _ k0 => (by
    refine Same.ite ?_ ?_
    · extract_lets -merge -underBinder +onlyGivenNames x1 x2
      have hx2 : Same 0x42c6e01fffff s x2 := State.setQuay_same k0 rfl
      try clear_value x2
      exact Same.ite (State.linkUpdate_same hx2 rfl) hx2
    · exact k0)))

theorem State.reloadStores_same {a s : State} (h : Same m a s) (hm : m &&& 0x60000000000 = 0x60000000000) :
    Same m a (State.reloadStores s) := h.then hm (by
  have h := Same.refl 0x60000000000 s
  unfold State.reloadStores
  extract_lets -merge -underBinder +onlyGivenNames x0
  have hx0 : Same 0x60000000000 s x0 := Same.ite (Same.foldl h (fun _ _ k1 => Same.ite (State.setQuay_same k1 rfl) k1)) h
  try clear_value x0
  exact Same.foldl hx0 (fun _ _ k2 => Same.ite (State.setFront_same k2 rfl) k2))

theorem State.trigNoSwap_same {a s : State} (h : Same m a s) (hm : m &&& 0x101000000000 = 0x101000000000) :
    Same m a (State.trigNoSwap s) := h.then hm (by
  have h := Same.refl 0x101000000000 s
  unfold State.trigNoSwap
  refine Same.ite ?_ ?_
  · extract_lets -merge -underBinder +onlyGivenNames x0 x1
    have hx1 : Same 0x101000000000 s x1 := State.setHck_same h rfl
    try clear_value x1
    exact State.setTid_same hx1 rfl (fun w v => ⟨w, v⟩)
  · exact h)

theorem State.boundaryLogic_same {a s : State} (h : Same m a s) (hm : m &&& 0x52d6e01fffff = 0x52d6e01fffff) :
    Same m a (State.boundaryLogic s) := h.then hm (by
  have h := Same.refl 0x52d6e01fffff s
  unfold State.boundaryLogic
  exact Same.ite (State.resumeQuays_same (State.trigNoSwap_same (State.landHeldNoSwap_same h rfl) rfl) rfl) h)

theorem execCommitBoundary_same {a s : State} (h : Same m a s) (hm : m &&& 0x576d7e9ffffff = 0x576d7e9ffffff) :
    SameR m a (execCommitBoundary s) := SameR.then h hm (by
  have h := Same.refl 0x576d7e9ffffff s
  unfold execCommitBoundary
  refine SameR.ite ?_ ?_
  · extract_lets -merge -underBinder +onlyGivenNames x0 x1 x2 x3 x5
    have hx1 : Same 0x576d7e9ffffff s x1 := (Same.put_bnd h rfl)
    have hx3 : Same 0x576d7e9ffffff s x3 := Same.foldl (State.boundaryLogic_same hx1 rfl) (fun _ _ k4 => State.commitPage_same k4 rfl)
    have hx5 : Same 0x576d7e9ffffff s x5 := Same.ite (State.runActivated_same hx3 rfl) hx3
    try clear_value x1 x3 x5
    exact SameR.next (State.slotSnapshot_same (State.reloadStores_same (State.lateDiscards_same hx5 rfl) rfl) rfl)
  · exact SameR.next h)

end Sys2Proof.Machine
end

