-- ==== Sys2Proof/Laws/KeepCqCmds.lean ====
section
/-! SUPPORT. What the functions of Machine/CqCmds.lean can change, one lemma for each, with the canonical forms kept. -/

namespace Sys2Proof.Machine

variable {m : Nat}

theorem State.cqPush_same {a s : State} {a1 : Sys2Proof.CqItem} (h : Same m a s) (hm : m &&& 0x14387e000581a = 0x14387e000581a) :
    Same m a (State.cqPush s a1) := h.then hm (by
  have h := Same.refl 0x14387e000581a s
  unfold State.cqPush
  split
  · exact State.pushDesc_same1 h rfl
  · exact State.pushJob_same h rfl
  · exact State.pushTxStamp_same h rfl
  · exact State.pushSyncStamp_same h rfl
  · exact State.complete_same h rfl
  · exact State.pushLearn_same h rfl
  · exact (Same.put_errLines h rfl))

theorem execControlQueuePush_same {a s : State} {a0 : Sys2Proof.CqItem} (h : Same m a s) (hm : m &&& 0x14387e000581a = 0x14387e000581a) :
    SameR m a (execControlQueuePush a0 s) := SameR.then h hm (by
  have h := Same.refl 0x14387e000581a s
  unfold execControlQueuePush
  exact SameR.ite (SameR.next (State.cqPush_same h rfl)) (SameR.next h))

theorem State.cqPop_same {a s : State} {a1 : Sys2Proof.ControlQueue} (h : Same m a s) (hm : m &&& 0x34387e000581b = 0x34387e000581b) :
    Same m a (State.cqPop s a1) := h.then hm (by
  have h := Same.refl 0x34387e000581b s
  unfold State.cqPop
  split
  · exact Same.ite (State.popFifo_same h rfl) h
  · exact State.takeJob_same h rfl
  · exact State.popStamp_same h rfl
  · exact State.drainCq_same h rfl
  · exact Same.ite (State.takeLearn_same h rfl) h
  · exact State.popRec_same h rfl)

theorem State.cqPopBad_same {a s : State} {a1 : Sys2Proof.ControlQueue} (h : Same m a s) (hm : m &&& 0x34387e000581b = 0x34387e000581b) :
    Same m a (State.cqPopBad s a1) := h.then hm (by
  have h := Same.refl 0x34387e000581b s
  unfold State.cqPopBad
  split
  · extract_lets -merge -underBinder +onlyGivenNames x0
    split
    · exact h
    · extract_lets -merge -underBinder +onlyGivenNames x1 x2
      have hx2 : Same 0x34387e000581b s x2 := State.cstGap_same (State.putIngr_same h rfl) rfl
      try clear_value x2
      exact State.dropFrame_same (State.errU_same hx2 rfl rfl rfl rfl rfl rfl) rfl
  · split
    · exact h
    · extract_lets -merge -underBinder +onlyGivenNames x3 x4 x5
      have hx5 : Same 0x34387e000581b s x5 := State.jobDrop_same (State.setSgw_same h rfl) rfl
      try clear_value x5
      exact State.release_same (State.errU_same hx5 rfl rfl rfl rfl rfl rfl) rfl
  · extract_lets -merge -underBinder +onlyGivenNames x6 x7
    refine Same.ite ?_ ?_
    · exact h
    · extract_lets -merge -underBinder +onlyGivenNames x8 x9 x10
      have hx9 : Same 0x34387e000581b s x9 := State.tsqGap_same (State.setQuay_same h rfl) rfl
      have hx10 : Same 0x34387e000581b s x10 := State.errU_same (State.tsqCond_same hx9 rfl) rfl rfl rfl rfl rfl rfl
      try clear_value x9 x10
      split
      · exact State.showStampGap_same hx10 rfl
      · exact hx10
  · exact Same.ite h (State.drainCq_same (State.setHbr_same h rfl) rfl)
  · refine Same.ite ?_ ?_
    · exact h
    · extract_lets -merge -underBinder +onlyGivenNames x11 x12 x13
      have hx13 : Same 0x34387e000581b s x13 := (Same.put_lkp h rfl)
      try clear_value x13
      exact State.errU_same (State.irq_same (State.bump_same hx13 rfl) rfl rfl rfl rfl) rfl rfl rfl rfl rfl rfl
  · refine Same.ite ?_ ?_
    · exact h
    · extract_lets -merge -underBinder +onlyGivenNames x14 x15 x16 x17
      have hx16 : Same 0x34387e000581b s x16 := State.recView_same (State.setSup_same h rfl) rfl
      have hx17 : Same 0x34387e000581b s x17 := State.errU_same (Same.ite (State.irq_same hx16 rfl rfl rfl rfl) hx16) rfl rfl rfl rfl rfl rfl
      try clear_value x16 x17
      split
      · exact State.showGap_same hx17 rfl
      · exact hx17)

theorem execControlQueuePop_same {a s : State} {a0 : Sys2Proof.ControlQueue} {a1 : Bool} (h : Same m a s) (hm : m &&& 0x34387e000581b = 0x34387e000581b) :
    SameR m a (execControlQueuePop a0 a1 s) := SameR.then h hm (by
  have h := Same.refl 0x34387e000581b s
  unfold execControlQueuePop
  exact SameR.ite (SameR.next (Same.ite (State.cqPopBad_same h rfl) (State.cqPop_same h rfl))) (SameR.next h))

end Sys2Proof.Machine
end

