-- ==== Sys2Proof/Laws/KeepErrors.lean ====
section
/-! SUPPORT. What the functions of Machine/Errors.lean can change, one lemma for each, with the canonical forms kept. -/

namespace Sys2Proof.Machine

variable {m : Nat}

theorem State.errCst_same {a s : State} {a1 : Nat} {a2 : Nat} (h : Same m a s) (hm : m &&& 0x34387e011581b = 0x34387e011581b) :
    Same m a (State.errCst s a1 a2) := h.then hm (by
  have h := Same.refl 0x34387e011581b s
  unfold State.errCst
  split
  · exact State.cqPopBad_same h rfl
  · exact Same.ite (State.spoilCell_same h rfl) h
  · exact after_same (execBankFailure_same h rfl) h
  · exact Same.ite (after_same (execBankFailure_same h rfl) h) (State.errU_same h rfl rfl rfl rfl rfl rfl)
  · exact after_same (execIngressOverrun_same h rfl) h
  · exact h)

theorem State.errBth_same {a s : State} {a1 : Nat} (h : Same m a s) (hm : m &&& 0x41a100200a = 0x41a100200a) :
    Same m a (State.errBth s a1) := h.then hm (by
  have h := Same.refl 0x41a100200a s
  unfold State.errBth
  refine Same.ite ?_ ?_
  · extract_lets -merge -underBinder +onlyGivenNames x0
    have hx0 : Same 0x41a100200a s x0 := State.freeSlots_same (State.errU_same h rfl rfl rfl rfl rfl rfl) rfl
    try clear_value x0
    exact Same.ite (Same.put_spoiled hx0 rfl) hx0
  · exact h)

theorem State.errLkp_same {a s : State} {a1 : Nat} (h : Same m a s) (hm : m &&& 0x34387e000581b = 0x34387e000581b) :
    Same m a (State.errLkp s a1) := h.then hm (by
  have h := Same.refl 0x34387e000581b s
  unfold State.errLkp
  split
  · extract_lets -merge -underBinder +onlyGivenNames x0
    split
    · extract_lets -merge -underBinder +onlyGivenNames x1
      have hx1 : Same 0x34387e000581b s x1 := State.errU_same h rfl rfl rfl rfl rfl rfl
      try clear_value x1
      exact State.dropBadOps_same (Same.put_lkp hx1 rfl) rfl
    · exact h
  · refine Same.ite ?_ ?_
    · exact h
    · extract_lets -merge -underBinder +onlyGivenNames x2 x3 x4
      have hx4 : Same 0x34387e000581b s x4 := (Same.put_lkp h rfl)
      try clear_value x4
      exact State.showLkpRes_same (State.lkpConds_same (State.errU_same hx4 rfl rfl rfl rfl rfl rfl) rfl) rfl
  · exact State.cqPopBad_same h rfl
  · exact h)

theorem State.errSgw_same {a s : State} {a1 : Nat} (h : Same m a s) (hm : m &&& 0x34387e000581b = 0x34387e000581b) :
    Same m a (State.errSgw s a1) := h.then hm (by
  have h := Same.refl 0x34387e000581b s
  unfold State.errSgw
  exact Same.ite (State.cqPopBad_same h rfl) h)

theorem State.mbSpoil_same {a s : State} {a1 : Nat} {a2 : Nat} (h : Same m a s) (hm : m &&& 0x2008011000a = 0x2008011000a) :
    Same m a (State.mbSpoil s a1 a2) := h.then hm (by
  have h := Same.refl 0x2008011000a s
  unfold State.mbSpoil
  extract_lets -merge -underBinder +onlyGivenNames x0 x1 x2
  have hx0 : Same 0x2008011000a s x0 := by
    unfold x0
    split
    · exact Same.ite (State.txClear_same h rfl) h
    · exact h
  have hx1 : Same 0x2008011000a s x1 := State.clear_cons (State.clear_cons (State.clear_cons (State.clear_cons (State.clear_cons (State.clear_cons (State.clear_cons (State.clear_nil (State.wr_same (State.wr_same (State.wr_same (State.wr_same (State.wr_same (State.wr_same (State.wr_same hx0 (home_bit 16 rfl rfl)) (home_bit 16 rfl rfl)) (home_bit 16 rfl rfl)) (home_bit 16 rfl rfl)) (home_bit 16 rfl rfl)) (home_bit 16 rfl rfl)) (home_bit 16 rfl rfl)))))))))
  have hx2 : Same 0x2008011000a s x2 := State.clearFields_same hx1 (mem_map fun _ => (home_bit (f := QYC_MB_DATA_D) 16 rfl rfl))
  try clear_value x0 x1 x2
  exact State.loneNode_same (State.endMb_same hx2 rfl) rfl)

theorem State.errQyc_same {a s : State} {a1 : Nat} {a2 : Nat} {a3 : Nat} (h : Same m a s) (hm : m &&& 0x42c7e013440a = 0x42c7e013440a) :
    Same m a (State.errQyc s a1 a2 a3) := h.then hm (by
  have h := Same.refl 0x42c7e013440a s
  unfold State.errQyc
  split
  · exact State.mbSpoil_same (State.err_same h (headHome_pgQ rfl) rfl rfl rfl rfl) rfl
  · exact State.err_same (State.setQuay_same h rfl) (headHome_pgQ rfl) rfl rfl rfl rfl
  · exact State.setQuay_same h rfl
  · exact State.isolate_same (State.errU_same h (headHome_pgQ rfl) rfl rfl rfl rfl rfl) rfl
  · exact State.isolate_same (State.errU_same h (headHome_pgQ rfl) rfl rfl rfl rfl rfl) rfl
  · exact State.isolate_same (State.errU_same h (headHome_pgQ rfl) rfl rfl rfl rfl rfl) rfl
  · exact h)

theorem State.errQye_same {a s : State} {a1 : Nat} {a2 : Nat} (h : Same m a s) (hm : m &&& 0x42c7e013440a = 0x42c7e013440a) :
    Same m a (State.errQye s a1 a2) := h.then hm (by
  have h := Same.refl 0x42c7e013440a s
  unfold State.errQye
  split
  · exact State.setQuay_same h rfl
  · exact State.setQuay_same h rfl
  · exact State.isolate_same (State.errU_same h (headHome_pgQ rfl) rfl rfl rfl rfl rfl) rfl
  · exact State.isolate_same (State.errU_same h (headHome_pgQ rfl) rfl rfl rfl rfl rfl) rfl
  · exact State.isolate_same (State.errU_same h (headHome_pgQ rfl) rfl rfl rfl rfl rfl) rfl
  · exact h)

theorem State.frontFault_same {a s : State} {a1 : Nat} {a2 : Bool} (h : Same m a s) (hm : m &&& 0x46c6e013440a = 0x46c6e013440a) :
    Same m a (State.frontFault s a1 a2) := h.then hm (by
  have h := Same.refl 0x46c6e013440a s
  unfold State.frontFault
  extract_lets -merge -underBinder +onlyGivenNames x0
  exact State.isolate_same (State.setFront_same h rfl) rfl)

theorem State.errLfe_same {a s : State} {a1 : Nat} {a2 : Nat} (h : Same m a s) (hm : m &&& 0x46c7e013440a = 0x46c7e013440a) :
    Same m a (State.errLfe s a1 a2) := h.then hm (by
  have h := Same.refl 0x46c7e013440a s
  unfold State.errLfe
  split
  · exact State.frontFault_same (State.errU_same h (headHome_pgLFE rfl) rfl rfl rfl rfl rfl) rfl
  · exact State.frontFault_same (State.errU_same h (headHome_pgLFE rfl) rfl rfl rfl rfl rfl) rfl
  · exact State.frontFault_same (State.errU_same h (headHome_pgLFE rfl) rfl rfl rfl rfl rfl) rfl
  · exact State.measAbort_same (State.errU_same h (headHome_pgLFE rfl) rfl rfl rfl rfl rfl) rfl
  · exact h)

theorem State.errHck_same {a s : State} {a1 : Nat} {a2 : Nat} (h : Same m a s) (hm : m &&& 0x35387e000581b = 0x35387e000581b) :
    Same m a (State.errHck s a1 a2) := h.then hm (by
  have h := Same.refl 0x35387e000581b s
  unfold State.errHck
  split
  · exact Same.ite (State.cqPopBad_same h rfl) (Same.ite (State.cqPopBad_same h rfl) (State.popCapBad_same h rfl))
  · exact State.setHck_same h rfl
  · exact State.errU_same h rfl rfl rfl rfl rfl rfl
  · exact h)

theorem State.errLog_same {a s : State} {a1 : Nat} (h : Same m a s) (hm : m &&& 0x2001a000002a = 0x2001a000002a) :
    Same m a (State.errLog s a1) := h.then hm (by
  have h := Same.refl 0x2001a000002a s
  unfold State.errLog
  split
  · split
    · exact h
    · exact State.viewLog_same (State.errU_same (State.bump_same (State.setLog_same h rfl) rfl) rfl rfl rfl rfl rfl rfl) rfl
  · exact Same.ite (State.sealFail_same h rfl) (State.errU_same h rfl rfl rfl rfl rfl rfl)
  · exact h)

theorem State.errCph_same {a s : State} {a1 : Nat} (h : Same m a s) (hm : m &&& 0x4087e000404a = 0x4087e000404a) :
    Same m a (State.errCph s a1) := h.then hm (by
  have h := Same.refl 0x4087e000404a s
  unfold State.errCph
  split
  · split
    · exact h
    · extract_lets -merge -underBinder +onlyGivenNames x0 x1
      exact State.cphProceed_same (State.jobGone_same (State.errU_same (State.setCph_same h rfl) rfl rfl rfl rfl rfl rfl) rfl) rfl
  · exact State.setCph_same h rfl
  · exact h)

theorem State.errLane_same {a s : State} {a1 : Nat} {a2 : Nat} (h : Same m a s) (hm : m &&& 0x4087e000604a = 0x4087e000604a) :
    Same m a (State.errLane s a1 a2) := h.then hm (by
  have h := Same.refl 0x4087e000604a s
  unfold State.errLane
  split
  · exact State.compareFail_same h rfl
  · exact State.laneOut_same (State.errU_same h (headHome_pgLane rfl) rfl rfl rfl rfl rfl) rfl
  · exact h)

theorem State.errKwl_same {a s : State} {a1 : Nat} (h : Same m a s) (hm : m &&& 0x8001a000008a = 0x8001a000008a) :
    Same m a (State.errKwl s a1) := h.then hm (by
  have h := Same.refl 0x8001a000008a s
  unfold State.errKwl
  split
  · exact State.setKwl_same h rfl
  · exact after_same (execRbgHealthFail_same h rfl) h
  · exact Same.ite (State.setKwl_same h rfl) (State.errU_same h rfl rfl rfl rfl rfl rfl)
  · exact h)

theorem State.errHbr_same {a s : State} {a1 : Nat} {a2 : Nat} (h : Same m a s) (hm : m &&& 0x34397e01fffff = 0x34397e01fffff) :
    Same m a (State.errHbr s a1 a2) := h.then hm (by
  have h := Same.refl 0x34397e01fffff s
  unfold State.errHbr
  split
  · exact State.cqPopBad_same h rfl
  · exact State.hbrReset_same (State.errU_same h rfl rfl rfl rfl rfl rfl) rfl
  · exact h)

theorem State.errMgp_same {a s : State} {a1 : Nat} (h : Same m a s) (hm : m &&& 0x7ffd7e01fffff = 0x7ffd7e01fffff) :
    Same m a (State.errMgp s a1) := h.then hm (by
  have h := Same.refl 0x7ffd7e01fffff s
  unfold State.errMgp
  split
  · exact State.setHbr_same h rfl
  · exact State.unitReset_same (State.errU_same h rfl rfl rfl rfl rfl rfl) rfl
  · exact h)

theorem State.errPwk_same {a s : State} {a1 : Nat} (h : Same m a s) (hm : m &&& 0x801a018000a = 0x801a018000a) :
    Same m a (State.errPwk s a1) := h.then hm (by
  have h := Same.refl 0x801a018000a s
  unfold State.errPwk
  split
  · exact State.popWakeBad_same h rfl
  · exact (Same.put_pwk h rfl)
  · exact h)

theorem State.errSup_same {a s : State} {a1 : Nat} (h : Same m a s) (hm : m &&& 0x34387e000581b = 0x34387e000581b) :
    Same m a (State.errSup s a1) := h.then hm (by
  have h := Same.refl 0x34387e000581b s
  unfold State.errSup
  split
  · exact State.cqPopBad_same h rfl
  · exact State.errU_same h rfl rfl rfl rfl rfl rfl
  · exact State.errU_same h rfl rfl rfl rfl rfl rfl
  · exact h)

theorem State.errPm_same {a s : State} {a1 : Nat} {a2 : Nat} (h : Same m a s) (hm : m &&& 0x155a01fffff = 0x155a01fffff) :
    Same m a (State.errPm s a1 a2) := h.then hm (by
  have h := Same.refl 0x155a01fffff s
  unfold State.errPm
  refine Same.ite ?_ ?_
  · exact State.planeFault_same (State.useFresh_same h rfl) rfl
  · split
    · exact after_same (execClaimRefreshTimeout_same h rfl) h
    · exact after_same (execCopyLinkError_same h rfl) h
    · exact h)

theorem State.unitError_same {a s : State} {a1 : Sys2Proof.UnitErr} (h : Same m a s) (hm : m &&& 0x7ffd7e11fffff = 0x7ffd7e11fffff) :
    Same m a (State.unitError s a1) := h.then hm (by
  have h := Same.refl 0x7ffd7e11fffff s
  unfold State.unitError
  refine Same.ite ?_ ?_
  · exact h
  · split
    · exact h
    · extract_lets -merge -underBinder +onlyGivenNames x0 x1
      refine Same.ite ?_ ?_
      · exact State.corrected_same h (any_head rfl) rfl rfl rfl
      · split
        · exact State.errSup_same h rfl
        · exact State.errHbr_same h rfl
        · exact State.errMgp_same h rfl
        · exact State.errHck_same h rfl
        · exact State.errLog_same h rfl
        · exact Same.ite (State.errCph_same h rfl) (State.errLane_same h rfl)
        · exact State.errKwl_same h rfl
        · exact State.errPm_same h rfl
        · exact State.errPm_same h rfl
        · exact State.errSgw_same h rfl
        · exact State.errLkp_same h rfl
        · exact State.errBth_same h rfl
        · exact State.errCst_same h rfl
        · exact State.errQyc_same h rfl
        · exact State.errQye_same h rfl
        · exact State.errLfe_same h rfl
        · exact State.errPwk_same h rfl
        · exact h)

theorem execErrorReport_same {a s : State} {a0 : Option Sys2Proof.UnitErr} (h : Same m a s) (hm : m &&& 0x7ffd7e11fffff = 0x7ffd7e11fffff) :
    SameR m a (execErrorReport a0 s) := SameR.then h hm (by
  have h := Same.refl 0x7ffd7e11fffff s
  unfold execErrorReport
  exact onSup_same h (fun _ k0 => State.takeError_same (by
    split
    · exact State.unitError_same k0 rfl
    · exact k0) rfl))

theorem State.inject_same {a s : State} {a1 : Nat} {a2 : Inject} {a3 : Nat} (h : Same m a s) (hm : m &&& 0x7ffd7e11fffff = 0x7ffd7e11fffff) :
    Same m a (State.inject s a1 a2 a3) := h.then hm (by
  have h := Same.refl 0x7ffd7e11fffff s
  unfold State.inject
  split
  · exact State.corrected_same h (any_head rfl) rfl rfl rfl
  · exact State.unitError_same h rfl
  · exact after_same (execAlarmRise_same h rfl) h
  · exact after_same (execD2dLinkFailure_same h rfl) h
  · exact State.setHck_same h rfl
  · exact State.setLane_same h rfl
  · exact State.setSgw_same h rfl
  · exact State.setCst_same h rfl (fun w => w)
  · exact State.setCst_same h rfl (fun w => w)
  · exact State.setRet_same h rfl (fun w => w))

theorem execErrorInjection_same {a s : State} {a0 : Nat} {a1 : Nat} (h : Same m a s) (hm : m &&& 0x7ffd7e11fffff = 0x7ffd7e11fffff) :
    SameR m a (execErrorInjection a0 a1 s) := SameR.then h hm (by
  have h := Same.refl 0x7ffd7e11fffff s
  unfold execErrorInjection
  refine SameR.ite ?_ ?_
  · extract_lets -merge -underBinder +onlyGivenNames x0
    split
    · exact SameR.next h
    · exact SameR.ite (SameR.next (State.inject_same (State.wr_same h (any_head rfl)) rfl)) (SameR.next h)
  · exact SameR.next h)

end Sys2Proof.Machine
end

