-- ==== Sys2Proof/Laws/KeepDispatch.lean ====
section
/-! SUPPORT. What the functions of Machine/Dispatch.lean can change, one lemma for each, with the canonical forms kept. -/

namespace Sys2Proof.Machine

variable {m : Nat}

theorem exec_same {a s : State} {a0 : Sys2Proof.Instr} (h : Same m a s) (hm : m &&& 0x7fffffdffffff = 0x7fffffdffffff) :
    SameR m a (exec a0 s) := SameR.then h hm (by
  have h := Same.refl 0x7fffffdffffff s
  unfold exec
  split
  · exact execRegisterWrite_same h rfl
  · exact execPgCommit_same h rfl
  · exact execPgDiscard_same h rfl
  · exact execPgCommitBadKey_same h rfl
  · exact execCommitBoundary_same h rfl
  · exact execPgCntClr_same h rfl
  · exact execCntClrAll_same h rfl
  · exact execIrqEnWrite_same h rfl
  · exact execIrqPendClear_same h rfl
  · exact execIrqForce_same h rfl
  · exact execErrFirstClear_same h rfl
  · exact execErrInjectArm_same h rfl
  · exact execErrorInjection_same h rfl
  · exact execMbLockRead_same h rfl
  · exact execMbUnlockRead_same h rfl
  · exact execMbLockTimeout_same h rfl
  · exact execTideStagingWrite_same h rfl
  · exact execTidLoadDataWrite_same h rfl
  · exact execVerify_same h rfl
  · exact execVerifyComplete_same h rfl
  · exact execArm_same h rfl
  · exact execDisarm_same h rfl
  · exact execTidCommit_same h rfl
  · exact execTidSnapshot_same h rfl
  · exact execFetch_same h rfl
  · exact execFetchDone_same h rfl
  · exact execFetchErr_same h rfl
  · exact execClearShadow_same h rfl
  · exact execSwap_same h rfl
  · exact execSwapDone_same h rfl
  · exact execSwapTimeout_same h rfl
  · exact execStrokeBoundary_same h rfl
  · exact execExecStart_same h rfl
  · exact execEmit_same h rfl
  · exact execGate_same h rfl
  · exact execTrig_same h rfl
  · exact execTriggerEdge_same h rfl
  · exact execCapw_same h rfl
  · exact execPack_same h rfl
  · exact execPackComplete_same h rfl
  · exact execCheck_same h rfl
  · exact execTest_same h rfl
  · exact execMark_same h rfl
  · exact execLowTideWindowEnd_same h rfl
  · exact execDescriptorIntake_same h rfl
  · exact execForwardingDecision_same h rfl
  · exact execRecordAccept_same h rfl
  · exact execCheckWordQuery_same h rfl
  · exact execLengthNotice_same h rfl
  · exact execClaimRefreshTimeout_same h rfl
  · exact execPlaneFault_same h rfl
  · exact execOccupancyReloadDone_same h rfl
  · exact execTakeover_same h rfl
  · exact execDeltaSealArrive_same h rfl
  · exact execDeltaCommit_same h rfl
  · exact execCopyLinkError_same h rfl
  · exact execTakeOut_same h rfl
  · exact execRejoin_same h rfl
  · exact execPllRelock_same h rfl
  · exact execPlaneSelftestDone_same h rfl
  · exact execRejoinStart_same h rfl
  · exact execRejoinComplete_same h rfl
  · exact execIq2JobEnqueue_same h rfl
  · exact execSignalExtraction_same h rfl
  · exact execMapTimeoutSweep_same h rfl
  · exact execEncap1722_same h rfl
  · exact execDecap1722_same h rfl
  · exact execEncapDarast_same h rfl
  · exact execDecapDarast_same h rfl
  · exact execRewrite_same h rfl
  · exact execRebuild_same h rfl
  · exact execBankHandover_same h rfl
  · exact execCellWrite_same h rfl
  · exact execCellLanding_same h rfl
  · exact execIngressOverrun_same h rfl
  · exact execClassification_same h rfl
  · exact execFrameRelease_same h rfl
  · exact execCellCrcFailure_same h rfl
  · exact execBankFailure_same h rfl
  · exact execControlQueuePush_same h rfl
  · exact execControlQueuePop_same h rfl
  · exact execBerthWindowWrite_same h rfl
  · exact execMeterSweep_same h rfl
  · exact execClrStats_same h rfl
  · exact execRefill_same h rfl
  · exact execUnblock_same h rfl
  · exact execClrAllStats_same h rfl
  · exact execClrAllStatsDone_same h rfl
  · exact execLearningRequest_same h rfl
  · exact execStampSweep_same h rfl
  · exact execAgingSweep_same h rfl
  · exact execSearch_same h rfl
  · exact execRead_same h rfl
  · exact execInsert_same h rfl
  · exact execWrite_same h rfl
  · exact execDelete_same h rfl
  · exact execFlushDynamic_same h rfl
  · exact execOpenRebuild_same h rfl
  · exact execSwapBanks_same h rfl
  · exact execCloseRebuild_same h rfl
  · exact execDropPending_same h rfl
  · exact execLkpLongCmdDone_same h rfl
  · exact execLkpResPop_same h rfl
  · exact execWalkerVisit_same h rfl
  · exact execCanFrameReceived_same h rfl
  · exact execCanBusError_same h rfl
  · exact execProtocolException_same h rfl
  · exact execCanTxAttemptStart_same h rfl
  · exact execCanTxSuccess_same h rfl
  · exact execCanTxAttemptFail_same h rfl
  · exact execTxLifeExpired_same h rfl
  · exact execBusOffRecovered_same h rfl
  · exact execCanModeApplied_same h rfl
  · exact execRecover_same h rfl
  · exact execQycSleep_same h rfl
  · exact execQycWake_same h rfl
  · exact execClrLec_same h rfl
  · exact execQycFlush_same h rfl
  · exact execMbReq_same h rfl
  · exact execMbCancel_same h rfl
  · exact execEthFrameReceived_same h rfl
  · exact execEthTxStart_same h rfl
  · exact execEthTxEnd_same h rfl
  · exact execEthCutTooLong_same h rfl
  · exact execEthLinkDown_same h rfl
  · exact execEthLinkUp_same h rfl
  · exact execUsxCodeWord_same h rfl
  · exact execCollision_same h rfl
  · exact execEthModeApplied_same h rfl
  · exact execQyeFlush_same h rfl
  · exact execLineConditionSet_same h rfl
  · exact execLineConditionClear_same h rfl
  · exact execCanReversalFrame_same h rfl
  · exact execRoleExchange_same h rfl
  · exact execMeasureTerm_same h rfl
  · exact execTermMeasureDone_same h rfl
  · exact execTermMeasureTimeout_same h rfl
  · exact execTdr_same h rfl
  · exact execTdrDone_same h rfl
  · exact execSwapReset_same h rfl
  · exact execMeasCancel_same h rfl
  · exact execCanWakePattern_same h rfl
  · exact execWakePatternAbandon_same h rfl
  · exact execSelectiveWakeFrame_same h rfl
  · exact execG1608Wake_same h rfl
  · exact execT1sEnergyWake_same h rfl
  · exact execTc10Wake_same h rfl
  · exact execDetectorRearm_same h rfl
  · exact execEventStamp_same h rfl
  · exact execStep_same h rfl
  · exact execStepPps_same h rfl
  · exact execCancelStep_same h rfl
  · exact execEpochRestart_same h rfl
  · exact execEpochApply_same h rfl
  · exact execHckSnapshot_same h rfl
  · exact execHold_same h rfl
  · exact execRelease_same h rfl
  · exact execStepApply_same h rfl
  · exact execHckRateWrite_same h rfl
  · exact execSyncMeasurement_same h rfl
  · exact execPpsInEdge_same h rfl
  · exact execSyncLoss_same h rfl
  · exact execGmChange_same h rfl
  · exact execStampPathSwitch_same h rfl
  · exact execPcsFaultClear_same h rfl
  · exact execPdelayInitiate_same h rfl
  · exact execPdelayReqReceived_same h rfl
  · exact execPdelayExchangeEnd_same h rfl
  · exact execSyncRelay_same h rfl
  · exact execGmSyncSend_same h rfl
  · exact execDomainLost_same h rfl
  · exact execAsMessageIgnored_same h rfl
  · exact execCantSyncWrite_same h rfl
  · exact execCantFupWrite_same h rfl
  · exact execCaptureEdge_same h rfl
  · exact execPpsOutPulse_same h rfl
  · exact execPpsOutFall_same h rfl
  · exact execHckTsqPop_same h rfl
  · exact execHckCapPop_same h rfl
  · exact execLogRecordReport_same h rfl
  · exact execLogRecordOutput_same h rfl
  · exact execLogDataIrq_same h rfl
  · exact execLogFrameSend_same h rfl
  · exact execSummaryWrite_same h rfl
  · exact execLogFlush_same h rfl
  · exact execSealNow_same h rfl
  · exact execReseal_same h rfl
  · exact execSealClose_same h rfl
  · exact execSealStop_same h rfl
  · exact execLogRingRpWrite_same h rfl
  · exact execIq3JobEnqueue_same h rfl
  · exact execCipherJobStart_same h rfl
  · exact execProvisionalContinuation_same h rfl
  · exact execCipherJobFinish_same h rfl
  · exact execCompareFail_same h rfl
  · exact execCipherReleaseSlot_same h rfl
  · exact execEnc_same h rfl
  · exact execDec_same h rfl
  · exact execMac_same h rfl
  · exact execCmacVerify_same h rfl
  · exact execHostJobComplete_same h rfl
  · exact execKeyLoad_same h rfl
  · exact execKeyClear_same h rfl
  · exact execCphResPop_same h rfl
  · exact execDerive_same h rfl
  · exact execKwlImport_same h rfl
  · exact execInvalidate_same h rfl
  · exact execDestroy_same h rfl
  · exact execKwlCommit_same h rfl
  · exact execRestoreCustody_same h rfl
  · exact execOrphanSweep_same h rfl
  · exact execMaskKeyRenew_same h rfl
  · exact execRbgStartupDone_same h rfl
  · exact execRbgHealthFail_same h rfl
  · exact execRootGenerate_same h rfl
  · exact execRetainedWrite_same h rfl
  · exact execRetainedWriteDone_same h rfl
  · exact execRetainedWriteRetry_same h rfl
  · exact execHostRead_same h rfl
  · exact execHostReadTimeout_same h rfl
  · exact execHostWrite_same h rfl
  · exact execLockedRead_same h rfl
  · exact execHotReset_same h rfl
  · exact execPcieLinkDown_same h rfl
  · exact execFunctionLevelReset_same h rfl
  · exact execBusMasterDisable_same h rfl
  · exact execD3hotEntry_same h rfl
  · exact execD0Return_same h rfl
  · exact execDmaReadCompletion_same h rfl
  · exact execDmaReadTimeout_same h rfl
  · exact execSemAcquire_same h rfl
  · exact execSemRelease_same h rfl
  · exact execSemTimeout_same h rfl
  · exact execIq0RxFrame_same h rfl
  · exact execRxAuthZero_same h rfl
  · exact execTxDescriptorFetch_same h rfl
  · exact execTxCompletion_same h rfl
  · exact execTxTailWrite_same h rfl
  · exact execRxTailWrite_same h rfl
  · exact execCqRpWrite_same h rfl
  · exact execRingEnableWrite_same h rfl
  · exact execRingHalt_same h rfl
  · exact execRingCoalTimeout_same h rfl
  · exact execD2dLinkFailure_same h rfl
  · exact execFearlekRead_same h rfl
  · exact execFearlekWrite_same h rfl
  · exact execReadFixed_same h rfl
  · exact execWriteFixed_same h rfl
  · exact execFearlekAbort_same h rfl
  · exact execFearlekWordTimeout_same h rfl
  · exact execPwkSleep_same h rfl
  · exact execPwkWake_same h rfl
  · exact execSleepNorth_same h rfl
  · exact execSleepSouth_same h rfl
  · exact execWakeNorth_same h rfl
  · exact execWakeSouth_same h rfl
  · exact execSegSleep_same h rfl
  · exact execSegWake_same h rfl
  · exact execTc10SleepRequest_same h rfl
  · exact execTc10SleepAck_same h rfl
  · exact execTc10SleepTimeout_same h rfl
  · exact execSegmentCommitPoint_same h rfl
  · exact execDwellEnd_same h rfl
  · exact execSegmentAwake_same h rfl
  · exact execSleepAbort_same h rfl
  · exact execFalseWakeTimeout_same h rfl
  · exact execRegionCommitPoint_same h rfl
  · exact execPackageCommitPoint_same h rfl
  · exact execPackageDwellEnd_same h rfl
  · exact execWakePinEvent_same h rfl
  · exact execSleepTimerExpiry_same h rfl
  · exact execPwkWakePop_same h rfl
  · exact execPowerOn_same h rfl
  · exact execVbatStable_same h rfl
  · exact execLogicDieUp_same h rfl
  · exact execRstNLow_same h rfl
  · exact execVbatLoss_same h rfl
  · exact execRestoreComplete_same h rfl
  · exact execRetCommit_same h rfl
  · exact execSlotCommitEnd_same h rfl
  · exact execLoadOpen_same h rfl
  · exact execLoadSeal_same h rfl
  · exact execLoadAbort_same h rfl
  · exact execRetLoadDataWrite_same h rfl
  · exact execErrorReport_same h rfl
  · exact execSupRecAck_same h rfl
  · exact execAutoAckTimeout_same h rfl
  · exact execSupRecPop_same h rfl
  · exact execSupRecSel_same h rfl
  · exact execUnitReset_same h rfl
  · exact execClusterReset_same h rfl
  · exact execRegionReset_same h rfl
  · exact execDieReset_same h rfl
  · exact execPackageReset_same h rfl
  · exact execRepairClear_same h rfl
  · exact execResetDone_same h rfl
  · exact execRegionRetryTimeout_same h rfl
  · exact execSafeResetTimeout_same h rfl
  · exact execSelftestSlice_same h rfl
  · exact execSelftestSliceEnd_same h rfl
  · exact execSelftestPeriodDue_same h rfl
  · exact execSupStReq_same h rfl
  · exact execBankWindowStart_same h rfl
  · exact execAlarmRise_same h rfl
  · exact execAlarmClear_same h rfl
  · exact execTempWarn_same h rfl
  · exact execScanArm_same h rfl
  · exact execScanGo_same h rfl
  · exact execScanComplete_same h rfl
  · exact execHistoryWrite_same h rfl
  · exact execHistoryWriteRetry_same h rfl
  · exact execRepairMapWrite_same h rfl
  · exact execPcieLinkUp_same h rfl
  · exact execPlcaStatusChange_same h rfl
  · exact execRstNRelease_same h rfl
  · exact execSwitchedRailsInRange_same h rfl
  · exact execKwlCommandDone_same h rfl
  · exact execPairShortRetest_same h rfl)

end Sys2Proof.Machine
end

