-- ==== Sys2Proof/Laws/KeepTick.lean ====
section
/-! SUPPORT. What the functions of Machine/Tick.lean can change, one lemma for each, with the canonical forms kept. -/

namespace Sys2Proof.Machine

variable {m : Nat}

theorem State.reachBoundary_same {a s : State} {a1 : Nat} {a2 : Nat} (h : Same m a s) (hm : m &&& 0x8000000 = 0x8000000) :
    Same m a (State.reachBoundary s a1 a2) := h.then hm (by
  have h := Same.refl 0x8000000 s
  unfold State.reachBoundary
  exact (Same.put_bnd h rfl))

theorem State.tick_same {a s : State} (h : Same m a s) (hm : m &&& 0xe000000 = 0xe000000) : Same m a s.tick := h.then hm (by
  have h := Same.refl 0xe000000 s
  have hn : ∀ c, Same 0xe000000 s { s with now := s.now + 1, count := c } := fun c =>
    Same.put_count (s := { s with now := s.now + 1 }) (h.put_now rfl) rfl
  unfold State.tick
  extract_lets +onlyGivenNames n
  refine Same.ite ?_ ?_
  · extract_lets b c x
    exact Same.ite (reachBoundary_same (hn c) rfl) (hn c)
  · extract_lets x
    exact Same.ite (reachBoundary_same (h.put_now rfl) rfl) (h.put_now rfl))

end Sys2Proof.Machine
end

