-- ==== Sys2Proof/Laws/State.lean ====
section
/-! SUPPORT. Each plain update of the state, field by field: the field it writes and the fields it leaves. -/

namespace Sys2Proof.Machine

variable (s : State)

@[simp] theorem State.wr_staged (f : Fld) (ix : List Nat) (v : Nat) : (s.wr f ix v).staged = s.staged := rfl
@[simp] theorem State.wr_commits (f : Fld) (ix : List Nat) (v : Nat) : (s.wr f ix v).commits = s.commits := rfl
@[simp] theorem State.wr_discards (f : Fld) (ix : List Nat) (v : Nat) : (s.wr f ix v).discards = s.discards := rfl
@[simp] theorem State.wr_spoiled (f : Fld) (ix : List Nat) (v : Nat) : (s.wr f ix v).spoiled = s.spoiled := rfl
@[simp] theorem State.wr_now (f : Fld) (ix : List Nat) (v : Nat) : (s.wr f ix v).now = s.now := rfl
@[simp] theorem State.wr_count (f : Fld) (ix : List Nat) (v : Nat) : (s.wr f ix v).count = s.count := rfl
@[simp] theorem State.wr_bnd (f : Fld) (ix : List Nat) (v : Nat) : (s.wr f ix v).bnd = s.bnd := rfl
@[simp] theorem State.wr_mode (f : Fld) (ix : List Nat) (v : Nat) : (s.wr f ix v).mode = s.mode := rfl
@[simp] theorem State.wr_errLines (f : Fld) (ix : List Nat) (v : Nat) : (s.wr f ix v).errLines = s.errLines := rfl
@[simp] theorem State.wr_logLines (f : Fld) (ix : List Nat) (v : Nat) : (s.wr f ix v).logLines = s.logLines := rfl
@[simp] theorem State.wr_outs (f : Fld) (ix : List Nat) (v : Nat) : (s.wr f ix v).outs = s.outs := rfl
@[simp] theorem State.wr_freeCtr (f : Fld) (ix : List Nat) (v : Nat) : (s.wr f ix v).freeCtr = s.freeCtr := rfl
@[simp] theorem State.wr_cst (f : Fld) (ix : List Nat) (v : Nat) : (s.wr f ix v).cst = s.cst := rfl
@[simp] theorem State.wr_planes (f : Fld) (ix : List Nat) (v : Nat) : (s.wr f ix v).planes = s.planes := rfl
@[simp] theorem State.wr_switchGen (f : Fld) (ix : List Nat) (v : Nat) : (s.wr f ix v).switchGen = s.switchGen := rfl
@[simp] theorem State.wr_tid (f : Fld) (ix : List Nat) (v : Nat) : (s.wr f ix v).tid = s.tid := rfl
@[simp] theorem State.wr_gates (f : Fld) (ix : List Nat) (v : Nat) : (s.wr f ix v).gates = s.gates := rfl
@[simp] theorem State.wr_bth (f : Fld) (ix : List Nat) (v : Nat) : (s.wr f ix v).bth = s.bth := rfl
@[simp] theorem State.wr_sgw (f : Fld) (ix : List Nat) (v : Nat) : (s.wr f ix v).sgw = s.sgw := rfl
@[simp] theorem State.wr_lkp (f : Fld) (ix : List Nat) (v : Nat) : (s.wr f ix v).lkp = s.lkp := rfl
@[simp] theorem State.wr_quays (f : Fld) (ix : List Nat) (v : Nat) : (s.wr f ix v).quays = s.quays := rfl
@[simp] theorem State.wr_fronts (f : Fld) (ix : List Nat) (v : Nat) : (s.wr f ix v).fronts = s.fronts := rfl
@[simp] theorem State.wr_pwk (f : Fld) (ix : List Nat) (v : Nat) : (s.wr f ix v).pwk = s.pwk := rfl
@[simp] theorem State.wr_hck (f : Fld) (ix : List Nat) (v : Nat) : (s.wr f ix v).hck = s.hck := rfl
@[simp] theorem State.wr_lgr (f : Fld) (ix : List Nat) (v : Nat) : (s.wr f ix v).lgr = s.lgr := rfl
@[simp] theorem State.wr_cph (f : Fld) (ix : List Nat) (v : Nat) : (s.wr f ix v).cph = s.cph := rfl
@[simp] theorem State.wr_kwl (f : Fld) (ix : List Nat) (v : Nat) : (s.wr f ix v).kwl = s.kwl := rfl
@[simp] theorem State.wr_hbr (f : Fld) (ix : List Nat) (v : Nat) : (s.wr f ix v).hbr = s.hbr := rfl
@[simp] theorem State.wr_sup (f : Fld) (ix : List Nat) (v : Nat) : (s.wr f ix v).sup = s.sup := rfl
@[simp] theorem State.wr_ret (f : Fld) (ix : List Nat) (v : Nat) : (s.wr f ix v).ret = s.ret := rfl
@[simp] theorem State.wr_pending (f : Fld) (ix : List Nat) (v : Nat) : (s.wr f ix v).pending = s.pending := rfl

@[simp] theorem State.out_regs (e : OutEvent) : (s.out e).regs = s.regs := rfl
@[simp] theorem State.out_staged (e : OutEvent) : (s.out e).staged = s.staged := rfl
@[simp] theorem State.out_commits (e : OutEvent) : (s.out e).commits = s.commits := rfl
@[simp] theorem State.out_discards (e : OutEvent) : (s.out e).discards = s.discards := rfl
@[simp] theorem State.out_spoiled (e : OutEvent) : (s.out e).spoiled = s.spoiled := rfl
@[simp] theorem State.out_now (e : OutEvent) : (s.out e).now = s.now := rfl
@[simp] theorem State.out_count (e : OutEvent) : (s.out e).count = s.count := rfl
@[simp] theorem State.out_bnd (e : OutEvent) : (s.out e).bnd = s.bnd := rfl
@[simp] theorem State.out_mode (e : OutEvent) : (s.out e).mode = s.mode := rfl
@[simp] theorem State.out_errLines (e : OutEvent) : (s.out e).errLines = s.errLines := rfl
@[simp] theorem State.out_logLines (e : OutEvent) : (s.out e).logLines = s.logLines := rfl
@[simp] theorem State.out_outs (e : OutEvent) : (s.out e).outs = s.outs ++ [e] := rfl
@[simp] theorem State.out_freeCtr (e : OutEvent) : (s.out e).freeCtr = s.freeCtr := rfl
@[simp] theorem State.out_cst (e : OutEvent) : (s.out e).cst = s.cst := rfl
@[simp] theorem State.out_planes (e : OutEvent) : (s.out e).planes = s.planes := rfl
@[simp] theorem State.out_switchGen (e : OutEvent) : (s.out e).switchGen = s.switchGen := rfl
@[simp] theorem State.out_tid (e : OutEvent) : (s.out e).tid = s.tid := rfl
@[simp] theorem State.out_gates (e : OutEvent) : (s.out e).gates = s.gates := rfl
@[simp] theorem State.out_bth (e : OutEvent) : (s.out e).bth = s.bth := rfl
@[simp] theorem State.out_sgw (e : OutEvent) : (s.out e).sgw = s.sgw := rfl
@[simp] theorem State.out_lkp (e : OutEvent) : (s.out e).lkp = s.lkp := rfl
@[simp] theorem State.out_quays (e : OutEvent) : (s.out e).quays = s.quays := rfl
@[simp] theorem State.out_fronts (e : OutEvent) : (s.out e).fronts = s.fronts := rfl
@[simp] theorem State.out_pwk (e : OutEvent) : (s.out e).pwk = s.pwk := rfl
@[simp] theorem State.out_hck (e : OutEvent) : (s.out e).hck = s.hck := rfl
@[simp] theorem State.out_lgr (e : OutEvent) : (s.out e).lgr = s.lgr := rfl
@[simp] theorem State.out_cph (e : OutEvent) : (s.out e).cph = s.cph := rfl
@[simp] theorem State.out_kwl (e : OutEvent) : (s.out e).kwl = s.kwl := rfl
@[simp] theorem State.out_hbr (e : OutEvent) : (s.out e).hbr = s.hbr := rfl
@[simp] theorem State.out_sup (e : OutEvent) : (s.out e).sup = s.sup := rfl
@[simp] theorem State.out_ret (e : OutEvent) : (s.out e).ret = s.ret := rfl
@[simp] theorem State.out_pending (e : OutEvent) : (s.out e).pending = s.pending := rfl
@[simp] theorem State.out_rd (e : OutEvent) (g : Fld) (jx : List Nat) : (s.out e).rd g jx = s.rd g jx := rfl

@[simp] theorem State.useFresh_regs : s.useFresh.regs = s.regs := rfl
@[simp] theorem State.useFresh_staged : s.useFresh.staged = s.staged := rfl
@[simp] theorem State.useFresh_commits : s.useFresh.commits = s.commits := rfl
@[simp] theorem State.useFresh_discards : s.useFresh.discards = s.discards := rfl
@[simp] theorem State.useFresh_spoiled : s.useFresh.spoiled = s.spoiled := rfl
@[simp] theorem State.useFresh_now : s.useFresh.now = s.now := rfl
@[simp] theorem State.useFresh_count : s.useFresh.count = s.count := rfl
@[simp] theorem State.useFresh_bnd : s.useFresh.bnd = s.bnd := rfl
@[simp] theorem State.useFresh_mode : s.useFresh.mode = s.mode := rfl
@[simp] theorem State.useFresh_errLines : s.useFresh.errLines = s.errLines := rfl
@[simp] theorem State.useFresh_logLines : s.useFresh.logLines = s.logLines := rfl
@[simp] theorem State.useFresh_outs : s.useFresh.outs = s.outs := rfl
@[simp] theorem State.useFresh_freeCtr : s.useFresh.freeCtr = s.freeCtr + 1 := rfl
@[simp] theorem State.useFresh_cst : s.useFresh.cst = s.cst := rfl
@[simp] theorem State.useFresh_planes : s.useFresh.planes = s.planes := rfl
@[simp] theorem State.useFresh_switchGen : s.useFresh.switchGen = s.switchGen := rfl
@[simp] theorem State.useFresh_tid : s.useFresh.tid = s.tid := rfl
@[simp] theorem State.useFresh_gates : s.useFresh.gates = s.gates := rfl
@[simp] theorem State.useFresh_bth : s.useFresh.bth = s.bth := rfl
@[simp] theorem State.useFresh_sgw : s.useFresh.sgw = s.sgw := rfl
@[simp] theorem State.useFresh_lkp : s.useFresh.lkp = s.lkp := rfl
@[simp] theorem State.useFresh_quays : s.useFresh.quays = s.quays := rfl
@[simp] theorem State.useFresh_fronts : s.useFresh.fronts = s.fronts := rfl
@[simp] theorem State.useFresh_pwk : s.useFresh.pwk = s.pwk := rfl
@[simp] theorem State.useFresh_hck : s.useFresh.hck = s.hck := rfl
@[simp] theorem State.useFresh_lgr : s.useFresh.lgr = s.lgr := rfl
@[simp] theorem State.useFresh_cph : s.useFresh.cph = s.cph := rfl
@[simp] theorem State.useFresh_kwl : s.useFresh.kwl = s.kwl := rfl
@[simp] theorem State.useFresh_hbr : s.useFresh.hbr = s.hbr := rfl
@[simp] theorem State.useFresh_sup : s.useFresh.sup = s.sup := rfl
@[simp] theorem State.useFresh_ret : s.useFresh.ret = s.ret := rfl
@[simp] theorem State.useFresh_pending : s.useFresh.pending = s.pending := rfl
@[simp] theorem State.useFresh_rd (g : Fld) (jx : List Nat) : s.useFresh.rd g jx = s.rd g jx := rfl

@[simp] theorem State.setPlane_regs (x : Nat) (p : PlaneSt) : (s.setPlane x p).regs = s.regs := rfl
@[simp] theorem State.setPlane_staged (x : Nat) (p : PlaneSt) : (s.setPlane x p).staged = s.staged := rfl
@[simp] theorem State.setPlane_commits (x : Nat) (p : PlaneSt) : (s.setPlane x p).commits = s.commits := rfl
@[simp] theorem State.setPlane_discards (x : Nat) (p : PlaneSt) : (s.setPlane x p).discards = s.discards := rfl
@[simp] theorem State.setPlane_spoiled (x : Nat) (p : PlaneSt) : (s.setPlane x p).spoiled = s.spoiled := rfl
@[simp] theorem State.setPlane_now (x : Nat) (p : PlaneSt) : (s.setPlane x p).now = s.now := rfl
@[simp] theorem State.setPlane_count (x : Nat) (p : PlaneSt) : (s.setPlane x p).count = s.count := rfl
@[simp] theorem State.setPlane_bnd (x : Nat) (p : PlaneSt) : (s.setPlane x p).bnd = s.bnd := rfl
@[simp] theorem State.setPlane_mode (x : Nat) (p : PlaneSt) : (s.setPlane x p).mode = s.mode := rfl
@[simp] theorem State.setPlane_errLines (x : Nat) (p : PlaneSt) : (s.setPlane x p).errLines = s.errLines := rfl
@[simp] theorem State.setPlane_logLines (x : Nat) (p : PlaneSt) : (s.setPlane x p).logLines = s.logLines := rfl
@[simp] theorem State.setPlane_outs (x : Nat) (p : PlaneSt) : (s.setPlane x p).outs = s.outs := rfl
@[simp] theorem State.setPlane_freeCtr (x : Nat) (p : PlaneSt) : (s.setPlane x p).freeCtr = s.freeCtr := rfl
@[simp] theorem State.setPlane_cst (x : Nat) (p : PlaneSt) : (s.setPlane x p).cst = s.cst := rfl
@[simp] theorem State.setPlane_switchGen (x : Nat) (p : PlaneSt) : (s.setPlane x p).switchGen = s.switchGen := rfl
@[simp] theorem State.setPlane_tid (x : Nat) (p : PlaneSt) : (s.setPlane x p).tid = s.tid := rfl
@[simp] theorem State.setPlane_gates (x : Nat) (p : PlaneSt) : (s.setPlane x p).gates = s.gates := rfl
@[simp] theorem State.setPlane_bth (x : Nat) (p : PlaneSt) : (s.setPlane x p).bth = s.bth := rfl
@[simp] theorem State.setPlane_sgw (x : Nat) (p : PlaneSt) : (s.setPlane x p).sgw = s.sgw := rfl
@[simp] theorem State.setPlane_lkp (x : Nat) (p : PlaneSt) : (s.setPlane x p).lkp = s.lkp := rfl
@[simp] theorem State.setPlane_quays (x : Nat) (p : PlaneSt) : (s.setPlane x p).quays = s.quays := rfl
@[simp] theorem State.setPlane_fronts (x : Nat) (p : PlaneSt) : (s.setPlane x p).fronts = s.fronts := rfl
@[simp] theorem State.setPlane_pwk (x : Nat) (p : PlaneSt) : (s.setPlane x p).pwk = s.pwk := rfl
@[simp] theorem State.setPlane_hck (x : Nat) (p : PlaneSt) : (s.setPlane x p).hck = s.hck := rfl
@[simp] theorem State.setPlane_lgr (x : Nat) (p : PlaneSt) : (s.setPlane x p).lgr = s.lgr := rfl
@[simp] theorem State.setPlane_cph (x : Nat) (p : PlaneSt) : (s.setPlane x p).cph = s.cph := rfl
@[simp] theorem State.setPlane_kwl (x : Nat) (p : PlaneSt) : (s.setPlane x p).kwl = s.kwl := rfl
@[simp] theorem State.setPlane_hbr (x : Nat) (p : PlaneSt) : (s.setPlane x p).hbr = s.hbr := rfl
@[simp] theorem State.setPlane_sup (x : Nat) (p : PlaneSt) : (s.setPlane x p).sup = s.sup := rfl
@[simp] theorem State.setPlane_ret (x : Nat) (p : PlaneSt) : (s.setPlane x p).ret = s.ret := rfl
@[simp] theorem State.setPlane_pending (x : Nat) (p : PlaneSt) : (s.setPlane x p).pending = s.pending := rfl
@[simp] theorem State.setPlane_rd (x : Nat) (p : PlaneSt) (g : Fld) (jx : List Nat) : (s.setPlane x p).rd g jx = s.rd g jx := rfl

@[simp] theorem State.setCst_regs (x : CstSt) : (s.setCst x).regs = s.regs := rfl
@[simp] theorem State.setCst_staged (x : CstSt) : (s.setCst x).staged = s.staged := rfl
@[simp] theorem State.setCst_commits (x : CstSt) : (s.setCst x).commits = s.commits := rfl
@[simp] theorem State.setCst_discards (x : CstSt) : (s.setCst x).discards = s.discards := rfl
@[simp] theorem State.setCst_spoiled (x : CstSt) : (s.setCst x).spoiled = s.spoiled := rfl
@[simp] theorem State.setCst_now (x : CstSt) : (s.setCst x).now = s.now := rfl
@[simp] theorem State.setCst_count (x : CstSt) : (s.setCst x).count = s.count := rfl
@[simp] theorem State.setCst_bnd (x : CstSt) : (s.setCst x).bnd = s.bnd := rfl
@[simp] theorem State.setCst_mode (x : CstSt) : (s.setCst x).mode = s.mode := rfl
@[simp] theorem State.setCst_errLines (x : CstSt) : (s.setCst x).errLines = s.errLines := rfl
@[simp] theorem State.setCst_logLines (x : CstSt) : (s.setCst x).logLines = s.logLines := rfl
@[simp] theorem State.setCst_outs (x : CstSt) : (s.setCst x).outs = s.outs := rfl
@[simp] theorem State.setCst_freeCtr (x : CstSt) : (s.setCst x).freeCtr = s.freeCtr := rfl
@[simp] theorem State.setCst_cst (x : CstSt) : (s.setCst x).cst = x := rfl
@[simp] theorem State.setCst_planes (x : CstSt) : (s.setCst x).planes = s.planes := rfl
@[simp] theorem State.setCst_switchGen (x : CstSt) : (s.setCst x).switchGen = s.switchGen := rfl
@[simp] theorem State.setCst_tid (x : CstSt) : (s.setCst x).tid = s.tid := rfl
@[simp] theorem State.setCst_gates (x : CstSt) : (s.setCst x).gates = s.gates := rfl
@[simp] theorem State.setCst_bth (x : CstSt) : (s.setCst x).bth = s.bth := rfl
@[simp] theorem State.setCst_sgw (x : CstSt) : (s.setCst x).sgw = s.sgw := rfl
@[simp] theorem State.setCst_lkp (x : CstSt) : (s.setCst x).lkp = s.lkp := rfl
@[simp] theorem State.setCst_quays (x : CstSt) : (s.setCst x).quays = s.quays := rfl
@[simp] theorem State.setCst_fronts (x : CstSt) : (s.setCst x).fronts = s.fronts := rfl
@[simp] theorem State.setCst_pwk (x : CstSt) : (s.setCst x).pwk = s.pwk := rfl
@[simp] theorem State.setCst_hck (x : CstSt) : (s.setCst x).hck = s.hck := rfl
@[simp] theorem State.setCst_lgr (x : CstSt) : (s.setCst x).lgr = s.lgr := rfl
@[simp] theorem State.setCst_cph (x : CstSt) : (s.setCst x).cph = s.cph := rfl
@[simp] theorem State.setCst_kwl (x : CstSt) : (s.setCst x).kwl = s.kwl := rfl
@[simp] theorem State.setCst_hbr (x : CstSt) : (s.setCst x).hbr = s.hbr := rfl
@[simp] theorem State.setCst_sup (x : CstSt) : (s.setCst x).sup = s.sup := rfl
@[simp] theorem State.setCst_ret (x : CstSt) : (s.setCst x).ret = s.ret := rfl
@[simp] theorem State.setCst_pending (x : CstSt) : (s.setCst x).pending = s.pending := rfl
@[simp] theorem State.setCst_rd (x : CstSt) (g : Fld) (jx : List Nat) : (s.setCst x).rd g jx = s.rd g jx := rfl

@[simp] theorem State.setTid_regs (x : TidSt) : (s.setTid x).regs = s.regs := rfl
@[simp] theorem State.setTid_staged (x : TidSt) : (s.setTid x).staged = s.staged := rfl
@[simp] theorem State.setTid_commits (x : TidSt) : (s.setTid x).commits = s.commits := rfl
@[simp] theorem State.setTid_discards (x : TidSt) : (s.setTid x).discards = s.discards := rfl
@[simp] theorem State.setTid_spoiled (x : TidSt) : (s.setTid x).spoiled = s.spoiled := rfl
@[simp] theorem State.setTid_now (x : TidSt) : (s.setTid x).now = s.now := rfl
@[simp] theorem State.setTid_count (x : TidSt) : (s.setTid x).count = s.count := rfl
@[simp] theorem State.setTid_bnd (x : TidSt) : (s.setTid x).bnd = s.bnd := rfl
@[simp] theorem State.setTid_mode (x : TidSt) : (s.setTid x).mode = s.mode := rfl
@[simp] theorem State.setTid_errLines (x : TidSt) : (s.setTid x).errLines = s.errLines := rfl
@[simp] theorem State.setTid_logLines (x : TidSt) : (s.setTid x).logLines = s.logLines := rfl
@[simp] theorem State.setTid_outs (x : TidSt) : (s.setTid x).outs = s.outs := rfl
@[simp] theorem State.setTid_freeCtr (x : TidSt) : (s.setTid x).freeCtr = s.freeCtr := rfl
@[simp] theorem State.setTid_cst (x : TidSt) : (s.setTid x).cst = s.cst := rfl
@[simp] theorem State.setTid_planes (x : TidSt) : (s.setTid x).planes = s.planes := rfl
@[simp] theorem State.setTid_switchGen (x : TidSt) : (s.setTid x).switchGen = s.switchGen := rfl
@[simp] theorem State.setTid_tid (x : TidSt) : (s.setTid x).tid = x := rfl
@[simp] theorem State.setTid_gates (x : TidSt) : (s.setTid x).gates = s.gates := rfl
@[simp] theorem State.setTid_bth (x : TidSt) : (s.setTid x).bth = s.bth := rfl
@[simp] theorem State.setTid_sgw (x : TidSt) : (s.setTid x).sgw = s.sgw := rfl
@[simp] theorem State.setTid_lkp (x : TidSt) : (s.setTid x).lkp = s.lkp := rfl
@[simp] theorem State.setTid_quays (x : TidSt) : (s.setTid x).quays = s.quays := rfl
@[simp] theorem State.setTid_fronts (x : TidSt) : (s.setTid x).fronts = s.fronts := rfl
@[simp] theorem State.setTid_pwk (x : TidSt) : (s.setTid x).pwk = s.pwk := rfl
@[simp] theorem State.setTid_hck (x : TidSt) : (s.setTid x).hck = s.hck := rfl
@[simp] theorem State.setTid_lgr (x : TidSt) : (s.setTid x).lgr = s.lgr := rfl
@[simp] theorem State.setTid_cph (x : TidSt) : (s.setTid x).cph = s.cph := rfl
@[simp] theorem State.setTid_kwl (x : TidSt) : (s.setTid x).kwl = s.kwl := rfl
@[simp] theorem State.setTid_hbr (x : TidSt) : (s.setTid x).hbr = s.hbr := rfl
@[simp] theorem State.setTid_sup (x : TidSt) : (s.setTid x).sup = s.sup := rfl
@[simp] theorem State.setTid_ret (x : TidSt) : (s.setTid x).ret = s.ret := rfl
@[simp] theorem State.setTid_pending (x : TidSt) : (s.setTid x).pending = s.pending := rfl
@[simp] theorem State.setTid_rd (x : TidSt) (g : Fld) (jx : List Nat) : (s.setTid x).rd g jx = s.rd g jx := rfl

@[simp] theorem State.setBth_regs (x : BthSt) : (s.setBth x).regs = s.regs := rfl
@[simp] theorem State.setBth_staged (x : BthSt) : (s.setBth x).staged = s.staged := rfl
@[simp] theorem State.setBth_commits (x : BthSt) : (s.setBth x).commits = s.commits := rfl
@[simp] theorem State.setBth_discards (x : BthSt) : (s.setBth x).discards = s.discards := rfl
@[simp] theorem State.setBth_spoiled (x : BthSt) : (s.setBth x).spoiled = s.spoiled := rfl
@[simp] theorem State.setBth_now (x : BthSt) : (s.setBth x).now = s.now := rfl
@[simp] theorem State.setBth_count (x : BthSt) : (s.setBth x).count = s.count := rfl
@[simp] theorem State.setBth_bnd (x : BthSt) : (s.setBth x).bnd = s.bnd := rfl
@[simp] theorem State.setBth_mode (x : BthSt) : (s.setBth x).mode = s.mode := rfl
@[simp] theorem State.setBth_errLines (x : BthSt) : (s.setBth x).errLines = s.errLines := rfl
@[simp] theorem State.setBth_logLines (x : BthSt) : (s.setBth x).logLines = s.logLines := rfl
@[simp] theorem State.setBth_outs (x : BthSt) : (s.setBth x).outs = s.outs := rfl
@[simp] theorem State.setBth_freeCtr (x : BthSt) : (s.setBth x).freeCtr = s.freeCtr := rfl
@[simp] theorem State.setBth_cst (x : BthSt) : (s.setBth x).cst = s.cst := rfl
@[simp] theorem State.setBth_planes (x : BthSt) : (s.setBth x).planes = s.planes := rfl
@[simp] theorem State.setBth_switchGen (x : BthSt) : (s.setBth x).switchGen = s.switchGen := rfl
@[simp] theorem State.setBth_tid (x : BthSt) : (s.setBth x).tid = s.tid := rfl
@[simp] theorem State.setBth_gates (x : BthSt) : (s.setBth x).gates = s.gates := rfl
@[simp] theorem State.setBth_bth (x : BthSt) : (s.setBth x).bth = x := rfl
@[simp] theorem State.setBth_sgw (x : BthSt) : (s.setBth x).sgw = s.sgw := rfl
@[simp] theorem State.setBth_lkp (x : BthSt) : (s.setBth x).lkp = s.lkp := rfl
@[simp] theorem State.setBth_quays (x : BthSt) : (s.setBth x).quays = s.quays := rfl
@[simp] theorem State.setBth_fronts (x : BthSt) : (s.setBth x).fronts = s.fronts := rfl
@[simp] theorem State.setBth_pwk (x : BthSt) : (s.setBth x).pwk = s.pwk := rfl
@[simp] theorem State.setBth_hck (x : BthSt) : (s.setBth x).hck = s.hck := rfl
@[simp] theorem State.setBth_lgr (x : BthSt) : (s.setBth x).lgr = s.lgr := rfl
@[simp] theorem State.setBth_cph (x : BthSt) : (s.setBth x).cph = s.cph := rfl
@[simp] theorem State.setBth_kwl (x : BthSt) : (s.setBth x).kwl = s.kwl := rfl
@[simp] theorem State.setBth_hbr (x : BthSt) : (s.setBth x).hbr = s.hbr := rfl
@[simp] theorem State.setBth_sup (x : BthSt) : (s.setBth x).sup = s.sup := rfl
@[simp] theorem State.setBth_ret (x : BthSt) : (s.setBth x).ret = s.ret := rfl
@[simp] theorem State.setBth_pending (x : BthSt) : (s.setBth x).pending = s.pending := rfl
@[simp] theorem State.setBth_rd (x : BthSt) (g : Fld) (jx : List Nat) : (s.setBth x).rd g jx = s.rd g jx := rfl

@[simp] theorem State.setSgw_regs (x : SgwSt) : (s.setSgw x).regs = s.regs := rfl
@[simp] theorem State.setSgw_staged (x : SgwSt) : (s.setSgw x).staged = s.staged := rfl
@[simp] theorem State.setSgw_commits (x : SgwSt) : (s.setSgw x).commits = s.commits := rfl
@[simp] theorem State.setSgw_discards (x : SgwSt) : (s.setSgw x).discards = s.discards := rfl
@[simp] theorem State.setSgw_spoiled (x : SgwSt) : (s.setSgw x).spoiled = s.spoiled := rfl
@[simp] theorem State.setSgw_now (x : SgwSt) : (s.setSgw x).now = s.now := rfl
@[simp] theorem State.setSgw_count (x : SgwSt) : (s.setSgw x).count = s.count := rfl
@[simp] theorem State.setSgw_bnd (x : SgwSt) : (s.setSgw x).bnd = s.bnd := rfl
@[simp] theorem State.setSgw_mode (x : SgwSt) : (s.setSgw x).mode = s.mode := rfl
@[simp] theorem State.setSgw_errLines (x : SgwSt) : (s.setSgw x).errLines = s.errLines := rfl
@[simp] theorem State.setSgw_logLines (x : SgwSt) : (s.setSgw x).logLines = s.logLines := rfl
@[simp] theorem State.setSgw_outs (x : SgwSt) : (s.setSgw x).outs = s.outs := rfl
@[simp] theorem State.setSgw_freeCtr (x : SgwSt) : (s.setSgw x).freeCtr = s.freeCtr := rfl
@[simp] theorem State.setSgw_cst (x : SgwSt) : (s.setSgw x).cst = s.cst := rfl
@[simp] theorem State.setSgw_planes (x : SgwSt) : (s.setSgw x).planes = s.planes := rfl
@[simp] theorem State.setSgw_switchGen (x : SgwSt) : (s.setSgw x).switchGen = s.switchGen := rfl
@[simp] theorem State.setSgw_tid (x : SgwSt) : (s.setSgw x).tid = s.tid := rfl
@[simp] theorem State.setSgw_gates (x : SgwSt) : (s.setSgw x).gates = s.gates := rfl
@[simp] theorem State.setSgw_bth (x : SgwSt) : (s.setSgw x).bth = s.bth := rfl
@[simp] theorem State.setSgw_sgw (x : SgwSt) : (s.setSgw x).sgw = x := rfl
@[simp] theorem State.setSgw_lkp (x : SgwSt) : (s.setSgw x).lkp = s.lkp := rfl
@[simp] theorem State.setSgw_quays (x : SgwSt) : (s.setSgw x).quays = s.quays := rfl
@[simp] theorem State.setSgw_fronts (x : SgwSt) : (s.setSgw x).fronts = s.fronts := rfl
@[simp] theorem State.setSgw_pwk (x : SgwSt) : (s.setSgw x).pwk = s.pwk := rfl
@[simp] theorem State.setSgw_hck (x : SgwSt) : (s.setSgw x).hck = s.hck := rfl
@[simp] theorem State.setSgw_lgr (x : SgwSt) : (s.setSgw x).lgr = s.lgr := rfl
@[simp] theorem State.setSgw_cph (x : SgwSt) : (s.setSgw x).cph = s.cph := rfl
@[simp] theorem State.setSgw_kwl (x : SgwSt) : (s.setSgw x).kwl = s.kwl := rfl
@[simp] theorem State.setSgw_hbr (x : SgwSt) : (s.setSgw x).hbr = s.hbr := rfl
@[simp] theorem State.setSgw_sup (x : SgwSt) : (s.setSgw x).sup = s.sup := rfl
@[simp] theorem State.setSgw_ret (x : SgwSt) : (s.setSgw x).ret = s.ret := rfl
@[simp] theorem State.setSgw_pending (x : SgwSt) : (s.setSgw x).pending = s.pending := rfl
@[simp] theorem State.setSgw_rd (x : SgwSt) (g : Fld) (jx : List Nat) : (s.setSgw x).rd g jx = s.rd g jx := rfl

@[simp] theorem State.setQuay_regs (q : Nat) (x : QuaySt) : (s.setQuay q x).regs = s.regs := rfl
@[simp] theorem State.setQuay_staged (q : Nat) (x : QuaySt) : (s.setQuay q x).staged = s.staged := rfl
@[simp] theorem State.setQuay_commits (q : Nat) (x : QuaySt) : (s.setQuay q x).commits = s.commits := rfl
@[simp] theorem State.setQuay_discards (q : Nat) (x : QuaySt) : (s.setQuay q x).discards = s.discards := rfl
@[simp] theorem State.setQuay_spoiled (q : Nat) (x : QuaySt) : (s.setQuay q x).spoiled = s.spoiled := rfl
@[simp] theorem State.setQuay_now (q : Nat) (x : QuaySt) : (s.setQuay q x).now = s.now := rfl
@[simp] theorem State.setQuay_count (q : Nat) (x : QuaySt) : (s.setQuay q x).count = s.count := rfl
@[simp] theorem State.setQuay_bnd (q : Nat) (x : QuaySt) : (s.setQuay q x).bnd = s.bnd := rfl
@[simp] theorem State.setQuay_mode (q : Nat) (x : QuaySt) : (s.setQuay q x).mode = s.mode := rfl
@[simp] theorem State.setQuay_errLines (q : Nat) (x : QuaySt) : (s.setQuay q x).errLines = s.errLines := rfl
@[simp] theorem State.setQuay_logLines (q : Nat) (x : QuaySt) : (s.setQuay q x).logLines = s.logLines := rfl
@[simp] theorem State.setQuay_outs (q : Nat) (x : QuaySt) : (s.setQuay q x).outs = s.outs := rfl
@[simp] theorem State.setQuay_freeCtr (q : Nat) (x : QuaySt) : (s.setQuay q x).freeCtr = s.freeCtr := rfl
@[simp] theorem State.setQuay_cst (q : Nat) (x : QuaySt) : (s.setQuay q x).cst = s.cst := rfl
@[simp] theorem State.setQuay_planes (q : Nat) (x : QuaySt) : (s.setQuay q x).planes = s.planes := rfl
@[simp] theorem State.setQuay_switchGen (q : Nat) (x : QuaySt) : (s.setQuay q x).switchGen = s.switchGen := rfl
@[simp] theorem State.setQuay_tid (q : Nat) (x : QuaySt) : (s.setQuay q x).tid = s.tid := rfl
@[simp] theorem State.setQuay_gates (q : Nat) (x : QuaySt) : (s.setQuay q x).gates = s.gates := rfl
@[simp] theorem State.setQuay_bth (q : Nat) (x : QuaySt) : (s.setQuay q x).bth = s.bth := rfl
@[simp] theorem State.setQuay_sgw (q : Nat) (x : QuaySt) : (s.setQuay q x).sgw = s.sgw := rfl
@[simp] theorem State.setQuay_lkp (q : Nat) (x : QuaySt) : (s.setQuay q x).lkp = s.lkp := rfl
@[simp] theorem State.setQuay_fronts (q : Nat) (x : QuaySt) : (s.setQuay q x).fronts = s.fronts := rfl
@[simp] theorem State.setQuay_pwk (q : Nat) (x : QuaySt) : (s.setQuay q x).pwk = s.pwk := rfl
@[simp] theorem State.setQuay_hck (q : Nat) (x : QuaySt) : (s.setQuay q x).hck = s.hck := rfl
@[simp] theorem State.setQuay_lgr (q : Nat) (x : QuaySt) : (s.setQuay q x).lgr = s.lgr := rfl
@[simp] theorem State.setQuay_cph (q : Nat) (x : QuaySt) : (s.setQuay q x).cph = s.cph := rfl
@[simp] theorem State.setQuay_kwl (q : Nat) (x : QuaySt) : (s.setQuay q x).kwl = s.kwl := rfl
@[simp] theorem State.setQuay_hbr (q : Nat) (x : QuaySt) : (s.setQuay q x).hbr = s.hbr := rfl
@[simp] theorem State.setQuay_sup (q : Nat) (x : QuaySt) : (s.setQuay q x).sup = s.sup := rfl
@[simp] theorem State.setQuay_ret (q : Nat) (x : QuaySt) : (s.setQuay q x).ret = s.ret := rfl
@[simp] theorem State.setQuay_pending (q : Nat) (x : QuaySt) : (s.setQuay q x).pending = s.pending := rfl
@[simp] theorem State.setQuay_rd (q : Nat) (x : QuaySt) (g : Fld) (jx : List Nat) : (s.setQuay q x).rd g jx = s.rd g jx := rfl

@[simp] theorem State.setFront_regs (q : Nat) (x : FrontSt) : (s.setFront q x).regs = s.regs := rfl
@[simp] theorem State.setFront_staged (q : Nat) (x : FrontSt) : (s.setFront q x).staged = s.staged := rfl
@[simp] theorem State.setFront_commits (q : Nat) (x : FrontSt) : (s.setFront q x).commits = s.commits := rfl
@[simp] theorem State.setFront_discards (q : Nat) (x : FrontSt) : (s.setFront q x).discards = s.discards := rfl
@[simp] theorem State.setFront_spoiled (q : Nat) (x : FrontSt) : (s.setFront q x).spoiled = s.spoiled := rfl
@[simp] theorem State.setFront_now (q : Nat) (x : FrontSt) : (s.setFront q x).now = s.now := rfl
@[simp] theorem State.setFront_count (q : Nat) (x : FrontSt) : (s.setFront q x).count = s.count := rfl
@[simp] theorem State.setFront_bnd (q : Nat) (x : FrontSt) : (s.setFront q x).bnd = s.bnd := rfl
@[simp] theorem State.setFront_mode (q : Nat) (x : FrontSt) : (s.setFront q x).mode = s.mode := rfl
@[simp] theorem State.setFront_errLines (q : Nat) (x : FrontSt) : (s.setFront q x).errLines = s.errLines := rfl
@[simp] theorem State.setFront_logLines (q : Nat) (x : FrontSt) : (s.setFront q x).logLines = s.logLines := rfl
@[simp] theorem State.setFront_outs (q : Nat) (x : FrontSt) : (s.setFront q x).outs = s.outs := rfl
@[simp] theorem State.setFront_freeCtr (q : Nat) (x : FrontSt) : (s.setFront q x).freeCtr = s.freeCtr := rfl
@[simp] theorem State.setFront_cst (q : Nat) (x : FrontSt) : (s.setFront q x).cst = s.cst := rfl
@[simp] theorem State.setFront_planes (q : Nat) (x : FrontSt) : (s.setFront q x).planes = s.planes := rfl
@[simp] theorem State.setFront_switchGen (q : Nat) (x : FrontSt) : (s.setFront q x).switchGen = s.switchGen := rfl
@[simp] theorem State.setFront_tid (q : Nat) (x : FrontSt) : (s.setFront q x).tid = s.tid := rfl
@[simp] theorem State.setFront_gates (q : Nat) (x : FrontSt) : (s.setFront q x).gates = s.gates := rfl
@[simp] theorem State.setFront_bth (q : Nat) (x : FrontSt) : (s.setFront q x).bth = s.bth := rfl
@[simp] theorem State.setFront_sgw (q : Nat) (x : FrontSt) : (s.setFront q x).sgw = s.sgw := rfl
@[simp] theorem State.setFront_lkp (q : Nat) (x : FrontSt) : (s.setFront q x).lkp = s.lkp := rfl
@[simp] theorem State.setFront_quays (q : Nat) (x : FrontSt) : (s.setFront q x).quays = s.quays := rfl
@[simp] theorem State.setFront_pwk (q : Nat) (x : FrontSt) : (s.setFront q x).pwk = s.pwk := rfl
@[simp] theorem State.setFront_hck (q : Nat) (x : FrontSt) : (s.setFront q x).hck = s.hck := rfl
@[simp] theorem State.setFront_lgr (q : Nat) (x : FrontSt) : (s.setFront q x).lgr = s.lgr := rfl
@[simp] theorem State.setFront_cph (q : Nat) (x : FrontSt) : (s.setFront q x).cph = s.cph := rfl
@[simp] theorem State.setFront_kwl (q : Nat) (x : FrontSt) : (s.setFront q x).kwl = s.kwl := rfl
@[simp] theorem State.setFront_hbr (q : Nat) (x : FrontSt) : (s.setFront q x).hbr = s.hbr := rfl
@[simp] theorem State.setFront_sup (q : Nat) (x : FrontSt) : (s.setFront q x).sup = s.sup := rfl
@[simp] theorem State.setFront_ret (q : Nat) (x : FrontSt) : (s.setFront q x).ret = s.ret := rfl
@[simp] theorem State.setFront_pending (q : Nat) (x : FrontSt) : (s.setFront q x).pending = s.pending := rfl
@[simp] theorem State.setFront_rd (q : Nat) (x : FrontSt) (g : Fld) (jx : List Nat) : (s.setFront q x).rd g jx = s.rd g jx := rfl

@[simp] theorem State.setPwk_regs (x : PwkSt) : (s.setPwk x).regs = s.regs := rfl
@[simp] theorem State.setPwk_staged (x : PwkSt) : (s.setPwk x).staged = s.staged := rfl
@[simp] theorem State.setPwk_commits (x : PwkSt) : (s.setPwk x).commits = s.commits := rfl
@[simp] theorem State.setPwk_discards (x : PwkSt) : (s.setPwk x).discards = s.discards := rfl
@[simp] theorem State.setPwk_spoiled (x : PwkSt) : (s.setPwk x).spoiled = s.spoiled := rfl
@[simp] theorem State.setPwk_now (x : PwkSt) : (s.setPwk x).now = s.now := rfl
@[simp] theorem State.setPwk_count (x : PwkSt) : (s.setPwk x).count = s.count := rfl
@[simp] theorem State.setPwk_bnd (x : PwkSt) : (s.setPwk x).bnd = s.bnd := rfl
@[simp] theorem State.setPwk_mode (x : PwkSt) : (s.setPwk x).mode = s.mode := rfl
@[simp] theorem State.setPwk_errLines (x : PwkSt) : (s.setPwk x).errLines = s.errLines := rfl
@[simp] theorem State.setPwk_logLines (x : PwkSt) : (s.setPwk x).logLines = s.logLines := rfl
@[simp] theorem State.setPwk_outs (x : PwkSt) : (s.setPwk x).outs = s.outs := rfl
@[simp] theorem State.setPwk_freeCtr (x : PwkSt) : (s.setPwk x).freeCtr = s.freeCtr := rfl
@[simp] theorem State.setPwk_cst (x : PwkSt) : (s.setPwk x).cst = s.cst := rfl
@[simp] theorem State.setPwk_planes (x : PwkSt) : (s.setPwk x).planes = s.planes := rfl
@[simp] theorem State.setPwk_switchGen (x : PwkSt) : (s.setPwk x).switchGen = s.switchGen := rfl
@[simp] theorem State.setPwk_tid (x : PwkSt) : (s.setPwk x).tid = s.tid := rfl
@[simp] theorem State.setPwk_gates (x : PwkSt) : (s.setPwk x).gates = s.gates := rfl
@[simp] theorem State.setPwk_bth (x : PwkSt) : (s.setPwk x).bth = s.bth := rfl
@[simp] theorem State.setPwk_sgw (x : PwkSt) : (s.setPwk x).sgw = s.sgw := rfl
@[simp] theorem State.setPwk_lkp (x : PwkSt) : (s.setPwk x).lkp = s.lkp := rfl
@[simp] theorem State.setPwk_quays (x : PwkSt) : (s.setPwk x).quays = s.quays := rfl
@[simp] theorem State.setPwk_fronts (x : PwkSt) : (s.setPwk x).fronts = s.fronts := rfl
@[simp] theorem State.setPwk_pwk (x : PwkSt) : (s.setPwk x).pwk = x := rfl
@[simp] theorem State.setPwk_hck (x : PwkSt) : (s.setPwk x).hck = s.hck := rfl
@[simp] theorem State.setPwk_lgr (x : PwkSt) : (s.setPwk x).lgr = s.lgr := rfl
@[simp] theorem State.setPwk_cph (x : PwkSt) : (s.setPwk x).cph = s.cph := rfl
@[simp] theorem State.setPwk_kwl (x : PwkSt) : (s.setPwk x).kwl = s.kwl := rfl
@[simp] theorem State.setPwk_hbr (x : PwkSt) : (s.setPwk x).hbr = s.hbr := rfl
@[simp] theorem State.setPwk_sup (x : PwkSt) : (s.setPwk x).sup = s.sup := rfl
@[simp] theorem State.setPwk_ret (x : PwkSt) : (s.setPwk x).ret = s.ret := rfl
@[simp] theorem State.setPwk_pending (x : PwkSt) : (s.setPwk x).pending = s.pending := rfl
@[simp] theorem State.setPwk_rd (x : PwkSt) (g : Fld) (jx : List Nat) : (s.setPwk x).rd g jx = s.rd g jx := rfl

@[simp] theorem State.setHck_regs (x : HckSt) : (s.setHck x).regs = s.regs := rfl
@[simp] theorem State.setHck_staged (x : HckSt) : (s.setHck x).staged = s.staged := rfl
@[simp] theorem State.setHck_commits (x : HckSt) : (s.setHck x).commits = s.commits := rfl
@[simp] theorem State.setHck_discards (x : HckSt) : (s.setHck x).discards = s.discards := rfl
@[simp] theorem State.setHck_spoiled (x : HckSt) : (s.setHck x).spoiled = s.spoiled := rfl
@[simp] theorem State.setHck_now (x : HckSt) : (s.setHck x).now = s.now := rfl
@[simp] theorem State.setHck_count (x : HckSt) : (s.setHck x).count = s.count := rfl
@[simp] theorem State.setHck_bnd (x : HckSt) : (s.setHck x).bnd = s.bnd := rfl
@[simp] theorem State.setHck_mode (x : HckSt) : (s.setHck x).mode = s.mode := rfl
@[simp] theorem State.setHck_errLines (x : HckSt) : (s.setHck x).errLines = s.errLines := rfl
@[simp] theorem State.setHck_logLines (x : HckSt) : (s.setHck x).logLines = s.logLines := rfl
@[simp] theorem State.setHck_outs (x : HckSt) : (s.setHck x).outs = s.outs := rfl
@[simp] theorem State.setHck_freeCtr (x : HckSt) : (s.setHck x).freeCtr = s.freeCtr := rfl
@[simp] theorem State.setHck_cst (x : HckSt) : (s.setHck x).cst = s.cst := rfl
@[simp] theorem State.setHck_planes (x : HckSt) : (s.setHck x).planes = s.planes := rfl
@[simp] theorem State.setHck_switchGen (x : HckSt) : (s.setHck x).switchGen = s.switchGen := rfl
@[simp] theorem State.setHck_tid (x : HckSt) : (s.setHck x).tid = s.tid := rfl
@[simp] theorem State.setHck_gates (x : HckSt) : (s.setHck x).gates = s.gates := rfl
@[simp] theorem State.setHck_bth (x : HckSt) : (s.setHck x).bth = s.bth := rfl
@[simp] theorem State.setHck_sgw (x : HckSt) : (s.setHck x).sgw = s.sgw := rfl
@[simp] theorem State.setHck_lkp (x : HckSt) : (s.setHck x).lkp = s.lkp := rfl
@[simp] theorem State.setHck_quays (x : HckSt) : (s.setHck x).quays = s.quays := rfl
@[simp] theorem State.setHck_fronts (x : HckSt) : (s.setHck x).fronts = s.fronts := rfl
@[simp] theorem State.setHck_pwk (x : HckSt) : (s.setHck x).pwk = s.pwk := rfl
@[simp] theorem State.setHck_hck (x : HckSt) : (s.setHck x).hck = x := rfl
@[simp] theorem State.setHck_lgr (x : HckSt) : (s.setHck x).lgr = s.lgr := rfl
@[simp] theorem State.setHck_cph (x : HckSt) : (s.setHck x).cph = s.cph := rfl
@[simp] theorem State.setHck_kwl (x : HckSt) : (s.setHck x).kwl = s.kwl := rfl
@[simp] theorem State.setHck_hbr (x : HckSt) : (s.setHck x).hbr = s.hbr := rfl
@[simp] theorem State.setHck_sup (x : HckSt) : (s.setHck x).sup = s.sup := rfl
@[simp] theorem State.setHck_ret (x : HckSt) : (s.setHck x).ret = s.ret := rfl
@[simp] theorem State.setHck_pending (x : HckSt) : (s.setHck x).pending = s.pending := rfl
@[simp] theorem State.setHck_rd (x : HckSt) (g : Fld) (jx : List Nat) : (s.setHck x).rd g jx = s.rd g jx := rfl

@[simp] theorem State.setLog_regs (x : LogSt) : (s.setLog x).regs = s.regs := rfl
@[simp] theorem State.setLog_staged (x : LogSt) : (s.setLog x).staged = s.staged := rfl
@[simp] theorem State.setLog_commits (x : LogSt) : (s.setLog x).commits = s.commits := rfl
@[simp] theorem State.setLog_discards (x : LogSt) : (s.setLog x).discards = s.discards := rfl
@[simp] theorem State.setLog_spoiled (x : LogSt) : (s.setLog x).spoiled = s.spoiled := rfl
@[simp] theorem State.setLog_now (x : LogSt) : (s.setLog x).now = s.now := rfl
@[simp] theorem State.setLog_count (x : LogSt) : (s.setLog x).count = s.count := rfl
@[simp] theorem State.setLog_bnd (x : LogSt) : (s.setLog x).bnd = s.bnd := rfl
@[simp] theorem State.setLog_mode (x : LogSt) : (s.setLog x).mode = s.mode := rfl
@[simp] theorem State.setLog_errLines (x : LogSt) : (s.setLog x).errLines = s.errLines := rfl
@[simp] theorem State.setLog_logLines (x : LogSt) : (s.setLog x).logLines = s.logLines := rfl
@[simp] theorem State.setLog_outs (x : LogSt) : (s.setLog x).outs = s.outs := rfl
@[simp] theorem State.setLog_freeCtr (x : LogSt) : (s.setLog x).freeCtr = s.freeCtr := rfl
@[simp] theorem State.setLog_cst (x : LogSt) : (s.setLog x).cst = s.cst := rfl
@[simp] theorem State.setLog_planes (x : LogSt) : (s.setLog x).planes = s.planes := rfl
@[simp] theorem State.setLog_switchGen (x : LogSt) : (s.setLog x).switchGen = s.switchGen := rfl
@[simp] theorem State.setLog_tid (x : LogSt) : (s.setLog x).tid = s.tid := rfl
@[simp] theorem State.setLog_gates (x : LogSt) : (s.setLog x).gates = s.gates := rfl
@[simp] theorem State.setLog_bth (x : LogSt) : (s.setLog x).bth = s.bth := rfl
@[simp] theorem State.setLog_sgw (x : LogSt) : (s.setLog x).sgw = s.sgw := rfl
@[simp] theorem State.setLog_lkp (x : LogSt) : (s.setLog x).lkp = s.lkp := rfl
@[simp] theorem State.setLog_quays (x : LogSt) : (s.setLog x).quays = s.quays := rfl
@[simp] theorem State.setLog_fronts (x : LogSt) : (s.setLog x).fronts = s.fronts := rfl
@[simp] theorem State.setLog_pwk (x : LogSt) : (s.setLog x).pwk = s.pwk := rfl
@[simp] theorem State.setLog_hck (x : LogSt) : (s.setLog x).hck = s.hck := rfl
@[simp] theorem State.setLog_lgr (x : LogSt) : (s.setLog x).lgr = x := rfl
@[simp] theorem State.setLog_cph (x : LogSt) : (s.setLog x).cph = s.cph := rfl
@[simp] theorem State.setLog_kwl (x : LogSt) : (s.setLog x).kwl = s.kwl := rfl
@[simp] theorem State.setLog_hbr (x : LogSt) : (s.setLog x).hbr = s.hbr := rfl
@[simp] theorem State.setLog_sup (x : LogSt) : (s.setLog x).sup = s.sup := rfl
@[simp] theorem State.setLog_ret (x : LogSt) : (s.setLog x).ret = s.ret := rfl
@[simp] theorem State.setLog_pending (x : LogSt) : (s.setLog x).pending = s.pending := rfl
@[simp] theorem State.setLog_rd (x : LogSt) (g : Fld) (jx : List Nat) : (s.setLog x).rd g jx = s.rd g jx := rfl

@[simp] theorem State.setCph_regs (x : CphSt) : (s.setCph x).regs = s.regs := rfl
@[simp] theorem State.setCph_staged (x : CphSt) : (s.setCph x).staged = s.staged := rfl
@[simp] theorem State.setCph_commits (x : CphSt) : (s.setCph x).commits = s.commits := rfl
@[simp] theorem State.setCph_discards (x : CphSt) : (s.setCph x).discards = s.discards := rfl
@[simp] theorem State.setCph_spoiled (x : CphSt) : (s.setCph x).spoiled = s.spoiled := rfl
@[simp] theorem State.setCph_now (x : CphSt) : (s.setCph x).now = s.now := rfl
@[simp] theorem State.setCph_count (x : CphSt) : (s.setCph x).count = s.count := rfl
@[simp] theorem State.setCph_bnd (x : CphSt) : (s.setCph x).bnd = s.bnd := rfl
@[simp] theorem State.setCph_mode (x : CphSt) : (s.setCph x).mode = s.mode := rfl
@[simp] theorem State.setCph_errLines (x : CphSt) : (s.setCph x).errLines = s.errLines := rfl
@[simp] theorem State.setCph_logLines (x : CphSt) : (s.setCph x).logLines = s.logLines := rfl
@[simp] theorem State.setCph_outs (x : CphSt) : (s.setCph x).outs = s.outs := rfl
@[simp] theorem State.setCph_freeCtr (x : CphSt) : (s.setCph x).freeCtr = s.freeCtr := rfl
@[simp] theorem State.setCph_cst (x : CphSt) : (s.setCph x).cst = s.cst := rfl
@[simp] theorem State.setCph_planes (x : CphSt) : (s.setCph x).planes = s.planes := rfl
@[simp] theorem State.setCph_switchGen (x : CphSt) : (s.setCph x).switchGen = s.switchGen := rfl
@[simp] theorem State.setCph_tid (x : CphSt) : (s.setCph x).tid = s.tid := rfl
@[simp] theorem State.setCph_gates (x : CphSt) : (s.setCph x).gates = s.gates := rfl
@[simp] theorem State.setCph_bth (x : CphSt) : (s.setCph x).bth = s.bth := rfl
@[simp] theorem State.setCph_sgw (x : CphSt) : (s.setCph x).sgw = s.sgw := rfl
@[simp] theorem State.setCph_lkp (x : CphSt) : (s.setCph x).lkp = s.lkp := rfl
@[simp] theorem State.setCph_quays (x : CphSt) : (s.setCph x).quays = s.quays := rfl
@[simp] theorem State.setCph_fronts (x : CphSt) : (s.setCph x).fronts = s.fronts := rfl
@[simp] theorem State.setCph_pwk (x : CphSt) : (s.setCph x).pwk = s.pwk := rfl
@[simp] theorem State.setCph_hck (x : CphSt) : (s.setCph x).hck = s.hck := rfl
@[simp] theorem State.setCph_lgr (x : CphSt) : (s.setCph x).lgr = s.lgr := rfl
@[simp] theorem State.setCph_cph (x : CphSt) : (s.setCph x).cph = x := rfl
@[simp] theorem State.setCph_kwl (x : CphSt) : (s.setCph x).kwl = s.kwl := rfl
@[simp] theorem State.setCph_hbr (x : CphSt) : (s.setCph x).hbr = s.hbr := rfl
@[simp] theorem State.setCph_sup (x : CphSt) : (s.setCph x).sup = s.sup := rfl
@[simp] theorem State.setCph_ret (x : CphSt) : (s.setCph x).ret = s.ret := rfl
@[simp] theorem State.setCph_pending (x : CphSt) : (s.setCph x).pending = s.pending := rfl
@[simp] theorem State.setCph_rd (x : CphSt) (g : Fld) (jx : List Nat) : (s.setCph x).rd g jx = s.rd g jx := rfl

@[simp] theorem State.setKwl_regs (x : KwlSt) : (s.setKwl x).regs = s.regs := rfl
@[simp] theorem State.setKwl_staged (x : KwlSt) : (s.setKwl x).staged = s.staged := rfl
@[simp] theorem State.setKwl_commits (x : KwlSt) : (s.setKwl x).commits = s.commits := rfl
@[simp] theorem State.setKwl_discards (x : KwlSt) : (s.setKwl x).discards = s.discards := rfl
@[simp] theorem State.setKwl_spoiled (x : KwlSt) : (s.setKwl x).spoiled = s.spoiled := rfl
@[simp] theorem State.setKwl_now (x : KwlSt) : (s.setKwl x).now = s.now := rfl
@[simp] theorem State.setKwl_count (x : KwlSt) : (s.setKwl x).count = s.count := rfl
@[simp] theorem State.setKwl_bnd (x : KwlSt) : (s.setKwl x).bnd = s.bnd := rfl
@[simp] theorem State.setKwl_mode (x : KwlSt) : (s.setKwl x).mode = s.mode := rfl
@[simp] theorem State.setKwl_errLines (x : KwlSt) : (s.setKwl x).errLines = s.errLines := rfl
@[simp] theorem State.setKwl_logLines (x : KwlSt) : (s.setKwl x).logLines = s.logLines := rfl
@[simp] theorem State.setKwl_outs (x : KwlSt) : (s.setKwl x).outs = s.outs := rfl
@[simp] theorem State.setKwl_freeCtr (x : KwlSt) : (s.setKwl x).freeCtr = s.freeCtr := rfl
@[simp] theorem State.setKwl_cst (x : KwlSt) : (s.setKwl x).cst = s.cst := rfl
@[simp] theorem State.setKwl_planes (x : KwlSt) : (s.setKwl x).planes = s.planes := rfl
@[simp] theorem State.setKwl_switchGen (x : KwlSt) : (s.setKwl x).switchGen = s.switchGen := rfl
@[simp] theorem State.setKwl_tid (x : KwlSt) : (s.setKwl x).tid = s.tid := rfl
@[simp] theorem State.setKwl_gates (x : KwlSt) : (s.setKwl x).gates = s.gates := rfl
@[simp] theorem State.setKwl_bth (x : KwlSt) : (s.setKwl x).bth = s.bth := rfl
@[simp] theorem State.setKwl_sgw (x : KwlSt) : (s.setKwl x).sgw = s.sgw := rfl
@[simp] theorem State.setKwl_lkp (x : KwlSt) : (s.setKwl x).lkp = s.lkp := rfl
@[simp] theorem State.setKwl_quays (x : KwlSt) : (s.setKwl x).quays = s.quays := rfl
@[simp] theorem State.setKwl_fronts (x : KwlSt) : (s.setKwl x).fronts = s.fronts := rfl
@[simp] theorem State.setKwl_pwk (x : KwlSt) : (s.setKwl x).pwk = s.pwk := rfl
@[simp] theorem State.setKwl_hck (x : KwlSt) : (s.setKwl x).hck = s.hck := rfl
@[simp] theorem State.setKwl_lgr (x : KwlSt) : (s.setKwl x).lgr = s.lgr := rfl
@[simp] theorem State.setKwl_cph (x : KwlSt) : (s.setKwl x).cph = s.cph := rfl
@[simp] theorem State.setKwl_kwl (x : KwlSt) : (s.setKwl x).kwl = x := rfl
@[simp] theorem State.setKwl_hbr (x : KwlSt) : (s.setKwl x).hbr = s.hbr := rfl
@[simp] theorem State.setKwl_sup (x : KwlSt) : (s.setKwl x).sup = s.sup := rfl
@[simp] theorem State.setKwl_ret (x : KwlSt) : (s.setKwl x).ret = s.ret := rfl
@[simp] theorem State.setKwl_pending (x : KwlSt) : (s.setKwl x).pending = s.pending := rfl
@[simp] theorem State.setKwl_rd (x : KwlSt) (g : Fld) (jx : List Nat) : (s.setKwl x).rd g jx = s.rd g jx := rfl

@[simp] theorem State.setHbr_regs (x : HbrSt) : (s.setHbr x).regs = s.regs := rfl
@[simp] theorem State.setHbr_staged (x : HbrSt) : (s.setHbr x).staged = s.staged := rfl
@[simp] theorem State.setHbr_commits (x : HbrSt) : (s.setHbr x).commits = s.commits := rfl
@[simp] theorem State.setHbr_discards (x : HbrSt) : (s.setHbr x).discards = s.discards := rfl
@[simp] theorem State.setHbr_spoiled (x : HbrSt) : (s.setHbr x).spoiled = s.spoiled := rfl
@[simp] theorem State.setHbr_now (x : HbrSt) : (s.setHbr x).now = s.now := rfl
@[simp] theorem State.setHbr_count (x : HbrSt) : (s.setHbr x).count = s.count := rfl
@[simp] theorem State.setHbr_bnd (x : HbrSt) : (s.setHbr x).bnd = s.bnd := rfl
@[simp] theorem State.setHbr_mode (x : HbrSt) : (s.setHbr x).mode = s.mode := rfl
@[simp] theorem State.setHbr_errLines (x : HbrSt) : (s.setHbr x).errLines = s.errLines := rfl
@[simp] theorem State.setHbr_logLines (x : HbrSt) : (s.setHbr x).logLines = s.logLines := rfl
@[simp] theorem State.setHbr_outs (x : HbrSt) : (s.setHbr x).outs = s.outs := rfl
@[simp] theorem State.setHbr_freeCtr (x : HbrSt) : (s.setHbr x).freeCtr = s.freeCtr := rfl
@[simp] theorem State.setHbr_cst (x : HbrSt) : (s.setHbr x).cst = s.cst := rfl
@[simp] theorem State.setHbr_planes (x : HbrSt) : (s.setHbr x).planes = s.planes := rfl
@[simp] theorem State.setHbr_switchGen (x : HbrSt) : (s.setHbr x).switchGen = s.switchGen := rfl
@[simp] theorem State.setHbr_tid (x : HbrSt) : (s.setHbr x).tid = s.tid := rfl
@[simp] theorem State.setHbr_gates (x : HbrSt) : (s.setHbr x).gates = s.gates := rfl
@[simp] theorem State.setHbr_bth (x : HbrSt) : (s.setHbr x).bth = s.bth := rfl
@[simp] theorem State.setHbr_sgw (x : HbrSt) : (s.setHbr x).sgw = s.sgw := rfl
@[simp] theorem State.setHbr_lkp (x : HbrSt) : (s.setHbr x).lkp = s.lkp := rfl
@[simp] theorem State.setHbr_quays (x : HbrSt) : (s.setHbr x).quays = s.quays := rfl
@[simp] theorem State.setHbr_fronts (x : HbrSt) : (s.setHbr x).fronts = s.fronts := rfl
@[simp] theorem State.setHbr_pwk (x : HbrSt) : (s.setHbr x).pwk = s.pwk := rfl
@[simp] theorem State.setHbr_hck (x : HbrSt) : (s.setHbr x).hck = s.hck := rfl
@[simp] theorem State.setHbr_lgr (x : HbrSt) : (s.setHbr x).lgr = s.lgr := rfl
@[simp] theorem State.setHbr_cph (x : HbrSt) : (s.setHbr x).cph = s.cph := rfl
@[simp] theorem State.setHbr_kwl (x : HbrSt) : (s.setHbr x).kwl = s.kwl := rfl
@[simp] theorem State.setHbr_hbr (x : HbrSt) : (s.setHbr x).hbr = x := rfl
@[simp] theorem State.setHbr_sup (x : HbrSt) : (s.setHbr x).sup = s.sup := rfl
@[simp] theorem State.setHbr_ret (x : HbrSt) : (s.setHbr x).ret = s.ret := rfl
@[simp] theorem State.setHbr_pending (x : HbrSt) : (s.setHbr x).pending = s.pending := rfl
@[simp] theorem State.setHbr_rd (x : HbrSt) (g : Fld) (jx : List Nat) : (s.setHbr x).rd g jx = s.rd g jx := rfl

@[simp] theorem State.setSup_regs (x : SupSt) : (s.setSup x).regs = s.regs := rfl
@[simp] theorem State.setSup_staged (x : SupSt) : (s.setSup x).staged = s.staged := rfl
@[simp] theorem State.setSup_commits (x : SupSt) : (s.setSup x).commits = s.commits := rfl
@[simp] theorem State.setSup_discards (x : SupSt) : (s.setSup x).discards = s.discards := rfl
@[simp] theorem State.setSup_spoiled (x : SupSt) : (s.setSup x).spoiled = s.spoiled := rfl
@[simp] theorem State.setSup_now (x : SupSt) : (s.setSup x).now = s.now := rfl
@[simp] theorem State.setSup_count (x : SupSt) : (s.setSup x).count = s.count := rfl
@[simp] theorem State.setSup_bnd (x : SupSt) : (s.setSup x).bnd = s.bnd := rfl
@[simp] theorem State.setSup_mode (x : SupSt) : (s.setSup x).mode = s.mode := rfl
@[simp] theorem State.setSup_errLines (x : SupSt) : (s.setSup x).errLines = s.errLines := rfl
@[simp] theorem State.setSup_logLines (x : SupSt) : (s.setSup x).logLines = s.logLines := rfl
@[simp] theorem State.setSup_outs (x : SupSt) : (s.setSup x).outs = s.outs := rfl
@[simp] theorem State.setSup_freeCtr (x : SupSt) : (s.setSup x).freeCtr = s.freeCtr := rfl
@[simp] theorem State.setSup_cst (x : SupSt) : (s.setSup x).cst = s.cst := rfl
@[simp] theorem State.setSup_planes (x : SupSt) : (s.setSup x).planes = s.planes := rfl
@[simp] theorem State.setSup_switchGen (x : SupSt) : (s.setSup x).switchGen = s.switchGen := rfl
@[simp] theorem State.setSup_tid (x : SupSt) : (s.setSup x).tid = s.tid := rfl
@[simp] theorem State.setSup_gates (x : SupSt) : (s.setSup x).gates = s.gates := rfl
@[simp] theorem State.setSup_bth (x : SupSt) : (s.setSup x).bth = s.bth := rfl
@[simp] theorem State.setSup_sgw (x : SupSt) : (s.setSup x).sgw = s.sgw := rfl
@[simp] theorem State.setSup_lkp (x : SupSt) : (s.setSup x).lkp = s.lkp := rfl
@[simp] theorem State.setSup_quays (x : SupSt) : (s.setSup x).quays = s.quays := rfl
@[simp] theorem State.setSup_fronts (x : SupSt) : (s.setSup x).fronts = s.fronts := rfl
@[simp] theorem State.setSup_pwk (x : SupSt) : (s.setSup x).pwk = s.pwk := rfl
@[simp] theorem State.setSup_hck (x : SupSt) : (s.setSup x).hck = s.hck := rfl
@[simp] theorem State.setSup_lgr (x : SupSt) : (s.setSup x).lgr = s.lgr := rfl
@[simp] theorem State.setSup_cph (x : SupSt) : (s.setSup x).cph = s.cph := rfl
@[simp] theorem State.setSup_kwl (x : SupSt) : (s.setSup x).kwl = s.kwl := rfl
@[simp] theorem State.setSup_hbr (x : SupSt) : (s.setSup x).hbr = s.hbr := rfl
@[simp] theorem State.setSup_sup (x : SupSt) : (s.setSup x).sup = x := rfl
@[simp] theorem State.setSup_ret (x : SupSt) : (s.setSup x).ret = s.ret := rfl
@[simp] theorem State.setSup_pending (x : SupSt) : (s.setSup x).pending = s.pending := rfl
@[simp] theorem State.setSup_rd (x : SupSt) (g : Fld) (jx : List Nat) : (s.setSup x).rd g jx = s.rd g jx := rfl

@[simp] theorem State.setRet_regs (x : RetSt) : (s.setRet x).regs = s.regs := rfl
@[simp] theorem State.setRet_staged (x : RetSt) : (s.setRet x).staged = s.staged := rfl
@[simp] theorem State.setRet_commits (x : RetSt) : (s.setRet x).commits = s.commits := rfl
@[simp] theorem State.setRet_discards (x : RetSt) : (s.setRet x).discards = s.discards := rfl
@[simp] theorem State.setRet_spoiled (x : RetSt) : (s.setRet x).spoiled = s.spoiled := rfl
@[simp] theorem State.setRet_now (x : RetSt) : (s.setRet x).now = s.now := rfl
@[simp] theorem State.setRet_count (x : RetSt) : (s.setRet x).count = s.count := rfl
@[simp] theorem State.setRet_bnd (x : RetSt) : (s.setRet x).bnd = s.bnd := rfl
@[simp] theorem State.setRet_mode (x : RetSt) : (s.setRet x).mode = s.mode := rfl
@[simp] theorem State.setRet_errLines (x : RetSt) : (s.setRet x).errLines = s.errLines := rfl
@[simp] theorem State.setRet_logLines (x : RetSt) : (s.setRet x).logLines = s.logLines := rfl
@[simp] theorem State.setRet_outs (x : RetSt) : (s.setRet x).outs = s.outs := rfl
@[simp] theorem State.setRet_freeCtr (x : RetSt) : (s.setRet x).freeCtr = s.freeCtr := rfl
@[simp] theorem State.setRet_cst (x : RetSt) : (s.setRet x).cst = s.cst := rfl
@[simp] theorem State.setRet_planes (x : RetSt) : (s.setRet x).planes = s.planes := rfl
@[simp] theorem State.setRet_switchGen (x : RetSt) : (s.setRet x).switchGen = s.switchGen := rfl
@[simp] theorem State.setRet_tid (x : RetSt) : (s.setRet x).tid = s.tid := rfl
@[simp] theorem State.setRet_gates (x : RetSt) : (s.setRet x).gates = s.gates := rfl
@[simp] theorem State.setRet_bth (x : RetSt) : (s.setRet x).bth = s.bth := rfl
@[simp] theorem State.setRet_sgw (x : RetSt) : (s.setRet x).sgw = s.sgw := rfl
@[simp] theorem State.setRet_lkp (x : RetSt) : (s.setRet x).lkp = s.lkp := rfl
@[simp] theorem State.setRet_quays (x : RetSt) : (s.setRet x).quays = s.quays := rfl
@[simp] theorem State.setRet_fronts (x : RetSt) : (s.setRet x).fronts = s.fronts := rfl
@[simp] theorem State.setRet_pwk (x : RetSt) : (s.setRet x).pwk = s.pwk := rfl
@[simp] theorem State.setRet_hck (x : RetSt) : (s.setRet x).hck = s.hck := rfl
@[simp] theorem State.setRet_lgr (x : RetSt) : (s.setRet x).lgr = s.lgr := rfl
@[simp] theorem State.setRet_cph (x : RetSt) : (s.setRet x).cph = s.cph := rfl
@[simp] theorem State.setRet_kwl (x : RetSt) : (s.setRet x).kwl = s.kwl := rfl
@[simp] theorem State.setRet_hbr (x : RetSt) : (s.setRet x).hbr = s.hbr := rfl
@[simp] theorem State.setRet_sup (x : RetSt) : (s.setRet x).sup = s.sup := rfl
@[simp] theorem State.setRet_ret (x : RetSt) : (s.setRet x).ret = x := rfl
@[simp] theorem State.setRet_pending (x : RetSt) : (s.setRet x).pending = s.pending := rfl
@[simp] theorem State.setRet_rd (x : RetSt) (g : Fld) (jx : List Nat) : (s.setRet x).rd g jx = s.rd g jx := rfl

end Sys2Proof.Machine
end

