-- ==== Sys2Proof/Laws/Reg.lean ====
section
/-! SUPPORT. Reading fields after the operations that write them. -/

namespace Sys2Proof.Machine

variable {m : Nat} {a b s : State}

theorem State.rd_lt (s : State) (f : Fld) (ix : List Nat) : s.rd f ix < 2 ^ f.width := Nat.mod_lt _ (Nat.two_pow_pos _)

@[simp] theorem RegFile.get_set (r : RegFile) (f : Fld) (ix : List Nat) (v : Nat) : (r.set f ix v).get f ix = v % 2 ^ f.width := by
  simp [RegFile.get, RegFile.set]

theorem RegFile.get_set_ne (r : RegFile) {f g : Fld} {ix jx : List Nat} (v : Nat) (h : g.key jx ≠ f.key ix) :
    (r.set f ix v).get g jx = r.get g jx := by
  simp only [RegFile.get, RegFile.set]
  rw [SMap.getD_setD_ne _ _ _ _ h]

@[simp] theorem State.wr_regs (s : State) (f : Fld) (ix : List Nat) (v : Nat) : (s.wr f ix v).regs = s.regs.set f ix v := rfl

theorem State.bump_regs (s : State) (f : Fld) (ix : List Nat) :
    (s.bump f ix).regs = s.regs.set f ix (min (s.rd f ix + 1) (2 ^ f.width - 1)) := rfl

@[simp] theorem State.rd_wr (s : State) (f : Fld) (ix : List Nat) (v : Nat) : (s.wr f ix v).rd f ix = v % 2 ^ f.width :=
  RegFile.get_set _ _ _ _

theorem State.rd_wr_ne (s : State) {f g : Fld} {ix jx : List Nat} (v : Nat) (h : g.key jx ≠ f.key ix) :
    (s.wr f ix v).rd g jx = s.rd g jx := RegFile.get_set_ne _ _ h

/-- A value that fits its field is read back. -/
theorem State.rd_wr_fits (s : State) {f : Fld} {ix : List Nat} {v : Nat} (h : v < 2 ^ f.width) : (s.wr f ix v).rd f ix = v := by
  rw [State.rd_wr, Nat.mod_eq_of_lt h]

@[simp] theorem State.on_wr_one (s : State) {f : Fld} {ix : List Nat} (h : 0 < f.width) : (s.wr f ix 1).on f ix = true := by
  have : 1 < 2 ^ f.width := Nat.one_lt_two_pow (by omega)
  simp [State.on, Nat.mod_eq_of_lt this]

@[simp] theorem State.on_wr_zero (s : State) (f : Fld) (ix : List Nat) : (s.wr f ix 0).on f ix = false := by
  simp [State.on]

theorem State.rd_bump (s : State) (f : Fld) (ix : List Nat) : (s.bump f ix).rd f ix = min (s.rd f ix + 1) (2 ^ f.width - 1) := by
  have : 0 < 2 ^ f.width := Nat.two_pow_pos _
  rw [State.bump, State.bumpBy, State.rd_wr_fits]
  omega

theorem State.rd_bump_ne (s : State) {f g : Fld} {ix jx : List Nat} (h : g.key jx ≠ f.key ix) : (s.bump f ix).rd g jx = s.rd g jx :=
  s.rd_wr_ne _ h

theorem Fld.key_ne_of_home {f g : Fld} {ix jx : List Nat} (h : f.home ix ≠ g.home jx) : f.key ix ≠ g.key jx := fun e =>
  h (by rw [← Fld.key_div, e, Fld.key_div])

theorem Fld.key_ne_of_addr {f g : Fld} {ix jx : List Nat} (h : f.addr ix % 2 ^ 40 ≠ g.addr jx % 2 ^ 40) : f.key ix ≠ g.key jx := fun e =>
  h (by
    have := congrArg (· % 2 ^ 40) e
    simpa only [Fld.key, Nat.mul_add_mod_self_right, Nat.mod_mod] using this)

/-- What changes only the parts of a mask leaves the fields of the other parts. -/
theorem Same.rd {f : Fld} {ix : List Nat} (h : Same m a b) (hm : m.testBit (f.home ix) = false) : b.rd f ix = a.rd f ix := by
  unfold State.rd RegFile.get SMap.getD
  rw [h.regs _ (Fld.home_lt f ix) hm _ (Fld.key_div f ix)]

/-- A field read after a chain of changes to other parts. -/
theorem Same.on {f : Fld} {ix : List Nat} (h : Same m a b) (hm : m.testBit (f.home ix) = false) : b.on f ix = a.on f ix := by
  rw [State.on, State.on, h.rd hm]

/-! ### Fields of the common header, and interrupts -/

/-- A field of the common header: one of each page, 4 KiB apart. -/
structure Fld.Header (f : Fld) : Prop where
  base : f.base < 0x80
  lo : f.lo < 32
  dims : ∃ a n, f.dims = [⟨a, n, 32768⟩]

theorem Fld.Header.addr {f : Fld} (h : f.Header) (pg : Nat) : f.addr [pg] % 32768 < 0x80 * 8 + 32 := by
  obtain ⟨hb, hl, a, n, hd⟩ := h
  simp only [Fld.addr, hd, dimOffset]
  omega

theorem Fld.Header.key_ne_dev {f : Fld} (h : f.Header) (pg : Nat) {g : Fld} {jx : List Nat} (hg : 0x80 * 8 + 32 ≤ g.addr jx % 32768) :
    f.key [pg] ≠ g.key jx := Fld.key_ne_of_addr (by have := h.addr pg; omega)

theorem State.irqSum_rd_header (s : State) (p : Nat) {f : Fld} (h : f.Header) (pg : Nat) : (s.irqSum p).rd f [pg] = s.rd f [pg] := by
  unfold State.irqSum
  split
  · rfl
  · split
    · extract_lets q g old
      refine s.rd_wr_ne _ (h.key_ne_dev pg ?_)
      by_cases hq : q < 32
      · simp only [g, if_pos hq]; decide
      · simp only [g, if_neg hq]; decide
    · exact s.rd_wr_ne _ (h.key_ne_dev pg (by decide))

theorem State.msix_rd_header (s : State) {v : Nat} (hv : v < 64) {f : Fld} (h : f.Header) (pg : Nat) : (s.msix v).rd f [pg] = s.rd f [pg] := by
  unfold State.msix
  split
  · refine s.rd_wr_ne _ (h.key_ne_dev pg ?_)
    simp only [Fld.addr, HBR_MSIX_PBA_PEND, dimOffset]
    omega
  · rfl

theorem State.irqMessage_rd_header (s : State) (p : Nat) {f : Fld} (h : f.Header) (pg : Nat) :
    (s.irqMessage p).rd f [pg] = s.rd f [pg] := by
  unfold State.irqMessage
  split
  · exact s.msix_rd_header (s.rd_lt IRQ_ROUTE_VECTOR [p]) h pg
  · rfl

theorem State.setPend_rd_header (s : State) (p v : Nat) {f : Fld} (h : f.Header) {pg : Nat} (hk : f.key [pg] ≠ IRQ_PEND_PEND.key [p]) :
    (s.setPend p v).rd f [pg] = s.rd f [pg] := by
  unfold State.setPend
  extract_lets old t
  have ht : t.rd f [pg] = s.rd f [pg] := (State.irqSum_rd_header _ p h pg).trans (s.rd_wr_ne _ hk)
  split
  · exact (t.irqMessage_rd_header p h pg).trans ht
  · exact ht

theorem irq_pend_header : IRQ_PEND_PEND.Header := ⟨by decide, by decide, _, _, rfl⟩

theorem State.setPend_pend (s : State) (p v : Nat) : (s.setPend p v).rd IRQ_PEND_PEND [p] = v % 2 ^ 32 := by
  unfold State.setPend
  extract_lets old t
  have ht : t.rd IRQ_PEND_PEND [p] = v % 2 ^ 32 := (State.irqSum_rd_header _ p irq_pend_header p).trans (s.rd_wr _ _ _)
  split
  · exact (t.irqMessage_rd_header p irq_pend_header p).trans ht
  · exact ht

theorem State.irq_rd_header (s : State) (p b : Nat) {f : Fld} (h : f.Header) {pg : Nat} (hk : f.key [pg] ≠ IRQ_PEND_PEND.key [p]) :
    (s.irq p b).rd f [pg] = s.rd f [pg] := by
  unfold State.irq
  split
  · exact s.setPend_rd_header p _ h hk
  · rfl

theorem bitOf_setBitOf (v b : Nat) : bitOf (setBitOf v b) b = 1 := by
  have h : (v ||| 2 ^ b).testBit b = true := by simp
  rw [Nat.testBit_eq_decide_div_mod_eq] at h
  exact of_decide_eq_true h

theorem bitOf_mod (v : Nat) {b n : Nat} (h : b < n) : bitOf (v % 2 ^ n) b = bitOf v b := by
  have h2 : (v % 2 ^ n).testBit b = v.testBit b := by simp [Nat.testBit_mod_two_pow, h]
  rw [Nat.testBit_eq_decide_div_mod_eq, Nat.testBit_eq_decide_div_mod_eq, decide_eq_decide] at h2
  unfold bitOf
  have := Nat.mod_two_eq_zero_or_one (v % 2 ^ n / 2 ^ b)
  have := Nat.mod_two_eq_zero_or_one (v / 2 ^ b)
  omega

/-- A source that has an event is in IRQ_PEND if its enable is 1 (R70). -/
theorem State.irq_raised (s : State) {p b : Nat} (hb : b < 32) : Raised p b s (s.irq p b) := fun he => by
  rw [State.irq, if_pos he, State.setPend_pend, bitOf_mod _ hb, bitOf_setBitOf]

/-- An interrupt changes no field outside the page's header, the pending registers of the device page and the bridge. -/
theorem State.irq_rd (s : State) (p b : Nat) {f : Fld} {ix : List Nat} (hh : f.home ix ≠ headHome p) (hd : f.home ix ≠ 3) (hb : f.home ix ≠ 1) :
    (s.irq p b).rd f ix = s.rd f ix := by
  have hp : ∀ {m : Nat}, m = 2 ^ headHome p ||| 2 ^ 3 ||| 2 ^ 1 ||| 2 ^ 31 → Same m s (s.irq p b) := fun e => by
    subst e
    exact State.irq_same (.refl _ _) (by rw [Nat.testBit_or, Nat.testBit_or, Nat.testBit_or, Nat.testBit_two_pow_self]; rfl)
      (by rw [Nat.testBit_or, Nat.testBit_or, Nat.testBit_or, Nat.testBit_two_pow_self, Bool.or_true]; rfl)
      (by rw [Nat.testBit_or, Nat.testBit_or, Nat.testBit_two_pow_self, Bool.or_true]; rfl)
      (by rw [Nat.testBit_or, Nat.testBit_two_pow_self, Bool.or_true])
  have hl := Fld.home_lt f ix
  refine (hp rfl).rd ?_
  rw [Nat.testBit_or, Nat.testBit_or, Nat.testBit_or, Nat.testBit_two_pow_of_ne hh.symm, Nat.testBit_two_pow_of_ne hd.symm,
    Nat.testBit_two_pow_of_ne hb.symm, Nat.testBit_two_pow_of_ne (by omega)]
  rfl

theorem State.irq_get (s : State) (p b : Nat) {f : Fld} {ix : List Nat} (hh : f.home ix ≠ headHome p) (hd : f.home ix ≠ 3) (hb : f.home ix ≠ 1) :
    (s.irq p b).regs.get f ix = s.regs.get f ix := s.irq_rd p b hh hd hb

/-- A field reads what the register file holds. -/
theorem State.rd_regs (s : State) (f : Fld) (ix : List Nat) : s.rd f ix = s.regs.get f ix := rfl

end Sys2Proof.Machine
end

