-- ==== Sys2Proof/Laws/Ops.lean ====
section
/-! SUPPORT. What the shared operations leave alone: for each of counting, setting a bit, raising an interrupt, taking a condition's level,
an error and a report to the log recorder, one lemma per part of the state, and the fields of the register file that an interrupt and an
error leave. -/

namespace Sys2Proof.Machine

variable (s : State)

@[simp] theorem State.bumpBy_staged (f : Fld) (ix : List Nat) (n : Nat) : (s.bumpBy f ix n).staged = s.staged := rfl
@[simp] theorem State.bumpBy_commits (f : Fld) (ix : List Nat) (n : Nat) : (s.bumpBy f ix n).commits = s.commits := rfl
@[simp] theorem State.bumpBy_discards (f : Fld) (ix : List Nat) (n : Nat) : (s.bumpBy f ix n).discards = s.discards := rfl
@[simp] theorem State.bumpBy_spoiled (f : Fld) (ix : List Nat) (n : Nat) : (s.bumpBy f ix n).spoiled = s.spoiled := rfl
@[simp] theorem State.bumpBy_now (f : Fld) (ix : List Nat) (n : Nat) : (s.bumpBy f ix n).now = s.now := rfl
@[simp] theorem State.bumpBy_count (f : Fld) (ix : List Nat) (n : Nat) : (s.bumpBy f ix n).count = s.count := rfl
@[simp] theorem State.bumpBy_bnd (f : Fld) (ix : List Nat) (n : Nat) : (s.bumpBy f ix n).bnd = s.bnd := rfl
@[simp] theorem State.bumpBy_mode (f : Fld) (ix : List Nat) (n : Nat) : (s.bumpBy f ix n).mode = s.mode := rfl
@[simp] theorem State.bumpBy_errLines (f : Fld) (ix : List Nat) (n : Nat) : (s.bumpBy f ix n).errLines = s.errLines := rfl
@[simp] theorem State.bumpBy_logLines (f : Fld) (ix : List Nat) (n : Nat) : (s.bumpBy f ix n).logLines = s.logLines := rfl
@[simp] theorem State.bumpBy_outs (f : Fld) (ix : List Nat) (n : Nat) : (s.bumpBy f ix n).outs = s.outs := rfl
@[simp] theorem State.bumpBy_freeCtr (f : Fld) (ix : List Nat) (n : Nat) : (s.bumpBy f ix n).freeCtr = s.freeCtr := rfl
@[simp] theorem State.bumpBy_cst (f : Fld) (ix : List Nat) (n : Nat) : (s.bumpBy f ix n).cst = s.cst := rfl
@[simp] theorem State.bumpBy_planes (f : Fld) (ix : List Nat) (n : Nat) : (s.bumpBy f ix n).planes = s.planes := rfl
@[simp] theorem State.bumpBy_switchGen (f : Fld) (ix : List Nat) (n : Nat) : (s.bumpBy f ix n).switchGen = s.switchGen := rfl
@[simp] theorem State.bumpBy_tid (f : Fld) (ix : List Nat) (n : Nat) : (s.bumpBy f ix n).tid = s.tid := rfl
@[simp] theorem State.bumpBy_gates (f : Fld) (ix : List Nat) (n : Nat) : (s.bumpBy f ix n).gates = s.gates := rfl
@[simp] theorem State.bumpBy_bth (f : Fld) (ix : List Nat) (n : Nat) : (s.bumpBy f ix n).bth = s.bth := rfl
@[simp] theorem State.bumpBy_sgw (f : Fld) (ix : List Nat) (n : Nat) : (s.bumpBy f ix n).sgw = s.sgw := rfl
@[simp] theorem State.bumpBy_lkp (f : Fld) (ix : List Nat) (n : Nat) : (s.bumpBy f ix n).lkp = s.lkp := rfl
@[simp] theorem State.bumpBy_quays (f : Fld) (ix : List Nat) (n : Nat) : (s.bumpBy f ix n).quays = s.quays := rfl
@[simp] theorem State.bumpBy_fronts (f : Fld) (ix : List Nat) (n : Nat) : (s.bumpBy f ix n).fronts = s.fronts := rfl
@[simp] theorem State.bumpBy_pwk (f : Fld) (ix : List Nat) (n : Nat) : (s.bumpBy f ix n).pwk = s.pwk := rfl
@[simp] theorem State.bumpBy_hck (f : Fld) (ix : List Nat) (n : Nat) : (s.bumpBy f ix n).hck = s.hck := rfl
@[simp] theorem State.bumpBy_lgr (f : Fld) (ix : List Nat) (n : Nat) : (s.bumpBy f ix n).lgr = s.lgr := rfl
@[simp] theorem State.bumpBy_cph (f : Fld) (ix : List Nat) (n : Nat) : (s.bumpBy f ix n).cph = s.cph := rfl
@[simp] theorem State.bumpBy_kwl (f : Fld) (ix : List Nat) (n : Nat) : (s.bumpBy f ix n).kwl = s.kwl := rfl
@[simp] theorem State.bumpBy_hbr (f : Fld) (ix : List Nat) (n : Nat) : (s.bumpBy f ix n).hbr = s.hbr := rfl
@[simp] theorem State.bumpBy_sup (f : Fld) (ix : List Nat) (n : Nat) : (s.bumpBy f ix n).sup = s.sup := rfl
@[simp] theorem State.bumpBy_ret (f : Fld) (ix : List Nat) (n : Nat) : (s.bumpBy f ix n).ret = s.ret := rfl
@[simp] theorem State.bumpBy_pending (f : Fld) (ix : List Nat) (n : Nat) : (s.bumpBy f ix n).pending = s.pending := rfl

@[simp] theorem State.bump_staged (f : Fld) (ix : List Nat) : (s.bump f ix).staged = s.staged := rfl
@[simp] theorem State.bump_commits (f : Fld) (ix : List Nat) : (s.bump f ix).commits = s.commits := rfl
@[simp] theorem State.bump_discards (f : Fld) (ix : List Nat) : (s.bump f ix).discards = s.discards := rfl
@[simp] theorem State.bump_spoiled (f : Fld) (ix : List Nat) : (s.bump f ix).spoiled = s.spoiled := rfl
@[simp] theorem State.bump_now (f : Fld) (ix : List Nat) : (s.bump f ix).now = s.now := rfl
@[simp] theorem State.bump_count (f : Fld) (ix : List Nat) : (s.bump f ix).count = s.count := rfl
@[simp] theorem State.bump_bnd (f : Fld) (ix : List Nat) : (s.bump f ix).bnd = s.bnd := rfl
@[simp] theorem State.bump_mode (f : Fld) (ix : List Nat) : (s.bump f ix).mode = s.mode := rfl
@[simp] theorem State.bump_errLines (f : Fld) (ix : List Nat) : (s.bump f ix).errLines = s.errLines := rfl
@[simp] theorem State.bump_logLines (f : Fld) (ix : List Nat) : (s.bump f ix).logLines = s.logLines := rfl
@[simp] theorem State.bump_outs (f : Fld) (ix : List Nat) : (s.bump f ix).outs = s.outs := rfl
@[simp] theorem State.bump_freeCtr (f : Fld) (ix : List Nat) : (s.bump f ix).freeCtr = s.freeCtr := rfl
@[simp] theorem State.bump_cst (f : Fld) (ix : List Nat) : (s.bump f ix).cst = s.cst := rfl
@[simp] theorem State.bump_planes (f : Fld) (ix : List Nat) : (s.bump f ix).planes = s.planes := rfl
@[simp] theorem State.bump_switchGen (f : Fld) (ix : List Nat) : (s.bump f ix).switchGen = s.switchGen := rfl
@[simp] theorem State.bump_tid (f : Fld) (ix : List Nat) : (s.bump f ix).tid = s.tid := rfl
@[simp] theorem State.bump_gates (f : Fld) (ix : List Nat) : (s.bump f ix).gates = s.gates := rfl
@[simp] theorem State.bump_bth (f : Fld) (ix : List Nat) : (s.bump f ix).bth = s.bth := rfl
@[simp] theorem State.bump_sgw (f : Fld) (ix : List Nat) : (s.bump f ix).sgw = s.sgw := rfl
@[simp] theorem State.bump_lkp (f : Fld) (ix : List Nat) : (s.bump f ix).lkp = s.lkp := rfl
@[simp] theorem State.bump_quays (f : Fld) (ix : List Nat) : (s.bump f ix).quays = s.quays := rfl
@[simp] theorem State.bump_fronts (f : Fld) (ix : List Nat) : (s.bump f ix).fronts = s.fronts := rfl
@[simp] theorem State.bump_pwk (f : Fld) (ix : List Nat) : (s.bump f ix).pwk = s.pwk := rfl
@[simp] theorem State.bump_hck (f : Fld) (ix : List Nat) : (s.bump f ix).hck = s.hck := rfl
@[simp] theorem State.bump_lgr (f : Fld) (ix : List Nat) : (s.bump f ix).lgr = s.lgr := rfl
@[simp] theorem State.bump_cph (f : Fld) (ix : List Nat) : (s.bump f ix).cph = s.cph := rfl
@[simp] theorem State.bump_kwl (f : Fld) (ix : List Nat) : (s.bump f ix).kwl = s.kwl := rfl
@[simp] theorem State.bump_hbr (f : Fld) (ix : List Nat) : (s.bump f ix).hbr = s.hbr := rfl
@[simp] theorem State.bump_sup (f : Fld) (ix : List Nat) : (s.bump f ix).sup = s.sup := rfl
@[simp] theorem State.bump_ret (f : Fld) (ix : List Nat) : (s.bump f ix).ret = s.ret := rfl
@[simp] theorem State.bump_pending (f : Fld) (ix : List Nat) : (s.bump f ix).pending = s.pending := rfl

@[simp] theorem State.setB_staged (f : Fld) (ix : List Nat) (b : Bool) : (s.setB f ix b).staged = s.staged := rfl
@[simp] theorem State.setB_commits (f : Fld) (ix : List Nat) (b : Bool) : (s.setB f ix b).commits = s.commits := rfl
@[simp] theorem State.setB_discards (f : Fld) (ix : List Nat) (b : Bool) : (s.setB f ix b).discards = s.discards := rfl
@[simp] theorem State.setB_spoiled (f : Fld) (ix : List Nat) (b : Bool) : (s.setB f ix b).spoiled = s.spoiled := rfl
@[simp] theorem State.setB_now (f : Fld) (ix : List Nat) (b : Bool) : (s.setB f ix b).now = s.now := rfl
@[simp] theorem State.setB_count (f : Fld) (ix : List Nat) (b : Bool) : (s.setB f ix b).count = s.count := rfl
@[simp] theorem State.setB_bnd (f : Fld) (ix : List Nat) (b : Bool) : (s.setB f ix b).bnd = s.bnd := rfl
@[simp] theorem State.setB_mode (f : Fld) (ix : List Nat) (b : Bool) : (s.setB f ix b).mode = s.mode := rfl
@[simp] theorem State.setB_errLines (f : Fld) (ix : List Nat) (b : Bool) : (s.setB f ix b).errLines = s.errLines := rfl
@[simp] theorem State.setB_logLines (f : Fld) (ix : List Nat) (b : Bool) : (s.setB f ix b).logLines = s.logLines := rfl
@[simp] theorem State.setB_outs (f : Fld) (ix : List Nat) (b : Bool) : (s.setB f ix b).outs = s.outs := rfl
@[simp] theorem State.setB_freeCtr (f : Fld) (ix : List Nat) (b : Bool) : (s.setB f ix b).freeCtr = s.freeCtr := rfl
@[simp] theorem State.setB_cst (f : Fld) (ix : List Nat) (b : Bool) : (s.setB f ix b).cst = s.cst := rfl
@[simp] theorem State.setB_planes (f : Fld) (ix : List Nat) (b : Bool) : (s.setB f ix b).planes = s.planes := rfl
@[simp] theorem State.setB_switchGen (f : Fld) (ix : List Nat) (b : Bool) : (s.setB f ix b).switchGen = s.switchGen := rfl
@[simp] theorem State.setB_tid (f : Fld) (ix : List Nat) (b : Bool) : (s.setB f ix b).tid = s.tid := rfl
@[simp] theorem State.setB_gates (f : Fld) (ix : List Nat) (b : Bool) : (s.setB f ix b).gates = s.gates := rfl
@[simp] theorem State.setB_bth (f : Fld) (ix : List Nat) (b : Bool) : (s.setB f ix b).bth = s.bth := rfl
@[simp] theorem State.setB_sgw (f : Fld) (ix : List Nat) (b : Bool) : (s.setB f ix b).sgw = s.sgw := rfl
@[simp] theorem State.setB_lkp (f : Fld) (ix : List Nat) (b : Bool) : (s.setB f ix b).lkp = s.lkp := rfl
@[simp] theorem State.setB_quays (f : Fld) (ix : List Nat) (b : Bool) : (s.setB f ix b).quays = s.quays := rfl
@[simp] theorem State.setB_fronts (f : Fld) (ix : List Nat) (b : Bool) : (s.setB f ix b).fronts = s.fronts := rfl
@[simp] theorem State.setB_pwk (f : Fld) (ix : List Nat) (b : Bool) : (s.setB f ix b).pwk = s.pwk := rfl
@[simp] theorem State.setB_hck (f : Fld) (ix : List Nat) (b : Bool) : (s.setB f ix b).hck = s.hck := rfl
@[simp] theorem State.setB_lgr (f : Fld) (ix : List Nat) (b : Bool) : (s.setB f ix b).lgr = s.lgr := rfl
@[simp] theorem State.setB_cph (f : Fld) (ix : List Nat) (b : Bool) : (s.setB f ix b).cph = s.cph := rfl
@[simp] theorem State.setB_kwl (f : Fld) (ix : List Nat) (b : Bool) : (s.setB f ix b).kwl = s.kwl := rfl
@[simp] theorem State.setB_hbr (f : Fld) (ix : List Nat) (b : Bool) : (s.setB f ix b).hbr = s.hbr := rfl
@[simp] theorem State.setB_sup (f : Fld) (ix : List Nat) (b : Bool) : (s.setB f ix b).sup = s.sup := rfl
@[simp] theorem State.setB_ret (f : Fld) (ix : List Nat) (b : Bool) : (s.setB f ix b).ret = s.ret := rfl
@[simp] theorem State.setB_pending (f : Fld) (ix : List Nat) (b : Bool) : (s.setB f ix b).pending = s.pending := rfl

@[simp] theorem State.bump64_staged (hi lo : Fld) (ix : List Nat) (n : Nat) : (s.bump64 hi lo ix n).staged = s.staged :=
  (State.bump64_same (m := 0xfffffffdfffff) (.refl _ s) (any_home rfl) (any_home rfl)).staged rfl
@[simp] theorem State.bump64_commits (hi lo : Fld) (ix : List Nat) (n : Nat) : (s.bump64 hi lo ix n).commits = s.commits :=
  (State.bump64_same (m := 0xfffffffbfffff) (.refl _ s) (any_home rfl) (any_home rfl)).commits rfl
@[simp] theorem State.bump64_discards (hi lo : Fld) (ix : List Nat) (n : Nat) : (s.bump64 hi lo ix n).discards = s.discards :=
  (State.bump64_same (m := 0xfffffff7fffff) (.refl _ s) (any_home rfl) (any_home rfl)).discards rfl
@[simp] theorem State.bump64_spoiled (hi lo : Fld) (ix : List Nat) (n : Nat) : (s.bump64 hi lo ix n).spoiled = s.spoiled :=
  (State.bump64_same (m := 0xffffffeffffff) (.refl _ s) (any_home rfl) (any_home rfl)).spoiled rfl
@[simp] theorem State.bump64_now (hi lo : Fld) (ix : List Nat) (n : Nat) : (s.bump64 hi lo ix n).now = s.now :=
  (State.bump64_same (m := 0xffffffdffffff) (.refl _ s) (any_home rfl) (any_home rfl)).now rfl
@[simp] theorem State.bump64_count (hi lo : Fld) (ix : List Nat) (n : Nat) : (s.bump64 hi lo ix n).count = s.count :=
  (State.bump64_same (m := 0xffffffbffffff) (.refl _ s) (any_home rfl) (any_home rfl)).count rfl
@[simp] theorem State.bump64_bnd (hi lo : Fld) (ix : List Nat) (n : Nat) : (s.bump64 hi lo ix n).bnd = s.bnd :=
  (State.bump64_same (m := 0xffffff7ffffff) (.refl _ s) (any_home rfl) (any_home rfl)).bnd rfl
@[simp] theorem State.bump64_mode (hi lo : Fld) (ix : List Nat) (n : Nat) : (s.bump64 hi lo ix n).mode = s.mode :=
  (State.bump64_same (m := 0xfffffefffffff) (.refl _ s) (any_home rfl) (any_home rfl)).mode rfl
@[simp] theorem State.bump64_errLines (hi lo : Fld) (ix : List Nat) (n : Nat) : (s.bump64 hi lo ix n).errLines = s.errLines :=
  (State.bump64_same (m := 0xfffffdfffffff) (.refl _ s) (any_home rfl) (any_home rfl)).errLines rfl
@[simp] theorem State.bump64_logLines (hi lo : Fld) (ix : List Nat) (n : Nat) : (s.bump64 hi lo ix n).logLines = s.logLines :=
  (State.bump64_same (m := 0xfffffbfffffff) (.refl _ s) (any_home rfl) (any_home rfl)).logLines rfl
@[simp] theorem State.bump64_outs (hi lo : Fld) (ix : List Nat) (n : Nat) : (s.bump64 hi lo ix n).outs = s.outs :=
  (State.bump64_same (m := 0xfffff7fffffff) (.refl _ s) (any_home rfl) (any_home rfl)).outs rfl
@[simp] theorem State.bump64_freeCtr (hi lo : Fld) (ix : List Nat) (n : Nat) : (s.bump64 hi lo ix n).freeCtr = s.freeCtr :=
  (State.bump64_same (m := 0xffffeffffffff) (.refl _ s) (any_home rfl) (any_home rfl)).freeCtr rfl
@[simp] theorem State.bump64_cst (hi lo : Fld) (ix : List Nat) (n : Nat) : (s.bump64 hi lo ix n).cst = s.cst :=
  (State.bump64_same (m := 0xffffdffffffff) (.refl _ s) (any_home rfl) (any_home rfl)).cst rfl
@[simp] theorem State.bump64_planes (hi lo : Fld) (ix : List Nat) (n : Nat) : (s.bump64 hi lo ix n).planes = s.planes :=
  (State.bump64_same (m := 0xffffbffffffff) (.refl _ s) (any_home rfl) (any_home rfl)).planes rfl
@[simp] theorem State.bump64_switchGen (hi lo : Fld) (ix : List Nat) (n : Nat) : (s.bump64 hi lo ix n).switchGen = s.switchGen :=
  (State.bump64_same (m := 0xffff7ffffffff) (.refl _ s) (any_home rfl) (any_home rfl)).switchGen rfl
@[simp] theorem State.bump64_tid (hi lo : Fld) (ix : List Nat) (n : Nat) : (s.bump64 hi lo ix n).tid = s.tid :=
  (State.bump64_same (m := 0xfffefffffffff) (.refl _ s) (any_home rfl) (any_home rfl)).tid rfl
@[simp] theorem State.bump64_gates (hi lo : Fld) (ix : List Nat) (n : Nat) : (s.bump64 hi lo ix n).gates = s.gates :=
  (State.bump64_same (m := 0xfffdfffffffff) (.refl _ s) (any_home rfl) (any_home rfl)).gates rfl
@[simp] theorem State.bump64_bth (hi lo : Fld) (ix : List Nat) (n : Nat) : (s.bump64 hi lo ix n).bth = s.bth :=
  (State.bump64_same (m := 0xfffbfffffffff) (.refl _ s) (any_home rfl) (any_home rfl)).bth rfl
@[simp] theorem State.bump64_sgw (hi lo : Fld) (ix : List Nat) (n : Nat) : (s.bump64 hi lo ix n).sgw = s.sgw :=
  (State.bump64_same (m := 0xfff7fffffffff) (.refl _ s) (any_home rfl) (any_home rfl)).sgw rfl
@[simp] theorem State.bump64_lkp (hi lo : Fld) (ix : List Nat) (n : Nat) : (s.bump64 hi lo ix n).lkp = s.lkp :=
  (State.bump64_same (m := 0xffeffffffffff) (.refl _ s) (any_home rfl) (any_home rfl)).lkp rfl
@[simp] theorem State.bump64_quays (hi lo : Fld) (ix : List Nat) (n : Nat) : (s.bump64 hi lo ix n).quays = s.quays :=
  (State.bump64_same (m := 0xffdffffffffff) (.refl _ s) (any_home rfl) (any_home rfl)).quays rfl
@[simp] theorem State.bump64_fronts (hi lo : Fld) (ix : List Nat) (n : Nat) : (s.bump64 hi lo ix n).fronts = s.fronts :=
  (State.bump64_same (m := 0xffbffffffffff) (.refl _ s) (any_home rfl) (any_home rfl)).fronts rfl
@[simp] theorem State.bump64_pwk (hi lo : Fld) (ix : List Nat) (n : Nat) : (s.bump64 hi lo ix n).pwk = s.pwk :=
  (State.bump64_same (m := 0xff7ffffffffff) (.refl _ s) (any_home rfl) (any_home rfl)).pwk rfl
@[simp] theorem State.bump64_hck (hi lo : Fld) (ix : List Nat) (n : Nat) : (s.bump64 hi lo ix n).hck = s.hck :=
  (State.bump64_same (m := 0xfefffffffffff) (.refl _ s) (any_home rfl) (any_home rfl)).hck rfl
@[simp] theorem State.bump64_lgr (hi lo : Fld) (ix : List Nat) (n : Nat) : (s.bump64 hi lo ix n).lgr = s.lgr :=
  (State.bump64_same (m := 0xfdfffffffffff) (.refl _ s) (any_home rfl) (any_home rfl)).lgr rfl
@[simp] theorem State.bump64_cph (hi lo : Fld) (ix : List Nat) (n : Nat) : (s.bump64 hi lo ix n).cph = s.cph :=
  (State.bump64_same (m := 0xfbfffffffffff) (.refl _ s) (any_home rfl) (any_home rfl)).cph rfl
@[simp] theorem State.bump64_kwl (hi lo : Fld) (ix : List Nat) (n : Nat) : (s.bump64 hi lo ix n).kwl = s.kwl :=
  (State.bump64_same (m := 0xf7fffffffffff) (.refl _ s) (any_home rfl) (any_home rfl)).kwl rfl
@[simp] theorem State.bump64_hbr (hi lo : Fld) (ix : List Nat) (n : Nat) : (s.bump64 hi lo ix n).hbr = s.hbr :=
  (State.bump64_same (m := 0xeffffffffffff) (.refl _ s) (any_home rfl) (any_home rfl)).hbr rfl
@[simp] theorem State.bump64_sup (hi lo : Fld) (ix : List Nat) (n : Nat) : (s.bump64 hi lo ix n).sup = s.sup :=
  (State.bump64_same (m := 0xdffffffffffff) (.refl _ s) (any_home rfl) (any_home rfl)).sup rfl
@[simp] theorem State.bump64_ret (hi lo : Fld) (ix : List Nat) (n : Nat) : (s.bump64 hi lo ix n).ret = s.ret :=
  (State.bump64_same (m := 0xbffffffffffff) (.refl _ s) (any_home rfl) (any_home rfl)).ret rfl
@[simp] theorem State.bump64_pending (hi lo : Fld) (ix : List Nat) (n : Nat) : (s.bump64 hi lo ix n).pending = s.pending :=
  (State.bump64_same (m := 0x7ffffffffffff) (.refl _ s) (any_home rfl) (any_home rfl)).pending rfl

@[simp] theorem State.wrFree_staged (f : Fld) (ix : List Nat) : (s.wrFree f ix).staged = s.staged := rfl
@[simp] theorem State.wrFree_commits (f : Fld) (ix : List Nat) : (s.wrFree f ix).commits = s.commits := rfl
@[simp] theorem State.wrFree_discards (f : Fld) (ix : List Nat) : (s.wrFree f ix).discards = s.discards := rfl
@[simp] theorem State.wrFree_spoiled (f : Fld) (ix : List Nat) : (s.wrFree f ix).spoiled = s.spoiled := rfl
@[simp] theorem State.wrFree_now (f : Fld) (ix : List Nat) : (s.wrFree f ix).now = s.now := rfl
@[simp] theorem State.wrFree_count (f : Fld) (ix : List Nat) : (s.wrFree f ix).count = s.count := rfl
@[simp] theorem State.wrFree_bnd (f : Fld) (ix : List Nat) : (s.wrFree f ix).bnd = s.bnd := rfl
@[simp] theorem State.wrFree_mode (f : Fld) (ix : List Nat) : (s.wrFree f ix).mode = s.mode := rfl
@[simp] theorem State.wrFree_errLines (f : Fld) (ix : List Nat) : (s.wrFree f ix).errLines = s.errLines := rfl
@[simp] theorem State.wrFree_logLines (f : Fld) (ix : List Nat) : (s.wrFree f ix).logLines = s.logLines := rfl
@[simp] theorem State.wrFree_outs (f : Fld) (ix : List Nat) : (s.wrFree f ix).outs = s.outs := rfl
@[simp] theorem State.wrFree_cst (f : Fld) (ix : List Nat) : (s.wrFree f ix).cst = s.cst := rfl
@[simp] theorem State.wrFree_planes (f : Fld) (ix : List Nat) : (s.wrFree f ix).planes = s.planes := rfl
@[simp] theorem State.wrFree_switchGen (f : Fld) (ix : List Nat) : (s.wrFree f ix).switchGen = s.switchGen := rfl
@[simp] theorem State.wrFree_tid (f : Fld) (ix : List Nat) : (s.wrFree f ix).tid = s.tid := rfl
@[simp] theorem State.wrFree_gates (f : Fld) (ix : List Nat) : (s.wrFree f ix).gates = s.gates := rfl
@[simp] theorem State.wrFree_bth (f : Fld) (ix : List Nat) : (s.wrFree f ix).bth = s.bth := rfl
@[simp] theorem State.wrFree_sgw (f : Fld) (ix : List Nat) : (s.wrFree f ix).sgw = s.sgw := rfl
@[simp] theorem State.wrFree_lkp (f : Fld) (ix : List Nat) : (s.wrFree f ix).lkp = s.lkp := rfl
@[simp] theorem State.wrFree_quays (f : Fld) (ix : List Nat) : (s.wrFree f ix).quays = s.quays := rfl
@[simp] theorem State.wrFree_fronts (f : Fld) (ix : List Nat) : (s.wrFree f ix).fronts = s.fronts := rfl
@[simp] theorem State.wrFree_pwk (f : Fld) (ix : List Nat) : (s.wrFree f ix).pwk = s.pwk := rfl
@[simp] theorem State.wrFree_hck (f : Fld) (ix : List Nat) : (s.wrFree f ix).hck = s.hck := rfl
@[simp] theorem State.wrFree_lgr (f : Fld) (ix : List Nat) : (s.wrFree f ix).lgr = s.lgr := rfl
@[simp] theorem State.wrFree_cph (f : Fld) (ix : List Nat) : (s.wrFree f ix).cph = s.cph := rfl
@[simp] theorem State.wrFree_kwl (f : Fld) (ix : List Nat) : (s.wrFree f ix).kwl = s.kwl := rfl
@[simp] theorem State.wrFree_hbr (f : Fld) (ix : List Nat) : (s.wrFree f ix).hbr = s.hbr := rfl
@[simp] theorem State.wrFree_sup (f : Fld) (ix : List Nat) : (s.wrFree f ix).sup = s.sup := rfl
@[simp] theorem State.wrFree_ret (f : Fld) (ix : List Nat) : (s.wrFree f ix).ret = s.ret := rfl
@[simp] theorem State.wrFree_pending (f : Fld) (ix : List Nat) : (s.wrFree f ix).pending = s.pending := rfl

@[simp] theorem State.irq_staged (p b : Nat) : (s.irq p b).staged = s.staged :=
  (irq_same (m := 0xfffffffdfffff) (.refl _ s) (any_head rfl) rfl rfl rfl).staged rfl
@[simp] theorem State.irq_commits (p b : Nat) : (s.irq p b).commits = s.commits :=
  (irq_same (m := 0xfffffffbfffff) (.refl _ s) (any_head rfl) rfl rfl rfl).commits rfl
@[simp] theorem State.irq_discards (p b : Nat) : (s.irq p b).discards = s.discards :=
  (irq_same (m := 0xfffffff7fffff) (.refl _ s) (any_head rfl) rfl rfl rfl).discards rfl
@[simp] theorem State.irq_spoiled (p b : Nat) : (s.irq p b).spoiled = s.spoiled :=
  (irq_same (m := 0xffffffeffffff) (.refl _ s) (any_head rfl) rfl rfl rfl).spoiled rfl
@[simp] theorem State.irq_now (p b : Nat) : (s.irq p b).now = s.now :=
  (irq_same (m := 0xffffffdffffff) (.refl _ s) (any_head rfl) rfl rfl rfl).now rfl
@[simp] theorem State.irq_count (p b : Nat) : (s.irq p b).count = s.count :=
  (irq_same (m := 0xffffffbffffff) (.refl _ s) (any_head rfl) rfl rfl rfl).count rfl
@[simp] theorem State.irq_bnd (p b : Nat) : (s.irq p b).bnd = s.bnd :=
  (irq_same (m := 0xffffff7ffffff) (.refl _ s) (any_head rfl) rfl rfl rfl).bnd rfl
@[simp] theorem State.irq_mode (p b : Nat) : (s.irq p b).mode = s.mode :=
  (irq_same (m := 0xfffffefffffff) (.refl _ s) (any_head rfl) rfl rfl rfl).mode rfl
@[simp] theorem State.irq_errLines (p b : Nat) : (s.irq p b).errLines = s.errLines :=
  (irq_same (m := 0xfffffdfffffff) (.refl _ s) (any_head rfl) rfl rfl rfl).errLines rfl
@[simp] theorem State.irq_logLines (p b : Nat) : (s.irq p b).logLines = s.logLines :=
  (irq_same (m := 0xfffffbfffffff) (.refl _ s) (any_head rfl) rfl rfl rfl).logLines rfl
@[simp] theorem State.irq_freeCtr (p b : Nat) : (s.irq p b).freeCtr = s.freeCtr :=
  (irq_same (m := 0xffffeffffffff) (.refl _ s) (any_head rfl) rfl rfl rfl).freeCtr rfl
@[simp] theorem State.irq_cst (p b : Nat) : (s.irq p b).cst = s.cst :=
  (irq_same (m := 0xffffdffffffff) (.refl _ s) (any_head rfl) rfl rfl rfl).cst rfl
@[simp] theorem State.irq_planes (p b : Nat) : (s.irq p b).planes = s.planes :=
  (irq_same (m := 0xffffbffffffff) (.refl _ s) (any_head rfl) rfl rfl rfl).planes rfl
@[simp] theorem State.irq_switchGen (p b : Nat) : (s.irq p b).switchGen = s.switchGen :=
  (irq_same (m := 0xffff7ffffffff) (.refl _ s) (any_head rfl) rfl rfl rfl).switchGen rfl
@[simp] theorem State.irq_tid (p b : Nat) : (s.irq p b).tid = s.tid :=
  (irq_same (m := 0xfffefffffffff) (.refl _ s) (any_head rfl) rfl rfl rfl).tid rfl
@[simp] theorem State.irq_gates (p b : Nat) : (s.irq p b).gates = s.gates :=
  (irq_same (m := 0xfffdfffffffff) (.refl _ s) (any_head rfl) rfl rfl rfl).gates rfl
@[simp] theorem State.irq_bth (p b : Nat) : (s.irq p b).bth = s.bth :=
  (irq_same (m := 0xfffbfffffffff) (.refl _ s) (any_head rfl) rfl rfl rfl).bth rfl
@[simp] theorem State.irq_sgw (p b : Nat) : (s.irq p b).sgw = s.sgw :=
  (irq_same (m := 0xfff7fffffffff) (.refl _ s) (any_head rfl) rfl rfl rfl).sgw rfl
@[simp] theorem State.irq_lkp (p b : Nat) : (s.irq p b).lkp = s.lkp :=
  (irq_same (m := 0xffeffffffffff) (.refl _ s) (any_head rfl) rfl rfl rfl).lkp rfl
@[simp] theorem State.irq_quays (p b : Nat) : (s.irq p b).quays = s.quays :=
  (irq_same (m := 0xffdffffffffff) (.refl _ s) (any_head rfl) rfl rfl rfl).quays rfl
@[simp] theorem State.irq_fronts (p b : Nat) : (s.irq p b).fronts = s.fronts :=
  (irq_same (m := 0xffbffffffffff) (.refl _ s) (any_head rfl) rfl rfl rfl).fronts rfl
@[simp] theorem State.irq_pwk (p b : Nat) : (s.irq p b).pwk = s.pwk :=
  (irq_same (m := 0xff7ffffffffff) (.refl _ s) (any_head rfl) rfl rfl rfl).pwk rfl
@[simp] theorem State.irq_hck (p b : Nat) : (s.irq p b).hck = s.hck :=
  (irq_same (m := 0xfefffffffffff) (.refl _ s) (any_head rfl) rfl rfl rfl).hck rfl
@[simp] theorem State.irq_lgr (p b : Nat) : (s.irq p b).lgr = s.lgr :=
  (irq_same (m := 0xfdfffffffffff) (.refl _ s) (any_head rfl) rfl rfl rfl).lgr rfl
@[simp] theorem State.irq_cph (p b : Nat) : (s.irq p b).cph = s.cph :=
  (irq_same (m := 0xfbfffffffffff) (.refl _ s) (any_head rfl) rfl rfl rfl).cph rfl
@[simp] theorem State.irq_kwl (p b : Nat) : (s.irq p b).kwl = s.kwl :=
  (irq_same (m := 0xf7fffffffffff) (.refl _ s) (any_head rfl) rfl rfl rfl).kwl rfl
@[simp] theorem State.irq_hbr (p b : Nat) : (s.irq p b).hbr = s.hbr :=
  (irq_same (m := 0xeffffffffffff) (.refl _ s) (any_head rfl) rfl rfl rfl).hbr rfl
@[simp] theorem State.irq_sup (p b : Nat) : (s.irq p b).sup = s.sup :=
  (irq_same (m := 0xdffffffffffff) (.refl _ s) (any_head rfl) rfl rfl rfl).sup rfl
@[simp] theorem State.irq_ret (p b : Nat) : (s.irq p b).ret = s.ret :=
  (irq_same (m := 0xbffffffffffff) (.refl _ s) (any_head rfl) rfl rfl rfl).ret rfl
@[simp] theorem State.irq_pending (p b : Nat) : (s.irq p b).pending = s.pending :=
  (irq_same (m := 0x7ffffffffffff) (.refl _ s) (any_head rfl) rfl rfl rfl).pending rfl

@[simp] theorem State.cond_staged (p b : Nat) (l : Bool) : (s.cond p b l).staged = s.staged :=
  (cond_same (m := 0xfffffffdfffff) (.refl _ s) (any_head rfl) rfl rfl rfl).staged rfl
@[simp] theorem State.cond_commits (p b : Nat) (l : Bool) : (s.cond p b l).commits = s.commits :=
  (cond_same (m := 0xfffffffbfffff) (.refl _ s) (any_head rfl) rfl rfl rfl).commits rfl
@[simp] theorem State.cond_discards (p b : Nat) (l : Bool) : (s.cond p b l).discards = s.discards :=
  (cond_same (m := 0xfffffff7fffff) (.refl _ s) (any_head rfl) rfl rfl rfl).discards rfl
@[simp] theorem State.cond_spoiled (p b : Nat) (l : Bool) : (s.cond p b l).spoiled = s.spoiled :=
  (cond_same (m := 0xffffffeffffff) (.refl _ s) (any_head rfl) rfl rfl rfl).spoiled rfl
@[simp] theorem State.cond_now (p b : Nat) (l : Bool) : (s.cond p b l).now = s.now :=
  (cond_same (m := 0xffffffdffffff) (.refl _ s) (any_head rfl) rfl rfl rfl).now rfl
@[simp] theorem State.cond_count (p b : Nat) (l : Bool) : (s.cond p b l).count = s.count :=
  (cond_same (m := 0xffffffbffffff) (.refl _ s) (any_head rfl) rfl rfl rfl).count rfl
@[simp] theorem State.cond_bnd (p b : Nat) (l : Bool) : (s.cond p b l).bnd = s.bnd :=
  (cond_same (m := 0xffffff7ffffff) (.refl _ s) (any_head rfl) rfl rfl rfl).bnd rfl
@[simp] theorem State.cond_mode (p b : Nat) (l : Bool) : (s.cond p b l).mode = s.mode :=
  (cond_same (m := 0xfffffefffffff) (.refl _ s) (any_head rfl) rfl rfl rfl).mode rfl
@[simp] theorem State.cond_errLines (p b : Nat) (l : Bool) : (s.cond p b l).errLines = s.errLines :=
  (cond_same (m := 0xfffffdfffffff) (.refl _ s) (any_head rfl) rfl rfl rfl).errLines rfl
@[simp] theorem State.cond_logLines (p b : Nat) (l : Bool) : (s.cond p b l).logLines = s.logLines :=
  (cond_same (m := 0xfffffbfffffff) (.refl _ s) (any_head rfl) rfl rfl rfl).logLines rfl
@[simp] theorem State.cond_freeCtr (p b : Nat) (l : Bool) : (s.cond p b l).freeCtr = s.freeCtr :=
  (cond_same (m := 0xffffeffffffff) (.refl _ s) (any_head rfl) rfl rfl rfl).freeCtr rfl
@[simp] theorem State.cond_cst (p b : Nat) (l : Bool) : (s.cond p b l).cst = s.cst :=
  (cond_same (m := 0xffffdffffffff) (.refl _ s) (any_head rfl) rfl rfl rfl).cst rfl
@[simp] theorem State.cond_planes (p b : Nat) (l : Bool) : (s.cond p b l).planes = s.planes :=
  (cond_same (m := 0xffffbffffffff) (.refl _ s) (any_head rfl) rfl rfl rfl).planes rfl
@[simp] theorem State.cond_switchGen (p b : Nat) (l : Bool) : (s.cond p b l).switchGen = s.switchGen :=
  (cond_same (m := 0xffff7ffffffff) (.refl _ s) (any_head rfl) rfl rfl rfl).switchGen rfl
@[simp] theorem State.cond_tid (p b : Nat) (l : Bool) : (s.cond p b l).tid = s.tid :=
  (cond_same (m := 0xfffefffffffff) (.refl _ s) (any_head rfl) rfl rfl rfl).tid rfl
@[simp] theorem State.cond_gates (p b : Nat) (l : Bool) : (s.cond p b l).gates = s.gates :=
  (cond_same (m := 0xfffdfffffffff) (.refl _ s) (any_head rfl) rfl rfl rfl).gates rfl
@[simp] theorem State.cond_bth (p b : Nat) (l : Bool) : (s.cond p b l).bth = s.bth :=
  (cond_same (m := 0xfffbfffffffff) (.refl _ s) (any_head rfl) rfl rfl rfl).bth rfl
@[simp] theorem State.cond_sgw (p b : Nat) (l : Bool) : (s.cond p b l).sgw = s.sgw :=
  (cond_same (m := 0xfff7fffffffff) (.refl _ s) (any_head rfl) rfl rfl rfl).sgw rfl
@[simp] theorem State.cond_lkp (p b : Nat) (l : Bool) : (s.cond p b l).lkp = s.lkp :=
  (cond_same (m := 0xffeffffffffff) (.refl _ s) (any_head rfl) rfl rfl rfl).lkp rfl
@[simp] theorem State.cond_quays (p b : Nat) (l : Bool) : (s.cond p b l).quays = s.quays :=
  (cond_same (m := 0xffdffffffffff) (.refl _ s) (any_head rfl) rfl rfl rfl).quays rfl
@[simp] theorem State.cond_fronts (p b : Nat) (l : Bool) : (s.cond p b l).fronts = s.fronts :=
  (cond_same (m := 0xffbffffffffff) (.refl _ s) (any_head rfl) rfl rfl rfl).fronts rfl
@[simp] theorem State.cond_pwk (p b : Nat) (l : Bool) : (s.cond p b l).pwk = s.pwk :=
  (cond_same (m := 0xff7ffffffffff) (.refl _ s) (any_head rfl) rfl rfl rfl).pwk rfl
@[simp] theorem State.cond_hck (p b : Nat) (l : Bool) : (s.cond p b l).hck = s.hck :=
  (cond_same (m := 0xfefffffffffff) (.refl _ s) (any_head rfl) rfl rfl rfl).hck rfl
@[simp] theorem State.cond_lgr (p b : Nat) (l : Bool) : (s.cond p b l).lgr = s.lgr :=
  (cond_same (m := 0xfdfffffffffff) (.refl _ s) (any_head rfl) rfl rfl rfl).lgr rfl
@[simp] theorem State.cond_cph (p b : Nat) (l : Bool) : (s.cond p b l).cph = s.cph :=
  (cond_same (m := 0xfbfffffffffff) (.refl _ s) (any_head rfl) rfl rfl rfl).cph rfl
@[simp] theorem State.cond_kwl (p b : Nat) (l : Bool) : (s.cond p b l).kwl = s.kwl :=
  (cond_same (m := 0xf7fffffffffff) (.refl _ s) (any_head rfl) rfl rfl rfl).kwl rfl
@[simp] theorem State.cond_hbr (p b : Nat) (l : Bool) : (s.cond p b l).hbr = s.hbr :=
  (cond_same (m := 0xeffffffffffff) (.refl _ s) (any_head rfl) rfl rfl rfl).hbr rfl
@[simp] theorem State.cond_sup (p b : Nat) (l : Bool) : (s.cond p b l).sup = s.sup :=
  (cond_same (m := 0xdffffffffffff) (.refl _ s) (any_head rfl) rfl rfl rfl).sup rfl
@[simp] theorem State.cond_ret (p b : Nat) (l : Bool) : (s.cond p b l).ret = s.ret :=
  (cond_same (m := 0xbffffffffffff) (.refl _ s) (any_head rfl) rfl rfl rfl).ret rfl
@[simp] theorem State.cond_pending (p b : Nat) (l : Bool) : (s.cond p b l).pending = s.pending :=
  (cond_same (m := 0x7ffffffffffff) (.refl _ s) (any_head rfl) rfl rfl rfl).pending rfl

@[simp] theorem State.err_staged (p c l d : Nat) : (s.err p c l d).staged = s.staged :=
  (err_same (m := 0xfffffffdfffff) (.refl _ s) (any_head rfl) rfl rfl rfl rfl).staged rfl
@[simp] theorem State.err_commits (p c l d : Nat) : (s.err p c l d).commits = s.commits :=
  (err_same (m := 0xfffffffbfffff) (.refl _ s) (any_head rfl) rfl rfl rfl rfl).commits rfl
@[simp] theorem State.err_discards (p c l d : Nat) : (s.err p c l d).discards = s.discards :=
  (err_same (m := 0xfffffff7fffff) (.refl _ s) (any_head rfl) rfl rfl rfl rfl).discards rfl
@[simp] theorem State.err_spoiled (p c l d : Nat) : (s.err p c l d).spoiled = s.spoiled :=
  (err_same (m := 0xffffffeffffff) (.refl _ s) (any_head rfl) rfl rfl rfl rfl).spoiled rfl
@[simp] theorem State.err_now (p c l d : Nat) : (s.err p c l d).now = s.now :=
  (err_same (m := 0xffffffdffffff) (.refl _ s) (any_head rfl) rfl rfl rfl rfl).now rfl
@[simp] theorem State.err_count (p c l d : Nat) : (s.err p c l d).count = s.count :=
  (err_same (m := 0xffffffbffffff) (.refl _ s) (any_head rfl) rfl rfl rfl rfl).count rfl
@[simp] theorem State.err_bnd (p c l d : Nat) : (s.err p c l d).bnd = s.bnd :=
  (err_same (m := 0xffffff7ffffff) (.refl _ s) (any_head rfl) rfl rfl rfl rfl).bnd rfl
@[simp] theorem State.err_mode (p c l d : Nat) : (s.err p c l d).mode = s.mode :=
  (err_same (m := 0xfffffefffffff) (.refl _ s) (any_head rfl) rfl rfl rfl rfl).mode rfl
@[simp] theorem State.err_logLines (p c l d : Nat) : (s.err p c l d).logLines = s.logLines :=
  (err_same (m := 0xfffffbfffffff) (.refl _ s) (any_head rfl) rfl rfl rfl rfl).logLines rfl
@[simp] theorem State.err_freeCtr (p c l d : Nat) : (s.err p c l d).freeCtr = s.freeCtr :=
  (err_same (m := 0xffffeffffffff) (.refl _ s) (any_head rfl) rfl rfl rfl rfl).freeCtr rfl
@[simp] theorem State.err_cst (p c l d : Nat) : (s.err p c l d).cst = s.cst :=
  (err_same (m := 0xffffdffffffff) (.refl _ s) (any_head rfl) rfl rfl rfl rfl).cst rfl
@[simp] theorem State.err_planes (p c l d : Nat) : (s.err p c l d).planes = s.planes :=
  (err_same (m := 0xffffbffffffff) (.refl _ s) (any_head rfl) rfl rfl rfl rfl).planes rfl
@[simp] theorem State.err_switchGen (p c l d : Nat) : (s.err p c l d).switchGen = s.switchGen :=
  (err_same (m := 0xffff7ffffffff) (.refl _ s) (any_head rfl) rfl rfl rfl rfl).switchGen rfl
@[simp] theorem State.err_tid (p c l d : Nat) : (s.err p c l d).tid = s.tid :=
  (err_same (m := 0xfffefffffffff) (.refl _ s) (any_head rfl) rfl rfl rfl rfl).tid rfl
@[simp] theorem State.err_gates (p c l d : Nat) : (s.err p c l d).gates = s.gates :=
  (err_same (m := 0xfffdfffffffff) (.refl _ s) (any_head rfl) rfl rfl rfl rfl).gates rfl
@[simp] theorem State.err_bth (p c l d : Nat) : (s.err p c l d).bth = s.bth :=
  (err_same (m := 0xfffbfffffffff) (.refl _ s) (any_head rfl) rfl rfl rfl rfl).bth rfl
@[simp] theorem State.err_sgw (p c l d : Nat) : (s.err p c l d).sgw = s.sgw :=
  (err_same (m := 0xfff7fffffffff) (.refl _ s) (any_head rfl) rfl rfl rfl rfl).sgw rfl
@[simp] theorem State.err_lkp (p c l d : Nat) : (s.err p c l d).lkp = s.lkp :=
  (err_same (m := 0xffeffffffffff) (.refl _ s) (any_head rfl) rfl rfl rfl rfl).lkp rfl
@[simp] theorem State.err_quays (p c l d : Nat) : (s.err p c l d).quays = s.quays :=
  (err_same (m := 0xffdffffffffff) (.refl _ s) (any_head rfl) rfl rfl rfl rfl).quays rfl
@[simp] theorem State.err_fronts (p c l d : Nat) : (s.err p c l d).fronts = s.fronts :=
  (err_same (m := 0xffbffffffffff) (.refl _ s) (any_head rfl) rfl rfl rfl rfl).fronts rfl
@[simp] theorem State.err_pwk (p c l d : Nat) : (s.err p c l d).pwk = s.pwk :=
  (err_same (m := 0xff7ffffffffff) (.refl _ s) (any_head rfl) rfl rfl rfl rfl).pwk rfl
@[simp] theorem State.err_hck (p c l d : Nat) : (s.err p c l d).hck = s.hck :=
  (err_same (m := 0xfefffffffffff) (.refl _ s) (any_head rfl) rfl rfl rfl rfl).hck rfl
@[simp] theorem State.err_lgr (p c l d : Nat) : (s.err p c l d).lgr = s.lgr :=
  (err_same (m := 0xfdfffffffffff) (.refl _ s) (any_head rfl) rfl rfl rfl rfl).lgr rfl
@[simp] theorem State.err_cph (p c l d : Nat) : (s.err p c l d).cph = s.cph :=
  (err_same (m := 0xfbfffffffffff) (.refl _ s) (any_head rfl) rfl rfl rfl rfl).cph rfl
@[simp] theorem State.err_kwl (p c l d : Nat) : (s.err p c l d).kwl = s.kwl :=
  (err_same (m := 0xf7fffffffffff) (.refl _ s) (any_head rfl) rfl rfl rfl rfl).kwl rfl
@[simp] theorem State.err_hbr (p c l d : Nat) : (s.err p c l d).hbr = s.hbr :=
  (err_same (m := 0xeffffffffffff) (.refl _ s) (any_head rfl) rfl rfl rfl rfl).hbr rfl
@[simp] theorem State.err_sup (p c l d : Nat) : (s.err p c l d).sup = s.sup :=
  (err_same (m := 0xdffffffffffff) (.refl _ s) (any_head rfl) rfl rfl rfl rfl).sup rfl
@[simp] theorem State.err_ret (p c l d : Nat) : (s.err p c l d).ret = s.ret :=
  (err_same (m := 0xbffffffffffff) (.refl _ s) (any_head rfl) rfl rfl rfl rfl).ret rfl
@[simp] theorem State.err_pending (p c l d : Nat) : (s.err p c l d).pending = s.pending :=
  (err_same (m := 0x7ffffffffffff) (.refl _ s) (any_head rfl) rfl rfl rfl rfl).pending rfl

@[simp] theorem State.errU_staged (p c l : Nat) : (s.errU p c l).staged = s.staged :=
  (s.useFresh.err_staged p c l s.fresh).trans (s.useFresh_staged)
@[simp] theorem State.errU_commits (p c l : Nat) : (s.errU p c l).commits = s.commits :=
  (s.useFresh.err_commits p c l s.fresh).trans (s.useFresh_commits)
@[simp] theorem State.errU_discards (p c l : Nat) : (s.errU p c l).discards = s.discards :=
  (s.useFresh.err_discards p c l s.fresh).trans (s.useFresh_discards)
@[simp] theorem State.errU_spoiled (p c l : Nat) : (s.errU p c l).spoiled = s.spoiled :=
  (s.useFresh.err_spoiled p c l s.fresh).trans (s.useFresh_spoiled)
@[simp] theorem State.errU_now (p c l : Nat) : (s.errU p c l).now = s.now :=
  (s.useFresh.err_now p c l s.fresh).trans (s.useFresh_now)
@[simp] theorem State.errU_count (p c l : Nat) : (s.errU p c l).count = s.count :=
  (s.useFresh.err_count p c l s.fresh).trans (s.useFresh_count)
@[simp] theorem State.errU_bnd (p c l : Nat) : (s.errU p c l).bnd = s.bnd :=
  (s.useFresh.err_bnd p c l s.fresh).trans (s.useFresh_bnd)
@[simp] theorem State.errU_mode (p c l : Nat) : (s.errU p c l).mode = s.mode :=
  (s.useFresh.err_mode p c l s.fresh).trans (s.useFresh_mode)
@[simp] theorem State.errU_logLines (p c l : Nat) : (s.errU p c l).logLines = s.logLines :=
  (s.useFresh.err_logLines p c l s.fresh).trans (s.useFresh_logLines)
@[simp] theorem State.errU_cst (p c l : Nat) : (s.errU p c l).cst = s.cst :=
  (s.useFresh.err_cst p c l s.fresh).trans (s.useFresh_cst)
@[simp] theorem State.errU_planes (p c l : Nat) : (s.errU p c l).planes = s.planes :=
  (s.useFresh.err_planes p c l s.fresh).trans (s.useFresh_planes)
@[simp] theorem State.errU_switchGen (p c l : Nat) : (s.errU p c l).switchGen = s.switchGen :=
  (s.useFresh.err_switchGen p c l s.fresh).trans (s.useFresh_switchGen)
@[simp] theorem State.errU_tid (p c l : Nat) : (s.errU p c l).tid = s.tid :=
  (s.useFresh.err_tid p c l s.fresh).trans (s.useFresh_tid)
@[simp] theorem State.errU_gates (p c l : Nat) : (s.errU p c l).gates = s.gates :=
  (s.useFresh.err_gates p c l s.fresh).trans (s.useFresh_gates)
@[simp] theorem State.errU_bth (p c l : Nat) : (s.errU p c l).bth = s.bth :=
  (s.useFresh.err_bth p c l s.fresh).trans (s.useFresh_bth)
@[simp] theorem State.errU_sgw (p c l : Nat) : (s.errU p c l).sgw = s.sgw :=
  (s.useFresh.err_sgw p c l s.fresh).trans (s.useFresh_sgw)
@[simp] theorem State.errU_lkp (p c l : Nat) : (s.errU p c l).lkp = s.lkp :=
  (s.useFresh.err_lkp p c l s.fresh).trans (s.useFresh_lkp)
@[simp] theorem State.errU_quays (p c l : Nat) : (s.errU p c l).quays = s.quays :=
  (s.useFresh.err_quays p c l s.fresh).trans (s.useFresh_quays)
@[simp] theorem State.errU_fronts (p c l : Nat) : (s.errU p c l).fronts = s.fronts :=
  (s.useFresh.err_fronts p c l s.fresh).trans (s.useFresh_fronts)
@[simp] theorem State.errU_pwk (p c l : Nat) : (s.errU p c l).pwk = s.pwk :=
  (s.useFresh.err_pwk p c l s.fresh).trans (s.useFresh_pwk)
@[simp] theorem State.errU_hck (p c l : Nat) : (s.errU p c l).hck = s.hck :=
  (s.useFresh.err_hck p c l s.fresh).trans (s.useFresh_hck)
@[simp] theorem State.errU_lgr (p c l : Nat) : (s.errU p c l).lgr = s.lgr :=
  (s.useFresh.err_lgr p c l s.fresh).trans (s.useFresh_lgr)
@[simp] theorem State.errU_cph (p c l : Nat) : (s.errU p c l).cph = s.cph :=
  (s.useFresh.err_cph p c l s.fresh).trans (s.useFresh_cph)
@[simp] theorem State.errU_kwl (p c l : Nat) : (s.errU p c l).kwl = s.kwl :=
  (s.useFresh.err_kwl p c l s.fresh).trans (s.useFresh_kwl)
@[simp] theorem State.errU_hbr (p c l : Nat) : (s.errU p c l).hbr = s.hbr :=
  (s.useFresh.err_hbr p c l s.fresh).trans (s.useFresh_hbr)
@[simp] theorem State.errU_sup (p c l : Nat) : (s.errU p c l).sup = s.sup :=
  (s.useFresh.err_sup p c l s.fresh).trans (s.useFresh_sup)
@[simp] theorem State.errU_ret (p c l : Nat) : (s.errU p c l).ret = s.ret :=
  (s.useFresh.err_ret p c l s.fresh).trans (s.useFresh_ret)
@[simp] theorem State.errU_pending (p c l : Nat) : (s.errU p c l).pending = s.pending :=
  (s.useFresh.err_pending p c l s.fresh).trans (s.useFresh_pending)

@[simp] theorem State.log_staged (e : LogEvent) : (s.log e).staged = s.staged :=
  (log_same (m := 0xfffffffdfffff) (.refl _ s) rfl).staged rfl
@[simp] theorem State.log_commits (e : LogEvent) : (s.log e).commits = s.commits :=
  (log_same (m := 0xfffffffbfffff) (.refl _ s) rfl).commits rfl
@[simp] theorem State.log_discards (e : LogEvent) : (s.log e).discards = s.discards :=
  (log_same (m := 0xfffffff7fffff) (.refl _ s) rfl).discards rfl
@[simp] theorem State.log_spoiled (e : LogEvent) : (s.log e).spoiled = s.spoiled :=
  (log_same (m := 0xffffffeffffff) (.refl _ s) rfl).spoiled rfl
@[simp] theorem State.log_now (e : LogEvent) : (s.log e).now = s.now :=
  (log_same (m := 0xffffffdffffff) (.refl _ s) rfl).now rfl
@[simp] theorem State.log_count (e : LogEvent) : (s.log e).count = s.count :=
  (log_same (m := 0xffffffbffffff) (.refl _ s) rfl).count rfl
@[simp] theorem State.log_bnd (e : LogEvent) : (s.log e).bnd = s.bnd :=
  (log_same (m := 0xffffff7ffffff) (.refl _ s) rfl).bnd rfl
@[simp] theorem State.log_mode (e : LogEvent) : (s.log e).mode = s.mode :=
  (log_same (m := 0xfffffefffffff) (.refl _ s) rfl).mode rfl
@[simp] theorem State.log_errLines (e : LogEvent) : (s.log e).errLines = s.errLines :=
  (log_same (m := 0xfffffdfffffff) (.refl _ s) rfl).errLines rfl
@[simp] theorem State.log_outs (e : LogEvent) : (s.log e).outs = s.outs :=
  (log_same (m := 0xfffff7fffffff) (.refl _ s) rfl).outs rfl
@[simp] theorem State.log_freeCtr (e : LogEvent) : (s.log e).freeCtr = s.freeCtr :=
  (log_same (m := 0xffffeffffffff) (.refl _ s) rfl).freeCtr rfl
@[simp] theorem State.log_cst (e : LogEvent) : (s.log e).cst = s.cst :=
  (log_same (m := 0xffffdffffffff) (.refl _ s) rfl).cst rfl
@[simp] theorem State.log_planes (e : LogEvent) : (s.log e).planes = s.planes :=
  (log_same (m := 0xffffbffffffff) (.refl _ s) rfl).planes rfl
@[simp] theorem State.log_switchGen (e : LogEvent) : (s.log e).switchGen = s.switchGen :=
  (log_same (m := 0xffff7ffffffff) (.refl _ s) rfl).switchGen rfl
@[simp] theorem State.log_tid (e : LogEvent) : (s.log e).tid = s.tid :=
  (log_same (m := 0xfffefffffffff) (.refl _ s) rfl).tid rfl
@[simp] theorem State.log_gates (e : LogEvent) : (s.log e).gates = s.gates :=
  (log_same (m := 0xfffdfffffffff) (.refl _ s) rfl).gates rfl
@[simp] theorem State.log_bth (e : LogEvent) : (s.log e).bth = s.bth :=
  (log_same (m := 0xfffbfffffffff) (.refl _ s) rfl).bth rfl
@[simp] theorem State.log_sgw (e : LogEvent) : (s.log e).sgw = s.sgw :=
  (log_same (m := 0xfff7fffffffff) (.refl _ s) rfl).sgw rfl
@[simp] theorem State.log_lkp (e : LogEvent) : (s.log e).lkp = s.lkp :=
  (log_same (m := 0xffeffffffffff) (.refl _ s) rfl).lkp rfl
@[simp] theorem State.log_quays (e : LogEvent) : (s.log e).quays = s.quays :=
  (log_same (m := 0xffdffffffffff) (.refl _ s) rfl).quays rfl
@[simp] theorem State.log_fronts (e : LogEvent) : (s.log e).fronts = s.fronts :=
  (log_same (m := 0xffbffffffffff) (.refl _ s) rfl).fronts rfl
@[simp] theorem State.log_pwk (e : LogEvent) : (s.log e).pwk = s.pwk :=
  (log_same (m := 0xff7ffffffffff) (.refl _ s) rfl).pwk rfl
@[simp] theorem State.log_hck (e : LogEvent) : (s.log e).hck = s.hck :=
  (log_same (m := 0xfefffffffffff) (.refl _ s) rfl).hck rfl
@[simp] theorem State.log_lgr (e : LogEvent) : (s.log e).lgr = s.lgr :=
  (log_same (m := 0xfdfffffffffff) (.refl _ s) rfl).lgr rfl
@[simp] theorem State.log_cph (e : LogEvent) : (s.log e).cph = s.cph :=
  (log_same (m := 0xfbfffffffffff) (.refl _ s) rfl).cph rfl
@[simp] theorem State.log_kwl (e : LogEvent) : (s.log e).kwl = s.kwl :=
  (log_same (m := 0xf7fffffffffff) (.refl _ s) rfl).kwl rfl
@[simp] theorem State.log_hbr (e : LogEvent) : (s.log e).hbr = s.hbr :=
  (log_same (m := 0xeffffffffffff) (.refl _ s) rfl).hbr rfl
@[simp] theorem State.log_sup (e : LogEvent) : (s.log e).sup = s.sup :=
  (log_same (m := 0xdffffffffffff) (.refl _ s) rfl).sup rfl
@[simp] theorem State.log_ret (e : LogEvent) : (s.log e).ret = s.ret :=
  (log_same (m := 0xbffffffffffff) (.refl _ s) rfl).ret rfl
@[simp] theorem State.log_pending (e : LogEvent) : (s.log e).pending = s.pending :=
  (log_same (m := 0x7ffffffffffff) (.refl _ s) rfl).pending rfl

theorem State.log_regs (e : LogEvent) : (s.log e).regs = s.regs := by
  unfold State.log
  split <;> rfl

/-! ### Fields that an interrupt and an error leave -/

variable {f : Fld} {ix : List Nat}

theorem State.irqSum_get (p : Nat) (h : f.home ix ≠ 3) : (s.irqSum p).regs.get f ix = s.regs.get f ix := by
  unfold State.irqSum
  split
  · rfl
  · split
    · extract_lets q g old
      refine s.rd_wr_ne _ (Fld.key_ne_of_home ?_)
      by_cases hq : q < 32
      · simp only [g, if_pos hq]; exact h
      · simp only [g, if_neg hq]; exact h
    · exact s.rd_wr_ne _ (Fld.key_ne_of_home h)

theorem State.irqMessage_get (p : Nat) (h0 : f.key ix ≠ HBR_MSIX_PBA_PEND.key [0]) (h1 : f.key ix ≠ HBR_MSIX_PBA_PEND.key [1]) :
    (s.irqMessage p).regs.get f ix = s.regs.get f ix := by
  unfold State.irqMessage
  split
  · unfold State.msix
    split
    · have hv : s.rd IRQ_ROUTE_VECTOR [p] / 32 < 2 := by
        have := s.rd_lt IRQ_ROUTE_VECTOR [p]
        have : 2 ^ IRQ_ROUTE_VECTOR.width = 64 := rfl
        omega
      refine s.rd_wr_ne _ ?_
      match h : s.rd IRQ_ROUTE_VECTOR [p] / 32, hv with
      | 0, _ => exact h0
      | 1, _ => exact h1
    · rfl
  · rfl

theorem State.setPend_get (p v : Nat) (hp : f.key ix ≠ IRQ_PEND_PEND.key [p]) (hd : f.home ix ≠ 3)
    (h0 : f.key ix ≠ HBR_MSIX_PBA_PEND.key [0]) (h1 : f.key ix ≠ HBR_MSIX_PBA_PEND.key [1]) :
    (s.setPend p v).regs.get f ix = s.regs.get f ix := by
  unfold State.setPend
  extract_lets old t
  have ht : t.regs.get f ix = s.regs.get f ix := (State.irqSum_get _ p hd).trans (s.rd_wr_ne _ hp)
  split
  · exact (t.irqMessage_get p h0 h1).trans ht
  · exact ht

/-- An interrupt changes no field but the page's IRQ_PEND, the pending registers of the device page and the bridge's pending bits. -/
theorem State.irq_get_ne (p b : Nat) (hp : f.key ix ≠ IRQ_PEND_PEND.key [p]) (hd : f.home ix ≠ 3)
    (h0 : f.key ix ≠ HBR_MSIX_PBA_PEND.key [0]) (h1 : f.key ix ≠ HBR_MSIX_PBA_PEND.key [1]) :
    (s.irq p b).regs.get f ix = s.regs.get f ix := by
  unfold State.irq
  split
  · exact s.setPend_get p _ hp hd h0 h1
  · rfl

/-- A condition's level changes IRQ_RAW besides what an interrupt changes. -/
theorem State.cond_get_ne (p b : Nat) (l : Bool) (hr : f.key ix ≠ IRQ_RAW_BLOCK.key [p]) (hp : f.key ix ≠ IRQ_PEND_PEND.key [p])
    (hd : f.home ix ≠ 3) (h0 : f.key ix ≠ HBR_MSIX_PBA_PEND.key [0]) (h1 : f.key ix ≠ HBR_MSIX_PBA_PEND.key [1]) :
    (s.cond p b l).regs.get f ix = s.regs.get f ix := by
  unfold State.cond
  extract_lets raw was t
  have ht : t.regs.get f ix = s.regs.get f ix := s.rd_wr_ne _ hr
  split
  · exact (t.irq_get_ne p b hp hd h0 h1).trans ht
  · exact ht

/-- An error changes no field outside the page's header but the pending registers of the device page and the bridge's pending bits. -/
theorem State.err_get_ne (p c l d : Nat) (hc : f.key ix ≠ CORR_CNT_CNT.key [p]) (he : f.key ix ≠ ERR_CNT_CNT.key [p])
    (h0' : f.key ix ≠ ERR_FIRST_VALID.key [p]) (h1' : f.key ix ≠ ERR_FIRST_LEVEL.key [p]) (h2 : f.key ix ≠ ERR_FIRST_CODE.key [p])
    (h3 : f.key ix ≠ ERR_FIRST_DETAIL.key [p]) (hp : f.key ix ≠ IRQ_PEND_PEND.key [p]) (hd : f.home ix ≠ 3)
    (h0 : f.key ix ≠ HBR_MSIX_PBA_PEND.key [0]) (h1 : f.key ix ≠ HBR_MSIX_PBA_PEND.key [1]) :
    (s.err p c l d).regs.get f ix = s.regs.get f ix := by
  unfold State.err
  split
  · exact (State.irq_get_ne _ p 30 hp hd h0 h1).trans (s.rd_wr_ne _ hc)
  · extract_lets t u
    have ht : t.regs.get f ix = s.regs.get f ix := by
      unfold t
      split
      · rfl
      · exact (State.rd_wr_ne _ _ h3).trans ((State.rd_wr_ne _ _ h2).trans ((State.rd_wr_ne _ _ h1').trans (s.rd_wr_ne _ h0')))
    exact ((State.irq_get_ne _ p 31 hp hd h0 h1).trans (t.rd_wr_ne _ he)).trans ht

end Sys2Proof.Machine
end

