-- ==== Sys2Proof/WellFormed.lean ====
section
/-! DEFINITION. Well-formed commands: the ranges that the spec's indices and written fields have (00_scope: all indices count from zero), as a
check that answers true or false. No meaning depends on it: a command out of its range is answered by its own row. -/

namespace Sys2Proof

open Sys2Proof.Machine (pageExists)

/-- A page that a block occupies (R53, Table 2-6). -/
def pageOk (pg : Nat) : Bool := pageExists pg

/-- A CAN quay, Q00–Q31 (Table 2-6). -/
def canQuayOk (q : Nat) : Bool := decide (q < 32)

/-- An Ethernet quay, Q32–Q63 (Table 2-6). -/
def ethQuayOk (q : Nat) : Bool := decide (32 ≤ q) && decide (q < 64)

/-- A quay, Q00–Q63. -/
def quayOk (q : Nat) : Bool := decide (q < 64)

/-- A list of bytes. -/
def octets (l : List Nat) : Bool := l.all fun b => decide (b < 256)

/-- A writer of the cistern: a quay, IQ0, IQ2 or IQ3 (R213). IQ1 writes no frame. -/
def writerOk (w : Nat) : Bool := decide (w < 68) && w != 65

/-- A CAN frame: an identifier of 11 or 29 bits, a format of Table 9-3, at most 8, 64 or 2,048 data bytes. -/
def canFrameOk (f : CanFrame) : Bool :=
  decide (f.ident < if f.ide then 2 ^ 29 else 2 ^ 11) && decide (f.format < 3) && octets f.data &&
    decide (f.data.length ≤ if f.format = 0 then 8 else if f.format = 1 then 64 else 2048)

/-- A holder of a frame (R212): a queue that exists. -/
def holderOk : Holder → Bool
  | .landing => true
  | .egress q i => decide (q < 64) && decide (i < 8)
  | .berthQueue b => decide (b < 16384)
  | .inner k => decide (k < 4)
  | .pdu i => decide (i < 16384)
  | .reader p => decide (p < 68)
  | .rebuild p => decide (p < 68)

/-- A control queue of Table 6-3 that exists. -/
def controlQueueOk : ControlQueue → Bool
  | .ingress w => writerOk w
  | .jobs => true
  | .stamps q _ => decide (q < 64)
  | .completions p => decide (p < 16)
  | .learning => true
  | .errors => true

/-- An item for a control queue of Table 6-3 that exists. -/
def itemOk : CqItem → Bool
  | .desc w _ _ => writerOk w
  | .record _ => true
  | .stamp q _ _ => decide (q < 64)
  | .completion p _ => decide (p < 16)
  | .learn _ => true
  | .error e => decide (e.code < 256)

/-- An issuer of host reads that exists. -/
def readReqOk : ReadReq → Bool
  | .ring p => decide (p < 16)
  | .fetch => true
  | .cipher l => decide (l < 4)

/-- The targets of a self-test kind (Table 18-3). -/
def selftestTargets : Nat → Nat
  | 1 => 68
  | 2 => 8
  | 3 => 4
  | 4 => 1
  | 5 => 64
  | _ => 0

/-- Whether every operand of a command is in the range that its index or field has. -/
def Instr.wf : Instr → Bool
  | .registerWrite _ a _ _ => decide (a < 0x400000) && a % 4 == 0
  | .pgCommit pg => pageOk pg
  | .pgDiscard pg => pageOk pg
  | .pgCommitBadKey pg => pageOk pg
  | .pgCntClr pg => pageOk pg
  | .cntClrAll pg => pageOk pg
  | .irqEnWrite pg _ => pageOk pg
  | .irqPendClear pg _ => pageOk pg
  | .irqForce pg _ => pageOk pg
  | .errFirstClear pg => pageOk pg
  | .errInjectArm pg ty site => pageOk pg && decide (ty < 4) && decide (site < 65536)
  | .errorInjection pg _ => pageOk pg
  | .mbLockRead q b => canQuayOk q && decide (b < 32)
  | .mbUnlockRead q b => canQuayOk q && decide (b < 32)
  | .mbLockTimeout q b => canQuayOk q && decide (b < 32)
  | .tideStagingWrite a bytes => decide (a + bytes.length ≤ 0x400000) && octets bytes
  | .verifyComplete mismatch memErr => (match mismatch with | some o => decide (o < 0x400000) | none => true) && (match memErr with | some o => decide (o < 0x400000) | none => true)
  | .fetchDone bytes => octets bytes && decide (bytes.length ≤ 0x400000)
  | .fetchErr n => decide (n ≤ 0x400000)
  | .recordAccept port _ => decide (port < 68)
  | .checkWordQuery port => decide (port < 68)
  | .claimRefreshTimeout x => decide (x < 2)
  | .planeFault x _ _ _ => decide (x < 2)
  | .takeOut x _ => decide (x < 2)
  | .rejoin x => decide (x < 2)
  | .pllRelock x _ => decide (x < 2)
  | .planeSelftestDone x _ _ => decide (x < 2)
  | .bankHandover w data _ _ _ => writerOk w && octets data && decide (data.length ≤ 256)
  | .cellLanding w => writerOk w
  | .ingressOverrun w => writerOk w
  | .frameRelease _ h => holderOk h
  | .cellCrcFailure port _ c => decide (port < 68) && decide (c < 98304)
  | .bankFailure src => decide (src < 9)
  | .controlQueuePush item => itemOk item
  | .controlQueuePop q _ => controlQueueOk q
  | .berthWindowWrite a _ _ => decide (a < 0x100000) && a % 4 == 0
  | .meterSweep b => decide (b < 16384)
  | .clrStats b => decide (b < 16384)
  | .refill b => decide (b < 16384)
  | .unblock b => decide (b < 16384)
  | .stampSweep ovf idx => decide (idx < if ovf then 512 else 65536)
  | .canFrameReceived q f _ => canQuayOk q && canFrameOk f
  | .canBusError q lec _ _ _ _ _ => canQuayOk q && decide (lec < 16)
  | .protocolException q => canQuayOk q
  | .canTxAttemptStart q _ _ _ => canQuayOk q
  | .canTxSuccess q => canQuayOk q
  | .canTxAttemptFail q _ => canQuayOk q
  | .txLifeExpired q k => canQuayOk q && decide (k < 4)
  | .busOffRecovered q => canQuayOk q
  | .canModeApplied q => canQuayOk q
  | .recover q => canQuayOk q
  | .qycSleep q => canQuayOk q
  | .qycWake q _ => canQuayOk q
  | .clrLec q => canQuayOk q
  | .qycFlush q i => canQuayOk q && decide (i < 4)
  | .mbReq q _ => canQuayOk q
  | .mbCancel q _ => canQuayOk q
  | .ethFrameReceived q bytes _ _ _ _ _ => ethQuayOk q && octets bytes
  | .ethTxStart q => ethQuayOk q
  | .ethTxEnd q _ => ethQuayOk q
  | .ethCutTooLong q => ethQuayOk q
  | .ethLinkDown q => ethQuayOk q
  | .ethLinkUp q _ _ => ethQuayOk q
  | .usxCodeWord q code _ => ethQuayOk q && decide (code ≤ 4)
  | .collision q _ => ethQuayOk q
  | .ethModeApplied q => ethQuayOk q
  | .qyeFlush q i => ethQuayOk q && decide (i < 8)
  | .lineConditionSet q codes => quayOk q && codes.all fun c => decide (c < 16)
  | .lineConditionClear q codes => quayOk q && codes.all fun c => decide (c < 16)
  | .canReversalFrame q => canQuayOk q
  | .roleExchange q => canQuayOk q
  | .measureTerm q => quayOk q
  | .termMeasureDone q _ => quayOk q
  | .termMeasureTimeout q => quayOk q
  | .tdr q => quayOk q
  | .tdrDone q kind echo => quayOk q && decide (kind ≤ 5) && decide (echo < 4294967296)
  | .swapReset q => quayOk q
  | .measCancel q => quayOk q
  | .canWakePattern q => canQuayOk q
  | .wakePatternAbandon q => canQuayOk q
  | .selectiveWakeFrame q f _ => canQuayOk q && canFrameOk f
  | .g1608Wake q _ frame => canQuayOk q && (match frame with | some f => canFrameOk f | none => true)
  | .t1sEnergyWake q _ => quayOk q
  | .tc10Wake q => quayOk q
  | .detectorRearm q => quayOk q
  | .eventStamp q _ _ _ => quayOk q
  | .syncMeasurement _ _ _ _ _ _ port => ethQuayOk port
  | .gmChange d _ _ _ => decide (d < 4)
  | .stampPathSwitch q => ethQuayOk q
  | .pcsFaultClear q => ethQuayOk q
  | .pdelayInitiate q => ethQuayOk q
  | .pdelayReqReceived q _ _ => ethQuayOk q
  | .pdelayExchangeEnd q _ => ethQuayOk q
  | .syncRelay d _ _ _ _ _ _ _ => decide (d < 4)
  | .gmSyncSend d _ => decide (d < 4)
  | .domainLost d => decide (d < 4)
  | .asMessageIgnored q => ethQuayOk q
  | .cantSyncWrite e => decide (e < 16)
  | .cantFupWrite e => decide (e < 16)
  | .captureEdge c _ _ _ => decide (c < 16)
  | .hckTsqPop q _ => decide (q < 64)
  | .hckCapPop c => decide (c < 16)
  | .logRingRpWrite rp => decide (rp < 2 ^ 32)
  | .cipherJobStart l => decide (l < 4)
  | .provisionalContinuation l => decide (l < 4)
  | .cipherJobFinish l => decide (l < 4)
  | .compareFail l => decide (l < 4)
  | .cipherReleaseSlot l => decide (l < 4)
  | .enc l tag => decide (l < 4) && decide (tag < 256)
  | .dec l tag => decide (l < 4) && decide (tag < 256)
  | .mac l tag => decide (l < 4) && decide (tag < 256)
  | .cmacVerify l tag => decide (l < 4) && decide (tag < 256)
  | .hostJobComplete l data => decide (l < 4) && (match data with | some b => octets b | none => true)
  | .keyLoad l _ _ => decide (l < 4)
  | .keyClear l => decide (l < 4)
  | .cphResPop l => decide (l < 4)
  | .derive slot parent => decide (slot < 4096) && decide (parent < 4096)
  | .kwlImport slot parent => decide (slot < 4096) && decide (parent < 4096)
  | .invalidate slot => decide (slot < 4096)
  | .destroy slot => decide (slot < 4096)
  | .hostWrite _ _ bs _ => bs.all fun b => match b with | some x => decide (x < 256) | none => true
  | .dmaReadCompletion r data => readReqOk r && (match data with | some b => octets b | none => true)
  | .dmaReadTimeout r => readReqOk r
  | .semAcquire n _ => decide (n < 32)
  | .semRelease n _ => decide (n < 32)
  | .semTimeout n => decide (n < 32)
  | .iq0RxFrame descs => descs.all fun d => match d with | some b => octets b && b.length == 16 | none => true
  | .txDescriptorFetch p desc => decide (p < 16) && octets desc && desc.length == 16
  | .txCompletion p => decide (p < 16)
  | .txTailWrite p v => decide (p < 16) && decide (v < 65536)
  | .rxTailWrite p v => decide (p < 16) && decide (v < 65536)
  | .cqRpWrite p v => decide (p < 16) && decide (v < 65536)
  | .ringEnableWrite p _ _ => decide (p < 16)
  | .ringHalt p _ => decide (p < 16)
  | .ringCoalTimeout p => decide (p < 16)
  | .fearlekRead bytes => octets bytes
  | .fearlekWrite bytes => octets bytes
  | .readFixed bytes => octets bytes
  | .writeFixed bytes => octets bytes
  | .fearlekAbort bytes => octets bytes
  | .fearlekWordTimeout bytes _ => octets bytes
  | .segSleep q => quayOk q
  | .segWake q _ => quayOk q
  | .tc10SleepRequest q => quayOk q
  | .tc10SleepAck q _ => quayOk q
  | .tc10SleepTimeout q => quayOk q
  | .segmentCommitPoint q => quayOk q
  | .dwellEnd q => quayOk q
  | .segmentAwake q => quayOk q
  | .sleepAbort q _ _ => quayOk q
  | .falseWakeTimeout q => quayOk q
  | .regionCommitPoint r => decide (r ≤ 1)
  | .wakePinEvent n level => decide (n < 4) && decide (level ≤ 1)
  | .restoreComplete badSlots tagFails failed => (badSlots.all fun b => decide (b < 2)) && (tagFails.all fun x => decide (x < 4096)) && failed.all fun p => pageExists p
  | .supRecAck id => decide (id < 64)
  | .supRecSel id => decide (id < 64)
  | .selftestSlice kind target => decide (target < selftestTargets kind)
  | .selftestSliceEnd kind target _ _ => decide (target < selftestTargets kind)
  | .selftestPeriodDue kind target => decide (target < selftestTargets kind)
  | .supStReq kind target => decide (kind < 16) && decide (target < 256)
  | .alarmRise a => decide (a < 7)
  | .alarmClear a => decide (a < 7)
  | .scanArm v _ => decide (v < 256)
  | .scanComplete _ chain => decide (chain < 256)
  | .pcieLinkUp speed width => decide (1 ≤ speed) && decide (speed ≤ 4) && (width == 1 || width == 2 || width == 4)
  | .plcaStatusChange q _ => ethQuayOk q
  | .pairShortRetest q => quayOk q
  | .tidLoadDataWrite _ | .deltaSealArrive _ | .hckRateWrite _ | .ppsInEdge _ _ | .retainedWrite _ | .retainedWriteDone _
  | .hostRead _ _ _ _ | .hostReadTimeout _ | .lockedRead _ | .d2dLinkFailure _ | .pwkWake _ | .wakeNorth _ | .wakeSouth _
  | .retLoadDataWrite _ | .errorReport _ | .tempWarn _ _ | .scanGo _ _ | .historyWrite _ | .historyWriteRetry _ | .repairMapWrite _
  | .commitBoundary | .verify | .arm | .disarm | .tidCommit | .tidSnapshot | .fetch | .clearShadow | .swap | .swapDone | .swapTimeout
  | .strokeBoundary | .execStart | .emit | .gate | .trig | .triggerEdge | .capw | .pack | .packComplete | .check | .test | .mark
  | .lowTideWindowEnd | .descriptorIntake | .forwardingDecision | .lengthNotice | .occupancyReloadDone | .takeover | .deltaCommit
  | .copyLinkError | .rejoinStart | .rejoinComplete | .iq2JobEnqueue | .signalExtraction | .mapTimeoutSweep | .encap1722 | .decap1722
  | .encapDarast | .decapDarast | .rewrite | .rebuild | .cellWrite | .classification | .clrAllStats | .clrAllStatsDone | .learningRequest
  | .agingSweep | .search | .read | .insert | .write | .delete | .flushDynamic | .openRebuild | .swapBanks | .closeRebuild | .dropPending
  | .lkpLongCmdDone | .lkpResPop | .walkerVisit | .step | .stepPps | .cancelStep | .epochRestart | .epochApply | .hckSnapshot | .hold
  | .release | .stepApply | .syncLoss | .ppsOutPulse | .ppsOutFall | .logRecordReport | .logRecordOutput | .logDataIrq | .logFrameSend
  | .summaryWrite | .logFlush | .sealNow | .reseal | .sealClose | .sealStop | .iq3JobEnqueue | .kwlCommit | .restoreCustody | .orphanSweep
  | .maskKeyRenew | .rbgStartupDone | .rbgHealthFail | .rootGenerate | .retainedWriteRetry | .hotReset | .pcieLinkDown
  | .functionLevelReset | .busMasterDisable | .d3hotEntry | .d0Return | .rxAuthZero | .pwkSleep | .sleepNorth | .sleepSouth
  | .packageCommitPoint | .packageDwellEnd | .sleepTimerExpiry | .pwkWakePop | .powerOn | .vbatStable | .logicDieUp | .rstNLow | .vbatLoss
  | .retCommit | .slotCommitEnd | .loadOpen | .loadSeal | .loadAbort | .autoAckTimeout | .supRecPop | .unitReset | .clusterReset
  | .regionReset | .dieReset | .packageReset | .repairClear | .resetDone | .regionRetryTimeout | .safeResetTimeout | .bankWindowStart
  | .rstNRelease | .switchedRailsInRange | .kwlCommandDone =>
    true

end Sys2Proof
end

