-- ==== Sys2Proof/Tests/Slice0.lean ====
section
/-! SUPPORT. The model's own tests: the well-formedness check on terms that it accepts and refuses, single steps whose results the spec's worked
examples give, and for each statement with hypotheses states and operands that meet them, one for each of its clauses. -/

namespace Sys2Proof.Machine

set_option Elab.async false

/-! ### Small states -/

/-- A state in RUN with both dies up and the host's link trained, as after the restore, with fields written. -/
def wS (l : List (Fld × List Nat × Nat)) : State :=
  l.foldl (fun s p => s.wr p.1 p.2.1 p.2.2) { mode := .run, regs := [], now := 5000000000, count := 5000000000 * nsUnit }
/-- A state in RUN after its restore, with fields written. -/
def wR (l : List (Fld × List Nat × Nat)) : State :=
  wS ([(DEV_STATUS_LOGIC_UP, [], 1), (DEV_STATUS_RESTORE_DONE, [], 1), (DEV_STATUS_MODE, [], 1)] ++ l)
/-- The same with the host link trained and bus mastering on. -/
def wH (l : List (Fld × List Nat × Nat)) : State :=
  wR ([(HBR_STATUS_LINK_UP, [], 1), (HBR_STATUS_BME, [], 1)] ++ l)
/-- A memory holding little-endian fields: address, bytes and value. -/
def wM (l : List (Nat × Nat × Nat)) : Mem := l.foldl (fun m f => Mem.puts m f.1 (leBytes f.2.1 f.2.2)) []
/-- An image of sections (type, offset and number of records) and fields. -/
def wI (secs l : List (Nat × Nat × Nat)) : Mem :=
  wM ([(0x2C, 4, 1), (0x36, 2, secs.length)] ++ (secs.zipIdx.flatMap fun p =>
    [(0x80 + 16 * p.2, 2, p.1.1), (0x84 + 16 * p.2, 4, p.1.2.1), (0x8C + 16 * p.2, 4, p.1.2.2)]) ++ l)
/-- A state that runs a tide of one stroke with the action words `ws`, plane A active. -/
def wT (ws : List Nat) (secs m : List (Nat × Nat × Nat)) (l : List (Fld × List Nat × Nat)) : State :=
  { wR ([(TID_STATUS_EXEC, [], exRunning), (TID_ACT_LEN_L, [], 1), (PM_STATUS_ROLE, [0], roleActive), (HCK_STATUS_SET, [], 1)] ++ l) with
    tid :=
      { active := wI ([(1, 0x100, 1), (2, 0x140, ws.length)] ++ secs)
          ([(0x100, 4, ws.length)] ++ (ws.zipIdx.map fun p => (0x140 + 8 * p.2, 8, p.1)) ++ m)
        hasActive := true } }
/-- A quay enabled in mode `m` with its front-end, its transmitter and, on an Ethernet quay, its link on. -/
def wQ (q m : Nat) (l : List (Fld × List Nat × Nat)) : State :=
  wR ([(PG_STATE_ENABLED, [pgQ q], 1), (PG_STATE_ENABLED, [pgLFE q], 1), (LFE_CTRL_TX_EN, [q], 1)]
    ++ (if q < 32 then [(QYC_CTRL_MODE, [q], m)] else [(QYE_CTRL_MODE, [q], m), (QYE_STATUS_LINK, [q], 1)]) ++ l)
/-! ### Values of the types that travel, with every operand at its lowest -/

def dDesc : Desc := { cell := 0, len := 0, src := 0, medium := 0 }
def dRec : Rec := { d := dDesc }
def dQItem : QItem := { frame := 0, r := dRec }
def dLkpCmd : LkpCmd := { op := 0, tag := 0, cond := false, bank := 0, table := 0, keyLo := 0, keyHi := 0, vid := 0, data := [], gen := 0 }
def dFrameObj : FrameObj := { writer := 0, cells := [] }
def dSgwJob : SgwJob := { item := dQItem, maps := false, tunnels := [] }
def dCphJob : CphJob := { item := dQItem, protect := false, fv := 0, admitted := 0 }
def dCanFrame : CanFrame := { ident := 0 }
def dFlowRec : FlowRec := { plane := 0, r := dRec, todo := 0 }
def dRetWrite : RetWrite := { owner := .commit, addr := 0, data := [], need := 0 }
def dLoc : Loc := { ovf := false, idx := 0 }
def dTxJob : TxJob := { desc := [], idx := 0, at_ := 0 }
def dSupRec : SupRec := { level := 0, code := 0, page := 0 }
def dPduLayout : PduLayout := { pdu := 0, kind := 0, flags := 0, length := 0, base := 0, canId := 0, sdt := 0, vcid := 0, hdrTunnel := 0, af := 0, txBerth := 0 }
def dHostJob : HostJob := { op := 0, mode := 0, intake := false, tagLen := 0, slot := 0, len := 0, aad := 0, src := 0, dst := 0, iv := [], tagIn := [], tag := 0, at_ := 0 }
def dLoadSt : LoadSt := { target := 0 }
def dWindow : Window := { kind := 0, target := 0, fin := 0 }
def dDelta : Delta := { stroke := 0, lines := [], img := {}, claim := 0 }
def dErrReport : ErrReport := { page := 0, code := 0, detail := 0, level := 0 }
def dLearnReq : LearnReq := { da := 0, vid := 0, quay := 0, stamp := 0 }
def dStampEntry : StampEntry := { stamp := 0 }
def dLogRec : LogRec := { ty := 0, stamp := 0, body := [] }
def dResetReq : ResetReq := { scope := .die }
def dWinRec : WinRec := { kind := 0, target := 0, z2 := 0, stroke := 0, slot := 0, len := 0, z14 := 0 }
def dLkpRes : LkpRes := { tag := 0, status := 0, ovf := false, loc := 0, data := [] }
def dKwlCmd : KwlCmd := { derive_ := false, slot := 0, parent := 0, cfg := {}, at_ := 0 }
def dRxJob : RxJob := { item := dQItem, pair := 0 }
def dCommitSt : CommitSt := { target := 0, seq := 0, at_ := 0 }
def dTrigEdge : TrigEdge := { output := 0, level := 0, at_ := 0, pin := 0 }
def dSigMap : SigMap := { srcBerth := 0, srcPos := 0, width := 0, flags := 0, dstPdu := 0, dstPos := 0, srcUpd := 0, dstUpd := 0, timeout := 0, dflt := 0 }
def dBank : Bank := { data := [], last := false, deadline := 0 }
def dCapEntry : CapEntry := { stamp := 0 }
def dHostRes : HostRes := { status := 0, tag := 0 }
def dCqEntry : CqEntry := { rx := false, status := 0 }
def dWakeRec : WakeRec := { kind := 0, src := 0 }

/-! ### Well-formed and ill-formed commands -/

theorem test_wf_accepts_0 : List.all ([.registerWrite .host 0 0 false, .pgCommit 0, .pgDiscard 0, .pgCommitBadKey 0, .pgCntClr 0, .cntClrAll 0, .irqEnWrite 0 0, .irqPendClear 0 0,
    .irqForce 0 0, .errFirstClear 0, .errInjectArm 0 0 0, .errorInjection 0 0, .mbLockRead 0 0, .mbUnlockRead 0 0, .mbLockTimeout 0 0,
    .tideStagingWrite 0 [], .verifyComplete none none, .fetchDone [], .fetchErr 0, .recordAccept 0 none, .checkWordQuery 0, .claimRefreshTimeout 0,
    .planeFault 0 false 0 0, .takeOut 0 .host, .rejoin 0, .pllRelock 0 false, .planeSelftestDone 0 false 0, .bankHandover 0 [] false 0 0,
    .cellLanding 0, .ingressOverrun 0, .frameRelease 0 .landing, .cellCrcFailure 0 0 0, .bankFailure 0, .controlQueuePush (.record dRec),
    .controlQueuePop .jobs false, .berthWindowWrite 0 0 false, .meterSweep 0, .clrStats 0, .refill 0, .unblock 0] ++
    [.stampSweep false 0, .canFrameReceived 0 dCanFrame 0, .canBusError 0 0 false 0 0 0 0, .protocolException 0, .canTxAttemptStart 0 0 false none,
    .canTxSuccess 0, .canTxAttemptFail 0 false, .txLifeExpired 0 0, .busOffRecovered 0, .canModeApplied 0, .recover 0, .qycSleep 0, .qycWake 0 .host,
    .clrLec 0, .qycFlush 0 0, .mbReq 0 0, .mbCancel 0 0, .ethFrameReceived 40 [] false false 0 0 0, .ethTxStart 40, .ethTxEnd 40 0, .ethCutTooLong 40,
    .ethLinkDown 40, .ethLinkUp 40 false 0, .usxCodeWord 40 0 false, .collision 40 false, .ethModeApplied 40, .qyeFlush 40 0, .lineConditionSet 0 [],
    .lineConditionClear 0 [], .canReversalFrame 0]) Instr.wf = true := by decide +kernel

theorem test_wf_accepts_1 : List.all ([.roleExchange 0, .measureTerm 0, .termMeasureDone 0 0, .termMeasureTimeout 0, .tdr 0, .tdrDone 0 0 0, .swapReset 0, .measCancel 0,
    .canWakePattern 0, .wakePatternAbandon 0, .selectiveWakeFrame 0 dCanFrame false, .g1608Wake 0 0 none, .t1sEnergyWake 0 0, .tc10Wake 0,
    .detectorRearm 0, .eventStamp 0 false 0 0, .syncMeasurement 0 0 0 0 0 0 40, .gmChange 0 none none none, .stampPathSwitch 40, .pcsFaultClear 40,
    .pdelayInitiate 40, .pdelayReqReceived 40 0 0, .pdelayExchangeEnd 40 none, .syncRelay 0 0 0 0 0 0 0 [], .gmSyncSend 0 [], .domainLost 0,
    .asMessageIgnored 40, .cantSyncWrite 0, .cantFupWrite 0, .captureEdge 0 false 0 0, .hckTsqPop 0 false, .hckCapPop 0, .logRingRpWrite 0,
    .cipherJobStart 0, .provisionalContinuation 0, .cipherJobFinish 0, .compareFail 0, .cipherReleaseSlot 0, .enc 0 0, .dec 0 0] ++
    [.mac 0 0, .cmacVerify 0 0, .hostJobComplete 0 none, .keyLoad 0 false false, .keyClear 0, .cphResPop 0, .derive 0 0, .kwlImport 0 0, .invalidate 0,
    .destroy 0, .hostWrite .bar0 0 [] false, .dmaReadCompletion .fetch none, .dmaReadTimeout .fetch, .semAcquire 0 none, .semRelease 0 .host,
    .semTimeout 0, .iq0RxFrame [], .txDescriptorFetch 0 (List.replicate 16 0), .txCompletion 0, .txTailWrite 0 0, .rxTailWrite 0 0, .cqRpWrite 0 0,
    .ringEnableWrite 0 false false, .ringHalt 0 false, .ringCoalTimeout 0, .fearlekRead [], .fearlekWrite [], .readFixed [], .writeFixed [],
    .fearlekAbort []]) Instr.wf = true := by decide +kernel

theorem test_wf_accepts_2 : List.all ([.fearlekWordTimeout [] 0, .segSleep 0, .segWake 0 .host, .tc10SleepRequest 0, .tc10SleepAck 0 false, .tc10SleepTimeout 0, .segmentCommitPoint 0,
    .dwellEnd 0, .segmentAwake 0, .sleepAbort 0 0 none, .falseWakeTimeout 0, .regionCommitPoint 0, .wakePinEvent 0 0, .restoreComplete [] [] [],
    .supRecAck 0, .supRecSel 0, .selftestSlice 1 0, .selftestSliceEnd 1 0 false [], .selftestPeriodDue 1 0, .supStReq 0 0, .alarmRise 0,
    .alarmClear 0, .scanArm 0 .host, .scanComplete false 0, .pcieLinkUp 1 1, .plcaStatusChange 40 false, .pairShortRetest 0]) Instr.wf = true := by decide +kernel

theorem test_wf_refuses_0 : List.any ([.registerWrite .host 1000000000000 0 false, .pgCommit 1000000000000, .pgDiscard 1000000000000, .pgCommitBadKey 1000000000000,
    .pgCntClr 1000000000000, .cntClrAll 1000000000000, .irqEnWrite 1000000000000 0, .irqPendClear 1000000000000 0, .irqForce 1000000000000 0,
    .errFirstClear 1000000000000, .errInjectArm 1000000000000 0 0, .errInjectArm 0 1000000000000 0, .errInjectArm 0 0 1000000000000,
    .errorInjection 1000000000000 0, .mbLockRead 1000000000000 0, .mbLockRead 0 1000000000000, .mbUnlockRead 1000000000000 0,
    .mbUnlockRead 0 1000000000000, .mbLockTimeout 1000000000000 0, .mbLockTimeout 0 1000000000000, .tideStagingWrite 1000000000000 [],
    .tideStagingWrite 0 [256], .verifyComplete (some 0x400000) none, .verifyComplete none (some 0x400000), .fetchDone [256], .fetchErr 1000000000000,
    .recordAccept 1000000000000 none, .checkWordQuery 1000000000000, .claimRefreshTimeout 1000000000000, .planeFault 1000000000000 false 0 0,
    .takeOut 1000000000000 .host, .rejoin 1000000000000, .pllRelock 1000000000000 false, .planeSelftestDone 1000000000000 false 0,
    .bankHandover 1000000000000 [] false 0 0, .bankHandover 0 [256] false 0 0, .cellLanding 1000000000000, .ingressOverrun 1000000000000,
    .frameRelease 0 (.egress 64 0), .frameRelease 0 (.egress 0 8)] ++
    [.frameRelease 0 (.berthQueue 16384), .frameRelease 0 (.inner 4), .frameRelease 0 (.pdu 16384), .frameRelease 0 (.reader 68),
    .frameRelease 0 (.rebuild 68), .cellCrcFailure 1000000000000 0 0, .cellCrcFailure 0 0 1000000000000, .bankFailure 1000000000000,
    .controlQueuePush (.desc 65 dDesc false), .controlQueuePush (.stamp 64 false dStampEntry), .controlQueuePush (.completion 16 dCqEntry),
    .controlQueuePush (.error ⟨0, 256, 0, 0⟩), .controlQueuePop (.ingress 68) false, .controlQueuePop (.stamps 64 false) false,
    .controlQueuePop (.completions 16) false, .berthWindowWrite 1000000000000 0 false, .meterSweep 1000000000000, .clrStats 1000000000000,
    .refill 1000000000000, .unblock 1000000000000, .stampSweep false 1000000000000, .canFrameReceived 1000000000000 dCanFrame 0,
    .canFrameReceived 0 { dCanFrame with ident := 2048 } 0, .canFrameReceived 0 { dCanFrame with format := 3 } 0,
    .canFrameReceived 0 { dCanFrame with data := [256] } 0, .canFrameReceived 0 { dCanFrame with data := List.replicate 9 0 } 0,
    .canBusError 1000000000000 0 false 0 0 0 0, .canBusError 0 1000000000000 false 0 0 0 0, .protocolException 1000000000000,
    .canTxAttemptStart 1000000000000 0 false none]) Instr.wf = false := by decide +kernel

theorem test_wf_refuses_1 : List.any ([.canTxSuccess 1000000000000, .canTxAttemptFail 1000000000000 false, .txLifeExpired 1000000000000 0, .txLifeExpired 0 1000000000000,
    .busOffRecovered 1000000000000, .canModeApplied 1000000000000, .recover 1000000000000, .qycSleep 1000000000000, .qycWake 1000000000000 .host,
    .clrLec 1000000000000, .qycFlush 1000000000000 0, .qycFlush 0 1000000000000, .mbReq 1000000000000 0, .mbCancel 1000000000000 0,
    .ethFrameReceived 1000000000000 [] false false 0 0 0, .ethFrameReceived 40 [256] false false 0 0 0, .ethTxStart 1000000000000,
    .ethTxEnd 1000000000000 0, .ethCutTooLong 1000000000000, .ethLinkDown 1000000000000, .ethLinkUp 1000000000000 false 0,
    .usxCodeWord 1000000000000 0 false, .usxCodeWord 40 1000000000000 false, .collision 1000000000000 false, .ethModeApplied 1000000000000,
    .qyeFlush 1000000000000 0, .qyeFlush 40 1000000000000, .lineConditionSet 1000000000000 [], .lineConditionSet 0 [16],
    .lineConditionClear 1000000000000 [], .lineConditionClear 0 [16], .canReversalFrame 1000000000000, .roleExchange 1000000000000,
    .measureTerm 1000000000000, .termMeasureDone 1000000000000 0, .termMeasureTimeout 1000000000000, .tdr 1000000000000, .tdrDone 1000000000000 0 0,
    .tdrDone 0 1000000000000 0, .tdrDone 0 0 1000000000000] ++
    [.swapReset 1000000000000, .measCancel 1000000000000, .canWakePattern 1000000000000, .wakePatternAbandon 1000000000000,
    .selectiveWakeFrame 1000000000000 dCanFrame false, .selectiveWakeFrame 0 { dCanFrame with ident := 2048 } false,
    .selectiveWakeFrame 0 { dCanFrame with format := 3 } false, .selectiveWakeFrame 0 { dCanFrame with data := [256] } false,
    .selectiveWakeFrame 0 { dCanFrame with data := List.replicate 9 0 } false, .g1608Wake 1000000000000 0 none,
    .g1608Wake 0 0 (some { dCanFrame with ident := 2048 }), .t1sEnergyWake 1000000000000 0, .tc10Wake 1000000000000, .detectorRearm 1000000000000,
    .eventStamp 1000000000000 false 0 0, .syncMeasurement 0 0 0 0 0 0 1000000000000, .gmChange 1000000000000 none none none,
    .stampPathSwitch 1000000000000, .pcsFaultClear 1000000000000, .pdelayInitiate 1000000000000, .pdelayReqReceived 1000000000000 0 0,
    .pdelayExchangeEnd 1000000000000 none, .syncRelay 1000000000000 0 0 0 0 0 0 [], .gmSyncSend 1000000000000 [], .domainLost 1000000000000,
    .asMessageIgnored 1000000000000, .cantSyncWrite 1000000000000, .cantFupWrite 1000000000000, .captureEdge 1000000000000 false 0 0,
    .hckTsqPop 1000000000000 false]) Instr.wf = false := by decide +kernel

theorem test_wf_refuses_2 : List.any ([.hckCapPop 1000000000000, .logRingRpWrite 1000000000000, .cipherJobStart 1000000000000, .provisionalContinuation 1000000000000,
    .cipherJobFinish 1000000000000, .compareFail 1000000000000, .cipherReleaseSlot 1000000000000, .enc 1000000000000 0, .enc 0 1000000000000,
    .dec 1000000000000 0, .dec 0 1000000000000, .mac 1000000000000 0, .mac 0 1000000000000, .cmacVerify 1000000000000 0, .cmacVerify 0 1000000000000,
    .hostJobComplete 1000000000000 none, .hostJobComplete 0 (some [256]), .keyLoad 1000000000000 false false, .keyClear 1000000000000,
    .cphResPop 1000000000000, .derive 1000000000000 0, .derive 0 1000000000000, .kwlImport 1000000000000 0, .kwlImport 0 1000000000000,
    .invalidate 1000000000000, .destroy 1000000000000, .hostWrite .bar0 0 [some 256] false, .dmaReadCompletion (.ring 16) none,
    .dmaReadCompletion (.cipher 4) none, .dmaReadCompletion .fetch (some [256]), .dmaReadTimeout (.ring 16), .dmaReadTimeout (.cipher 4),
    .semAcquire 1000000000000 none, .semRelease 1000000000000 .host, .semTimeout 1000000000000, .iq0RxFrame [some [0]],
    .txDescriptorFetch 1000000000000 (List.replicate 16 0), .txDescriptorFetch 0 [], .txDescriptorFetch 0 (256 :: List.replicate 15 0),
    .txCompletion 1000000000000] ++
    [.txTailWrite 1000000000000 0, .txTailWrite 0 1000000000000, .rxTailWrite 1000000000000 0, .rxTailWrite 0 1000000000000,
    .cqRpWrite 1000000000000 0, .cqRpWrite 0 1000000000000, .ringEnableWrite 1000000000000 false false, .ringHalt 1000000000000 false,
    .ringCoalTimeout 1000000000000, .fearlekRead [256], .fearlekWrite [256], .readFixed [256], .writeFixed [256], .fearlekAbort [256],
    .fearlekWordTimeout [256] 0, .segSleep 1000000000000, .segWake 1000000000000 .host, .tc10SleepRequest 1000000000000,
    .tc10SleepAck 1000000000000 false, .tc10SleepTimeout 1000000000000, .segmentCommitPoint 1000000000000, .dwellEnd 1000000000000,
    .segmentAwake 1000000000000, .sleepAbort 1000000000000 0 none, .falseWakeTimeout 1000000000000, .regionCommitPoint 1000000000000,
    .wakePinEvent 1000000000000 0, .wakePinEvent 0 1000000000000, .restoreComplete [2] [] [], .restoreComplete [] [4096] []]) Instr.wf = false := by decide +kernel

theorem test_wf_refuses_3 : List.any ([.restoreComplete [] [] [0x3FF], .supRecAck 1000000000000, .supRecSel 1000000000000, .selftestSlice 1000000000000 0,
    .selftestSlice 1 1000000000000, .selftestSliceEnd 1000000000000 0 false [], .selftestSliceEnd 1 1000000000000 false [],
    .selftestPeriodDue 1000000000000 0, .selftestPeriodDue 1 1000000000000, .supStReq 1000000000000 0, .supStReq 0 1000000000000,
    .alarmRise 1000000000000, .alarmClear 1000000000000, .scanArm 1000000000000 .host, .scanComplete false 1000000000000, .pcieLinkUp 1000000000000 1,
    .pcieLinkUp 1 1000000000000, .plcaStatusChange 1000000000000 false, .pairShortRetest 1000000000000]) Instr.wf = false := by decide +kernel

/-! ### One step each, against the spec's worked examples and tables -/

/-- The state that a command answers. -/
def wAfter (c : Instr) (s : State) : State := match exec c s with | .next t => t | _ => State.reset

/-- FIPS-197, Appendix B, the standard that 14_cipher_engine names. -/
theorem test_aes_block :
    aesEnc [0x2b, 0x7e, 0x15, 0x16, 0x28, 0xae, 0xd2, 0xa6, 0xab, 0xf7, 0x15, 0x88, 0x09, 0xcf, 0x4f, 0x3c]
      [0x32, 0x43, 0xf6, 0xa8, 0x88, 0x5a, 0x30, 0x8d, 0x31, 0x31, 0x98, 0xa2, 0xe0, 0x37, 0x07, 0x34] =
      [0x39, 0x25, 0x84, 0x1d, 0x02, 0xdc, 0x09, 0xfb, 0xdc, 0x11, 0x85, 0x97, 0x19, 0x6a, 0x0b, 0x32] := by decide +kernel

/-- R504: a 1,514-byte MACsec frame with a reused key takes 102 lane clocks, 255 ns. -/
theorem test_macsec_job_time :
    jobTime (jobBytes { kind := 1, key256 := false, conf := true, sc := true, es := false, scb := false, tag := 16, fvBits := 0, window := 0 }
      true 1514 3) false = 255 * nsUnit := by decide

/-- 11_line_front_ends, step 8 of its example: 473 quarter-ohms is CLASS 4. -/
theorem test_one_termination :
    (wAfter (.termMeasureDone 5 473) { wR [(PG_STATE_ENABLED, [pgLFE 5], 1)] with fronts := [(5, { meas := some (1, 0) })] }).rd LFE_TERM_CLASS [5] = 4 := by
  decide +kernel

/-- 12_harbour_clock, step 3 of its example: e = +420,000 ns over 125 ms slews at −100 ppm (rates in 2⁻⁴⁰). -/
theorem test_servo_clamps :
    signedOf 32 (((wR [(HCK_SERVO_RATE_LIM, [], 100), (HCK_SERVO_KP, [], 1), (HCK_SERVO_KI, [], 10)]).steer (420000 * 65536)
      (125000000 * 65536)).rd HCK_RATE_APPLIED_RATE []) = -109951163 := by decide +kernel

/-- 12_harbour_clock, step 5 of its example: e = 20,000 ns gives p = −80 ppm, within the limit. -/
theorem test_servo_within_limit :
    (signedOf 32 (((wR [(HCK_SERVO_RATE_LIM, [], 100), (HCK_SERVO_KP, [], 1), (HCK_SERVO_KI, [], 31)]).steer (20000 * 65536)
      (125000000 * 65536)).rd HCK_RATE_APPLIED_RATE []) * 1000000 / 2 ^ 40) = -81 := by decide +kernel

/-- 17_sleep_wake, example of a decaying hold-up bank: at 6.5 V a journal write of 4.5 mJ starts. -/
theorem test_holdup_journal_starts :
    let r := (wR [(PWK_HOLDUP_CFG_CAP_UF, [], 2200), (PWK_HOLDUP_CFG_VMIN_MV, [], 6000), (PWK_HOLDUP_RATIO_RATIO, [], 160)]).holdup (some 650000) 3000
    r.2 = true ∧ r.1.rd PWK_HOLDUP_E_UJ [] = 6875 := by decide +kernel

/-- The same bank at 6.3 V: 4.059 mJ, a journal write is refused. -/
theorem test_holdup_journal_refused :
    let r := (wR [(PWK_HOLDUP_CFG_CAP_UF, [], 2200), (PWK_HOLDUP_CFG_VMIN_MV, [], 6000), (PWK_HOLDUP_RATIO_RATIO, [], 160)]).holdup (some 630000) 3000
    r.2 = false ∧ r.1.rd PWK_HOLDUP_E_UJ [] = 4059 := by decide +kernel

/-- 09_can_quays, step 4 of the lone node: the acknowledgement error at TEC 120 makes TEC 128 and the quay error-passive. -/
theorem test_lone_node_turns_passive :
    let s := wAfter (.canBusError 14 3 true 0 0 0 0) (wQ 14 3 [(QYC_ERRCNT_TEC, [14], 120)])
    s.rd QYC_ERRCNT_TEC [14] = 128 ∧ s.rd QYC_STATUS_FC_STATE [14] = 1 := by decide +kernel

/-- 05_signal_gateway, step 2 of the wheel-speed example: 0x1234, big-endian at start 7, is sent as 12 34. -/
theorem test_wheel_speed_packs :
    ((Mem.putField [] 0 (fieldBits true 7 16) 0x1234).byte 0, (Mem.putField [] 0 (fieldBits true 7 16) 0x1234).byte 1) = (0x12, 0x34) := by
  decide +kernel

/-- The same example: bytes 3–4 = 34 12, little-endian at bit 24, read 0x1234. -/
theorem test_wheel_speed_extracts : payField [0, 0, 0, 0x34, 0x12, 0, 0, 0] (fieldBits false 24 16) = 0x1234 := by decide +kernel

/-- 02_register_pages, step 3 of its example: a staged write while a commit is pending is ignored and seen. -/
theorem test_staged_write_rejected :
    let s := wAfter (.registerWrite .host (LOG_CMP_DEVICE_ID.base) 5 false)
      (wH [(PG_STATE_STAGED_PENDING, [pgLOG], 1)])
    s.on PG_STATE_STAGED_REJECT [pgLOG] = true ∧ s.staged = [] := by decide +kernel

/-- R564: a semaphore that is held keeps its owner. -/
theorem test_semaphore_held :
    (wAfter (.semAcquire 3 (some .mgp)) (wR [(HBR_SEM_OWNER, [3], 1)])).rd HBR_SEM_OWNER [3] = 1 := by decide +kernel

/-- Table 17-1: reset leaves the package OFF, and a tick moves only the elapsed time. -/
theorem test_tick_from_reset : (match step State.reset with | .next t => t.now | _ => 0) = State.reset.now + 1 := by decide +kernel

/-! ### States and commands that meet the hypotheses of the statements -/

theorem witness_StepRunsFrontCommand : ∃ (s : State) (c : Instr) (rest : List Instr), s.pending = c :: rest :=
  ⟨{ wR [] with pending := [.hold, .release] }, .hold, [.release], rfl⟩

theorem witness_IdleStepIsOneTick :
    (∃ s : State, s.pending = []) ∧ (∃ s : State, s.pending = [] ∧ s.logicUp = false) ∧
    (∃ s : State, s.pending = [] ∧ s.logicUp = true ∧ s.nextBoundary s.count ≤ s.count + s.tickInc) ∧
    (∃ s : State, s.pending = [] ∧ s.logicUp = true ∧ s.count + s.tickInc < s.nextBoundary s.count) :=
  ⟨⟨State.reset, rfl⟩, ⟨State.reset, rfl, by decide +kernel⟩,
   ⟨{ wR [] with count := 5000007999 * nsUnit }, rfl, by decide +kernel, by decide +kernel⟩,
   ⟨wR [], rfl, by decide +kernel, by decide +kernel⟩⟩

theorem witness_EveryStepKeepsCanonicalForms : ∃ s t : State, Canonical s ∧ step s = .next t :=
  ⟨State.reset, { State.reset with now := State.reset.now + 1 }, ⟨rfl, rfl, rfl, rfl, rfl, rfl, rfl, fun _ => ⟨rfl, nofun, nofun⟩⟩, rfl⟩

theorem witness_FramesOfEveryCommand : ∃ (c : Instr) (s t : State), exec c s = .next t := ⟨.swap, State.reset, State.reset, rfl⟩

theorem witness_CommandsKeepTheQueueAndElapsedTime :
    (∃ (c : Instr) (s t : State), exec c s = .next t) ∧ (∃ (c : Instr) (s t : State), exec c s = .next t ∧ t.count ≠ s.count) :=
  ⟨⟨.swap, State.reset, State.reset, rfl⟩, ⟨.rstNLow, wR [], wAfter .rstNLow (wR []), rfl, by decide +kernel⟩⟩

def wPageCommits4S : State :=
  ({ wR [] with commits := [(5, 1)], count := 5000007900 * nsUnit } : State)

def wPageCommits6S : State :=
  ({ wR [] with bnd := { num := 3, arrived := 5000000000, none := false, stroke := true } } : State)

def wPageCommits7S : State :=
  ({ wR [] with bnd := { num := 3, arrived := 5000000000, none := false, stroke := true }, commits := [(5, 1000)] } : State)

def wPageCommits10S : State :=
  ({ wR [] with staged := [((PM_TX_FRESH_SKIP_SKIP.key [0]), 9)] } : State)

theorem witness_PageCommits :
    (∃ (s : State) (pg : Nat), s.pageServed pg = true ∧ s.on PG_STATE_STAGED_PENDING [pg] = false) ∧
    (∃ (s : State) (pg : Nat), s.pageServed pg = true ∧ s.on PG_STATE_STAGED_PENDING [pg] = true) ∧
    (∃ (s : State) (pg : Nat), s.pageServed pg = true ∧ SMap.find? s.commits pg = none) ∧
    (∃ (s : State) (pg : Nat) (n : Nat), s.pageServed pg = true ∧ SMap.find? s.commits pg = some n ∧ s.discardInTime n = true) ∧
    (∃ (s : State) (pg : Nat) (n : Nat), s.pageServed pg = true ∧ SMap.find? s.commits pg = some n ∧ s.discardInTime n = false) ∧
    (∃ (s : State) (pg : Nat), s.pageServed pg = true) ∧
    (∃ (s : State), s.mode ≠ .off ∧ s.commitTurn = true ∧ ({ s with bnd := { s.bnd with commit := true } } : State).commitsDue = []) ∧
    (∃ (s : State) (pg : Nat), s.mode ≠ .off ∧ s.commitTurn = true ∧ ({ s with bnd := { s.bnd with commit := true } } : State).commitsDue = [pg]) ∧
    (∃ (s : State) (pg : Nat), ((s.spoiled.contains pg = true ∨ (s.withStaged pg).pageLegal s pg = false))) ∧
    (∃ (s : State) (pg : Nat), s.spoiled.contains pg = false ∧ (s.withStaged pg).pageLegal s pg = true) ∧
    (∃ (s : State) (pg : Nat) (f : Fld) (ix : List Nat) (v : Nat), s.spoiled.contains pg = false ∧ (s.withStaged pg).pageLegal s pg = true ∧ pg ∈ [pgPM 0, pgPM 1, pgSGW, pgPWK, pgSUP] ∧ f.whn = .staged ∧ s.stagedOf pg = [(f, ix, v)] ∧ v < 2 ^ f.width) :=
  ⟨⟨(wR []), 5, by decide +kernel⟩,
   ⟨(wR [(PG_STATE_STAGED_PENDING, [5], 1)]), 5, by decide +kernel⟩,
   ⟨(wR []), 5, by decide +kernel⟩,
   ⟨({ wR [] with commits := [(5, 1)], bnd := {} } : State), 5, 1, by decide +kernel⟩,
   ⟨wPageCommits4S, 5, 1, by decide +kernel⟩,
   ⟨(wR []), 5, by decide +kernel⟩,
   ⟨wPageCommits6S, by decide +kernel⟩,
   ⟨wPageCommits7S, 5, by decide +kernel⟩,
   ⟨({ wR [] with spoiled := [5] } : State), 5, by decide +kernel⟩,
   ⟨(wR []), 5, by decide +kernel⟩,
   ⟨wPageCommits10S, (pgPM 0), PM_TX_FRESH_SKIP_SKIP, [0], 9, by decide +kernel, by decide +kernel, by decide +kernel, by decide +kernel, rfl, by decide +kernel⟩⟩

def wPageCountersErrorsAndInterrupts5S : State :=
  (wR [(ERR_INJECT_ARM, [pgSUP], 1), (ERR_INJECT_SITE, [pgSUP], 2), (ERR_INJECT_TYPE, [pgSUP], 2)])

theorem witness_PageCountersErrorsAndInterrupts :
    (∃ (s : State) (pg : Nat), s.pageServed pg = true) ∧
    (∃ (s : State) (pg : Nat), s.pageServed pg = true ∧ hasCntClr pg = true) ∧
    (∃ (s : State) (pg : Nat) (f : Fld) (ix : List Nat), s.pageServed pg = true ∧ hasCntClr pg = true ∧ pg ∉ [0x011, 0x081, 0x091, 0x0E3] ∧ keyPage (f.key ix) ≠ pg) ∧
    (∃ (s : State) (pg : Nat), s.pageServed pg = true) ∧
    (∃ (s : State) (pg : Nat) (ty : Nat) (site : Nat), s.pageServed pg = true ∧ ty < 2 ^ ERR_INJECT_TYPE.width ∧ site < 2 ^ ERR_INJECT_SITE.width) ∧
    (∃ (s : State) (pg : Nat) (sel : Nat) (i : Inject), s.pageServed pg = true ∧ s.on ERR_INJECT_ARM [pg] = true ∧ siteOf pg (s.rd ERR_INJECT_SITE [pg]) (s.rd ERR_INJECT_TYPE [pg]) = some i ∧ s.siteHeld pg (s.rd ERR_INJECT_SITE [pg]) sel = true) ∧
    (∃ (s : State) (pg : Nat), s.pageServed pg = true) ∧
    (∃ (s : State) (pg : Nat), s.pageServed pg = true) ∧
    (∃ (s : State) (pg : Nat), s.pageServed pg = true) :=
  ⟨⟨(wR []), 5, by decide +kernel⟩,
   ⟨(wR []), 7, by decide +kernel⟩,
   ⟨(wR []), 7, QYC_NBT_NBRP, [0], by decide +kernel⟩,
   ⟨(wR [(ERR_FIRST_VALID, [5], 1)]), 5, by decide +kernel⟩,
   ⟨(wR []), 5, 1, 1, by decide +kernel⟩,
   ⟨wPageCountersErrorsAndInterrupts5S, pgSUP, 0, (.error 3), by decide +kernel⟩,
   ⟨(wR []), 5, by decide +kernel⟩,
   ⟨(wR [(IRQ_PEND_PEND, [5], 7)]), 5, by decide +kernel⟩,
   ⟨(wR []), 5, by decide +kernel⟩⟩

theorem witness_MasterAccessesReachTheRegisters :
    (∃ (s : State) (m : Master) (a : Nat), s.reaches m = true ∧ a % 4 = 0) ∧
    (∃ (s : State) (a : Nat), s.reaches .host = true ∧ a % 4 = 0) ∧
    (∃ (s : State) (m : Master) (pg : Nat), s.reaches m = true ∧ s.answers pg = true ∧ pg < 0x400) ∧
    (∃ (s : State), s.logicUp = true ∧ s.on HBR_STATUS_LINK_UP [] = true) ∧
    (∃ (s : State) (a : Nat), s.logicUp = true ∧ s.on HBR_STATUS_LINK_UP [] = true ∧ a % 4 = 0) ∧
    (∃ (s : State) (a : Nat), s.logicUp = true ∧ s.on HBR_STATUS_LINK_UP [] = true ∧ a % 4 = 0 ∧ s.answers (a / 4096) = true) ∧
    (∃ (s : State) (a : Nat), s.logicUp = true ∧ s.on HBR_STATUS_LINK_UP [] = true ∧ a < 0x400000) :=
  ⟨⟨(wR [(HBR_STATUS_LINK_UP, [], 1)]), .host, 4, by decide +kernel⟩,
   ⟨(wR [(HBR_STATUS_LINK_UP, [], 1)]), 4, by decide +kernel⟩,
   ⟨(wR [(HBR_STATUS_LINK_UP, [], 1)]), .mgp, 5, by decide +kernel⟩,
   ⟨(wR [(HBR_STATUS_LINK_UP, [], 1)]), by decide +kernel⟩,
   ⟨(wR [(HBR_STATUS_LINK_UP, [], 1)]), 0, by decide +kernel⟩,
   ⟨(wR [(HBR_STATUS_LINK_UP, [], 1)]), 0, by decide +kernel⟩,
   ⟨(wR [(HBR_STATUS_LINK_UP, [], 1)]), 0, by decide +kernel⟩⟩

def wFearlekRequestsAreServed0bs : List Nat :=
  ([1, 0, 0, 0, 0, 0, 1] ++ beBytes 2 (fearlekCrc [1, 0, 0, 0, 0, 0, 1]))

def wFearlekRequestsAreServed0R : Request :=
  ({ cmd := 1, addr := 0, len := 1, payload := [], crcOk := true } : Request)

def wFearlekRequestsAreServed0C : Instr :=
  (.fearlekRead ([1, 0, 0, 0, 0, 0, 1] ++ beBytes 2 (fearlekCrc [1, 0, 0, 0, 0, 0, 1])))

def wFearlekRequestsAreServed1bs : List Nat :=
  ([1, 0, 0, 0, 0, 0, 1] ++ beBytes 2 (fearlekCrc [1, 0, 0, 0, 0, 0, 1]))

def wFearlekRequestsAreServed1R : Request :=
  ({ cmd := 1, addr := 0, len := 1, payload := [], crcOk := true } : Request)

theorem witness_FearlekRequestsAreServed :
    (∃ (s : State) (bs : List Nat) (r : Request) (c : Instr), (r.cmd, c) ∈ [(1, Instr.fearlekRead bs), (2, .fearlekWrite bs), (3, .readFixed bs), (4, .writeFixed bs)] ∧ s.mode ≠ .off ∧ s.hbr.frameBad = false ∧ parseRequest bs = some r ∧ s.requestStatus r = 0 ∧ s.holdsRead (r.addr / 4096) = false) ∧
    (∃ (s : State) (bs : List Nat) (r : Request) (k : Nat), s.mode ≠ .off ∧ s.hbr.frameBad = false ∧ parseRequest bs = some r ∧ s.requestStatus r = 0 ∧ k < r.len) ∧
    (∃ (s : State) (bs : List Nat), s.mode ≠ .off ∧ parseRequest bs = none) :=
  ⟨⟨(wR []), wFearlekRequestsAreServed0bs, wFearlekRequestsAreServed0R, wFearlekRequestsAreServed0C, by decide +kernel⟩,
   ⟨(wR []), wFearlekRequestsAreServed1bs, wFearlekRequestsAreServed1R, 0, by decide +kernel⟩,
   ⟨(wR []), [], by decide +kernel⟩⟩

def wMessageBuffers2S : State :=
  ({ wR [] with quays := [(3, { locks := [(2, 7)] })] } : State)

theorem witness_MessageBuffers :
    (∃ (s : State) (q : Nat) (b : Nat), s.logicUp = true ∧ q < 32 ∧ b < 32) ∧
    (∃ (s : State) (q : Nat) (b : Nat), s.logicUp = true ∧ q < 32 ∧ b < 32) ∧
    (∃ (s : State) (q : Nat) (b : Nat) (n : Nat), s.logicUp = true ∧ SMap.find? (s.quay q).locks b = some n ∧ n + 4000 ≤ s.now) ∧
    (∃ (s : State) (q : Nat), s.logicUp = true ∧ q < 32) ∧
    (∃ (s : State) (q : Nat), s.logicUp = true ∧ q < 32) ∧
    (∃ (s : State) (q : Nat) (b : Nat), q < 32 ∧ b < 32 ∧ SMap.find? (s.quay q).locks b = none ∧ mbBusy (s.mb q b) = false ∧ s.mbFmtOk q b = true) ∧
    (∃ (s : State) (q : Nat) (b : Nat), q < 32 ∧ b < 32 ∧ SMap.find? (s.quay q).locks b = none ∧ mbBusy (s.mb q b) = false ∧ s.mbFmtOk q b = false) ∧
    (∃ (s : State) (q : Nat) (b : Nat), mbBusy (s.mb q b) = true) ∧
    (∃ (s : State) (q : Nat) (b : Nat), q < 32 ∧ b < 32 ∧ SMap.find? (s.quay q).locks b = none ∧ (s.mb q b).state = 1) ∧
    (∃ (s : State) (q : Nat) (b : Nat), q < 32 ∧ b < 32 ∧ SMap.find? (s.quay q).locks b = none ∧ (s.mb q b).state = 2) :=
  ⟨⟨(wR []), 0, 0, by decide +kernel⟩,
   ⟨(wR []), 0, 0, by decide +kernel⟩,
   ⟨wMessageBuffers2S, 3, 2, 7, by decide +kernel⟩,
   ⟨(wR []), 0, by decide +kernel⟩,
   ⟨(wR []), 0, by decide +kernel⟩,
   ⟨(wR []), 0, 0, by decide +kernel⟩,
   ⟨(wR [(QYC_MB_FMT_FORMAT, [3, 2], 3)]), 3, 2, by decide +kernel⟩,
   ⟨(wR [(QYC_MB_CTL_STATE, [3, 2], 2)]), 3, 2, by decide +kernel⟩,
   ⟨(wR [(QYC_MB_CTL_STATE, [3, 2], 1)]), 3, 2, by decide +kernel⟩,
   ⟨(wR [(QYC_MB_CTL_STATE, [3, 2], 2)]), 3, 2, by decide +kernel⟩⟩

def wTideLoading1S : State :=
  ({ wR [] with planes := [(1, { own := some {} })] } : State)

def wTideLoading4S : State :=
  (wR [(PG_STATE_ENABLED, [pgTID], 1), (TID_STATUS_SHADOW, [], shEmpty)])

def wTideLoading5S : State :=
  (wR [(PG_STATE_ENABLED, [pgTID], 1), (TID_STATUS_SHADOW, [], shEmpty), (TID_FETCH_LEN_LEN, [], 64)])

def wTideLoading6S : State :=
  ({ wR [(TID_STATUS_SHADOW, [], shFetching)] with tid := { fetch := (64, 64) } } : State)

def wTideLoading7S : State :=
  ({ wR [(TID_STATUS_SHADOW, [], shFetching)] with tid := { fetch := (64, 64) } } : State)

theorem witness_TideLoading :
    (∃ (s : State) (a : Nat) (bs : List Nat), s.logicUp = true ∧ ((s.takesWrites 0 = true ∨ s.takesWrites 1 = true)) ∧ a + bs.length ≤ tideBytes ∧ bs ≠ [] ∧ [shEmpty, shLoaded, shVerified, shFailed].contains s.shadow = true) ∧
    (∃ (s : State) (a : Nat) (bs : List Nat) (x : Nat) (m : PlaneMem), s.logicUp = true ∧ a + bs.length ≤ tideBytes ∧ bs ≠ [] ∧ [shEmpty, shLoaded, shVerified, shFailed].contains s.shadow = true ∧ x < 2 ∧ s.takesWrites x = true ∧ (s.plane x).own = some m) ∧
    (∃ (s : State) (a : Nat) (bs : List Nat), s.logicUp = true ∧ ((s.takesWrites 0 = true ∨ s.takesWrites 1 = true)) ∧ a + bs.length ≤ tideBytes ∧ bs ≠ [] ∧ s.shadow = shVerifying) ∧
    (∃ (s : State), s.logicUp = true ∧ ((s.takesWrites 0 = true ∨ s.takesWrites 1 = true)) ∧ [shEmpty, shLoaded, shVerified, shFailed].contains s.shadow = true) ∧
    (∃ (s : State), s.logicUp = true ∧ s.on PG_STATE_ENABLED [pgTID] = true ∧ [shEmpty, shLoaded, shFailed, shVerified].contains s.shadow = true) ∧
    (∃ (s : State), s.logicUp = true ∧ s.on PG_STATE_ENABLED [pgTID] = true ∧ [shEmpty, shLoaded, shFailed, shVerified].contains s.shadow = true ∧ s.fetchLegal = true) ∧
    (∃ (s : State) (bs : List Nat), s.logicUp = true ∧ ((s.takesWrites 0 = true ∨ s.takesWrites 1 = true)) ∧ s.shadow = shFetching ∧ bs.length = s.tid.fetch.2) ∧
    (∃ (s : State) (n : Nat), s.logicUp = true ∧ s.shadow = shFetching ∧ n ≤ s.tid.fetch.2) :=
  ⟨⟨(wR []), 0x100, [1, 2], by decide +kernel⟩,
   ⟨wTideLoading1S, 0x100, [1, 2], 1, ({} : PlaneMem), by decide +kernel⟩,
   ⟨(wR [(TID_STATUS_SHADOW, [], shVerifying)]), 0x100, [1, 2], by decide +kernel⟩,
   ⟨(wR [(TID_STATUS_SHADOW, [], shEmpty)]), by decide +kernel⟩,
   ⟨wTideLoading4S, by decide +kernel⟩,
   ⟨wTideLoading5S, by decide +kernel⟩,
   ⟨wTideLoading6S, (List.replicate 64 1), by decide +kernel⟩,
   ⟨wTideLoading7S, 64, by decide +kernel⟩⟩

def wTideVerifyAndCommands0S : State :=
  (wR [(PG_STATE_ENABLED, [pgTID], 1), (TID_STATUS_SHADOW, [], shLoaded)])

def wTideVerifyAndCommands2S : State :=
  (wR [(PG_STATE_ENABLED, [pgTID], 1), (TID_STATUS_SHADOW, [], shVerified)])

def wTideVerifyAndCommands3S : State :=
  (wR [(PG_STATE_ENABLED, [pgTID], 1), (TID_STATUS_SHADOW, [], shArmed)])

def wTideVerifyAndCommands4S : State :=
  (wR [(TID_STATUS_SHADOW, [], shArmed), (TID_SWAP_CFG_MAX_WAIT, [], 0)])

theorem witness_TideVerifyAndCommands :
    (∃ (s : State), s.logicUp = true ∧ s.on PG_STATE_ENABLED [pgTID] = true ∧ [shLoaded, shFailed, shVerified].contains s.shadow = true) ∧
    (∃ (s : State) (mm : Option Nat) (me : Option Nat), s.logicUp = true ∧ s.shadow = shVerifying ∧ ((∀ code ofs, s.verdict mm me = some (code, ofs) → code < 256))) ∧
    (∃ (s : State), s.logicUp = true ∧ s.on PG_STATE_ENABLED [pgTID] = true ∧ s.shadow = shVerified) ∧
    (∃ (s : State), s.logicUp = true ∧ s.on PG_STATE_ENABLED [pgTID] = true ∧ s.shadow = shArmed) ∧
    (∃ (s : State), s.logicUp = true ∧ s.shadow = shArmed ∧ s.rd TID_SWAP_CFG_MAX_WAIT [] ≤ s.tid.waited) ∧
    (∃ (s : State), s.logicUp = true ∧ s.on PG_STATE_ENABLED [pgTID] = true ∧ s.commitRefused = false ∧ ((s.tid.hasActive = true → imgLen s.tid.active ≤ 0x380000))) ∧
    (∃ (s : State), s.logicUp = true) :=
  ⟨⟨wTideVerifyAndCommands0S, by decide +kernel⟩,
   ⟨(wR [(TID_STATUS_SHADOW, [], shVerifying)]), none, none, by decide +kernel, by decide +kernel, by
     intro c o h
     have e : (((wR [(TID_STATUS_SHADOW, [], shVerifying)]).verdict none none).map fun p => p.1).getD 0 < 256 := by decide +kernel
     rw [h] at e; exact e⟩,
   ⟨wTideVerifyAndCommands2S, by decide +kernel⟩,
   ⟨wTideVerifyAndCommands3S, by decide +kernel⟩,
   ⟨wTideVerifyAndCommands4S, by decide +kernel⟩,
   ⟨(wR [(PG_STATE_ENABLED, [pgTID], 1)]), by decide +kernel⟩,
   ⟨(wR []), by decide +kernel⟩⟩

def wSwapsAndStrokes0S : State :=
  ({ wR [(TID_STATUS_SHADOW, [], shArmed)] with bnd := { num := 3, arrived := 5000000000, none := false, stroke := true } } : State)

def wSwapsAndStrokes2S : State :=
  ({ wR [(TID_STATUS_EXEC, [], exRunning)] with bnd := { num := 3, arrived := 5000000000, none := false } } : State)

def wSwapsAndStrokes3S : State :=
  ({ wR [] with bnd := { num := 3, arrived := 5000000000, none := false } } : State)

def wSwapsAndStrokes4S : State :=
  ({ wR [(TID_STATUS_EXEC, [], exWait), (TID_CTRL_RUN, [], 1), (TID_CTRL_FREE_RUN, [], 1)] with bnd := { num := 3, arrived := 5000000000, none := false }, tid := { hasActive := true } } : State)

theorem witness_SwapsAndStrokes :
    (∃ (s : State), s.logicUp = true ∧ s.swapDue = true) ∧
    (∃ (s : State) (n : Nat), s.logicUp = true ∧ s.tid.swapAt = some n ∧ n + strokeUnits ≤ s.count ∧ s.on TID_CTRL_AUTO_COMMIT [] = false) ∧
    (∃ (s : State), s.logicUp = true ∧ s.bndDue (fun b => b.stroke) = true ∧ s.running = true) ∧
    (∃ (s : State), s.logicUp = true ∧ s.bndDue (fun b => b.stroke) = true ∧ s.running = false) ∧
    (∃ (s : State), s.logicUp = true ∧ s.bndDue (fun b => b.start) = true ∧ s.bnd.step = false ∧ s.bnd.epoch = false ∧ s.rd TID_STATUS_EXEC [] = exWait ∧ s.startHolds = true) :=
  ⟨⟨wSwapsAndStrokes0S, by decide +kernel⟩,
   ⟨({ wR [] with tid := { swapAt := some 8 } } : State), 8, by decide +kernel⟩,
   ⟨wSwapsAndStrokes2S, by decide +kernel⟩,
   ⟨wSwapsAndStrokes3S, by decide +kernel⟩,
   ⟨wSwapsAndStrokes4S, by decide +kernel⟩⟩

def wTideActions0s1 : State :=
  ((wT [2 ^ 60] [] [] []).setTid { (wT [2 ^ 60] [] [] []).tid with nextAction := 0 + 1 })

def wTideActions1S : State :=
  ({ wT [2 ^ 60] [] [] [] with planes := [(0, { reloading := true }), (1, { outAt := 5000000000 })] } : State)

def wTideActions2S : State :=
  ({ wT [2 ^ 60] [] [] [] with tid := { (wT [2 ^ 60] [] [] []).tid with late := [(3, 0, 0)] } } : State)

def wTideActions3S : State :=
  ({ wT [2 ^ 60 + 2 ^ 49] [] [] [] with sgw := { closed := [(0, dQItem)] } } : State)

def wTideActions3s1 : State :=
  (wTideActions3S.setTid { wTideActions3S.tid with nextAction := 0 + 1 })

def wTideActions3U : State :=
  (wTideActions3s1.setSgw { wTideActions3s1.sgw with closed := [] })

def wTideActions4S : State :=
  (wT [2 * 2 ^ 60] [] [] [(PM_STATUS_ROLE, [0], roleActive)])

def wTideActions5S : State :=
  ({ wT [3 * 2 ^ 60] [] [] [] with now := 5000000000 } : State)

def wTideActions5tm : Nat :=
  (wTideActions5S.strokeStart 0 + (0 * 8 + 0 % 8) * nsUnit)

def wTideActions8S : State :=
  (wT [4 * 2 ^ 60] [] [] [(HCK_CAP_STAT_WIN_OPEN, [0], 1)])

def wTideActions11S : State :=
  ({ wR [] with sgw := { packing := [(4, dQItem, 9)] } } : State)

def wTideActions12S : State :=
  ({ wR [] with sgw := { packing := [(4, dQItem, 9)], closed := [(4, dQItem)] } } : State)

theorem witness_TideActions :
    (∃ (s : State) (k : Nat) (a : ActionWord) (s1 : State), s.logicUp = true ∧ s.nextAction = some (k, a) ∧ a.ty = 1 ∧ s1 = s.setTid { s.tid with nextAction := k + 1 } ∧ s1.emitItem a = none ∧ s.tid.late.find? (fun p => s.lineArrived ⟨1, p.2.1, p.1⟩) = none ∧ s.lineArrived a = true) ∧
    (∃ (s : State) (k : Nat) (a : ActionWord), s.logicUp = true ∧ s.nextAction = some (k, a) ∧ a.ty = 1 ∧ s.tid.late.find? (fun p => s.lineArrived ⟨1, p.2.1, p.1⟩) = none ∧ s.lineArrived a = false) ∧
    (∃ (s : State) (p : Nat × Nat × Nat), s.logicUp = true ∧ s.tid.late.find? (fun p => s.lineArrived ⟨1, p.2.1, p.1⟩) = some p) ∧
    (∃ (s : State) (k : Nat) (a : ActionWord) (s1 : State) (u : State) (it : QItem) (h : Holder), s.logicUp = true ∧ s.nextAction = some (k, a) ∧ a.ty = 1 ∧ s1 = s.setTid { s.tid with nextAction := k + 1 } ∧ s1.emitItem a = some (it, h, u) ∧ s.tid.late.find? (fun p => s.lineArrived ⟨1, p.2.1, p.1⟩) = none ∧ s.lineArrived a = true) ∧
    (∃ (s : State) (k : Nat) (a : ActionWord), s.logicUp = true ∧ s.nextAction = some (k, a) ∧ a.ty = 2 ∧ s.hasAct = true) ∧
    (∃ (s : State) (k : Nat) (tm : Nat) (a : ActionWord) (l : List (Nat × ActionWord × Nat)), s.logicUp = true ∧ s.running = true ∧ s.tideLen ≠ 0 ∧ s.hasAct = true ∧ s.trigsLeft = (k, a, tm) :: l ∧ s.compareAction s.tid.trigShadow ((imgStroke s.trigImage (if s.tid.trigShadow then 0 else s.tideIndex s.tid.trigStroke)).1 + k) a = s ∧ ((s.tid.trigFirst = true ∨ tm ≤ s.count + strokeUnits))) ∧
    (∃ (s : State) (e : TrigEdge), s.logicUp = true ∧ firstEdge s.hck.edges = some e ∧ e.pin ≤ s.count) ∧
    (∃ (s : State) (k : Nat) (a : ActionWord), s.logicUp = true ∧ s.nextAction = some (k, a) ∧ a.ty = 4 ∧ s.hasAct = true ∧ a.level = 1 ∧ s.compareAction false k a = s) ∧
    (∃ (s : State) (k : Nat) (a : ActionWord), s.logicUp = true ∧ s.nextAction = some (k, a) ∧ a.ty = 4 ∧ s.hasAct = true ∧ a.level ≠ 1 ∧ s.on HCK_CAP_STAT_WIN_OPEN [a.line] = true) ∧
    (∃ (s : State) (k : Nat) (a : ActionWord) (l : PduLayout), s.logicUp = true ∧ s.nextAction = some (k, a) ∧ a.ty = 5 ∧ s.hasAct = true ∧ imgLayout s.tid.active (a.operand % 2 ^ 13) = some l ∧ ((imgMaps s.tid.active).filter fun m => m.2.dstPdu == a.operand % 2 ^ 13) = []) ∧
    (∃ (s : State) (k : Nat) (a : ActionWord) (l : PduLayout), s.logicUp = true ∧ s.nextAction = some (k, a) ∧ a.ty = 5 ∧ s.hasAct = true ∧ imgLayout s.tid.active (a.operand % 2 ^ 13) = some l) ∧
    (∃ (s : State) (k : Nat) (tm : Nat) (it : QItem), s.logicUp = true ∧ List.find? (fun p : Nat × QItem × Nat => p.2.2 ≤ s.count) s.sgw.packing = some (k, it, tm) ∧ SMap.find? s.sgw.closed k = none) ∧
    (∃ (s : State) (k : Nat) (tm : Nat) (it : QItem) (o : QItem), s.logicUp = true ∧ List.find? (fun p : Nat × QItem × Nat => p.2.2 ≤ s.count) s.sgw.packing = some (k, it, tm) ∧ SMap.find? s.sgw.closed k = some o) :=
  ⟨⟨(wT [2 ^ 60] [] [] []), 0, (⟨1, 0, 0⟩ : ActionWord), wTideActions0s1, by decide +kernel, by decide +kernel, by decide +kernel, rfl, by decide +kernel⟩,
   ⟨wTideActions1S, 0, (⟨1, 0, 0⟩ : ActionWord), by decide +kernel⟩,
   ⟨wTideActions2S, (3, 0, 0), by decide +kernel⟩,
   ⟨wTideActions3S, 0, (⟨1, 0, 2 ^ 49⟩ : ActionWord), wTideActions3s1, wTideActions3U, dQItem, (.pdu 0), by decide +kernel, by decide +kernel, by decide +kernel, rfl, by decide +kernel⟩,
   ⟨wTideActions4S, 0, (⟨2, 0, 0⟩ : ActionWord), by decide +kernel⟩,
   ⟨wTideActions5S, 0, wTideActions5tm, (⟨3, 0, 0⟩ : ActionWord), [], by decide +kernel⟩,
   ⟨({ wR [] with hck := { edges := [dTrigEdge] } } : State), dTrigEdge, by decide +kernel⟩,
   ⟨(wT [4 * 2 ^ 60 + 2 ^ 36] [] [] []), 0, (⟨4, 0, 2 ^ 36⟩ : ActionWord), by decide +kernel⟩,
   ⟨wTideActions8S, 0, (⟨4, 0, 0⟩ : ActionWord), by decide +kernel⟩,
   ⟨(wT [5 * 2 ^ 60] [(5, 0x200, 1)] [] []), 0, (⟨5, 0, 0⟩ : ActionWord), dPduLayout, by decide +kernel⟩,
   ⟨(wT [5 * 2 ^ 60] [(5, 0x200, 1)] [] []), 0, (⟨5, 0, 0⟩ : ActionWord), dPduLayout, by decide +kernel⟩,
   ⟨wTideActions11S, 4, 9, dQItem, by decide +kernel⟩,
   ⟨wTideActions12S, 4, 9, dQItem, dQItem, by decide +kernel⟩⟩

def wTestWindowsChecksAndMarks0S : State :=
  ({ wT [6 * 2 ^ 60] [] [] [] with tid := { (wT [6 * 2 ^ 60] [] [] []).tid with arrived := [0] }, bth := { valid := [0] } } : State)

def wTestWindowsChecksAndMarks1S : State :=
  ({ wT [6 * 2 ^ 60] [] [] [] with bth := { valid := [0] } } : State)

def wTestWindowsChecksAndMarks2W : WinRec :=
  (imgWindow (wT [7 * 2 ^ 60] [] [] []).tid.active ((⟨7, 0, 0⟩ : ActionWord).operand % 2 ^ 12))

def wTestWindowsChecksAndMarks3S : State :=
  ({ wT [7 * 2 ^ 60] [] [] [] with tid := { (wT [7 * 2 ^ 60] [] [] []).tid with windows := [{ kind := 0, target := 0, fin := 6000000000 * nsUnit }] } } : State)

def wTestWindowsChecksAndMarks4S : State :=
  (wT [8 * 2 ^ 60] [] [] [(PG_STATE_ENABLED, [pgLOG], 1), (PM_STATUS_ROLE, [0], roleActive)])

def wTestWindowsChecksAndMarks6S : State :=
  ({ wR [(PM_STATUS_ROLE, [0], roleActive)] with planes := [(0, { reloading := true })] } : State)

def wTestWindowsChecksAndMarks7S : State :=
  ({ wR [(PM_STATUS_ROLE, [0], roleActive)] with planes := [(0, { reloading := true })] } : State)

theorem witness_TestWindowsChecksAndMarks :
    (∃ (s : State) (k : Nat) (a : ActionWord), s.logicUp = true ∧ s.nextAction = some (k, a) ∧ a.ty = 6 ∧ s.hasAct = true ∧ s.berthValid a.index = true ∧ s.tid.arrived.contains a.index = true) ∧
    (∃ (s : State) (k : Nat) (a : ActionWord), s.logicUp = true ∧ s.nextAction = some (k, a) ∧ a.ty = 6 ∧ s.hasAct = true ∧ s.berthValid a.index = true ∧ s.tid.arrived.contains a.index = false) ∧
    (∃ (s : State) (k : Nat) (a : ActionWord) (w : WinRec), s.logicUp = true ∧ s.nextAction = some (k, a) ∧ a.ty = 7 ∧ imgWindow s.tid.active (a.operand % 2 ^ 12) = w ∧ (s.tid.windows.any fun g => g.kind == w.kind && g.target == w.target && s.actionTime a < g.fin) = false) ∧
    (∃ (s : State) (k : Nat) (a : ActionWord) (w : WinRec), s.logicUp = true ∧ s.nextAction = some (k, a) ∧ a.ty = 7 ∧ imgWindow s.tid.active (a.operand % 2 ^ 12) = w ∧ (s.tid.windows.any fun g => g.kind == w.kind && g.target == w.target && s.actionTime a < g.fin) = true) ∧
    (∃ (s : State) (k : Nat) (a : ActionWord), s.logicUp = true ∧ s.nextAction = some (k, a) ∧ a.ty = 8 ∧ s.hasAct = true ∧ s.on PG_STATE_ENABLED [pgLOG] = true ∧ s.compareAction false k a = s) ∧
    (∃ (s : State) (w : Window), s.logicUp = true ∧ (s.tid.windows.find? fun w => w.fin ≤ s.count) = some w) ∧
    (∃ (s : State), s.logicUp = true ∧ s.hasAct = true ∧ (s.plane s.actPlane).reloading = true ∧ s.tid.late = []) ∧
    (∃ (s : State), s.logicUp = true ∧ s.hasAct = true ∧ (s.plane s.actPlane).reloading = true) :=
  ⟨⟨wTestWindowsChecksAndMarks0S, 0, (⟨6, 0, 0⟩ : ActionWord), by decide +kernel⟩,
   ⟨wTestWindowsChecksAndMarks1S, 0, (⟨6, 0, 0⟩ : ActionWord), by decide +kernel⟩,
   ⟨(wT [7 * 2 ^ 60] [] [] []), 0, (⟨7, 0, 0⟩ : ActionWord), wTestWindowsChecksAndMarks2W, by decide +kernel⟩,
   ⟨wTestWindowsChecksAndMarks3S, 0, (⟨7, 0, 0⟩ : ActionWord), dWinRec, by decide +kernel⟩,
   ⟨wTestWindowsChecksAndMarks4S, 0, (⟨8, 0, 0⟩ : ActionWord), by decide +kernel⟩,
   ⟨({ wR [] with tid := { windows := [dWindow] } } : State), dWindow, by decide +kernel⟩,
   ⟨wTestWindowsChecksAndMarks6S, by decide +kernel⟩,
   ⟨wTestWindowsChecksAndMarks7S, by decide +kernel⟩⟩

def wDecisionsAndTheirConsumers0S : State :=
  ({ wR [] with cst := { ingress := [(2, { fifo := { items := [(dDesc, true)] } })] } } : State)

def wDecisionsAndTheirConsumers1S : State :=
  ({ wR [(PM_STATUS_ROLE, [0], roleActive)] with cst := { inbox := [(dDesc, 0, [0])] } } : State)

def wDecisionsAndTheirConsumers1U : State :=
  (wDecisionsAndTheirConsumers1S.setCst { wDecisionsAndTheirConsumers1S.cst with inbox := [] })

def wDecisionsAndTheirConsumers2S : State :=
  ({ wR [(PM_STATUS_ROLE, [0], roleActive), (PM_STATUS_ROLE, [1], roleStandby)] with cst := { inbox := [(dDesc, 0, [0, 1])] } } : State)

def wDecisionsAndTheirConsumers2U : State :=
  (wDecisionsAndTheirConsumers2S.setCst { wDecisionsAndTheirConsumers2S.cst with inbox := [] })

def wDecisionsAndTheirConsumers2V : State :=
  ((wDecisionsAndTheirConsumers2U.setPlane (otherPlane 0) (((wDecisionsAndTheirConsumers2U.asPlane (otherPlane 0)).decideStandby (otherPlane 0) dDesc 0).plane (otherPlane 0))).countDecision (otherPlane 0))

def wDecisionsAndTheirConsumers3S : State :=
  ({ wR [(PM_STATUS_ROLE, [0], roleActive), (PM_STATUS_CLAIM, [0], 5)] with cst := { flow := [{ plane := 0, r := { dRec with claim := 5, check := checkWord { dRec with claim := 5 } }, todo := 4 }] } } : State)

def wDecisionsAndTheirConsumers3F : FlowRec :=
  ({ plane := 0, r := { dRec with claim := 5, check := checkWord { dRec with claim := 5 } }, todo := 4 } : FlowRec)

def wDecisionsAndTheirConsumers4S : State :=
  ({ wR [(PM_STATUS_ROLE, [0], roleActive), (PM_STATUS_CLAIM, [0], 5)] with cst := { flow := [{ plane := 0, r := dRec, todo := 4 }] } } : State)

def wDecisionsAndTheirConsumers4R : Rec :=
  (none.getD (({ plane := 0, r := dRec, todo := 4 } : FlowRec).recFor 2))

def wDecisionsAndTheirConsumers5S : State :=
  ({ wR [(PM_STATUS_ROLE, [0], roleActive), (PM_STATUS_ROLE, [1], roleStandby)] with cst := { flow := [{ plane := 0, r := dRec, todo := 0, query := 4 }] }, planes := [(1, { history := [{ dRec with check := checkWord dRec }] })] } : State)

def wDecisionsAndTheirConsumers5F : FlowRec :=
  ({ plane := 0, r := dRec, todo := 0, query := 4 } : FlowRec)

def wDecisionsAndTheirConsumers5G : FlowRec :=
  ({ wDecisionsAndTheirConsumers5F with query := clearBitOf wDecisionsAndTheirConsumers5F.query 2, alt := wDecisionsAndTheirConsumers5F.alt.filter (fun p => p.1 != 2) } : FlowRec)

def wDecisionsAndTheirConsumers6S : State :=
  ({ wR [] with cst := { notices := [{ frame := 7, seq := some 3, bound := 64, len := 60 }], frames := [(7, { dFrameObj with seq := some 3 })] } } : State)

def wDecisionsAndTheirConsumers6N : Notice :=
  ({ frame := 7, seq := some 3, bound := 64, len := 60 } : Notice)

theorem witness_DecisionsAndTheirConsumers :
    (∃ (s : State) (w : Nat) (d : Desc) (m : Bool) (q : CQueue (Desc × Bool)), s.logicUp = true ∧ s.nextFifo = some w ∧ (s.ingr w).fifo.pop = (.item (d, m), q)) ∧
    (∃ (s : State) (u : State) (d : Desc) (seq : Nat) (x : Nat) (l : List (Desc × Nat × List Nat)), s.logicUp = true ∧ s.cst.inbox = (d, seq, [x]) :: l ∧ u = s.setCst { s.cst with inbox := l } ∧ s.inService x = true ∧ s.role x ≠ roleStandby) ∧
    (∃ (s : State) (u : State) (v : State) (d : Desc) (seq : Nat) (x : Nat) (l : List (Desc × Nat × List Nat)), s.logicUp = true ∧ s.cst.inbox = (d, seq, [0, 1]) :: l ∧ x < 2 ∧ s.role x = roleActive ∧ s.role (otherPlane x) = roleStandby ∧ u = s.setCst { s.cst with inbox := l } ∧ v = (u.setPlane (otherPlane x) (((u.asPlane (otherPlane x)).decideStandby (otherPlane x) d seq).plane (otherPlane x))).countDecision (otherPlane x)) ∧
    (∃ (s : State) (port : Nat) (n : Nat) (got : Option Rec) (f : FlowRec) (r : Rec), s.logicUp = true ∧ s.flowFor port = some (n, f) ∧ s.takeoverRec port f = none ∧ s.compareStandby port { f with todo := clearBitOf f.todo port } = s ∧ r = got.getD (f.recFor port) ∧ s.claimsClash = false ∧ s.takesFrom port f.plane r.claim = true ∧ checkWord r = r.check) ∧
    (∃ (s : State) (port : Nat) (n : Nat) (got : Option Rec) (f : FlowRec) (r : Rec), s.logicUp = true ∧ s.flowFor port = some (n, f) ∧ s.takeoverRec port f = none ∧ r = got.getD (f.recFor port) ∧ s.claimsClash = false ∧ s.takesFrom port f.plane r.claim = false) ∧
    (∃ (s : State) (port : Nat) (n : Nat) (f : FlowRec) (g : FlowRec) (r : Rec), s.logicUp = true ∧ s.cst.flow.findIdx? (fun f => bitOf f.query port == 1) = some n ∧ s.cst.flow[n]? = some f ∧ s.inService (otherPlane f.plane) = true ∧ (s.plane (otherPlane f.plane)).history.find? (fun r => r.seq == (f.recFor port).seq) = some r ∧ checkWord r = r.check ∧ r.d.cell = (f.recFor port).d.cell ∧ r.d.len = (f.recFor port).d.len ∧ ((port ≠ 68 → Rec.has r port = Rec.has (f.recFor port) port)) ∧ g = { f with query := clearBitOf f.query port, alt := f.alt.filter (fun p => p.1 != port) }) ∧
    (∃ (s : State) (n : Notice) (seq : Nat) (o : FrameObj), s.logicUp = true ∧ s.cst.notices.find? s.noticeReady = some n ∧ s.noticeFrame n = some o ∧ o.seq = some seq ∧ s.hasAct = false) :=
  ⟨⟨wDecisionsAndTheirConsumers0S, 2, dDesc, true, ({} : CQueue (Desc × Bool)), by decide +kernel⟩,
   ⟨wDecisionsAndTheirConsumers1S, wDecisionsAndTheirConsumers1U, dDesc, 0, 0, [], by decide +kernel, by decide +kernel, rfl, by decide +kernel⟩,
   ⟨wDecisionsAndTheirConsumers2S, wDecisionsAndTheirConsumers2U, wDecisionsAndTheirConsumers2V, dDesc, 0, 0, [], by decide +kernel, by decide +kernel, by decide +kernel, by decide +kernel, by decide +kernel, rfl, rfl⟩,
   ⟨wDecisionsAndTheirConsumers3S, 2, 0, none, wDecisionsAndTheirConsumers3F, (none.getD (wDecisionsAndTheirConsumers3F.recFor 2)), by decide +kernel, by decide +kernel, by decide +kernel, by decide +kernel, rfl, by decide +kernel⟩,
   ⟨wDecisionsAndTheirConsumers4S, 2, 0, none, ({ plane := 0, r := dRec, todo := 4 } : FlowRec), wDecisionsAndTheirConsumers4R, by decide +kernel, by decide +kernel, by decide +kernel, rfl, by decide +kernel⟩,
   ⟨wDecisionsAndTheirConsumers5S, 2, 0, wDecisionsAndTheirConsumers5F, wDecisionsAndTheirConsumers5G, ({ dRec with check := checkWord dRec } : Rec), by decide +kernel, by decide +kernel, by decide +kernel, by decide +kernel, by decide +kernel, by decide +kernel, by decide +kernel, by decide +kernel, by decide +kernel, rfl⟩,
   ⟨wDecisionsAndTheirConsumers6S, wDecisionsAndTheirConsumers6N, 3, ({ dFrameObj with seq := some 3 } : FrameObj), by decide +kernel⟩⟩

def wPlaneRolesAndDeltas4S : State :=
  (wR [(PM_STATUS_ROLE, [0], roleActive), (PM_STATUS_ROLE, [1], roleStandby)])

def wPlaneRolesAndDeltas5S : State :=
  ({ wR [(PM_STATUS_ROLE, [1], roleTakingOver)] with bnd := { num := 3, arrived := 5000000000, none := false } } : State)

def wPlaneRolesAndDeltas7S : State :=
  ({ wR [(PM_STATUS_ROLE, [1], roleOut)] with planes := [(1, { testing := true })] } : State)

def wPlaneRolesAndDeltas8S : State :=
  ({ wR [(PM_STATUS_ROLE, [1], roleOut)] with planes := [(1, { pllLost := true, outAt := 4999800000 })] } : State)

def wPlaneRolesAndDeltas9S : State :=
  ({ wR [(PM_STATUS_ROLE, [1], roleOut), (PM_CTRL_REJOIN_AUTO, [1], 0)] with planes := [(1, { testing := true })] } : State)

def wPlaneRolesAndDeltas10S : State :=
  ({ wR [(PM_STATUS_ROLE, [1], roleOut)] with planes := [(1, { testing := true })] } : State)

def wPlaneRolesAndDeltas11S : State :=
  ({ wR [(PM_STATUS_ROLE, [0], roleActive), (PM_STATUS_ROLE, [1], roleRejoining)] with bnd := { num := 3, arrived := 5000000000, none := false }, planes := [(1, { rejoinDue := true, rejoinAt := 7 })] } : State)

def wPlaneRolesAndDeltas12S : State :=
  ({ wR [(PM_STATUS_ROLE, [0], roleActive), (PM_STATUS_ROLE, [1], roleRejoining)] with planes := [(1, { copying := true })] } : State)

def wPlaneRolesAndDeltas13S : State :=
  ({ wR [] with planes := [(1, { delta := some dDelta })] } : State)

def wPlaneRolesAndDeltas14S : State :=
  ({ wR [(PM_STATUS_CLAIM, [0], 5)] with bnd := { num := 3, arrived := 5000000000, none := false }, planes := [(1, { delta := some { dDelta with arrived := true, claim := 5 } })] } : State)

def wPlaneRolesAndDeltas15S : State :=
  ({ wR [] with bnd := { num := 3, arrived := 5000000000, none := false }, planes := [(1, { delta := some dDelta })] } : State)

def wPlaneRolesAndDeltas17S : State :=
  ({ wR [(PM_STATUS_ROLE, [1], roleRejoining)] with planes := [(1, { copying := true })] } : State)

theorem witness_PlaneRolesAndDeltas :
    (∃ (s : State) (x : Nat) (code : Nat), s.logicUp = true ∧ x < 2 ∧ faultCode false code = true ∧ s.role x = roleStandby) ∧
    (∃ (s : State) (x : Nat) (tid : Bool) (code : Nat), s.logicUp = true ∧ x < 2 ∧ faultCode tid code = true ∧ (tid && code == 0x02) = false) ∧
    (∃ (s : State) (x : Nat), s.logicUp = true ∧ x < 2 ∧ s.role x = roleStandby) ∧
    (∃ (s : State) (x : Nat), s.logicUp = true ∧ x < 2 ∧ s.role x = roleStandby) ∧
    (∃ (s : State) (x : Nat), s.logicUp = true ∧ x < 2 ∧ s.role x = roleActive ∧ s.role (otherPlane x) = roleStandby) ∧
    (∃ (s : State) (x : Nat), s.logicUp = true ∧ s.bndDue (fun b => b.takeover) = true ∧ s.switchGen < 0x7FFF ∧ [0, 1].find? (fun x => s.role x == roleTakingOver && (s.plane (otherPlane x)).outAt < s.bnd.arrived) = some x) ∧
    (∃ (s : State) (x : Nat), s.logicUp = true ∧ x < 2 ∧ s.role x = roleOut ∧ (s.plane x).testing = false ∧ (s.plane x).pllLost = false) ∧
    (∃ (s : State) (x : Nat), s.logicUp = true ∧ x < 2 ∧ s.role x = roleOut ∧ ((s.plane x).testing || (s.plane x).pllLost) = true) ∧
    (∃ (s : State) (x : Nat), s.logicUp = true ∧ x < 2 ∧ s.role x = roleOut ∧ (s.plane x).pllLost = true ∧ s.now ≤ (s.plane x).outAt + 200000) ∧
    (∃ (s : State) (x : Nat), s.logicUp = true ∧ x < 2 ∧ s.role x = roleOut ∧ (s.plane x).testing = true ∧ s.on PM_CTRL_REJOIN_AUTO [x] = false ∧ (s.plane x).rejoinAsked = false) ∧
    (∃ (s : State) (x : Nat), s.logicUp = true ∧ x < 2 ∧ s.role x = roleOut ∧ (s.plane x).testing = true) ∧
    (∃ (s : State) (x : Nat), s.logicUp = true ∧ s.bndDue (fun b => b.rejoin) = true ∧ [0, 1].find? (fun x => s.role x == roleRejoining && (s.plane x).rejoinDue && decide ((s.plane x).rejoinAt < s.bnd.arrived) && s.role (otherPlane x) == roleActive) = some x) ∧
    (∃ (s : State) (x : Nat), s.logicUp = true ∧ [0, 1].find? (fun x => s.role x == roleRejoining && (s.plane x).copying && s.rd PM_REJOIN_LEFT_STROKES [x] == 0) = some x) ∧
    (∃ (s : State) (y : Nat) (d : Delta), s.logicUp = true ∧ s.deltaPlane = some y ∧ (s.plane y).delta = some d) ∧
    (∃ (s : State) (y : Nat) (d : Delta), s.logicUp = true ∧ s.bnd.none = false ∧ s.bnd.time + 500 * slotUnits ≤ s.count ∧ s.deltaPlane = some y ∧ (s.plane y).delta = some d ∧ d.arrived = true ∧ d.crcOk = true ∧ d.claim ≠ 0 ∧ s.claim (otherPlane y) = d.claim) ∧
    (∃ (s : State) (y : Nat) (d : Delta), s.logicUp = true ∧ s.bnd.none = false ∧ s.bnd.time + 500 * slotUnits ≤ s.count ∧ s.deltaPlane = some y ∧ (s.plane y).delta = some d ∧ ((d.arrived = false ∨ d.crcOk = false))) ∧
    (∃ (s : State) (y : Nat), s.logicUp = true ∧ [0, 1].find? (fun y => s.role y == roleStandby || (s.role y == roleRejoining && (s.plane y).copying)) = some y ∧ s.role y = roleStandby) ∧
    (∃ (s : State) (y : Nat), s.logicUp = true ∧ [0, 1].find? (fun y => s.role y == roleStandby || (s.role y == roleRejoining && (s.plane y).copying)) = some y ∧ s.role y ≠ roleStandby ∧ s.rd PM_STATUS_REJOIN_TRIES [y] < 3) :=
  ⟨⟨(wR [(PM_STATUS_ROLE, [0], roleStandby)]), 0, 3, by decide +kernel⟩,
   ⟨(wR [(PM_STATUS_ROLE, [0], roleStandby)]), 0, true, 4, by decide +kernel⟩,
   ⟨(wR [(PM_STATUS_ROLE, [0], roleStandby)]), 0, by decide +kernel⟩,
   ⟨(wR [(PM_STATUS_ROLE, [0], roleStandby)]), 0, by decide +kernel⟩,
   ⟨wPlaneRolesAndDeltas4S, 0, by decide +kernel⟩,
   ⟨wPlaneRolesAndDeltas5S, 1, by decide +kernel⟩,
   ⟨(wR [(PM_STATUS_ROLE, [0], roleOut)]), 0, by decide +kernel⟩,
   ⟨wPlaneRolesAndDeltas7S, 1, by decide +kernel⟩,
   ⟨wPlaneRolesAndDeltas8S, 1, by decide +kernel⟩,
   ⟨wPlaneRolesAndDeltas9S, 1, by decide +kernel⟩,
   ⟨wPlaneRolesAndDeltas10S, 1, by decide +kernel⟩,
   ⟨wPlaneRolesAndDeltas11S, 1, by decide +kernel⟩,
   ⟨wPlaneRolesAndDeltas12S, 1, by decide +kernel⟩,
   ⟨wPlaneRolesAndDeltas13S, 1, dDelta, by decide +kernel⟩,
   ⟨wPlaneRolesAndDeltas14S, 1, ({ dDelta with arrived := true, claim := 5 } : Delta), by decide +kernel⟩,
   ⟨wPlaneRolesAndDeltas15S, 1, dDelta, by decide +kernel⟩,
   ⟨(wR [(PM_STATUS_ROLE, [0], roleStandby)]), 0, by decide +kernel⟩,
   ⟨wPlaneRolesAndDeltas17S, 1, by decide +kernel⟩⟩

def wGatewayJobsAndRebuilds0S : State :=
  ({ wR [] with cst := { innerIn := [(2, [dQItem])] } } : State)

def wGatewayJobsAndRebuilds1S : State :=
  ({ wR [] with cst := { innerIn := [(2, [dQItem])] }, sgw := { jobs := { items := List.replicate jobDepth dQItem } } } : State)

def wGatewayJobsAndRebuilds2S : State :=
  ({ wR [(PM_STATUS_ROLE, [0], roleActive)] with sgw := { cur := some { item := { dQItem with r := { dRec with berthValid := true } }, maps := true, tunnels := [] } } } : State)

def wGatewayJobsAndRebuilds2J : SgwJob :=
  ({ item := { dQItem with r := { dRec with berthValid := true } }, maps := true, tunnels := [] } : SgwJob)

def wGatewayJobsAndRebuilds3S : State :=
  ({ wR [(PM_STATUS_ROLE, [0], roleActive)] with sgw := { cur := some { item := dQItem, maps := true, tunnels := [] } } } : State)

def wGatewayJobsAndRebuilds3J : SgwJob :=
  ({ item := dQItem, maps := true, tunnels := [] } : SgwJob)

def wGatewayJobsAndRebuilds6S : State :=
  ({ wT [] [] [] [] with cst := { rebuilds := [(3, dQItem)] } } : State)

def wGatewayJobsAndRebuilds6U : State :=
  (wGatewayJobsAndRebuilds6S.setCst { wGatewayJobsAndRebuilds6S.cst with rebuilds := [] })

def wGatewayJobsAndRebuilds7S : State :=
  ({ wT [] [(5, 0x200, 1), (9, 0x300, 1)] [(0x300, 1, 66), (0x304, 2, 4)] [] with cst := { rebuilds := [(3, dQItem)], frames := [(0, { dFrameObj with pdu := some 0 })] }, sgw := { packed := [(0, 0)] } } : State)

def wGatewayJobsAndRebuilds7U : State :=
  (wGatewayJobsAndRebuilds7S.setCst { wGatewayJobsAndRebuilds7S.cst with rebuilds := [] })

def wGatewayJobsAndRebuilds7V : State :=
  ((wGatewayJobsAndRebuilds7U.writePduFrame 0 (wGatewayJobsAndRebuilds7U.pduFrame dPduLayout).1 (.rebuild 3) true).1)

def wGatewayJobsAndRebuilds7F : Nat :=
  (((wGatewayJobsAndRebuilds7U.writePduFrame 0 (wGatewayJobsAndRebuilds7U.pduFrame dPduLayout).1 (.rebuild 3) true).2).getD 0)

def wGatewayJobsAndRebuilds7W : State :=
  (((wGatewayJobsAndRebuilds7V.setSgw { wGatewayJobsAndRebuilds7V.sgw with packed := SMap.insert wGatewayJobsAndRebuilds7V.sgw.packed 0 wGatewayJobsAndRebuilds7F }).sealPdu { dQItem.r with d := { dQItem.r.d with cell := wGatewayJobsAndRebuilds7F, len := (wGatewayJobsAndRebuilds7U.pduFrame dPduLayout).1.length, hdr := (wGatewayJobsAndRebuilds7U.pduFrame dPduLayout).2 }, claim := wGatewayJobsAndRebuilds7V.claim wGatewayJobsAndRebuilds7V.actPlane }).1)

def wGatewayJobsAndRebuilds7R : Rec :=
  (((wGatewayJobsAndRebuilds7V.setSgw { wGatewayJobsAndRebuilds7V.sgw with packed := SMap.insert wGatewayJobsAndRebuilds7V.sgw.packed 0 wGatewayJobsAndRebuilds7F }).sealPdu { dQItem.r with d := { dQItem.r.d with cell := wGatewayJobsAndRebuilds7F, len := (wGatewayJobsAndRebuilds7U.pduFrame dPduLayout).1.length, hdr := (wGatewayJobsAndRebuilds7U.pduFrame dPduLayout).2 }, claim := wGatewayJobsAndRebuilds7V.claim wGatewayJobsAndRebuilds7V.actPlane }).2)

def wGatewayJobsAndRebuilds7fl : FlowRec :=
  ({ plane := wGatewayJobsAndRebuilds7W.actPlane, r := wGatewayJobsAndRebuilds7R, todo := 0, taken := 2 ^ 3, emit := dQItem.emit, due := dQItem.due } : FlowRec)

theorem witness_GatewayJobsAndRebuilds :
    (∃ (s : State) (it : QItem) (l : List QItem), s.logicUp = true ∧ s.inner 2 = it :: l ∧ (s.sgw.jobs.push jobDepth it s.stamp).2.1 = true) ∧
    (∃ (s : State) (it : QItem) (l : List QItem), s.logicUp = true ∧ s.inner 2 = it :: l ∧ (s.sgw.jobs.push jobDepth it s.stamp).2.1 = false) ∧
    (∃ (s : State) (j : SgwJob), s.logicUp = true ∧ s.hasAct = true ∧ s.sgw.cur = some j ∧ j.maps = true ∧ j.item.r.berthValid = true) ∧
    (∃ (s : State) (j : SgwJob), s.logicUp = true ∧ s.hasAct = true ∧ s.sgw.cur = some j ∧ j.maps = true ∧ j.item.r.berthValid = false ∧ j.tunnels = []) ∧
    (∃ (s : State) (n : Nat), s.logicUp = true ∧ s.hasAct = true ∧ s.tid.hasActive = true ∧ (imgSection s.tid.active 4).count = n ∧ n ≠ 0) ∧
    (∃ (s : State) (m : SigMap) (l : PduLayout), imgLayout s.tid.active m.dstPdu = some l) ∧
    (∃ (s : State) (u : State) (port : Nat) (it : QItem) (l : List (Nat × QItem)), s.logicUp = true ∧ s.hasAct = true ∧ s.cst.rebuilds = (port, it) :: l ∧ u = s.setCst { s.cst with rebuilds := l } ∧ u.rebuildPdu it = none) ∧
    (∃ (s : State) (u : State) (v : State) (w : State) (port : Nat) (k : Nat) (f : Nat) (it : QItem) (l : List (Nat × QItem)) (lay : PduLayout) (r : Rec) (fl : FlowRec), s.logicUp = true ∧ s.hasAct = true ∧ s.cst.rebuilds = (port, it) :: l ∧ u = s.setCst { s.cst with rebuilds := l } ∧ u.rebuildPdu it = some k ∧ imgLayout u.tid.active k = some lay ∧ u.writePduFrame k (u.pduFrame lay).1 (.rebuild port) true = (v, some f) ∧ (v.setSgw { v.sgw with packed := SMap.insert v.sgw.packed k f }).sealPdu { it.r with d := { it.r.d with cell := f, len := (u.pduFrame lay).1.length, hdr := (u.pduFrame lay).2 }, claim := v.claim v.actPlane } = (w, r) ∧ checkWord r = r.check ∧ w.badCellsOf f = [] ∧ fl = { plane := w.actPlane, r := r, todo := 0, taken := 2 ^ port, emit := it.emit, due := it.due }) :=
  ⟨⟨wGatewayJobsAndRebuilds0S, dQItem, [], by decide +kernel⟩,
   ⟨wGatewayJobsAndRebuilds1S, dQItem, [], by decide +kernel⟩,
   ⟨wGatewayJobsAndRebuilds2S, wGatewayJobsAndRebuilds2J, by decide +kernel⟩,
   ⟨wGatewayJobsAndRebuilds3S, wGatewayJobsAndRebuilds3J, by decide +kernel⟩,
   ⟨(wT [] [(4, 0x200, 3)] [] []), 3, by decide +kernel⟩,
   ⟨(wT [] [(5, 0x200, 1)] [] []), dSigMap, dPduLayout, by decide +kernel⟩,
   ⟨wGatewayJobsAndRebuilds6S, wGatewayJobsAndRebuilds6U, 3, dQItem, [], by decide +kernel, by decide +kernel, by decide +kernel, rfl, by decide +kernel⟩,
   ⟨wGatewayJobsAndRebuilds7S, wGatewayJobsAndRebuilds7U, wGatewayJobsAndRebuilds7V, wGatewayJobsAndRebuilds7W, 3, 0, wGatewayJobsAndRebuilds7F, dQItem, [], dPduLayout, wGatewayJobsAndRebuilds7R, wGatewayJobsAndRebuilds7fl, by decide +kernel, by decide +kernel, by decide +kernel, rfl, by decide +kernel, by decide +kernel, by decide +kernel, by decide +kernel, by decide +kernel, by decide +kernel, rfl⟩⟩

def wGatewayTunnelsRunTheirRecords0S : State :=
  ({ wT [] [(11, 0x200, 1)] [(0x200, 1, 1)] [] with sgw := { cur := some { dSgwJob with tunnels := [0] } } } : State)

def wGatewayTunnelsRunTheirRecords0K : SgwJob :=
  ({ ({ dSgwJob with tunnels := [0] } : SgwJob) with tunnels := ({ dSgwJob with tunnels := [0] } : SgwJob).tunnels.filter fun m => m != 0 } : SgwJob)

def wGatewayTunnelsRunTheirRecords0X : Tunnel :=
  (imgTunnel wGatewayTunnelsRunTheirRecords0S.tid.active 0)

def wGatewayTunnelsRunTheirRecords0F : CanFrame :=
  (canParse (wGatewayTunnelsRunTheirRecords0S.frameBytes ({ dSgwJob with tunnels := [0] } : SgwJob).item.frame))

def wGatewayTunnelsRunTheirRecords0U : State :=
  (if wGatewayTunnelsRunTheirRecords0F.format = fmtXL then wGatewayTunnelsRunTheirRecords0S.convertDrop else wGatewayTunnelsRunTheirRecords0S.sendEncap ({ dSgwJob with tunnels := [0] } : SgwJob).item 0 wGatewayTunnelsRunTheirRecords0X 256 (encap1722 wGatewayTunnelsRunTheirRecords0X (wGatewayTunnelsRunTheirRecords0S.txSeq 0) wGatewayTunnelsRunTheirRecords0F (({ dSgwJob with tunnels := [0] } : SgwJob).item.r.d.stamp / 2 ^ 16)))

def wGatewayTunnelsRunTheirRecords1S : State :=
  ({ wT [] [(11, 0x200, 1)] [(0x200, 1, 3)] [] with sgw := { cur := some { dSgwJob with tunnels := [0] } } } : State)

def wGatewayTunnelsRunTheirRecords1K : SgwJob :=
  ({ ({ dSgwJob with tunnels := [0] } : SgwJob) with tunnels := ({ dSgwJob with tunnels := [0] } : SgwJob).tunnels.filter fun m => m != 0 } : SgwJob)

def wGatewayTunnelsRunTheirRecords1X : Tunnel :=
  (imgTunnel wGatewayTunnelsRunTheirRecords1S.tid.active 0)

def wGatewayTunnelsRunTheirRecords1body : List Nat :=
  (darastBody (canParse (wGatewayTunnelsRunTheirRecords1S.frameBytes ({ dSgwJob with tunnels := [0] } : SgwJob).item.frame)))

def wGatewayTunnelsRunTheirRecords1U : State :=
  (wGatewayTunnelsRunTheirRecords1S.sendEncap ({ dSgwJob with tunnels := [0] } : SgwJob).item 0 wGatewayTunnelsRunTheirRecords1X 65536 (tunHeader wGatewayTunnelsRunTheirRecords1X (wGatewayTunnelsRunTheirRecords1S.rd SGW_DARAST_ETYPE_ETYPE []) ++ darastHeader 1 wGatewayTunnelsRunTheirRecords1X.stream (wGatewayTunnelsRunTheirRecords1S.txSeq 0) wGatewayTunnelsRunTheirRecords1body.length ({ dSgwJob with tunnels := [0] } : SgwJob).item.r.d.stamp (wGatewayTunnelsRunTheirRecords1S.stampOnFb (if ({ dSgwJob with tunnels := [0] } : SgwJob).item.r.d.src < 64 then ({ dSgwJob with tunnels := [0] } : SgwJob).item.r.d.src else 64) ({ dSgwJob with tunnels := [0] } : SgwJob).item.r.d.stamp) ++ wGatewayTunnelsRunTheirRecords1body))

def wGatewayTunnelsRunTheirRecords2S : State :=
  ({ wT [] [(11, 0x200, 1)] [(0x200, 1, 5)] [] with sgw := { cur := some { dSgwJob with tunnels := [0] } } } : State)

def wGatewayTunnelsRunTheirRecords2K : SgwJob :=
  ({ ({ dSgwJob with tunnels := [0] } : SgwJob) with tunnels := ({ dSgwJob with tunnels := [0] } : SgwJob).tunnels.filter fun m => m != 0 } : SgwJob)

def wGatewayTunnelsRunTheirRecords2X : Tunnel :=
  (imgTunnel wGatewayTunnelsRunTheirRecords2S.tid.active 0)

def wGatewayTunnelsRunTheirRecords2F : CanFrame :=
  ((rewriteCan wGatewayTunnelsRunTheirRecords2X (canParse (wGatewayTunnelsRunTheirRecords2S.frameBytes ({ dSgwJob with tunnels := [0] } : SgwJob).item.frame))).getD dCanFrame)

def wGatewayTunnelsRunTheirRecords3S : State :=
  ({ wT [] [(11, 0x200, 1)] [(0x200, 1, 2)] [] with sgw := { cur := some { item := { dQItem with r := { dRec with d := { dDesc with medium := 3 } } }, maps := false, tunnels := [0] } }, cst := { frames := [(0, { dFrameObj with own := List.replicate 14 0 ++ [0x82, 0x80] ++ List.replicate 10 0 })] } } : State)

def wGatewayTunnelsRunTheirRecords3J : SgwJob :=
  ({ item := { dQItem with r := { dRec with d := { dDesc with medium := 3 } } }, maps := false, tunnels := [0] } : SgwJob)

def wGatewayTunnelsRunTheirRecords3K : SgwJob :=
  ({ wGatewayTunnelsRunTheirRecords3J with tunnels := wGatewayTunnelsRunTheirRecords3J.tunnels.filter fun n => (imgTunnel wGatewayTunnelsRunTheirRecords3S.tid.active n).kind != 2 } : SgwJob)

def wGatewayTunnelsRunTheirRecords3mine : List (Nat × Tunnel) :=
  ((wGatewayTunnelsRunTheirRecords3J.tunnels.map fun n => (n, imgTunnel wGatewayTunnelsRunTheirRecords3S.tid.active n)).filter fun r => r.2.kind == 2)

def wGatewayTunnelsRunTheirRecords3recs : List (Nat × Tunnel) :=
  (wGatewayTunnelsRunTheirRecords3mine.filter (fun r => r.2.streamId == [0, 0, 0, 0, 0, 0, 0, 0]))

def wGatewayTunnelsRunTheirRecords4S : State :=
  ({ wT [] [(11, 0x200, 1)] [(0x200, 1, 4)] [] with sgw := { cur := some { item := { dQItem with r := { dRec with d := { dDesc with medium := 3 } } }, maps := false, tunnels := [0] } }, cst := { frames := [(0, { dFrameObj with own := List.replicate 14 0 ++ [0x11, 0, 0, 0, 0, 0, 0, 16] ++ List.replicate 28 0 })] } } : State)

def wGatewayTunnelsRunTheirRecords4R : Nat × Tunnel :=
  (0, imgTunnel wGatewayTunnelsRunTheirRecords4S.tid.active 0)

def wGatewayTunnelsRunTheirRecords4J : SgwJob :=
  ({ item := { dQItem with r := { dRec with d := { dDesc with medium := 3 } } }, maps := false, tunnels := [0] } : SgwJob)

def wGatewayTunnelsRunTheirRecords4K : SgwJob :=
  ({ wGatewayTunnelsRunTheirRecords4J with tunnels := wGatewayTunnelsRunTheirRecords4J.tunnels.filter fun n => (imgTunnel wGatewayTunnelsRunTheirRecords4S.tid.active n).kind != 4 } : SgwJob)

def wGatewayTunnelsRunTheirRecords4mine : List (Nat × Tunnel) :=
  ((wGatewayTunnelsRunTheirRecords4J.tunnels.map fun n => (n, imgTunnel wGatewayTunnelsRunTheirRecords4S.tid.active n)).filter fun r1 => r1.2.kind == 4)

def wGatewayTunnelsRunTheirRecords4pay : List Nat :=
  (wGatewayTunnelsRunTheirRecords4S.jobPayload wGatewayTunnelsRunTheirRecords4J.item)

def wGatewayTunnelsRunTheirRecords4U : State :=
  (wGatewayTunnelsRunTheirRecords4S.seqCheck wGatewayTunnelsRunTheirRecords4R.1 wGatewayTunnelsRunTheirRecords4R.2 16 (be wGatewayTunnelsRunTheirRecords4pay 4 2))

def wGatewayTunnelsRunTheirRecords4V : State :=
  ((wGatewayTunnelsRunTheirRecords4U.reissueCan wGatewayTunnelsRunTheirRecords4J.item.r (wGatewayTunnelsRunTheirRecords4R.2.target % 2 ^ 14) dCanFrame (stampMk (be wGatewayTunnelsRunTheirRecords4pay 8 6) (be wGatewayTunnelsRunTheirRecords4pay 14 4) (be wGatewayTunnelsRunTheirRecords4pay 18 2))).1)

def wGatewayTunnelsRunTheirRecords4ok : Bool :=
  ((wGatewayTunnelsRunTheirRecords4U.reissueCan wGatewayTunnelsRunTheirRecords4J.item.r (wGatewayTunnelsRunTheirRecords4R.2.target % 2 ^ 14) dCanFrame (stampMk (be wGatewayTunnelsRunTheirRecords4pay 8 6) (be wGatewayTunnelsRunTheirRecords4pay 14 4) (be wGatewayTunnelsRunTheirRecords4pay 18 2))).2)

theorem witness_GatewayTunnelsRunTheirRecords :
    (∃ (s : State) (u : State) (j : SgwJob) (k : SgwJob) (n : Nat) (x : Tunnel) (f : CanFrame), s.logicUp = true ∧ s.hasAct = true ∧ s.sgw.cur = some j ∧ j.tunnels.find? (fun n => (imgTunnel s.tid.active n).kind == 1) = some n ∧ x = imgTunnel s.tid.active n ∧ k = { j with tunnels := j.tunnels.filter fun m => m != n } ∧ f = canParse (s.frameBytes j.item.frame) ∧ u = (if f.format = fmtXL then s.convertDrop else s.sendEncap j.item n x 256 (encap1722 x (s.txSeq n) f (j.item.r.d.stamp / 2 ^ 16)))) ∧
    (∃ (s : State) (u : State) (j : SgwJob) (k : SgwJob) (n : Nat) (x : Tunnel) (body : List Nat), s.logicUp = true ∧ s.hasAct = true ∧ s.sgw.cur = some j ∧ j.tunnels.find? (fun n => (imgTunnel s.tid.active n).kind == 3) = some n ∧ x = imgTunnel s.tid.active n ∧ k = { j with tunnels := j.tunnels.filter fun m => m != n } ∧ body = darastBody (canParse (s.frameBytes j.item.frame)) ∧ u = s.sendEncap j.item n x 65536 (tunHeader x (s.rd SGW_DARAST_ETYPE_ETYPE []) ++ darastHeader 1 x.stream (s.txSeq n) body.length j.item.r.d.stamp (s.stampOnFb (if j.item.r.d.src < 64 then j.item.r.d.src else 64) j.item.r.d.stamp) ++ body)) ∧
    (∃ (s : State) (j : SgwJob) (k : SgwJob) (n : Nat) (x : Tunnel) (f : CanFrame), s.logicUp = true ∧ s.hasAct = true ∧ s.sgw.cur = some j ∧ j.tunnels.find? (fun n => (imgTunnel s.tid.active n).kind == 5) = some n ∧ x = imgTunnel s.tid.active n ∧ k = { j with tunnels := j.tunnels.filter fun m => m != n } ∧ rewriteCan x (canParse (s.frameBytes j.item.frame)) = some f) ∧
    (∃ (s : State) (j : SgwJob) (k : SgwJob) (mine : List (Nat × Tunnel)) (recs : List (Nat × Tunnel)) (stream : List Nat) (msgs : List Nat) (seq : Nat), s.logicUp = true ∧ s.hasAct = true ∧ s.sgw.cur = some j ∧ mine = ((j.tunnels.map fun n => (n, imgTunnel s.tid.active n)).filter fun r => r.2.kind == 2) ∧ avtpdu (s.jobPayload j.item) = some (stream, seq, msgs) ∧ recs = mine.filter (fun r => r.2.streamId == stream) ∧ recs ≠ [] ∧ k = { j with tunnels := j.tunnels.filter fun n => (imgTunnel s.tid.active n).kind != 2 }) ∧
    (∃ (s : State) (u : State) (v : State) (ok : Bool) (j : SgwJob) (k : SgwJob) (mine : List (Nat × Tunnel)) (r : Nat × Tunnel) (f : CanFrame) (pay : List Nat), s.logicUp = true ∧ s.hasAct = true ∧ s.sgw.cur = some j ∧ mine = ((j.tunnels.map fun n => (n, imgTunnel s.tid.active n)).filter fun r => r.2.kind == 4) ∧ pay = s.jobPayload j.item ∧ mine.find? (fun r => r.2.stream == be pay 2 2) = some r ∧ darastCan pay (s.frameBytes j.item.frame).length = some f ∧ u = s.seqCheck r.1 r.2 16 (be pay 4 2) ∧ k = { j with tunnels := j.tunnels.filter fun n => (imgTunnel s.tid.active n).kind != 4 } ∧ u.reissueCan j.item.r (r.2.target % 2 ^ 14) f (stampMk (be pay 8 6) (be pay 14 4) (be pay 18 2)) = (v, ok)) :=
  ⟨⟨wGatewayTunnelsRunTheirRecords0S, wGatewayTunnelsRunTheirRecords0U, ({ dSgwJob with tunnels := [0] } : SgwJob), wGatewayTunnelsRunTheirRecords0K, 0, wGatewayTunnelsRunTheirRecords0X, wGatewayTunnelsRunTheirRecords0F, by decide +kernel, by decide +kernel, by decide +kernel, by decide +kernel, rfl, rfl, rfl, rfl⟩,
   ⟨wGatewayTunnelsRunTheirRecords1S, wGatewayTunnelsRunTheirRecords1U, ({ dSgwJob with tunnels := [0] } : SgwJob), wGatewayTunnelsRunTheirRecords1K, 0, wGatewayTunnelsRunTheirRecords1X, wGatewayTunnelsRunTheirRecords1body, by decide +kernel, by decide +kernel, by decide +kernel, by decide +kernel, rfl, rfl, rfl, rfl⟩,
   ⟨wGatewayTunnelsRunTheirRecords2S, ({ dSgwJob with tunnels := [0] } : SgwJob), wGatewayTunnelsRunTheirRecords2K, 0, wGatewayTunnelsRunTheirRecords2X, wGatewayTunnelsRunTheirRecords2F, by decide +kernel, by decide +kernel, by decide +kernel, by decide +kernel, rfl, rfl, by decide +kernel⟩,
   ⟨wGatewayTunnelsRunTheirRecords3S, wGatewayTunnelsRunTheirRecords3J, wGatewayTunnelsRunTheirRecords3K, wGatewayTunnelsRunTheirRecords3mine, wGatewayTunnelsRunTheirRecords3recs, [0, 0, 0, 0, 0, 0, 0, 0], [], 0, by decide +kernel, by decide +kernel, by decide +kernel, rfl, by decide +kernel, rfl, by decide +kernel, rfl⟩,
   ⟨wGatewayTunnelsRunTheirRecords4S, wGatewayTunnelsRunTheirRecords4U, wGatewayTunnelsRunTheirRecords4V, wGatewayTunnelsRunTheirRecords4ok, wGatewayTunnelsRunTheirRecords4J, wGatewayTunnelsRunTheirRecords4K, wGatewayTunnelsRunTheirRecords4mine, wGatewayTunnelsRunTheirRecords4R, dCanFrame, wGatewayTunnelsRunTheirRecords4pay, by decide +kernel, by decide +kernel, by decide +kernel, rfl, rfl, by decide +kernel, by decide +kernel, rfl, rfl, by decide +kernel⟩⟩

def wCellsAndFrames1S : State :=
  ({ wR [] with cst := { ingress := [(2, { refused := true })] } } : State)

def wCellsAndFrames2S : State :=
  ({ wR [] with cst := { ingress := [(2, { waiting := [dBank] })] } } : State)

def wCellsAndFrames3S : State :=
  ({ wR [] with cst := { ingress := [(2, { waiting := [dBank] })], frames := [(0, { dFrameObj with writer := 2, cells := List.replicate 24 (9, 0) })] } } : State)

def wCellsAndFrames4S : State :=
  ({ wR [] with cst := { ingress := [(2, { waiting := [{ dBank with last := true }], next := some 9 })] } } : State)

def wCellsAndFrames6S : State :=
  ({ wR [] with cst := { ingress := [(2, { waiting := [dBank, dBank] })] } } : State)

def wCellsAndFrames7S : State :=
  ({ wR [] with cst := { ingress := [(2, { waiting := [{ dBank with last := true }, dBank] })] } } : State)

def wCellsAndFrames8S : State :=
  ({ wR [] with cst := { frames := [(7, { dFrameObj with holders := [.inner 1, .inner 2] })] } } : State)

def wCellsAndFrames8O : FrameObj :=
  ({ dFrameObj with holders := [.inner 1, .inner 2] } : FrameObj)

def wCellsAndFrames9S : State :=
  ({ wR [] with cst := { frames := [(7, { dFrameObj with holders := [.inner 1] })] } } : State)

def wCellsAndFrames10S : State :=
  ({ wR [] with cst := { frames := [(7, { dFrameObj with cells := [(9, 60)] })] } } : State)

def wCellsAndFrames11S : State :=
  ({ wR [] with cst := { frames := [(7, { dFrameObj with cells := [(9, 60)], holders := [.inner 2] })], innerIn := [(2, [{ dQItem with frame := 7 }])] } } : State)

def wCellsAndFrames11O : FrameObj :=
  ({ dFrameObj with cells := [(9, 60)], holders := [.inner 2] } : FrameObj)

def wCellsAndFrames12S : State :=
  ({ wR [] with cst := { frames := [(7, { dFrameObj with cells := [(9, 60)] })] } } : State)

theorem witness_CellsAndFrames :
    (∃ (s : State) (w : Nat) (bs : List Nat) (last : Bool), s.logicUp = true ∧ w < 68 ∧ w ≠ 65 ∧ 1 ≤ bs.length ∧ bs.length ≤ 256 ∧ ((last = true ∨ bs.length = 256)) ∧ (s.ingr w).refused = false ∧ (s.ingr w).waiting.length < 2) ∧
    (∃ (s : State) (w : Nat) (bs : List Nat), s.logicUp = true ∧ w < 68 ∧ w ≠ 65 ∧ 1 ≤ bs.length ∧ bs.length ≤ 256 ∧ (s.ingr w).refused = true) ∧
    (∃ (s : State) (w : Nat) (c : Nat), s.logicUp = true ∧ (s.ingr w).waiting ≠ [] ∧ (s.ingr w).next = none ∧ s.takeCell w (s.ingr w).current = some c) ∧
    (∃ (s : State) (w : Nat), s.logicUp = true ∧ (s.ingr w).waiting ≠ [] ∧ (s.ingr w).next = none ∧ (s.ingr w).current = none ∧ s.takeCell w none = none) ∧
    (∃ (s : State) (w : Nat) (c : Nat) (b : Bank) (l : List Bank), s.logicUp = true ∧ s.nextWriter = some w ∧ (s.ingr w).waiting = b :: l ∧ (s.ingr w).next = some c ∧ b.last = true ∧ b.data.length ≤ 256) ∧
    (∃ (s : State), s.logicUp = true ∧ s.nextWriter = none) ∧
    (∃ (s : State) (w : Nat), s.logicUp = true ∧ w < 64 ∧ 2 ≤ (s.ingr w).waiting.length ∧ (s.ingr w).waiting.all (fun b => !b.last) = true ∧ (s.ingr w).current = none) ∧
    (∃ (s : State) (w : Nat) (a : Bank) (b : Bank), s.logicUp = true ∧ w < 64 ∧ (s.ingr w).waiting = [a, b] ∧ a.last = true ∧ b.last = false ∧ a.void = false) ∧
    (∃ (s : State) (f : Nat) (h : Holder) (o : FrameObj), s.logicUp = true ∧ s.frame? f = some o ∧ o.holders.contains h = true ∧ o.holders.erase h ≠ []) ∧
    (∃ (s : State) (f : Nat) (h : Holder) (o : FrameObj), s.logicUp = true ∧ s.frame? f = some o ∧ o.holders = [h] ∧ o.failed = []) ∧
    (∃ (s : State) (port : Nat) (f : Nat) (c : Nat) (o : FrameObj), s.logicUp = true ∧ port < 64 ∧ s.frame? f = some o ∧ (o.cells.any fun x => x.1 == c) = true) ∧
    (∃ (s : State) (k : Nat) (f : Nat) (c : Nat) (o : FrameObj) (it : QItem), s.logicUp = true ∧ k < 4 ∧ k ≠ 1 ∧ s.frame? f = some o ∧ (o.cells.any fun x => x.1 == c) = true ∧ (s.inner k).find? (fun x => x.frame == f) = some it) ∧
    (∃ (s : State) (f : Nat) (c : Nat) (o : FrameObj), s.logicUp = true ∧ s.frame? f = some o ∧ (o.cells.any fun x => x.1 == c) = true) ∧
    (∃ (s : State), s.logicUp = true) ∧
    (∃ (s : State) (src : Nat), s.logicUp = true ∧ src < 8 ∧ s.bankFailed src = false) ∧
    (∃ (s : State) (src : Nat), s.logicUp = true ∧ src < 8 ∧ s.bankFailed src = true) :=
  ⟨⟨(wR []), 2, [1, 2], true, by decide +kernel⟩,
   ⟨wCellsAndFrames1S, 2, [1], by decide +kernel⟩,
   ⟨wCellsAndFrames2S, 2, ((wCellsAndFrames2S.takeCell 2 none).getD 0), by decide +kernel⟩,
   ⟨wCellsAndFrames3S, 2, by decide +kernel⟩,
   ⟨wCellsAndFrames4S, 2, 9, ({ dBank with last := true } : Bank), [], by decide +kernel⟩,
   ⟨(wR []), by decide +kernel⟩,
   ⟨wCellsAndFrames6S, 2, by decide +kernel⟩,
   ⟨wCellsAndFrames7S, 2, ({ dBank with last := true } : Bank), dBank, by decide +kernel⟩,
   ⟨wCellsAndFrames8S, 7, (.inner 1), wCellsAndFrames8O, by decide +kernel⟩,
   ⟨wCellsAndFrames9S, 7, (.inner 1), ({ dFrameObj with holders := [.inner 1] } : FrameObj), by decide +kernel⟩,
   ⟨wCellsAndFrames10S, 3, 7, 9, ({ dFrameObj with cells := [(9, 60)] } : FrameObj), by decide +kernel⟩,
   ⟨wCellsAndFrames11S, 2, 7, 9, wCellsAndFrames11O, ({ dQItem with frame := 7 } : QItem), by decide +kernel⟩,
   ⟨wCellsAndFrames12S, 7, 9, ({ dFrameObj with cells := [(9, 60)] } : FrameObj), by decide +kernel⟩,
   ⟨(wR []), by decide +kernel⟩,
   ⟨(wR []), 0, by decide +kernel⟩,
   ⟨(wR [(CST_STATUS_FAILED, [], 4)]), 2, by decide +kernel⟩⟩

def wClassificationOfRecords0S : State :=
  ({ wR [] with cst := { flow := [dFlowRec], frames := [(0, dFrameObj)] } } : State)

def wClassificationOfRecords0U : State :=
  (wClassificationOfRecords0S.setCst { wClassificationOfRecords0S.cst with flow := wClassificationOfRecords0S.cst.flow.eraseIdx 0 })

def wClassificationOfRecords1S : State :=
  ({ wR [] with cst := { flow := [{ dFlowRec with source := some .landing }], frames := [(0, dFrameObj)] } } : State)

def wClassificationOfRecords1U : State :=
  (wClassificationOfRecords1S.setCst { wClassificationOfRecords1S.cst with flow := wClassificationOfRecords1S.cst.flow.eraseIdx 0 })

def wClassificationOfRecords2O : FrameObj :=
  ({ dFrameObj with cells := List.replicate 9000 (9, 256) } : FrameObj)

def wClassificationOfRecords3S : State :=
  ({ wR [] with cst := { bq := [(0, List.replicate 16 dQItem)] } } : State)

theorem witness_ClassificationOfRecords :
    (∃ (s : State) (u : State) (n : Nat) (fl : FlowRec) (o : FrameObj), s.logicUp = true ∧ s.nextSettled = some n ∧ s.cst.flow[n]? = some fl ∧ u = s.setCst { s.cst with flow := s.cst.flow.eraseIdx n } ∧ s.frame? fl.r.d.cell = some o ∧ fl.source = none) ∧
    (∃ (s : State) (u : State) (n : Nat) (fl : FlowRec) (o : FrameObj), s.logicUp = true ∧ s.nextSettled = some n ∧ s.cst.flow[n]? = some fl ∧ u = s.setCst { s.cst with flow := s.cst.flow.eraseIdx n } ∧ s.frame? fl.r.d.cell = some o ∧ fl.source ≠ none) ∧
    (∃ (s : State) (fl : FlowRec) (o : FrameObj), fl.dests ≠ [] ∧ s.sourceTest o = false) ∧
    (∃ (s : State) (f : Nat) (fl : FlowRec), bitOf fl.taken 68 = 1 ∧ berthQueueMax ≤ ((s.charge f .scheduled).berthQ fl.r.berth).length) :=
  ⟨⟨wClassificationOfRecords0S, wClassificationOfRecords0U, 0, dFlowRec, dFrameObj, by decide +kernel, by decide +kernel, by decide +kernel, rfl, by decide +kernel⟩,
   ⟨wClassificationOfRecords1S, wClassificationOfRecords1U, 0, ({ dFlowRec with source := some .landing } : FlowRec), dFrameObj, by decide +kernel, by decide +kernel, by decide +kernel, rfl, by decide +kernel⟩,
   ⟨(wR []), ({ dFlowRec with taken := 2 } : FlowRec), wClassificationOfRecords2O, by decide +kernel⟩,
   ⟨wClassificationOfRecords3S, 0, ({ dFlowRec with taken := 2 ^ 68 } : FlowRec), by decide +kernel⟩⟩

def wControlQueuesPushAndPop3S : State :=
  ({ wR [] with sgw := { jobs := { items := [dQItem] } } } : State)

def wControlQueuesPushAndPop4S : State :=
  ({ wR [] with lkp := { learn := { items := [dLearnReq] } } } : State)

theorem witness_ControlQueuesPushAndPop :
    (∃ (s : State), s.mode ≠ .off) ∧
    (∃ (s : State), s.logicUp = true ∧ s.mode ≠ .off) ∧
    (∃ (s : State), s.logicUp = true ∧ s.mode ≠ .off) ∧
    (∃ (s : State) (it : QItem) (l : List QItem), s.logicUp = true ∧ s.sgw.jobs.items = it :: l) ∧
    (∃ (s : State), s.logicUp = true ∧ s.lkp.learn.items ≠ []) ∧
    (∃ (s : State), s.logicUp = true ∧ s.mode ≠ .off) :=
  ⟨⟨(wR []), by decide +kernel⟩,
   ⟨(wR []), by decide +kernel⟩,
   ⟨(wR []), by decide +kernel⟩,
   ⟨wControlQueuesPushAndPop3S, dQItem, [], by decide +kernel⟩,
   ⟨wControlQueuesPushAndPop4S, by decide +kernel⟩,
   ⟨(wR []), by decide +kernel⟩⟩

def wBerthWindowMetersAndCommands1S : State :=
  ({ wR [] with bth := { valid := [16383], slots := [(16383, List.replicate 40 0)] } } : State)

def wBerthWindowMetersAndCommands2S : State :=
  ({ wR [(PG_STATE_STAGED_PENDING, [pgBTH], 1)] with bth := { valid := [16383] } } : State)

def wBerthWindowMetersAndCommands4S : State :=
  ({ wR [(PM_STATUS_ROLE, [0], roleActive)] with bth := { valid := [3], cfg := wM [(64 * 3 + 0x1F, 3, 10)] } } : State)

theorem witness_BerthWindowMetersAndCommands :
    (∃ (s : State) (b : Nat) (ofs : Nat), s.logicUp = true ∧ b < 16384 ∧ ofs < 40 ∧ ofs % 4 = 0 ∧ s.on PG_STATE_STAGED_PENDING [pgBTH] = false ∧ s.berthValid b = true ∧ s.slot b = none ∧ s.bth.slots.length < stagingSlots) ∧
    (∃ (s : State) (b : Nat) (ofs : Nat) (bs : List Byte), s.logicUp = true ∧ b < 16384 ∧ ofs < 40 ∧ ofs % 4 = 0 ∧ s.on PG_STATE_STAGED_PENDING [pgBTH] = false ∧ s.berthValid b = true ∧ s.slot b = some bs) ∧
    (∃ (s : State) (b : Nat) (ofs : Nat), s.logicUp = true ∧ b < 16384 ∧ ofs < 40 ∧ ofs % 4 = 0 ∧ s.on PG_STATE_STAGED_PENDING [pgBTH] = true ∧ s.berthValid b = true) ∧
    (∃ (s : State) (a : Nat), s.logicUp = true ∧ a < 0x100000) ∧
    (∃ (s : State) (b : Nat), s.logicUp = true ∧ s.hasAct = true ∧ s.berthValid b = true ∧ (s.berth b).burst ≠ 0) ∧
    (∃ (s : State) (c : Instr) (op : Nat) (b : Nat), (c, op, b) ∈ [(Instr.clrStats b, 1, b), (.refill b, 2, b), (.unblock b, 3, b), (.clrAllStats, 4, 0)] ∧ s.logicUp = true ∧ s.on BTH_STATUS_CMD_BUSY [] = false) ∧
    (∃ (s : State) (c : Instr) (op : Nat) (b : Nat), (c, op, b) ∈ [(Instr.clrStats b, 1, b), (.refill b, 2, b), (.unblock b, 3, b), (.clrAllStats, 4, 0)] ∧ s.logicUp = true ∧ s.on BTH_STATUS_CMD_BUSY [] = true) ∧
    (∃ (s : State) (op : Nat) (b : Nat) (x : Nat) (r : BerthRt → BerthRt), ((op = 1 ∧ r = clearStats (s.berth b) ∨ op = 2 ∧ r = (fun r => { r with tokens := 256 * (s.berth b).burst }) ∨ op = 3 ∧ r = (fun r => { r with blocked := false }))) ∧ s.bth.cmd = some (op, b) ∧ x < 2) ∧
    (∃ (s : State) (n : Nat) (x : Nat), s.logicUp = true ∧ s.bth.clrAllAt = some n ∧ x < 2) :=
  ⟨⟨({ wR [] with bth := { valid := [16383] } } : State), 16383, 36, by decide +kernel⟩,
   ⟨wBerthWindowMetersAndCommands1S, 16383, 36, (List.replicate 40 0), by decide +kernel⟩,
   ⟨wBerthWindowMetersAndCommands2S, 16383, 36, by decide +kernel⟩,
   ⟨(wR []), 0, by decide +kernel⟩,
   ⟨wBerthWindowMetersAndCommands4S, 3, by decide +kernel⟩,
   ⟨(wR []), (.refill 3), 2, 3, by decide +kernel⟩,
   ⟨(wR [(BTH_STATUS_CMD_BUSY, [], 1)]), (.unblock 3), 3, 3, by decide +kernel⟩,
   ⟨({ wR [] with bth := { cmd := some (3, 4) } } : State), 3, 4, 1, (fun r => { r with blocked := false }), Or.inr (Or.inr ⟨rfl, rfl⟩), by decide +kernel⟩,
   ⟨({ wR [] with bth := { clrAllAt := some 8 } } : State), 8, 1, by decide +kernel⟩⟩

def wLearningAndEntryCommands0S : State :=
  ({ wR [(PM_STATUS_ROLE, [0], roleActive)] with lkp := { learn := { items := [dLearnReq] } } } : State)

def wLearningAndEntryCommands1L : Loc :=
  ((((wR []).lkpOf 0).active.freeWay (bucketOf (wR []).seedActive ({ dLearnReq with quay := 33 } : LearnReq).da ({ dLearnReq with quay := 33 } : LearnReq).vid)).getD dLoc)

def wLearningAndEntryCommands2S : State :=
  ({ wR [] with planes := [(0, { img := { lkp := { active := { ovf := [(3, { da := 7, vid := 1, valid := true, static := true })] } } } })] } : State)

def wLearningAndEntryCommands3S : State :=
  ({ wR [(PM_STATUS_ROLE, [0], roleActive)] with planes := [(0, { img := { lkp := { active := { ovf := [(3, { da := 7, vid := 1, valid := true, stamp := 124 })] } } } })] } : State)

def wLearningAndEntryCommands3E : FwdEntry :=
  ({ da := 7, vid := 1, valid := true, stamp := 124 } : FwdEntry)

def wLearningAndEntryCommands4E : FwdEntry :=
  (((wR [(PM_STATUS_ROLE, [0], roleActive)]).lkpOf (wR [(PM_STATUS_ROLE, [0], roleActive)]).actPlane).active.at ⟨false, 0⟩)

def wLearningAndEntryCommands5S : State :=
  (wR [(LKP_AGE_TICK_MS, [], 1), (PM_STATUS_ROLE, [0], roleActive)])

def wLearningAndEntryCommands5U : State :=
  (((wLearningAndEntryCommands5S.lkpOf wLearningAndEntryCommands5S.actPlane).active.dynamics.filter fun p => p.2.age != 0).foldl (fun s1 p => s1.setLkpOf wLearningAndEntryCommands5S.actPlane { s1.lkpOf wLearningAndEntryCommands5S.actPlane with active := (s1.lkpOf wLearningAndEntryCommands5S.actPlane).active.put p.1 { p.2 with age := p.2.age - 1 } } [p.1]) wLearningAndEntryCommands5S)

def wLearningAndEntryCommands6S : State :=
  ({ wR [] with lkp := { cmds := [{ dLkpCmd with op := 1, keyLo := 7, vid := 1 }], due := 1 }, planes := [(0, { img := { lkp := { active := { ovf := [(3, { da := 7, vid := 1, valid := true })] } } } })] } : State)

def wLearningAndEntryCommands6C : LkpCmd :=
  ({ dLkpCmd with op := 1, keyLo := 7, vid := 1 } : LkpCmd)

def wLearningAndEntryCommands6B : LkpBank :=
  ((wLearningAndEntryCommands6S.lkpOf wLearningAndEntryCommands6S.actPlane).bank (wLearningAndEntryCommands6C.bank == 1))

def wLearningAndEntryCommands7S : State :=
  ({ wR [] with lkp := { cmds := [{ dLkpCmd with op := 1 }], due := 1 } } : State)

def wLearningAndEntryCommands8S : State :=
  ({ wR [] with lkp := { cmds := [{ dLkpCmd with op := 2 }], due := 1 } } : State)

def wLearningAndEntryCommands9S : State :=
  ({ wR [] with lkp := { cmds := [{ dLkpCmd with op := 2, table := 1 }], due := 1 } } : State)

def wLearningAndEntryCommands10S : State :=
  ({ wR [] with lkp := { cmds := [{ dLkpCmd with op := 3, keyLo := 7, vid := 1 }], due := 1 } } : State)

def wLearningAndEntryCommands10C : LkpCmd :=
  ({ dLkpCmd with op := 3, keyLo := 7, vid := 1 } : LkpCmd)

def wLearningAndEntryCommands10U : State :=
  ((wLearningAndEntryCommands10S.insertEntry wLearningAndEntryCommands10S.actPlane false wLearningAndEntryCommands10C.entry).1)

def wLearningAndEntryCommands10L : Loc :=
  (match (wLearningAndEntryCommands10S.insertEntry wLearningAndEntryCommands10S.actPlane false wLearningAndEntryCommands10C.entry).2 with | .placed l _ => l | _ => dLoc)

def wLearningAndEntryCommands10E : FwdEntry :=
  (match (wLearningAndEntryCommands10S.insertEntry wLearningAndEntryCommands10S.actPlane false wLearningAndEntryCommands10C.entry).2 with | .placed _ e => e | _ => {})

def wLearningAndEntryCommands11S : State :=
  ({ wR [] with lkp := { cmds := [{ dLkpCmd with op := 4, keyLo := 7, vid := 1 }], due := 1 }, planes := [(0, { img := { lkp := { active := { ovf := [(3, { da := 7, vid := 1, valid := true })] } } } })] } : State)

def wLearningAndEntryCommands11C : LkpCmd :=
  ({ dLkpCmd with op := 4, keyLo := 7, vid := 1 } : LkpCmd)

def wLearningAndEntryCommands11U : State :=
  ((if sameContents ({ da := 7, vid := 1, valid := true } : FwdEntry) wLearningAndEntryCommands11C.entry then (wLearningAndEntryCommands11S, { wLearningAndEntryCommands11C.entry with gen := ({ da := 7, vid := 1, valid := true } : FwdEntry).gen }) else wLearningAndEntryCommands11S.withGen wLearningAndEntryCommands11S.actPlane wLearningAndEntryCommands11C.entry).1)

def wLearningAndEntryCommands11new : FwdEntry :=
  ((if sameContents ({ da := 7, vid := 1, valid := true } : FwdEntry) wLearningAndEntryCommands11C.entry then (wLearningAndEntryCommands11S, { wLearningAndEntryCommands11C.entry with gen := ({ da := 7, vid := 1, valid := true } : FwdEntry).gen }) else wLearningAndEntryCommands11S.withGen wLearningAndEntryCommands11S.actPlane wLearningAndEntryCommands11C.entry).2)

def wLearningAndEntryCommands12S : State :=
  ({ wR [] with lkp := { cmds := [{ dLkpCmd with op := 5, keyLo := 7, vid := 1 }], due := 1 }, planes := [(0, { img := { lkp := { active := { ovf := [(3, { da := 7, vid := 1, valid := true, img := true })] } } } })] } : State)

def wLearningAndEntryCommands12C : LkpCmd :=
  ({ dLkpCmd with op := 5, keyLo := 7, vid := 1 } : LkpCmd)

def wLearningAndEntryCommands13C : LkpCmd :=
  ({ dLkpCmd with op := 5, keyLo := 7, vid := 1, bank := 1 } : LkpCmd)

def wLearningAndEntryCommands13S : State :=
  ({ wR [] with lkp := { cmds := [{ dLkpCmd with op := 5, keyLo := 7, vid := 1, bank := 1 }], due := 1 }, planes := [(0, { img := { lkp := { idle := { ovf := [(3, { da := 7, vid := 1, valid := true })] } } } })] } : State)

def wLearningAndEntryCommands13I : LkpImg :=
  (wLearningAndEntryCommands13S.lkpOf wLearningAndEntryCommands13S.actPlane)

def wLearningAndEntryCommands13E : FwdEntry :=
  ((wLearningAndEntryCommands13I.bank (wLearningAndEntryCommands13C.bank == 1)).at (⟨true, 3⟩ : Loc))

theorem witness_LearningAndEntryCommands :
    (∃ (s : State) (r : LearnReq) (q : CQueue LearnReq), s.logicUp = true ∧ s.hasAct = true ∧ s.lkp.learn.pop = (.item r, q)) ∧
    (∃ (s : State) (x : Nat) (r : LearnReq) (l : Loc), (s.lkpOf x).active.find s.seedActive r.da r.vid = none ∧ (s.lkpOf x).pend = none ∧ s.rebuildOpen = false ∧ (s.lkpOf x).active.freeWay (bucketOf s.seedActive r.da r.vid) = some l) ∧
    (∃ (s : State) (x : Nat) (r : LearnReq) (l : Loc), (s.lkpOf x).active.find s.seedActive r.da r.vid = some l ∧ ((s.lkpOf x).active.at l).static = true ∧ ((s.lkpOf x).active.at l).dest ≠ quayBit r.quay) ∧
    (∃ (s : State) (ovf : Bool) (i : Nat) (e : FwdEntry), s.logicUp = true ∧ s.hasAct = true ∧ (s.lkpOf s.actPlane).active.at ⟨ovf, i⟩ = e ∧ e.valid = true ∧ e.static = false ∧ 132 ≤ (s.halfMs + 256 - e.stamp) % 256) ∧
    (∃ (s : State) (ovf : Bool) (i : Nat) (e : FwdEntry), s.logicUp = true ∧ s.hasAct = true ∧ (s.lkpOf s.actPlane).active.at ⟨ovf, i⟩ = e ∧ ((e.valid = false ∨ e.static = true ∨ (s.halfMs + 256 - e.stamp) % 256 < 132))) ∧
    (∃ (s : State) (u : State) (x : Nat), s.logicUp = true ∧ s.hasAct = true ∧ s.rd LKP_AGE_TICK_MS [] ≠ 0 ∧ x = s.actPlane ∧ u = ((s.lkpOf x).active.dynamics.filter fun p => p.2.age != 0).foldl (fun s p => s.setLkpOf x { s.lkpOf x with active := (s.lkpOf x).active.put p.1 { p.2 with age := p.2.age - 1 } } [p.1]) s) ∧
    (∃ (s : State) (c : LkpCmd) (l : Loc) (b : LkpBank), s.logicUp = true ∧ s.lkpHead 1 = some c ∧ c.table ≠ 1 ∧ b = (s.lkpOf s.actPlane).bank (c.bank == 1) ∧ b.find (s.seedOf (c.bank == 1)) c.da c.vid = some l) ∧
    (∃ (s : State) (c : LkpCmd), s.logicUp = true ∧ s.lkpHead 1 = some c ∧ c.table ≠ 1 ∧ ((s.lkpOf s.actPlane).bank (c.bank == 1)).find (s.seedOf (c.bank == 1)) c.da c.vid = none) ∧
    (∃ (s : State) (c : LkpCmd), s.logicUp = true ∧ s.lkpHead 2 = some c ∧ c.table ≠ 1 ∧ c.keyLo / 2 ^ 17 = 0 ∧ ((bitOf c.keyLo 16 = 1 → c.keyLo % 2 ^ 16 < ovfCount))) ∧
    (∃ (s : State) (c : LkpCmd), s.logicUp = true ∧ s.lkpHead 2 = some c ∧ c.table = 1) ∧
    (∃ (s : State) (u : State) (c : LkpCmd) (l : Loc) (e : FwdEntry) (idle : Bool), s.logicUp = true ∧ s.lkpHead 3 = some c ∧ c.table ≠ 1 ∧ idle = (c.bank == 1) ∧ ((s.lkpOf s.actPlane).bank idle).find (s.seedOf idle) c.da c.vid = none ∧ ((idle = false → (s.lkpOf s.actPlane).pends c.da c.vid = false)) ∧ s.insertEntry s.actPlane idle c.entry = (u, .placed l e)) ∧
    (∃ (s : State) (u : State) (c : LkpCmd) (l : Loc) (old : FwdEntry) (new : FwdEntry) (idle : Bool), s.logicUp = true ∧ s.lkpHead 4 = some c ∧ c.table ≠ 1 ∧ idle = (c.bank == 1) ∧ ((s.lkpOf s.actPlane).bank idle).find (s.seedOf idle) c.da c.vid = some l ∧ old = ((s.lkpOf s.actPlane).bank idle).at l ∧ old.img = false ∧ ((c.cond = false ∨ old.gen = c.gen)) ∧ (u, new) = (if sameContents old c.entry then (s, { c.entry with gen := old.gen }) else s.withGen s.actPlane c.entry)) ∧
    (∃ (s : State) (c : LkpCmd) (l : Loc) (idle : Bool), s.logicUp = true ∧ s.lkpHead 5 = some c ∧ c.table ≠ 1 ∧ idle = (c.bank == 1) ∧ ((s.lkpOf s.actPlane).bank idle).find (s.seedOf idle) c.da c.vid = some l ∧ (((s.lkpOf s.actPlane).bank idle).at l).img = true) ∧
    (∃ (s : State) (c : LkpCmd) (l : Loc) (i : LkpImg) (e : FwdEntry) (idle : Bool), s.logicUp = true ∧ s.lkpHead 5 = some c ∧ c.table ≠ 1 ∧ idle = (c.bank == 1) ∧ i = s.lkpOf s.actPlane ∧ (i.bank idle).find (s.seedOf idle) c.da c.vid = some l ∧ e = (i.bank idle).at l ∧ e.img = false ∧ ((c.cond = false ∨ e.gen = c.gen))) :=
  ⟨⟨wLearningAndEntryCommands0S, dLearnReq, ({} : CQueue LearnReq), by decide +kernel⟩,
   ⟨(wR []), 0, ({ dLearnReq with quay := 33 } : LearnReq), wLearningAndEntryCommands1L, by decide +kernel⟩,
   ⟨wLearningAndEntryCommands2S, 0, ({ dLearnReq with da := 7, vid := 1 } : LearnReq), (⟨true, 3⟩ : Loc), by decide +kernel⟩,
   ⟨wLearningAndEntryCommands3S, true, 3, wLearningAndEntryCommands3E, by decide +kernel⟩,
   ⟨(wR [(PM_STATUS_ROLE, [0], roleActive)]), false, 0, wLearningAndEntryCommands4E, by decide +kernel⟩,
   ⟨wLearningAndEntryCommands5S, wLearningAndEntryCommands5U, wLearningAndEntryCommands5S.actPlane, by decide +kernel, by decide +kernel, by decide +kernel, rfl, rfl⟩,
   ⟨wLearningAndEntryCommands6S, wLearningAndEntryCommands6C, (⟨true, 3⟩ : Loc), wLearningAndEntryCommands6B, by decide +kernel, by decide +kernel, by decide +kernel, rfl, by decide +kernel⟩,
   ⟨wLearningAndEntryCommands7S, ({ dLkpCmd with op := 1 } : LkpCmd), by decide +kernel⟩,
   ⟨wLearningAndEntryCommands8S, ({ dLkpCmd with op := 2 } : LkpCmd), by decide +kernel⟩,
   ⟨wLearningAndEntryCommands9S, ({ dLkpCmd with op := 2, table := 1 } : LkpCmd), by decide +kernel⟩,
   ⟨wLearningAndEntryCommands10S, wLearningAndEntryCommands10U, wLearningAndEntryCommands10C, wLearningAndEntryCommands10L, wLearningAndEntryCommands10E, false, by decide +kernel⟩,
   ⟨wLearningAndEntryCommands11S, wLearningAndEntryCommands11U, wLearningAndEntryCommands11C, (⟨true, 3⟩ : Loc), ({ da := 7, vid := 1, valid := true } : FwdEntry), wLearningAndEntryCommands11new, false, by decide +kernel⟩,
   ⟨wLearningAndEntryCommands12S, wLearningAndEntryCommands12C, (⟨true, 3⟩ : Loc), false, by decide +kernel⟩,
   ⟨wLearningAndEntryCommands13S, wLearningAndEntryCommands13C, (⟨true, 3⟩ : Loc), wLearningAndEntryCommands13I, wLearningAndEntryCommands13E, (wLearningAndEntryCommands13C.bank == 1), by decide +kernel, by decide +kernel, by decide +kernel, rfl, rfl, by decide +kernel, rfl, by decide +kernel⟩⟩

def wBankCommandsResultsAndWalker0S : State :=
  ({ wR [] with lkp := { cmds := [{ dLkpCmd with op := 6 }], due := 1 } } : State)

def wBankCommandsResultsAndWalker0U : State :=
  (wBankCommandsResultsAndWalker0S.lkpBoth (fun x s1 => (s1.flush x (({ dLkpCmd with op := 6 } : LkpCmd).bank == 1) (({ dLkpCmd with op := 6 } : LkpCmd).data.getD 2 0) (bitOf (({ dLkpCmd with op := 6 } : LkpCmd).data.getD 1 0) 0 == 1)).1.preloadRun x))

def wBankCommandsResultsAndWalker0N : Nat :=
  ((wBankCommandsResultsAndWalker0S.flush wBankCommandsResultsAndWalker0S.actPlane (({ dLkpCmd with op := 6 } : LkpCmd).bank == 1) (({ dLkpCmd with op := 6 } : LkpCmd).data.getD 2 0) (bitOf (({ dLkpCmd with op := 6 } : LkpCmd).data.getD 1 0) 0 == 1)).2)

def wBankCommandsResultsAndWalker1S : State :=
  ({ wR [] with lkp := { cmds := [{ dLkpCmd with op := 7 }], due := 1 } } : State)

def wBankCommandsResultsAndWalker2S : State :=
  ({ wR [(LKP_STATUS_REBUILD_OPEN, [], 1)] with lkp := { cmds := [{ dLkpCmd with op := 8 }], due := 1 } } : State)

def wBankCommandsResultsAndWalker3S : State :=
  ({ wR [] with lkp := { cmds := [{ dLkpCmd with op := 8 }], due := 1 } } : State)

def wBankCommandsResultsAndWalker4S : State :=
  ({ wR [] with lkp := { cmds := [{ dLkpCmd with op := 9 }], due := 1 } } : State)

def wBankCommandsResultsAndWalker5S : State :=
  ({ wR [] with lkp := { cmds := [{ dLkpCmd with op := 10 }], due := 1 }, planes := [(0, { img := { lkp := { pend := some {} } } })] } : State)

def wBankCommandsResultsAndWalker6S : State :=
  ({ wR [] with lkp := { cmds := [{ dLkpCmd with op := 10 }], due := 1 } } : State)

def wBankCommandsResultsAndWalker8S : State :=
  ({ wR [] with lkp := { results := { items := [{ dLkpRes with data := [1, 2, 3, 4] }] } } } : State)

def wBankCommandsResultsAndWalker10S : State :=
  (wR [(LKP_CTRL_WALK_EN, [], 1), (CST_SHADOW_CELLS, [], 10)])

theorem witness_BankCommandsResultsAndWalker :
    (∃ (s : State) (u : State) (c : LkpCmd) (n : Nat) (idle : Bool), s.logicUp = true ∧ s.lkpHead 6 = some c ∧ c.table ≠ 1 ∧ idle = (c.bank == 1) ∧ n = (s.flush s.actPlane idle (c.data.getD 2 0) (bitOf (c.data.getD 1 0) 0 == 1)).2 ∧ u = s.lkpBoth (fun x s => (s.flush x idle (c.data.getD 2 0) (bitOf (c.data.getD 1 0) 0 == 1)).1.preloadRun x)) ∧
    (∃ (s : State) (c : LkpCmd), s.logicUp = true ∧ s.lkpHead 7 = some c ∧ s.actPlane < 2) ∧
    (∃ (s : State) (c : LkpCmd), s.logicUp = true ∧ s.lkpHead 8 = some c ∧ s.rebuildOpen = true ∧ s.on LKP_STATUS_MIRROR_FAIL [] = false ∧ (s.lkpOf s.actPlane).pend = none ∧ s.lkp.preloading = false ∧ s.actPlane < 2) ∧
    (∃ (s : State) (c : LkpCmd), s.logicUp = true ∧ s.lkpHead 8 = some c ∧ ((s.rebuildOpen = false ∨ s.on LKP_STATUS_MIRROR_FAIL [] = true))) ∧
    (∃ (s : State) (c : LkpCmd), s.logicUp = true ∧ s.lkpHead 9 = some c) ∧
    (∃ (s : State) (c : LkpCmd) (e : FwdEntry), s.logicUp = true ∧ s.lkpHead 10 = some c ∧ (s.lkpOf s.actPlane).pend = some e ∧ s.lkp.preloading = false ∧ s.actPlane < 2) ∧
    (∃ (s : State) (c : LkpCmd), s.logicUp = true ∧ s.lkpHead 10 = some c ∧ (s.lkpOf s.actPlane).pend = none) ∧
    (∃ (s : State) (r : LkpRes), s.logicUp = true ∧ s.lkp.long = some r) ∧
    (∃ (s : State) (r : LkpRes) (q : CQueue LkpRes), s.logicUp = true ∧ s.lkp.results.pop = (.item r, q) ∧ r.data.length = 4 ∧ r.tag < 2 ^ LKP_RES_HEAD_TAG.width ∧ r.status < 2 ^ LKP_RES_HEAD_STATUS.width ∧ r.loc < 2 ^ LKP_RES_LOC_LOC.width) ∧
    (∃ (s : State) (q : CQueue LkpRes), s.logicUp = true ∧ s.lkp.results.pop = (.empty, q)) ∧
    (∃ (s : State) (n : Nat) (p : Nat), s.logicUp = true ∧ s.on LKP_CTRL_WALK_EN [] = true ∧ s.on LKP_CTRL_WALK_PAUSE [] = false ∧ s.walkCover = n ∧ n ≠ 0 ∧ p = s.lkp.walkPos % n) :=
  ⟨⟨wBankCommandsResultsAndWalker0S, wBankCommandsResultsAndWalker0U, ({ dLkpCmd with op := 6 } : LkpCmd), wBankCommandsResultsAndWalker0N, (({ dLkpCmd with op := 6 } : LkpCmd).bank == 1), by decide +kernel, by decide +kernel, by decide +kernel, rfl, rfl, rfl⟩,
   ⟨wBankCommandsResultsAndWalker1S, ({ dLkpCmd with op := 7 } : LkpCmd), by decide +kernel⟩,
   ⟨wBankCommandsResultsAndWalker2S, ({ dLkpCmd with op := 8 } : LkpCmd), by decide +kernel⟩,
   ⟨wBankCommandsResultsAndWalker3S, ({ dLkpCmd with op := 8 } : LkpCmd), by decide +kernel⟩,
   ⟨wBankCommandsResultsAndWalker4S, ({ dLkpCmd with op := 9 } : LkpCmd), by decide +kernel⟩,
   ⟨wBankCommandsResultsAndWalker5S, ({ dLkpCmd with op := 10 } : LkpCmd), ({} : FwdEntry), by decide +kernel⟩,
   ⟨wBankCommandsResultsAndWalker6S, ({ dLkpCmd with op := 10 } : LkpCmd), by decide +kernel⟩,
   ⟨({ wR [] with lkp := { long := some dLkpRes } } : State), dLkpRes, by decide +kernel⟩,
   ⟨wBankCommandsResultsAndWalker8S, ({ dLkpRes with data := [1, 2, 3, 4] } : LkpRes), ({} : CQueue LkpRes), by decide +kernel⟩,
   ⟨(wR []), ({} : CQueue LkpRes), by decide +kernel⟩,
   ⟨wBankCommandsResultsAndWalker10S, 160, (wBankCommandsResultsAndWalker10S.lkp.walkPos % 160), by decide +kernel, by decide +kernel, by decide +kernel, by decide +kernel, by decide +kernel, rfl⟩⟩

def wCanFramesErrorsAndModes1S : State :=
  ({ wQ 0 3 [] with quays := [(0, { testing := true })] } : State)

def wCanFramesErrorsAndModes9S : State :=
  ({ wR [] with quays := [(0, { oldMode := some 0 })] } : State)

theorem witness_CanFramesErrorsAndModes :
    (∃ (s : State) (u : State) (q : Nat) (f : CanFrame) (g : CanFrame), s.logicUp = true ∧ q < 32 ∧ s.hears q = true ∧ g = canHeard f ∧ s.canAdmits q g = true ∧ canLenLegal g = true ∧ (s.quay q).testing = false ∧ u = ((s.normalPolarity q).ackSeen q).recDown q) ∧
    (∃ (s : State) (q : Nat) (f : CanFrame) (g : CanFrame), s.logicUp = true ∧ q < 32 ∧ s.hears q = true ∧ g = canHeard f ∧ s.canAdmits q g = true ∧ canLenLegal g = true ∧ (s.quay q).testing = true) ∧
    (∃ (s : State) (q : Nat) (lec : Nat), s.logicUp = true ∧ q < 32 ∧ s.quayMode q = 3 ∧ s.on QYC_XL_CFG_ES_DIS [q] = false ∧ s.rd QYC_STATUS_FC_STATE [q] ≤ 1 ∧ 1 ≤ lec ∧ lec ≤ 7 ∧ s.rd QYC_ERRCNT_TEC [q] ≤ 127 ∧ s.rd QYC_ERRCNT_REC [q] ≤ 126) ∧
    (∃ (s : State) (q : Nat) (lec : Nat), s.logicUp = true ∧ q < 32 ∧ s.quayMode q = 3 ∧ s.on QYC_XL_CFG_ES_DIS [q] = false ∧ s.rd QYC_STATUS_FC_STATE [q] ≤ 1 ∧ 1 ≤ lec ∧ lec ≤ 7 ∧ lec ≠ 3 ∧ s.rd QYC_ERRCNT_TEC [q] + 8 ≤ 127 ∧ s.rd QYC_ERRCNT_REC [q] ≤ 127) ∧
    (∃ (s : State) (q : Nat), s.logicUp = true ∧ q < 32 ∧ s.hears q = true ∧ (s.on QYC_CTRL_FD_EN [q] && s.on QYC_CTRL_XL_EN [q]) = false) ∧
    (∃ (s : State) (q : Nat), s.logicUp = true ∧ q < 32 ∧ s.rd QYC_STATUS_FC_STATE [q] = 2) ∧
    (∃ (s : State) (q : Nat), s.logicUp = true ∧ q < 32 ∧ s.rd QYC_STATUS_FC_STATE [q] ≠ 2) ∧
    (∃ (s : State) (q : Nat), s.logicUp = true ∧ q < 32 ∧ s.rd QYC_STATUS_FC_STATE [q] = 3) ∧
    (∃ (s : State) (q : Nat), s.logicUp = true ∧ q < 32) ∧
    (∃ (s : State) (q : Nat) (m : Nat), s.logicUp = true ∧ q < 32 ∧ (s.quay q).oldMode = some m ∧ (s.quay q).tx = none ∧ s.receiving q = false) :=
  ⟨⟨(wQ 0 3 []), ((((wQ 0 3 []).normalPolarity 0).ackSeen 0).recDown 0), 0, dCanFrame, (canHeard dCanFrame), by decide +kernel, by decide +kernel, by decide +kernel, rfl, by decide +kernel, by decide +kernel, by decide +kernel, rfl⟩,
   ⟨wCanFramesErrorsAndModes1S, 0, dCanFrame, (canHeard dCanFrame), by decide +kernel, by decide +kernel, by decide +kernel, rfl, by decide +kernel⟩,
   ⟨(wQ 0 3 []), 0, 1, by decide +kernel⟩,
   ⟨(wQ 0 3 []), 0, 1, by decide +kernel⟩,
   ⟨(wQ 0 3 []), 0, by decide +kernel⟩,
   ⟨(wR [(QYC_STATUS_FC_STATE, [0], 2)]), 0, by decide +kernel⟩,
   ⟨(wR []), 0, by decide +kernel⟩,
   ⟨(wR [(QYC_STATUS_FC_STATE, [0], 3)]), 0, by decide +kernel⟩,
   ⟨(wR []), 0, by decide +kernel⟩,
   ⟨wCanFramesErrorsAndModes9S, 0, 0, by decide +kernel⟩⟩

def wCanTransmission0S : State :=
  (wQ 3 3 [(QYC_CTRL_TXMB_EN, [3], 1), (QYC_MB_CTL_STATE, [3, 2], 1)])

def wCanTransmission0U : State :=
  ((List.range 4).foldl (fun s1 i => s1.canFmtDrop 3 i (s1.egress 3 i).length) wCanTransmission0S)

def wCanTransmission0C : CanCand :=
  (⟨none, some 2, wCanTransmission0S.mbFrame 3 2⟩ : CanCand)

def wCanTransmission1U : State :=
  ((List.range 4).foldl (fun s1 i => s1.canFmtDrop 3 i (s1.egress 3 i).length) (wQ 3 3 []))

def wCanTransmission2S : State :=
  ({ wR [] with quays := [(0, { tx := some {} })] } : State)

def wCanTransmission3S : State :=
  ({ wR [(QYC_MB_CTL_STATE, [3, 2], 2)] with quays := [(3, { tx := some { mb := some 2 } })] } : State)

def wCanTransmission4S : State :=
  ({ wR [] with quays := [(0, { tx := some {} })] } : State)

def wCanTransmission5S : State :=
  ({ wR [(QYC_TXQ_LIFE_LIFE, [3], 1)] with cst := { queues := [(25, [dQItem])] } } : State)

def wCanTransmission7S : State :=
  (wR [(QYC_G1608_COMPAT, [0], 1), (PWK_SEG_STATE_STATE, [0 / 8, 0 % 8], 0)])

def wCanTransmission9S : State :=
  (wR [(QYC_G1608_COMPAT, [0], 1), (PWK_SEG_STATE_STATE, [0 / 8, 0 % 8], 1)])

def wCanTransmission10S : State :=
  (wR [(QYC_G1608_COMPAT, [0], 1), (PWK_SEG_STATE_STATE, [0 / 8, 0 % 8], 2)])

def wCanTransmission11S : State :=
  (wR [(QYC_G1608_COMPAT, [0], 1), (PWK_SEG_STATE_STATE, [0 / 8, 0 % 8], 3)])

theorem witness_CanTransmission :
    (∃ (s : State) (u : State) (q : Nat) (c : CanCand), s.logicUp = true ∧ q < 32 ∧ s.canMayStart q = true ∧ u = (List.range 4).foldl (fun s i => s.canFmtDrop q i (s.egress q i).length) s ∧ u.rd QYC_GANG_GROUP [q] = 0 ∧ u.on LFE_CTRL_TX_EN [q] = true ∧ u.canSelect q = some c) ∧
    (∃ (s : State) (u : State) (q : Nat), s.logicUp = true ∧ q < 32 ∧ s.canMayStart q = true ∧ u = (List.range 4).foldl (fun s i => s.canFmtDrop q i (s.egress q i).length) s ∧ u.rd QYC_GANG_GROUP [q] = 0 ∧ u.canSelect q = none) ∧
    (∃ (s : State) (q : Nat) (x : TxSt), s.logicUp = true ∧ q < 32 ∧ (s.quay q).tx = some x) ∧
    (∃ (s : State) (q : Nat) (b : Nat) (x : TxSt), s.logicUp = true ∧ q < 32 ∧ b < 32 ∧ (s.quay q).tx = some x ∧ x.mb = some b ∧ SMap.find? (s.quay q).locks b = none ∧ (s.mb q b).state = 2) ∧
    (∃ (s : State) (q : Nat) (x : TxSt), s.logicUp = true ∧ q < 32 ∧ (s.quay q).tx = some x) ∧
    (∃ (s : State) (q : Nat) (k : Nat) (it : QItem) (l : List QItem), s.logicUp = true ∧ q < 32 ∧ k < 4 ∧ bitOf (s.gate q).schedMask k = 0 ∧ (s.quay q).tx = none ∧ s.egress q k = it :: l ∧ s.lifeOver q it = true) ∧
    (∃ (s : State) (q : Nat) (k : Nat), s.logicUp = true ∧ q < 32 ∧ k < 4) ∧
    (∃ (s : State) (q : Nat), s.logicUp = true ∧ q < 32 ∧ s.on QYC_G1608_COMPAT [q] = true ∧ s.segment q = 0) ∧
    (∃ (s : State) (q : Nat), s.logicUp = true ∧ q < 32 ∧ ((s.on QYC_G1608_COMPAT [q] = false ∨ s.segment q ≠ 0))) ∧
    (∃ (s : State) (q : Nat), s.logicUp = true ∧ q < 32 ∧ s.on QYC_G1608_COMPAT [q] = true ∧ s.segment q = 1) ∧
    (∃ (s : State) (q : Nat), s.logicUp = true ∧ q < 32 ∧ s.on QYC_G1608_COMPAT [q] = true ∧ s.segment q = 2) ∧
    (∃ (s : State) (q : Nat), s.logicUp = true ∧ q < 32 ∧ s.on QYC_G1608_COMPAT [q] = true ∧ s.segment q = 3 ∧ s.mode ≠ .sleep) :=
  ⟨⟨wCanTransmission0S, wCanTransmission0U, 3, wCanTransmission0C, by decide +kernel, by decide +kernel, by decide +kernel, rfl, by decide +kernel⟩,
   ⟨(wQ 3 3 []), wCanTransmission1U, 3, by decide +kernel, by decide +kernel, by decide +kernel, rfl, by decide +kernel⟩,
   ⟨wCanTransmission2S, 0, ({} : TxSt), by decide +kernel⟩,
   ⟨wCanTransmission3S, 3, 2, ({ mb := some 2 } : TxSt), by decide +kernel⟩,
   ⟨wCanTransmission4S, 0, ({} : TxSt), by decide +kernel⟩,
   ⟨wCanTransmission5S, 3, 1, dQItem, [], by decide +kernel⟩,
   ⟨(wR []), 0, 0, by decide +kernel⟩,
   ⟨wCanTransmission7S, 0, by decide +kernel⟩,
   ⟨(wR []), 0, by decide +kernel⟩,
   ⟨wCanTransmission9S, 0, by decide +kernel⟩,
   ⟨wCanTransmission10S, 0, by decide +kernel⟩,
   ⟨wCanTransmission11S, 0, by decide +kernel⟩⟩

def wEthernetFrames0S : State :=
  ({ wQ 40 3 [] with quays := [(40, { testing := true })] } : State)

def wEthernetFrames1U : State :=
  (((wQ 40 3 []).fecCount 40 0 0).ethRxStamp 40 77 (List.replicate 60 1))

def wEthernetFrames1W : State :=
  ((wEthernetFrames1U.takeLanded 40 (List.replicate 60 1) 77).1)

def wEthernetFrames1F : Nat :=
  (((wEthernetFrames1U.takeLanded 40 (List.replicate 60 1) 77).2).getD 0)

def wEthernetFrames1X : State :=
  ((((wEthernetFrames1W.rxMeets 40 2).1).ethLand 40 wEthernetFrames1F false).1)

def wEthernetFrames3S : State :=
  ({ wQ 40 3 [] with cst := { queues := [(8 * 40 + 2, [dQItem])], frames := [(0, { dFrameObj with complete := true, own := List.replicate 60 1 })] } } : State)

def wEthernetFrames3U : State :=
  ((List.range 8).foldl (fun s1 i1 => s1.longDrop 40 i1 (s1.egress 40 i1).length) (wEthernetFrames3S.advanceCredit 40))

def wEthernetFrames4S : State :=
  ({ wQ 40 3 [] with cst := { frames := [(0, dFrameObj)] }, quays := [(40, { tx := some { item := some dQItem } })] } : State)

def wEthernetFrames5S : State :=
  ({ wQ 40 3 [] with cst := { frames := [(0, { dFrameObj with bad := true })] }, quays := [(40, { tx := some { item := some dQItem } })] } : State)

def wEthernetFrames6S : State :=
  ({ wQ 40 3 [(QYE_FRAME_MAX_LEN, [40], 64)] with cst := { frames := [(0, { dFrameObj with own := List.replicate 80 1 })] }, quays := [(40, { tx := some { item := some dQItem, cut := true } })] } : State)

def wEthernetFrames7S : State :=
  ({ wQ 40 3 [(QYE_CSMA_ATTEMPT_LIMIT, [40], 16)] with quays := [(40, { tx := some { item := some dQItem } })] } : State)

def wEthernetFrames7U : State :=
  (((wEthernetFrames7S.advanceCredit 40).setQuay 40 { wEthernetFrames7S.quay 40 with tx := none }).bump QYE_CNT_COLLISION_CNT [40])

def wEthernetFrames8S : State :=
  ({ wQ 40 3 [] with quays := [(40, { tx := some { item := some dQItem } })] } : State)

theorem witness_EthernetFrames :
    (∃ (s : State) (u : State) (q : Nat) (corr : Nat) (uncorr : Nat), s.logicUp = true ∧ isEthQ q = true ∧ s.hears q = true ∧ s.on QYE_STATUS_LINK [q] = true ∧ u = s.fecCount q corr uncorr ∧ (u.quay q).testing = true) ∧
    (∃ (s : State) (u : State) (w : State) (v : State) (x : State) (q : Nat) (f : Nat) (corr : Nat) (uncorr : Nat) (stamp : Nat) (bytes : List Nat), s.logicUp = true ∧ isEthQ q = true ∧ s.hears q = true ∧ s.on QYE_STATUS_LINK [q] = true ∧ isSerialQ q = false ∧ ((s.fecCount q corr uncorr).quay q).testing = false ∧ ((s.fecCount q corr uncorr).ethCheck q bytes true false).row = 6 ∧ u = (s.fecCount q corr uncorr).ethRxStamp q stamp bytes ∧ u.toTimeEngine q bytes = false ∧ u.takeLanded q bytes stamp = (w, some f) ∧ w.rxMeets q 2 = (v, none) ∧ v.ethLand q f false = (x, true)) ∧
    (∃ (s : State) (u : State) (q : Nat) (corr : Nat) (uncorr : Nat) (bytes : List Nat) (fcs : Bool) (sym : Bool), s.logicUp = true ∧ isEthQ q = true ∧ s.hears q = true ∧ s.on QYE_STATUS_LINK [q] = true ∧ isSerialQ q = false ∧ u = s.fecCount q corr uncorr ∧ (u.quay q).testing = false ∧ (u.ethCheck q bytes fcs sym).row ≠ 6 ∧ (u.ethCheck q bytes fcs sym).keep = false) ∧
    (∃ (s : State) (u : State) (q : Nat) (i : Nat) (it : QItem) (l : List QItem), s.logicUp = true ∧ isEthQ q = true ∧ s.on LFE_CTRL_TX_EN [q] = true ∧ s.quayAwake q = true ∧ s.on QYE_STATUS_LINK [q] = true ∧ s.quayMode q = 3 ∧ s.segment q = 0 ∧ (s.quay q).tx = none ∧ s.safeLine q = false ∧ s.on LFE_STATUS_MEAS_BUSY [q] = false ∧ u = (List.range 8).foldl (fun s i => s.longDrop q i (s.egress q i).length) (s.advanceCredit q) ∧ u.ethSelect q = some i ∧ u.egress q i = it :: l) ∧
    (∃ (s : State) (q : Nat) (x : TxSt) (it : QItem) (f : FrameObj), s.logicUp = true ∧ isEthQ q = true ∧ (s.quay q).tx = some x ∧ x.item = some it ∧ s.frame? it.frame = some f ∧ f.bad = false ∧ f.zeroed = false ∧ (s.quay q).txFault = false ∧ s.passSite (pgQ q) 1 = (s, false)) ∧
    (∃ (s : State) (q : Nat) (x : TxSt) (it : QItem) (f : FrameObj), s.logicUp = true ∧ isEthQ q = true ∧ (s.quay q).tx = some x ∧ x.item = some it ∧ s.frame? it.frame = some f ∧ f.bad = true) ∧
    (∃ (s : State) (q : Nat) (x : TxSt) (it : QItem), s.logicUp = true ∧ isEthQ q = true ∧ (s.quay q).tx = some x ∧ x.cut = true ∧ x.item = some it ∧ s.rd QYE_FRAME_MAX_LEN [q] < (s.ethEdit q it.r (s.frameBytes it.frame)).1.length) ∧
    (∃ (s : State) (u : State) (q : Nat) (x : TxSt) (it : QItem), s.logicUp = true ∧ s.csma q = true ∧ (s.quay q).tx = some x ∧ x.item = some it ∧ u = ((s.advanceCredit q).setQuay q { s.quay q with tx := none }).bump QYE_CNT_COLLISION_CNT [q] ∧ it.attempts + 1 < u.rd QYE_CSMA_ATTEMPT_LIMIT [q] ∧ (¬ (bitOf (u.gate q).schedMask x.queue = 1 ∧ bitOf (u.gate q).openMask x.queue = 0)) ∧ (it.emit.map fun e => decide (e < u.stroke)) ≠ some true) ∧
    (∃ (s : State) (q : Nat) (x : TxSt) (it : QItem), s.logicUp = true ∧ s.csma q = true ∧ (s.quay q).tx = some x ∧ x.item = some it) ∧
    (∃ (s : State) (q : Nat) (i : Nat), s.logicUp = true ∧ isEthQ q = true ∧ i < 8) :=
  ⟨⟨wEthernetFrames0S, (wEthernetFrames0S.fecCount 40 0 0), 40, 0, 0, by decide +kernel, by decide +kernel, by decide +kernel, by decide +kernel, rfl, by decide +kernel⟩,
   ⟨(wQ 40 3 []), wEthernetFrames1U, wEthernetFrames1W, ((wEthernetFrames1W.rxMeets 40 2).1), wEthernetFrames1X, 40, wEthernetFrames1F, 0, 0, 77, (List.replicate 60 1), by decide +kernel, by decide +kernel, by decide +kernel, by decide +kernel, by decide +kernel, by decide +kernel, by decide +kernel, rfl, by decide +kernel⟩,
   ⟨(wQ 40 3 [(QYE_STATUS_LINK, [40], 1)]), ((wQ 40 3 [(QYE_STATUS_LINK, [40], 1)]).fecCount 40 0 0), 40, 0, 0, [], false, false, by decide +kernel, by decide +kernel, by decide +kernel, by decide +kernel, by decide +kernel, rfl, by decide +kernel⟩,
   ⟨wEthernetFrames3S, wEthernetFrames3U, 40, 2, dQItem, [], by decide +kernel, by decide +kernel, by decide +kernel, by decide +kernel, by decide +kernel, by decide +kernel, by decide +kernel, by decide +kernel, by decide +kernel, by decide +kernel, rfl, by decide +kernel⟩,
   ⟨wEthernetFrames4S, 40, ({ item := some dQItem } : TxSt), dQItem, dFrameObj, by decide +kernel⟩,
   ⟨wEthernetFrames5S, 40, ({ item := some dQItem } : TxSt), dQItem, ({ dFrameObj with bad := true } : FrameObj), by decide +kernel⟩,
   ⟨wEthernetFrames6S, 40, ({ item := some dQItem, cut := true } : TxSt), dQItem, by decide +kernel⟩,
   ⟨wEthernetFrames7S, wEthernetFrames7U, 40, ({ item := some dQItem } : TxSt), dQItem, by decide +kernel, by decide +kernel, by decide +kernel, by decide +kernel, rfl, by decide +kernel⟩,
   ⟨wEthernetFrames8S, 40, ({ item := some dQItem } : TxSt), dQItem, by decide +kernel⟩,
   ⟨(wR []), 40, 0, by decide +kernel⟩⟩

def wEthernetLinkAndMode3S : State :=
  ({ wR [] with quays := [(40, { oldMode := some 0 })] } : State)

theorem witness_EthernetLinkAndMode :
    (∃ (s : State) (q : Nat), s.logicUp = true ∧ isEthQ q = true) ∧
    (∃ (s : State) (q : Nat), s.logicUp = true ∧ isEthQ q = true ∧ s.on PG_STATE_ENABLED [pgQ q] = true ∧ (usxCode (s.rd QYE_CTRL_SPEED [q])).all (fun c => s.rd QYE_STATUS_USX_SPEED [q] == c) = true ∧ s.quayAwake q = true) ∧
    (∃ (s : State) (q : Nat) (code : Nat), s.logicUp = true ∧ isSerialQ q = true ∧ code ≤ 4 ∧ (usxCode (s.rd QYE_CTRL_SPEED [q])).isSome = true) ∧
    (∃ (s : State) (q : Nat) (m : Nat), s.logicUp = true ∧ isEthQ q = true ∧ (s.quay q).oldMode = some m ∧ (s.quay q).tx = none ∧ s.receiving q = false) ∧
    (∃ (s : State) (q : Nat), s.logicUp = true ∧ isT1sQ q = true ∧ s.on QYE_PLCA_EN [q] = true) :=
  ⟨⟨(wR []), 40, by decide +kernel⟩,
   ⟨(wR [(PG_STATE_ENABLED, [pgQ 40], 1)]), 40, by decide +kernel⟩,
   ⟨(wR [(QYE_CTRL_SPEED, [56], 6)]), 56, 4, by decide +kernel⟩,
   ⟨wEthernetLinkAndMode3S, 40, 0, by decide +kernel⟩,
   ⟨(wR [(QYE_PLCA_EN, [32], 1)]), 32, by decide +kernel⟩⟩

def wLineConditionsAndPolarity3S : State :=
  ({ wR [(PG_STATE_ENABLED, [pgLFE 0], 1)] with fronts := [(0, { reversals := 2 })] } : State)

def wLineConditionsAndPolarity4S : State :=
  ({ wR [(PG_STATE_ENABLED, [pgLFE 0], 1)] with fronts := [(0, { exchange := some true })] } : State)

def wLineConditionsAndPolarity5S : State :=
  ({ wR [(PG_STATE_ENABLED, [pgLFE 0], 1)] with fronts := [(0, { exchange := some false })] } : State)

def wLineConditionsAndPolarity8S : State :=
  (wR [(PG_STATE_ENABLED, [pgLFE 3], 1), (LFE_FAULT_SET_SET, [3], 64)])

theorem witness_LineConditionsAndPolarity :
    (∃ (s : State) (q : Nat), s.mode ≠ .off ∧ q < 64 ∧ ((q < 56 ∨ s.logicUp = true)) ∧ s.on PG_STATE_ENABLED [pgLFE q] = true) ∧
    (∃ (s : State) (q : Nat), s.mode ≠ .off ∧ q < 64 ∧ ((q < 56 ∨ s.logicUp = true)) ∧ s.on PG_STATE_ENABLED [pgLFE q] = true) ∧
    (∃ (s : State) (q : Nat), s.mode ≠ .off ∧ q < 32 ∧ s.on PG_STATE_ENABLED [pgLFE q] = true ∧ s.logicUp = false ∧ (s.front q).reversals < 2) ∧
    (∃ (s : State) (q : Nat), s.mode ≠ .off ∧ q < 32 ∧ s.on PG_STATE_ENABLED [pgLFE q] = true ∧ (s.front q).reversals = 2) ∧
    (∃ (s : State) (q : Nat), s.mode ≠ .off ∧ q < 32 ∧ s.on PG_STATE_ENABLED [pgLFE q] = true ∧ (s.front q).exchange = some true) ∧
    (∃ (s : State) (q : Nat), s.mode ≠ .off ∧ q < 32 ∧ s.on PG_STATE_ENABLED [pgLFE q] = true ∧ (s.front q).exchange = some false) ∧
    (∃ (s : State) (q : Nat), s.mode ≠ .off ∧ q < 32 ∧ s.on PG_STATE_ENABLED [pgLFE q] = true) ∧
    (∃ (s : State) (q : Nat), s.mode ≠ .off ∧ 32 ≤ q ∧ q < 64 ∧ ((q < 56 ∨ s.logicUp = true)) ∧ s.on PG_STATE_ENABLED [pgLFE q] = true) ∧
    (∃ (s : State) (q : Nat), s.mode ≠ .off ∧ q < 32 ∧ s.on PG_STATE_ENABLED [pgLFE q] = true ∧ s.hasFault q 6 = true) :=
  ⟨⟨(wR [(PG_STATE_ENABLED, [pgLFE 0], 1)]), 0, by decide +kernel⟩,
   ⟨(wR [(PG_STATE_ENABLED, [pgLFE 0], 1)]), 0, by decide +kernel⟩,
   ⟨(wS [(PG_STATE_ENABLED, [pgLFE 0], 1)]), 0, by decide +kernel⟩,
   ⟨wLineConditionsAndPolarity3S, 0, by decide +kernel⟩,
   ⟨wLineConditionsAndPolarity4S, 0, by decide +kernel⟩,
   ⟨wLineConditionsAndPolarity5S, 0, by decide +kernel⟩,
   ⟨(wR [(PG_STATE_ENABLED, [pgLFE 0], 1)]), 0, by decide +kernel⟩,
   ⟨(wR [(PG_STATE_ENABLED, [pgLFE 32], 1)]), 32, by decide +kernel⟩,
   ⟨wLineConditionsAndPolarity8S, 3, by decide +kernel⟩⟩

def wLineMeasurements2S : State :=
  ({ wR [(PG_STATE_ENABLED, [pgLFE 0], 1)] with fronts := [(0, { meas := some (1, 0) })] } : State)

def wLineMeasurements3S : State :=
  ({ wR [(PG_STATE_ENABLED, [pgLFE 0], 1)] with fronts := [(0, { meas := some (1, 0) })] } : State)

def wLineMeasurements7S : State :=
  ({ wR [(PG_STATE_ENABLED, [pgLFE 0], 1), (LFE_STATUS_MEAS_BUSY, [0], 1)] with fronts := [(0, { meas := some (2, 0) })] } : State)

def wLineMeasurements8S : State :=
  ({ wR [(PG_STATE_ENABLED, [pgLFE 0], 1)] with fronts := [(0, { meas := some (0, 0) })] } : State)

theorem witness_LineMeasurements :
    (∃ (s : State) (q : Nat), s.mode ≠ .off ∧ q < 32 ∧ s.on PG_STATE_ENABLED [pgLFE q] = true ∧ s.measuring q = false) ∧
    (∃ (s : State) (q : Nat), s.mode ≠ .off ∧ q < 56 ∧ s.on PG_STATE_ENABLED [pgLFE q] = true ∧ ((32 ≤ q ∨ s.measuring q = true))) ∧
    (∃ (s : State) (q : Nat) (since : Nat), s.mode ≠ .off ∧ q < 56 ∧ s.on PG_STATE_ENABLED [pgLFE q] = true ∧ (s.front q).meas = some (1, since)) ∧
    (∃ (s : State) (q : Nat) (since : Nat), s.mode ≠ .off ∧ q < 56 ∧ s.on PG_STATE_ENABLED [pgLFE q] = true ∧ (s.front q).meas = some (1, since) ∧ since + 50 * msNs ≤ s.now) ∧
    (∃ (s : State) (q : Nat), s.mode ≠ .off ∧ 48 ≤ q ∧ q < 56 ∧ isT1sQ q = false ∧ s.on PG_STATE_ENABLED [pgLFE q] = true ∧ s.measuring q = false ∧ ((s.quayMode q = 0 ∨ s.on QYE_STATUS_LINK [q] = false))) ∧
    (∃ (s : State) (q : Nat), s.mode ≠ .off ∧ isT1sQ q = true ∧ s.on PG_STATE_ENABLED [pgLFE q] = true ∧ s.measuring q = false) ∧
    (∃ (s : State) (q : Nat), s.mode ≠ .off ∧ q < 64 ∧ ((q < 56 ∨ s.logicUp = true)) ∧ s.on PG_STATE_ENABLED [pgLFE q] = true ∧ ((q < 32 ∨ 56 ≤ q ∨ s.measuring q = true))) ∧
    (∃ (s : State) (q : Nat) (kind : Nat) (since : Nat), s.mode ≠ .off ∧ q < 56 ∧ s.on PG_STATE_ENABLED [pgLFE q] = true ∧ s.on LFE_STATUS_MEAS_BUSY [q] = true ∧ (s.front q).meas = some (2, since) ∧ kind ≤ 5) ∧
    (∃ (s : State) (q : Nat) (kind : Nat) (since : Nat), s.mode ≠ .off ∧ q < 56 ∧ s.on PG_STATE_ENABLED [pgLFE q] = true ∧ (s.front q).meas = some (kind, since)) ∧
    (∃ (s : State) (q : Nat), s.mode ≠ .off ∧ 56 ≤ q ∧ q < 64 ∧ s.logicUp = true ∧ s.on PG_STATE_ENABLED [pgLFE q] = true) :=
  ⟨⟨(wR [(PG_STATE_ENABLED, [pgLFE 0], 1)]), 0, by decide +kernel⟩,
   ⟨(wR [(PG_STATE_ENABLED, [pgLFE 32], 1)]), 32, by decide +kernel⟩,
   ⟨wLineMeasurements2S, 0, 0, by decide +kernel⟩,
   ⟨wLineMeasurements3S, 0, 0, by decide +kernel⟩,
   ⟨(wR [(PG_STATE_ENABLED, [pgLFE 48], 1)]), 48, by decide +kernel⟩,
   ⟨(wR [(PG_STATE_ENABLED, [pgLFE 32], 1)]), 32, by decide +kernel⟩,
   ⟨(wR [(PG_STATE_ENABLED, [pgLFE 0], 1)]), 0, by decide +kernel⟩,
   ⟨wLineMeasurements7S, 0, 0, 0, by decide +kernel⟩,
   ⟨wLineMeasurements8S, 0, 0, 0, by decide +kernel⟩,
   ⟨(wR [(PG_STATE_ENABLED, [pgLFE 56], 1)]), 56, by decide +kernel⟩⟩

def wFrontEndsDetectWakes0S : State :=
  (wR [(LFE_WAKE_MODE, [0], 1), (LFE_STATUS_WAKE_ARMED, [0], 1), (PG_STATE_ENABLED, [pgLFE 0], 1)])

def wFrontEndsDetectWakes1S : State :=
  (wR [(LFE_WAKE_MODE, [3], 2), (LFE_WAKE_FD_PASSIVE, [3], 1), (LFE_STATUS_WAKE_ARMED, [3], 1), (PG_STATE_ENABLED, [pgLFE 3], 1)])

def wFrontEndsDetectWakes2S : State :=
  (wR [(LFE_WAKE_MODE, [0], 2), (LFE_STATUS_WAKE_ARMED, [0], 1), (PG_STATE_ENABLED, [pgLFE 0], 1)])

def wFrontEndsDetectWakes3S : State :=
  ({ wR [(LFE_WAKE_MODE, [3], 2), (LFE_STATUS_WAKE_ARMED, [3], 1), (PG_STATE_ENABLED, [pgLFE 3], 1)] with fronts := [(3, { ferr := 31 })] } : State)

def wFrontEndsDetectWakes4S : State :=
  (wR [(LFE_WAKE_MODE, [0], 2), (LFE_STATUS_WAKE_ARMED, [0], 1), (PG_STATE_ENABLED, [pgLFE 0], 1)])

def wFrontEndsDetectWakes5S : State :=
  (wR [(QYC_G1608_COMPAT, [0], 1), (LFE_STATUS_WAKE_ARMED, [0], 1), (PG_STATE_ENABLED, [pgLFE 0], 1)])

def wFrontEndsDetectWakes6S : State :=
  (wR [(QYC_G1608_COMPAT, [0], 1), (QYC_G1608_WAKE_FRAME, [0], 1), (LFE_STATUS_WAKE_ARMED, [0], 1), (PG_STATE_ENABLED, [pgLFE 0], 1)])

def wFrontEndsDetectWakes7S : State :=
  (wR [(LFE_WAKE_MODE, [33], 1), (LFE_WAKE_FILT_ENERGY_US, [33], 7), (LFE_STATUS_WAKE_ARMED, [33], 1), (PG_STATE_ENABLED, [pgLFE 33], 1)])

def wFrontEndsDetectWakes8S : State :=
  (wR [(LFE_WAKE_MODE, [49], 1), (LFE_STATUS_WAKE_ARMED, [49], 1), (PG_STATE_ENABLED, [pgLFE 49], 1)])

theorem witness_FrontEndsDetectWakes :
    (∃ (s : State) (q : Nat), s.mode ≠ .off ∧ q < 32 ∧ s.detects q = true ∧ s.rd LFE_WAKE_MODE [q] = 1 ∧ s.on QYC_G1608_COMPAT [q] = false) ∧
    (∃ (s : State) (q : Nat) (f : CanFrame), s.mode ≠ .off ∧ q < 32 ∧ s.detects q = true ∧ s.rd LFE_WAKE_MODE [q] = 2 ∧ s.on QYC_G1608_COMPAT [q] = false ∧ f.format = fmtFD ∧ s.on LFE_WAKE_FD_PASSIVE [q] = true) ∧
    (∃ (s : State) (q : Nat) (f : CanFrame), s.mode ≠ .off ∧ q < 32 ∧ s.detects q = true ∧ s.rd LFE_WAKE_MODE [q] = 2 ∧ s.on QYC_G1608_COMPAT [q] = false ∧ f.format = fmtCC ∧ s.wufMatches q f = true) ∧
    (∃ (s : State) (q : Nat) (f : CanFrame), s.mode ≠ .off ∧ q < 32 ∧ s.detects q = true ∧ s.rd LFE_WAKE_MODE [q] = 2 ∧ s.on QYC_G1608_COMPAT [q] = false ∧ f.format = fmtCC ∧ 31 ≤ (s.front q).ferr) ∧
    (∃ (s : State) (q : Nat) (f : CanFrame), s.mode ≠ .off ∧ q < 32 ∧ s.detects q = true ∧ s.rd LFE_WAKE_MODE [q] = 2 ∧ s.on QYC_G1608_COMPAT [q] = false ∧ f.format = fmtCC ∧ (s.front q).ferr < 31) ∧
    (∃ (s : State) (q : Nat), s.mode ≠ .off ∧ q < 32 ∧ s.detects q = true ∧ s.on QYC_G1608_COMPAT [q] = true ∧ s.on QYC_G1608_WAKE_FRAME [q] = false) ∧
    (∃ (s : State) (q : Nat), s.mode ≠ .off ∧ q < 32 ∧ s.detects q = true ∧ s.on QYC_G1608_COMPAT [q] = true ∧ s.on QYC_G1608_WAKE_FRAME [q] = true) ∧
    (∃ (s : State) (q : Nat) (us : Nat), s.mode ≠ .off ∧ isT1sQ q = true ∧ s.detects q = true ∧ s.rd LFE_WAKE_MODE [q] = 1 ∧ s.rd LFE_WAKE_FILT_ENERGY_US [q] ≤ us) ∧
    (∃ (s : State) (q : Nat), s.mode ≠ .off ∧ isT1Q q = true ∧ s.on PG_STATE_ENABLED [pgLFE q] = true ∧ s.rd LFE_WAKE_MODE [q] = 1 ∧ ((s.detects q = true ∨ s.segment q = 1))) ∧
    (∃ (s : State) (q : Nat), s.mode ≠ .off ∧ q < 64 ∧ ((q < 56 ∨ s.logicUp = true)) ∧ s.on PG_STATE_ENABLED [pgLFE q] = true) :=
  ⟨⟨wFrontEndsDetectWakes0S, 0, by decide +kernel⟩,
   ⟨wFrontEndsDetectWakes1S, 3, ({ ident := 5, format := fmtFD } : CanFrame), by decide +kernel⟩,
   ⟨wFrontEndsDetectWakes2S, 0, dCanFrame, by decide +kernel⟩,
   ⟨wFrontEndsDetectWakes3S, 3, dCanFrame, by decide +kernel⟩,
   ⟨wFrontEndsDetectWakes4S, 0, dCanFrame, by decide +kernel⟩,
   ⟨wFrontEndsDetectWakes5S, 0, by decide +kernel⟩,
   ⟨wFrontEndsDetectWakes6S, 0, by decide +kernel⟩,
   ⟨wFrontEndsDetectWakes7S, 33, 7, by decide +kernel⟩,
   ⟨wFrontEndsDetectWakes8S, 49, by decide +kernel⟩,
   ⟨(wR [(PG_STATE_ENABLED, [pgLFE 0], 1)]), 0, by decide +kernel⟩⟩

def wHarbourTimeIsSetAndSteered5S : State :=
  ({ wR [] with hck := { step := some { kind := 0, delta := -5, due := some 7 } }, bnd := { num := 3, arrived := 5000000000, none := false } } : State)

def wHarbourTimeIsSetAndSteered8S : State :=
  ({ wR [] with hck := { epochAt := some 7 }, bnd := { num := 3, arrived := 5000000000, none := false } } : State)

theorem witness_HarbourTimeIsSetAndSteered :
    (∃ (s : State), s.logicUp = true ∧ s.on HCK_STATUS_SET [] = false ∧ s.hck.step = none ∧ s.rd HCK_STEP_NS_NS [] < 1000000000) ∧
    (∃ (s : State), s.logicUp = true ∧ s.on HCK_STATUS_SET [] = false ∧ s.hck.step = none ∧ s.rd HCK_STEP_NS_NS [] < 1000000000) ∧
    (∃ (s : State) (c : Instr), s.logicUp = true ∧ s.on HCK_STATUS_SET [] = true ∧ c ∈ [Instr.step, .stepPps, .cancelStep]) ∧
    (∃ (s : State) (c : Instr), s.logicUp = true ∧ s.on HCK_STATUS_SET [] = false ∧ ((s.hck.step ≠ none ∨ 1000000000 ≤ s.rd HCK_STEP_NS_NS [])) ∧ c ∈ [Instr.step, .stepPps]) ∧
    (∃ (s : State), s.logicUp = true ∧ s.on HCK_STATUS_SET [] = false) ∧
    (∃ (s : State) (r : StepReq), s.logicUp = true ∧ s.hck.step = some r ∧ s.bndDue Boundary.step = true ∧ s.servedAt r.due = true ∧ s.on HCK_STATUS_SET [] = false ∧ 0 ≤ (s.count : Int) + r.delta * 2 ^ 24 ∧ (s.count : Int) + r.delta * 2 ^ 24 < timeEnd) ∧
    (∃ (s : State), s.logicUp = true ∧ s.on HCK_STATUS_SET [] = true ∧ s.hck.epochAt = none) ∧
    (∃ (s : State), s.logicUp = true ∧ s.on HCK_STATUS_SET [] = false) ∧
    (∃ (s : State), s.logicUp = true ∧ s.bndDue Boundary.epoch = true ∧ s.servedAt s.hck.epochAt = true) ∧
    (∃ (s : State), s.logicUp = true) ∧
    (∃ (s : State), s.logicUp = true ∧ s.servo ≠ svFree) ∧
    (∃ (s : State), s.logicUp = true ∧ s.servo = svFree) ∧
    (∃ (s : State), s.logicUp = true) ∧
    (∃ (s : State), s.logicUp = true ∧ s.rd HCK_CTRL_SRC [] = 0) ∧
    (∃ (s : State), s.logicUp = true ∧ s.rd HCK_CTRL_SRC [] ≠ 0) :=
  ⟨⟨(wR []), by decide +kernel⟩,
   ⟨(wR []), by decide +kernel⟩,
   ⟨(wR [(HCK_STATUS_SET, [], 1)]), .stepPps, by decide +kernel⟩,
   ⟨(wR [(HCK_STEP_NS_NS, [], 1000000000)]), .step, by decide +kernel⟩,
   ⟨(wR []), by decide +kernel⟩,
   ⟨wHarbourTimeIsSetAndSteered5S, ({ kind := 0, delta := -5, due := some 7 } : StepReq), by decide +kernel⟩,
   ⟨(wR [(HCK_STATUS_SET, [], 1)]), by decide +kernel⟩,
   ⟨(wR []), by decide +kernel⟩,
   ⟨wHarbourTimeIsSetAndSteered8S, by decide +kernel⟩,
   ⟨(wR []), by decide +kernel⟩,
   ⟨(wR [(HCK_STATUS_SERVO, [], svLocked)]), by decide +kernel⟩,
   ⟨(wR []), by decide +kernel⟩,
   ⟨(wR []), by decide +kernel⟩,
   ⟨(wR [(HCK_CTRL_SRC, [], 0)]), by decide +kernel⟩,
   ⟨(wR [(HCK_CTRL_SRC, [], 1)]), by decide +kernel⟩⟩

def wStampsCapturesAndPulses0U : State :=
  ((wR []).crossCheck 0 (sampled (2 * ps125) 0) (sampled (2 * ps125) 0))

def wStampsCapturesAndPulses1S : State :=
  ({ wR [(HCK_QCFG_FB_FORCE, [40], 1)] with bnd := { num := 3, arrived := 5000000000, none := false } } : State)

def wStampsCapturesAndPulses3S : State :=
  (wR [(HCK_CAP_CFG_EN, [3], 1), (HCK_CAP_CFG_EDGE, [3], 2), (HCK_CAP_CFG_FILT_NS, [3], 9), (HCK_CAP_CFG_WIN_ONLY, [3], 0)])

def wStampsCapturesAndPulses5S : State :=
  (wR [(HCK_STATUS_SET, [], 1), (HCK_CTRL_PPS_OUT_EN, [], 1)])

def wStampsCapturesAndPulses5N : Nat :=
  ((((wStampsCapturesAndPulses5S.count : Int) - ((wStampsCapturesAndPulses5S.count : Int) + wStampsCapturesAndPulses5S.ppsOfs) % (nsPerS * nsUnit : Nat))).toNat)

def wStampsCapturesAndPulses7S : State :=
  ({ wR [] with quays := [(0, { txStamps := {} })] } : State)

def wStampsCapturesAndPulses8S : State :=
  ({ wR [] with quays := [(40, { txStamps := { items := [dStampEntry] } })] } : State)

def wStampsCapturesAndPulses10S : State :=
  ({ wR [] with hck := { caps := [(3, { items := [dCapEntry] })] } } : State)

theorem witness_StampsCapturesAndPulses :
    (∃ (s : State) (u : State) (q : Nat) (a : Nat) (b : Nat), s.logicUp = true ∧ q < 64 ∧ u = s.crossCheck q (sampled (2 * ps125) a) (sampled (2 * ps125) b)) ∧
    (∃ (s : State) (q : Nat), s.logicUp = true ∧ q < 64 ∧ s.bnd.none = false ∧ s.bnd.arrived = s.now ∧ s.wantsFb q ≠ s.on HCK_QSTAT_FB_ACTIVE [q]) ∧
    (∃ (s : State) (q : Nat), s.logicUp = true ∧ q < 64) ∧
    (∃ (s : State) (c : Nat) (time : Nat) (hold : Nat) (rise : Bool), s.logicUp = true ∧ c < 16 ∧ s.on HCK_CAP_CFG_EN [c] = true ∧ bitOf (s.rd HCK_CAP_CFG_EDGE [c]) (if rise then 0 else 1) = 1 ∧ 2 ≤ hold ∧ s.rd HCK_CAP_CFG_FILT_NS [c] ≤ hold ∧ ((s.on HCK_CAP_CFG_WIN_ONLY [c] = true → s.inCapture c time = true))) ∧
    (∃ (s : State) (c : Nat) (hold : Nat), s.logicUp = true ∧ c < 16 ∧ hold < max 2 (s.rd HCK_CAP_CFG_FILT_NS [c])) ∧
    (∃ (s : State) (n : Nat), s.logicUp = true ∧ s.ppsAllowed = true ∧ s.hck.ppsFrom = none ∧ n = (((s.count : Int) - ((s.count : Int) + s.ppsOfs) % (nsPerS * nsUnit : Nat))).toNat ∧ ((s.count : Int) + s.ppsOfs) % (nsPerS * nsUnit : Nat) < s.tickInc) ∧
    (∃ (s : State) (n : Nat), s.logicUp = true ∧ s.hck.ppsFrom = some n ∧ n + s.rd HCK_PPS_OUT_WIDTH_MS [] * 1000000 * nsUnit ≤ s.count) ∧
    (∃ (s : State) (q : Nat), s.logicUp = true ∧ q < 64 ∧ (s.quay q).txStamps = {}) ∧
    (∃ (s : State) (q : Nat) (e : StampEntry) (l : List StampEntry), s.logicUp = true ∧ q < 64 ∧ (s.quay q).txStamps.items = e :: l) ∧
    (∃ (s : State) (q : Nat), s.logicUp = true ∧ q < 128 ∧ ((64 ≤ q ∨ s.engineQueue q = true))) ∧
    (∃ (s : State) (c : Nat) (e : CapEntry) (l : List CapEntry), s.logicUp = true ∧ c < 16 ∧ (s.capQ c).items = e :: l) ∧
    (∃ (s : State) (c : Nat), s.logicUp = true ∧ c < 16 ∧ s.capQ c = {}) :=
  ⟨⟨(wR []), wStampsCapturesAndPulses0U, 0, 0, 0, by decide +kernel, by decide +kernel, rfl⟩,
   ⟨wStampsCapturesAndPulses1S, 40, by decide +kernel⟩,
   ⟨(wR []), 0, by decide +kernel⟩,
   ⟨wStampsCapturesAndPulses3S, 3, 77, 9, false, by decide +kernel⟩,
   ⟨(wR []), 0, 0, by decide +kernel⟩,
   ⟨wStampsCapturesAndPulses5S, wStampsCapturesAndPulses5N, by decide +kernel, by decide +kernel, by decide +kernel, rfl, by decide +kernel⟩,
   ⟨({ wR [] with hck := { ppsFrom := some 8 } } : State), 8, by decide +kernel⟩,
   ⟨wStampsCapturesAndPulses7S, 0, by decide +kernel⟩,
   ⟨wStampsCapturesAndPulses8S, 40, dStampEntry, [], by decide +kernel⟩,
   ⟨(wR []), 64, by decide +kernel⟩,
   ⟨wStampsCapturesAndPulses10S, 3, dCapEntry, [], by decide +kernel⟩,
   ⟨(wR []), 0, by decide +kernel⟩⟩

def wServoAndItsSources0S : State :=
  (wR [(HCK_CTRL_SRC, [], 1), (HCK_DOM_CFG_EN, [0], 1), (HCK_DOM_CFG_SLAVE, [0], 48), (HCK_AS_CAPABLE_MASK, [], 2 ^ 16)])

def wServoAndItsSources0E : Int :=
  (wServoAndItsSources0S.syncOffset (wServoAndItsSources0S.slave (wServoAndItsSources0S.rd HCK_CTRL_WORK_DOM [])) 77000 5000 3 0)

def wServoAndItsSources1S : State :=
  ({ wR [(HCK_CTRL_SRC, [], 1), (HCK_DOM_CFG_EN, [0], 1), (HCK_DOM_CFG_SLAVE, [0], 48), (HCK_AS_CAPABLE_MASK, [], 2 ^ 16)] with hck := { msgBad := true } } : State)

def wServoAndItsSources2S : State :=
  ({ wR [(HCK_CTRL_SRC, [], 1), (HCK_DOM_CFG_EN, [0], 1), (HCK_DOM_CFG_SLAVE, [0], 48), (HCK_AS_CAPABLE_MASK, [], 2 ^ 16), (HCK_STATUS_SET, [], 1)] with hck := { gmTbi := some 1, gmPort := some 2 } } : State)

def wServoAndItsSources3N : Nat :=
  (stampAdd (sampled ps125 7700000) ((wR [(HCK_PPS_IN_EN, [], 1)]).ofs125 HCK_PPS_OFS_IN_OFS []))

def wServoAndItsSources4S : State :=
  ({ wR [(HCK_PPS_IN_EN, [], 1)] with hck := { step := some { kind := 1, target := 9 } } } : State)

def wServoAndItsSources5S : State :=
  ({ wR [(HCK_STATUS_SERVO, [], svLocked)] with hck := { lastMeas := some (9, 8 * 65536) } } : State)

def wServoAndItsSources7S : State :=
  ({ wR [(HCK_CTRL_SRC, [], 1), (HCK_DOM_CFG_EN, [0], 1), (HCK_STATUS_SERVO, [], svLocked)] with hck := { gmTbi := some 1 } } : State)

theorem witness_ServoAndItsSources :
    (∃ (s : State) (rx : Nat) (origin : Nat) (corr : Int) (csro : Int) (e : Int), s.logicUp = true ∧ s.rd HCK_CTRL_SRC [] = 1 ∧ s.isSlave (s.rd HCK_CTRL_WORK_DOM []) = true ∧ s.capable (s.slave (s.rd HCK_CTRL_WORK_DOM [])) = true ∧ s.messageRead = (s, true) ∧ s.on HCK_STATUS_SET [] = false ∧ e = s.syncOffset (s.slave (s.rd HCK_CTRL_WORK_DOM [])) rx origin corr csro) ∧
    (∃ (s : State) (u : State), s.logicUp = true ∧ s.rd HCK_CTRL_SRC [] = 1 ∧ s.isSlave (s.rd HCK_CTRL_WORK_DOM []) = true ∧ s.capable (s.slave (s.rd HCK_CTRL_WORK_DOM [])) = true ∧ s.messageRead = (u, false)) ∧
    (∃ (s : State) (tbi : Nat) (port : Nat), s.logicUp = true ∧ s.rd HCK_CTRL_SRC [] = 1 ∧ s.isSlave (s.rd HCK_CTRL_WORK_DOM []) = true ∧ s.capable (s.slave (s.rd HCK_CTRL_WORK_DOM [])) = true ∧ s.messageRead = (s, true) ∧ s.on HCK_STATUS_SET [] = true ∧ s.on HCK_STATUS_FORCED_HOLD [] = false ∧ s.hck.gmTbi = some tbi ∧ s.hck.gmPort = some port ∧ s.servo = svFree) ∧
    (∃ (s : State) (fall : Bool) (time : Nat) (n : Nat), s.logicUp = true ∧ s.on HCK_PPS_IN_EN [] = true ∧ s.on HCK_PPS_IN_FALL [] = fall ∧ n = stampAdd (sampled ps125 time) (s.ofs125 HCK_PPS_OFS_IN_OFS [])) ∧
    (∃ (s : State) (fall : Bool) (r : StepReq), s.logicUp = true ∧ s.on HCK_PPS_IN_EN [] = true ∧ s.on HCK_PPS_IN_FALL [] = fall ∧ s.hck.step = some r ∧ r.kind = 1 ∧ r.due = none) ∧
    (∃ (s : State) (a : Nat) (n : Nat), s.logicUp = true ∧ ((s.servo = svLocking ∨ s.servo = svLocked ∨ s.servo = svDegraded)) ∧ s.hck.lastMeas = some (a, n) ∧ a * 65536 + 3 * n ≤ s.now * 65536) ∧
    (∃ (s : State) (d : Nat), s.logicUp = true ∧ d < 4 ∧ s.isSlave d = true ∧ s.messageRead = (s, true) ∧ ((s.rd HCK_CTRL_SRC [] ≠ 1 ∨ s.rd HCK_CTRL_WORK_DOM [] ≠ d))) ∧
    (∃ (s : State) (tbi : Nat) (old : Nat), s.logicUp = true ∧ s.rd HCK_CTRL_WORK_DOM [] < 4 ∧ s.isSlave (s.rd HCK_CTRL_WORK_DOM []) = true ∧ s.messageRead = (s, true) ∧ s.rd HCK_CTRL_SRC [] = 1 ∧ s.hck.gmTbi = some old ∧ old ≠ tbi ∧ s.servo ≠ svFree) :=
  ⟨⟨wServoAndItsSources0S, 77000, 5000, 3, 0, wServoAndItsSources0E, by decide +kernel, by decide +kernel, by decide +kernel, by decide +kernel, by decide +kernel, by decide +kernel, rfl⟩,
   ⟨wServoAndItsSources1S, wServoAndItsSources1S.messageRead.1, by decide +kernel, by decide +kernel, by decide +kernel, by decide +kernel, Prod.ext rfl (by decide +kernel)⟩,
   ⟨wServoAndItsSources2S, 1, 2, by decide +kernel⟩,
   ⟨(wR [(HCK_PPS_IN_EN, [], 1)]), ((wR [(HCK_PPS_IN_EN, [], 1)]).on HCK_PPS_IN_FALL []), 7700000, wServoAndItsSources3N, by decide +kernel, by decide +kernel, by decide +kernel, rfl⟩,
   ⟨wServoAndItsSources4S, (wServoAndItsSources4S.on HCK_PPS_IN_FALL []), ({ kind := 1, target := 9 } : StepReq), by decide +kernel⟩,
   ⟨wServoAndItsSources5S, 9, (8 * 65536), by decide +kernel⟩,
   ⟨(wR [(HCK_DOM_CFG_EN, [0], 1)]), 0, by decide +kernel⟩,
   ⟨wServoAndItsSources7S, 2, 1, by decide +kernel⟩⟩

def wTimeMessages1S : State :=
  ({ wR [(HCK_PORT_CFG_AS_EN, [48], 1)] with hck := { pdelayAt := [(48, 5000000000)] } } : State)

def wTimeMessages3S : State :=
  ({ wR [(HCK_PORT_CFG_AS_EN, [48], 1)] with hck := { pdelay := [48] } } : State)

def wTimeMessages4S : State :=
  ({ wR [(HCK_PORT_CFG_AS_EN, [48], 1)] with hck := { pdelay := [48] } } : State)

def wTimeMessages5S : State :=
  (wR [(HCK_DOM_CFG_EN, [3], 1), (HCK_DOM_CFG_SLAVE, [3], 48), (HCK_AS_CAPABLE_MASK, [], 2 ^ 16)])

def wTimeMessages6S : State :=
  (wR [(HCK_DOM_CFG_EN, [0], 1), (HCK_DOM_CFG_GM, [0], 1), (HCK_STATUS_SET, [], 1)])

def wTimeMessages7S : State :=
  ({ wR [(HCK_DOM_CFG_EN, [3], 1)] with hck := { doms := [(3, { interval := 65536, seenAt := 9 })] } } : State)

def wTimeMessages9S : State :=
  ({ wR [(HCK_CANT_CFG_EN, [5], 1), (HCK_CANT_CFG_SYNC_BERTH, [5], 1), (HCK_CANT_CFG_FUP_BERTH, [5], 2)] with bth := { valid := [1, 2], cfg := wM [(64, 1, 2), (64 + 0x0A, 1, 1), (64 + 0x15, 1, 3), (128, 1, 2), (128 + 0x0A, 1, 1), (128 + 0x15, 1, 3)] } } : State)

def wTimeMessages9sec : Nat :=
  (stampS (wTimeMessages9S.timebase 5 wTimeMessages9S.stamp))

def wTimeMessages10S : State :=
  ({ wT [] [(9, 0x300, 1)] [(0x300, 1, 66), (0x304, 2, 4)] [(HCK_CANT_CFG_EN, [5], 1), (HCK_CANT_CFG_SYNC_BERTH, [5], 1), (HCK_CANT_CFG_FUP_BERTH, [5], 2)] with hck := { cant := [(5, { waits := true })] }, quays := [(0, { syncStamps := { items := [dStampEntry] } })], bth := { valid := [1, 2], cfg := wM [(64, 1, 2), (64 + 0x0A, 1, 1), (64 + 0x15, 1, 3), (128, 1, 2), (128 + 0x0A, 1, 1), (128 + 0x15, 1, 3)] } } : State)

def wTimeMessages10sec : Nat :=
  (stampS (wTimeMessages10S.timebase 5 wTimeMessages10S.stamp))

def wTimeMessages10U : State :=
  ((wTimeMessages10S.cantWrite 5 (wTimeMessages10S.cantBerths 5).1 ([0x20, wTimeMessages10S.rd HCK_CANT_CFG2_DOMAIN [5] * 16 + ((wTimeMessages10S.rd HCK_CANT_STAT_SEQ [5] + 1) % 16), 0, wTimeMessages10S.cantStatus 5] ++ beBytes 4 wTimeMessages10sec)).getD (wR []))

def wTimeMessages11S : State :=
  ({ wR [(HCK_CANT_CFG_EN, [0], 1)] with quays := [(0, { syncStamps := {} })] } : State)

def wTimeMessages12S : State :=
  ({ wR [(HCK_CANT_CFG_EN, [5], 1), (HCK_CANT_CFG_SYNC_BERTH, [5], 1), (HCK_CANT_CFG_FUP_BERTH, [5], 2)] with hck := { cant := [(5, { waits := true })] }, cst := { bq := [(2, [dQItem])] }, quays := [(0, { syncStamps := { items := [dStampEntry] } })], bth := { valid := [1, 2], cfg := wM [(64, 1, 2), (64 + 0x0A, 1, 1), (64 + 0x15, 1, 3), (128, 1, 2), (128 + 0x0A, 1, 1), (128 + 0x15, 1, 3)] } } : State)

def wTimeMessages13S : State :=
  ({ wT [] [(9, 0x300, 1)] [(0x300, 1, 66), (0x304, 2, 4)] [(HCK_CANT_CFG_EN, [5], 1), (HCK_CANT_CFG_SYNC_BERTH, [5], 1), (HCK_CANT_CFG_FUP_BERTH, [5], 2)] with hck := { cant := [(5, { waits := true })] }, quays := [(0, { syncStamps := { items := [dStampEntry] } })], bth := { valid := [1, 2], cfg := wM [(64, 1, 2), (64 + 0x0A, 1, 1), (64 + 0x15, 1, 3), (128, 1, 2), (128 + 0x0A, 1, 1), (128 + 0x15, 1, 3)] } } : State)

def wTimeMessages13W : State :=
  ((wTimeMessages13S.cantWrite 5 (wTimeMessages13S.cantBerths 5).2 ([0x28, wTimeMessages13S.rd HCK_CANT_CFG2_DOMAIN [5] * 16 + (wTimeMessages13S.cant 5).seq, (stampS (wTimeMessages13S.timebase 5 dStampEntry.stamp) + 256 - (wTimeMessages13S.cant 5).sec % 256) % 256, wTimeMessages13S.cantStatus 5] ++ beBytes 4 (stampNs (wTimeMessages13S.timebase 5 dStampEntry.stamp)))).getD wTimeMessages13S)

theorem witness_TimeMessages :
    (∃ (s : State) (q : Nat), s.logicUp = true ∧ (isT1Q q || isSerialQ q) = true ∧ s.on HCK_PORT_CFG_AS_EN [q] = true ∧ SMap.find? s.hck.pdelayAt q = none) ∧
    (∃ (s : State) (q : Nat) (n : Nat), s.logicUp = true ∧ (isT1Q q || isSerialQ q) = true ∧ s.on HCK_PORT_CFG_AS_EN [q] = true ∧ SMap.find? s.hck.pdelayAt q = some n ∧ s.now * 65536 < n * 65536 + logSeconds (signedOf 4 (s.rd HCK_PORT_CFG_PDELAY_LOG [q]))) ∧
    (∃ (s : State) (q : Nat), s.logicUp = true ∧ (isT1Q q || isSerialQ q) = true ∧ s.on HCK_PORT_CFG_AS_EN [q] = true ∧ s.messageRead = (s, true)) ∧
    (∃ (s : State) (q : Nat), s.logicUp = true ∧ (isT1Q q || isSerialQ q) = true ∧ s.on HCK_PORT_CFG_AS_EN [q] = true ∧ q ∈ s.hck.pdelay ∧ s.messageRead = (s, true)) ∧
    (∃ (s : State) (q : Nat), s.logicUp = true ∧ (isT1Q q || isSerialQ q) = true ∧ s.on HCK_PORT_CFG_AS_EN [q] = true ∧ q ∈ s.hck.pdelay) ∧
    (∃ (s : State) (d : Nat), s.logicUp = true ∧ d < 4 ∧ s.isSlave d = true ∧ s.capable (s.slave d) = true ∧ s.messageRead = (s, true)) ∧
    (∃ (s : State) (d : Nat), s.logicUp = true ∧ d < 4 ∧ s.on HCK_DOM_CFG_EN [d] = true ∧ s.on HCK_DOM_CFG_GM [d] = true ∧ s.on HCK_STATUS_SET [] = true ∧ s.count % s.syncPeriod d < s.tickInc ∧ (s.dom d).sent ≠ some (s.count / s.syncPeriod d)) ∧
    (∃ (s : State) (d : Nat), s.logicUp = true ∧ d < 4 ∧ s.isSlave d = true ∧ s.on HCK_DOM_STAT_LOST [d] = false ∧ (s.dom d).interval ≠ 0 ∧ (s.dom d).seenAt * 65536 + 3 * (s.dom d).interval ≤ s.now * 65536) ∧
    (∃ (s : State) (q : Nat), s.logicUp = true ∧ isEthQ q = true ∧ s.on HCK_PORT_CFG_AS_EN [q] = true) ∧
    (∃ (s : State) (e : Nat) (n : Nat) (sec : Nat), s.logicUp = true ∧ e < 16 ∧ s.cantRuns e = true ∧ s.berthQ (s.cantBerths e).1 = [] ∧ (s.cant e).retryFrom ≠ some s.bnd.arrived ∧ n = (s.rd HCK_CANT_STAT_SEQ [e] + 1) % 16 ∧ sec = stampS (s.timebase e s.stamp) ∧ s.cantWrite e (s.cantBerths e).1 ([0x20, s.rd HCK_CANT_CFG2_DOMAIN [e] * 16 + n, 0, s.cantStatus e] ++ beBytes 4 sec) = none) ∧
    (∃ (s : State) (u : State) (e : Nat) (n : Nat) (sec : Nat), s.logicUp = true ∧ e < 16 ∧ s.cantRuns e = true ∧ s.berthQ (s.cantBerths e).1 = [] ∧ (s.cant e).retryFrom ≠ some s.bnd.arrived ∧ n = (s.rd HCK_CANT_STAT_SEQ [e] + 1) % 16 ∧ sec = stampS (s.timebase e s.stamp) ∧ s.cantWrite e (s.cantBerths e).1 ([0x20, s.rd HCK_CANT_CFG2_DOMAIN [e] * 16 + n, 0, s.cantStatus e] ++ beBytes 4 sec) = some u) ∧
    (∃ (s : State) (e : Nat), s.logicUp = true ∧ e < 16 ∧ s.on HCK_CANT_CFG_EN [e] = true ∧ (s.quay (s.rd HCK_CANT_CFG2_QUAY [e])).syncStamps = {}) ∧
    (∃ (s : State) (e : Nat) (x : StampEntry) (l : List StampEntry), s.logicUp = true ∧ e < 16 ∧ s.cantRuns e = true ∧ (s.cant e).waits = true ∧ (s.quay (s.rd HCK_CANT_CFG2_QUAY [e])).syncStamps.items = x :: l ∧ (s.berth (s.cantBerths e).1).idLo % 2 ^ 29 = x.ref ∧ s.berthQ (s.cantBerths e).2 ≠ []) ∧
    (∃ (s : State) (w : State) (e : Nat) (x : StampEntry) (l : List StampEntry), s.logicUp = true ∧ e < 16 ∧ s.cantRuns e = true ∧ (s.cant e).waits = true ∧ (s.quay (s.rd HCK_CANT_CFG2_QUAY [e])).syncStamps.items = x :: l ∧ (s.berth (s.cantBerths e).1).idLo % 2 ^ 29 = x.ref ∧ s.berthQ (s.cantBerths e).2 = [] ∧ s.cantWrite e (s.cantBerths e).2 ([0x28, s.rd HCK_CANT_CFG2_DOMAIN [e] * 16 + (s.cant e).seq, (stampS (s.timebase e x.stamp) + 256 - (s.cant e).sec % 256) % 256, s.cantStatus e] ++ beBytes 4 (stampNs (s.timebase e x.stamp))) = some w) :=
  ⟨⟨(wR [(HCK_PORT_CFG_AS_EN, [48], 1)]), 48, by decide +kernel⟩,
   ⟨wTimeMessages1S, 48, 5000000000, by decide +kernel⟩,
   ⟨(wR [(HCK_PORT_CFG_AS_EN, [48], 1)]), 48, by decide +kernel⟩,
   ⟨wTimeMessages3S, 48, by decide +kernel⟩,
   ⟨wTimeMessages4S, 48, by decide +kernel⟩,
   ⟨wTimeMessages5S, 3, by decide +kernel⟩,
   ⟨wTimeMessages6S, 0, by decide +kernel⟩,
   ⟨wTimeMessages7S, 3, by decide +kernel⟩,
   ⟨(wR [(HCK_PORT_CFG_AS_EN, [40], 1)]), 40, by decide +kernel⟩,
   ⟨wTimeMessages9S, 5, ((wTimeMessages9S.rd HCK_CANT_STAT_SEQ [5] + 1) % 16), wTimeMessages9sec, by decide +kernel, by decide +kernel, by decide +kernel, by decide +kernel, by decide +kernel, rfl, rfl, by decide +kernel⟩,
   ⟨wTimeMessages10S, wTimeMessages10U, 5, ((wTimeMessages10S.rd HCK_CANT_STAT_SEQ [5] + 1) % 16), wTimeMessages10sec, by decide +kernel, by decide +kernel, by decide +kernel, by decide +kernel, by decide +kernel, rfl, rfl, by decide +kernel⟩,
   ⟨wTimeMessages11S, 0, by decide +kernel⟩,
   ⟨wTimeMessages12S, 5, dStampEntry, [], by decide +kernel⟩,
   ⟨wTimeMessages13S, wTimeMessages13W, 5, dStampEntry, [], by decide +kernel⟩⟩

def wLogRecorder0S : State :=
  ({ wR [(PG_STATE_ENABLED, [pgLOG], 1)] with logLines := [.mark 5 1 2 77] } : State)

def wLogRecorder0U : State :=
  (if wLogRecorder0S.on PG_STATE_ENABLED [pgLOG] then wLogRecorder0S.logSleepWake else wLogRecorder0S)

def wLogRecorder2S : State :=
  ({ wR [(PG_STATE_ENABLED, [pgLOG], 1), (LOG_CTRL_OUT, [], 2), (LOG_OUT_Q_QUAY, [], 40), (QYE_FRAME_MAX_LEN, [40], 64)] with lgr := { buf := [{ dLogRec with body := List.replicate 90 0 }] } } : State)

def wLogRecorder3S : State :=
  ({ wR [(PG_STATE_ENABLED, [pgLOG], 1), (LOG_CTRL_OUT, [], 2), (LOG_OUT_Q_QUAY, [], 40), (QYE_STATUS_LINK, [40], 1)] with lgr := { buf := [dLogRec] } } : State)

def wLogRecorder4S : State :=
  ({ wR [(PG_STATE_ENABLED, [pgLOG], 1), (LOG_CTRL_OUT, [], 2), (LOG_OUT_Q_QUAY, [], 40)] with lgr := { buf := [dLogRec] } } : State)

def wLogRecorder5S : State :=
  ({ wR [(LOG_IRQ_COAL_RECS, [], 4)] with lgr := { fresh := 4 } } : State)

def wLogRecorder7S : State :=
  ({ wR [(LOG_OUT_FLUSH_US_US, [], 10)] with lgr := { frame := [1, 2], frameAt := some 4999990000 } } : State)

def wLogRecorder8S : State :=
  ({ wR [(PG_STATE_ENABLED, [pgLOG], 1), (LOG_WM_LOW_KIB, [], 8)] with lgr := { sums := [(3, {})] } } : State)

def wLogRecorder11K : Nat :=
  ((wR [(PG_STATE_ENABLED, [pgLOG], 1)]).rd LOG_SEAL_KEY_SLOT [])

def wLogRecorder12S : State :=
  ({ wR [(PG_STATE_ENABLED, [pgLOG], 1), (LOG_CTRL_SEAL_EN, [], 1), (KWL_STATUS_ROOT, [], rootPresent), (LOG_CTRL_OUT, [], 2), (LOG_OUT_Q_QUAY, [], 40), (QYE_STATUS_LINK, [40], 1)] with lgr := { sealing := { key := some ([], 0, 0), recs := 1, asked := true } } } : State)

def wLogRecorder13S : State :=
  ({ wR [(PG_STATE_ENABLED, [pgLOG], 1), (LOG_CTRL_SEAL_EN, [], 1), (KWL_STATUS_ROOT, [], rootPresent), (LOG_CTRL_OUT, [], 2), (LOG_OUT_Q_QUAY, [], 40)] with lgr := { sealing := { key := some ([], 0, 0), recs := 1, asked := true } } } : State)

def wLogRecorder14S : State :=
  ({ wR [(PG_STATE_ENABLED, [pgLOG], 1), (LOG_CTRL_SEAL_EN, [], 1)] with lgr := { sealBad := true } } : State)

theorem witness_LogRecorder :
    (∃ (s : State) (u : State) (n : Nat) (e : LogEvent), s.logicUp = true ∧ u = (if s.on PG_STATE_ENABLED [pgLOG] then s.logSleepWake else s) ∧ u.nextReport u.logLines = some n ∧ u.logLines[n]? = some e) ∧
    (∃ (s : State) (n : Nat) (f : LogEvent), s.logicUp = true ∧ s.on PG_STATE_ENABLED [pgLOG] = false ∧ s.nextReport s.logLines = some n ∧ s.logLines[n]? = some f ∧ (∀ x, f ≠ .frame x)) ∧
    (∃ (s : State) (r : LogRec) (l : List LogRec), s.logicUp = true ∧ s.on PG_STATE_ENABLED [pgLOG] = true ∧ s.sealDue = false ∧ s.lgr.buf = r :: l ∧ s.tooLongRec r = true) ∧
    (∃ (s : State) (r : LogRec) (l : List LogRec), s.logicUp = true ∧ s.on PG_STATE_ENABLED [pgLOG] = true ∧ s.sealDue = false ∧ s.lgr.buf = r :: l ∧ s.tooLongRec r = false ∧ s.outTakes r = true) ∧
    (∃ (s : State) (r : LogRec) (l : List LogRec), s.logicUp = true ∧ s.on PG_STATE_ENABLED [pgLOG] = true ∧ s.sealDue = false ∧ s.lgr.buf = r :: l ∧ s.tooLongRec r = false ∧ s.outTakes r = false) ∧
    (∃ (s : State), s.logicUp = true ∧ s.lgr.fresh ≠ 0 ∧ s.rd LOG_IRQ_COAL_RECS [] ≤ s.lgr.fresh) ∧
    (∃ (s : State), s.logicUp = true ∧ ((s.lgr.fresh = 0 ∨ s.lgr.freshAt = none ∧ s.lgr.fresh < s.rd LOG_IRQ_COAL_RECS []))) ∧
    (∃ (s : State) (n : Nat), s.logicUp = true ∧ s.lgr.frame ≠ [] ∧ s.lgr.frameAt = some n ∧ n + 1000 * s.rd LOG_OUT_FLUSH_US_US [] ≤ s.now) ∧
    (∃ (s : State), s.logicUp = true ∧ s.on PG_STATE_ENABLED [pgLOG] = true ∧ s.lgr.sums ≠ [] ∧ s.logLevel < s.rd LOG_WM_LOW_KIB [] * 1024) ∧
    (∃ (s : State), s.logicUp = true ∧ s.on PG_STATE_ENABLED [pgLOG] = true) ∧
    (∃ (s : State), s.logicUp = true ∧ s.on PG_STATE_ENABLED [pgLOG] = true) ∧
    (∃ (s : State) (k : Nat), s.logicUp = true ∧ s.on PG_STATE_ENABLED [pgLOG] = true ∧ k = s.rd LOG_SEAL_KEY_SLOT []) ∧
    (∃ (s : State), s.logicUp = true ∧ s.sealDue = true ∧ s.sealCause = none ∧ s.outTakes s.sealRecord = true) ∧
    (∃ (s : State), s.logicUp = true ∧ s.sealDue = true ∧ s.sealCause = none ∧ s.outTakes s.sealRecord = false) ∧
    (∃ (s : State) (c : Nat), s.logicUp = true ∧ s.sealOn = true ∧ s.sealCause = some c) ∧
    (∃ (s : State), s.logicUp = true) :=
  ⟨⟨wLogRecorder0S, wLogRecorder0U, 0, (.mark 5 1 2 77), by decide +kernel, rfl, by decide +kernel⟩,
   ⟨({ wR [] with logLines := [.mark 5 1 2 77] } : State), 0, (.mark 5 1 2 77), by decide +kernel, by decide +kernel, by decide +kernel, by decide +kernel, by intro x h; cases h⟩,
   ⟨wLogRecorder2S, ({ dLogRec with body := List.replicate 90 0 } : LogRec), [], by decide +kernel⟩,
   ⟨wLogRecorder3S, dLogRec, [], by decide +kernel⟩,
   ⟨wLogRecorder4S, dLogRec, [], by decide +kernel⟩,
   ⟨wLogRecorder5S, by decide +kernel⟩,
   ⟨(wR []), by decide +kernel⟩,
   ⟨wLogRecorder7S, 4999990000, by decide +kernel⟩,
   ⟨wLogRecorder8S, by decide +kernel⟩,
   ⟨(wR [(PG_STATE_ENABLED, [pgLOG], 1)]), by decide +kernel⟩,
   ⟨(wR [(PG_STATE_ENABLED, [pgLOG], 1)]), by decide +kernel⟩,
   ⟨(wR [(PG_STATE_ENABLED, [pgLOG], 1)]), wLogRecorder11K, by decide +kernel, by decide +kernel, rfl⟩,
   ⟨wLogRecorder12S, by decide +kernel⟩,
   ⟨wLogRecorder13S, by decide +kernel⟩,
   ⟨wLogRecorder14S, 3, by decide +kernel⟩,
   ⟨(wR []), by decide +kernel⟩⟩

def wCipherTrafficJobs0S : State :=
  ({ wR [] with cst := { innerIn := [(3, dQItem :: [])] } } : State)

def wCipherTrafficJobs0J : CphJob :=
  ({ item := dQItem, protect := (wCipherTrafficJobs0S.berth dQItem.r.berth).authTx, fv := dQItem.r.fv, admitted := wCipherTrafficJobs0S.count } : CphJob)

def wCipherTrafficJobs1S : State :=
  ({ wR [] with cst := { innerIn := [(3, [dQItem])] }, cph := { jobs := { items := List.replicate cphDepth dCphJob } } } : State)

def wCipherTrafficJobs1J : CphJob :=
  ({ item := dQItem, protect := (wCipherTrafficJobs1S.berth dQItem.r.berth).authTx, fv := dQItem.r.fv, admitted := wCipherTrafficJobs1S.count } : CphJob)

def wCipherTrafficJobs2S : State :=
  ({ wR [] with cst := { innerIn := [(3, dQItem :: [])] }, cph := { wordBad := true } } : State)

def wCipherTrafficJobs3S : State :=
  ({ wR [(CPH_LSTAT_OUT, [0], 1), (CPH_LSTAT_OUT, [1], 1), (CPH_LSTAT_OUT, [2], 1), (CPH_LSTAT_OUT, [3], 1)] with cph := { jobs := { items := [dCphJob] } } } : State)

def wCipherTrafficJobs4S : State :=
  ({ wR [(PG_STATE_ENABLED, [pgLane 0], 1), (KWL_STATUS_ROOT, [], rootPresent), (CPH_BUDGET_UNSCHED, [], 1000)] with cph := { jobs := { items := [{ dCphJob with admitted := 5000000000 * nsUnit }] }, lanes := [] }, bth := { cfg := wM [(0x1A, 2, 3)] }, kwl := { slots := [(3, { state := 1, use := 5, key := List.replicate 16 1 })] } } : State)

def wCipherTrafficJobs4J : CphJob :=
  ({ dCphJob with admitted := 5000000000 * nsUnit } : CphJob)

def wCipherTrafficJobs4W : State :=
  ((wCipherTrafficJobs4S.cphProceed.setCph { wCipherTrafficJobs4S.cphProceed.cph with jobs := takeCphJob wCipherTrafficJobs4S.cphProceed.cph.jobs wCipherTrafficJobs4J }).viewCph)

def wCipherTrafficJobs4U : State :=
  ((wCipherTrafficJobs4W.trafficKey 0 wCipherTrafficJobs4J).1)

def wCipherTrafficJobs4K : KwlSlot :=
  (((wCipherTrafficJobs4W.trafficKey 0 wCipherTrafficJobs4J).2.1).getD {})

def wCipherTrafficJobs4B : Bool :=
  ((wCipherTrafficJobs4W.trafficKey 0 wCipherTrafficJobs4J).2.2)

def wCipherTrafficJobs5S : State :=
  ({ wR [(PG_STATE_ENABLED, [pgLane 0], 1)] with cph := { jobs := { items := [dCphJob] } } } : State)

def wCipherTrafficJobs5W : State :=
  ((wCipherTrafficJobs5S.cphProceed.setCph { wCipherTrafficJobs5S.cphProceed.cph with jobs := takeCphJob wCipherTrafficJobs5S.cphProceed.cph.jobs dCphJob }).viewCph)

def wCipherTrafficJobs6S : State :=
  ({ wR [(PG_STATE_ENABLED, [pgLane 2], 1)] with cph := { lanes := [(2, { queue := [{ dHostJob with op := 3 }] })] } } : State)

def wCipherTrafficJobs7S : State :=
  ({ wR [(KWL_STATUS_ROOT, [], rootPresent), (CST_CTRL_CUT_EN, [], 1)] with cst := { frames := [(0, { dFrameObj with own := List.replicate 320 1 })] }, cph := { lanes := [(2, { job := some (.traffic { dCphJob with item := { dQItem with r := { dRec with d := { dDesc with cut := true } } } } [] [] 0 none) })] } } : State)

def wCipherTrafficJobs7J : CphJob :=
  ({ dCphJob with item := { dQItem with r := { dRec with d := { dDesc with cut := true } } } } : CphJob)

def wCipherTrafficJobs7bs : List Nat :=
  (macsecPartial (wCipherTrafficJobs7S.berthProfile wCipherTrafficJobs7J.berth) [] [] (wCipherTrafficJobs7S.frameBytes wCipherTrafficJobs7J.item.frame) wCipherTrafficJobs7J.fv)

def wCipherTrafficJobs7W : State :=
  ((wCipherTrafficJobs7S.appendCell 67 none ((wCipherTrafficJobs7S.takeCell 67 none).getD 0) (wCipherTrafficJobs7bs.take 256)).1)

def wCipherTrafficJobs7F : Nat :=
  ((wCipherTrafficJobs7S.appendCell 67 none ((wCipherTrafficJobs7S.takeCell 67 none).getD 0) (wCipherTrafficJobs7bs.take 256)).2)

def wCipherTrafficJobs7O : FrameObj :=
  ((wCipherTrafficJobs7W.frame? wCipherTrafficJobs7F).getD dFrameObj)

def wCipherTrafficJobs7X : State :=
  (wCipherTrafficJobs7W.putFrame wCipherTrafficJobs7F { wCipherTrafficJobs7O with cut := true })

def wCipherTrafficJobs7Q : State × Bool :=
  (wCipherTrafficJobs7X.pushDesc 67 (contDesc wCipherTrafficJobs7J wCipherTrafficJobs7F (wCipherTrafficJobs7J.item.r.d.len - 16 - secTagLen ((wCipherTrafficJobs7S.frameBytes wCipherTrafficJobs7J.item.frame).getD 14 0)) true true (wCipherTrafficJobs7X.outHdr wCipherTrafficJobs7J 3 wCipherTrafficJobs7bs)) wCipherTrafficJobs7J.item.r.sched)

def wCipherTrafficJobs8S : State :=
  ({ wR [] with cph := { lanes := [(0, { job := some (.traffic dCphJob [] [] 0 none) })] } } : State)

def wCipherTrafficJobs9S : State :=
  ({ wR [(KWL_STATUS_ROOT, [], rootPresent), (CPH_BUDGET_UNSCHED, [], 1000)] with cst := { frames := [(0, { dFrameObj with complete := true, own := List.replicate 60 1 })] }, cph := { lanes := [(2, { job := some (.traffic { item := { dQItem with r := { dRec with d := { dDesc with medium := 3 } } }, protect := true, fv := 5, admitted := 5000000000 * nsUnit } [] [] 0 none) })] } } : State)

def wCipherTrafficJobs9J : CphJob :=
  ({ item := { dQItem with r := { dRec with d := { dDesc with medium := 3 } } }, protect := true, fv := 5, admitted := 5000000000 * nsUnit } : CphJob)

def wCipherTrafficJobs9bs : List Nat :=
  ((protectFrame (wCipherTrafficJobs9S.berthProfile wCipherTrafficJobs9J.berth) [] [] (wCipherTrafficJobs9S.frameBytes wCipherTrafficJobs9J.item.frame) wCipherTrafficJobs9J.item.r.d.medium wCipherTrafficJobs9J.fv).getD [])

def wCipherTrafficJobs9F : FrameObj :=
  ((wCipherTrafficJobs9S.frame? wCipherTrafficJobs9J.item.frame).getD dFrameObj)

def wCipherTrafficJobs10S : State :=
  ({ wR [(KWL_STATUS_ROOT, [], rootPresent), (CPH_BUDGET_UNSCHED, [], 1000)] with cst := { frames := [(0, { dFrameObj with complete := true, own := List.replicate 60 1 })] }, cph := { lanes := [(2, { job := some (.traffic { item := { dQItem with r := { dRec with d := { dDesc with medium := 3 } } }, protect := false, fv := 5, admitted := 5000000000 * nsUnit } [] [] 0 none) })] } } : State)

def wCipherTrafficJobs10J : CphJob :=
  ({ item := { dQItem with r := { dRec with d := { dDesc with medium := 3 } } }, protect := false, fv := 5, admitted := 5000000000 * nsUnit } : CphJob)

def wCipherTrafficJobs10F : FrameObj :=
  ((wCipherTrafficJobs10S.frame? wCipherTrafficJobs10J.item.frame).getD dFrameObj)

def wCipherTrafficJobs11S : State :=
  ({ wR [] with cph := { lanes := [(0, { job := some (.traffic dCphJob [] [] 0 none) })] } } : State)

def wCipherTrafficJobs12S : State :=
  ({ wR [] with cph := { lanes := [(0, { job := some (.traffic dCphJob [] [] 0 none) })] } } : State)

theorem witness_CipherTrafficJobs :
    (∃ (s : State) (it : QItem) (l : List QItem) (j : CphJob), s.logicUp = true ∧ s.inner 3 = it :: l ∧ s.cph.wordBad = false ∧ j = { item := it, protect := (s.berth it.r.berth).authTx, fv := it.r.fv, admitted := s.count } ∧ (s.cph.jobs.push cphDepth j s.stamp).2.1 = true) ∧
    (∃ (s : State) (it : QItem) (l : List QItem) (j : CphJob), s.logicUp = true ∧ s.inner 3 = it :: l ∧ s.cph.wordBad = false ∧ j = { item := it, protect := (s.berth it.r.berth).authTx, fv := it.r.fv, admitted := s.count } ∧ (s.cph.jobs.push cphDepth j s.stamp).2.1 = false) ∧
    (∃ (s : State) (it : QItem) (l : List QItem), s.logicUp = true ∧ s.inner 3 = it :: l ∧ s.cph.wordBad = true) ∧
    (∃ (s : State) (v : State) (l : Nat) (j : CphJob), s.logicUp = true ∧ l < 4 ∧ v = s.cphProceed ∧ (List.range 4).any (fun m => v.laneUp m) = false ∧ v.cph.jobs.all.head? = some j) ∧
    (∃ (s : State) (v : State) (w : State) (u : State) (l : Nat) (j : CphJob) (k : KwlSlot) (b : Bool), s.logicUp = true ∧ l < 4 ∧ v = s.cphProceed ∧ v.laneIdle l = true ∧ v.lanePick l = some (.inl j) ∧ v.lowerLane l j = false ∧ w = (v.setCph { v.cph with jobs := takeCphJob v.cph.jobs j }).viewCph ∧ w.count + jobTime (jobBytes (w.berthProfile j.berth) j.protect j.item.r.d.len j.item.r.d.medium) true ≤ w.releaseSlot j ∧ w.trafficKey l j = (u, some k, b)) ∧
    (∃ (s : State) (v : State) (w : State) (l : Nat) (j : CphJob), s.logicUp = true ∧ l < 4 ∧ v = s.cphProceed ∧ v.laneIdle l = true ∧ v.lanePick l = some (.inl j) ∧ v.lowerLane l j = false ∧ w = (v.setCph { v.cph with jobs := takeCphJob v.cph.jobs j }).viewCph ∧ w.releaseSlot j < w.count + jobTime (jobBytes (w.berthProfile j.berth) j.protect j.item.r.d.len j.item.r.d.medium) false) ∧
    (∃ (s : State) (v : State) (l : Nat) (h : HostJob), s.logicUp = true ∧ l < 4 ∧ v = s.cphProceed ∧ v.laneIdle l = true ∧ v.lanePick l = some (.inr h)) ∧
    (∃ (s : State) (w : State) (x : State) (l : Nat) (f : Nat) (c : Nat) (gen : Nat) (j : CphJob) (key : List Nat) (attr : List Nat) (bs : List Nat) (o : FrameObj) (q : State × Bool), s.logicUp = true ∧ l < 4 ∧ (s.lane l).job = some (.traffic j key attr gen none) ∧ bs = macsecPartial (s.berthProfile j.berth) key attr (s.frameBytes j.item.frame) j.fv ∧ s.jobCut j = true ∧ 256 < bs.length ∧ s.earlierJob j = false ∧ (s.cph.done.any fun e => e.job.berth == j.berth) = false ∧ s.keyStands (s.berthKey j.berth) gen = true ∧ s.takeCell 67 none = some c ∧ s.appendCell 67 none c (bs.take 256) = (w, f) ∧ w.frame? f = some o ∧ x = w.putFrame f { o with cut := true } ∧ q = x.pushDesc 67 (contDesc j f (j.item.r.d.len - 16 - secTagLen ((s.frameBytes j.item.frame).getD 14 0)) true true (x.outHdr j 3 bs)) j.item.r.sched ∧ q.2 = true) ∧
    (∃ (s : State) (l : Nat) (gen : Nat) (j : CphJob) (key : List Nat) (attr : List Nat) (o : Option Nat), s.logicUp = true ∧ l < 4 ∧ (s.lane l).job = some (.traffic j key attr gen o) ∧ ((s.jobCut j = false ∨ s.earlierJob j = true))) ∧
    (∃ (s : State) (l : Nat) (gen : Nat) (j : CphJob) (key : List Nat) (attr : List Nat) (bs : List Nat) (o : Option Nat) (f : FrameObj), s.logicUp = true ∧ l < 4 ∧ (s.lane l).job = some (.traffic j key attr gen o) ∧ s.frame? j.item.frame = some f ∧ f.bad = false ∧ s.frameComplete j.item.frame = true ∧ s.count ≤ s.releaseSlot j ∧ (s.lane l).cmpBad = false ∧ s.badCellsOf j.item.frame = [] ∧ s.keyStands (s.berthKey j.berth) gen = true ∧ j.protect = true ∧ protectFrame (s.berthProfile j.berth) key attr (s.frameBytes j.item.frame) j.item.r.d.medium j.fv = some bs) ∧
    (∃ (s : State) (l : Nat) (gen : Nat) (j : CphJob) (key : List Nat) (attr : List Nat) (f : FrameObj), s.logicUp = true ∧ l < 4 ∧ (s.lane l).job = some (.traffic j key attr gen none) ∧ s.frame? j.item.frame = some f ∧ f.bad = false ∧ s.frameComplete j.item.frame = true ∧ s.count ≤ s.releaseSlot j ∧ (s.lane l).cmpBad = false ∧ s.badCellsOf j.item.frame = [] ∧ s.keyStands (s.berthKey j.berth) gen = true ∧ j.protect = false) ∧
    (∃ (s : State) (l : Nat) (gen : Nat) (j : CphJob) (key : List Nat) (attr : List Nat), s.logicUp = true ∧ l < 4 ∧ (s.lane l).job = some (.traffic j key attr gen none)) ∧
    (∃ (s : State) (l : Nat) (gen : Nat) (j : CphJob) (key : List Nat) (attr : List Nat), s.logicUp = true ∧ l < 4 ∧ (s.lane l).job = some (.traffic j key attr gen none) ∧ s.releaseSlot j ≤ s.count) :=
  ⟨⟨wCipherTrafficJobs0S, dQItem, [], wCipherTrafficJobs0J, by decide +kernel, by decide +kernel, by decide +kernel, rfl, by decide +kernel⟩,
   ⟨wCipherTrafficJobs1S, dQItem, [], wCipherTrafficJobs1J, by decide +kernel, by decide +kernel, by decide +kernel, rfl, by decide +kernel⟩,
   ⟨wCipherTrafficJobs2S, dQItem, [], by decide +kernel⟩,
   ⟨wCipherTrafficJobs3S, wCipherTrafficJobs3S.cphProceed, 0, dCphJob, by decide +kernel, by decide +kernel, rfl, by decide +kernel⟩,
   ⟨wCipherTrafficJobs4S, wCipherTrafficJobs4S.cphProceed, wCipherTrafficJobs4W, wCipherTrafficJobs4U, 0, wCipherTrafficJobs4J, wCipherTrafficJobs4K, wCipherTrafficJobs4B, by decide +kernel, by decide +kernel, rfl, by decide +kernel, by decide +kernel, by decide +kernel, rfl, by decide +kernel⟩,
   ⟨wCipherTrafficJobs5S, wCipherTrafficJobs5S.cphProceed, wCipherTrafficJobs5W, 0, dCphJob, by decide +kernel, by decide +kernel, rfl, by decide +kernel, by decide +kernel, by decide +kernel, rfl, by decide +kernel⟩,
   ⟨wCipherTrafficJobs6S, wCipherTrafficJobs6S.cphProceed, 2, ({ dHostJob with op := 3 } : HostJob), by decide +kernel, by decide +kernel, rfl, by decide +kernel⟩,
   ⟨wCipherTrafficJobs7S, wCipherTrafficJobs7W, wCipherTrafficJobs7X, 2, wCipherTrafficJobs7F, ((wCipherTrafficJobs7S.takeCell 67 none).getD 0), 0, wCipherTrafficJobs7J, [], [], wCipherTrafficJobs7bs, wCipherTrafficJobs7O, wCipherTrafficJobs7Q, by decide +kernel, by decide +kernel, by decide +kernel, rfl, by decide +kernel, by decide +kernel, by decide +kernel, by decide +kernel, by decide +kernel, by decide +kernel, by decide +kernel, by decide +kernel, rfl, rfl, by decide +kernel⟩,
   ⟨wCipherTrafficJobs8S, 0, 0, dCphJob, [], [], none, by decide +kernel⟩,
   ⟨wCipherTrafficJobs9S, 2, 0, wCipherTrafficJobs9J, [], [], wCipherTrafficJobs9bs, none, wCipherTrafficJobs9F, by decide +kernel⟩,
   ⟨wCipherTrafficJobs10S, 2, 0, wCipherTrafficJobs10J, [], [], wCipherTrafficJobs10F, by decide +kernel⟩,
   ⟨wCipherTrafficJobs11S, 0, 0, dCphJob, [], [], by decide +kernel⟩,
   ⟨wCipherTrafficJobs12S, 0, 0, dCphJob, [], [], by decide +kernel⟩⟩

def wCipherHostJobs1S : State :=
  ({ wR [(CPH_JOB_CFG_OP, [2], 1)] with cph := { lanes := [(2, { queue := List.replicate 16 dHostJob })] } } : State)

def wCipherHostJobs2S : State :=
  ({ wR [] with cph := { lanes := [(0, { job := some (.host dHostJob [] false 0) })] } } : State)

def wCipherHostJobs3S : State :=
  ({ wR [] with cph := { lanes := [(2, { job := some (.host { dHostJob with op := 4, intake := true } [] false 0) })] } } : State)

def wCipherHostJobs4S : State :=
  ({ wH [(PG_STATE_ENABLED, [pgHBR], 1)] with cph := { lanes := [(2, { job := some (.host { dHostJob with op := 4, intake := true } [] false 0) })] } } : State)

def wCipherHostJobs7S : State :=
  ({ wR [] with cph := { lanes := [(0, { results := {} })] } } : State)

def wCipherHostJobs8S : State :=
  ({ wR [] with cph := { lanes := [(2, { results := { items := [dHostRes] } })] } } : State)

theorem witness_CipherHostJobs :
    (∃ (s : State) (c : Instr) (l : Nat) (n : Nat), s.logicUp = true ∧ l < 4 ∧ n < 256 ∧ ((c = .enc l n ∧ s.rd CPH_JOB_CFG_OP [l] = 1 ∨ c = .dec l n ∧ s.rd CPH_JOB_CFG_OP [l] = 2 ∨ c = .mac l n ∧ s.rd CPH_JOB_CFG_OP [l] = 3 ∨ c = .cmacVerify l n ∧ s.rd CPH_JOB_CFG_OP [l] = 4)) ∧ (s.lane l).queue.length < 16) ∧
    (∃ (s : State) (c : Instr) (l : Nat) (n : Nat), s.logicUp = true ∧ l < 4 ∧ n < 256 ∧ ((c = .enc l n ∧ s.rd CPH_JOB_CFG_OP [l] = 1 ∨ c = .dec l n ∧ s.rd CPH_JOB_CFG_OP [l] = 2 ∨ c = .mac l n ∧ s.rd CPH_JOB_CFG_OP [l] = 3 ∨ c = .cmacVerify l n ∧ s.rd CPH_JOB_CFG_OP [l] = 4)) ∧ 16 ≤ (s.lane l).queue.length) ∧
    (∃ (s : State) (l : Nat) (gen : Nat) (j : HostJob) (key : List Nat) (cu : Bool), s.logicUp = true ∧ l < 4 ∧ (s.lane l).job = some (.host j key cu gen)) ∧
    (∃ (s : State) (l : Nat) (gen : Nat) (j : HostJob) (key : List Nat) (src : List Nat) (cu : Bool), s.logicUp = true ∧ l < 4 ∧ (s.lane l).job = some (.host j key cu gen) ∧ src.length = j.aad + j.len ∧ (s.lane l).cmpBad = false ∧ ((j.intake = true ∨ s.keyStands j.slot gen = true)) ∧ ((j.op = 3 ∨ j.op = 4))) ∧
    (∃ (s : State) (l : Nat) (gen : Nat) (j : HostJob) (key : List Nat) (src : List Nat) (cu : Bool), s.logicUp = true ∧ l < 4 ∧ (s.lane l).job = some (.host j key cu gen) ∧ src.length = j.aad + j.len ∧ (s.lane l).cmpBad = false ∧ ((j.intake = true ∨ s.keyStands j.slot gen = true)) ∧ s.hostReachable = true) ∧
    (∃ (s : State) (l : Nat), s.logicUp = true ∧ l < 4) ∧
    (∃ (s : State) (l : Nat), s.logicUp = true ∧ l < 4) ∧
    (∃ (s : State) (l : Nat), s.logicUp = true ∧ l < 4 ∧ (s.lane l).results = {}) ∧
    (∃ (s : State) (l : Nat) (r : HostRes) (rs : List HostRes), s.logicUp = true ∧ l < 4 ∧ (s.lane l).results.items = r :: rs) :=
  ⟨⟨(wR [(CPH_JOB_CFG_OP, [2], 3)]), (.mac 2 255), 2, 255, by decide +kernel⟩,
   ⟨wCipherHostJobs1S, (.enc 2 255), 2, 255, by decide +kernel⟩,
   ⟨wCipherHostJobs2S, 0, 0, dHostJob, [], false, by decide +kernel⟩,
   ⟨wCipherHostJobs3S, 2, 0, ({ dHostJob with op := 4, intake := true } : HostJob), [], [], false, by decide +kernel⟩,
   ⟨wCipherHostJobs4S, 2, 0, ({ dHostJob with op := 4, intake := true } : HostJob), [], [], false, by decide +kernel⟩,
   ⟨(wR []), 0, by decide +kernel⟩,
   ⟨(wR []), 0, by decide +kernel⟩,
   ⟨wCipherHostJobs7S, 0, by decide +kernel⟩,
   ⟨wCipherHostJobs8S, 2, dHostRes, [], by decide +kernel⟩⟩

def wKeyWellCommands2S : State :=
  ({ wR [(KWL_STATUS_ROOT, [], rootPresent), (KWL_STATUS_BUSY, [], 1)] with kwl := { cmd := some { dKwlCmd with slot := 5, cfg := { use := 6 } } } } : State)

def wKeyWellCommands2C : KwlCmd :=
  ({ dKwlCmd with slot := 5, cfg := { use := 6 } } : KwlCmd)

def wKeyWellCommands4S : State :=
  ({ wR [(KWL_STATUS_ROOT, [], rootPresent)] with kwl := { slots := [(5, { state := 1, use := 1, gen := 4 })] } } : State)

def wKeyWellCommands5S : State :=
  ({ wR [] with kwl := { slots := [(5, { state := 1, use := 3 })] } } : State)

def wKeyWellCommands6S : State :=
  ({ wR [(KWL_STATUS_ROOT, [], rootPresent)] with kwl := { slots := [(5, { state := 1, use := 3, gen := 2 ^ 32 - 2, key := [1, 2] })] } } : State)

def wKeyWellCommands7S : State :=
  ({ wR [] with kwl := { slots := [(5, { state := 1, use := 3, gen := 2 ^ 32 - 1 })] } } : State)

def wKeyWellCommands9S : State :=
  ({ wR [(KWL_STATUS_ROOT, [], rootPresent)] with kwl := { slots := [(5, { state := 1, use := 3, dirty := true })] } } : State)

def wKeyWellCommands13S : State :=
  ({ wR [] with kwl := { slots := [(5, { state := 3, use := 3, gen := 7 })], ret := { table := [(5, { state := 1, use := 3, gen := 6, key := [9] })] } } } : State)

def wKeyWellCommands14S : State :=
  ({ wR [] with kwl := { slots := [(5, { state := 1, use := 6, parent := 4, gen := 7, key := [1] })], sweep := 5 }, bnd := { num := 3, arrived := 5000000000, none := false } } : State)

theorem witness_KeyWellCommands :
    (∃ (s : State) (c : Instr) (n : Nat) (p : Nat), s.logicUp = true ∧ n < 4096 ∧ p < 4096 ∧ s.on KWL_STATUS_BUSY [] = true ∧ c ∈ [Instr.derive n p, .kwlImport n p, .invalidate n, .destroy n, .kwlCommit, .restoreCustody]) ∧
    (∃ (s : State) (n : Nat) (p : Nat), s.logicUp = true ∧ n < 4096 ∧ p < 4096 ∧ s.on KWL_STATUS_BUSY [] = false) ∧
    (∃ (s : State) (c : KwlCmd), s.logicUp = true ∧ s.kwl.testing = false ∧ s.kwl.cmd = some c ∧ s.createResult c = 0) ∧
    (∃ (s : State) (c : KwlCmd), s.logicUp = true ∧ s.kwl.testing = false ∧ s.kwl.cmd = some c ∧ s.createResult c ≠ 0) ∧
    (∃ (s : State) (n : Nat), s.logicUp = true ∧ n < 4096 ∧ s.on KWL_STATUS_BUSY [] = false ∧ (s.keySlot n).use = 1 ∧ (s.keySlot n).state ≠ 0 ∧ (s.keySlot n).gen < 2 ^ 32 - 1) ∧
    (∃ (s : State) (n : Nat), s.logicUp = true ∧ n < 4096 ∧ s.on KWL_STATUS_BUSY [] = false ∧ (((s.keySlot n).use ≠ 1 ∨ (s.keySlot n).state = 0 ∨ (s.keySlot n).gen = 2 ^ 32 - 1))) ∧
    (∃ (s : State) (n : Nat), s.logicUp = true ∧ 0 < n ∧ n < 4096 ∧ s.on KWL_STATUS_BUSY [] = false ∧ (s.keySlot n).gen ≠ 2 ^ 32 - 1) ∧
    (∃ (s : State) (n : Nat), s.logicUp = true ∧ 0 < n ∧ n < 4096 ∧ s.on KWL_STATUS_BUSY [] = false ∧ (s.keySlot n).gen = 2 ^ 32 - 1) ∧
    (∃ (s : State), s.logicUp = true ∧ s.on KWL_STATUS_BUSY [] = false) ∧
    (∃ (s : State), s.logicUp = true ∧ s.on KWL_STATUS_BUSY [] = false ∧ s.on KWL_STATUS_COMMIT_BUSY [] = false ∧ s.hasRoot = true) ∧
    (∃ (s : State), s.logicUp = true ∧ s.on KWL_STATUS_BUSY [] = false ∧ s.on KWL_STATUS_COMMIT_BUSY [] = false ∧ s.hasRoot = false ∧ s.kwl.newRoot = none ∧ s.kwlSnapshot = []) ∧
    (∃ (s : State), s.logicUp = true ∧ s.on KWL_STATUS_BUSY [] = false ∧ s.on KWL_STATUS_COMMIT_BUSY [] = true) ∧
    (∃ (s : State), s.logicUp = true ∧ s.on KWL_STATUS_BUSY [] = false ∧ s.on KWL_STATUS_ALARM [] = true) ∧
    (∃ (s : State), s.logicUp = true ∧ s.on KWL_STATUS_BUSY [] = false ∧ s.on KWL_STATUS_ALARM [] = false) ∧
    (∃ (s : State), s.logicUp = true ∧ s.bnd.none = false ∧ s.kwl.sweptAt ≠ some s.bnd.num) :=
  ⟨⟨(wR [(KWL_STATUS_BUSY, [], 1)]), (.kwlImport 5 4), 5, 4, by decide +kernel⟩,
   ⟨(wR []), 0, 0, by decide +kernel⟩,
   ⟨wKeyWellCommands2S, wKeyWellCommands2C, by decide +kernel⟩,
   ⟨({ wR [] with kwl := { cmd := some dKwlCmd } } : State), dKwlCmd, by decide +kernel⟩,
   ⟨wKeyWellCommands4S, 5, by decide +kernel⟩,
   ⟨wKeyWellCommands5S, 5, by decide +kernel⟩,
   ⟨wKeyWellCommands6S, 5, by decide +kernel⟩,
   ⟨wKeyWellCommands7S, 5, by decide +kernel⟩,
   ⟨(wR []), by decide +kernel⟩,
   ⟨wKeyWellCommands9S, by decide +kernel⟩,
   ⟨(wR []), by decide +kernel⟩,
   ⟨(wR [(KWL_STATUS_COMMIT_BUSY, [], 1)]), by decide +kernel⟩,
   ⟨(wR [(KWL_STATUS_ALARM, [], 1)]), by decide +kernel⟩,
   ⟨wKeyWellCommands13S, by decide +kernel⟩,
   ⟨wKeyWellCommands14S, by decide +kernel⟩⟩

def wKeyWellRandomness0S : State :=
  ({ wR [] with bnd := { num := 3, arrived := 5000000000, none := false } } : State)

def wKeyWellRandomness1S : State :=
  ({ wR [] with bnd := { num := 70, arrived := 5000000000, none := false }, kwl := { maskAt := some 6 } } : State)

def wKeyWellRandomness5S : State :=
  (wR [(KWL_STATUS_RBG, [], 1), (DEV_STATUS_RESTORE_DONE, [], 1)])

theorem witness_KeyWellRandomness :
    (∃ (s : State), s.logicUp = true ∧ s.bnd.none = false ∧ s.kwl.maskAt = none) ∧
    (∃ (s : State) (n : Nat), s.logicUp = true ∧ s.bnd.none = false ∧ s.kwl.maskAt = some n ∧ n + 64 ≤ s.bnd.num) ∧
    (∃ (s : State) (n : Nat), s.logicUp = true ∧ s.kwl.maskAt = some n ∧ s.bnd.num < n + 64) ∧
    (∃ (s : State), s.logicUp = true ∧ ((s.rd KWL_STATUS_RBG [] = 0 ∨ s.rd KWL_STATUS_RBG [] = 2))) ∧
    (∃ (s : State), s.logicUp = true ∧ s.rd KWL_STATUS_RBG [] ≠ 3) ∧
    (∃ (s : State), s.logicUp = true ∧ s.hasRoot = false ∧ s.kwl.newRoot = none ∧ s.rd KWL_STATUS_RBG [] = 1 ∧ s.on DEV_STATUS_RESTORE_DONE [] = true) :=
  ⟨⟨wKeyWellRandomness0S, by decide +kernel⟩,
   ⟨wKeyWellRandomness1S, 6, by decide +kernel⟩,
   ⟨({ wR [] with kwl := { maskAt := some 0 } } : State), 0, by decide +kernel⟩,
   ⟨(wR []), by decide +kernel⟩,
   ⟨(wR []), by decide +kernel⟩,
   ⟨wKeyWellRandomness5S, by decide +kernel⟩⟩

def wRetainedWrites0S : State :=
  ({ wR [(PWK_HOLDUP_RATIO_RATIO, [], 1000), (PWK_HOLDUP_CFG_VMIN_MV, [], 6000), (PWK_HOLDUP_CFG_CAP_UF, [], 2200)] with ret := { queue := [{ dRetWrite with need := 100 }] } } : State)

def wRetainedWrites0vb : Nat :=
  (1000000 * wRetainedWrites0S.rd PWK_HOLDUP_RATIO_RATIO [])

def wRetainedWrites0E : Nat :=
  (wRetainedWrites0S.rd PWK_HOLDUP_CFG_CAP_UF [] * (wRetainedWrites0vb * wRetainedWrites0vb - (wRetainedWrites0S.rd PWK_HOLDUP_CFG_VMIN_MV [] * 16000) * (wRetainedWrites0S.rd PWK_HOLDUP_CFG_VMIN_MV [] * 16000)))

def wRetainedWrites1S : State :=
  ({ wR [] with ret := { queue := [{ dRetWrite with need := 100 }] } } : State)

def wRetainedWrites2S : State :=
  ({ wR [] with ret := { queue := dRetWrite :: [] } } : State)

def wRetainedWrites3S : State :=
  ({ wR [] with ret := { queue := [{ dRetWrite with tries := 64 }] } } : State)

def wRetainedWrites4S : State :=
  ({ wR [] with ret := { active := some { dRetWrite with owner := .repair } } } : State)

def wRetainedWrites5S : State :=
  ({ wR [] with ret := { active := some dRetWrite } } : State)

def wRetainedWrites6S : State :=
  ({ wR [] with ret := { active := some { dRetWrite with owner := .root } } } : State)

def wRetainedWrites7S : State :=
  ({ wR [] with ret := { refused := (dRetWrite, 0) :: [] } } : State)

def wRetainedWrites8S : State :=
  ({ wR [(PWK_HOLDUP_RATIO_RATIO, [], 1000), (PWK_HOLDUP_CFG_VMIN_MV, [], 6000), (PWK_HOLDUP_CFG_CAP_UF, [], 2200)] with sup := { history := [([7], 0, none)] } } : State)

def wRetainedWrites8vb : Nat :=
  (1000000 * wRetainedWrites8S.rd PWK_HOLDUP_RATIO_RATIO [])

def wRetainedWrites8E : Nat :=
  (wRetainedWrites8S.rd PWK_HOLDUP_CFG_CAP_UF [] * (wRetainedWrites8vb * wRetainedWrites8vb - (wRetainedWrites8S.rd PWK_HOLDUP_CFG_VMIN_MV [] * 16000) * (wRetainedWrites8S.rd PWK_HOLDUP_CFG_VMIN_MV [] * 16000)))

def wRetainedWrites9S : State :=
  ({ wR [] with sup := { history := ([], 0, none) :: [] } } : State)

def wRetainedWrites10S : State :=
  ({ wR [] with sup := { history := ([7], 0, some 9) :: List.replicate 16 ([8], 0, some 9) } } : State)

def wRetainedWrites11S : State :=
  ({ wR [(PWK_HOLDUP_RATIO_RATIO, [], 1000), (PWK_HOLDUP_CFG_VMIN_MV, [], 6000), (PWK_HOLDUP_CFG_CAP_UF, [], 2200)] with sup := { history := [([7], 0, some 9)] } } : State)

def wRetainedWrites11vb : Nat :=
  (1000000 * wRetainedWrites11S.rd PWK_HOLDUP_RATIO_RATIO [])

def wRetainedWrites11vm : Nat :=
  (wRetainedWrites11S.rd PWK_HOLDUP_CFG_VMIN_MV [] * 16000)

def wRetainedWrites11E : Nat :=
  (wRetainedWrites11S.rd PWK_HOLDUP_CFG_CAP_UF [] * (wRetainedWrites11vb * wRetainedWrites11vb - wRetainedWrites11vm * wRetainedWrites11vm))

def wRetainedWrites12S : State :=
  ({ wR [(PWK_HOLDUP_RATIO_RATIO, [], 1000), (PWK_HOLDUP_CFG_VMIN_MV, [], 6000), (PWK_HOLDUP_CFG_CAP_UF, [], 2200)] with sup := { repairDirty := true } } : State)

def wRetainedWrites12vb : Nat :=
  (1000000 * wRetainedWrites12S.rd PWK_HOLDUP_RATIO_RATIO [])

def wRetainedWrites12vm : Nat :=
  (wRetainedWrites12S.rd PWK_HOLDUP_CFG_VMIN_MV [] * 16000)

def wRetainedWrites12E : Nat :=
  (wRetainedWrites12S.rd PWK_HOLDUP_CFG_CAP_UF [] * (wRetainedWrites12vb * wRetainedWrites12vb - wRetainedWrites12vm * wRetainedWrites12vm))

def wRetainedWrites13S : State :=
  ({ wR [(CST_STATUS_BANK_TEST, [], 0)] with sup := { repairDirty := true } } : State)

theorem witness_RetainedWrites :
    (∃ (s : State) (w : RetWrite) (l : List RetWrite) (v : Nat) (vb : Nat) (vm : Nat) (e : Nat), s.mode ≠ .off ∧ s.ret.active = none ∧ s.ret.queue = w :: l ∧ s.pwk.snsBad = false ∧ vb = v * s.rd PWK_HOLDUP_RATIO_RATIO [] ∧ vm = s.rd PWK_HOLDUP_CFG_VMIN_MV [] * 16000 ∧ vm < vb ∧ e = s.rd PWK_HOLDUP_CFG_CAP_UF [] * (vb * vb - vm * vm) ∧ 3 * w.need * (512 * 10 ^ 12) ≤ 2 * e) ∧
    (∃ (s : State) (w : RetWrite) (l : List RetWrite) (v : Nat), s.mode ≠ .off ∧ s.ret.active = none ∧ s.ret.queue = w :: l ∧ s.pwk.snsBad = false ∧ 0 < w.need ∧ v * s.rd PWK_HOLDUP_RATIO_RATIO [] ≤ s.rd PWK_HOLDUP_CFG_VMIN_MV [] * 16000 ∧ ((w.owner.limited = false ∨ w.tries < 64))) ∧
    (∃ (s : State) (w : RetWrite) (l : List RetWrite), s.mode ≠ .off ∧ s.ret.active = none ∧ s.ret.queue = w :: l ∧ ((w.owner.limited = false ∨ w.tries < 64))) ∧
    (∃ (s : State) (w : RetWrite) (l : List RetWrite), s.mode ≠ .off ∧ s.ret.active = none ∧ s.ret.queue = w :: l ∧ s.pwk.snsBad = false ∧ w.owner.limited = true ∧ 64 ≤ w.tries) ∧
    (∃ (s : State) (w : RetWrite), s.mode ≠ .off ∧ s.ret.active = some w ∧ w.owner = .repair) ∧
    (∃ (s : State) (w : RetWrite), s.mode ≠ .off ∧ s.ret.active = some w) ∧
    (∃ (s : State) (w : RetWrite), s.mode ≠ .off ∧ s.ret.active = some w ∧ w.owner = .root) ∧
    (∃ (s : State) (w : RetWrite) (n : Nat) (l : List (RetWrite × Nat)), s.mode ≠ .off ∧ s.ret.refused = (w, n) :: l ∧ n + 1000000 ≤ s.now) ∧
    (∃ (s : State) (b : List Nat) (g : Nat) (v : Nat) (vb : Nat) (vm : Nat) (e : Nat) (l : List (List Nat × Nat × Option Nat)), s.mode ≠ .off ∧ s.ret.active = none ∧ s.sup.history = (b, g, none) :: l ∧ s.pwk.snsBad = false ∧ vb = v * s.rd PWK_HOLDUP_RATIO_RATIO [] ∧ vm = s.rd PWK_HOLDUP_CFG_VMIN_MV [] * 16000 ∧ vm < vb ∧ e = s.rd PWK_HOLDUP_CFG_CAP_UF [] * (vb * vb - vm * vm) ∧ 3 * 100 * (512 * 10 ^ 12) ≤ 2 * e) ∧
    (∃ (s : State) (b : List Nat) (g : Nat) (l : List (List Nat × Nat × Option Nat)), s.mode ≠ .off ∧ s.ret.active = none ∧ s.sup.history = (b, g, none) :: l ∧ (l.filter fun x => x.2.2.isSome).length < 16) ∧
    (∃ (s : State) (b : List Nat) (g : Nat) (n : Nat) (l : List (List Nat × Nat × Option Nat)), s.mode ≠ .off ∧ s.ret.active = none ∧ s.sup.history = (b, g, some n) :: l ∧ n + 1000000 ≤ s.now ∧ 16 ≤ (l.filter fun x => x.2.2.isSome).length) ∧
    (∃ (s : State) (b : List Nat) (g : Nat) (n : Nat) (v : Nat) (vb : Nat) (vm : Nat) (e : Nat) (l : List (List Nat × Nat × Option Nat)), s.mode ≠ .off ∧ s.ret.active = none ∧ s.sup.history = (b, g, some n) :: l ∧ n + 1000000 ≤ s.now ∧ s.pwk.snsBad = false ∧ vb = v * s.rd PWK_HOLDUP_RATIO_RATIO [] ∧ vm = s.rd PWK_HOLDUP_CFG_VMIN_MV [] * 16000 ∧ vm < vb ∧ e = s.rd PWK_HOLDUP_CFG_CAP_UF [] * (vb * vb - vm * vm) ∧ 3 * 100 * (512 * 10 ^ 12) ≤ 2 * e) ∧
    (∃ (s : State) (v : Nat) (vb : Nat) (vm : Nat) (e : Nat), s.mode ≠ .off ∧ s.ret.active = none ∧ s.sup.repairDirty = true ∧ s.rd CST_STATUS_BANK_TEST [] = 0 ∧ s.pwk.snsBad = false ∧ vb = v * s.rd PWK_HOLDUP_RATIO_RATIO [] ∧ vm = s.rd PWK_HOLDUP_CFG_VMIN_MV [] * 16000 ∧ vm < vb ∧ e = s.rd PWK_HOLDUP_CFG_CAP_UF [] * (vb * vb - vm * vm) ∧ 3 * 1400 * (512 * 10 ^ 12) ≤ 2 * e) ∧
    (∃ (s : State), s.mode ≠ .off ∧ s.ret.active = none ∧ s.sup.repairDirty = true ∧ s.rd CST_STATUS_BANK_TEST [] = 0) ∧
    (∃ (s : State), s.mode ≠ .off) :=
  ⟨⟨wRetainedWrites0S, ({ dRetWrite with need := 100 } : RetWrite), [], 1000000, wRetainedWrites0vb, (wRetainedWrites0S.rd PWK_HOLDUP_CFG_VMIN_MV [] * 16000), wRetainedWrites0E, by decide +kernel, by decide +kernel, by decide +kernel, by decide +kernel, rfl, rfl, by decide +kernel, rfl, by decide +kernel⟩,
   ⟨wRetainedWrites1S, ({ dRetWrite with need := 100 } : RetWrite), [], 0, by decide +kernel⟩,
   ⟨wRetainedWrites2S, dRetWrite, [], by decide +kernel⟩,
   ⟨wRetainedWrites3S, ({ dRetWrite with tries := 64 } : RetWrite), [], by decide +kernel⟩,
   ⟨wRetainedWrites4S, ({ dRetWrite with owner := .repair } : RetWrite), by decide +kernel⟩,
   ⟨wRetainedWrites5S, dRetWrite, by decide +kernel⟩,
   ⟨wRetainedWrites6S, ({ dRetWrite with owner := .root } : RetWrite), by decide +kernel⟩,
   ⟨wRetainedWrites7S, dRetWrite, 0, [], by decide +kernel⟩,
   ⟨wRetainedWrites8S, [7], 0, 1000000, wRetainedWrites8vb, (wRetainedWrites8S.rd PWK_HOLDUP_CFG_VMIN_MV [] * 16000), wRetainedWrites8E, [], by decide +kernel, by decide +kernel, by decide +kernel, by decide +kernel, rfl, rfl, by decide +kernel, rfl, by decide +kernel⟩,
   ⟨wRetainedWrites9S, [], 0, [], by decide +kernel⟩,
   ⟨wRetainedWrites10S, [7], 0, 9, (List.replicate 16 ([8], 0, some 9)), by decide +kernel⟩,
   ⟨wRetainedWrites11S, [7], 0, 9, 1000000, wRetainedWrites11vb, wRetainedWrites11vm, wRetainedWrites11E, [], by decide +kernel, by decide +kernel, by decide +kernel, by decide +kernel, by decide +kernel, rfl, rfl, by decide +kernel, rfl, by decide +kernel⟩,
   ⟨wRetainedWrites12S, 1000000, wRetainedWrites12vb, wRetainedWrites12vm, wRetainedWrites12E, by decide +kernel, by decide +kernel, by decide +kernel, by decide +kernel, by decide +kernel, rfl, rfl, by decide +kernel, rfl, by decide +kernel⟩,
   ⟨wRetainedWrites13S, by decide +kernel⟩,
   ⟨(wR []), by decide +kernel⟩⟩

def wLinkEventsAndHostReads8S : State :=
  ({ wR [(TID_STATUS_SHADOW, [], shFetching)] with tid := { fetch := (64, 640) } } : State)

def wLinkEventsAndHostReads9S : State :=
  ({ wR [] with cph := { lanes := [(2, { job := some (.host dHostJob [] false 0) })] } } : State)

def wLinkEventsAndHostReads11S : State :=
  ({ wR [] with hbr := { pairs := [(5, { tx := some dTxJob })] } } : State)

def wLinkEventsAndHostReads12S : State :=
  ({ wR [] with hbr := { pairs := [(0, { tx := some dTxJob })] } } : State)

theorem witness_LinkEventsAndHostReads :
    (∃ (s : State), s.logicUp = true ∧ s.on HBR_STATUS_LINK_UP [] = true) ∧
    (∃ (s : State), s.logicUp = true ∧ s.on HBR_STATUS_LINK_UP [] = true) ∧
    (∃ (s : State) (c : Instr), s.logicUp = true ∧ s.on HBR_STATUS_LINK_UP [] = true ∧ c ∈ [Instr.hotReset, .pcieLinkDown, .functionLevelReset, .busMasterDisable]) ∧
    (∃ (s : State), s.logicUp = true ∧ s.on HBR_STATUS_LINK_UP [] = true) ∧
    (∃ (s : State), s.logicUp = true ∧ s.on HBR_STATUS_D3 [] = true) ∧
    (∃ (s : State), s.logicUp = true) ∧
    (∃ (s : State), s.logicUp = true) ∧
    (∃ (s : State) (g : Nat) (w : Nat), s.logicUp = true ∧ 1 ≤ g ∧ g ≤ 4 ∧ ((w = 1 ∨ w = 2 ∨ w = 4))) ∧
    (∃ (s : State) (c : Instr), s.logicUp = true ∧ s.shadow = shFetching ∧ c ∈ [Instr.dmaReadCompletion .fetch none, .dmaReadTimeout .fetch]) ∧
    (∃ (s : State) (c : Instr) (l : Nat) (gen : Nat) (j : HostJob) (key : List Nat) (cu : Bool), s.logicUp = true ∧ (s.lane l).job = some (.host j key cu gen) ∧ c ∈ [Instr.dmaReadCompletion (.cipher l) none, .dmaReadTimeout (.cipher l)]) ∧
    (∃ (s : State) (r : ReadReq), s.logicUp = true ∧ (∀ p, r ≠ .ring p)) ∧
    (∃ (s : State) (c : Instr) (p : Nat) (j : TxJob), s.logicUp = true ∧ (s.pair p).tx = some j ∧ j.result = none ∧ ((c = .dmaReadCompletion (.ring p) none ∨ c = .dmaReadTimeout (.ring p) ∧ j.at_ + 10000000 ≤ s.now))) ∧
    (∃ (s : State) (p : Nat) (j : TxJob) (bs : List Nat), s.logicUp = true ∧ (s.pair p).tx = some j ∧ j.result = none ∧ bs.length = j.len) :=
  ⟨⟨(wR [(HBR_STATUS_LINK_UP, [], 1)]), by decide +kernel⟩,
   ⟨(wR [(HBR_STATUS_LINK_UP, [], 1)]), by decide +kernel⟩,
   ⟨(wH []), .functionLevelReset, by decide +kernel⟩,
   ⟨(wR [(HBR_STATUS_LINK_UP, [], 1)]), by decide +kernel⟩,
   ⟨(wR [(HBR_STATUS_D3, [], 1)]), by decide +kernel⟩,
   ⟨(wR []), by decide +kernel⟩,
   ⟨(wR []), by decide +kernel⟩,
   ⟨(wR []), 4, 2, by decide +kernel⟩,
   ⟨wLinkEventsAndHostReads8S, (.dmaReadTimeout .fetch), by decide +kernel⟩,
   ⟨wLinkEventsAndHostReads9S, (.dmaReadTimeout (.cipher 2)), 2, 0, dHostJob, [], false, by decide +kernel⟩,
   ⟨(wR []), .fetch, by decide +kernel, nofun⟩,
   ⟨wLinkEventsAndHostReads11S, (.dmaReadTimeout (.ring 5)), 5, dTxJob, by decide +kernel⟩,
   ⟨wLinkEventsAndHostReads12S, 0, dTxJob, [], by decide +kernel⟩⟩

def wRingsOfTheBridge2S : State :=
  ({ wR [] with cst := { innerIn := [(0, [dQItem])], frames := [(0, { dFrameObj with complete := true })] } } : State)

def wRingsOfTheBridge3S : State :=
  ({ wR [] with hbr := { rx := some { item := dQItem, pair := 0 } }, cst := { frames := [(0, { dFrameObj with zeroed := true })] } } : State)

def wRingsOfTheBridge4S : State :=
  ({ wH [(PG_STATE_ENABLED, [pgHBR], 1), (HBR_RP_CTRL_TX_EN, pairIx 9, 1), (HBR_RP_SIZE_CQ, pairIx 9, 6), (HBR_TX_TAIL_IDX, pairIx 9, 1)] with mode := .run } : State)

def wRingsOfTheBridge4J : TxJob :=
  ({ desc := [0, 0, 0, 0, 0, 0, 0, 0, 60, 0, 0, 0, 0, 0, 0, 0], idx := wRingsOfTheBridge4S.rd HBR_TX_HEAD_IDX (pairIx 9), at_ := wRingsOfTheBridge4S.now } : TxJob)

def wRingsOfTheBridge5S : State :=
  ({ wH [(PG_STATE_ENABLED, [pgHBR], 1), (HBR_RP_CTRL_TX_EN, pairIx 9, 1), (HBR_RP_SIZE_CQ, pairIx 9, 6), (HBR_TX_TAIL_IDX, pairIx 9, 1)] with mode := .run } : State)

def wRingsOfTheBridge5J : TxJob :=
  ({ desc := (List.replicate 16 0), idx := wRingsOfTheBridge5S.rd HBR_TX_HEAD_IDX (pairIx 9), at_ := wRingsOfTheBridge5S.now } : TxJob)

def wRingsOfTheBridge6S : State :=
  ({ wR [] with hbr := { pairs := [(9, { tx := some { dTxJob with result := some dCqEntry } })] } } : State)

def wRingsOfTheBridge11S : State :=
  ({ wR [(HBR_RP_CTRL_VEC_EN, pairIx 9, 1), (HBR_RP_COAL_US, pairIx 9, 10)] with hbr := { pairs := [(9, { fresh := 1, freshAt := some 4999990000 })] } } : State)

theorem witness_RingsOfTheBridge :
    (∃ (s : State), s.logicUp = true ∧ s.hbr.rx = none ∧ s.rxNext = none) ∧
    (∃ (s : State) (j : RxJob), s.logicUp = true ∧ s.hbr.rx = some j) ∧
    (∃ (s : State) (it : QItem), s.logicUp = true ∧ s.hbr.rx = none ∧ s.rxNext = some it) ∧
    (∃ (s : State) (j : RxJob) (o : FrameObj), s.logicUp = true ∧ s.hbr.rx = some j ∧ s.frame? j.item.frame = some o ∧ o.zeroed = true) ∧
    (∃ (s : State) (p : Nat) (desc : List Nat) (j : TxJob), s.logicUp = true ∧ s.txTurn = some p ∧ desc.length = 16 ∧ j = { desc := desc, idx := s.rd HBR_TX_HEAD_IDX (pairIx p), at_ := s.now } ∧ 0 < j.len ∧ j.len ≤ 16383 ∧ ((j.medium < 3 ∨ j.medium = 3 ∧ 14 ≤ j.len))) ∧
    (∃ (s : State) (p : Nat) (desc : List Nat) (j : TxJob), s.logicUp = true ∧ s.txTurn = some p ∧ desc.length = 16 ∧ j = { desc := desc, idx := s.rd HBR_TX_HEAD_IDX (pairIx p), at_ := s.now } ∧ ((j.len = 0 ∨ 16383 < j.len ∨ 3 < j.medium ∨ j.medium = 3 ∧ j.len < 14))) ∧
    (∃ (s : State) (p : Nat) (j : TxJob) (e : CqEntry), s.logicUp = true ∧ p < 16 ∧ (s.pair p).tx = some j ∧ j.result = some e) ∧
    (∃ (s : State) (p : Nat), s.logicUp = true ∧ p < 16) ∧
    (∃ (s : State) (p : Nat), s.logicUp = true ∧ p < 16) ∧
    (∃ (s : State) (p : Nat), s.logicUp = true ∧ p < 16) ∧
    (∃ (s : State) (p : Nat), s.logicUp = true ∧ p < 16) ∧
    (∃ (s : State) (p : Nat) (n : Nat), s.logicUp = true ∧ p < 16 ∧ s.on HBR_RP_CTRL_VEC_EN (pairIx p) = true ∧ (s.pair p).fresh ≠ 0 ∧ (s.pair p).freshAt = some n ∧ n + 1000 * s.rd HBR_RP_COAL_US (pairIx p) ≤ s.now) :=
  ⟨⟨(wR []), by decide +kernel⟩,
   ⟨({ wR [] with hbr := { rx := some dRxJob } } : State), dRxJob, by decide +kernel⟩,
   ⟨wRingsOfTheBridge2S, dQItem, by decide +kernel⟩,
   ⟨wRingsOfTheBridge3S, ({ item := dQItem, pair := 0 } : RxJob), ({ dFrameObj with zeroed := true } : FrameObj), by decide +kernel⟩,
   ⟨wRingsOfTheBridge4S, 9, [0, 0, 0, 0, 0, 0, 0, 0, 60, 0, 0, 0, 0, 0, 0, 0], wRingsOfTheBridge4J, by decide +kernel, by decide +kernel, by decide +kernel, rfl, by decide +kernel⟩,
   ⟨wRingsOfTheBridge5S, 9, (List.replicate 16 0), wRingsOfTheBridge5J, by decide +kernel, by decide +kernel, by decide +kernel, rfl, by decide +kernel⟩,
   ⟨wRingsOfTheBridge6S, 9, ({ dTxJob with result := some dCqEntry } : TxJob), dCqEntry, by decide +kernel⟩,
   ⟨(wR []), 0, by decide +kernel⟩,
   ⟨(wR []), 0, by decide +kernel⟩,
   ⟨(wR []), 0, by decide +kernel⟩,
   ⟨(wR []), 0, by decide +kernel⟩,
   ⟨wRingsOfTheBridge11S, 9, 4999990000, by decide +kernel⟩⟩

def wFailedFetchHaltsItsDirection2S : State :=
  ({ wR [(HBR_RP_STAT_RX_HALT, [0, 0], 1)] with cst := { innerIn := [(0, [dQItem])], frames := [(0, { dFrameObj with complete := true })] } } : State)

theorem witness_FailedFetchHaltsItsDirection :
    (∃ (s : State) (p : Nat), s.logicUp = true ∧ p < 16 ∧ s.on HBR_RP_CTRL_TX_EN (pairIx p) = true) ∧
    (∃ (s : State) (p : Nat), s.logicUp = true ∧ p < 16 ∧ s.on HBR_RP_CTRL_RX_EN (pairIx p) = true) ∧
    (∃ (s : State) (it : QItem), s.logicUp = true ∧ s.hbr.rx = none ∧ s.rxNext = some it ∧ s.on HBR_RP_STAT_RX_HALT (pairIx (s.rxPair it.r)) = true) ∧
    (∃ (s : State) (p : Nat), s.logicUp = true ∧ p < 16) ∧
    (∃ (s : State) (p : Nat), s.logicUp = true ∧ p < 16) :=
  ⟨⟨(wR [(HBR_RP_CTRL_TX_EN, pairIx 15, 1)]), 15, by decide +kernel⟩,
   ⟨(wR [(HBR_RP_CTRL_RX_EN, pairIx 15, 1)]), 15, by decide +kernel⟩,
   ⟨wFailedFetchHaltsItsDirection2S, dQItem, by decide +kernel⟩,
   ⟨(wR []), 0, by decide +kernel⟩,
   ⟨(wR []), 0, by decide +kernel⟩⟩

def wSemaphoresAcquireAndRelease3S : State :=
  (wR [(HBR_SEM_OWNER, [0], Master.owner (Master.other .host))])

theorem witness_SemaphoresAcquireAndRelease :
    (∃ (s : State) (n : Nat), s.logicUp = true ∧ n < 32 ∧ s.rd HBR_SEM_OWNER [n] = 0) ∧
    (∃ (s : State) (n : Nat), s.logicUp = true ∧ n < 32 ∧ s.rd HBR_SEM_OWNER [n] ≠ 0) ∧
    (∃ (s : State) (n : Nat) (m : Master), s.logicUp = true ∧ n < 32 ∧ s.rd HBR_SEM_OWNER [n] = Master.owner m) ∧
    (∃ (s : State) (n : Nat) (m : Master), s.logicUp = true ∧ n < 32 ∧ s.rd HBR_SEM_OWNER [n] = Master.owner (Master.other m)) ∧
    (∃ (s : State) (n : Nat), s.logicUp = true ∧ n < 32 ∧ s.rd HBR_SEM_OWNER [n] = 0) :=
  ⟨⟨(wR [(HBR_SEM_OWNER, [0], 0)]), 0, by decide +kernel⟩,
   ⟨(wR [(HBR_SEM_OWNER, [0], 1)]), 0, by decide +kernel⟩,
   ⟨(wR [(HBR_SEM_OWNER, [0], Master.owner .host)]), 0, .host, by decide +kernel⟩,
   ⟨wSemaphoresAcquireAndRelease3S, 0, .host, by decide +kernel⟩,
   ⟨(wR [(HBR_SEM_OWNER, [0], 0)]), 0, by decide +kernel⟩⟩

def wSemaphoreTiesAlternate0S : State :=
  ({ wS [] with mode := .start, pwk := { coreEn := true } } : State)

theorem witness_SemaphoreTiesAlternate :
    (∃ (s : State), s.mode = .start ∧ s.pwk.coreEn = true ∧ s.logicUp = false) ∧
    (∃ (s : State) (n : Nat) (k : Nat), s.logicUp = true ∧ n < 32 ∧ k < 32 ∧ s.rd HBR_SEM_OWNER [n] = 0) ∧
    (∃ (s : State) (n : Nat), s.logicUp = true ∧ n < 32) :=
  ⟨⟨wSemaphoreTiesAlternate0S, by decide +kernel⟩,
   ⟨(wR [(HBR_SEM_OWNER, [0], 0)]), 0, 0, by decide +kernel⟩,
   ⟨(wR []), 0, by decide +kernel⟩⟩

def wSemaphoresTimeOut0S : State :=
  ({ wR [(HBR_SEM_TMO_MS, [], 1)] with hbr := { semAt := [(31, 9)] } } : State)

def wSemaphoresTimeOut1S : State :=
  ({ wR [(HBR_SEM_TMO_MS, [], 1)] with hbr := { semAt := [(31, 4999000000)] } } : State)

theorem witness_SemaphoresTimeOut :
    (∃ (s : State) (n : Nat) (a : Nat), s.logicUp = true ∧ n < 32 ∧ s.rd HBR_SEM_TMO_MS [] ≠ 0 ∧ SMap.find? s.hbr.semAt n = some a ∧ a + 1000000 * s.rd HBR_SEM_TMO_MS [] < s.now) ∧
    (∃ (s : State) (n : Nat) (a : Nat), SMap.find? s.hbr.semAt n = some a ∧ s.now ≤ a + 1000000 * s.rd HBR_SEM_TMO_MS []) ∧
    (∃ (s : State), s.rd HBR_SEM_TMO_MS [] = 0) :=
  ⟨⟨wSemaphoresTimeOut0S, 31, 9, by decide +kernel⟩,
   ⟨wSemaphoresTimeOut1S, 31, 4999000000, by decide +kernel⟩,
   ⟨(wR [(HBR_SEM_TMO_MS, [], 0)]), by decide +kernel⟩⟩

def wSegmentsGoToSleep9S : State :=
  ({ wR [(PWK_FW_MS, [], 1), (PWK_SEG_STATE_STATE, [0 / 8, 0 % 8], 0)] with pwk := { segs := [(0, { fwFrom := some 0 })] } } : State)

theorem witness_SegmentsGoToSleep :
    (∃ (s : State), ((s.mode = .run ∨ s.mode = .entering))) ∧
    (∃ (s : State) (r : Nat), ((s.mode = .run ∨ s.mode = .entering)) ∧ r < 2) ∧
    (∃ (s : State) (c : Instr), ((s.mode = .start ∨ s.mode = .sleep)) ∧ c ∈ [Instr.pwkSleep, .sleepNorth, .sleepSouth]) ∧
    (∃ (s : State) (q : Nat), s.mode ≠ .off ∧ q < 56 ∧ s.segment q = 0) ∧
    (∃ (s : State) (q : Nat), s.mode ≠ .off ∧ ((56 ≤ q ∨ s.segment q ≠ 0))) ∧
    (∃ (s : State) (q : Nat), s.logicUp = true ∧ isT1Q q = true ∧ s.segment q = 0 ∧ bitOf (s.rd PWK_TC10_ACCEPT []) (q - 48) = 1) ∧
    (∃ (s : State) (q : Nat), s.logicUp = true ∧ isT1Q q = true ∧ s.segment q = 0 ∧ bitOf (s.rd PWK_TC10_ACCEPT []) (q - 48) = 0) ∧
    (∃ (s : State) (q : Nat), s.logicUp = true ∧ isT1Q q = true ∧ s.segment q = 1) ∧
    (∃ (s : State) (q : Nat) (c : Instr), s.logicUp = true ∧ isT1Q q = true ∧ s.segment q = 1 ∧ ((c = .tc10SleepAck q false ∨ c = .tc10SleepTimeout q ∧ (s.seg q).tc10Ack = false ∧ (s.seg q).tc10At + s.rd PWK_TC10_TMO_MS [] * 1000000 ≤ s.now))) ∧
    (∃ (s : State) (q : Nat) (n : Nat), s.mode ≠ .off ∧ q < 56 ∧ s.segment q = 0 ∧ s.rd PWK_FW_MS [] ≠ 0 ∧ s.quayMaskBit PWK_FW_MASK_LO_MASK PWK_FW_MASK_HI_MASK q = true ∧ (s.seg q).fwFrom = some n ∧ n + s.rd PWK_FW_MS [] * 1000000 ≤ s.now) ∧
    (∃ (s : State) (q : Nat), s.logicUp = true ∧ q < 56 ∧ s.segment q = 1) :=
  ⟨⟨(wR []), by decide +kernel⟩,
   ⟨(wR []), 0, by decide +kernel⟩,
   ⟨({ wR [] with mode := .sleep } : State), .sleepNorth, by decide +kernel⟩,
   ⟨(wR [(PWK_SEG_STATE_STATE, [0 / 8, 0 % 8], 0)]), 0, by decide +kernel⟩,
   ⟨(wR []), 56, by decide +kernel⟩,
   ⟨(wR [(PWK_SEG_STATE_STATE, [48 / 8, 48 % 8], 0)]), 48, by decide +kernel⟩,
   ⟨(wR [(PWK_TC10_ACCEPT, [], 0)]), 48, by decide +kernel⟩,
   ⟨(wR [(PWK_SEG_STATE_STATE, [48 / 8, 48 % 8], 1)]), 48, by decide +kernel⟩,
   ⟨(wR [(PWK_SEG_STATE_STATE, [48 / 8, 48 % 8], 1)]), 48, (.tc10SleepAck 48 false), by decide +kernel⟩,
   ⟨wSegmentsGoToSleep9S, 0, 0, by decide +kernel⟩,
   ⟨(wR [(PWK_SEG_STATE_STATE, [0 / 8, 0 % 8], 1)]), 0, by decide +kernel⟩⟩

def wCommitPointsAndDwell3S : State :=
  ({ wR [(PWK_SEG_STATE_STATE, [0 / 8, 0 % 8], 2)] with pwk := { segs := [(0, { held := true })] } } : State)

def wCommitPointsAndDwell4S : State :=
  ({ wR [(PWK_SEG_STATE_STATE, [0, 3], 2), (PWK_DWELL_MS, [], 1)] with mode := .sleep, pwk := { segs := [(3, { held := true })], pkgAt := 5000000000 } } : State)

def wCommitPointsAndDwell5S : State :=
  ({ wR [(PWK_SEG_STATE_STATE, [0, 3], 2), (PWK_DWELL_MS, [], 1)] with pwk := { segs := [(3, { sleptAt := 4999000001 })] } } : State)

def wCommitPointsAndDwell7S : State :=
  (wR ([(PWK_STATUS_NORTH, [], 1)] ++ (List.range 56).map fun q => (PWK_SEG_STATE_STATE, [q / 8, q % 8], 2)))

def wCommitPointsAndDwell8S : State :=
  ({ wR [(PWK_STATUS_NORTH, [], 2), (PWK_STATUS_SOUTH, [], 2)] with mode := .entering } : State)

def wCommitPointsAndDwell9S : State :=
  ({ wR [] with mode := .sleep, pwk := { pkgWake := true } } : State)

theorem witness_CommitPointsAndDwell :
    (∃ (s : State) (q : Nat), s.logicUp = true ∧ q < 56 ∧ s.segment q = 1 ∧ s.drained q = true) ∧
    (∃ (s : State) (q : Nat), s.segment q = 1 ∧ s.drained q = false) ∧
    (∃ (s : State) (q : Nat), s.mode ≠ .off ∧ q < 56 ∧ s.segment q = 2 ∧ (s.seg q).sleptAt + s.rd PWK_DWELL_MS [] * 1000000 ≤ s.now ∧ (s.seg q).held = false) ∧
    (∃ (s : State) (q : Nat), s.mode ≠ .off ∧ s.mode ≠ .sleep ∧ q < 56 ∧ s.segment q = 2 ∧ (s.seg q).sleptAt + s.rd PWK_DWELL_MS [] * 1000000 ≤ s.now ∧ (s.seg q).held = true) ∧
    (∃ (s : State) (q : Nat), s.mode = .sleep ∧ q < 56 ∧ s.segment q = 2 ∧ (s.seg q).sleptAt + s.rd PWK_DWELL_MS [] * 1000000 ≤ s.now ∧ (s.seg q).held = true ∧ s.now < s.pwk.pkgAt + s.rd PWK_DWELL_MS [] * 1000000) ∧
    (∃ (s : State) (q : Nat), s.mode ≠ .off ∧ s.segment q = 2 ∧ s.now < (s.seg q).sleptAt + s.rd PWK_DWELL_MS [] * 1000000) ∧
    (∃ (s : State) (q : Nat), s.logicUp = true ∧ q < 56 ∧ s.segment q = 4 ∧ (s.quay q).resume = false) ∧
    (∃ (s : State) (r : Nat), s.logicUp = true ∧ r ≤ 1 ∧ s.regionState r = 1 ∧ ((∀ q ∈ regionSegments r, s.segment q = 2 ∨ s.segment q = 3))) ∧
    (∃ (s : State), s.logicUp = true ∧ s.mode = .entering ∧ s.regionState 0 = 2 ∧ s.regionState 1 = 2 ∧ s.retIdle = true) ∧
    (∃ (s : State), s.mode = .sleep ∧ s.pwk.pkgWake = true ∧ s.pwk.pkgAt + s.rd PWK_DWELL_MS [] * 1000000 ≤ s.now) :=
  ⟨⟨(wR [(PWK_SEG_STATE_STATE, [0 / 8, 0 % 8], 1)]), 0, by decide +kernel⟩,
   ⟨(wR [(PWK_SEG_STATE_STATE, [48 / 8, 48 % 8], 1)]), 48, by decide +kernel⟩,
   ⟨(wR [(PWK_SEG_STATE_STATE, [0 / 8, 0 % 8], 2)]), 0, by decide +kernel⟩,
   ⟨wCommitPointsAndDwell3S, 0, by decide +kernel⟩,
   ⟨wCommitPointsAndDwell4S, 3, by decide +kernel⟩,
   ⟨wCommitPointsAndDwell5S, 3, by decide +kernel⟩,
   ⟨(wR [(PWK_SEG_STATE_STATE, [0 / 8, 0 % 8], 4)]), 0, by decide +kernel⟩,
   ⟨wCommitPointsAndDwell7S, 0, by decide +kernel⟩,
   ⟨wCommitPointsAndDwell8S, by decide +kernel⟩,
   ⟨wCommitPointsAndDwell9S, by decide +kernel⟩⟩

def wWakesAndTheirRecords0S : State :=
  ({ wR [(PWK_STATUS_ENTERING, [], 1)] with mode := .entering } : State)

def wWakesAndTheirRecords2S : State :=
  ({ wR [(PWK_DWELL_MS, [], 1)] with mode := .sleep, pwk := { pkgAt := 4999000001 } } : State)

def wWakesAndTheirRecords7S : State :=
  (wR [(PWK_PIN_CFG_EN, [3], 1), (PWK_PIN_CFG_EDGE, [3], 1), (PWK_PIN_CFG_TARGET, [3], 3)])

def wWakesAndTheirRecords8S : State :=
  ({ wR [(PWK_PIN_CFG_EN, [3], 1), (PWK_PIN_CFG_EDGE, [3], 1), (PWK_PIN_CFG_TARGET, [3], 3)] with pwk := { wakes := { items := [dWakeRec, { dWakeRec with kind := 4, clock := 80000000 }] } } } : State)

def wWakesAndTheirRecords8X : WakeRec :=
  ({ dWakeRec with kind := 4, clock := 80000000 } : WakeRec)

def wWakesAndTheirRecords9S : State :=
  ({ wR [(PWK_TIMER_MS, [], 1)] with mode := .sleep } : State)

def wWakesAndTheirRecords11S : State :=
  ({ wR [] with pwk := { wakes := { items := [dWakeRec] } } } : State)

theorem witness_WakesAndTheirRecords :
    (∃ (s : State), s.mode = .entering ∧ s.on PWK_STATUS_ENTERING [] = true) ∧
    (∃ (s : State), s.mode = .sleep ∧ s.pwk.pkgAt + s.rd PWK_DWELL_MS [] * 1000000 ≤ s.now) ∧
    (∃ (s : State), s.mode = .sleep ∧ s.now < s.pwk.pkgAt + s.rd PWK_DWELL_MS [] * 1000000) ∧
    (∃ (s : State) (r : Nat), ((s.mode = .run ∨ s.mode = .entering)) ∧ r < 2) ∧
    (∃ (s : State) (q : Nat), s.mode ≠ .off ∧ s.mode ≠ .sleep ∧ q < 56 ∧ 1 ≤ s.segment q ∧ s.segment q ≤ 3) ∧
    (∃ (s : State) (q : Nat), s.mode ≠ .off ∧ ((56 ≤ q ∨ s.segment q = 0 ∨ 4 ≤ s.segment q))) ∧
    (∃ (s : State) (n : Nat) (l : Nat), s.mode ≠ .off ∧ n < 4 ∧ l ≤ 1 ∧ ((s.on PWK_PIN_CFG_EN [n] = false ∨ bitOf (s.rd PWK_STATUS_PINS []) n = l ∨ bitOf (s.rd PWK_PIN_CFG_EDGE [n]) (1 - l) = 0))) ∧
    (∃ (s : State) (n : Nat) (l : Nat), s.mode ≠ .off ∧ n < 4 ∧ l ≤ 1 ∧ s.on PWK_PIN_CFG_EN [n] = true ∧ bitOf (s.rd PWK_STATUS_PINS []) n ≠ l ∧ bitOf (s.rd PWK_PIN_CFG_EDGE [n]) (1 - l) = 1 ∧ s.rd PWK_PIN_CFG_TARGET [n] = 3) ∧
    (∃ (s : State) (n : Nat) (l : Nat) (a : List WakeRec) (x : WakeRec), s.mode ≠ .off ∧ n < 4 ∧ l ≤ 1 ∧ s.on PWK_PIN_CFG_EN [n] = true ∧ bitOf (s.rd PWK_STATUS_PINS []) n ≠ l ∧ bitOf (s.rd PWK_PIN_CFG_EDGE [n]) (1 - l) = 1 ∧ s.rd PWK_PIN_CFG_TARGET [n] = 3 ∧ s.pwk.wakes = { items := a ++ [x] } ∧ a.length < 31 ∧ (∀ y ∈ a, y.clock ≠ s.aonClock) ∧ x.clock = s.aonClock ∧ ((x.kind = 2 ∨ x.kind = 3 ∨ x.kind = 4))) ∧
    (∃ (s : State), s.mode = .sleep ∧ s.rd PWK_TIMER_MS [] ≠ 0 ∧ s.pwk.pkgAt + s.rd PWK_TIMER_MS [] * 1000000 ≤ s.now ∧ s.pwk.pkgAt + s.rd PWK_DWELL_MS [] * 1000000 ≤ s.now) ∧
    (∃ (s : State), s.mode ≠ .off ∧ s.pwk.wakes = {}) ∧
    (∃ (s : State) (w : WakeRec) (l : List WakeRec), s.mode ≠ .off ∧ s.pwk.wakes.items = w :: l) :=
  ⟨⟨wWakesAndTheirRecords0S, by decide +kernel⟩,
   ⟨({ wR [] with mode := .sleep } : State), by decide +kernel⟩,
   ⟨wWakesAndTheirRecords2S, by decide +kernel⟩,
   ⟨(wR []), 0, by decide +kernel⟩,
   ⟨(wR [(PWK_SEG_STATE_STATE, [0, 3], 2)]), 3, by decide +kernel⟩,
   ⟨(wR []), 0, by decide +kernel⟩,
   ⟨(wR []), 0, 0, by decide +kernel⟩,
   ⟨wWakesAndTheirRecords7S, 3, 1, by decide +kernel⟩,
   ⟨wWakesAndTheirRecords8S, 3, 1, [dWakeRec], wWakesAndTheirRecords8X, by decide +kernel⟩,
   ⟨wWakesAndTheirRecords9S, by decide +kernel⟩,
   ⟨(wR []), by decide +kernel⟩,
   ⟨wWakesAndTheirRecords11S, dWakeRec, [], by decide +kernel⟩⟩

def wPowerAndStart2S : State :=
  ({ wR [] with mode := .start, pwk := { vbat := true } } : State)

def wPowerAndStart3S : State :=
  ({ wR [] with mode := .start, pwk := { powered := true } } : State)

def wPowerAndStart4S : State :=
  ({ wS [] with mode := .start, pwk := { coreEn := true } } : State)

def wPowerAndStart5S : State :=
  ({ wS [(DEV_STATUS_LOGIC_UP, [], 1)] with mode := .start } : State)

def wPowerAndStart8S : State :=
  ({ wR [] with mode := .off, pwk := { vbat := true } } : State)

theorem witness_PowerAndStart :
    (∃ (s : State), s.pwk.vbat = false ∧ s.pwk.rstLow = false) ∧
    (∃ (s : State), s.pwk.vbat = false ∧ s.pwk.rstLow = true) ∧
    (∃ (s : State), s.mode = .start ∧ s.pwk.vbat = true ∧ s.pwk.powered = false) ∧
    (∃ (s : State), s.mode = .start ∧ s.pwk.powered = true) ∧
    (∃ (s : State), s.mode = .start ∧ s.pwk.coreEn = true ∧ s.logicUp = false) ∧
    (∃ (s : State), s.logicUp = true ∧ s.on DEV_STATUS_RESTORE_DONE [] = false ∧ s.mode = .start) ∧
    (∃ (s : State), s.mode ≠ .off ∧ s.ret.active = none) ∧
    (∃ (s : State), s.mode = .off) ∧
    (∃ (s : State), s.mode = .off ∧ s.pwk.vbat = true) ∧
    (∃ (s : State), ((s.mode ≠ .off ∨ s.pwk.vbat = false))) ∧
    (∃ (s : State), s.pwk.vbat = true ∧ s.ret.active = none) ∧
    (∃ (s : State), s.pwk.vbat = false) :=
  ⟨⟨(wR []), by decide +kernel⟩,
   ⟨({ wR [] with pwk := { rstLow := true } } : State), by decide +kernel⟩,
   ⟨wPowerAndStart2S, by decide +kernel⟩,
   ⟨wPowerAndStart3S, by decide +kernel⟩,
   ⟨wPowerAndStart4S, by decide +kernel⟩,
   ⟨wPowerAndStart5S, by decide +kernel⟩,
   ⟨(wR []), by decide +kernel⟩,
   ⟨({ wR [] with mode := .off } : State), by decide +kernel⟩,
   ⟨wPowerAndStart8S, by decide +kernel⟩,
   ⟨(wR []), by decide +kernel⟩,
   ⟨({ wR [] with pwk := { vbat := true } } : State), by decide +kernel⟩,
   ⟨(wR []), by decide +kernel⟩⟩

def wSlotCommitsAndLoads0S : State :=
  (wR [(RET_STATUS_COMMIT_BUSY, [], 1), (RET_STATUS_LOAD_OPEN, [], 1)])

def wSlotCommitsAndLoads2S : State :=
  ({ wR [] with tid := { hasActive := true, active := wM [(0x28, 4, 0x380040)] } } : State)

def wSlotCommitsAndLoads3S : State :=
  ({ wR [] with ret := { commit := some { dCommitSt with snapped := true } } } : State)

def wSlotCommitsAndLoads4S : State :=
  ({ wR [] with ret := { commit := some dCommitSt } } : State)

def wSlotCommitsAndLoads6S : State :=
  (wR [(RET_STATUS_COMMIT_BUSY, [], 1), (RET_STATUS_LOAD_OPEN, [], 1)])

def wSlotCommitsAndLoads7S : State :=
  ({ wR [] with ret := { load := some { target := 0, header := List.replicate 48 0 ++ leBytes 4 (crc32c (List.replicate 48 0)) } } } : State)

def wSlotCommitsAndLoads7L : LoadSt :=
  ({ target := 0, header := List.replicate 48 0 ++ leBytes 4 (crc32c (List.replicate 48 0)) } : LoadSt)

def wSlotCommitsAndLoads13A : Nat :=
  (4 * ({ wR [] with ret := { load := some dLoadSt } } : State).rd RET_LOAD_ADDR_ADDR [])

theorem witness_SlotCommitsAndLoads :
    (∃ (s : State), s.mode ≠ .off ∧ ((s.on RET_STATUS_COMMIT_BUSY [] = true ∨ s.on RET_STATUS_LOAD_OPEN [] = true ∨ s.logicUp = false))) ∧
    (∃ (s : State), s.mode ≠ .off ∧ s.on RET_STATUS_COMMIT_BUSY [] = false ∧ s.on RET_STATUS_LOAD_OPEN [] = false ∧ s.logicUp = true ∧ ((s.tid.hasActive = false ∨ imgLen s.tid.active ≤ 0x380000))) ∧
    (∃ (s : State), s.mode ≠ .off ∧ s.on RET_STATUS_COMMIT_BUSY [] = false ∧ s.on RET_STATUS_LOAD_OPEN [] = false ∧ s.logicUp = true ∧ s.tid.hasActive = true ∧ 0x380000 < imgLen s.tid.active) ∧
    (∃ (s : State) (c : CommitSt), s.mode ≠ .off ∧ s.ret.commit = some c ∧ c.snapped = true ∧ c.left = [] ∧ s.commitWrites = false) ∧
    (∃ (s : State) (c : CommitSt), s.mode ≠ .off ∧ s.ret.commit = some c ∧ ((c.snapped = false ∨ c.left ≠ [] ∨ s.commitWrites = true))) ∧
    (∃ (s : State), s.mode ≠ .off ∧ s.on RET_STATUS_COMMIT_BUSY [] = false ∧ s.on RET_STATUS_LOAD_OPEN [] = false) ∧
    (∃ (s : State), s.mode ≠ .off ∧ ((s.on RET_STATUS_COMMIT_BUSY [] = true ∨ s.on RET_STATUS_LOAD_OPEN [] = true))) ∧
    (∃ (s : State) (l : LoadSt), s.mode ≠ .off ∧ s.ret.load = some l ∧ l.sealing = 0 ∧ l.piece = [] ∧ s.loadWrites = false ∧ s.slotCrcOk l.target (padTo 64 l.header) = true) ∧
    (∃ (s : State) (l : LoadSt), s.mode ≠ .off ∧ s.ret.load = some l ∧ l.sealing = 0 ∧ l.piece = [] ∧ s.loadWrites = false ∧ s.slotCrcOk l.target (padTo 64 l.header) = false) ∧
    (∃ (s : State), s.mode ≠ .off ∧ s.openLoad = none) ∧
    (∃ (s : State) (l : LoadSt), s.mode ≠ .off ∧ s.ret.load = some l) ∧
    (∃ (s : State), s.mode ≠ .off ∧ s.ret.load = none) ∧
    (∃ (s : State), s.mode ≠ .off ∧ s.openLoad = none) ∧
    (∃ (s : State) (l : LoadSt) (a : Nat), s.mode ≠ .off ∧ s.ret.load = some l ∧ l.sealing = 0 ∧ l.piece = [] ∧ a = 4 * s.rd RET_LOAD_ADDR_ADDR [] ∧ a + 4 ≤ slotSize ∧ (a + 4) % 65536 ≠ 0) :=
  ⟨⟨wSlotCommitsAndLoads0S, by decide +kernel⟩,
   ⟨(wR []), by decide +kernel⟩,
   ⟨wSlotCommitsAndLoads2S, by decide +kernel⟩,
   ⟨wSlotCommitsAndLoads3S, ({ dCommitSt with snapped := true } : CommitSt), by decide +kernel⟩,
   ⟨wSlotCommitsAndLoads4S, dCommitSt, by decide +kernel⟩,
   ⟨(wR []), by decide +kernel⟩,
   ⟨wSlotCommitsAndLoads6S, by decide +kernel⟩,
   ⟨wSlotCommitsAndLoads7S, wSlotCommitsAndLoads7L, by decide +kernel⟩,
   ⟨({ wR [] with ret := { load := some dLoadSt } } : State), dLoadSt, by decide +kernel⟩,
   ⟨(wR []), by decide +kernel⟩,
   ⟨({ wR [] with ret := { load := some dLoadSt } } : State), dLoadSt, by decide +kernel⟩,
   ⟨(wR []), by decide +kernel⟩,
   ⟨(wR []), by decide +kernel⟩,
   ⟨({ wR [] with ret := { load := some dLoadSt } } : State), dLoadSt, wSlotCommitsAndLoads13A, by decide +kernel, by decide +kernel, by decide +kernel, by decide +kernel, rfl, by decide +kernel⟩⟩

def wErrorRecords3S : State :=
  ({ wR [(SUP_ESC_CEIL, [], 1)] with errLines := [{ dErrReport with page := 5, level := 2 }], sup := { recs := [(9, { dSupRec with page := 5, level := 2 })] } } : State)

def wErrorRecords4S : State :=
  ({ wR [] with sup := { recs := [(9, dSupRec)] } } : State)

def wErrorRecords6S : State :=
  ({ wR [(SUP_ESC_AUTO_ACK_MS, [], 1)] with sup := { recs := [(0, dSupRec)] } } : State)

def wErrorRecords9S : State :=
  ({ wR [] with sup := { recs := [(9, dSupRec)], unread := { items := [9] } } } : State)

def wErrorRecords10S : State :=
  ({ wR [] with sup := { recs := [(9, dSupRec)] } } : State)

theorem witness_ErrorRecords :
    (∃ (s : State), s.mode ≠ .off ∧ s.errLines = []) ∧
    (∃ (s : State), s.mode ≠ .off) ∧
    (∃ (s : State) (e : ErrReport) (l : List ErrReport), s.mode ≠ .off ∧ s.errLines = e :: l ∧ s.openRec e.page (errSub e) = none ∧ s.freeIds ≠ [] ∧ actsItself e = false) ∧
    (∃ (s : State) (e : ErrReport) (l : List ErrReport) (id : Nat) (r : SupRec), s.mode ≠ .off ∧ s.errLines = e :: l ∧ s.openRec e.page (errSub e) = some (id, r) ∧ e.level ≤ r.level ∧ s.rd SUP_ESC_CEIL [] ≤ r.level ∧ actsItself e = false) ∧
    (∃ (s : State) (n : Nat) (r : SupRec), s.mode ≠ .off ∧ SMap.find? s.sup.recs (n % 64) = some r ∧ r.opened = true) ∧
    (∃ (s : State) (n : Nat), s.mode ≠ .off ∧ SMap.find? s.sup.recs (n % 64) = none) ∧
    (∃ (s : State) (n : Nat) (r : SupRec), s.mode ≠ .off ∧ s.rd SUP_ESC_AUTO_ACK_MS [] ≠ 0 ∧ SMap.find? s.sup.recs n = some r ∧ r.opened = true ∧ r.lastAt + s.rd SUP_ESC_AUTO_ACK_MS [] * 1000000 ≤ s.now ∧ ((∀ p ∈ s.sup.recs, p.2.opened = true → p.2.lastAt + s.rd SUP_ESC_AUTO_ACK_MS [] * 1000000 ≤ s.now → p.1 = n))) ∧
    (∃ (s : State), s.mode ≠ .off ∧ ((∀ p ∈ s.sup.recs, p.2.opened = true → s.now < p.2.lastAt + s.rd SUP_ESC_AUTO_ACK_MS [] * 1000000))) ∧
    (∃ (s : State), s.mode ≠ .off ∧ s.sup.unread = {}) ∧
    (∃ (s : State) (n : Nat) (r : SupRec) (l : List Nat), s.mode ≠ .off ∧ s.sup.unread.items = n :: l ∧ SMap.find? s.sup.recs n = some r) ∧
    (∃ (s : State) (n : Nat) (r : SupRec), s.mode ≠ .off ∧ SMap.find? s.sup.recs (n % 64) = some r) ∧
    (∃ (s : State) (n : Nat), s.mode ≠ .off ∧ SMap.find? s.sup.recs (n % 64) = none) :=
  ⟨⟨({ wR [] with errLines := [] } : State), by decide +kernel⟩,
   ⟨(wR []), by decide +kernel⟩,
   ⟨({ wR [] with errLines := dErrReport :: [] } : State), dErrReport, [], by decide +kernel⟩,
   ⟨wErrorRecords3S, ({ dErrReport with page := 5, level := 2 } : ErrReport), [], 9, ({ dSupRec with page := 5, level := 2 } : SupRec), by decide +kernel⟩,
   ⟨wErrorRecords4S, 9, dSupRec, by decide +kernel⟩,
   ⟨(wR []), 0, by decide +kernel⟩,
   ⟨wErrorRecords6S, 0, dSupRec, by decide +kernel⟩,
   ⟨(wR []), by decide +kernel⟩,
   ⟨(wR []), by decide +kernel⟩,
   ⟨wErrorRecords9S, 9, dSupRec, [], by decide +kernel⟩,
   ⟨wErrorRecords10S, 9, dSupRec, by decide +kernel⟩,
   ⟨(wR []), 0, by decide +kernel⟩⟩

def wResetsAreAskedAndDone2S : State :=
  ({ wR [] with sup := { resets := [{ scope := .cluster 5, asked := [.mgp], clock := 80000000 }] } } : State)

def wResetsAreAskedAndDone2Y : ResetReq :=
  ({ scope := .cluster 5, asked := [.mgp], clock := 80000000 } : ResetReq)

def wResetsAreAskedAndDone5S : State :=
  ({ wR [] with sup := { resets := [{ scope := .package }], caller := .mgp } } : State)

def wResetsAreAskedAndDone7S : State :=
  ({ wR [] with sup := { resets := dResetReq :: [] } } : State)

def wResetsAreAskedAndDone8S : State :=
  ({ wS [] with sup := { resets := [{ scope := .unit pgTID }] } } : State)

def wResetsAreAskedAndDone9S : State :=
  ({ wR [] with sup := { resets := [{ scope := .package }], history := [([7], 0, none)] } } : State)

def wResetsAreAskedAndDone10S : State :=
  (wR [(SUP_CTRL_REGION_RETRY_MS, [], 1), (SUP_STATUS_SAFE_NORTH, [], 1)])

def wResetsAreAskedAndDone11S : State :=
  (wR [(SUP_CTRL_REGION_RETRY_MS, [], 1), (SUP_STATUS_SAFE_SOUTH, [], 1)])

def wResetsAreAskedAndDone12S : State :=
  (wR [(SUP_CTRL_SAFE_RESET_MS, [], 1), (SUP_STATUS_DIE_SAFE, [], 1)])

theorem witness_ResetsAreAskedAndDone :
    (∃ (s : State) (m : Master) (v : Word) (c : Instr), s.reaches m = true ∧ s.answers pgSUP = true ∧ (v.toNat / 2 ^ 28, c) ∈ [(1, Instr.unitReset), (2, .clusterReset), (3, .regionReset), (4, .dieReset), (5, .packageReset)]) ∧
    (∃ (s : State) (c : Instr) (m : Master) (x : Scope) (n : Nat), s.mode ≠ .off ∧ m = s.sup.caller ∧ ((c = .clusterReset ∧ s.rd SUP_CMD_ARG_TARGET [] < 8 ∧ x = .cluster (s.rd SUP_CMD_ARG_TARGET []) ∧ n = 0 ∨ c = .regionReset ∧ s.rd SUP_CMD_ARG_TARGET [] < 2 ∧ x = .region (s.rd SUP_CMD_ARG_TARGET []) ∧ n = 0 ∨ c = .dieReset ∧ x = .die ∧ n = 1 ∨ c = .unitReset ∧ n = 0 ∧ ∃ pg, pageOfId (s.rd SUP_CMD_ARG_TARGET []) = some pg ∧ x = .unit pg)) ∧ (∀ y ∈ s.sup.resets, s.sameClock x (some m) y = false)) ∧
    (∃ (s : State) (c : Instr) (m : Master) (x : Scope) (n : Nat) (y : ResetReq), s.mode ≠ .off ∧ m = s.sup.caller ∧ ((c = .clusterReset ∧ s.rd SUP_CMD_ARG_TARGET [] < 8 ∧ x = .cluster (s.rd SUP_CMD_ARG_TARGET []) ∧ n = 0 ∨ c = .regionReset ∧ s.rd SUP_CMD_ARG_TARGET [] < 2 ∧ x = .region (s.rd SUP_CMD_ARG_TARGET []) ∧ n = 0 ∨ c = .dieReset ∧ x = .die ∧ n = 1 ∨ c = .unitReset ∧ n = 0 ∧ ∃ pg, pageOfId (s.rd SUP_CMD_ARG_TARGET []) = some pg ∧ x = .unit pg)) ∧ s.sup.resets = [y] ∧ y.clock = s.aonClock ∧ y.asked = [Master.other m] ∧ scopeRank y.scope ≠ scopeRank x) ∧
    (∃ (s : State) (c : Instr), s.mode ≠ .off ∧ ((c = .clusterReset ∧ 8 ≤ s.rd SUP_CMD_ARG_TARGET [] ∨ c = .regionReset ∧ 2 ≤ s.rd SUP_CMD_ARG_TARGET [] ∨ c = .unitReset ∧ pageOfId (s.rd SUP_CMD_ARG_TARGET []) = none))) ∧
    (∃ (s : State) (m : Master), s.mode ≠ .off ∧ m = s.sup.caller ∧ (∀ y ∈ s.sup.resets, y.scope ≠ .package)) ∧
    (∃ (s : State) (m : Master) (r : ResetReq), s.mode ≠ .off ∧ m = s.sup.caller ∧ s.sup.resets = [r] ∧ r.scope = .package) ∧
    (∃ (s : State), s.mode ≠ .off ∧ s.sup.resets = []) ∧
    (∃ (s : State) (x : ResetReq) (l : List ResetReq), s.mode ≠ .off ∧ s.sup.resets = x :: l ∧ x.scope ≠ .package) ∧
    (∃ (s : State) (x : ResetReq) (l : List ResetReq) (pg : Nat), s.mode ≠ .off ∧ s.logicUp = false ∧ s.sup.resets = x :: l ∧ x.scope = .unit pg ∧ pageOnIoDie pg = false) ∧
    (∃ (s : State) (x : ResetReq) (l : List ResetReq), s.mode ≠ .off ∧ s.sup.resets = x :: l ∧ x.scope = .package ∧ s.sup.history.any (fun h => h.2.2.isNone) = true) ∧
    (∃ (s : State), s.mode ≠ .off ∧ s.rd SUP_CTRL_REGION_RETRY_MS [] ≠ 0 ∧ s.on SUP_STATUS_SAFE_NORTH [] = true ∧ s.sup.northRetried = false ∧ s.sup.northAt + s.rd SUP_CTRL_REGION_RETRY_MS [] * 1000000 ≤ s.now ∧ s.sup.resets = []) ∧
    (∃ (s : State), s.mode ≠ .off ∧ s.rd SUP_CTRL_REGION_RETRY_MS [] ≠ 0 ∧ s.on SUP_STATUS_SAFE_NORTH [] = false ∧ s.on SUP_STATUS_SAFE_SOUTH [] = true ∧ s.sup.southRetried = false ∧ s.sup.southAt + s.rd SUP_CTRL_REGION_RETRY_MS [] * 1000000 ≤ s.now ∧ s.sup.resets = []) ∧
    (∃ (s : State), s.mode ≠ .off ∧ s.rd SUP_CTRL_SAFE_RESET_MS [] ≠ 0 ∧ s.on SUP_STATUS_DIE_SAFE [] = true ∧ s.sup.scanning = false ∧ s.sup.dieAt + s.rd SUP_CTRL_SAFE_RESET_MS [] * 1000000 ≤ s.now ∧ s.sup.resets = []) :=
  ⟨⟨(wR []), .mgp, (0x10000007#32), .unitReset, by decide +kernel⟩,
   ⟨(wR [(SUP_CMD_ARG_TARGET, [], 7)]), .clusterReset, .host, (.cluster 7), 0, by decide +kernel, by decide +kernel, Or.inl ⟨rfl, by decide +kernel, by decide +kernel, rfl⟩, by decide +kernel⟩,
   ⟨wResetsAreAskedAndDone2S, .regionReset, .host, (.region 0), 0, wResetsAreAskedAndDone2Y, by decide +kernel, by decide +kernel, Or.inr (Or.inl ⟨rfl, by decide +kernel, by decide +kernel, rfl⟩), by decide +kernel⟩,
   ⟨(wR [(SUP_CMD_ARG_TARGET, [], 8)]), .clusterReset, by decide +kernel⟩,
   ⟨({ wR [] with sup := { caller := .mgp } } : State), .mgp, by decide +kernel⟩,
   ⟨wResetsAreAskedAndDone5S, .mgp, ({ scope := .package } : ResetReq), by decide +kernel⟩,
   ⟨(wR []), by decide +kernel⟩,
   ⟨wResetsAreAskedAndDone7S, dResetReq, [], by decide +kernel⟩,
   ⟨wResetsAreAskedAndDone8S, ({ scope := .unit pgTID } : ResetReq), [], pgTID, by decide +kernel⟩,
   ⟨wResetsAreAskedAndDone9S, ({ scope := .package } : ResetReq), [], by decide +kernel⟩,
   ⟨wResetsAreAskedAndDone10S, by decide +kernel⟩,
   ⟨wResetsAreAskedAndDone11S, by decide +kernel⟩,
   ⟨wResetsAreAskedAndDone12S, by decide +kernel⟩⟩

def wSelfTestsRunInWindows0S : State :=
  ({ wR [] with sup := { tests := [(256 * 3 + 2, { active := true })] }, tid := { windows := [{ kind := 3, target := 2, from_ := 5000000000 * nsUnit, fin := 6000000000 * nsUnit }] } } : State)

def wSelfTestsRunInWindows0W : Window :=
  ({ kind := 3, target := 2, from_ := 5000000000 * nsUnit, fin := 6000000000 * nsUnit } : Window)

def wSelfTestsRunInWindows2S : State :=
  ({ wR [] with sup := { tests := [(256 * 3 + 2, { running := true, next := 30 })] } } : State)

def wSelfTestsRunInWindows3S : State :=
  ({ wR [] with sup := { tests := [(256 * 3 + 2, { running := true, next := 31 })] } } : State)

def wSelfTestsRunInWindows4S : State :=
  ({ wR [] with sup := { tests := [(256 * 3 + 2, { running := true })] } } : State)

def wSelfTestsRunInWindows5S : State :=
  ({ wR [] with sup := { tests := [(256 * 2 + 7, { running := true, next := 6 })] } } : State)

def wSelfTestsRunInWindows6S : State :=
  ({ wR [] with sup := { tests := [(256 * 2 + 7, { running := true })] } } : State)

def wSelfTestsRunInWindows6F : CellFail :=
  ({ cell := 4096 * 7 + 511, bit := 3, bits := 1 } : CellFail)

def wSelfTestsRunInWindows8S : State :=
  ({ wR [(SUP_ST_EN_ENG_MASK, [], 2 ^ 11)] with sup := { tests := [(256 * 3 + 3, { active := true })] } } : State)

def wSelfTestsRunInWindows11S : State :=
  ({ wR [] with tid := { windows := [{ kind := 2, target := 7, fin := 6000000000 * nsUnit }] } } : State)

def wSelfTestsRunInWindows11W : Window :=
  ({ kind := 2, target := 7, fin := 6000000000 * nsUnit } : Window)

theorem witness_SelfTestsRunInWindows :
    (∃ (s : State) (k : Nat) (n : Nat) (w : Window), s.logicUp = true ∧ (s.test k n).active = true ∧ (s.test k n).running = false ∧ ((k = 2 → s.bankInTest n = true)) ∧ s.sliceWindow k n = some w) ∧
    (∃ (s : State) (k : Nat) (n : Nat), s.logicUp = true ∧ s.sliceWindow k n = none) ∧
    (∃ (s : State) (k : Nat) (n : Nat), s.logicUp = true ∧ k ≠ 2 ∧ (s.test k n).running = true ∧ (s.test k n).next + 1 < (testSlices k).1) ∧
    (∃ (s : State) (k : Nat) (n : Nat), s.logicUp = true ∧ k ≠ 2 ∧ (s.test k n).running = true ∧ (s.test k n).next + 1 = (testSlices k).1 ∧ (s.test k n).failed = false) ∧
    (∃ (s : State) (k : Nat) (n : Nat), s.logicUp = true ∧ k ≠ 2 ∧ (s.test k n).running = true) ∧
    (∃ (s : State) (n : Nat), s.logicUp = true ∧ (s.test 2 n).running = true ∧ (s.test 2 n).next + 1 < 8) ∧
    (∃ (s : State) (n : Nat) (f : CellFail), s.logicUp = true ∧ (s.test 2 n).running = true ∧ 4096 * n + 512 * (s.test 2 n).next ≤ f.cell ∧ f.cell < 4096 * n + 512 * (s.test 2 n).next + 512) ∧
    (∃ (s : State) (k : Nat) (n : Nat), s.mode ≠ .off ∧ s.testEnabled k n = true ∧ (s.test k n).dueAt ≤ s.now ∧ (s.test k n).active = false ∧ (s.test k n).running = false) ∧
    (∃ (s : State) (k : Nat) (n : Nat), s.mode ≠ .off ∧ s.testEnabled k n = true ∧ (s.test k n).dueAt ≤ s.now ∧ (s.test k n).active = true) ∧
    (∃ (s : State) (k : Nat) (n : Nat), s.mode ≠ .off ∧ n < testTargets k) ∧
    (∃ (s : State) (k : Nat) (n : Nat), s.mode ≠ .off ∧ testTargets k ≤ n) ∧
    (∃ (s : State) (w : Window) (l : List Window), s.logicUp = true ∧ s.tid.windows = w :: l ∧ w.kind = 2 ∧ w.target < 8 ∧ s.bankInTest w.target = false ∧ w.from_ ≤ s.count ∧ s.count < w.fin) :=
  ⟨⟨wSelfTestsRunInWindows0S, 3, 2, wSelfTestsRunInWindows0W, by decide +kernel⟩,
   ⟨(wR []), 0, 0, by decide +kernel⟩,
   ⟨wSelfTestsRunInWindows2S, 3, 2, by decide +kernel⟩,
   ⟨wSelfTestsRunInWindows3S, 3, 2, by decide +kernel⟩,
   ⟨wSelfTestsRunInWindows4S, 3, 2, by decide +kernel⟩,
   ⟨wSelfTestsRunInWindows5S, 7, by decide +kernel⟩,
   ⟨wSelfTestsRunInWindows6S, 7, wSelfTestsRunInWindows6F, by decide +kernel⟩,
   ⟨(wR [(SUP_ST_EN_ENG_MASK, [], 2 ^ 11)]), 3, 3, by decide +kernel⟩,
   ⟨wSelfTestsRunInWindows8S, 3, 3, by decide +kernel⟩,
   ⟨(wR []), 5, 63, by decide +kernel⟩,
   ⟨(wR []), 0, 0, by decide +kernel⟩,
   ⟨wSelfTestsRunInWindows11S, wSelfTestsRunInWindows11W, [], by decide +kernel⟩⟩

def wAlarmsAndScans6S : State :=
  ({ wR [] with sup := { scanArm := some (.host, 4999000000) } } : State)

def wAlarmsAndScans7S : State :=
  ({ wR [] with sup := { scanArm := some (.host, 4999000000) } } : State)

def wAlarmsAndScans8S : State :=
  ({ wR [(RET_STATUS_COMMIT_BUSY, [], 1)] with sup := { scanArm := some (.host, 4999500000) } } : State)

theorem witness_AlarmsAndScans :
    (∃ (s : State) (a : Nat), s.mode ≠ .off ∧ a < 7 ∧ bitOf (s.rd SUP_ALARM_ACTIVE []) a = 0 ∧ ((a ≠ 2 ∨ s.mode ≠ .start ∨ s.pwk.powered = true))) ∧
    (∃ (s : State) (a : Nat), s.mode ≠ .off ∧ bitOf (s.rd SUP_ALARM_ACTIVE []) a = 1) ∧
    (∃ (s : State) (a : Nat), s.mode ≠ .off ∧ a < 7 ∧ bitOf (s.rd SUP_ALARM_ACTIVE []) a = 1) ∧
    (∃ (s : State), s.mode ≠ .off) ∧
    (∃ (s : State), s.mode ≠ .off) ∧
    (∃ (s : State) (v : Nat), s.mode ≠ .off ∧ v ≠ 0x5C) ∧
    (∃ (s : State) (m : Master) (n : Nat), s.mode ≠ .off ∧ s.sup.scanArm = some (m, n) ∧ s.now ≤ n + 1000000 ∧ s.logicUp = true ∧ s.sup.scanning = false ∧ s.on RET_STATUS_COMMIT_BUSY [] = false ∧ s.on KWL_STATUS_COMMIT_BUSY [] = false) ∧
    (∃ (s : State) (m : Master) (n : Nat), s.mode ≠ .off ∧ s.sup.scanArm = some (m, n) ∧ s.now ≤ n + 1000000 ∧ s.logicUp = true ∧ s.sup.scanning = false ∧ s.on RET_STATUS_COMMIT_BUSY [] = false ∧ s.on KWL_STATUS_COMMIT_BUSY [] = false) ∧
    (∃ (s : State) (m : Master), s.mode ≠ .off ∧ (((∀ n, s.sup.scanArm = some (m, n) → n + 1000000 < s.now) ∨ s.logicUp = false ∨ s.sup.scanning = true ∨ s.on RET_STATUS_COMMIT_BUSY [] = true ∨ s.on KWL_STATUS_COMMIT_BUSY [] = true))) ∧
    (∃ (s : State), s.mode ≠ .off ∧ s.sup.scanning = true) :=
  ⟨⟨(wR []), 0, by decide +kernel⟩,
   ⟨(wR [(SUP_ALARM_ACTIVE, [], 4)]), 2, by decide +kernel⟩,
   ⟨(wR [(SUP_ALARM_ACTIVE, [], 64)]), 6, by decide +kernel⟩,
   ⟨(wR []), by decide +kernel⟩,
   ⟨(wR []), by decide +kernel⟩,
   ⟨(wR []), 0, by decide +kernel⟩,
   ⟨wAlarmsAndScans6S, .host, 4999000000, by decide +kernel⟩,
   ⟨wAlarmsAndScans7S, .host, 4999000000, by decide +kernel⟩,
   ⟨wAlarmsAndScans8S, .host, by decide +kernel, Or.inr (Or.inr (Or.inr (Or.inl (by decide +kernel))))⟩,
   ⟨({ wR [] with sup := { scanning := true } } : State), by decide +kernel⟩⟩

end Sys2Proof.Machine
end

section
/-! PROOF. The actions CHECK, TEST and MARK, the end of a test window and the end of an occupancy reload (chapter 3). A row that issues an
action moves the list past it and then does what the action says; each clause says what that is. -/

namespace Sys2Proof.Machine

/-! ### What a row does -/

/-- A command whose meaning takes place on the logic die. -/
theorem Gives.of_onLogic {c : Instr} {s : State} {p : State → Prop} {f : State → State} (he : exec c s = onLogic s f)
    (hl : s.logicUp = true) (hp : p (f s)) : Gives c s p :=
  ⟨f s, he.trans (if_pos hl), hp⟩

/-- A command whose meaning takes place on the logic die under a condition that holds. -/
theorem Gives.of_onLogicIf {c : Instr} {s : State} {p : State → Prop} {g : Bool} {f : State → State} (he : exec c s = onLogicIf s g f)
    (hl : s.logicUp = true) (hg : g = true) (hp : p (f s)) : Gives c s p :=
  ⟨f s, he.trans (if_pos (by rw [hl, hg]; rfl)), hp⟩

theorem exec_check (s : State) : exec .check s = execCheck s := by rfl
theorem exec_test (s : State) : exec .test s = execTest s := by rfl
theorem exec_mark (s : State) : exec .mark s = execMark s := by rfl
theorem exec_lowTideWindowEnd (s : State) : exec .lowTideWindowEnd s = execLowTideWindowEnd s := by rfl
theorem exec_occupancyReloadDone (s : State) : exec .occupancyReloadDone s = execOccupancyReloadDone s := by rfl

/-- The list of actions moves past entry `k`. -/
def State.passAction (s : State) (k : Nat) : State := s.setTid { s.tid with nextAction := k + 1 }

variable (s : State) (k : Nat)

@[simp] theorem State.passAction_tid : (s.passAction k).tid = { s.tid with nextAction := k + 1 } := rfl
@[simp] theorem State.passAction_hasAct : (s.passAction k).hasAct = s.hasAct := rfl
@[simp] theorem State.passAction_berthValid (b : Nat) : (s.passAction k).berthValid b = s.berthValid b := rfl
@[simp] theorem State.passAction_on (f : Fld) (ix : List Nat) : (s.passAction k).on f ix = s.on f ix := rfl

variable {s k}

/-- A row that issues the next action, which the standby does not contradict. -/
theorem Gives.of_actionRow {c : Instr} {p : State → Prop} {ty : Nat} {a : ActionWord} {f : ActionWord → Nat → State → State}
    (he : exec c s = actionRow ty s f) (hl : s.logicUp = true) (hn : s.nextAction = some (k, a)) (ht : a.ty = ty)
    (hc : s.compareAction false k a = s) (hp : p (f a (s.actionTime a) (s.passAction k))) : Gives c s p := by
  refine .of_onLogic he hl ?_
  simp only [hn, hc, if_pos ht]
  exact hp

/-- Only GATE, TRIG, CAPW and MARK are compared with the standby's words (R143). -/
theorem State.compareAction_of_not_compared (shadow : Bool) {a : ActionWord}
    (h : (a.ty == 2 || a.ty == 3 || a.ty == 4 || a.ty == 8) = false) : s.compareAction shadow k a = s := by
  unfold State.compareAction
  split
  · simp only [h, Bool.false_and, Bool.false_eq_true, if_false]
  · rfl

/-- A row that issues the next action, of a type that is not compared. -/
theorem Gives.of_uncomparedRow {c : Instr} {p : State → Prop} {ty : Nat} {a : ActionWord} {f : ActionWord → Nat → State → State}
    (he : exec c s = actionRow ty s f) (hl : s.logicUp = true) (hn : s.nextAction = some (k, a)) (ht : a.ty = ty)
    (hu : (ty == 2 || ty == 3 || ty == 4 || ty == 8) = false) (hp : p (f a (s.actionTime a) (s.passAction k))) : Gives c s p :=
  .of_actionRow he hl hn ht (State.compareAction_of_not_compared false (ht ▸ hu)) hp

/-! ### Fields, bits and planes -/

theorem FieldsKept.of_regs {t : State} (l : List (Fld × List Nat)) (h : t.regs = s.regs) : FieldsKept l s t := fun f ix _ => by
  rw [State.rd_regs, State.rd_regs, h]

/-- A count with its interrupt counts, when neither the interrupt's registers nor the host's hold the counter. -/
theorem State.counted_bump_irq (s : State) {f : Fld} {ix : List Nat} {p b : Nat} (hp : f.key ix ≠ IRQ_PEND_PEND.key [p])
    (hd : f.home ix ≠ 3) (h0 : f.key ix ≠ HBR_MSIX_PBA_PEND.key [0]) (h1 : f.key ix ≠ HBR_MSIX_PBA_PEND.key [1]) :
    Counted f ix s ((s.bump f ix).irq p b) :=
  ((s.bump f ix).irq_get_ne p b hp hd h0 h1).trans (s.rd_bump f ix)

/-- A count with its interrupt raises the source. -/
theorem State.raised_bump_irq (s : State) {f : Fld} {ix : List Nat} {p b : Nat} (hb : b < 32) (he : IRQ_EN_EN.key [p] ≠ f.key ix) :
    Raised p b s ((s.bump f ix).irq p b) := fun h =>
  (s.bump f ix).irq_raised hb ((s.rd_bump_ne he).symm ▸ h)

theorem bitOf_clearBitOf (v i : Nat) : bitOf (clearBitOf v i) i = 0 := by
  unfold clearBitOf
  split
  next h =>
    have hq : (v - 2 ^ i) / 2 ^ i = v / 2 ^ i - 1 := by simpa using Nat.sub_mul_div v (2 ^ i) 1
    unfold bitOf at h ⊢
    rw [hq]
    omega
  next h =>
    have := Nat.mod_two_eq_zero_or_one (v / 2 ^ i)
    unfold bitOf at h ⊢
    omega

theorem State.setPlane_plane_self (s : State) (x : Nat) (p : PlaneSt) : (s.setPlane x p).plane x = p :=
  SMap.getD_setD_self s.planes {} x p

/-! ### CHECK (R125) -/

theorem State.berthStat_tid (s : State) (x b : Nat) (v : BStat) : (s.berthStat x b v).tid = s.tid :=
  (State.berthStat_same (m := 0x48000200a) (.refl _ s) rfl).tid rfl

/-- A berth's statistic changes no register of the tide unit's pages. -/
theorem State.berthStat_rd_tid (s : State) (x b : Nat) (v : BStat) {f : Fld} {ix : List Nat} (h : f.home ix = Home.tid.num) :
    (s.berthStat x b v).rd f ix = s.rd f ix :=
  (State.berthStat_same (m := 0x48000200a) (.refl _ s) rfl).rd (by rw [h]; rfl)

theorem check_takes_arrival {a : ActionWord} (hl : s.logicUp = true) (hn : s.nextAction = some (k, a)) (ht : a.ty = 6)
    (ha : s.hasAct = true) (hv : s.berthValid a.index = true) (hr : s.tid.arrived.contains a.index = true) :
    Gives .check s fun t =>
      t.tid = { s.tid with nextAction := k + 1, arrived := s.tid.arrived.filter fun x => x != a.index } ∧ FieldsKept [] s t := by
  refine .of_uncomparedRow (exec_check s) hl hn ht rfl ?_
  simp only [State.passAction_hasAct, State.passAction_berthValid, State.passAction_tid, ha, hv, hr, Bool.not_true, Bool.or_false,
    Bool.false_eq_true, if_false, if_true]
  exact ⟨rfl, .of_regs _ rfl⟩

theorem check_counts_miss {a : ActionWord} (hl : s.logicUp = true) (hn : s.nextAction = some (k, a)) (ht : a.ty = 6)
    (ha : s.hasAct = true) (hv : s.berthValid a.index = true) (hr : s.tid.arrived.contains a.index = false) :
    Gives .check s fun t => t.tid = { s.tid with nextAction := k + 1 } ∧ Counted TID_CNT_CHECK_MISS_CNT [] s t := by
  refine .of_uncomparedRow (exec_check s) hl hn ht rfl ?_
  simp only [State.passAction_hasAct, State.passAction_berthValid, State.passAction_tid, ha, hv, hr, Bool.not_true, Bool.or_false,
    Bool.false_eq_true, if_false]
  exact ⟨(State.berthStat_tid _ _ _ _).trans (State.irq_tid _ _ _), (State.berthStat_rd_tid _ _ _ _ rfl).trans
    (State.counted_bump_irq (s.passAction k) (by decide) (by decide) (by decide) (by decide))⟩

/-! ### TEST (R116, R119) -/

theorem test_grants_window {a : ActionWord} {w : WinRec} (hl : s.logicUp = true) (hn : s.nextAction = some (k, a))
    (ht : a.ty = 7) (hw : imgWindow s.tid.active (a.operand % 2 ^ 12) = w)
    (ho : (s.tid.windows.any fun g => g.kind == w.kind && g.target == w.target && s.actionTime a < g.fin) = false) :
    Gives .test s fun t => t.tid.nextAction = k + 1 ∧ t.tid.windows = s.tid.windows ++ [{
      kind := w.kind, target := w.target, fin := s.actionTime a + w.len * slotUnits, from_ := s.actionTime a
      served := w.kind == 5 && decide (12500 ≤ w.len) && s.on LFE_STATUS_MEAS_WAIT [w.target] }] := by
  subst hw
  refine .of_uncomparedRow (exec_test s) hl hn ht rfl ?_
  extract_lets w tdr tid u
  split
  next h => exact absurd (h.symm.trans ho) (by decide)
  next =>
    -- A window that starts a line measurement also moves status bits, which are registers: the tide unit is that of `u` either way.
    split
    · exact ⟨rfl, rfl⟩
    · exact ⟨rfl, rfl⟩

theorem test_skips_overlap {a : ActionWord} {w : WinRec} (hl : s.logicUp = true) (hn : s.nextAction = some (k, a))
    (ht : a.ty = 7) (hw : imgWindow s.tid.active (a.operand % 2 ^ 12) = w)
    (ho : (s.tid.windows.any fun g => g.kind == w.kind && g.target == w.target && s.actionTime a < g.fin) = true) :
    Gives .test s fun t => t.tid = { s.tid with nextAction := k + 1 } ∧ Counted TID_CNT_WINDOW_SKIP_CNT [] s t ∧ Raised pgTID 9 s t := by
  subst hw
  refine .of_uncomparedRow (exec_test s) hl hn ht rfl ?_
  simp only [State.passAction_tid, ho, if_true]
  exact ⟨State.irq_tid _ _ _, State.counted_bump_irq (s.passAction k) (by decide) (by decide) (by decide) (by decide),
    State.raised_bump_irq (s.passAction k) (by decide) (by decide)⟩

/-! ### MARK -/

theorem mark_logs {a : ActionWord} (hl : s.logicUp = true) (hn : s.nextAction = some (k, a)) (ht : a.ty = 8)
    (ha : s.hasAct = true) (he : s.on PG_STATE_ENABLED [pgLOG] = true) (hc : s.compareAction false k a = s) :
    Gives .mark s fun t => t.tid = { s.tid with nextAction := k + 1 } ∧ FieldsKept [] s t ∧
      t.logLines = s.logLines ++ [.mark (a.operand % 2 ^ 32) (s.tideIndex (s.strokeAt (s.actionTime a))) (s.rd TID_ACT_SEQ_SEQ [])
        (stampOf (s.actionTime a))] := by
  refine .of_actionRow (exec_mark s) hl hn ht hc ?_
  simp only [State.passAction_hasAct, State.passAction_on, ha, if_true, State.markAt, State.log, he]
  exact ⟨rfl, .of_regs _ rfl, rfl⟩

/-! ### LOW_TIDE_WINDOW_END (R116, R233) -/

theorem lowTideWindowEnd_ends_window {w : Window} (hl : s.logicUp = true)
    (hf : (s.tid.windows.find? fun w => w.fin ≤ s.count) = some w) :
    Gives .lowTideWindowEnd s fun t => t.tid = { s.tid with windows := s.tid.windows.erase w } ∧
      (w.kind ≠ 2 → t.regs = s.regs) ∧ (w.kind = 2 → w.target < 8 → bitOf (t.rd CST_STATUS_BANK_TEST []) w.target = 0) := by
  refine .of_onLogic (exec_lowTideWindowEnd s) hl ?_
  simp only [hf]
  split
  next hk =>
    refine ⟨rfl, fun h => absurd hk h, fun _ h8 => ?_⟩
    rw [State.rd_wr, bitOf_mod _ (show w.target < CST_STATUS_BANK_TEST.width from h8), bitOf_clearBitOf]
  next hk => exact ⟨rfl, fun _ => rfl, fun h => absurd h hk⟩

/-! ### OCCUPANCY_RELOAD_DONE (R156) -/

/-- The acting plane's reload has ended, and the EMITs that waited have left their list. -/
def State.reloadEnded (s : State) : State :=
  (s.setPlane s.actPlane { s.plane s.actPlane with reloading := false }).setTid { s.tid with late := [] }

theorem occupancyReloadDone_emits_late (hl : s.logicUp = true) (ha : s.hasAct = true)
    (hr : (s.plane s.actPlane).reloading = true) :
    Gives .occupancyReloadDone s fun t => t = s.tid.late.foldl (fun s p => s.emit ⟨1, p.2.1, p.1⟩ p.2.2) s.reloadEnded :=
  .of_onLogicIf (exec_occupancyReloadDone s) hl (by rw [ha, hr]; rfl) rfl

theorem occupancyReloadDone_without_late (hl : s.logicUp = true) (ha : s.hasAct = true)
    (hr : (s.plane s.actPlane).reloading = true) (he : s.tid.late = []) :
    Gives .occupancyReloadDone s fun t => (t.plane s.actPlane).reloading = false ∧ t.tid = s.tid ∧ FieldsKept [] s t := by
  obtain ⟨t, hx, ht⟩ := occupancyReloadDone_emits_late hl ha hr
  rw [he, List.foldl_nil] at ht
  subst ht
  have hp : s.reloadEnded.plane s.actPlane = { s.plane s.actPlane with reloading := false } := s.setPlane_plane_self _ _
  refine ⟨_, hx, by rw [hp], ?_, .of_regs _ rfl⟩
  rw [State.reloadEnded, State.setTid_tid, ← he]

/-- Settles O18: each clause is the lemma above about its row and its case. -/
theorem testWindowsChecksAndMarks : Obligations.TestWindowsChecksAndMarks :=
  ⟨fun _ _ _ => check_takes_arrival, fun _ _ _ => check_counts_miss, fun _ _ _ _ => test_grants_window, fun _ _ _ _ => test_skips_overlap,
    fun _ _ _ => mark_logs, fun _ _ => lowTideWindowEnd_ends_window, fun _ => occupancyReloadDone_without_late,
    fun _ => occupancyReloadDone_emits_late⟩

end Sys2Proof.Machine
end

section
/-! PROOF. The host bridge's semaphores: who takes and frees one, and who wins a tie (R564, R565). -/

namespace Sys2Proof.Machine

/-! ### What a row does -/

/-- A command whose condition does not hold leaves the state as it is. -/
theorem Gives.of_onLogicIf_false {c : Instr} {s : State} {p : State → Prop} {g : Bool} {f : State → State}
    (he : exec c s = onLogicIf s g f) (hg : g = false) (hp : p s) : Gives c s p :=
  ⟨s, he.trans (if_neg (by rw [hg, Bool.and_false]; exact Bool.false_ne_true)), hp⟩

theorem exec_semAcquire (n : Nat) (m : Option Master) (s : State) : exec (.semAcquire n m) s = execSemAcquire n m s := by rfl
theorem exec_semRelease (n : Nat) (m : Master) (s : State) : exec (.semRelease n m) s = execSemRelease n m s := by rfl
theorem exec_logicDieUp (s : State) : exec .logicDieUp s = execLogicDieUp s := by rfl

variable {s : State} {n : Nat}

/-- A change of one field keeps all others. -/
theorem FieldsKept.of_wr {t : State} {f : Fld} {ix : List Nat} {v : Nat} (h : t.regs = (s.wr f ix v).regs) :
    FieldsKept [(f, ix)] s t := fun _ _ hk => by
  rw [State.rd_regs, h]
  exact s.rd_wr_ne v (hk (f, ix) (List.mem_singleton_self _))

theorem Master.owner_fits (m : Master) : Master.owner m < 2 ^ HBR_SEM_OWNER.width := by cases m <;> decide

theorem Master.owner_ne_zero (m : Master) : Master.owner m ≠ 0 := by cases m <;> decide

theorem Master.owner_other_ne (m : Master) : Master.owner (Master.other m) ≠ Master.owner m := by cases m <;> decide

/-- The owner of a semaphore taken is the master that takes it. -/
theorem State.semTake_owner (s : State) (n : Nat) (m : Master) : (s.semTake n m).rd HBR_SEM_OWNER [n] = Master.owner m := by
  rw [State.semTake, State.setHbr_rd, s.rd_wr_fits (Master.owner_fits m)]

theorem State.semTake_tie (s : State) (n : Nat) (m : Master) : (s.semTake n m).hbr.tie = s.hbr.tie := rfl

/-! ### SEM_ACQUIRE and SEM_RELEASE (R564) -/

section
variable (hl : s.logicUp = true) (hn : n < 32)
include hl hn

theorem semAcquire_takes_free {p : State → Prop} {m : Master} (hf : s.rd HBR_SEM_OWNER [n] = 0) (hp : p (s.semTake n m)) :
    Gives (.semAcquire n (some m)) s p :=
  .of_onLogicIf (exec_semAcquire n (some m) s) hl (by rw [hf, decide_eq_true hn]; rfl) hp

theorem semAcquire_gives_free (m : Master) (hf : s.rd HBR_SEM_OWNER [n] = 0) :
    Gives (.semAcquire n (some m)) s fun t => t.rd HBR_SEM_OWNER [n] = Master.owner m ∧ FieldsKept [(HBR_SEM_OWNER, [n])] s t :=
  semAcquire_takes_free hl hn hf ⟨s.semTake_owner n m, .of_wr rfl⟩

omit hl hn in
theorem semAcquire_of_held (m : Option Master) (hh : s.rd HBR_SEM_OWNER [n] ≠ 0) : Gives (.semAcquire n m) s fun t => t = s :=
  .of_onLogicIf_false (exec_semAcquire n m s) (by rw [beq_eq_false_iff_ne.mpr hh, Bool.and_false]) rfl

/-- SEM_RELEASE acts by the owner that the semaphore has. -/
theorem semRelease_by_owner {p : State → Prop} (m : Master)
    (hp : p (if s.rd HBR_SEM_OWNER [n] = Master.owner m then (s.wr HBR_SEM_OWNER [n] 0).setHbr { s.hbr with semAt := SMap.erase s.hbr.semAt n }
      else if s.rd HBR_SEM_OWNER [n] = 0 then s else s.bump HBR_CNT_SEM_BAD_REL_CNT [])) : Gives (.semRelease n m) s p :=
  .of_onLogicIf (exec_semRelease n m s) hl (decide_eq_true hn) hp

theorem semRelease_by_its_owner_frees (m : Master) (ho : s.rd HBR_SEM_OWNER [n] = Master.owner m) :
    Gives (.semRelease n m) s fun t => t.rd HBR_SEM_OWNER [n] = 0 ∧ FieldsKept [(HBR_SEM_OWNER, [n])] s t := by
  refine semRelease_by_owner hl hn m ?_
  rw [if_pos ho]
  exact ⟨by rw [State.setHbr_rd, State.rd_wr, Nat.zero_mod], .of_wr (v := 0) rfl⟩

theorem semRelease_by_other_counts (m : Master) (ho : s.rd HBR_SEM_OWNER [n] = Master.owner (Master.other m)) :
    Gives (.semRelease n m) s fun t => t.rd HBR_SEM_OWNER [n] = s.rd HBR_SEM_OWNER [n] ∧ t.hbr = s.hbr ∧
      Counted HBR_CNT_SEM_BAD_REL_CNT [] s t ∧ FieldsKept [(HBR_CNT_SEM_BAD_REL_CNT, [])] s t := by
  refine semRelease_by_owner hl hn m ?_
  rw [if_neg (ho ▸ Master.owner_other_ne m), if_neg (ho ▸ Master.owner_ne_zero (Master.other m))]
  refine ⟨s.rd_bump_ne (Fld.key_ne_of_addr ?_), rfl, s.rd_bump _ _, .of_wr (s.bump_regs _ _)⟩
  simp only [Fld.addr, HBR_SEM_OWNER, HBR_CNT_SEM_BAD_REL_CNT, dimOffset]
  omega

theorem semRelease_of_free (m : Master) (hf : s.rd HBR_SEM_OWNER [n] = 0) : Gives (.semRelease n m) s fun t => t = s := by
  refine semRelease_by_owner hl hn m ?_
  rw [if_neg (hf ▸ (Master.owner_ne_zero m).symm), if_pos hf]

/-! ### Ties (R565) -/

theorem semAcquire_tie (hf : s.rd HBR_SEM_OWNER [n] = 0) :
    Gives (.semAcquire n none) s fun t => t.rd HBR_SEM_OWNER [n] = Master.owner s.hbr.tie ∧ t.hbr.tie = Master.other s.hbr.tie :=
  .of_onLogicIf (exec_semAcquire n none s) hl (by rw [hf, decide_eq_true hn]; rfl)
    ⟨by rw [State.setHbr_rd, State.semTake_owner], rfl⟩

theorem semAcquire_by_one_keeps_tie (m : Master) : Gives (.semAcquire n (some m)) s fun t => t.hbr.tie = s.hbr.tie := by
  by_cases hf : s.rd HBR_SEM_OWNER [n] = 0
  · exact semAcquire_takes_free hl hn hf (s.semTake_tie n m)
  · obtain ⟨t, hx, ht⟩ := semAcquire_of_held (some m) hf
    exact ⟨t, hx, by rw [ht]⟩

end

theorem State.loseCells_hbr (s : State) (lo hi : Nat) : (s.loseCells lo hi).hbr = s.hbr :=
  (State.loseCells_same (m := 0x300000000) (.refl _ s) rfl).hbr rfl

theorem State.irqSums_hbr (s : State) : s.irqSums.hbr = s.hbr := (State.irqSums_same (m := 0x8) (.refl _ s) rfl).hbr rfl

/-- A logic die that leaves reset has the bridge of the reset state. -/
theorem State.logicClear_hbr (s : State) (ret : Bool) : (s.logicClear ret).hbr = {} := by
  unfold State.logicClear
  rw [State.loseCells_hbr, State.irqSums_hbr]

/-- Stated of any state with the bridge of the reset state, so that the kernel does not evaluate `logicClear`. -/
theorem State.wr_tie_of_reset_bridge (f : Fld) (ix : List Nat) (v : Nat) (h : s.hbr = {}) : (s.wr f ix v).hbr.tie = .host := by
  rw [State.wr_hbr, h]

theorem logicDieUp_host_wins_first (hm : s.mode = .start) (hc : s.pwk.coreEn = true) (hl : s.logicUp = false) :
    Gives .logicDieUp s fun t => t.hbr.tie = Master.host :=
  ⟨(s.logicClear true).wr DEV_STATUS_LOGIC_UP [] 1, (exec_logicDieUp s).trans (if_pos ⟨hm, hc, by rw [hl]; rfl⟩),
    State.wr_tie_of_reset_bridge _ _ _ (s.logicClear_hbr true)⟩

/-- Settles O49: each clause is the lemma above about who asks and who owns the semaphore. -/
theorem semaphoresAcquireAndRelease : Obligations.SemaphoresAcquireAndRelease :=
  ⟨fun _ _ m hl hn => semAcquire_gives_free hl hn m, fun _ _ m _ _ => semAcquire_of_held m,
    fun _ _ m hl hn => semRelease_by_its_owner_frees hl hn m, fun _ _ m hl hn => semRelease_by_other_counts hl hn m,
    fun _ _ m hl hn => semRelease_of_free hl hn m⟩

/-- Settles O50: a tie goes to the master that the bridge keeps as its next winner, and makes the other one the next winner. -/
theorem semaphoreTiesAlternate : Obligations.SemaphoreTiesAlternate := by
  refine ⟨rfl, fun _ => logicDieUp_host_wins_first, fun s n k hl hn hk hf => ?_, fun _ _ m hl hn => semAcquire_by_one_keeps_tie hl hn m⟩
  obtain ⟨t, hx, hown, htie⟩ := semAcquire_tie hl hn hf
  refine ⟨t, hx, hown, htie, fun u hu hut hfree => ?_⟩
  obtain ⟨v, hy, hv, -⟩ := semAcquire_tie hu hk hfree
  exact ⟨v, hy, hv.trans (by rw [hut, htie])⟩

end Sys2Proof.Machine
end

section
/-! PROOF. A halted ring direction: the halt and its condition, the frame that a halted pair drops, and the enable that ends the halt (R571,
R579). -/

namespace Sys2Proof.Machine

variable {s : State} {f g : Fld} {ix jx : List Nat} {p : Nat}

/-! ### Fields of the bridge that the release of a frame leaves

The release of a frame may retire its cells and fail a bank, whose interrupts go out as messages: of the bridge's fields only the pending bits
of the MSI-X table change. -/

/-- A field of the bridge's pages that is not one of the pending bits of the MSI-X table. -/
structure Fld.OfBridge (f : Fld) (ix : List Nat) : Prop where
  home : f.home ix = 1
  pba0 : f.key ix ≠ HBR_MSIX_PBA_PEND.key [0]
  pba1 : f.key ix ≠ HBR_MSIX_PBA_PEND.key [1]

theorem Fld.OfBridge.key_ne (h : f.OfBridge ix) (hg : g.home jx ≠ 1) : f.key ix ≠ g.key jx :=
  Fld.key_ne_of_home (h.home ▸ hg.symm)

theorem Same.rd_bridge {m : Nat} {t : State} (h : f.OfBridge ix) (hs : Same m s t) (hm : m.testBit 1 = false) : t.rd f ix = s.rd f ix :=
  hs.rd (h.home ▸ hm)

section
variable (h : f.OfBridge ix) (s : State)
include h

theorem State.irq_rd_bridge (b : Nat) : (s.irq pgCST b).rd f ix = s.rd f ix :=
  s.irq_get_ne pgCST b (h.key_ne (by decide)) (by rw [h.home]; decide) h.pba0 h.pba1

theorem State.cond_rd_bridge (b : Nat) (l : Bool) : (s.cond pgCST b l).rd f ix = s.rd f ix :=
  s.cond_get_ne pgCST b l (h.key_ne (by decide)) (h.key_ne (by decide)) (by rw [h.home]; decide) h.pba0 h.pba1

theorem State.err_rd_bridge (c l d : Nat) : (s.err pgCST c l d).rd f ix = s.rd f ix :=
  s.err_get_ne pgCST c l d (h.key_ne (by decide)) (h.key_ne (by decide)) (h.key_ne (by decide)) (h.key_ne (by decide)) (h.key_ne (by decide))
    (h.key_ne (by decide)) (h.key_ne (by decide)) (by rw [h.home]; decide) h.pba0 h.pba1

theorem State.retire_rd_bridge (cells : List Nat) : (s.retire cells).rd f ix = s.rd f ix := by
  unfold State.retire
  split
  · refine List.foldlRecOn (motive := fun (t : State) => t.rd f ix = s.rd f ix) cells _ rfl fun t ht c _ => ?_
    split
    · exact ht
    · exact (State.irq_rd_bridge h _ 3).trans ((State.rd_bump_ne _ (h.key_ne (by decide))).trans ht)
  · rfl

theorem State.freeCells_rd_bridge (k : Nat) : (s.freeCells k).rd f ix = s.rd f ix := by
  unfold State.freeCells
  split
  · rfl
  · exact State.retire_rd_bridge h _ _

theorem State.bankDrop_rd_bridge (src : Nat) : (s.bankDrop src).rd f ix = s.rd f ix := by
  unfold State.bankDrop
  refine List.foldlRecOn (motive := fun (t : State) => t.rd f ix = s.rd f ix) _ _ rfl fun t ht x _ => ?_
  have hq : Same 0x408640000000 t (((t.logCst x.2 5 none).endLanding x.1).unqueue x.1) :=
    State.unqueue_same (State.endLanding_same (State.logCst_same (.refl _ t) rfl) rfl) rfl
  exact (State.rd_bump_ne _ (h.key_ne (by decide))).trans ((State.freeCells_rd_bridge h _ x.1).trans ((hq.rd_bridge h rfl).trans ht))

theorem State.failBank_rd_bridge (src : Nat) : (s.failBank src).rd f ix = s.rd f ix := by
  unfold State.failBank
  extract_lets t
  have ht : t.rd f ix = s.rd f ix := (State.cond_rd_bridge h _ 6 _).trans (s.rd_wr_ne _ (h.key_ne (by decide)))
  exact ((State.hwm_same (m := 0x4000) (.refl _ _) rfl).rd_bridge h rfl).trans ((t.bankDrop_rd_bridge h src).trans ht)

theorem State.retireLimit_rd_bridge (c : Nat) : (s.retireLimit c).rd f ix = s.rd f ix := by
  unfold State.retireLimit
  extract_lets src
  split
  · exact (State.failBank_rd_bridge h _ src).trans (s.err_rd_bridge h _ _ _)
  · rfl

theorem State.freeFrame_rd_bridge (k : Nat) : (s.freeFrame k).rd f ix = s.rd f ix := by
  unfold State.freeFrame
  split
  · rfl
  · exact List.foldlRecOn (motive := fun (t : State) => t.rd f ix = s.rd f ix) _ _ (s.freeCells_rd_bridge h k)
      fun t ht c _ => (t.retireLimit_rd_bridge h c).trans ht

theorem State.release_rd_bridge (k : Nat) (x : Holder) : (s.release k x).rd f ix = s.rd f ix := by
  unfold State.release
  split
  · rfl
  · extract_lets hs t
    split
    · exact t.freeFrame_rd_bridge h k
    · rfl

end

theorem State.release_hbr (s : State) (k : Nat) (x : Holder) : (s.release k x).hbr = s.hbr :=
  (State.release_same (m := 0x4086e000400a) (.refl _ s) rfl).hbr rfl

/-! ### Fields of a ring pair -/

/-- A field that every ring pair has. -/
structure Fld.OfPair (f : Fld) : Prop where
  base : 0x12080 ≤ f.base ∧ f.base + 4 ≤ 0x12100
  lo : f.lo < 32
  dims : f.dims = [⟨0, 2, 32768⟩, ⟨0, 8, 1024⟩]

theorem Fld.OfPair.addr_pairIx (h : f.OfPair) (p : Nat) : f.addr (pairIx p) = f.base * 8 + f.lo + (p / 8 * 32768 + p % 8 * 1024) := by
  rw [Fld.addr, h.dims]
  simp only [pairIx, dimOffset, Nat.add_zero]

/-- The fields of the pairs lie together: a field outside their range is none of them. -/
theorem Fld.OfPair.key_ne (h : f.OfPair) (hp : p < 16) (hg : g.addr jx % 2 ^ 40 < 0x90400 ∨ 0x9a400 ≤ g.addr jx % 2 ^ 40) :
    f.key (pairIx p) ≠ g.key jx := Fld.key_ne_of_addr (by
  obtain ⟨h0, h1⟩ := h.base
  have := h.lo
  have hhi : f.addr (pairIx p) < 0x9a400 := by rw [h.addr_pairIx]; omega
  have hlo : 0x90400 ≤ f.addr (pairIx p) := by rw [h.addr_pairIx]; omega
  omega)

/-- Two fields of a pair at different places. -/
theorem Fld.OfPair.key_ne_pair (hf : f.OfPair) (hg : g.OfPair) (h : f.base * 8 + f.lo ≠ g.base * 8 + g.lo) :
    f.key (pairIx p) ≠ g.key (pairIx p) := Fld.key_ne_of_addr (by
  have := hf.base
  have := hg.base
  have := hf.lo
  have := hg.lo
  rw [hf.addr_pairIx, hg.addr_pairIx]
  omega)

theorem Fld.OfPair.home (h : f.OfPair) : f.home ix = 1 := by
  obtain ⟨h0, h1⟩ := h.base
  have hb : f.base / 4096 = 0x12 := by omega
  rw [Fld.home, if_neg (by omega), hb]
  rfl

theorem Fld.OfPair.viewHbr_rd (h : f.OfPair) (hp : p < 16) (s : State) : s.viewHbr.rd f (pairIx p) = s.rd f (pairIx p) := by
  have hd : f.home (pairIx p) ≠ 3 := by rw [h.home]; decide
  have hc (t : State) (b : Nat) (l : Bool) : (t.cond pgHBR b l).rd f (pairIx p) = t.rd f (pairIx p) :=
    t.cond_get_ne pgHBR b l (h.key_ne hp (by decide)) (h.key_ne hp (by decide)) hd (h.key_ne hp (by decide)) (h.key_ne hp (by decide))
  exact (hc _ 1 _).trans (hc s 2 _)

theorem Fld.OfPair.dmaReadErr_rd (h : f.OfPair) (hp : p < 16) (s : State) : s.dmaReadErr.rd f (pairIx p) = s.rd f (pairIx p) :=
  (State.irq_get_ne _ pgHBR 3 (h.key_ne hp (by decide)) (by rw [h.home]; decide) (h.key_ne hp (by decide)) (h.key_ne hp (by decide))).trans
    (s.rd_bump_ne (h.key_ne hp (by decide)))

theorem State.on_eq_of_rd {t : State} (h : t.rd f ix = s.rd f ix) : t.on f ix = s.on f ix := by rw [State.on, State.on, h]

/-- The enable of a direction. -/
def ringEn (rx : Bool) : Fld := if rx then HBR_RP_CTRL_RX_EN else HBR_RP_CTRL_TX_EN

/-- The halt of a direction. -/
def ringHaltBit (rx : Bool) : Fld := if rx then HBR_RP_STAT_RX_HALT else HBR_RP_STAT_TX_HALT

theorem ringEn_ofPair (rx : Bool) : (ringEn rx).OfPair := by cases rx <;> exact ⟨by decide, by decide, rfl⟩

theorem ringHaltBit_ofPair (rx : Bool) : (ringHaltBit rx).OfPair := by cases rx <;> exact ⟨by decide, by decide, rfl⟩

theorem ringEn_key_ne_halt (rx ry : Bool) : (ringEn rx).key (pairIx p) ≠ (ringHaltBit ry).key (pairIx p) :=
  (ringEn_ofPair rx).key_ne_pair (ringHaltBit_ofPair ry) (by cases rx <;> cases ry <;> decide)

theorem ringEn_key_ne_other (rx : Bool) : (ringEn rx).key (pairIx p) ≠ (ringEn (!rx)).key (pairIx p) :=
  (ringEn_ofPair rx).key_ne_pair (ringEn_ofPair (!rx)) (by cases rx <;> decide)

theorem ringHaltBit_key_ne_other (rx : Bool) : (ringHaltBit rx).key (pairIx p) ≠ (ringHaltBit (!rx)).key (pairIx p) :=
  (ringHaltBit_ofPair rx).key_ne_pair (ringHaltBit_ofPair (!rx)) (by cases rx <;> decide)

theorem ringHaltBit_width (rx : Bool) : 0 < (ringHaltBit rx).width := by cases rx <;> decide

theorem ringEn_width (rx : Bool) : 0 < (ringEn rx).width := by cases rx <;> decide

/-! ### RING_HALT (R579) -/

theorem bitOf_setBitOf_ne (v : Nat) {i j : Nat} (h : i ≠ j) : bitOf (setBitOf v i) j = bitOf v j := by
  unfold bitOf setBitOf
  rw [← Nat.toNat_testBit, ← Nat.toNat_testBit, Nat.testBit_or, Nat.testBit_two_pow_of_ne h, Bool.or_false]

theorem bitOf_two_clearBitOf_one (v : Nat) : bitOf (clearBitOf v 1) 2 = bitOf v 2 := by
  unfold clearBitOf
  split
  next h =>
    unfold bitOf at h ⊢
    omega
  next => rfl

theorem irq_raw_header : IRQ_RAW_BLOCK.Header := ⟨by decide, by decide, _, _, rfl⟩

/-- IRQ_RAW shows the level that a condition takes. -/
theorem State.cond_raw (s : State) (p b : Nat) (l : Bool) : (s.cond p b l).rd IRQ_RAW_BLOCK [p] =
    (if l then setBitOf (s.rd IRQ_RAW_BLOCK [p]) b else clearBitOf (s.rd IRQ_RAW_BLOCK [p]) b) % 2 ^ 28 := by
  have hk : IRQ_RAW_BLOCK.key [p] ≠ IRQ_PEND_PEND.key [p] := Fld.key_ne_of_addr (by
    simp only [Fld.addr, IRQ_RAW_BLOCK, IRQ_PEND_PEND, dimOffset]
    omega)
  unfold State.cond
  extract_lets raw was t
  have ht : t.rd IRQ_RAW_BLOCK [p] = (if l then setBitOf raw b else clearBitOf raw b) % 2 ^ 28 := s.rd_wr _ _ _
  split
  · exact (t.irq_rd_header p b irq_raw_header hk).trans ht
  · exact ht

/-- While a direction of a pair is halted, the RING_HALT condition is there. -/
theorem State.viewHbr_ringHalt (hp : p < 16) {rx : Bool} (h : s.on (ringHaltBit rx) (pairIx p) = true) :
    bitOf (s.viewHbr.rd IRQ_RAW_BLOCK [pgHBR]) 2 = 1 := by
  have hany : ((List.range 16).any fun q => s.on HBR_RP_STAT_TX_HALT (pairIx q) || s.on HBR_RP_STAT_RX_HALT (pairIx q)) = true :=
    List.any_eq_true.mpr ⟨p, List.mem_range.mpr hp, by
      cases rx
      · exact Bool.or_eq_true_iff.mpr (.inl h)
      · exact Bool.or_eq_true_iff.mpr (.inr h)⟩
  have hraw : bitOf ((s.cond pgHBR 2 true).rd IRQ_RAW_BLOCK [pgHBR]) 2 = 1 := by
    rw [State.cond_raw, if_pos rfl, bitOf_mod _ (by decide), bitOf_setBitOf]
  unfold State.viewHbr
  rw [hany, State.cond_raw, bitOf_mod _ (by decide)]
  split
  · rw [bitOf_setBitOf_ne _ (by decide), hraw]
  · rw [bitOf_two_clearBitOf_one, hraw]

theorem exec_ringHalt (p : Nat) (rx : Bool) (s : State) : exec (.ringHalt p rx) s = execRingHalt p rx s := by rfl

theorem ringHalt_halts (rx : Bool) (hl : s.logicUp = true) (hp : p < 16) (he : s.on (ringEn rx) (pairIx p) = true) :
    Gives (.ringHalt p rx) s fun t => t.on (ringHaltBit rx) (pairIx p) = true ∧ bitOf (t.rd IRQ_RAW_BLOCK [pgHBR]) 2 = 1 := by
  refine .of_onLogicIf (exec_ringHalt p rx s) hl (Bool.and_eq_true_iff.mpr ⟨decide_eq_true hp, he⟩) ?_
  have hf := ringHaltBit_ofPair rx
  have hd : (s.wr (ringHaltBit rx) (pairIx p) 1).dmaReadErr.on (ringHaltBit rx) (pairIx p) = true :=
    (State.on_eq_of_rd (hf.dmaReadErr_rd hp _)).trans (s.on_wr_one (ringHaltBit_width rx))
  exact ⟨(State.on_eq_of_rd (hf.viewHbr_rd hp _)).trans hd, State.viewHbr_ringHalt hp hd⟩

/-- No descriptor of a halted pair is fetched. -/
theorem State.txServes_of_halted (h : s.on HBR_RP_STAT_TX_HALT (pairIx p) = true) : s.txServes p = false := by
  simp only [State.txServes, h, Bool.not_true, Bool.and_false, Bool.false_and]

/-! ### IQ0_RX_FRAME of a halted pair (R571) -/

theorem exec_iq0RxFrame (ds : List (Option (List Nat))) (s : State) : exec (.iq0RxFrame ds) s = execIq0RxFrame ds s := by rfl

theorem State.rxPair_lt (s : State) (r : Rec) : s.rxPair r < 16 := Nat.mod_lt _ (by decide)

theorem State.putInner_rd (s : State) (k : Nat) (l : List QItem) (f : Fld) (ix : List Nat) : (s.putInner k l).rd f ix = s.rd f ix := by
  have hs : Same 0x600000000 s (s.putInner k l) := State.putInner_same (.refl _ s) rfl
  refine hs.rd ?_
  have hlt := Fld.home_lt f ix
  generalize f.home ix = i at hlt
  revert i
  decide

theorem State.putInner_hbr (s : State) (k : Nat) (l : List QItem) : (s.putInner k l).hbr = s.hbr :=
  (State.putInner_same (m := 0x600000000) (.refl _ s) rfl).hbr rfl

/-- A frame that starts while its pair is halted is dropped before its first byte. -/
theorem State.rxStart_of_halted (it : QItem) (ds : List (Option (List Nat)))
    (h : s.on HBR_RP_STAT_RX_HALT (pairIx (s.rxPair it.r)) = true) :
    s.rxStart it ds = ((s.putInner 0 ((s.inner 0).filter fun x => x != it)).rxNoBuf (s.rxPair it.r)).release it.frame (.inner 0) := by
  unfold State.rxStart
  extract_lets q t
  have ht : t.on HBR_RP_STAT_RX_HALT (pairIx q) = true := (State.on_eq_of_rd (s.putInner_rd 0 _ _ _)).trans h
  rw [if_pos (Bool.or_eq_true_iff.mpr (.inr ht))]

theorem State.rxNoBuf_counts (hp : p < 16) (s : State) : Counted HBR_CNT_RX_NO_BUF_CNT [] s (s.rxNoBuf p) := by
  have hd : HBR_RP_RX_DROP_CNT.OfPair := ⟨by decide, by decide, rfl⟩
  exact (State.rd_bump _ _ _).trans (by rw [s.rd_bump_ne (hd.key_ne hp (by decide)).symm])

theorem rxNoBuf_ofBridge : HBR_CNT_RX_NO_BUF_CNT.OfBridge [] := ⟨by decide, by decide, by decide⟩

theorem iq0RxFrame_drops_of_halted (it : QItem) (ds : List (Option (List Nat))) (hl : s.logicUp = true) (hr : s.hbr.rx = none)
    (hn : s.rxNext = some it) (hh : s.on HBR_RP_STAT_RX_HALT (pairIx (s.rxPair it.r)) = true) :
    Gives (.iq0RxFrame ds) s fun t => Counted HBR_CNT_RX_NO_BUF_CNT [] s t ∧ t.hbr = s.hbr := by
  refine .of_onLogic (exec_iq0RxFrame ds s) hl ?_
  simp only [hr, hn, State.rxStart_of_halted it ds hh]
  have hc := State.rxNoBuf_counts (s.rxPair_lt it.r) (s.putInner 0 ((s.inner 0).filter fun x => x != it))
  rw [Counted, State.putInner_rd] at hc
  exact ⟨(State.release_rd_bridge rxNoBuf_ofBridge _ _ _).trans hc, (State.release_hbr _ _ _).trans (s.putInner_hbr _ _)⟩

/-! ### The write of one enable -/

/-- An index of a pair's rings: it lies between the pair's enables and its halts. -/
structure Fld.RingIndex (f : Fld) : Prop extends f.OfPair where
  place : 0x12084 ≤ f.base ∧ f.base + 4 ≤ 0x120bc

/-- HEAD of a direction. -/
def ringHead (rx : Bool) : Fld := if rx then HBR_RX_HEAD_IDX else HBR_TX_HEAD_IDX

/-- TAIL of a direction. -/
def ringTail (rx : Bool) : Fld := if rx then HBR_RX_TAIL_IDX else HBR_TX_TAIL_IDX

theorem ringHead_ringIndex (rx : Bool) : (ringHead rx).RingIndex := by cases rx <;> exact ⟨⟨by decide, by decide, rfl⟩, by decide⟩

theorem ringTail_ringIndex (rx : Bool) : (ringTail rx).RingIndex := by cases rx <;> exact ⟨⟨by decide, by decide, rfl⟩, by decide⟩

theorem cqWp_ringIndex : HBR_CQ_WP_IDX.RingIndex := ⟨⟨by decide, by decide, rfl⟩, by decide⟩

theorem cqRp_ringIndex : HBR_CQ_RP_IDX.RingIndex := ⟨⟨by decide, by decide, rfl⟩, by decide⟩

/-- The part of a pair that starts afresh with a direction: its indices, its job and, while the other direction is off, the completion ring. -/
def State.ringRestart (s : State) (p : Nat) (rx : Bool) : State :=
  let s := (s.wr (ringHead rx) (pairIx p) 0).wr (ringTail rx) (pairIx p) 0
  let s := if rx then s else s.setPair p { s.pair p with tx := none }
  if s.on (ringEn (!rx)) (pairIx p) then s
  else ((s.wr HBR_CQ_WP_IDX (pairIx p) 0).wr HBR_CQ_RP_IDX (pairIx p) 0).setPair p { s.pair p with cq := {}, fresh := 0, freshAt := none }

theorem State.ringEnable_of_rise {rx : Bool} (h : s.on (ringEn rx) (pairIx p) = false) : s.ringEnable p rx true =
    (((s.wr (ringEn rx) (pairIx p) 1).wr (ringHaltBit rx) (pairIx p) 0).ringRestart p rx).viewHbr := by
  have hr : (true && !s.on (ringEn rx) (pairIx p)) = true := by rw [h]; rfl
  cases rx
  · exact if_pos hr
  · exact if_pos hr

theorem State.ringEnable_of_no_rise {rx en : Bool} (h : (en && !s.on (ringEn rx) (pairIx p)) = false) :
    s.ringEnable p rx en = s.setB (ringEn rx) (pairIx p) en :=
  if_neg (by rw [Bool.not_eq_true]; exact h)

theorem State.setPair_rd (s : State) (p : Nat) (x : PairSt) (f : Fld) (ix : List Nat) : (s.setPair p x).rd f ix = s.rd f ix := rfl

theorem State.ringRestart_rd (hk : ∀ g : Fld, g.RingIndex → f.key ix ≠ g.key (pairIx p)) (s : State) (rx : Bool) :
    (s.ringRestart p rx).rd f ix = s.rd f ix := by
  unfold State.ringRestart
  extract_lets t x u
  have ht : t.rd f ix = s.rd f ix := (State.rd_wr_ne _ _ (hk _ (ringTail_ringIndex rx))).trans (s.rd_wr_ne _ (hk _ (ringHead_ringIndex rx)))
  have hu : u.rd f ix = s.rd f ix := by
    unfold u
    split
    · exact ht
    · exact ht
  split
  · exact hu
  · exact (State.setPair_rd _ _ _ _ _).trans ((State.rd_wr_ne _ _ (hk _ cqRp_ringIndex)).trans ((u.rd_wr_ne _ (hk _ cqWp_ringIndex)).trans hu))

/-- A field that neither the restart of a direction of a pair nor the conditions of the bridge change. -/
structure Fld.ApartFromRing (f : Fld) (ix : List Nat) (p : Nat) : Prop where
  index : ∀ g : Fld, g.RingIndex → f.key ix ≠ g.key (pairIx p)
  view : ∀ t : State, t.viewHbr.rd f ix = t.rd f ix

theorem ringEn_apart (hp : p < 16) (rx : Bool) : (ringEn rx).ApartFromRing (pairIx p) p where
  index g hg := (ringEn_ofPair rx).key_ne_pair hg.toOfPair (by
    obtain ⟨h0, -⟩ := hg.place
    have : (ringEn rx).base = 0x12080 ∧ (ringEn rx).lo < 32 := by cases rx <;> decide
    omega)
  view := (ringEn_ofPair rx).viewHbr_rd hp

theorem ringHaltBit_apart (hp : p < 16) (rx : Bool) : (ringHaltBit rx).ApartFromRing (pairIx p) p where
  index g hg := (ringHaltBit_ofPair rx).key_ne_pair hg.toOfPair (by
    obtain ⟨-, h1⟩ := hg.place
    have := hg.lo
    have : (ringHaltBit rx).base = 0x120bc := by cases rx <;> decide
    omega)
  view := (ringHaltBit_ofPair rx).viewHbr_rd hp

/-- The write of an enable leaves what is apart from the rings, but for the direction's own enable and halt. -/
theorem State.ringEnable_rd (ha : f.ApartFromRing ix p) {rx : Bool} (he : f.key ix ≠ (ringEn rx).key (pairIx p))
    (hh : f.key ix ≠ (ringHaltBit rx).key (pairIx p)) (s : State) (en : Bool) : (s.ringEnable p rx en).rd f ix = s.rd f ix := by
  cases hr : en && !s.on (ringEn rx) (pairIx p)
  case false => exact (State.ringEnable_of_no_rise hr).symm ▸ s.rd_wr_ne _ he
  case true =>
    obtain ⟨rfl, hoff⟩ := Bool.and_eq_true_iff.mp hr
    rw [State.ringEnable_of_rise (by rwa [Bool.not_eq_true'] at hoff), ha.view, State.ringRestart_rd ha.index, State.rd_wr_ne _ _ hh,
      State.rd_wr_ne _ _ he]

section
variable (hp : p < 16) (s : State) (rx en : Bool)
include hp

/-- The enable of a direction is what was written. -/
theorem State.ringEnable_en : (s.ringEnable p rx en).on (ringEn rx) (pairIx p) = en := by
  cases hr : en && !s.on (ringEn rx) (pairIx p)
  case false =>
    rw [State.ringEnable_of_no_rise hr]
    cases en
    · exact s.on_wr_zero _ _
    · exact s.on_wr_one (ringEn_width rx)
  case true =>
    obtain ⟨rfl, hoff⟩ := Bool.and_eq_true_iff.mp hr
    have ha := ringEn_apart hp rx
    rw [State.ringEnable_of_rise (by rwa [Bool.not_eq_true'] at hoff)]
    exact (State.on_eq_of_rd ((ha.view _).trans ((State.ringRestart_rd ha.index _ _).trans (State.rd_wr_ne _ _ (ringEn_key_ne_halt rx rx))))).trans
      (s.on_wr_one (ringEn_width rx))

theorem State.ringEnable_ends_halt (h : s.on (ringEn rx) (pairIx p) = false) :
    (s.ringEnable p rx true).on (ringHaltBit rx) (pairIx p) = false := by
  have ha := ringHaltBit_apart hp rx
  rw [State.ringEnable_of_rise h]
  exact (State.on_eq_of_rd ((ha.view _).trans (State.ringRestart_rd ha.index _ _))).trans (State.on_wr_zero _ _ _)

theorem State.ringEnable_other_en : (s.ringEnable p (!rx) en).on (ringEn rx) (pairIx p) = s.on (ringEn rx) (pairIx p) :=
  State.on_eq_of_rd (State.ringEnable_rd (ringEn_apart hp rx) (ringEn_key_ne_other rx) (ringEn_key_ne_halt rx (!rx)) s en)

theorem State.ringEnable_other_halt :
    (s.ringEnable p (!rx) en).on (ringHaltBit rx) (pairIx p) = s.on (ringHaltBit rx) (pairIx p) :=
  State.on_eq_of_rd (State.ringEnable_rd (ringHaltBit_apart hp rx) (ringEn_key_ne_halt (!rx) rx).symm (ringHaltBit_key_ne_other rx) s en)

end

/-! ### The logic die stays up -/

theorem State.irqSum_rd_logicUp (s : State) (p : Nat) : (s.irqSum p).rd DEV_STATUS_LOGIC_UP [] = s.rd DEV_STATUS_LOGIC_UP [] := by
  unfold State.irqSum
  split
  · rfl
  split
  · extract_lets q g old
    refine s.rd_wr_ne _ ?_
    unfold g
    split
    · decide
    · decide
  · exact s.rd_wr_ne _ (by decide)

/-- LOGIC_UP is no field of an interrupt: not IRQ_PEND, not DEV_IRQ_SUM, and not on the bridge's pages. -/
theorem State.irq_rd_logicUp (s : State) (p b : Nat) : (s.irq p b).rd DEV_STATUS_LOGIC_UP [] = s.rd DEV_STATUS_LOGIC_UP [] := by
  unfold State.irq
  split
  · unfold State.setPend
    extract_lets old t
    have ht : t.rd DEV_STATUS_LOGIC_UP [] = s.rd DEV_STATUS_LOGIC_UP [] :=
      (State.irqSum_rd_logicUp _ p).trans (s.rd_wr_ne _ (irq_pend_header.key_ne_dev p (by decide)).symm)
    split
    · exact (t.irqMessage_get p (by decide) (by decide)).trans ht
    · exact ht
  · rfl

theorem State.cond_rd_logicUp (s : State) (p b : Nat) (l : Bool) :
    (s.cond p b l).rd DEV_STATUS_LOGIC_UP [] = s.rd DEV_STATUS_LOGIC_UP [] := by
  unfold State.cond
  extract_lets raw was t
  have ht : t.rd DEV_STATUS_LOGIC_UP [] = s.rd DEV_STATUS_LOGIC_UP [] := s.rd_wr_ne _ (irq_raw_header.key_ne_dev p (by decide)).symm
  split
  · exact (t.irq_rd_logicUp p b).trans ht
  · exact ht

theorem Fld.OfPair.key_ne_logicUp (h : f.OfPair) : DEV_STATUS_LOGIC_UP.key [] ≠ f.key (pairIx p) :=
  Fld.key_ne_of_home (by rw [h.home]; decide)

theorem logicUp_apart (p : Nat) : DEV_STATUS_LOGIC_UP.ApartFromRing [] p where
  index _ hg := hg.toOfPair.key_ne_logicUp
  view t := (State.cond_rd_logicUp _ _ _ _).trans (t.cond_rd_logicUp _ _ _)

theorem State.ringEnable_logicUp (s : State) (p : Nat) (rx en : Bool) : (s.ringEnable p rx en).logicUp = s.logicUp :=
  State.on_eq_of_rd (State.ringEnable_rd (logicUp_apart p) (ringEn_ofPair rx).key_ne_logicUp (ringHaltBit_ofPair rx).key_ne_logicUp s en)

/-! ### RING_ENABLE_WRITE (R579) -/

/-- What a write of both enables gives one direction. -/
def enableOf (tx rx d : Bool) : Bool := if d then rx else tx

/-- A write of both enables writes one and then the other, in an order that depends on the enables before it. -/
theorem State.ringEnables_order (s : State) (p : Nat) (tx rx : Bool) :
    ∃ d, s.ringEnables p tx rx = (s.ringEnable p d (enableOf tx rx d)).ringEnable p (!d) (enableOf tx rx (!d)) := by
  unfold State.ringEnables
  extract_lets both
  split
  next h =>
    obtain ⟨⟨⟨rfl, rfl⟩, -⟩, -⟩ : ((tx = true ∧ rx = true) ∧ _) ∧ _ := by simpa only [both, Bool.and_eq_true_iff] using h
    exact ⟨false, rfl⟩
  split
  next h =>
    obtain ⟨⟨⟨htx, -⟩, rfl⟩, -⟩ : ((_ ∧ _) ∧ rx = true) ∧ _ := by simpa only [Bool.and_eq_true_iff] using h
    obtain rfl : tx = false := by rwa [Bool.not_eq_true'] at htx
    exact ⟨true, rfl⟩
  split
  next h =>
    obtain ⟨⟨⟨hrx, -⟩, rfl⟩, -⟩ : ((_ ∧ _) ∧ tx = true) ∧ _ := by simpa only [Bool.and_eq_true_iff] using h
    obtain rfl : rx = false := by rwa [Bool.not_eq_true'] at hrx
    exact ⟨false, rfl⟩
  next => exact ⟨false, rfl⟩

theorem State.ringEnables_logicUp (s : State) (p : Nat) (tx rx : Bool) : (s.ringEnables p tx rx).logicUp = s.logicUp := by
  obtain ⟨d, hd⟩ := s.ringEnables_order p tx rx
  rw [hd, State.ringEnable_logicUp, State.ringEnable_logicUp]

section
variable (hp : p < 16) (s : State) (tx rx d : Bool)
include hp

theorem State.ringEnables_en : (s.ringEnables p tx rx).on (ringEn d) (pairIx p) = enableOf tx rx d := by
  obtain ⟨e, he⟩ := s.ringEnables_order p tx rx
  rw [he]
  obtain rfl | hne := Decidable.em (e = d)
  · rw [State.ringEnable_other_en hp, State.ringEnable_en hp]
  · rw [Bool.eq_not_of_ne hne, Bool.not_not, State.ringEnable_en hp]

/-- A write that enables a direction which was off ends its halt. -/
theorem State.ringEnables_ends_halt (hoff : s.on (ringEn d) (pairIx p) = false) (hon : enableOf tx rx d = true) :
    (s.ringEnables p tx rx).on (ringHaltBit d) (pairIx p) = false := by
  obtain ⟨e, he⟩ := s.ringEnables_order p tx rx
  rw [he]
  obtain rfl | hne := Decidable.em (e = d)
  · rw [State.ringEnable_other_halt hp, hon, State.ringEnable_ends_halt hp _ _ hoff]
  · rw [Bool.eq_not_of_ne hne, Bool.not_not, hon]
    exact State.ringEnable_ends_halt hp _ _ ((State.ringEnable_other_en hp _ _ _).trans hoff)

end

theorem exec_ringEnableWrite (p : Nat) (tx rx : Bool) (s : State) : exec (.ringEnableWrite p tx rx) s = execRingEnableWrite p tx rx s := by rfl

/-- Two writes that take a direction's enable to 0 and then to 1 end its halt. -/
theorem ringEnableWrite_twice_ends_halt (hl : s.logicUp = true) (hp : p < 16) {d tx rx tx' rx' : Bool} (h0 : enableOf tx rx d = false)
    (h1 : enableOf tx' rx' d = true) :
    Gives (.ringEnableWrite p tx rx) s fun u => u.logicUp = true ∧
      Gives (.ringEnableWrite p tx' rx') u fun t => t.on (ringHaltBit d) (pairIx p) = false := by
  have hu : (s.ringEnables p tx rx).logicUp = true := (s.ringEnables_logicUp p tx rx).trans hl
  have hoff : (s.ringEnables p tx rx).on (ringEn d) (pairIx p) = false := (s.ringEnables_en hp tx rx d).trans h0
  exact .of_onLogicIf (exec_ringEnableWrite p tx rx s) hl (decide_eq_true hp)
    ⟨hu, .of_onLogicIf (exec_ringEnableWrite p tx' rx' _) hu (decide_eq_true hp) (State.ringEnables_ends_halt hp _ _ _ d hoff h1)⟩

/-- Settles O48: the halt of a direction, what the halt stops, and the two writes that end it. -/
theorem failedFetchHaltsItsDirection : Obligations.FailedFetchHaltsItsDirection := by
  refine ⟨fun s p hl hp he => ?_, fun s p hl hp he => ringHalt_halts true hl hp he, fun s it ds => iq0RxFrame_drops_of_halted it ds,
    fun s p a b hl hp => ringEnableWrite_twice_ends_halt (d := false) hl hp rfl rfl,
    fun s p a b hl hp => ringEnableWrite_twice_ends_halt (d := true) hl hp rfl rfl⟩
  obtain ⟨t, hx, hh, hr⟩ := ringHalt_halts false hl hp he
  exact ⟨t, hx, hh, hr, State.txServes_of_halted hh⟩

end Sys2Proof.Machine
end
